-- ==== Sys2Proof/Word.lean ====
section
/-! DEFINITION. The word types of the model and the sparse table that holds what is numbered. -/

namespace Sys2Proof

/-- One byte of memory, or of a message. -/
abbrev Byte := BitVec 8

/-- A run of bytes, the byte at the lowest address first (R5). -/
abbrev Bytes := List (BitVec 8)

/-- A table from numbers to values, strictly rising in its keys. A key that is not listed holds the
table's default, which each reader of the table names. -/
abbrev Tab (α : Type) := List (Nat × α)

end Sys2Proof
end

