-- ==== Sys2Proof/Syntax.lean ====
section
/-! DEFINITION. The commands of the module: one constructor of `Instr` for each row of the table of
steps, and the operand types they carry. -/

namespace Sys2Proof

/-- Form V of a vector instruction (Table 4.4), without its opcode, which the constructor names. -/
structure VForm where
  pg   : BitVec 3
  pn   : Bool
  d    : BitVec 5
  a    : BitVec 5
  b    : BitVec 5
  c    : BitVec 5
  ty   : BitVec 4
  rm   : BitVec 2
  bsel : BitVec 2
  lane : BitVec 6
  imm  : BitVec 18
deriving DecidableEq, Repr

/-- Form J of a vector instruction (Table 4.4), used by SMOVI, SMOVH and VMOVI. -/
structure JForm where
  pg  : BitVec 3
  pn  : Bool
  d   : BitVec 5
  imm : BitVec 32
deriving DecidableEq, Repr

/-- A 64-byte line with the state of its four 16-byte words: bit `m` of `psn` is set when word `m`
is poison (R214). -/
structure LineData where
  bits : BitVec 512
  psn  : BitVec 4
deriving DecidableEq, Repr

/-- One sample of the straps (R439). -/
structure Strap where
  slot : BitVec 6
  mgr  : Bool
deriving DecidableEq, Repr

/-- An upset of the array: the column sum of output (`n`, `b`) of the pass came out changed by `by`. -/
structure Upset where
  n     : Nat
  b     : Nat
  delta : Int
deriving DecidableEq, Repr

/-- How a host core reads (R178, R285). -/
inductive LoadKind where
  | load | lr
deriving DecidableEq, Repr

/-- How a host core writes: a store, a store conditional, or one of the RISC-V AMOs (R178, R285). -/
inductive StoreKind where
  | store | sc
  | amoSwap | amoAdd | amoXor | amoAnd | amoOr | amoMin | amoMax | amoMinu | amoMaxu
deriving DecidableEq, Repr

/-- A packet (Table 12.2): the header's fields, with its reserved bits from offset 0x08 up in `rsv`, and its payload: the
data of each code word and what its check bits differ by from the valid ones (R309). -/
structure Packet where
  ver     : BitVec 4
  op      : BitVec 4
  dst     : Nat
  src     : Nat
  seq     : Nat
  short   : Bool
  unnum   : Bool
  place   : Bool
  ptarget : Nat
  ackp    : Bool
  cisop   : BitVec 8
  addr    : Nat
  gen     : Nat
  tagx    : BitVec 32
  rsv     : BitVec 42
  hcrc    : BitVec 32
  words   : List (BitVec 128 × BitVec 16)
deriving DecidableEq, Repr

/-- What a HELLO message carries (Table 12.8): the capabilities are the feature level, the ports' states, the pair window
and the number of suites. The manual gives its fields and not its encoding. -/
structure HelloMsg where
  serial : Bytes
  key    : Bytes
  level  : Nat
  ports  : List Nat
  window : Nat
  suites : Nat
  num    : Nat
  time   : Nat
  nonce  : BitVec 128
  sig    : Bytes
deriving DecidableEq, Repr

/-- A HELLO as it arrives: its packet, and what it carries. -/
structure HelloPacket where
  pkt : Packet
  msg : HelloMsg
deriving DecidableEq, Repr

/-- A PTP measurement: the port it came on, its PTP domain, and PTP time less house time in ns (R328). -/
structure PtpSample where
  port   : Nat
  domain : Nat
  offset : Int
deriving DecidableEq, Repr

/-- One joining or leaving module of a MEMBER message (Table 12.8), with its ports' addresses. -/
structure MemberChange where
  num  : Nat
  key  : Bytes
  addrs : List Bytes
  join : Bool
deriving DecidableEq, Repr

/-- What the meters report of one 10 µs period (R329, R332): input voltage and current, the input power of the window and
its 100 ms average in mW, and the current of each rail in mA, by rail number (Table 13.1). -/
structure InputMeasure where
  mv    : Nat
  ma    : Nat
  mw    : Nat
  avgMw : Nat
  rails : List Nat
deriving DecidableEq, Repr

/-- What one job of a suite did in a step (R354, R356): its activity by class 1 to 15 (Table 13.8) as features, the Hearth's
row-cycles for it as the feature of class 16, its busy room cycles and the Hearth's, and the global wings that ran it. -/
structure JobShare where
  job    : BitVec 16
  suite  : Nat
  act    : List Nat
  hearth : Nat
  busy   : Nat
  idle   : Nat
  wings  : List Nat
deriving DecidableEq, Repr

/-- What the module measured over the step just ended (R329, R354): the meter energy in µJ, what each job did, and the
features of classes 1 to 24 that belong to no job. -/
structure StepMeasure where
  meter : Int
  jobs  : List JobShare
  house : List Nat
deriving DecidableEq, Repr

/-- An event record (Table 14.10) as it travels in an EVENT message. -/
structure EventRec where
  index  : Nat
  sub    : Nat
  cause  : Nat
  number : Nat
  value  : BitVec 64
  time   : Nat
  step   : Nat
deriving DecidableEq, Repr

/-- The path of a dictionary message (Table 14.4). -/
inductive Path where
  | field (node : Nat)
  | letterbox
  | gloing (module : Nat)
deriving DecidableEq, Repr

/-- One item of a READ or WRITE (Table 14.6), with its value as little-endian bytes. -/
structure DictItem where
  index : Nat
  sub   : Nat
  ity   : BitVec 8
  len   : Nat
  flags : BitVec 8
  value : Bytes
deriving DecidableEq, Repr

/-- A dictionary REQUEST (Tables 14.3 and 14.4): its path, the header fields an answer depends on,
whether its form is good (R366), its tag when it carries one (R370), and its items. -/
structure DictMsg where
  path    : Path
  ver     : BitVec 4
  kind    : BitVec 4
  formOk  : Bool
  seq     : Nat
  session : Nat
  target  : Nat
  reply   : Nat
  tag     : Bytes
  raw     : Bytes
  offset  : Nat
  items   : List DictItem
deriving DecidableEq, Repr

/-- A report to a Breaker (R415 to R419): its source, the access, and what its rule implicates. -/
structure Report where
  src      : BitVec 8
  master   : BitVec 16
  access   : BitVec 3
  inj      : Bool
  addr     : Option (BitVec 56)
  room     : Bool
  contexts : List Nat
  suites   : List Nat
deriving DecidableEq, Repr

/-- A PCIe error (R426). -/
inductive PcieErr where
  | correctable | nonFatal | fatal | poisonedTlp
deriving DecidableEq, Repr

/-- The commands: one constructor for each row of the table of steps. -/
inductive Instr where
  -- Power, pins and start-up (R391 to R400, R439 to R449)
  /-- POWER_ON: 50 V appears; `pwrEn` is the level of PWR_EN (R391, R442) -/
  | powerOn (pwrEn : Bool)
  /-- PRECHARGE_DONE: R442 -/
  | prechargeDone
  /-- PRECHARGE_RESTART: R442 -/
  | prechargeRestart
  /-- PWR_EN_ASSERT: PWR_EN held asserted for `us` microseconds (R440) -/
  | pwrEnAssert (us : Nat)
  /-- PWR_EN_DEASSERT: PWR_EN held deasserted for `us` microseconds (R440) -/
  | pwrEnDeassert (us : Nat)
  /-- UNDERVOLTAGE: R443 -/
  | undervoltage
  /-- OVERVOLTAGE: R443 -/
  | overvoltage
  /-- VOLTAGE_RETURN: R443 -/
  | voltageReturn
  /-- ROM_START: the strap samples of R439 -/
  | romStart (samples : List Strap)
  /-- DEED_READ: R393 -/
  | deedRead
  /-- IDENTITY_DERIVE: R394 -/
  | identityDerive
  /-- ROLE_RESOLVE: whether a PLCA beacon was heard while listening (R374) -/
  | roleResolve (beacon : Bool)
  /-- BOOT_REQUEST: R395 -/
  | bootRequest
  /-- BOOT_BLOCK: Table 15.3 -/
  | bootBlock (imageId : BitVec 64) (num : Nat) (count : Nat) (bytes : Bytes)
  /-- BOOT_TIMEOUT: R395 -/
  | bootTimeout
  /-- IMAGE_RETRY: R397 -/
  | imageRetry
  /-- FIRMWARE_START: R398 -/
  | firmwareStart
  /-- HOST_RELEASE: what the boot source delivered: the expansion ROM or the remote image (R400) -/
  | hostRelease (src : Option Bytes)
  /-- HOST_BOOT_RETRY: R400 -/
  | hostBootRetry (src : Option Bytes)
  /-- PERST_RELEASE: R449 -/
  | perstRelease
  /-- WATCHDOG_EXPIRY: R401 -/
  | watchdogExpiry
  /-- MODULE_RESET: R406 -/
  | moduleReset
  /-- DIE_RESET: R407 -/
  | dieReset (d : Nat)
  /-- DIE_DRAIN: R407 -/
  | dieDrain (d : Nat)
  /-- SUITE_RESET: R405 -/
  | suiteReset (s : Nat)
  /-- SUITE_DRAIN: R405 -/
  | suiteDrain (s : Nat)
  /-- DIE_REJOIN_START: R409 -/
  | dieRejoinStart (d : Nat)
  /-- DIE_REJOIN_DONE: `fails`: the rooms whose self-test failed (R409, R410) -/
  | dieRejoinDone (d : Nat) (fails : BitVec 64)
  /-- ROOM_RESET: R410 -/
  | roomReset (g : Nat)
  /-- ROOM_SELF_TEST_DONE: R410 -/
  | roomSelfTestDone (g : Nat) (pass : Bool)
  /-- CLOCK_LOSS: R25 -/
  | clockLoss (d : Nat)
  -- Suite layout and hallways (R11 to R25, R301 to R307)
  /-- LAYOUT_WRITE: R20, R21 -/
  | layoutWrite (v : Nat)
  /-- LAYOUT_CHANGE_DONE: R21 -/
  | layoutChangeDone
  /-- RING_HALL_TRAINING_LOSS: R15 -/
  | ringHallTrainingLoss (n : Nat)
  /-- RING_HALL_RETRAIN_DONE: R15 -/
  | ringHallRetrainDone (n : Nat)
  /-- RING_HALL_DOWN: R15 -/
  | ringHallDown (n : Nat)
  /-- HOST_HALL_TRAINING_LOSS: R302 -/
  | hostHallTrainingLoss (d : Nat)
  /-- HOST_HALL_RETRAIN_DONE: R302 -/
  | hostHallRetrainDone (d : Nat)
  /-- HALL_HEARTBEAT: R301 -/
  | hallHeartbeat
  /-- LINK_LOSS_DECLARE: CAUSE of Table 11.12 (R303) -/
  | linkLossDeclare (d : Nat) (cause : BitVec 2)
  /-- DIE_SELF_RESET_DONE: R304 -/
  | dieSelfResetDone (d : Nat)
  /-- LINK_RETURN: R304 -/
  | linkReturn (d : Nat)
  /-- STACK_ADOPT: R307 -/
  | stackAdopt (j : Nat)
  /-- LOG_CLEAR: R306 -/
  | logClear
  -- Register and host-core access (R7 to R9, R27 to R30, R285, R364)
  /-- REGISTER_WRITE: a write of `size` bytes to control space by `agent` -/
  | registerWrite (agent : BitVec 16) (pa : Nat) (size : Nat) (v : BitVec 64)
  /-- MIRROR_LOAD: R364 -/
  | mirrorLoad (pa : Nat)
  /-- MIRROR_STORE: R30 -/
  | mirrorStore (pa : Nat) (size : Nat) (v : BitVec 64)
  /-- MIRROR_TIMEOUT: R364 -/
  | mirrorTimeout (pa : Nat) (load : Bool)
  /-- HOST_CORE_LOAD: R285, R425 -/
  | hostCoreLoad (core : Nat) (kind : LoadKind) (pa : Nat) (size : Nat)
  /-- HOST_CORE_STORE: R285, R425 -/
  | hostCoreStore (core : Nat) (kind : StoreKind) (pa : Nat) (size : Nat) (v : BitVec 64)
  -- Work queues and dispatch (R126 to R161)
  /-- WQ_DOORBELL: R132, R133 -/
  | wqDoorbell (w : Nat) (q : Nat) (size : Nat) (v : BitVec 64)
  /-- CQ_DOORBELL: R132 -/
  | cqDoorbell (w : Nat) (q : Nat) (size : Nat) (v : BitVec 64)
  /-- QUEUE_ENABLE: R129 -/
  | queueEnable (w : Nat) (q : Nat)
  /-- QUEUE_DISABLE: R131 -/
  | queueDisable (w : Nat) (q : Nat)
  /-- QUEUE_RESET: R131 -/
  | queueReset (w : Nat) (q : Nat)
  /-- QUEUE_RESUME: R156 -/
  | queueResume (w : Nat) (q : Nat)
  /-- QUEUE_ORDER_WRITE: R130 -/
  | queueOrderWrite (w : Nat) (q : Nat) (compat : Bool)
  /-- COMMAND_FETCH: R142 -/
  | commandFetch (w : Nat)
  /-- COMMAND_ISSUE: R143 -/
  | commandIssue (w : Nat) (q : Nat)
  /-- NOP: R136 -/
  | nop (w : Nat) (q : Nat)
  -- The room array (R64 to R92)
  /-- LOAD_STATIONARY: R69 -/
  | loadStationary (g : Nat)
  /-- LOAD_COMPLETE: R69 -/
  | loadComplete (g : Nat)
  /-- MATMUL: R70 -/
  | matmul (g : Nat)
  /-- STREAM_DATA_ARRIVAL: R79 -/
  | streamDataArrival (g : Nat)
  /-- PASS_VERDICT: the upsets that corrupted column sums of this execution (R84) -/
  | passVerdict (g : Nat) (hits : List Upset)
  /-- PASS_COMMIT: R67 -/
  | passCommit (g : Nat)
  /-- DRAIN: R71 -/
  | drain (g : Nat)
  /-- DRAIN_GROUP_WRITTEN: R90 -/
  | drainGroupWritten (g : Nat)
  /-- TIER_DEADLINE_EXPIRY: engine queue `e` of room `g`: 0 matrix, 2 copy (R80) -/
  | tierDeadlineExpiry (g : Nat) (e : Nat)
  -- The vector engine (R93 to R125)
  /-- VECTOR: R96 -/
  | vector (g : Nat)
  /-- NOP_INSTRUCTION -/
  | vnop (g : Nat) (f : VForm)
  /-- HALT -/
  | halt (g : Nat) (f : VForm)
  /-- MARK -/
  | mark (g : Nat) (f : VForm)
  /-- LOOP -/
  | loop (g : Nat) (f : VForm)
  /-- BR -/
  | br (g : Nat) (f : VForm)
  /-- VFENCE -/
  | vfence (g : Nat) (f : VForm)
  /-- RDFLG -/
  | rdflg (g : Nat) (f : VForm)
  /-- CLRFLG -/
  | clrflg (g : Nat) (f : VForm)
  /-- SADD -/
  | sadd (g : Nat) (f : VForm)
  /-- SSUB -/
  | ssub (g : Nat) (f : VForm)
  /-- SADDI -/
  | saddi (g : Nat) (f : VForm)
  /-- SMUL -/
  | smul (g : Nat) (f : VForm)
  /-- SAND -/
  | sand (g : Nat) (f : VForm)
  /-- SOR -/
  | sor (g : Nat) (f : VForm)
  /-- SXOR -/
  | sxor (g : Nat) (f : VForm)
  /-- SSH -/
  | ssh (g : Nat) (f : VForm)
  /-- SMOVI -/
  | smovi (g : Nat) (f : JForm)
  /-- SMOVH -/
  | smovh (g : Nat) (f : JForm)
  /-- VMOVI -/
  | vmovi (g : Nat) (f : JForm)
  /-- SLDL -/
  | sldl (g : Nat) (f : VForm)
  /-- SSTL -/
  | sstl (g : Nat) (f : VForm)
  /-- FADD -/
  | fadd (g : Nat) (f : VForm)
  /-- FSUB -/
  | fsub (g : Nat) (f : VForm)
  /-- FMUL -/
  | fmul (g : Nat) (f : VForm)
  /-- FMA -/
  | fma (g : Nat) (f : VForm)
  /-- FMS -/
  | fms (g : Nat) (f : VForm)
  /-- FNMA -/
  | fnma (g : Nat) (f : VForm)
  /-- FMIN -/
  | fmin (g : Nat) (f : VForm)
  /-- FMAX -/
  | fmax (g : Nat) (f : VForm)
  /-- FCMP -/
  | fcmp (g : Nat) (f : VForm)
  /-- SEL -/
  | sel (g : Nat) (f : VForm)
  /-- FABS -/
  | fabs (g : Nat) (f : VForm)
  /-- FNEG -/
  | fneg (g : Nat) (f : VForm)
  /-- CVT -/
  | cvt (g : Nat) (f : VForm)
  /-- FCVTI -/
  | fcvti (g : Nat) (f : VForm)
  /-- ICVTF -/
  | icvtf (g : Nat) (f : VForm)
  /-- IADD -/
  | iadd (g : Nat) (f : VForm)
  /-- ISUB -/
  | isub (g : Nat) (f : VForm)
  /-- AND -/
  | vand (g : Nat) (f : VForm)
  /-- OR -/
  | vor (g : Nat) (f : VForm)
  /-- XOR -/
  | vxor (g : Nat) (f : VForm)
  /-- SHL -/
  | shl (g : Nat) (f : VForm)
  /-- SHR -/
  | shr (g : Nat) (f : VForm)
  /-- SRA -/
  | sra (g : Nat) (f : VForm)
  /-- ICMP -/
  | icmp (g : Nat) (f : VForm)
  /-- VSPLAT -/
  | vsplat (g : Nat) (f : VForm)
  /-- VEXT -/
  | vext (g : Nat) (f : VForm)
  /-- VINS -/
  | vins (g : Nat) (f : VForm)
  /-- VPERM -/
  | vperm (g : Nat) (f : VForm)
  /-- PAND -/
  | pand (g : Nat) (f : VForm)
  /-- POR -/
  | por (g : Nat) (f : VForm)
  /-- PXOR -/
  | pxor (g : Nat) (f : VForm)
  /-- PNOT -/
  | pnot (g : Nat) (f : VForm)
  /-- PFIRST -/
  | pfirst (g : Nat) (f : VForm)
  /-- PCNT -/
  | pcnt (g : Nat) (f : VForm)
  /-- EXP2 -/
  | exp2 (g : Nat) (f : VForm)
  /-- LOG2 -/
  | log2 (g : Nat) (f : VForm)
  /-- RCP -/
  | rcp (g : Nat) (f : VForm)
  /-- RSQRT -/
  | rsqrt (g : Nat) (f : VForm)
  /-- RSUM -/
  | rsum (g : Nat) (f : VForm)
  /-- RMIN -/
  | rmin (g : Nat) (f : VForm)
  /-- RMAX -/
  | rmax (g : Nat) (f : VForm)
  /-- VSUMX -/
  | vsumx (g : Nat) (f : VForm)
  /-- XCVT -/
  | xcvt (g : Nat) (f : VForm)
  /-- LDL -/
  | ldl (g : Nat) (f : VForm)
  /-- STL -/
  | stl (g : Nat) (f : VForm)
  /-- LDM -/
  | ldm (g : Nat) (f : VForm)
  /-- LOAD_DATA_RETURN: R124 -/
  | loadDataReturn (g : Nat)
  /-- STM -/
  | stm (g : Nat) (f : VForm)
  /-- RECV -/
  | recv (g : Nat) (f : VForm)
  -- Copy, tier and dispatcher commands (R141, R149 to R161, R258, R259, R282)
  /-- COPY: R141 -/
  | copy (g : Nat)
  /-- WRITE_REDUCE: R141 -/
  | writeReduce (g : Nat)
  /-- TIER_PREFETCH: R258 -/
  | tierPrefetch (g : Nat)
  /-- TIER_RELEASE: R259 -/
  | tierRelease (g : Nat)
  /-- TIER_RELEASE_TILE_DONE: R259 -/
  | tierReleaseTileDone (g : Nat)
  /-- LATCH_WAIT: R149 -/
  | latchWait (w : Nat) (q : Nat)
  /-- LATCH_WAIT_SATISFIED: R149 -/
  | latchWaitSatisfied (w : Nat) (q : Nat)
  /-- LATCH_SIGNAL: R150 -/
  | latchSignal (w : Nat) (q : Nat)
  /-- LATCH_SIGNAL_PERFORM: R150 -/
  | latchSignalPerform (w : Nat) (q : Nat)
  /-- FENCE: R151 -/
  | fence (w : Nat) (q : Nat)
  /-- FENCE_COMPLETE: R151 -/
  | fenceComplete (w : Nat) (q : Nat)
  /-- ABORT: R159 -/
  | abort (w : Nat) (q : Nat)
  /-- TRANSLATION_INVALIDATE: R282 -/
  | translationInvalidate (w : Nat) (q : Nat)
  /-- INVALIDATE_COMMIT: R282 -/
  | invalidateCommit (w : Nat) (q : Nat)
  /-- COMPLETION_RECORD_WRITE: R154 -/
  | completionRecordWrite (w : Nat) (q : Nat) (tag : BitVec 16)
  /-- LATCH_SET_WRITE: R147 -/
  | latchSetWrite (w : Nat) (l : Nat) (size : Nat) (v : BitVec 64)
  /-- LATCH_ADD_WRITE: R147 -/
  | latchAddWrite (w : Nat) (l : Nat) (size : Nat) (v : BitVec 64)
  -- Reduce lines, wing caches and the directory (R179, R187 to R205)
  /-- REDUCE_LINE_WRITEBACK: holder 0-31: wing cache; 32-35: die fabric (R179) -/
  | reduceLineWriteback (holder : Nat) (line : Nat)
  /-- REDUCE_LINE_TIMEOUT: R179 -/
  | reduceLineTimeout (holder : Nat) (line : Nat)
  /-- WCCFG_WRITE: R192 -/
  | wccfgWrite (w : Nat) (v : BitVec 64)
  /-- CLEAN: R191 -/
  | clean (w : Nat)
  /-- FLUSH: R191 -/
  | flush (w : Nat)
  /-- FLUSH_ALL: R191 -/
  | flushAll (w : Nat)
  /-- WCOP_DONE: R191 -/
  | wcopDone (w : Nat)
  /-- WAY_REENABLE: R193 -/
  | wayReenable (w : Nat) (mask : BitVec 16)
  /-- WCLAND_READ: R191 -/
  | wclandRead (w : Nat)
  /-- TRACKER_TIMEOUT: tracker `k` of room `g`: 0 array, 1 vector, 2 copy (R194) -/
  | trackerTimeout (g : Nat) (k : Nat)
  /-- LANDING_WB_SEND: R195 -/
  | landingWbSend (w : Nat)
  /-- HOLD_EXPIRY: R205 -/
  | holdExpiry (a : Nat) (line : Nat)
  /-- RDS: R201 -/
  | rds (a : Nat) (line : Nat)
  /-- RDX: R201 -/
  | rdx (a : Nat) (line : Nat)
  /-- UPG: R201 -/
  | upg (a : Nat) (line : Nat)
  /-- WRO: R201 -/
  | wro (a : Nat) (line : Nat)
  /-- RDO: R201 -/
  | rdo (src : BitVec 16) (line : Nat)
  /-- WRF: R201, R204 -/
  | wrf (src : BitVec 16) (line : Nat) (l : LineData) (place : Option Nat)
  /-- WRP: byte mask (R175, R201) -/
  | wrp (src : BitVec 16) (line : Nat) (mask : BitVec 64) (l : LineData)
  /-- WB: R201 -/
  | wb (a : Nat) (line : Nat) (l : LineData)
  /-- RED: R227 -/
  | red (src : BitVec 16) (pa : Nat) (op : BitVec 8) (x : BitVec 128) (psn : Bool)
  /-- SNPS: R201 -/
  | snps (a : Nat) (line : Nat)
  /-- SNPI: R201 -/
  | snpi (a : Nat) (line : Nat)
  /-- PUSH: R204 -/
  | push (a : Nat) (line : Nat) (l : LineData)
  /-- ACK: R201 -/
  | ack (a : Nat) (line : Nat)
  /-- ACKD: R201 -/
  | ackd (a : Nat) (line : Nat) (l : LineData)
  /-- NH: R198 -/
  | nh (a : Nat) (line : Nat)
  /-- NHW: R196 -/
  | nhw (a : Nat) (line : Nat)
  /-- GNTS: R201 -/
  | gnts (a : Nat) (line : Nat) (l : LineData)
  /-- GNTE: R201 -/
  | gnte (a : Nat) (line : Nat) (l : LineData)
  /-- GNTM: R201 -/
  | gntm (a : Nat) (line : Nat) (l : LineData)
  /-- GNTO: R201 -/
  | gnto (a : Nat) (line : Nat)
  /-- DATA: R201 -/
  | data (src : BitVec 16) (line : Nat) (l : LineData)
  /-- CMP: R203 -/
  | cmp (src : BitVec 16) (line : Nat)
  /-- LANDING_ACK_RECEIVE: R195 -/
  | landingAckReceive (a : Nat) (line : Nat)
  -- Stacks and the Cistern (R206 to R235)
  /-- ROW_CLOSE: R208 -/
  | rowClose (j : Nat) (ch : Nat) (bank : Nat)
  /-- PATROL_SCRUB_READ: R218 -/
  | patrolScrubRead (j : Nat)
  /-- ZERO_SCRUB_START: R219 -/
  | zeroScrubStart (j : Nat)
  /-- ZERO_SCRUB_DONE: R219 -/
  | zeroScrubDone (j : Nat)
  /-- STACK_TEMP_SAMPLE: R220 -/
  | stackTempSample (j : Nat) (t : Nat)
  /-- PER_BANK_REFRESH: R221 -/
  | perBankRefresh (j : Nat) (ch : Nat) (bank : Nat)
  /-- STACK_CRITICAL_TIMEOUT: R347 -/
  | stackCriticalTimeout (j : Nat)
  /-- SCERR_READ: R224 -/
  | scerrRead (j : Nat)
  /-- MERGE_BUFFER_FLUSH: R231 -/
  | mergeBufferFlush (j : Nat) (line : Nat)
  /-- ADD_I32 -/
  | addI32 (src : BitVec 16) (pa : Nat) (x : BitVec 128) (psn : Bool)
  /-- ADD_I64 -/
  | addI64 (src : BitVec 16) (pa : Nat) (x : BitVec 128) (psn : Bool)
  /-- MIN_S32 -/
  | minS32 (src : BitVec 16) (pa : Nat) (x : BitVec 128) (psn : Bool)
  /-- MIN_S64 -/
  | minS64 (src : BitVec 16) (pa : Nat) (x : BitVec 128) (psn : Bool)
  /-- MAX_S32 -/
  | maxS32 (src : BitVec 16) (pa : Nat) (x : BitVec 128) (psn : Bool)
  /-- MAX_S64 -/
  | maxS64 (src : BitVec 16) (pa : Nat) (x : BitVec 128) (psn : Bool)
  /-- MIN_U32 -/
  | minU32 (src : BitVec 16) (pa : Nat) (x : BitVec 128) (psn : Bool)
  /-- MIN_U64 -/
  | minU64 (src : BitVec 16) (pa : Nat) (x : BitVec 128) (psn : Bool)
  /-- MAX_U32 -/
  | maxU32 (src : BitVec 16) (pa : Nat) (x : BitVec 128) (psn : Bool)
  /-- MAX_U64 -/
  | maxU64 (src : BitVec 16) (pa : Nat) (x : BitVec 128) (psn : Bool)
  /-- CIS_AND -/
  | cisAnd (src : BitVec 16) (pa : Nat) (x : BitVec 128) (psn : Bool)
  /-- CIS_OR -/
  | cisOr (src : BitVec 16) (pa : Nat) (x : BitVec 128) (psn : Bool)
  /-- CIS_XOR -/
  | cisXor (src : BitVec 16) (pa : Nat) (x : BitVec 128) (psn : Bool)
  /-- CAS_32 -/
  | cas32 (src : BitVec 16) (pa : Nat) (x : BitVec 128) (psn : Bool)
  /-- CAS_64 -/
  | cas64 (src : BitVec 16) (pa : Nat) (x : BitVec 128) (psn : Bool)
  /-- ADD_F32 -/
  | addF32 (src : BitVec 16) (pa : Nat) (x : BitVec 128) (psn : Bool)
  /-- ADD_BF16 -/
  | addBf16 (src : BitVec 16) (pa : Nat) (x : BitVec 128) (psn : Bool)
  /-- ADD_XP -/
  | addXp (src : BitVec 16) (pa : Nat) (x : BitVec 128) (psn : Bool)
  /-- READ_MAP: R226 -/
  | readMap
  /-- SPARE_ROW: R225 -/
  | spareRow
  /-- SPARE_COL: R225 -/
  | spareCol
  /-- SOFT_PPR: R225 -/
  | softPpr
  /-- HARD_PPR: R225 -/
  | hardPpr
  /-- REPAIR_DONE: R436 -/
  | repairDone (ok : Bool)
  -- The tier range (R236 to R264)
  /-- TIER_ENABLE: R242 -/
  | tierEnable
  /-- TIER_ENABLE_DONE: R244 -/
  | tierEnableDone
  /-- TIER_DISABLE: R263 -/
  | tierDisable
  /-- TIER_DISABLE_DONE: R263 -/
  | tierDisableDone
  /-- FILL_COMPLETE: `bad`: quarters whose LDPC decoding failed (R250) -/
  | fillComplete (t : Nat) (bad : BitVec 4)
  /-- VICTIM_SELECT: R253 -/
  | victimSelect
  /-- EVICTION_COMPLETE: R254 -/
  | evictionComplete (t : Nat)
  /-- AGE_TICK: R252 -/
  | ageTick
  /-- CONTEXT_PIN_CLEAR: R255 -/
  | contextPinClear (c : Nat)
  /-- CELLAR_SPARES_EXHAUSTED: R262 -/
  | cellarSparesExhausted
  -- Contexts and translation (R265 to R283)
  /-- CONTEXT_ACTIVATE: R269 -/
  | contextActivate (c : Nat)
  /-- CONTEXT_KILL: R269 -/
  | contextKill (c : Nat)
  /-- CONTEXT_FREE: R269 -/
  | contextFree (c : Nat)
  /-- WALK_COMPLETE: the walk of die `d` for 4 KiB page `page` of context `c` (R275) -/
  | walkComplete (d : Nat) (c : Nat) (page : Nat)
  /-- FAULT_BUFFER_DRAIN: R279 -/
  | faultBufferDrain (s : Nat)
  /-- FAULT_RING_ENABLE: R279 -/
  | faultRingEnable (s : Nat)
  /-- RESUME: R280 -/
  | resume (s : Nat) (fid : BitVec 32)
  /-- CANCEL: R280 -/
  | cancel (s : Nat) (fid : BitVec 32)
  /-- SFENCE_VMA_BROADCAST: rs1, or none for x0 (R283) -/
  | sfenceVma (va : Option Nat)
  /-- SINVAL_VMA_BROADCAST: R283 -/
  | sinvalVma (va : Option Nat)
  -- Hatches, letterboxes and PCIe (R286 to R300, R426)
  /-- HATCH_ENABLE: R287 -/
  | hatchEnable (h : Nat)
  /-- HATCH_DISABLE: R287 -/
  | hatchDisable (h : Nat)
  /-- HATCH_RESET: R287 -/
  | hatchReset (h : Nat)
  /-- HATCH_RESUME: R287 -/
  | hatchResume (h : Nat)
  /-- HATCH_DOORBELL: R287 -/
  | hatchDoorbell (h : Nat) (v : BitVec 64)
  /-- HATCH_NOP: R288 -/
  | hatchNop (h : Nat)
  /-- HATCH_COPY: R289 -/
  | hatchCopy (h : Nat)
  /-- HATCH_REDUCE: R289 -/
  | hatchReduce (h : Nat)
  /-- HATCH_COMPLETION: R289 -/
  | hatchCompletion (h : Nat)
  /-- LOCK_READ: R296 -/
  | lockRead (m : Nat) (agent : BitVec 16)
  /-- LOCK_WRITE: R296 -/
  | lockWrite (m : Nat) (agent : BitVec 16)
  /-- GO: R297 -/
  | go (m : Nat) (agent : BitVec 16)
  /-- TAKE: R298 -/
  | take (m : Nat)
  /-- BREAK: R299 -/
  | brk (m : Nat) (agent : BitVec 16)
  /-- DOMAIN_WAKE_DONE: R297 -/
  | domainWakeDone (dom : Nat)
  /-- PCIE_INBOUND_READ: R186 -/
  | pcieInboundRead (pa : Nat) (len : Nat) (noSnoop : Bool)
  /-- PCIE_INBOUND_WRITE: R186, R204, R426 -/
  | pcieInboundWrite (pa : Nat) (bytes : Bytes) (ep : Bool) (tph : Option Nat)
  /-- PCIE_ERROR: R426 -/
  | pcieError (kind : PcieErr)
  -- The Gloing fabric (R308 to R328)
  /-- PORT_MODE_WRITE: R310 -/
  | portModeWrite (p : Nat) (v : Nat)
  /-- AUTO_MODE_SWITCH: R310 -/
  | autoModeSwitch (p : Nat)
  /-- PORT_UP: R310 -/
  | portUp (p : Nat)
  /-- LANE_LOCK_LOSS: R321 -/
  | laneLockLoss (p : Nat)
  /-- WRITE_PACKET: R314 -/
  | writePacket (p : Nat) (k : Packet)
  /-- READ_PACKET: R314 -/
  | readPacket (p : Nat) (k : Packet)
  /-- READ_RESPONSE: R314 -/
  | readResponse (p : Nat) (k : Packet)
  /-- WRITE_REDUCE_PACKET: R314 -/
  | writeReducePacket (p : Nat) (k : Packet)
  /-- SIGNAL_PACKET: R314 -/
  | signalPacket (p : Nat) (k : Packet)
  /-- ATOMIC_PACKET: R314 -/
  | atomicPacket (p : Nat) (k : Packet)
  /-- ATOMIC_RESPONSE: R317 -/
  | atomicResponse (p : Nat) (k : Packet)
  /-- MANAGEMENT_PACKET: R314 -/
  | managementPacket (p : Nat) (k : Packet)
  /-- ACK_PACKET: `ce`: the frame carried a congestion mark (R320) -/
  | ackPacket (p : Nat) (k : Packet) (ce : Bool)
  /-- NAK_PACKET: R320 -/
  | nakPacket (p : Nat) (k : Packet)
  /-- HELLO: R324 -/
  | hello (p : Nat) (k : HelloPacket)
  /-- REMOTE_OP_ISSUE: R319 -/
  | remoteOpIssue (m : Nat)
  /-- ACK_SEND: R319 -/
  | ackSend (m : Nat)
  /-- RETRANSMIT_TIMEOUT: R320 -/
  | retransmitTimeout (m : Nat) (seq : Nat)
  /-- PAIR_PROGRESS_TIMEOUT: R320 -/
  | pairProgressTimeout (m : Nat)
  /-- WINDOW_RESTORE: R320 -/
  | windowRestore (m : Nat)
  /-- PAIR_REESTABLISH: R320 -/
  | pairReestablish (m : Nat)
  /-- PAIR_OPEN: R327 -/
  | pairOpen (m : Nat) (keyHash : Bytes) (gen : Nat) (nonce : BitVec 128) (sig : Bytes)
  /-- PAIR_ACCEPT: R327 -/
  | pairAccept (m : Nat) (gen : Nat) (nonces : Bytes) (sig : Bytes)
  /-- ATOMIC_GO: R317 -/
  | atomicGo (k : Nat)
  /-- HOST_REMOTE_LOAD: R316 -/
  | hostRemoteLoad (core : Nat) (pa : Nat) (size : Nat)
  /-- HOST_REMOTE_STORE: R316 -/
  | hostRemoteStore (core : Nat) (pa : Nat) (size : Nat) (v : BitVec 64)
  /-- LLDP_TRANSMIT: R323 -/
  | lldpTransmit (p : Nat)
  /-- LLDP_RECEIVE: R323 -/
  | lldpReceive (p : Nat) (nb : Bytes)
  /-- HELLO_TRANSMIT: R324 -/
  | helloTransmit
  /-- ASSIGN: R325 -/
  | assign (num : Nat) (epoch : Nat) (nonce : BitVec 128) (time : Nat) (sig : Bytes)
  /-- MEMBER: R325 -/
  | member (epoch : Nat) (changes : List MemberChange) (time : Nat) (sig : Bytes)
  /-- PTP_MESSAGE: PTP time less house time, in ns (R328) -/
  | ptpMessage (m : PtpSample) (locked : Bool)
  -- Power, thermal, Hearth and the ledger (R329 to R359, R441)
  /-- THERMOSTAT_PERIOD: R332 -/
  | thermostatPeriod (m : InputMeasure)
  /-- THERMOSTAT_UNDO: R332 -/
  | thermostatUndo (m : InputMeasure)
  /-- THERMOSTAT_MISS: R333 -/
  | thermostatMiss
  /-- DROOP_DETECT: the reading of the sensor (R334) -/
  | droopDetect (w : Nat) (mv : Nat)
  /-- DROOP_END: R334 -/
  | droopEnd (w : Nat)
  /-- STEP_BOUNDARY: what the module measured over the step just ended (R383) -/
  | stepBoundary (m : StepMeasure)
  /-- STEP_SYNC_PULSE: house time of the edge, and how long it stayed high, in ns (R381) -/
  | stepSyncPulse (t : Nat) (high : Nat)
  /-- STEP_LENGTH_WRITE: R384 -/
  | stepLengthWrite (v : Nat)
  /-- HCORE_FREQ_REQUEST: R340 -/
  | hcoreFreqRequest (c : Nat) (mhz : Nat)
  /-- HCORE_GRANT_APPLY: R340 -/
  | hcoreGrantApply (c : Nat)
  /-- FREQ_SET: `src`: 0xFFFE the node's own manager role, 0xFFFF its manager, else a module number (R342, R377) -/
  | freqSet (src : Nat) (job : Nat) (mhz : Nat) (b : Nat)
  /-- LAGGARD: R343, R377 -/
  | laggard (job : Nat) (causes : BitVec 3) (mhz : Nat) (step : Nat) (serial : Bytes)
  /-- LAGGARD_CLEAR: R344 -/
  | laggardClear (job : Nat) (step : Nat) (serial : Bytes)
  /-- FREQ_LATE: R342 -/
  | freqLate (job : Nat) (step : Nat) (serial : Bytes)
  /-- DIE_TEMP_SAMPLE: die 4 is the host die (R345) -/
  | dieTempSample (d : Nat) (t : Nat)
  /-- DIE_CRITICAL_TIMEOUT: R345 -/
  | dieCriticalTimeout (d : Nat)
  /-- HEARTH_TICK: input current over the last 1 ms and now, in mA (R350) -/
  | hearthTick (avg : Nat) (now : Nat)
  /-- HEARTH_RAMP: R352 -/
  | hearthRamp
  /-- HEARTH_TIMEOUT: R352 -/
  | hearthTimeout
  /-- HEARTH_DISABLE: R352 -/
  | hearthDisable
  /-- WING_IDLE_TIMEOUT: R353 -/
  | wingIdleTimeout (w : Nat)
  /-- WING_WAKE: R353 -/
  | wingWake (w : Nat)
  /-- WING_WAKE_DONE: R134 -/
  | wingWakeDone (w : Nat)
  /-- WAKE_ASSERT: R441 -/
  | wakeAssert
  /-- LEDGER_RECORD_WRITE: R357 -/
  | ledgerRecordWrite
  /-- SLOT_FREE: R358 -/
  | slotFree (i : Nat)
  -- The dictionary, the field network and mode epochs (R360 to R389)
  /-- READ -/
  | read (m : DictMsg)
  /-- WRITE -/
  | write (m : DictMsg)
  /-- READ_SEG -/
  | readSeg (m : DictMsg)
  /-- WRITE_SEG -/
  | writeSeg (m : DictMsg)
  /-- EVENT: from worker node `src` (R378) -/
  | event (src : Nat) (rec : EventRec)
  /-- HEARTBEAT: Table 14.9 (R375) -/
  | heartbeat (role : Nat) (node : Nat) (step : Nat) (serial : Bytes)
  /-- HEARTBEAT_TRANSMIT: R375 -/
  | heartbeatTransmit
  /-- NODE_LOST_TIMEOUT: R375 -/
  | nodeLostTimeout (n : Nat)
  /-- MANAGER_LOST_TIMEOUT: R375 -/
  | managerLostTimeout
  /-- PLCA_BEACON_TIMEOUT: R374 -/
  | plcaBeaconTimeout
  /-- REQUEST_RETRY: R371 -/
  | requestRetry (seq : Nat)
  /-- RELAY_RETRY: R376 -/
  | relayRetry (seq : Nat)
  /-- REPLY_LOCK_RETRY: R372 -/
  | replyLockRetry
  /-- STAGE: R386 -/
  | stage (s : Nat) (e : Nat)
  /-- EPOCH_ACK: unit 0-31: dispatcher of a global wing; 32-287: global room (R386) -/
  | epochAck (s : Nat) (unit : Nat)
  /-- COMMIT: R387 -/
  | commit (s : Nat) (v : BitVec 64)
  /-- EPOCH_CANCEL: R386 -/
  | epochCancel (s : Nat) (v : Nat)
  -- Identity and sessions (R403, R404)
  /-- SPDM_REQUEST: R403 -/
  | spdmRequest (code : BitVec 8) (param1 : BitVec 8) (body : Bytes)
  /-- SESSION_OPEN: R404 -/
  | sessionOpen (path : Path) (key : Bytes) (eph : Bytes) (nonce : Bytes)
  /-- SESSION_FINISH: R404 -/
  | sessionFinish (n : Nat) (sig : Bytes)
  /-- SESSION_CLOSE: R404 -/
  | sessionClose (n : Nat)
  /-- SESSION_TIMEOUT: R404 -/
  | sessionTimeout (n : Nat)
  -- The Breaker (R413 to R424)
  /-- BREAKER_REPORT: R415 -/
  | breakerReport (b : Nat) (r : Report)
  /-- BSTAT_CLEAR: R421 -/
  | bstatClear (b : Nat) (mask : BitVec 5)
  /-- BDROP_READ: R419 -/
  | bdropRead (b : Nat)
  /-- INJCTL_WRITE: R423 -/
  | injctlWrite (b : Nat) (k : Nat) (v : BitVec 64)
  /-- C4_RECORD_CLEAR: R422 -/
  | c4RecordClear
  -- Test access (R429 to R436)
  /-- TEST_STATE_REQUEST: R430 -/
  | testStateRequest (path : Path) (session : Nat)
  /-- BYPASS: R429 -/
  | tapBypass
  /-- IDCODE: R429 -/
  | tapIdcode
  /-- SAMPLE_PRELOAD: R429 -/
  | tapSample
  /-- EXTEST: R429 -/
  | tapExtest
  /-- CLAMP: R429 -/
  | tapClamp
  /-- HIGHZ: R429 -/
  | tapHighz
  /-- DIESEL: R429 -/
  | tapDiesel (v : BitVec 8)
  /-- WSP: R429 -/
  | tapWsp
  /-- DWR: R429 -/
  | tapDwr
  /-- INTERCONNECT_TEST_GO: R433 -/
  | interconnectTestGo
  /-- INTERCONNECT_TEST_DONE: error count of each wire in the order of R434 -/
  | interconnectTestDone (errs : List Nat)
  -- The rest of the table
  /-- POWER_OFF: R443 -/
  | powerOff
  /-- PRECHARGE_STOP: R442 -/
  | prechargeStop
  /-- WAKE_DEASSERT: R441 -/
  | wakeDeassert
  /-- TEST_LOGIC_RESET: R429 -/
  | tapReset
  /-- RESPONSE: R366, R371, R376 -/
  | response (seq : Nat) (node : Nat) (status : Nat) (body : Bytes)
  /-- PLCA_BEACON_RECEIVE: R374 -/
  | plcaBeaconReceive
  /-- RING_HALL_UP: R15 -/
  | ringHallUp (n : Nat)
deriving DecidableEq, Repr

end Sys2Proof
end

