-- ==== Sys2Proof/Machine/Tab.lean ====
section
/-! DEFINITION. Sparse tables in canonical form, bit fields, and little-endian bytes (R5). -/

namespace Sys2Proof.Machine

variable {α : Type}

/-- The value of key `k`, or `d` where the table does not list it. -/
def tget (d : α) : Tab α → Nat → α
  | [], _ => d
  | (k', v) :: t, k => if k' = k then v else tget d t k

/-- The table without key `k`. -/
def tdel (t : Tab α) (k : Nat) : Tab α := t.filter fun e => e.1 ≠ k

/-- The table with `(k, v)` placed before the first greater key. -/
def tins (k : Nat) (v : α) : Tab α → Tab α
  | [] => [(k, v)]
  | (k', v') :: t => if k < k' then (k, v) :: (k', v') :: t else (k', v') :: tins k v t

/-- The table with key `k` holding `v`. -/
def tset (k : Nat) (v : α) (t : Tab α) : Tab α := tins k v (tdel t k)

/-- The table with key `k` holding `v`, where `d` is what an unlisted key holds: writing `d` removes
the entry. -/
def tput [DecidableEq α] (d : α) (k : Nat) (v : α) (t : Tab α) : Tab α :=
  if v = d then tdel t k else tset k v t

/-- The keys rise strictly. -/
def tsorted : Tab α → Bool
  | [] => true
  | [_] => true
  | (k, _) :: (k', v') :: t => decide (k < k') && tsorted ((k', v') :: t)

/-- The canonical form: strictly rising keys and no entry equal to what an unlisted key holds. -/
def twf [DecidableEq α] (d : α) (t : Tab α) : Bool :=
  tsorted t && t.all fun e => decide (e.2 ≠ d)

/-! ### Numbers -/

/-- Bits [hi:lo] of a number. -/
def fld (x hi lo : Nat) : Nat := x / 2 ^ lo % 2 ^ (hi + 1 - lo)

/-- Bit `i` of a number. -/
def bitOf (x i : Nat) : Bool := x / 2 ^ i % 2 = 1

/-- A truth value as a bit. -/
def b2n (b : Bool) : Nat := if b then 1 else 0

/-- The number of `n` bits seen as two's complement. -/
def toSigned (n x : Nat) : Int :=
  if x % 2 ^ n < 2 ^ (n - 1) then (x % 2 ^ n : Nat) else (x % 2 ^ n : Nat) - (2 ^ n : Nat)

/-- The two's complement of `n` bits of an integer. -/
def ofSigned (n : Nat) (x : Int) : Nat := (x % (2 ^ n : Nat)).toNat

/-- Bits [hi:lo] of `x` replaced by `v`. -/
def putFld (x hi lo v : Nat) : Nat :=
  x - fld x hi lo * 2 ^ lo + v % 2 ^ (hi + 1 - lo) * 2 ^ lo

/-- The number of one bits among the first `n`. -/
def popCount : Nat → Nat → Nat
  | 0, _ => 0
  | n + 1, x => b2n (bitOf x n) + popCount n x

/-- The numbers below `n` whose bit is set in `x`, rising. -/
def bitsOf (n x : Nat) : List Nat := (List.range n).filter fun i => bitOf x i

/-- The number with exactly the listed bits set. -/
def maskOf (l : List Nat) : Nat := l.foldl (fun m i => m ||| 2 ^ i) 0

/-- A count held in `n` bits that stops at its greatest value. -/
def satInc (n x by_ : Nat) : Nat := min (2 ^ n - 1) (x + by_)

/-! ### Bytes, little-endian (R5) -/

/-- The `n` bytes of a number, lowest first. -/
def toBytes : Nat → Nat → Bytes
  | 0, _ => []
  | n + 1, x => BitVec.ofNat 8 x :: toBytes n (x / 256)

/-- The number whose bytes are given, lowest first. -/
def ofBytes : Bytes → Nat
  | [] => 0
  | b :: t => b.toNat + 256 * ofBytes t

/-- The list cut or filled with zeros to `n` bytes. -/
def padTo (n : Nat) (l : Bytes) : Bytes := (l ++ List.replicate n 0#8).take n

/-- The bytes cut into runs of `n`. -/
def chunks (n : Nat) : Nat → List α → List (List α)
  | 0, _ => []
  | f + 1, l => if l.isEmpty then [] else l.take n :: chunks n f (l.drop n)

/-- The first `n` elements of `l` from place `i`. -/
def slice (l : List α) (i n : Nat) : List α := (l.drop i).take n

/-- The element at place `i`, or `d`. -/
def lget (d : α) (l : List α) (i : Nat) : α := (l[i]?).getD d

/-- `f` applied for each element in order. -/
def each {σ β : Type} (l : List β) (f : β → σ → σ) (s : σ) : σ := l.foldl (fun s x => f x s) s

end Sys2Proof.Machine
end

