-- ==== Sys2Proof/Machine/Num.lean ====
section
/-! DEFINITION. Number formats, rounding, the window and exact partials (chapter 2). A finite value is
m × 2^e with integers m and e; every computation is exact until its one rounding. -/

namespace Sys2Proof.Machine

/-! ### Element formats (Table 2.1) -/

/-- How a format uses its top exponent: as IEEE 754, as E4M3 (one NaN code), or for numbers only. -/
inductive TopCode where
  | ieee | e4m3 | none
deriving DecidableEq, Repr

/-- A floating format: exponent and mantissa widths, bias and use of the top exponent. -/
structure FFmt where
  eb   : Nat
  mb   : Nat
  bias : Nat
  top  : TopCode
deriving DecidableEq, Repr

/-- E4M3. -/
def fE4M3 : FFmt := ⟨4, 3, 7, .e4m3⟩
/-- E5M2. -/
def fE5M2 : FFmt := ⟨5, 2, 15, .ieee⟩
/-- E3M2. -/
def fE3M2 : FFmt := ⟨3, 2, 3, .none⟩
/-- E2M3. -/
def fE2M3 : FFmt := ⟨2, 3, 1, .none⟩
/-- E2M1. -/
def fE2M1 : FFmt := ⟨2, 1, 1, .none⟩
/-- BF16. -/
def fBF16 : FFmt := ⟨8, 7, 127, .ieee⟩
/-- FP16. -/
def fFP16 : FFmt := ⟨5, 10, 15, .ieee⟩
/-- FP32. -/
def fFP32 : FFmt := ⟨8, 23, 127, .ieee⟩

/-- The floating format of a code of Table 2.2; none for INT8, EXACT and reserved codes. -/
def fmtOf : Nat → Option FFmt
  | 0x0 => some fE4M3
  | 0x1 => some fE5M2
  | 0x2 => some fE3M2
  | 0x3 => some fE2M3
  | 0x4 => some fE2M1
  | 0x8 => some fBF16
  | 0x9 => some fFP16
  | 0xA => some fFP32
  | _ => none

/-- Bits of one element of a code of Table 2.2. -/
def fmtBits : Nat → Nat
  | 0x0 => 8
  | 0x1 => 8
  | 0x2 => 6
  | 0x3 => 6
  | 0x4 => 4
  | 0x5 => 8
  | 0x8 => 16
  | 0x9 => 16
  | 0xA => 32
  | 0xC => 128
  | _ => 0

/-- The operand class of a code (Table 2.2): 0 A, 1 B, 2 C, 3 none. -/
def fmtClass : Nat → Nat
  | 0x0 => 0
  | 0x1 => 0
  | 0x2 => 0
  | 0x3 => 0
  | 0x5 => 0
  | 0x4 => 1
  | 0x8 => 2
  | 0x9 => 2
  | _ => 3

/-- A decoded value: NaN, an infinity, or (−1)^neg × m × 2^e. -/
inductive FVal where
  | nan
  | inf (neg : Bool)
  | fin (neg : Bool) (m : Nat) (e : Int)
deriving DecidableEq, Repr

/-- Significand precision in bits, hidden bit included. -/
def FFmt.p (f : FFmt) : Nat := f.mb + 1

/-- The least normal exponent. -/
def FFmt.emin (f : FFmt) : Int := 1 - (f.bias : Int)

/-- The width in bits. -/
def FFmt.width (f : FFmt) : Nat := 1 + f.eb + f.mb

/-- The code whose sign is clear and whose value is the greatest finite one. -/
def FFmt.maxCode (f : FFmt) : Nat :=
  match f.top with
  | .ieee => (2 ^ f.eb - 1) * 2 ^ f.mb - 1
  | .e4m3 => 2 ^ (f.eb + f.mb) - 2
  | .none => 2 ^ (f.eb + f.mb) - 1

/-- The code of plus infinity; 0 where the format has none. -/
def FFmt.infCode (f : FFmt) : Nat :=
  match f.top with
  | .ieee => (2 ^ f.eb - 1) * 2 ^ f.mb
  | _ => 0

/-- The NaN a conversion produces (Table 2.6): the quiet NaN, 0x7F in E4M3; 0 where the format has none. -/
def FFmt.nanCode (f : FFmt) : Nat :=
  match f.top with
  | .ieee => (2 ^ f.eb - 1) * 2 ^ f.mb + 2 ^ (f.mb - 1)
  | .e4m3 => 2 ^ (f.eb + f.mb) - 1
  | .none => 0

/-- Decoding of an encoding (R32). -/
def FFmt.decode (f : FFmt) (x : Nat) : FVal :=
  let m := x % 2 ^ f.mb
  let e := x / 2 ^ f.mb % 2 ^ f.eb
  let neg := bitOf x (f.eb + f.mb)
  if f.top = .ieee ∧ e = 2 ^ f.eb - 1 then (if m = 0 then .inf neg else .nan)
  else if f.top = .e4m3 ∧ e = 2 ^ f.eb - 1 ∧ m = 2 ^ f.mb - 1 then .nan
  else if e = 0 then .fin neg m (f.emin - f.mb)
  else .fin neg (2 ^ f.mb + m) ((e : Int) - f.bias - f.mb)

/-- The value of a code of a format of Table 2.2, INT8 included. -/
def decodeElem (code x : Nat) : FVal :=
  if code = 5 then
    let v := toSigned 8 x
    .fin (decide (v < 0)) v.natAbs 0
  else match fmtOf code with
    | some f => f.decode x
    | none => .nan

/-! ### Rounding -/

/-- Rounding modes: to nearest even, and toward zero (R59). -/
inductive RMode where
  | rne | rtz
deriving DecidableEq, Repr

/-- m × 2^x (m > 0) rounded to `p` significand bits with least normal exponent `emin`: significand,
weight exponent, whether exact (the function of R50, with R59's second mode). -/
def roundTo (rm : RMode) (p : Nat) (emin : Int) (m : Nat) (x : Int) : Nat × Int × Bool :=
  let e := (Nat.log2 m : Int) + x
  let k := max e emin - ((p : Int) - 1)
  if k ≤ x then (m * 2 ^ (x - k).toNat, k, true)
  else
    let d := (k - x).toNat
    let r := m / 2 ^ d
    let rest := m % 2 ^ d
    let half := 2 ^ (d - 1)
    let up := rm = .rne ∧ (rest > half ∨ (rest = half ∧ r % 2 = 1))
    let r' := if up then r + 1 else r
    if r' = 2 ^ p then (2 ^ (p - 1), k + 1, rest = 0) else (r', k, rest = 0)

/-- The code, sign clear, of r × 2^k with r < 2^p. -/
def FFmt.pack (f : FFmt) (r : Nat) (k : Int) : Nat :=
  if r < 2 ^ f.mb then r else (k + f.mb + f.bias).toNat * 2 ^ f.mb + (r - 2 ^ f.mb)

/-- What a rounding did: its code, overflow, underflow (inexact and below the least normal after
rounding as to unbounded exponents) and inexactness. -/
structure Rounded where
  bits : Nat
  ov   : Bool
  un   : Bool
  nx   : Bool
deriving DecidableEq, Repr

/-- The sign bit's weight. -/
def FFmt.sbit (f : FFmt) (neg : Bool) : Nat := if neg then 2 ^ (f.eb + f.mb) else 0

/-- Rounding of (−1)^neg × m × 2^x into a format. `sat` chooses the greatest finite value on overflow in
place of infinity (Table 2.5 for E4M3 and E5M2); under rounding toward zero overflow also gives it. -/
def FFmt.round (f : FFmt) (rm : RMode) (sat neg : Bool) (m : Nat) (x : Int) : Rounded :=
  if m = 0 then ⟨f.sbit neg, false, false, false⟩
  else
    let r := roundTo rm f.p f.emin m x
    let u := roundTo rm f.p (f.emin - 4096) m x
    let tiny := (Nat.log2 u.1 : Int) + u.2.1 < f.emin
    let code := f.pack r.1 r.2.1
    let big := code > f.maxCode
    if big then
      ⟨f.sbit neg + (if sat || f.top ≠ .ieee || rm = .rtz then f.maxCode else f.infCode), true, false, true⟩
    else ⟨f.sbit neg + code, false, decide tiny && !r.2.2, !r.2.2⟩

/-! ### The window (R39 to R45) -/

/-- floor(m × 2^s). -/
def floorShift (m : Int) (s : Int) : Int :=
  if 0 ≤ s then m * 2 ^ s.toNat else m / 2 ^ (-s).toNat

/-- Whether m × 2^s is an integer. -/
def shiftExact (m : Int) (s : Int) : Bool := decide (0 ≤ s) || decide (m % 2 ^ (-s).toNat = 0)

/-- MAXP of R45. -/
def maxP : Int := 2 ^ 127 - 1

/-- An integer clamped to ±MAXP, and whether it was (R41). -/
def clampP (q : Int) : Int × Bool :=
  if q > maxP then (maxP, true) else if q < -maxP then (-maxP, true) else (q, false)

/-- The signed integer of a decoded finite value; none when it is NaN or infinite. -/
def FVal.int? : FVal → Option (Int × Int)
  | .fin neg m e => some (if neg then -(m : Int) else (m : Int), e)
  | _ => none

/-- NUMFLAGS bits (Table 2.7). -/
def nfOV : BitVec 8 := 0x01#8
/-- TR. -/
def nfTR : BitVec 8 := 0x02#8
/-- NR. -/
def nfNR : BitVec 8 := 0x04#8
/-- DO. -/
def nfDO : BitVec 8 := 0x08#8
/-- DX. -/
def nfDX : BitVec 8 := 0x10#8
/-- AU. -/
def nfAU : BitVec 8 := 0x20#8

/-- The contribution of the exact product m × 2^e to an accumulator of window `w` (R40, R41, R44). -/
def windowQ (w m e : Int) : Int × BitVec 8 :=
  let s := e + 127 - w
  let c := clampP (floorShift m s)
  (c.1, (if shiftExact m s then 0#8 else nfTR) ||| (if c.2 then nfOV else 0#8))

/-! ### Exact partials (R53, R55) -/

/-- The code NaR. -/
def narCode : BitVec 128 := 0x80000000000000000000000000000000#128

/-- The 16-byte form of a partial. -/
def partialBits (a : Int) : BitVec 128 := BitVec.ofInt 128 a

/-- xp_add (R55), with OV and NR. -/
def xpAdd (a b : BitVec 128) : BitVec 128 × BitVec 8 :=
  if a = narCode ∨ b = narCode then (narCode, nfNR)
  else
    let c := clampP (a.toInt + b.toInt)
    (partialBits c.1, if c.2 then nfOV else 0#8)

/-! ### Conversion out of the window (R50 to R52) -/

/-- A value leaving an accumulator or a partial: NaR, or A × 2^(W−127). -/
inductive WVal where
  | nar
  | val (a : Int)
deriving DecidableEq, Repr

/-- An accumulator's value as it leaves the room (R42): clamped, with OV. -/
def leaveRoom (nar : Bool) (acc : Int) : WVal × BitVec 8 :=
  if nar then (.nar, 0#8)
  else
    let c := clampP acc
    (.val c.1, if c.2 then nfOV else 0#8)

/-- Conversion of a window value to a format (R50, R51, Tables 2.5 and 2.6). -/
def convOut (f : FFmt) (w : Int) : WVal → Nat × BitVec 8
  | .nar => (f.nanCode, nfNR)
  | .val a =>
    let r := f.round .rne (f.top ≠ .ieee || f.eb = 5 && f.mb = 2) (decide (a < 0)) a.natAbs (w - 127)
    if a = 0 then (0, 0#8)
    else if r.bits % 2 ^ (f.eb + f.mb) = 0 then (0, nfDX)
    else (r.bits, (if r.ov then nfDO else 0#8) ||| (if r.nx then nfDX else 0#8))

/-- e_max of R52. -/
def mxEmax (f : FFmt) : Int := if f.eb = 4 then 8 else if f.eb = 5 then 15 else 2

/-- A block of 32 outputs with its MX scale (R52): scale code, element codes, flags. -/
def convMX (f : FFmt) (w : Int) (vs : List WVal) : Nat × List Nat × BitVec 8 :=
  if vs.any (fun v => v = .nar) then (0xFF, vs.map fun _ => 0, nfNR)
  else
    let as := vs.map fun v => match v with | .val a => a | .nar => 0
    let top := as.foldl (fun m a => max m a.natAbs) 0
    if top = 0 then (0x7F, vs.map fun _ => 0, 0#8)
    else
      let raw := (Nat.log2 top : Int) + (w - 127) - mxEmax f
      let es := max (-127) (min 127 raw)
      let rs := as.map fun a => (a, f.round .rne true (decide (a < 0)) a.natAbs (w - 127 - es))
      ((es + 127).toNat,
       rs.map fun r => if r.2.bits % 2 ^ (f.eb + f.mb) = 0 then 0 else r.2.bits,
       rs.foldl (fun fl r => fl ||| (if r.2.nx then nfDX else 0#8) |||
         (if r.2.ov && decide (127 < raw) then nfDO else 0#8)) 0#8)

end Sys2Proof.Machine
end

