-- ==== Sys2Proof/Machine/Flags.lean ====
section
/-! DEFINITION. IEEE 754-2019 arithmetic with its flags, conversions and the special functions, as the
vector engine and the Cistern compute them (R59, R60, R106 to R110, R229). Flags are a number with bit 4
NV, 3 DZ, 2 OF, 1 UF, 0 NX, as in Table 4.9. -/

namespace Sys2Proof.Machine

/-- NV. -/
def xNV : Nat := 16
/-- DZ. -/
def xDZ : Nat := 8
/-- OF. -/
def xOF : Nat := 4
/-- UF. -/
def xUF : Nat := 2
/-- NX. -/
def xNX : Nat := 1

/-- Whether an encoding is a signalling NaN (R32). -/
def FFmt.isSNaN (f : FFmt) (x : Nat) : Bool :=
  f.top = .ieee && f.decode x = .nan && !bitOf x (f.mb - 1)

/-- Whether an encoding is a NaN. -/
def FFmt.isNaN (f : FFmt) (x : Nat) : Bool := f.decode x = .nan

/-- NV when any operand is a signalling NaN. -/
def FFmt.sig (f : FFmt) (l : List Nat) : Nat := if l.any f.isSNaN then xNV else 0

/-- The encoding with its flags that rounding gives. -/
def Rounded.out (r : Rounded) : Nat × Nat :=
  (r.bits, (if r.ov then xOF else 0) ||| (if r.un then xUF else 0) ||| (if r.nx then xNX else 0))

/-- An infinity of a sign. -/
def FFmt.inf (f : FFmt) (neg : Bool) : Nat := f.sbit neg + f.infCode

/-- m × 2^e as an integer multiple of 2^x, for x ≤ e. -/
def alignTo (neg : Bool) (m : Nat) (e x : Int) : Int :=
  let v : Int := (m : Int) * 2 ^ (e - x).toNat
  if neg then -v else v

/-- The rounded sum of two finite values; a zero sum keeps the sign that both had, else is +0 (R33). -/
def FFmt.sumFin (f : FFmt) (rm : RMode) (n1 : Bool) (m1 : Nat) (e1 : Int) (n2 : Bool) (m2 : Nat) (e2 : Int) :
    Nat × Nat :=
  if m1 = 0 ∧ m2 = 0 then (f.sbit (n1 && n2), 0)
  else
    let x := min e1 e2
    let v := alignTo n1 m1 e1 x + alignTo n2 m2 e2 x
    if v = 0 then (0, 0) else (f.round rm false (decide (v < 0)) v.natAbs x).out

/-- The sum of two values. -/
def FFmt.sum (f : FFmt) (rm : RMode) : FVal → FVal → Nat × Nat
  | .nan, _ => (f.nanCode, 0)
  | _, .nan => (f.nanCode, 0)
  | .inf a, .inf b => if a = b then (f.inf a, 0) else (f.nanCode, xNV)
  | .inf a, .fin _ _ _ => (f.inf a, 0)
  | .fin _ _ _, .inf b => (f.inf b, 0)
  | .fin n1 m1 e1, .fin n2 m2 e2 => f.sumFin rm n1 m1 e1 n2 m2 e2

/-- A value with its sign changed. -/
def FVal.neg : FVal → FVal
  | .nan => .nan
  | .inf a => .inf !a
  | .fin n m e => .fin (!n) m e

/-- The exact product of two values; none for zero times infinity. -/
def FVal.mul : FVal → FVal → Option FVal
  | .nan, .inf _ => some .nan
  | .inf _, .nan => some .nan
  | .nan, _ => some .nan
  | _, .nan => some .nan
  | .inf a, .inf b => some (.inf (a != b))
  | .inf a, .fin n m _ => if m = 0 then none else some (.inf (a != n))
  | .fin n m _, .inf b => if m = 0 then none else some (.inf (n != b))
  | .fin n1 m1 e1, .fin n2 m2 e2 => some (.fin (n1 != n2) (m1 * m2) (e1 + e2))

/-- x + y. -/
def FFmt.add (f : FFmt) (rm : RMode) (x y : Nat) : Nat × Nat :=
  let r := f.sum rm (f.decode x) (f.decode y)
  (r.1, r.2 ||| f.sig [x, y])

/-- x − y. -/
def FFmt.sub (f : FFmt) (rm : RMode) (x y : Nat) : Nat × Nat :=
  let r := f.sum rm (f.decode x) (f.decode y).neg
  (r.1, r.2 ||| f.sig [x, y])

/-- A value rounded into the format. -/
def FFmt.ofVal (f : FFmt) (rm : RMode) : FVal → Nat × Nat
  | .nan => (f.nanCode, 0)
  | .inf a => (f.inf a, 0)
  | .fin n m e => (f.round rm false n m e).out

/-- x × y. -/
def FFmt.mul (f : FFmt) (rm : RMode) (x y : Nat) : Nat × Nat :=
  let r := match (f.decode x).mul (f.decode y) with
    | none => (f.nanCode, xNV)
    | some v => f.ofVal rm v
  (r.1, r.2 ||| f.sig [x, y])

/-- ±(x × y) ± z with one rounding; zero times infinity is invalid whatever z holds (R110). -/
def FFmt.fma (f : FFmt) (rm : RMode) (negP negZ : Bool) (x y z : Nat) : Nat × Nat :=
  let r := match (f.decode x).mul (f.decode y) with
    | none => (f.nanCode, xNV)
    | some v =>
      let z' := f.decode z
      f.sum rm (if negP then v.neg else v) (if negZ then z'.neg else z')
  (r.1, r.2 ||| f.sig [x, y, z])

/-- Comparison of two non-NaN values: x < y, −0 and +0 equal. -/
def FVal.lt : FVal → FVal → Bool
  | .nan, _ => false
  | _, .nan => false
  | .inf a, .inf b => a && !b
  | .inf a, .fin _ _ _ => a
  | .fin _ _ _, .inf b => !b
  | .fin n1 m1 e1, .fin n2 m2 e2 =>
    let x := min e1 e2
    decide (alignTo n1 m1 e1 x < alignTo n2 m2 e2 x)

/-- Equality of two non-NaN values. -/
def FVal.eqv (x y : FVal) : Bool := x ≠ .nan && y ≠ .nan && !x.lt y && !y.lt x

/-- The value's sign. -/
def FVal.isNeg : FVal → Bool
  | .nan => false
  | .inf a => a
  | .fin n _ _ => n

/-- IEEE 754-2019 minimum (`mx` false) and maximum (`mx` true): NaN propagates, −0 is below +0 (R106). -/
def FFmt.minmax (f : FFmt) (mx : Bool) (x y : Nat) : Nat × Nat :=
  let a := f.decode x
  let b := f.decode y
  let below := a.lt b || (a.eqv b && a.isNeg && !b.isNeg)
  (if a = .nan ∨ b = .nan then f.nanCode else if below = mx then y % 2 ^ f.width else x % 2 ^ f.width,
   f.sig [x, y])

/-- The condition of an FCMP (Table 4.7) and the flags it raises. -/
def FFmt.cmp (f : FFmt) (cond x y : Nat) : Bool × Nat :=
  let a := f.decode x
  let b := f.decode y
  let un := a = .nan ∨ b = .nan
  let t := match cond with
    | 0 => a.eqv b
    | 1 => !(a.eqv b)
    | 2 => a.lt b
    | 3 => a.lt b || a.eqv b
    | 4 => b.lt a
    | 5 => b.lt a || a.eqv b
    | 6 => decide un
    | _ => !decide un
  (t, (if un ∧ 2 ≤ cond ∧ cond ≤ 5 then xNV else 0) ||| f.sig [x, y])

/-! ### Conversions (R107) -/

/-- A finite value rounded to an integer under a mode, and whether it was one. -/
def toInteger (rm : RMode) (neg : Bool) (m : Nat) (e : Int) : Int × Bool :=
  if 0 ≤ e then (alignTo neg m e 0, true)
  else
    let d := (-e).toNat
    let r := m / 2 ^ d
    let rest := m % 2 ^ d
    let half := 2 ^ (d - 1)
    let up := rm = .rne ∧ (rest > half ∨ (rest = half ∧ r % 2 = 1))
    let v : Int := if up then (r + 1 : Nat) else (r : Nat)
    (if neg then -v else v, rest = 0)

/-- A value as a saturated signed integer of `n` bits, with NV on saturation or NaN and NX otherwise when
the integer differs from the value. -/
def toIntSat (n : Nat) (rm : RMode) : FVal → Int × Nat
  | .nan => (0, xNV)
  | .inf neg => (if neg then -(2 ^ (n - 1) : Nat) else (2 ^ (n - 1) : Nat) - 1, xNV)
  | .fin neg m e =>
    let r := toInteger rm neg m e
    let hi : Int := (2 ^ (n - 1) : Nat) - 1
    let lo : Int := -(2 ^ (n - 1) : Nat)
    if r.1 > hi then (hi, xNV) else if r.1 < lo then (lo, xNV) else (r.1, if r.2 then 0 else xNX)

/-- Conversion of a value to the format of a code (R107): NaN, overflow and rounding as the format has
them. INT8 is code 5. -/
def convTo (code : Nat) (rm : RMode) (v : FVal) : Nat × Nat :=
  if code = 5 then
    let r := toIntSat 8 .rne v
    (ofSigned 8 r.1, r.2)
  else match fmtOf code with
    | none => (0, 0)
    | some f =>
      let small := f.width < 16
      match v with
      | .nan => if f.top = .none then (0, xNV) else (f.nanCode, 0)
      | .inf neg => if small then (f.sbit neg + f.maxCode, xOF ||| xNX) else (f.inf neg, 0)
      | .fin neg m e => (f.round (if small then .rne else rm) small neg m e).out

/-- Whether a code's encoding is a signalling NaN. -/
def codeSNaN (code x : Nat) : Bool :=
  match fmtOf code with
  | some f => f.isSNaN x
  | none => false

/-- CVT of one lane (R107): from format `src` in the low bits of the lane to format `dst`. -/
def cvtLane (src dst : Nat) (rm : RMode) (lane : Nat) : Nat × Nat :=
  let x := lane % 2 ^ fmtBits src
  let r := convTo dst rm (decodeElem src x)
  (r.1, r.2 ||| (if codeSNaN src x then xNV else 0))

/-! ### Special functions (R109)

A result that is not exact is given to the rounding as an odd multiple of a weight far below the last
bit kept, on the right side of every rounding boundary. -/

/-- Bits of the fixed-point approximations. -/
def sfP : Nat := 320

/-- ⌊ln 2 × 2^320⌋. -/
def sfLn2 : Nat :=
  0xb17217f7d1cf79abc9e3b39803f2f6af40f343267298b62d8a0d175b8baafa2be7b876206debac98

/-- The integer square root, by bits from `n` down. -/
def isqrtBits (x : Nat) : Nat → Nat → Nat
  | 0, r => r
  | n + 1, r =>
    let t := r + 2 ^ n
    isqrtBits x n (if t * t ≤ x then t else r)

/-- ⌊√x⌋. -/
def isqrt (x : Nat) : Nat := isqrtBits x (Nat.log2 x / 2 + 1) 0

/-- Terms y^k ÷ k! from term `t` (with index `k`) on, in fixed point. -/
def expTerms (y : Nat) : Nat → Nat → Nat → Nat
  | 0, _, _ => 0
  | n + 1, k, t => t + expTerms y n (k + 1) (t * y / 2 ^ sfP / (k + 1))

/-- 2^f × 2^320 for a fraction f given × 2^320. -/
def exp2Frac (f : Nat) : Nat := expTerms (f * sfLn2 / 2 ^ sfP) 70 0 (2 ^ sfP)

/-- Terms z^(2k+1) ÷ (2k+1), in fixed point. -/
def atanhTerms (z2 : Nat) : Nat → Nat → Nat → Nat
  | 0, _, _ => 0
  | n + 1, k, t => t / k + atanhTerms z2 n (k + 2) (t * z2 / 2 ^ sfP)

/-- log2(m) × 2^320 for m = `m` ÷ 2^`b` in [1, 2). -/
def log2Frac (m b : Nat) : Nat :=
  let z := (m - 2 ^ b) * 2 ^ sfP / (m + 2 ^ b)
  2 * atanhTerms (z * z / 2 ^ sfP) 105 1 z * 2 ^ sfP / sfLn2

/-- An FP32 result from an approximation v × 2^x that is not exact. -/
def sticky (neg : Bool) (v : Nat) (x : Int) : Nat × Nat := (fFP32.round .rne false neg (2 * v + 1) (x - 1)).out

/-- EXP2 (R109, Table 4.8). -/
def sfExp2 (x : Nat) : Nat × Nat :=
  match fFP32.decode x with
  | .nan => (fFP32.nanCode, fFP32.sig [x])
  | .inf neg => (if neg then 0 else fFP32.infCode, 0)
  | .fin neg m e =>
    if m = 0 then (0x3F800000, 0)
    else if e > 10 ∨ (Nat.log2 m : Int) + e > 10 then
      (if neg then (fFP32.round .rne false false 1 (-1000)).out else (fFP32.round .rne false false 1 1000).out)
    else
      let v : Int := alignTo neg m e (min e 0)
      let d := (-(min e 0)).toNat
      let n := v / (2 ^ d : Nat)
      let f := (v % (2 ^ d : Nat)).toNat
      if f = 0 then (fFP32.round .rne false false 1 n).out
      else sticky false (exp2Frac (f * 2 ^ sfP / 2 ^ d)) (n - sfP)

/-- LOG2 (R109, Table 4.8). -/
def sfLog2 (x : Nat) : Nat × Nat :=
  match fFP32.decode x with
  | .nan => (fFP32.nanCode, fFP32.sig [x])
  | .inf neg => if neg then (fFP32.nanCode, xNV) else (fFP32.infCode, 0)
  | .fin neg m e =>
    if m = 0 then (fFP32.inf true, xDZ)
    else if neg then (fFP32.nanCode, xNV)
    else
      let b := Nat.log2 m
      let ex := (b : Int) + e
      if m = 2 ^ b then
        (if ex = 0 then (0, 0) else (fFP32.round .rne false (decide (ex < 0)) ex.natAbs 0).out)
      else
        let v : Int := ex * (2 ^ sfP : Nat) + (log2Frac m b : Nat)
        sticky (decide (v < 0)) (if v < 0 then v.natAbs - 1 else v.natAbs) (-(sfP : Int))

/-- RCP (R109, Table 4.8). -/
def sfRcp (x : Nat) : Nat × Nat :=
  match fFP32.decode x with
  | .nan => (fFP32.nanCode, fFP32.sig [x])
  | .inf neg => (fFP32.sbit neg, 0)
  | .fin neg m e =>
    if m = 0 then (fFP32.inf neg, xDZ)
    else
      let q := 2 ^ 100 / m
      if 2 ^ 100 % m = 0 then (fFP32.round .rne false neg q (-100 - e)).out
      else sticky neg q (-100 - e)

/-- RSQRT (R109, Table 4.8). -/
def sfRsqrt (x : Nat) : Nat × Nat :=
  match fFP32.decode x with
  | .nan => (fFP32.nanCode, fFP32.sig [x])
  | .inf neg => if neg then (fFP32.nanCode, xNV) else (0, 0)
  | .fin neg m e =>
    if m = 0 then (fFP32.inf neg, xDZ)
    else if neg then (fFP32.nanCode, xNV)
    else
      let m' := if e % 2 = 0 then m else 2 * m
      let e' := if e % 2 = 0 then e else e - 1
      let q := isqrt (2 ^ 200 / m')
      if q * q * m' = 2 ^ 200 then (fFP32.round .rne false false q (-100 - e' / 2)).out
      else sticky false q (-100 - e' / 2)

end Sys2Proof.Machine
end

