-- ==== Sys2Proof/Machine/Code.lean ====
section
/-! DEFINITION. The common code of 144-bit words (R209 to R214). A stored word is held as its data and
`δ`, the exclusive-or of its stored check bits and the check bits that R211 gives the data: the
syndrome of the word is the syndrome of `δ` in the check symbols, since the code is linear. -/

namespace Sys2Proof.Machine

/-- Multiplication of a symbol by x in GF(16) under x^4 + x + 1 (R209). -/
def gfX (a : Nat) : Nat := if a < 8 then 2 * a else (2 * a) % 16 ^^^ 3

/-- Multiplication in GF(16). -/
def gfMul (a b : Nat) : Nat :=
  (if bitOf b 0 then a else 0) ^^^ (if bitOf b 1 then gfX a else 0) ^^^
  (if bitOf b 2 then gfX (gfX a) else 0) ^^^ (if bitOf b 3 then gfX (gfX (gfX a)) else 0)

/-- The inverse of a non-zero symbol; 0 for 0. -/
def gfInv (a : Nat) : Nat := ((List.range 16).find? fun b => gfMul a b = 1).getD 0

/-- f(u, v) = u² ⊕ u·v ⊕ λ·v² (R209). -/
def gfF (u v : Nat) : Nat := gfMul u u ^^^ gfMul u v ^^^ gfMul 8 (gfMul v v)

/-- The (u, v) of data symbol `j` (R210). -/
def symUV (j : Nat) : Nat × Nat := (j % 16, if j < 16 then 2 else 3)

/-- Symbol `j` of a number. -/
def symOf (x j : Nat) : Nat := x / 16 ^ j % 16

/-- The sum of the data symbols times their locators, (t0, t1, t2, t3) of R211. -/
def dataSum (x : Nat) : Nat × Nat × Nat × Nat :=
  (List.range 32).foldl (fun (t : Nat × Nat × Nat × Nat) j =>
    let d := symOf x j
    let u := (symUV j).1
    let v := (symUV j).2
    (t.1 ^^^ d, t.2.1 ^^^ gfMul d (gfF u v), t.2.2.1 ^^^ gfMul d u, t.2.2.2 ^^^ gfMul d v)) (0, 0, 0, 0)

/-- The check bits [143:128] of a data word (R211). -/
def encodeCheck (x : BitVec 128) : BitVec 16 :=
  let t := dataSum x.toNat
  let c10 := t.2.2.1
  let c01 := t.2.2.2
  BitVec.ofNat 16 ((t.1 ^^^ c10 ^^^ c01) + 16 * c10 + 256 * c01 + 4096 * (t.2.1 ^^^ c10 ^^^ gfMul 8 c01))

/-- The syndrome of a word whose check bits differ by `δ` from those of its data (R210). -/
def syndrome (δ : BitVec 16) : Nat × Nat × Nat × Nat :=
  let c00 := symOf δ.toNat 0
  let c10 := symOf δ.toNat 1
  let c01 := symOf δ.toNat 2
  let cinf := symOf δ.toNat 3
  (c00 ^^^ c10 ^^^ c01, c10 ^^^ gfMul 8 c01 ^^^ cinf, c10, c01)

/-- What a checker finds (R212): a clean word, poison, a corrected word (with its data), or an
uncorrectable one. -/
inductive Decoded where
  | clean
  | poison
  | corrected (x : BitVec 128)
  | uncorrectable
deriving DecidableEq, Repr

/-- The data symbol with (u, v), if one has it. -/
def symAt (u v : Nat) : Option Nat := if v = 2 then some u else if v = 3 then some (16 + u) else none

/-- Decoding of a word with data `x` and check difference `δ` (R212). -/
def decodeWord (x : BitVec 128) (δ : BitVec 16) : Decoded :=
  let s := syndrome δ
  if s = (0, 0, 0, 0) then .clean
  else if s = (1, 0xB, 0, 4) then .poison
  else if s.1 ≠ 0 then
    let u := gfMul s.2.2.1 (gfInv s.1)
    let v := gfMul s.2.2.2 (gfInv s.1)
    if s.2.1 = gfMul s.1 (gfF u v) then
      match symAt u v with
      | some j => .corrected (x ^^^ BitVec.ofNat 128 (s.1 * 16 ^ j))
      | none => if (u, v) = (0, 0) ∨ (u, v) = (1, 0) ∨ (u, v) = (0, 1) then .corrected x
                else .uncorrectable
    else .uncorrectable
  else if s.2.2.1 = 0 ∧ s.2.2.2 = 0 then .corrected x
  else .uncorrectable

/-- The mask of a poisoned word (R214). -/
def poisonMask : BitVec 16 := 0xD405#16

/-- The check difference that an injection mode leaves (Table 16.5): 1 CE, 2 UE, 3 PSN. -/
def injectMask (mode : Nat) : BitVec 16 :=
  if mode = 1 then 0x000F#16 else if mode = 2 then 0xFFFF#16 else if mode = 3 then poisonMask else 0#16

end Sys2Proof.Machine
end

