-- ==== Sys2Proof/Machine/CtlRegs.lean ====
section
/-! DEFINITION. The 8-byte control registers: where they lie (R29, Tables 1.11 and 1.12), their reset
values, and what a write does to each bit by its access code (R7, R8). Registers whose contents live in
state of their own (latches) are not listed. -/

namespace Sys2Proof.Machine

/-- A control register: its reset value, the bits a write sets (RW), the bits it clears with 1 (W1C),
the bits a read clears (RC). Every other bit ignores writes (RO, WO, W1S and reserved bits). -/
structure RegDesc where
  reset : BitVec 64
  rw    : BitVec 64
  w1c   : BitVec 64
  rc    : BitVec 64
deriving DecidableEq, Repr

/-- The mask of bits [hi:lo]. -/
def bmask (hi lo : Nat) : BitVec 64 := BitVec.ofNat 64 ((2 ^ (hi + 1 - lo) - 1) * 2 ^ lo)

/-- A register with only RW bits, reset to 0. -/
def regRw (m : BitVec 64) : RegDesc := ⟨0, m, 0, 0⟩

/-- A register that ignores writes. -/
def regRo : RegDesc := ⟨0, 0, 0, 0⟩

/-- The queue descriptor registers (Table 5.1) by offset. -/
def regQueue : Nat → Option RegDesc
  | 0x00 => some (regRw (bmask 55 6))
  | 0x08 => some (regRw (bmask 55 6))
  | 0x10 => some ⟨BitVec.ofNat 64 (6 * 32 + 6), bmask 41 32 ||| bmask 22 0, 0, 0⟩
  | 0x18 => some (regRw (bmask 55 2))
  | 0x20 => some (regRw (bmask 31 0))
  | 0x28 => some (regRw (bmask 0 0))
  | 0x30 => some ⟨0, 0, bmask 52 50, 0⟩
  | 0x38 => some regRo
  | _ => none

/-- The wing cache registers (Table 7.1) by offset. -/
def regCache (o : Nat) : Option RegDesc :=
  if o = 0x00 then some ⟨bmask 48 48 ||| bmask 31 16 ||| 64#64, bmask 48 16 ||| bmask 8 0, 0, 0⟩
  else if o = 0x08 then some ⟨0, 0, bmask 47 32 ||| bmask 16 16, 0⟩
  else if o = 0x10 then some regRo
  else if o = 0x18 then some ⟨0, 0, 0, bmask 15 8⟩
  else if 0x40 ≤ o ∧ o < 0xC0 ∧ o % 8 = 0 then some regRo
  else none

/-- The stack controller registers (Table 8.6) by offset. -/
def regStack : Nat → Option RegDesc
  | 0x00 => some regRo
  | 0x08 => some ⟨0, 0, bmask 4 0, 0⟩
  | 0x10 => some ⟨0, 0, 0, bmask 63 0⟩
  | _ => none

/-- The Breaker registers (Tables 16.3, 16.4) by offset. -/
def regBreaker (o : Nat) : Option RegDesc :=
  if o % 8 ≠ 0 then none
  else if o = 0 then some ⟨0, 0, bmask 8 8 ||| bmask 4 0, 0⟩
  else if o = 8 then some ⟨0, 0, 0, bmask 31 0⟩
  else if 0x40 ≤ o ∧ o < 0xE0 then some regRo
  else if 0x100 ≤ o ∧ o < 0x200 then
    match (o - 0x100) % 0x20 with
    | 0x00 => some (regRw (bmask 63 48 ||| bmask 45 40 ||| bmask 15 0))
    | 0x08 => some (regRw (bmask 55 4))
    | 0x10 => some (regRw (bmask 55 4))
    | _ => some regRo
  else if 0x200 ≤ o ∧ o < 0x250 then
    some (regRw (if o % 16 = 0 then bmask 55 2 else bmask 31 0))
  else none

/-- The Hatch registers (Table 11.5) by offset. -/
def regHatch : Nat → Option RegDesc
  | 0x00 => some (regRw (bmask 55 6))
  | 0x08 => some ⟨6, bmask 9 8 ||| bmask 4 0, 0, 0⟩
  | 0x10 => some (regRw (bmask 55 2))
  | 0x18 => some (regRw (bmask 31 0))
  | 0x20 => some (regRw (bmask 0 0))
  | 0x28 => some ⟨0, 0, bmask 34 33, 0⟩
  | 0x30 => some regRo
  | _ => none

/-- The atomic slot registers (Table 12.4) by offset. -/
def regAtomic : Nat → Option RegDesc
  | 0x00 => some (regRw (bmask 55 4))
  | 0x08 => some (regRw (bmask 63 0))
  | 0x10 => some (regRw (bmask 63 0))
  | 0x18 => some (regRw (bmask 15 8))
  | 0x20 => some regRo
  | 0x28 => some regRo
  | 0x30 => some regRo
  | 0x38 => some regRo
  | _ => none

/-- The letterbox registers (Table 11.9) of letterbox `m` by offset. Two DATA words share one key of
the state. -/
def regLetterbox (m o : Nat) : Option RegDesc :=
  if o < 0x40 ∧ o % 8 = 0 then some (regRw (bmask 63 0))
  else match o with
  | 0x40 => some (regRw (bmask 15 0))
  | 0x48 => some (regRw (bmask 4 0))
  | 0x50 => some ⟨0, 0, bmask 4 3, 0⟩
  | 0x58 => some (regRw (bmask 55 2))
  | 0x60 => some (regRw (bmask 31 0))
  | 0x68 => some (regRw (bmask 55 2))
  | 0x70 => some (regRw (bmask 31 0))
  | 0x78 => some ⟨if m < 16 then 1 else 0, bmask 2 0, 0, 0⟩
  | _ => none

/-- The registers of a compute die's window (Table 1.12) by offset. -/
def regDie (o : Nat) : Option RegDesc :=
  if o < 0x08000000 then
    let x := o % 0x01000000
    if 0x800000 ≤ x ∧ x < 0x900000 then
      let y := x - 0x800000
      if 0x1000 ≤ y ∧ y < 0x1200 ∧ y % 8 = 0 then some (regRw (bmask 8 0))
      else if y = 0x1200 then some (regRw (bmask 63 0))
      else if 0x10000 ≤ y ∧ y < 0x12000 then regQueue (y % 0x40)
      else none
    else if 0x900000 ≤ x ∧ x < 0x9000C0 then regCache (x - 0x900000)
    else none
  else if o < 0x0B000000 then regStack (o % 0x01000000)
  else if 0x0C000000 ≤ o ∧ o < 0x0D000000 then regBreaker (o - 0x0C000000)
  else none

/-- The 8-byte register at physical address `pa`. -/
def regDesc (pa : Nat) : Option RegDesc :=
  if pa < 0x40000000 then regDie (pa % 0x10000000)
  else if 0x43000000 ≤ pa ∧ pa < 0x43010000 then regHatch (pa % 0x1000)
  else if 0x45000000 ≤ pa ∧ pa < 0x45001000 then regAtomic (pa % 0x40)
  else if 0x46000000 ≤ pa ∧ pa < 0x46001000 then regBreaker (pa - 0x46000000)
  else if 0x50000000 ≤ pa ∧ pa < 0x50040000 then
    regLetterbox ((pa - 0x50000000) / 0x1000) (pa % 0x1000)
  else none

/-- The reset value of the register at `pa`; 0 where there is none. -/
def regReset (pa : Nat) : BitVec 64 :=
  match regDesc pa with
  | some d => d.reset
  | none => 0

/-- Address of register `o` of queue `q` of global wing `w` (R128). -/
def paQueue (w q o : Nat) : Nat :=
  w / 8 * 0x10000000 + w % 8 * 0x01000000 + 0x810000 + q * 0x40 + o

/-- Address of the owner register of latch block `j` of global wing `w` (R148). -/
def paOwner (w j : Nat) : Nat := w / 8 * 0x10000000 + w % 8 * 0x01000000 + 0x801000 + j * 8

/-- Address of LBAR of global wing `w` (R348). -/
def paLbar (w : Nat) : Nat := w / 8 * 0x10000000 + w % 8 * 0x01000000 + 0x801200

/-- Address of register `o` of the wing cache of global wing `w` (R191). -/
def paCache (w o : Nat) : Nat := w / 8 * 0x10000000 + w % 8 * 0x01000000 + 0x900000 + o

/-- Address of register `o` of the stack controller of stack `j` (R224). -/
def paStack (j o : Nat) : Nat := j / 3 * 0x10000000 + 0x08000000 + j % 3 * 0x01000000 + o

/-- Address of register `o` of Breaker `b` (R413). -/
def paBreaker (b o : Nat) : Nat := (if b < 4 then b * 0x10000000 + 0x0C000000 else 0x46000000) + o

/-- Address of register `o` of HATCH[`h`] (R287). -/
def paHatch (h o : Nat) : Nat := 0x43000000 + h * 0x1000 + o

/-- Address of register `o` of ATOMIC[`k`] (R317). -/
def paAtomic (k o : Nat) : Nat := 0x45000000 + k * 0x40 + o

/-- Address of register `o` of letterbox `m` (R29). -/
def paBox (m o : Nat) : Nat := 0x50000000 + m * 0x1000 + o

end Sys2Proof.Machine
end

