-- ==== Sys2Proof/Machine/Dict.lean ====
section
/-! DEFINITION. The object dictionary's entries: type, access right, power-up default and range
(R360 to R362, R390 and the entry table that ends each chapter). -/

namespace Sys2Proof.Machine

/-- Entry types (Table 14.1). -/
inductive DType where
  | bool | u8 | u16 | u32 | u64 | i32 | f32 | enum | str | blob
deriving DecidableEq, Repr

/-- Access rights (Table 14.2). -/
inductive DAcc where
  | ro | rw | wo | rwq | const
deriving DecidableEq, Repr

/-- The type's code (Table 14.1). -/
def DType.code : DType → Nat
  | .bool => 1 | .u8 => 2 | .u16 => 3 | .u32 => 4 | .u64 => 5 | .i32 => 6 | .f32 => 7 | .enum => 8
  | .str => 9 | .blob => 10

/-- The type's size in bytes; 0 for STR and BLOB. -/
def DType.size : DType → Nat
  | .bool => 1 | .u8 => 1 | .u16 => 2 | .u32 => 4 | .u64 => 8 | .i32 => 4 | .f32 => 4 | .enum => 1
  | .str => 0 | .blob => 0

/-- Whether the entry's value is a run of bytes. -/
def DType.isBytes : DType → Bool
  | .str => true | .blob => true | _ => false

/-- A row of an entry table: indices `i0` to `i1`, subindices `s0` to `s1`, and the range of values a
write may give (for STR and BLOB, of lengths). -/
structure DRow where
  i0  : Nat
  i1  : Nat
  s0  : Nat
  s1  : Nat
  ty  : DType
  acc : DAcc
  d   : Nat
  lo  : Nat
  hi  : Nat
deriving DecidableEq, Repr

/-- The greatest value of a type. -/
def DType.top (t : DType) : Nat := 2 ^ (8 * t.size) - 1

/-- A row whose value is read only. -/
def dRo (i0 i1 s0 s1 : Nat) (t : DType) (d : Nat) : DRow := ⟨i0, i1, s0, s1, t, .ro, d, 0, 0⟩

/-- A CONST row. -/
def dCo (i s : Nat) (t : DType) (d : Nat) : DRow := ⟨i, i, s, s, t, .const, d, 0, 0⟩

/-- A writable row with the range of its type. -/
def dRw (i0 i1 s0 s1 : Nat) (t : DType) (a : DAcc) (d : Nat) : DRow :=
  ⟨i0, i1, s0, s1, t, a, d, 0, if t = .bool then 1 else t.top⟩

/-- A writable row with a range of its own. -/
def dRg (i0 i1 s0 s1 : Nat) (t : DType) (a : DAcc) (d lo hi : Nat) : DRow :=
  ⟨i0, i1, s0, s1, t, a, d, lo, hi⟩

/-- Entries of Table 15.11: identity and boot status. -/
def rows10 : List DRow :=
  [dRo 0x1000 0x1000 1 1 .str 0, dRo 0x1000 0x1000 2 3 .blob 0, dRo 0x1000 0x1000 4 4 .u64 0,
   dRo 0x1000 0x1000 5 5 .u32 0, dRo 0x1010 0x1010 1 1 .enum 0, dRo 0x1010 0x1010 2 2 .u8 0]

/-- The geometry table (Table 1.8) with the defaults of the layout ONE_SUITE and of dies of revision
B0, the clock domains (R23), and the constants of Tables 4.13, 5.16 and 6.6. -/
def rows11 : List DRow :=
  [dRo 0x1100 0x1100 1 1 .enum 0, dRo 0x1100 0x1100 2 2 .u8 1, dRo 0x1100 0x1100 3 3 .u32 0,
   dRo 0x1100 0x1100 4 4 .u8 1, dRo 0x1100 0x1100 5 5 .enum 0, dRo 0x1100 0x1100 6 6 .u8 0x0F,
   dRo 0x1100 0x1100 0x10 0x10 .enum 0, dRo 0x1100 0x1100 0x20 0x20 .enum 0,
   dRo 0x1100 0x1100 0x30 0x30 .enum 0, dRo 0x1100 0x1100 0x40 0x40 .enum 0,
   dRo 0x1100 0x1100 0x11 0x11 .u8 1, dRo 0x1100 0x1100 0x21 0x21 .u8 1,
   dRo 0x1100 0x1100 0x31 0x31 .u8 1, dRo 0x1100 0x1100 0x41 0x41 .u8 1,
   dRo 0x1100 0x1100 0x12 0x12 .enum 0, dRo 0x1100 0x1100 0x22 0x22 .enum 0,
   dRo 0x1100 0x1100 0x32 0x32 .enum 0, dRo 0x1100 0x1100 0x42 0x42 .enum 0,
   dRo 0x1100 0x1100 0x13 0x13 .u64 0, dRo 0x1100 0x1100 0x23 0x23 .u64 0,
   dRo 0x1100 0x1100 0x33 0x33 .u64 0, dRo 0x1100 0x1100 0x43 0x43 .u64 0,
   dRo 0x1100 0x1100 0x50 0x50 .u8 0x0F, dRo 0x1100 0x1100 0x51 0x51 .u16 256,
   dRo 0x1100 0x1100 0x52 0x52 .u16 32, dRo 0x1100 0x1100 0x53 0x53 .u32 1572864,
   dRo 0x1100 0x1100 0x54 0x54 .u32 131072, dRo 0x1100 0x1100 0x55 0x55 .u32 6291456,
   dRo 0x1100 0x1100 0x56 0x56 .u8 12, dRo 0x1100 0x1100 0x57 0x57 .u8 0,
   dRo 0x1100 0x1100 0x58 0x58 .u64 0x001000000000, dRo 0x1100 0x1100 0x59 0x59 .u64 0x00CFFFFFFFFF,
   dRo 0x1100 0x1100 0x5A 0x5A .u16 128, dRo 0x1100 0x1100 0x5B 0x5B .u16 4096,
   dRo 0x1100 0x1100 0x5C 0x5C .u16 512, dRo 0x1100 0x1100 0x5D 0x5D .u8 1,
   dRo 0x1100 0x1100 0x5E 0x5E .u16 0] ++
  ([0x60, 0x70, 0x80].map fun b =>
    [dRo 0x1100 0x1100 b b .u8 0, dRo 0x1100 0x1100 (b + 1) (b + 2) .u16 0,
     dRo 0x1100 0x1100 (b + 3) (b + 5) .u32 0, dRo 0x1100 0x1100 (b + 6) (b + 7) .u8 0,
     dRo 0x1100 0x1100 (b + 8) (b + 9) .u64 0, dRo 0x1100 0x1100 (b + 10) (b + 12) .u16 0,
     dRo 0x1100 0x1100 (b + 13) (b + 13) .u8 0, dRo 0x1100 0x1100 (b + 14) (b + 14) .u16 0]).flatten ++
  [dRo 0x1110 0x1110 1 1 .u32 4000, dRo 0x1110 0x1110 2 2 .u32 800000,
   dRo 0x1110 0x1110 3 6 .u32 3200000, dRo 0x1110 0x1110 7 7 .u32 2000000,
   dRo 0x1110 0x1110 8 8 .u32 1200000, dRo 0x1110 0x1110 9 9 .u32 800000,
   dRo 0x1110 0x1110 10 13 .u32 1800000, dRo 0x1110 0x1110 14 17 .u32 1200000,
   dRo 0x1110 0x1110 18 29 .u32 1200000, dRo 0x1110 0x1110 30 37 .u32 2000000,
   dRo 0x1110 0x1110 38 40 .u32 1750000,
   dCo 0x1120 1 .u16 4096, dCo 0x1120 2 .u8 8, dCo 0x1120 3 .u8 4,
   dCo 0x1130 1 .u8 16, dCo 0x1130 2 .u8 32, dCo 0x1130 3 .u32 65536, dCo 0x1130 4 .u8 8,
   dCo 0x1140 1 .u8 64, dCo 0x1140 2 .u8 64, dCo 0x1140 3 .u16 256, dCo 0x1140 4 .u32 64000]

/-- Entries of Table 13.10: power, fleet, bands, Hearth, stretch, sleep. -/
def rows20 : List DRow :=
  [dRg 0x2000 0x2000 1 1 .u32 .rw 1500 1200 3000, dCo 0x2000 2 .u32 3400, dCo 0x2000 3 .u32 10000,
   dRg 0x2000 0x2000 4 4 .u32 .rw 85 40 85, dRo 0x2000 0x2000 5 5 .enum 0,
   dRo 0x2001 0x2001 1 2 .u32 0, dRo 0x2001 0x2001 3 4 .f32 0, dRo 0x2001 0x2001 5 5 .u64 0,
   dRo 0x2010 0x2010 1 29 .u32 0, dRo 0x2011 0x2011 1 29 .u32 0, dRo 0x2012 0x2012 1 29 .u64 0,
   dRg 0x2020 0x2020 1 4 .u16 .rw 3200 400 3200, dRo 0x2021 0x2021 1 4 .u16 3200,
   dRw 0x2100 0x2100 1 4 .u32 .rw 0, dRg 0x2101 0x2101 1 4 .u16 .rw 1800 600 2000,
   dRg 0x2102 0x2102 1 4 .enum .rw 0 0 1, dRg 0x2103 0x2103 1 4 .enum .rw 0 0 1,
   dRw 0x2104 0x2104 1 4 .u16 .rw 100, dRg 0x2105 0x2105 1 4 .u8 .rw 10 1 50,
   dRo 0x2106 0x2108 1 4 .u32 0,
   dRo 0x2200 0x2200 1 5 .enum 0, dRo 0x2201 0x2201 1 5 .u8 0, dRo 0x2202 0x2202 1 5 .u32 0,
   dRg 0x2300 0x2300 1 1 .u8 .rw 50 10 100, dRg 0x2300 0x2300 2 2 .u8 .rw 80 0 95,
   dRg 0x2300 0x2300 3 3 .u8 .rw 10 1 100, dRg 0x2300 0x2300 4 4 .u16 .rw 20 5 1000,
   dRg 0x2300 0x2300 5 5 .u32 .rw 200 1 10000, dRw 0x2300 0x2300 6 6 .bool .rw 1,
   dRo 0x2300 0x2300 7 7 .enum 0, dRo 0x2300 0x2300 8 8 .u64 0,
   dRo 0x2400 0x2400 1 32 .u32 0, dRo 0x2401 0x2402 1 32 .u64 0,
   dRg 0x2403 0x2403 1 1 .u8 .rw 6 3 12, dRw 0x2500 0x2500 1 1 .bool .rw 1,
   dRw 0x2500 0x2500 2 2 .u32 .rw 100]

/-- Entries of Tables 7.9, 8.12, 9.13 and of 0x3019 (Table 11.14). -/
def rows30 : List DRow :=
  [dRo 0x3010 0x3010 1 12 .enum 0, dRo 0x3011 0x3011 1 12 .u8 0, dRo 0x3012 0x3014 1 12 .u32 0,
   dRg 0x3015 0x3015 1 12 .u16 .rw 24 0 168, dRw 0x3016 0x3016 1 12 .bool .rwq 0,
   dRo 0x3017 0x3017 1 12 .u8 0, dRo 0x3018 0x3018 1 12 .u64 0,
   dRg 0x3019 0x3019 1 12 .enum .rw 0 0 1,
   dRo 0x3020 0x3020 1 12 .u32 0, dRo 0x3021 0x3021 1 8 .u32 0,
   dRw 0x3100 0x3100 1 1 .u64 .rwq 0, dRw 0x3100 0x3100 2 2 .bool .rw 0,
   dRg 0x3100 0x3100 3 3 .u8 .rw 16 1 255, dRw 0x3100 0x3100 4 4 .u32 .rw 1024,
   dRw 0x3100 0x3100 5 5 .u32 .rw 4096, dRg 0x3100 0x3100 6 6 .u8 .rw 50 0 90,
   dCo 0x3100 7 .u32 1711276032, dRo 0x3100 0x3100 8 8 .enum 0,
   dRw 0x3101 0x3101 1 12 .u32 .rwq 0, dRg 0x3102 0x3102 1 12 .u32 .rwq 0 0 524288,
   dRo 0x3103 0x3103 1 5 .u32 0, dRo 0x3110 0x3111 1 5 .u64 0, dRo 0x3112 0x3112 1 2 .u32 0,
   dRo 0x3112 0x3112 3 5 .u64 0, dRo 0x3120 0x3121 1 128 .u32 0,
   dRo 0x3130 0x3130 1 1 .enum 0, dRo 0x3130 0x3130 2 3 .u64 0, dRo 0x3130 0x3130 4 5 .u32 0,
   dRo 0x3130 0x3130 6 7 .u8 0]

/-- Entries of Tables 12.10 and 14.14: fabric, discovery, steps, segment, events, routing. -/
def rows40 : List DRow :=
  [dRg 0x4000 0x4000 1 3 .enum .rw 3 0 3, dRo 0x4001 0x4001 1 3 .enum 0,
   dRg 0x4002 0x4002 1 1 .u32 .rw 1048576 65536 4194304, dRw 0x4002 0x4002 2 2 .u32 .rw 8000,
   dRw 0x4002 0x4002 3 3 .u32 .rw 16000, dRw 0x4002 0x4002 4 4 .u32 .rw 10000,
   dRo 0x4003 0x4003 1 3 .u64 0, dRo 0x4005 0x4005 1 3 .u64 0, dRo 0x4006 0x4006 1 4 .u32 0,
   dRo 0x4007 0x4007 1 1 .u64 0, dRg 0x4010 0x4010 1 1 .blob .rw 0 0 32,
   dRo 0x4010 0x4010 2 2 .u16 0xFFFF, dRg 0x4010 0x4010 3 3 .str .rw 0 0 256,
   dRo 0x4010 0x4010 4 4 .u32 0, dRw 0x4010 0x4010 5 5 .u16 .rw 5712, dRw 0x4010 0x4010 6 6 .u16 .rw 0,
   dRo 0x4011 0x4011 1 3 .blob 0, dRo 0x4012 0x4012 1 3 .str 0, dRw 0x4041 0x4041 1 12 .bool .rw 0,
   dRw 0x4042 0x4042 1 1 .u32 .rw 0, dRo 0x4100 0x411F 1 128 .u64 0, dRo 0x4180 0x419F 1 128 .blob 0,
   dRo 0x4300 0x4300 1 1 .enum 0, dRo 0x4300 0x4300 2 2 .i32 0, dRw 0x4300 0x4300 3 3 .bool .rw 1,
   dRw 0x4300 0x4300 4 4 .u8 .rw 0,
   dRg 0x4310 0x4310 1 1 .u32 .rwq 1000000 100000 100000000, dRo 0x4310 0x4310 2 2 .u64 0,
   dRo 0x4310 0x4310 3 3 .enum 0, dRo 0x4310 0x4310 4 4 .i32 0, dRo 0x4310 0x4310 5 7 .u32 0,
   dRw 0x4310 0x4310 8 9 .bool .rw 1,
   dRo 0x4400 0x4400 1 1 .enum 0, dRo 0x4400 0x4400 2 2 .u8 0, dRg 0x4400 0x4400 3 3 .u8 .rw 16 2 64,
   dRw 0x4400 0x4400 4 4 .u8 .rw 32, dRw 0x4400 0x4400 5 5 .u8 .rw 0, dRw 0x4400 0x4400 6 6 .u16 .rw 5710,
   dRo 0x4400 0x4400 7 7 .enum 0, dRo 0x4400 0x4400 8 8 .str 0, dRo 0x4404 0x4404 1 64 .u64 0,
   dRo 0x4410 0x4410 1 1 .u64 0, dRo 0x4410 0x4410 2 2 .u32 0,
   dRg 0x4420 0x4420 1 1 .u8 .rw 0 0 63, dRw 0x4420 0x4420 2 2 .bool .rw 1, dRw 0x4420 0x4420 3 3 .bool .rw 0,
   dRw 0x4420 0x4420 4 4 .u16 .rw 0x07FE, dRo 0x4420 0x4420 5 5 .u32 0,
   dRw 0x4430 0x4430 1 5 .u16 .rw 0xFFFF]

/-- Entries of Tables 3.14, 4.13, 7.9, 11.14 and 16.8: faults, hallways, array checks, link losses. -/
def rows50 : List DRow :=
  [dRw 0x5000 0x5000 1 5 .u8 .rw 0, dRo 0x5010 0x5014 1 20 .u64 0, dRo 0x5020 0x5020 1 3 .u64 0,
   dRo 0x5020 0x5020 4 4 .u8 0, dRw 0x5020 0x5020 5 5 .bool .wo 0, dRo 0x5020 0x5020 6 6 .u32 0,
   dRo 0x5040 0x5040 1 25 .u64 0, dRo 0x5200 0x5207 1 1 .enum 0, dRo 0x5200 0x5207 2 2 .u32 0,
   dRo 0x5200 0x5207 3 4 .u64 0, dRo 0x5208 0x5208 1 3 .u32 0, dRo 0x5210 0x5223 1 64 .u32 0,
   dRo 0x5230 0x5233 1 8 .u16 0, dRo 0x5234 0x523B 1 8 .u32 0,
   dRo 0x5300 0x5300 1 2 .u32 0, dRo 0x5300 0x5300 3 3 .u64 0, dRw 0x5300 0x5300 4 4 .bool .wo 0,
   dRo 0x5300 0x5300 5 5 .blob 0, dRo 0x5301 0x5301 1 4 .u32 0]

/-- Entries of Tables 13.10 (the ledger) and 15.11 (sessions). -/
def rows60 : List DRow :=
  [dRw 0x6000 0x6000 1 1 .u64 .rwq 0, dRg 0x6000 0x6000 2 2 .u8 .rwq 10 6 20,
   dRw 0x6000 0x6000 3 3 .u32 .rw 0, dRo 0x6000 0x6000 4 4 .u32 0, dRw 0x6000 0x6000 5 5 .u64 .rw 0,
   dRw 0x6000 0x6000 6 6 .u32 .rw 0, dRw 0x6000 0x6000 7 7 .bool .rw 0, dRo 0x6000 0x6000 8 8 .u32 0,
   dRo 0x6010 0x6010 1 3 .u64 0, dRo 0x6010 0x6010 4 4 .enum 1, dRo 0x6010 0x6010 5 5 .f32 0,
   dRw 0x6010 0x6010 6 6 .f32 .rw 0x40000000, dRo 0x6010 0x6010 7 7 .f32 0, dRo 0x6010 0x6010 8 8 .u32 0,
   dRw 0x6100 0x6101 1 128 .u64 .rw 0, dRo 0x6102 0x6103 1 128 .u64 0, dRo 0x6110 0x6110 1 24 .f32 0,
   dRo 0x7000 0x7000 1 1 .u8 0, dRg 0x7010 0x7010 1 8 .blob .rw 0 0 32, dRo 0x7020 0x7020 1 1 .blob 0]

/-- Entries of Tables 1.13, 2.13, 5.16, 10.9, 11.14 and 14.14: layout, windows, epochs, contexts. -/
def rows80 : List DRow :=
  [dRg 0x8000 0x8000 1 1 .enum .rwq 0 0 2, dRw 0x8010 0x8010 1 4 .i32 .rw 32,
   dRg 0x8011 0x8011 1 4 .u8 .rw 9 4 24, dRo 0x8020 0x8021 1 32 .u32 0,
   dRo 0x8030 0x8033 1 2 .u8 0, dRo 0x8030 0x8033 3 3 .enum 0, dRw 0x8030 0x8033 4 4 .u8 .wo 0,
   dRw 0x8030 0x8033 5 5 .u64 .wo 0, dRw 0x8030 0x8033 6 6 .bool .wo 0, dRo 0x8030 0x8033 7 8 .u16 0,
   dRo 0x8030 0x8033 9 9 .u64 0, dRo 0x8030 0x8033 10 10 .i32 32, dRo 0x8030 0x8033 11 11 .u8 9,
   dRo 0x8038 0x8038 1 32 .u8 0, dRo 0x8039 0x803A 1 128 .u8 0,
   dRw 0x8100 0x8100 1 1 .u64 .rwq 0, dRw 0x8100 0x8100 2 2 .bool .rw 0, dRo 0x8100 0x8100 3 3 .u32 0,
   dRg 0x8101 0x8102 1 128 .enum .rw 0 0 2,
   dRw 0x8110 0x8113 1 1 .u64 .rwq 0, dRg 0x8110 0x8113 2 2 .u8 .rwq 6 6 16, dRw 0x8110 0x8113 3 3 .u64 .rw 0,
   dRw 0x8110 0x8113 4 4 .u32 .rw 0, dRw 0x8110 0x8113 5 5 .u16 .rw 0, dRo 0x8110 0x8113 6 6 .u16 0,
   dRw 0x8110 0x8113 7 7 .u64 .wo 0, dRw 0x8110 0x8113 8 8 .bool .rw 0,
   dRo 0x8120 0x8122 1 4 .u64 0, dRw 0x8130 0x8130 1 16 .u64 .rwq 0xC]

/-- Entries of Tables 15.11, 8.12 and 17.5: firmware, resets, test. -/
def rows90 : List DRow :=
  [dRo 0x9000 0x9000 1 2 .u32 0, dRo 0x9000 0x9000 3 4 .blob 0, dRo 0x9000 0x9000 5 5 .u32 0,
   dRw 0x9000 0x9000 6 6 .bool .wo 0, dRg 0x9010 0x9010 1 1 .enum .rw 1 1 2, dRw 0x9010 0x9010 2 2 .u16 .rw 0,
   dRw 0x9010 0x9010 3 3 .u64 .rw 0, dRw 0x9010 0x9010 4 4 .u32 .rw 0,
   dRg 0x9020 0x9020 1 8 .enum .wo 0 1 2, dRw 0x9021 0x9021 1 4 .bool .rw 0, dRw 0x9022 0x9022 1 4 .u64 .wo 0,
   dRo 0xA000 0xA000 1 1 .enum 0, dRw 0xA000 0xA000 2 2 .bool .wo 0, dRw 0xA000 0xA000 3 3 .bool .rw 0,
   dRo 0xA000 0xA000 4 4 .blob 0,
   dRw 0xA100 0xA100 1 1 .u16 .rw 0, dRg 0xA100 0xA100 2 2 .enum .rw 2 0 4, dRg 0xA100 0xA100 3 3 .enum .rw 0 0 2,
   dRg 0xA100 0xA100 4 4 .u64 .rw 1000000000000 1000000 1000000000000000, dRw 0xA100 0xA100 5 5 .bool .wo 0,
   dRo 0xA100 0xA100 6 6 .enum 0, dRo 0xA100 0xA100 7 7 .blob 0, dRo 0xA100 0xA100 8 8 .u32 0,
   dRg 0xA300 0xA300 1 1 .u8 .rw 0 0 11, dRg 0xA300 0xA300 2 2 .u8 .rw 0 0 15, dRg 0xA300 0xA300 3 3 .u8 .rw 0 0 1,
   dRg 0xA300 0xA300 4 4 .u8 .rw 0 0 15, dRg 0xA300 0xA300 5 5 .u32 .rw 0 0 65535,
   dRg 0xA300 0xA300 6 6 .enum .rw 0 0 4, dRg 0xA300 0xA300 7 7 .u16 .rw 0 0 127, dRw 0xA300 0xA300 8 8 .bool .wo 0,
   dRo 0xA300 0xA300 9 9 .enum 0, dRo 0xA300 0xA300 10 10 .u32 0]

/-- The rows of the entry tables whose indices lie in the thousand that `i` lies in (Table 14.13). -/
def dictRows (i : Nat) : List DRow :=
  match i / 0x1000 with
  | 1 => if i < 0x1100 then rows10 else rows11
  | 2 => rows20
  | 3 => rows30
  | 4 => rows40
  | 5 => rows50
  | 6 => rows60
  | 7 => rows60
  | 8 => rows80
  | 9 => rows90
  | 10 => rows90
  | _ => []

/-- The highest subindex of an index; 0 where the index does not exist (R360). -/
def dictHighest (i : Nat) : Nat :=
  (dictRows i).foldl (fun m r => if r.i0 ≤ i ∧ i ≤ r.i1 then max m r.s1 else m) 0

/-- The entry `i.s` (R362): its row, with the CONST entry 0x00 that R360 gives every index. -/
def dictEntry (i s : Nat) : Option DRow :=
  if s = 0 then
    if dictHighest i = 0 then none else some (dCo i 0 .u8 (dictHighest i))
  else (dictRows i).find? fun r => r.i0 ≤ i && i ≤ r.i1 && r.s0 ≤ s && s ≤ r.s1

/-- The power-up default of an entry that is a number; 0 for one that does not exist. -/
def dictDefault (i s : Nat) : Nat :=
  match dictEntry i s with
  | some r => r.d
  | none => 0

/-- The power-up default of an entry that is a run of bytes: "ff02::1" for the discovery address (Table 12.10). -/
def dictBytes (i s : Nat) : Bytes :=
  if i = 0x4010 ∧ s = 3 then [0x66#8, 0x66#8, 0x30#8, 0x32#8, 0x3A#8, 0x3A#8, 0x31#8] else []

/-- The key under which the state holds entry `i.s`. -/
def dictKey (i s : Nat) : Nat := i * 256 + s

end Sys2Proof.Machine
end

