-- ==== Sys2Proof/Config.lean ====
section
/-! DEFINITION. What a module has been built with, and the values the manual leaves open. Each
constant here is opaque: no proof can see its value. -/

namespace Sys2Proof.Config

/-- A number the manual leaves open, drawn afresh at each count (R165, R190, R180, R435). -/
opaque freeNat : Nat → Nat

/-- The three stored copies of the Deed block (R393). No command changes them: the Cellar controller
refuses every erase or program of their pages. -/
opaque deedCopy : Nat → Bytes

/-- The identity public key that the PUF of this module yields (R394). -/
opaque pufKey : Bytes

/-- SHA-512 (FIPS 180-4), named by the manual and not restated there. -/
opaque sha512 : Bytes → Bytes

/-- HMAC-SHA-512 of a message under a key (R404). -/
opaque hmac512 : Bytes → Bytes → Bytes

/-- HMAC-SHA-512/256 of a message under a key, the tag of R370. -/
opaque hmac512t : Bytes → Bytes → Bytes

/-- The ephemeral X25519 public key, and the nonce, that the module takes for the session of a count (R404). -/
opaque sessionEph : Nat → Bytes
/-- The module's nonce for the session of a count. -/
opaque sessionNonce : Nat → Bytes

/-- Whether an Ed25519 signature verifies: public key, message, signature. -/
opaque ed25519 : Bytes → Bytes → Bytes → Bool

/-- The Ed25519 signature that the module's identity key makes over a message (R324). -/
opaque idSign : Bytes → Bytes

/-- The X25519 shared secret of the module's ephemeral key of a session and a peer's public key. -/
opaque x25519 : Nat → Bytes → Bytes

/-- The Ed25519 signature the module's alias key makes over a message (R398, R403). -/
opaque aliasSign : Bytes → Bytes

/-- The four vendor public keys whose hashes the mask ROM holds in its slots (R396). -/
opaque vendorKey : Nat → Bytes

/-- The vendor root certificate, first of the chain of slot 0 (R403). -/
opaque vendorCert : Bytes

/-- The version number of the mask ROM (Tables 15.3 and 15.11). -/
opaque romVersion : BitVec 32

/-- SHA-512 of the mask ROM itself, measurement 1 of Table 15.5. -/
opaque romHash : Bytes

/-- The alias certificate of the running image (R398). -/
opaque aliasCert : Bytes → Bytes

/-- Whether an interrupt file of a host core lies at an address of the host die window (R300). -/
opaque interruptFile : Nat → Bool

/-- The coefficients c ≥ 0 of the 24 activity classes, in units of 2^-32 nJ, that minimise the weighted squares of R355
over the steps so far: meter energy in µJ and feature vector of each, the newest first. -/
opaque fitted : List (Int × List Nat) → List Nat
/-- The nominal coefficients that the firmware image carries (R355). -/
opaque nominal : List Nat
/-- The input power in mW that the coefficients predict for the Hearth's activity in a number of rooms (R332). -/
opaque hearthMw : List Nat → Nat → Nat
/-- What they predict that one step of 200 MHz saves on a host core cluster whose grant is as given (R332). -/
opaque hcoreMw : List Nat → Nat → Nat
/-- What they predict that one sixteenth more of power-skip duty saves on a compute die at a CARITH frequency (R332). -/
opaque skipMw : List Nat → Nat → Nat

/-- The setpoint in mV of VHC at a grant in MHz (Table 13.1). -/
opaque vhcSetpoint : Nat → Nat

/-- The setpoint in mV of VARR at a CARITH frequency in MHz (R330, R334). -/
opaque varrSetpoint : Nat → Nat

end Sys2Proof.Config
end

