-- ==== Sys2Proof/Machine/State.lean ====
section
/-! DEFINITION. The state of the module as plain data, and the state after reset. What is numbered
(rooms, wings, stacks, latches, dictionary entries, control registers) is kept in sparse tables; an
entry that a table does not list holds the default that its accessor names. -/

namespace Sys2Proof.Machine

/-! ### Queues, commands and rooms -/

/-- The states of a command in flight (Table 5.12). A command whose record is written is DONE and no
longer held. -/
inductive CmdState where
  | fetched | waiting | issued | running | committed
deriving DecidableEq, Repr

/-- A dirty extent (R158): byte addresses, `hi` exclusive. -/
structure Dirty where
  larder : Bool
  lo     : Nat
  hi     : Nat
deriving DecidableEq, Repr

/-- A command in flight (R142, R161). `pos` is how far its engine has come, `pages` are the tier tiles that
it holds (R256), `remote` counts the operations it still waits for in other modules, `busy` says that a tile
of a TIER_RELEASE is being programmed (R259), `wrote` lists what it has written outside its die's stacks: line, output
tile and the address of the line as the command names it (R304). -/
structure Cmd where
  id       : Nat
  queue    : Nat
  ctx      : Nat
  words    : List (BitVec 64)
  st       : CmdState
  status   : Option (BitVec 5)
  num      : BitVec 8
  vfl      : BitVec 8
  prog     : Nat
  dirty    : Option Dirty
  win      : Option Int
  bWin     : Int
  bHead    : Int
  bOrd     : Bool
  abSlot   : Bool
  awaiting : List Nat
  awaitBad : Bool
  issueNo  : Nat
  remote   : Nat
  pages    : List Nat
  pos      : Nat
  absorbed : Bool
  busy     : Bool
  wrote    : List (Nat × Nat × Nat)
deriving DecidableEq, Repr

/-- A stationary slot (R65, R69): element codes and scale codes by (row, column), the checksum values
S_k of R82 as (mantissa, exponent), and the status the last load ended with. -/
structure Slot where
  loaded : Bool
  status : BitVec 5
  fmt    : BitVec 4
  kc     : Nat
  bc     : Nat
  x      : List (List (BitVec 16 × BitVec 8))
  sums   : List (Int × Int)
deriving DecidableEq, Repr

/-- An accumulator bank (R66). Position (n, b) is key 64 n + b; a position not listed is 0. `code`
holds, per 16-byte code word of R456, the stored check bits' difference from the valid ones. -/
structure Bank where
  chain : Bool
  w     : Int
  cls   : Nat
  count : Nat
  acc   : Tab Int
  nar   : List Nat
  code  : Tab (BitVec 16)
deriving DecidableEq, Repr

/-- How far the pass in the array has come (R67, R84, R86). -/
inductive PassStage where
  | streaming | judged
deriving DecidableEq, Repr

/-- The MATMUL in the array: its pass, the execution of that pass (0 first, else second), and the pass
buffer P with the special positions of R45; `counted` says that a skipped check of the pass has been counted (R85). -/
structure PassRun where
  cmd     : Nat
  pass    : Nat
  exec    : Nat
  stage   : PassStage
  held    : Bool
  counted : Bool
  win     : Int
  rows    : Nat
  buf     : List (List Int)
  special : List Nat
  colSums : List Int
  rowSums : List Int
  skipCol : Bool
  skipRow : Bool
  flags   : BitVec 8
deriving DecidableEq, Repr

/-- A DRAIN in progress: groups of 32 rows written so far (R90), and its poison (R89). -/
structure DrainRun where
  cmd    : Nat
  group  : Nat
  poison : Bool
deriving DecidableEq, Repr

/-- A LOAD_STATIONARY whose cells are being written (R69). -/
structure LoadRun where
  cmd    : Nat
  slotNo : Nat
  poison : Bool
  slot   : Slot
deriving DecidableEq, Repr

/-- A loop of the running program (R124): first and last instruction of the body, iterations left. -/
structure LoopFrame where
  first : Nat
  last  : Nat
  left  : Nat
deriving DecidableEq, Repr

/-- The load that the program waits in (R124): whether its lines may still enter the Shelf (R165). -/
structure PendingLoad where
  fill : Bool
deriving DecidableEq, Repr

/-- The vector engine of a room (Table 4.1) and its running program. -/
structure VEngine where
  running : Bool
  cmd     : Nat
  prog    : List (BitVec 64)
  pc      : Nat
  loops   : List LoopFrame
  v       : Tab (BitVec 2048)
  vp      : Tab (BitVec 64)
  s       : Tab (BitVec 64)
  sp      : BitVec 16
  p       : Tab (BitVec 64)
  flags   : BitVec 16
  marks   : BitVec 32
  load    : Option PendingLoad
deriving DecidableEq, Repr

/-- A row of a drain port (R121): its row slot (Table 16.9), its 64 lanes and their poison bits, the check
differences of its 16-byte words (by word 0-15), and the context that delivered it. -/
structure PortRow where
  slot  : Nat
  lanes : BitVec 2048
  bad   : BitVec 64
  code  : Tab (BitVec 16)
  ctx   : Nat
deriving DecidableEq, Repr

/-- A streaming-store tracker (R194). -/
structure Tracker where
  last      : Nat
  run       : Nat
  streaming : Bool
deriving DecidableEq, Repr

/-- A translation held in a TLB (R274, R275): context, first virtual byte, size, first physical byte,
and whether it permits reads, writes, and writes to a page already dirty. -/
structure TlbEntry where
  ctx  : Nat
  va   : Nat
  size : Nat
  pa   : Nat
  r    : Bool
  w    : Bool
  d    : Bool
deriving DecidableEq, Repr

/-- A room (Table 1.4): its slots, accumulator store, vector engine, drain port, Shelf, Larder, µTLB
and engine queues. The engine queues hold command ids, oldest first; `ended` holds the matrix commands that ended before
their issue, each with the issued ones that still come before it (R70, R122). -/
structure Room where
  slot0    : Slot
  slot1    : Slot
  bank0    : Bank
  bank1    : Bank
  bank2    : Bank
  bank3    : Bank
  passRun  : Option PassRun
  drainRun : Option DrainRun
  loadRun  : Option LoadRun
  ve       : VEngine
  port     : List PortRow
  shelf    : Tab LineData
  scode    : Tab (BitVec 16)
  larder   : List Host.Cell
  lcode    : Tab (BitVec 16)
  utlb     : List TlbEntry
  mq       : List Nat
  vq       : List Nat
  cq       : List Nat
  testing  : Bool
  trk0     : Tracker
  trk1     : Tracker
  trk2     : Tracker
  ranCtx   : List Nat
  hearth   : Bool
  ended    : List (List Nat × Cmd)
deriving DecidableEq, Repr

/-- The states of a wing (R353). -/
inductive WingPower where
  | running | sleeping | waking
deriving DecidableEq, Repr

/-- A wing (Table 1.4): its dispatcher, scoreboard latches and wing TLB. `phase` holds the queues
whose completion ring is on a pass that writes PHASE 0 (R152). `ordPrev` holds the queues whose
ordering mode for the epoch before the applied one is compatible (R139). `held` holds the commands that
were counted as held on an epoch; `failed` the engine queues (queue, 3 × room + engine) in which a command of the queue has
failed since the queue's last RESET (R150); `loose` the commands, with their queues, whose records were written before other modules
had performed all they sent (R151, R172). -/
structure Wing where
  cmds     : List Cmd
  nextId   : Nat
  issueNo  : Nat
  rr       : Nat
  latches  : Tab (BitVec 32)
  seen     : List (Nat × BitVec 32)
  phase    : List Nat
  ordPrev  : List Nat
  held     : List Nat
  failed   : List (Nat × Nat)
  tlb      : List TlbEntry
  power    : WingPower
  droop    : Bool
  droopRun : Nat
  stretch  : Nat
  loose    : List (Nat × Nat)
deriving DecidableEq, Repr

/-! ### Caches, homes and stacks -/

/-- The states of a line in a caching agent (Table 7.3); a line not held is I. -/
inductive Mesi where
  | s | e | m
deriving DecidableEq, Repr

/-- A line of a caching agent: its state, way, data, and the house time of its arrival while a hold that began
there has not been ended (R205). -/
structure CLine where
  st   : Mesi
  way  : Nat
  hold : Option Nat
  l    : LineData
deriving DecidableEq, Repr

/-- A line in the Landing (R195); `sent` is SENT, otherwise HELD. -/
structure LandLine where
  line : Nat
  l    : LineData
  sent : Bool
deriving DecidableEq, Repr

/-- A directory entry (Table 7.4) with the order in which entries were allocated (R199). A line with
no entry is in U. -/
inductive DirState where
  | shared (v : BitVec 40)
  | owned (o : Nat)
deriving DecidableEq, Repr

/-- A directory entry and its allocation number. -/
structure DirEntry where
  st  : DirState
  age : Nat
deriving DecidableEq, Repr

/-- A request that arrives at a home (Tables 7.4, 7.5); `inval` is a home's own back-invalidation of a line whose
entry the line `for_` needs (R199). -/
inductive HomeReq where
  | rds (a : Nat)
  | rdx (a : Nat)
  | upg (a : Nat)
  | wro (a : Nat)
  | rdo (src : BitVec 16)
  | wrf (src : BitVec 16) (l : LineData) (place : Option Nat)
  | wrp (src : BitVec 16) (mask : BitVec 64) (l : LineData)
  | red (src : BitVec 16) (pa : Nat) (op : BitVec 8) (x : BitVec 128) (psn : Bool)
  | inval (for_ : Nat)
deriving DecidableEq, Repr

/-- The transaction in progress on a line (R200): the request, the agents whose answer is awaited,
the dirty data returned, and what the answers leave in the directory. -/
structure Txn where
  req   : HomeReq
  wait  : List Nat
  dirty : Option LineData
  keep  : List Nat
deriving DecidableEq, Repr

/-- The coherence messages in flight between agents and homes (Table 7.5), by their destination. -/
inductive Msg where
  | snps (a line : Nat)
  | snpi (a line : Nat)
  | push (a line : Nat) (l : LineData)
  | ack (a line : Nat)
  | ackd (a line : Nat) (l : LineData)
  | nh (a line : Nat)
  | nhw (a line : Nat)
  | gnts (a line : Nat) (l : LineData)
  | gnte (a line : Nat) (l : LineData)
  | gntm (a line : Nat) (l : LineData)
  | gnto (a line : Nat)
  | data (src : BitVec 16) (line : Nat) (l : LineData)
  | cmp (src : BitVec 16) (line : Nat)
  | wb (a line : Nat) (l : LineData)
  | landAck (a line : Nat)
deriving DecidableEq, Repr

/-- A caching agent: wing caches 0-31 and last-level cache slices 32-39. `waysRun` holds, per way,
the start of its current run of corrected errors in CFAB cycles (R193). `op` is the wing cache
operation in progress (R191); `snoops` are snoops that wait for a hold to end (R205); `fills` are grants that
have arrived and wait for a way or a Landing entry (R190, R195); `code` holds the check differences of stored
words of lines and of the Landing, by word address. -/
structure Cache where
  lines   : Tab CLine
  code    : Tab (BitVec 16)
  landing : List LandLine
  waysRun : Tab Nat
  op      : Nat
  snoops  : List (Nat × Bool)
  fills   : List Msg
deriving DecidableEq, Repr

/-- A reduce line (R179): the line, the scope code of its atomics, its copy with the check differences of its
words (by word 0-3), and its last update. -/
structure RLine where
  line  : Nat
  scope : Nat
  l     : LineData
  code  : Tab (BitVec 16)
  time  : Nat
deriving DecidableEq, Repr

/-- What one stack's controller holds beside its registers and memory: the time from which every
temperature sample has been low enough for NORMAL and for EXTENDED (R220), the write buffer of CRITICAL (R222),
open rows and refresh (R208, R221), the patrol pointer (R218), the merge buffer with the check differences of its
words (R231), the dirty masks of its pool frames (R245), what repairs have used (R225: bank, kind, place), the bank and
the repair in progress (R436), and the engine commands (wing, id) that have an access held here (R347). -/
structure Stack where
  coolAt   : Option Nat
  mildAt   : Option Nat
  critAt   : Option Nat
  wbBuf    : List (Nat × LineData)
  openRow  : Tab Nat
  refresh  : Tab Nat
  patrol   : Nat
  merge    : List (Nat × LineData)
  mcode    : Tab (BitVec 16)
  qd       : Tab (BitVec 4)
  repairs  : List (Nat × Nat × Nat)
  bankHold : Option Nat
  repairing : Option (Nat × Nat)
  scrubbing : Bool
  undefined : Bool
  waiters  : List (Nat × Nat)
deriving DecidableEq, Repr

/-- Work that waits, in arrival order, for a stack that is held (R222, R436) or a hallway that is training (R302): a
request at a home, an interrupt write from die `src`, an access of a host core, an inbound PCIe request, a write of an
agent to control space, or the next operation of another module. `fence` is an SFENCE.VMA whose core waits for accesses through removed entries (R283). -/
inductive Later where
  | req (line : Nat) (r : HomeReq)
  | msi (src pa v : Nat)
  | load (core : Nat) (kind : LoadKind) (pa n : Nat)
  | store (core : Nat) (kind : StoreKind) (pa n v : Nat)
  | pcieRead (pa len : Nat) (noSnoop : Bool)
  | pcieWrite (pa : Nat) (bytes : Bytes) (ep : Bool) (tph : Option Nat)
  | write (agent : BitVec 16) (pa size v : Nat)
  | remote (peer : Nat)
  | fence
deriving DecidableEq, Repr

/-! ### Tier range -/

/-- A tile's state (Table 9.2). -/
inductive TileState where
  | absent | filling | resident | evicting
deriving DecidableEq, Repr

/-- A frame that is not free (Table 9.3). -/
structure Frame where
  tile   : Nat
  st     : TileState
  mark   : Bool
  pin    : Bool
  pinctx : Nat
  fctx   : Nat
  age    : Nat
  holds  : Nat
deriving DecidableEq, Repr

/-- A fill that waits for a frame (R249): tile, requesting die (4: host die), suite, context. -/
structure FillReq where
  tile  : Nat
  die   : Nat
  suite : Nat
  ctx   : Nat
deriving DecidableEq, Repr

/-- The Dumbwaiter's state and the Cellar: tiles by number, frames by frame number, fills waiting, tiles with a
reference waiting on their eviction (R248: who, as a key, and the tile), the entries of the lookup buffers (R238, R252:
die, tile and mark bit), the flash contents by aperture offset and its poisoned words, whether evictions run up to the high watermark (R253), the accesses that
wait on a tile (R257): who (as a key), tile, die and the time from which they wait, the pins that a
TIER_PREFETCH asked for on tiles not yet RESIDENT (R255): tile and context, the frames whose pins are still to be
cleared because their context was destroyed or killed (R255), the step boundaries since the last tick of ages (R252), and all the bytes ever programmed (R262). -/
structure Tier where
  tiles   : Tab (TileState × Nat)
  frames  : Tab Frame
  waiting : List FillReq
  refs    : List (Nat × Nat)
  marks   : List (Nat × Nat × Bool)
  cellar  : List Host.Cell
  ccode   : Tab (BitVec 16)
  evictOn : Bool
  stalls  : List (Nat × Nat × Nat × Nat)
  pinsDue : List (Nat × Nat)
  pinsOwed : List Nat
  bounds  : Nat
  worn    : Nat
deriving DecidableEq, Repr

/-! ### Translation -/

/-- A segment in force (Table 10.2). -/
structure Segment where
  i     : Nat
  paged : Bool
  pr    : Bool
  pw    : Bool
  vbase : Nat
  last  : Nat
  pbase : Nat
deriving DecidableEq, Repr

/-- A context that is ACTIVE or KILLED: its suite, root and segments (R265 to R269). -/
structure Context where
  suite  : Nat
  ptmode : Nat
  root   : Nat
  segs   : List Segment
deriving DecidableEq, Repr

/-- A walk in progress (R274): die, context, page, and the access that waits on it. -/
structure Walk where
  die    : Nat
  ctx    : Nat
  page   : Nat
  va     : Nat
  access : Nat
  agent  : BitVec 16
  wing   : Nat
  cmd    : Nat
deriving DecidableEq, Repr

/-- A pending page fault (R277 to R281). -/
structure Fault277 where
  suite  : Nat
  fid    : BitVec 32
  ctx    : Nat
  page   : Nat
  va     : Nat
  agent  : BitVec 16
  cause  : Nat
  level  : Nat
  access : Nat
  wing   : Nat
  queue  : Nat
  tag    : BitVec 16
  job    : BitVec 16
  time   : Nat
  die    : Nat
  waits  : List (Nat × Nat)
  inRing : Bool
deriving DecidableEq, Repr

/-! ### Host die, fabric and management -/

/-- A Hatch descriptor in progress (R288, R289). -/
structure HatchRun where
  slot   : Nat
  words  : List (BitVec 64)
  done   : Bool
  status : BitVec 4
  blocks : Nat
deriving DecidableEq, Repr

/-- Who issued an operation of a pair's sequence. -/
inductive Issuer where
  | cmd (wing id : Nat)
  | slot (k : Nat)
  | core (c : Nat)
  | scullery
  | port
deriving DecidableEq, Repr

/-- An operation sent to a peer and not yet acknowledged (R318 to R320). -/
structure TxOp where
  pkt       : Packet
  port      : Option Nat
  tries     : Nat
  issuer    : Issuer
  performed : Bool
deriving DecidableEq, Repr

/-- The pair with one other module, both directions (R318 to R320, R327): `performed` counts the
received operations performed, `flags` the OV, NR and PSN not yet acknowledged, `rxBad` that an operation of the
peer was refused in this generation, `owed` the commands that a failure ended (R320), `nonce` that of the PAIR_OPEN
sent (R324). -/
structure Pair where
  up        : Bool
  opening   : Bool
  failed    : Bool
  gen       : Nat
  nextSeq   : Nat
  tx        : List TxOp
  waiting   : List (Packet × Issuer)
  halved    : Bool
  rxSeq     : Nat
  rx        : List (Nat × Packet)
  issued    : Nat
  performed : Nat
  flags     : BitVec 8
  ackDue    : Bool
  key       : Bytes
  rxBad     : Bool
  owed      : List (Nat × Nat)
  nonce     : BitVec 128
deriving DecidableEq, Repr

/-- A READ or an ATOMIC whose answer has not come (R316, R317): with the operation and operand of an ATOMIC, or the address
that a COPY's answer goes to as its command names it. -/
structure ReadReq where
  id     : Nat
  peer   : Nat
  issuer : Issuer
  addr   : Nat
  size   : Nat
  dst    : Option Nat
  oper   : Nat × BitVec 128
deriving DecidableEq, Repr

/-- A RESPONSE that the Scullery keeps to answer a repeat (R371): whose it was, its session and SEQ, its bytes. -/
structure Answer where
  who   : Path
  sess  : Nat
  seq   : Nat
  bytes : Bytes
deriving DecidableEq, Repr

/-- A field-protocol session (R404): its number, path and requester key, the shared secret, the transcript so far, its key once it
is open, the highest SEQ accepted and the time of its last message. -/
structure Session where
  n       : Nat
  peer    : Path
  peerKey : Bytes
  secret  : Bytes
  script  : Bytes
  key     : Bytes
  open_   : Bool
  high    : Nat
  last    : Nat
deriving DecidableEq, Repr

/-- What the module has sent and awaits a RESPONSE to (R371, R376, R378): an event record sent to destination `d`, or
a message that the manager relays to nodes, with the nodes that have not answered and the first failing status. -/
inductive Sent where
  | event (d : Nat) (r : EventRec)
  | relay (op : Nat) (m : DictMsg) (nodes : List Nat) (all : Bool) (worst : Nat)
deriving DecidableEq, Repr

/-- Something sent, its SEQ, and how often it was sent. -/
structure Outgoing where
  seq   : Nat
  tries : Nat
  what  : Sent
deriving DecidableEq, Repr

/-- A frame of the COMPAT lane mode (R311): MAC addresses (none: the group address of `dst`), VLAN (0: untagged), IPv6
addresses as text, the ECN code of its header, the UDP destination port, and its bytes from the destination MAC address
to the frame check sequence. -/
structure Frame311 where
  dmac : Option Bytes
  smac : Bytes
  vlan : Nat
  src  : Bytes
  dst  : Bytes
  ecn  : Nat
  udp  : Nat
  size : Nat
deriving DecidableEq, Repr

/-- What the module sends to the outside: interrupt writes, packets, network and discovery messages,
event messages, bus answers, and pulses, newest first. -/
inductive Out where
  | msi (pa : Nat) (v : BitVec 32)
  | packet (port : Option Nat) (k : Packet)
  | frame (port : Nat) (f : Frame311) (k : Packet)
  | lldp (port : Nat) (chassis portId : Bytes) (ttl : Nat) (name mgmt : Bytes)
  | hello (port : Nat) (dest : Bytes) (h : HelloMsg)
  | pairOpen (peer num : Nat) (keyHash : Bytes) (gen : Nat) (nonce : BitVec 128) (sig : Bytes)
  | pairAccept (peer gen : Nat) (nonces sig : Bytes)
  | bootRequest (serial idKey : Bytes) (rom missing : BitVec 32)
  | response (dest : Path) (bytes : Bytes)
  | relayed (node : Option Nat) (op : Nat) (m : DictMsg)
  | acked (op : Nat)
  | event (dest : Nat) (r : EventRec)
  | heartbeat (dest : Nat) (step : Nat)
  | hallBeat (d : Nat)
  | resetNotice (d : Nat)
  | freqSet (dest job mhz b : Nat)
  | laggard (dest job : Nat) (causes : BitVec 3) (mhz step : Nat) (serial : Bytes)
  | laggardClear (dest job step : Nat) (serial : Bytes)
  | freqLate (dest job step : Nat) (serial : Bytes)
  | stepPulse (time : Nat)
  | pcieData (bytes : Bytes) (ep : Bool)
  | pcieWrite (bus : Nat) (bytes : Bytes)
  | pcieRead (bus : Nat) (len : Nat)
  | cfgWrite (pa : Nat) (bytes : Bytes)
  | cfgRead (pa : Nat) (len : Nat)
  | pcieUr
  | fenceDone
  | regRead (pa : Nat) (v : BitVec 64)
  | aer (k : PcieErr)
  | spdm (code : BitVec 8) (body : Bytes)
  | sessionAccept (dest : Path) (n : Nat) (eph nonce sig : Bytes)
  | sessionRefused (dest : Path) (status : Nat)
  | sessionEnded (n : Nat)
  | scullery (k : Packet)
  | tapData (v : BitVec 32)
  | tapPins (pwrEn perst alert wake mgr : Bool) (slot : BitVec 6) (pres stepIn stepOut : Bool)
deriving DecidableEq, Repr

/-- What a host core's last load, store, AMO or LR/SC gave it. -/
inductive CoreAnswer where
  | none
  | value (v : BitVec 64)
  | accessFault
  | waiting
deriving DecidableEq, Repr

/-- The power states (R391), with the phases of pre-charge and start-up of Table 18.3. -/
inductive Power where
  | off | precharge | prechargeStopped | standby | running
deriving DecidableEq, Repr

/-- Why ALERT# is asserted (R393, R394, R346, R422, R443). -/
inductive Alert where
  | deed | puf | voltage | c4 | trip
deriving DecidableEq, Repr

/-- How far a power-up has come (Table 15.1): rails rising, the mask ROM running, the Deed read, the identity
derived, the role resolved, an image accepted, the firmware running; or the ROM has stopped (R393, R394). -/
inductive BootStep where
  | rails | rom | deed | identity | role | accepted | firmware | stopped
deriving DecidableEq, Repr

/-- The Porch's pins and power, and what the mask ROM holds (R391 to R400, R439 to R449): `restarts` the house times
of the last Scullery restarts, `lost` that the input voltage is out of range, `released` that host core 0 runs. -/
structure Porch where
  power     : Power
  pwrEn     : Bool
  alerts    : List Alert
  perst     : Bool
  wake      : Bool
  slotId    : BitVec 6
  mgrSel    : Bool
  imageId   : Option (BitVec 64)
  count     : Nat
  blocks    : Tab Bytes
  image     : Bytes
  m1        : Bytes
  boot      : BootStep
  deedNo    : Option Nat
  pufLocked : Bool
  released  : Bool
  hostHash  : Bytes
  restarts  : List Nat
  lost      : Bool
  log       : List (List (BitVec 64))
  tap       : BitVec 8
  diesel    : BitVec 8
deriving DecidableEq, Repr

/-- One compute die's state beside its dictionary entries: whether its next rejoin must scrub (R409,
R435), why it is being reset, its retained record buffer (R306), its walk cache and walks, the times from which
every sample has been low enough for NORMAL and for WARM (R345), whether a clock of its has stopped (R23, R25), and, of the
step in progress up to `skipAt` and of the last one, what its duty skipped, in sixteenths of CARITH cycles times 10^6, and
how many cycles times 10^6 there were (R336). -/
structure Die where
  forced   : Bool
  lossAt   : Option Nat
  beatAt   : Nat
  retained : List (List (BitVec 64))
  walkc    : List (Nat × Nat × Nat)
  walks    : List Walk
  skip     : Nat
  coolAt   : Option Nat
  mildAt   : Option Nat
  critAt   : Option Nat
  notice   : Bool
  stopped  : Bool
  skips    : Nat × Nat
  skipAt   : Nat
  lastSkip : Nat × Nat
deriving DecidableEq, Repr

/-- The staged values of a suite's next epoch and the values its units hold (R385 to R389). -/
structure Epoch where
  win     : Int
  head    : Int
  ords    : List (Nat × Bool)
  acked   : List Nat
  step    : Nat
  earliest : Nat
  applied : Bool
  bounds  : Nat
deriving DecidableEq, Repr

/-- The result-affecting modes a unit holds for its applied epoch and the one before (R139). -/
structure UnitModes where
  win   : Int
  head  : Int
  pwin  : Int
  phead : Int
deriving DecidableEq, Repr

/-- The frequencies and the fleet lock of one suite (R337 to R344). `freq`, `mode` and `policy` are in force, `openF`
is Open mode's frequency of the next boundary, `due` the written settings with the boundaries that remain before
they apply (boundaries, index 0x2101 to 0x2103, value), `byStep` a FREQ_SET with its step and whether it is late, `move` the boundaries before the suite's dies
take its frequency after a layout change, `start` the frequency that an authority raises the job to, `reported` the
last reported sustainable frequency, `clean` the consecutive steps without a cause, `held` the suite's own frequency
under HOLD and `heldDue` the one to come, `reports` and `lagging` what the authority has heard, `calm` the steps since
the last laggard cleared. -/
structure Fleet where
  freq     : Nat
  mode     : Nat
  policy   : Nat
  openF    : Nat
  due      : List (Nat × Nat × Nat)
  byStep   : Option (Nat × Nat × Bool)
  move     : Nat
  start    : Nat
  causes   : Nat
  reported : Option Nat
  clean    : Nat
  held     : Option Nat
  heldDue  : Option (Nat × Option Nat)
  reports  : List (Nat × Bytes)
  lagging  : List Bytes
  calm     : Nat
deriving DecidableEq, Repr

/-- The Thermostat, Hearth and step machinery (R329 to R358, R379 to R384). `hearthCut` is what shedding takes off the
Hearth target in mA, `hcoreCaps` the caps of R332 in MHz by cluster, `runAt` the start of a run above the continuous limit,
`runOver` that such a run has ended and the average has not come down, `above` that the waiting share was reached at the
last tick, `early` and `pulsed` that the next and the last boundary have had their pulse, `lenNext` a written step length
with the boundaries that remain, `slots` the job slots with job and Hearth energy in µJ, `slewAt` the house time of the
last PTP correction (R328), `stepE` the input energy of the windows since the last boundary in 10 nJ (R329), `railE` the
energy of each rail since power-up in 10 pJ and `railB` what it was at the last boundary, `steps` the meter energy and
features of every step so far, `misses` the last 256 steps' meter energy and what the fit missed it by, in 2^-32 nJ (R355,
R356), newest first. -/
structure Control where
  hearthCut : Nat
  hcoreCaps : Tab Nat
  missed    : Bool
  limited   : Bool
  avgMw     : Nat
  runAt     : Option Nat
  runOver   : Bool
  upAt      : Nat
  iref      : Nat
  target    : Nat
  engagedAt : Nat
  above     : Bool
  nextBound : Nat
  prevBound : Nat
  len       : Nat
  lenNext   : Option (Nat × Nat)
  renumber  : Bool
  noPulse   : Nat
  pulsed    : Bool
  early     : Bool
  ledger    : List (List (BitVec 64))
  lphase    : Bool
  meterE    : Int
  hearthE   : Int
  slots     : Tab (BitVec 16 × Int × Int)
  ptpLocked : Bool
  slewAt   : Nat
  stepE    : Nat
  railE    : Tab Nat
  railB    : Tab Nat
  steps    : List (Int × List Nat)
  misses   : List (Int × Int)
deriving DecidableEq, Repr

/-- The Scullery's message machinery (R363 to R378) and the fabric's discovery state (R323 to R327). `replies` are
messages that wait for the lock of a letterbox, `mgrSeen` is when the manager was last heard. `fpass`
holds the suites whose fault ring is on a pass that writes PHASE 0 (R278), `autoCompat` the ports that AUTO tries
in COMPAT now (R310), `addrs` the port addresses of members (R324), `ptpPort` the port that PTP listens to (R328). `layouts`
counts the layout changes accepted, and `acted` holds, by level source, one more than their number at its last action (R416). -/
structure Mgmt where
  answers  : List Answer
  sessions : List Session
  segs     : List (Path × Nat × Bytes)
  outgoing : List Outgoing
  replies  : List (Nat × Bytes)
  events   : Tab (List EventRec)
  evNumber : Nat
  sendSeq  : Nat
  mgrSeen  : Option Nat
  mgrLost  : Bool
  nonce    : BitVec 128
  readId   : Nat
  sculleryUp : Bool
  fpass    : List Nat
  layout   : Bool
  autoCompat : List Nat
  addrs    : Tab (List Bytes)
  ptpPort  : Option Nat
  layouts  : Nat
  acted    : Tab Nat
deriving DecidableEq, Repr

/-- The module. `unfiled` holds the walks that ended in a fault, with cause and level, and found the fault buffer full
(R279); `free` counts the free values drawn so far, and `todo` holds the class actions that the
command in progress has still to take, by Breaker; both are the model's own. -/
structure State where
  pending  : List Instr
  house    : Nat
  free     : Nat
  porch    : Porch
  regs     : Tab (BitVec 64)
  od       : Tab Nat
  blobs    : Tab Bytes
  mem      : List Host.Cell
  code     : Tab (BitVec 16)
  rooms    : Tab Room
  wings    : Tab Wing
  dies     : Tab Die
  caches   : Tab Cache
  dirs     : Tab DirEntry
  dirAge   : Nat
  txns     : Tab Txn
  lineQ    : List (Nat × HomeReq)
  net      : List Msg
  rlines   : Tab (List RLine)
  later    : List Later
  stk      : Tab Stack
  tier     : Tier
  ctxs     : Tab Context
  faults   : List Fault277
  unfiled  : List (Walk × Nat × Nat)
  hatches  : Tab (List HatchRun)
  pairs    : Tab Pair
  reads    : List ReadReq
  backlog  : Tab Nat
  epochs   : Tab Epoch
  modes    : Tab UnitModes
  fleet    : Tab Fleet
  ctl      : Control
  mgmt     : Mgmt
  cores    : Tab CoreAnswer
  resv     : Tab Nat
  todo     : List (Nat × Report)
  out      : List Out
deriving DecidableEq, Repr

/-! ### Outcomes that are not a next state -/

/-- Why the module stops. -/
inductive Fault where
  /-- Raised by every command whose operands name a unit, a lane or a length that the module does not
  have (`Instr.wf` fails): no sender can send it. Safe: the machine stops where the manual gives no
  command at all. -/
  | noSuchUnit
deriving DecidableEq, Repr

/-- Why a command is refused. -/
inductive Refusal where
  /-- Raised by the dispatch of a command that has no meaning yet. Safe: the machine stops. -/
  | notModelled (mnemonic : String)
deriving DecidableEq, Repr

/-! ### The state after reset -/

/-- A slot that was never loaded (R70). -/
def Slot.reset : Slot := ⟨false, 0, 0, 0, 0, [], []⟩

/-- A bank with no chain (R66). -/
def Bank.reset : Bank := ⟨false, 0, 0, 0, [], [], []⟩

/-- A vector engine with no program. -/
def VEngine.reset : VEngine := ⟨false, 0, [], 0, [], [], [], [], 0, [], 0, 0, none⟩

/-- A tracker in NORMAL. -/
def Tracker.reset : Tracker := ⟨0, 0, false⟩

/-- A room after a room reset (R410). -/
def Room.reset : Room :=
  ⟨.reset, .reset, .reset, .reset, .reset, .reset, none, none, none, .reset, [], [], [], [], [], [],
   [], [], [], false, .reset, .reset, .reset, [], false, []⟩

/-- A wing with its dispatcher at power-up. -/
def Wing.reset : Wing := ⟨[], 1, 1, 0, [], [], [], [], [], [], [], .running, false, 0, 0, []⟩

/-- A caching agent with no line. -/
def Cache.reset : Cache := ⟨[], [], [], [], 0, [], []⟩

/-- A stack controller with nothing held. -/
def Stack.reset : Stack := ⟨none, none, none, [], [], [], 0, [], [], [], [], none, none, false, false, []⟩

/-- The Dumbwaiter with the tier range DISABLED and an erased Cellar. -/
def Tier.reset : Tier := ⟨[], [], [], [], [], [], [], false, [], [], [], 0, 0⟩

/-- A context that is FREE. -/
def Context.reset : Context := ⟨0, 0, 0, []⟩

/-- A pair that was never opened. -/
def Pair.reset : Pair :=
  ⟨false, false, false, 0, 0, [], [], false, 0, [], 0, 0, 0, false, [], false, [], 0⟩

/-- A compute die's state after its rejoin. -/
def Die.reset : Die := ⟨false, none, 0, [], [], [], 0, none, none, none, false, false, (0, 0), 0, (0, 0)⟩

/-- A suite's epoch machinery in IDLE (R385). -/
def Epoch.reset : Epoch := ⟨32, 9, [], [], 0, 0, false, 0⟩

/-- The modes a unit holds at power-up (R385). -/
def UnitModes.reset : UnitModes := ⟨32, 9, 32, 9⟩

/-- A suite's fleet machinery with no job. -/
def Fleet.reset : Fleet := ⟨1800, 0, 0, 1800, [], none, 0, 0, 0, none, 0, none, none, [], [], 0⟩

/-- The control machinery after a power-up at house time `up`, the last boundary having been at `t0` and the next one
being at `t1`. -/
def Control.reset (up t0 t1 : Nat) : Control :=
  ⟨0, [], false, false, 0, none, false, up, 0, 0, 0, false, t1, t0, 1000000, none, true, 0, false, false, [], true, 0, 0,
   [], false, up, 0, [], [], [], []⟩

/-- The management firmware with nothing held. -/
def Mgmt.reset : Mgmt := ⟨[], [], [], [], [], [], 0, 0, none, false, 0, 0, true, [], false, [], [], none, 0, []⟩

/-- The Porch with no power (R391). -/
def Porch.off : Porch :=
  ⟨.off, false, [], true, false, 0, false, none, 0, [], [], [], .rails, none, false, false, [], [],
   false, [], 1, 0⟩

/-- House time when the module reads READY after a power-up at house time 0: 20 ms of Table 18.3 and
5.31 s of Table 15.1. -/
def readyTime : Nat := 5330000000

/-- The module right after reset: a power-up run to READY, every setting at its power-up default (R4),
nothing stored, nothing queued. -/
def State.reset : State where
  pending := []
  house := readyTime
  free := 0
  porch := { Porch.off with power := .running, pwrEn := true, perst := false, wake := false,
                            boot := .firmware, deedNo := some 0, pufLocked := true, m1 := Config.sha512 [] }
  regs := []
  od := [(0x1010 * 256 + 1, 4), (0x4310 * 256 + 2, 5330), (0x4400 * 256 + 1, 3),
         (0x5200 * 256 + 1, 2), (0x5201 * 256 + 1, 2), (0x5202 * 256 + 1, 2), (0x5203 * 256 + 1, 2),
         (0x5204 * 256 + 1, 2), (0x5205 * 256 + 1, 2), (0x5206 * 256 + 1, 2), (0x5207 * 256 + 1, 2)]
  blobs := []
  mem := []
  code := []
  rooms := []
  wings := []
  dies := (List.range 4).map fun d => (d, { Die.reset with beatAt := readyTime, skipAt := readyTime })
  caches := []
  dirs := []
  dirAge := 0
  txns := []
  lineQ := []
  net := []
  rlines := []
  later := []
  stk := []
  tier := .reset
  ctxs := []
  faults := []
  unfiled := []
  hatches := []
  pairs := []
  reads := []
  backlog := []
  epochs := []
  modes := []
  fleet := []
  ctl := Control.reset 0 5330000000 5331000000
  mgmt := .reset
  cores := []
  resv := []
  todo := []
  out := []

end Sys2Proof.Machine
end

