-- ==== Sys2Proof/Machine/Ops.lean ====
section
/-! DEFINITION. The named operations over the state: the one home of every table, register, dictionary
entry, latch and byte of memory; house time; free values; events (R378) and the capture of faults
(R419, R420). -/

namespace Sys2Proof.Machine

/-! ### Bytes of a memory held as cells -/

/-- `n` bytes from address `a`; a byte that is not listed reads 0. -/
def cellsGet (m : List Host.Cell) (a n : Nat) : Bytes :=
  let sub := m.filter fun c => decide (a ≤ c.1) && decide (c.1 < a + n)
  (List.range n).map fun i => tget 0#8 sub (a + i)

/-- The cells with the given bytes from address `a` on: zeros are not listed. -/
def cellsRun : Nat → Bytes → List Host.Cell
  | _, [] => []
  | a, b :: t => if b = 0#8 then cellsRun (a + 1) t else (a, b) :: cellsRun (a + 1) t

/-- The memory with the bytes `bs` stored from address `a` on. -/
def cellsPut (a : Nat) (bs : Bytes) (m : List Host.Cell) : List Host.Cell :=
  m.filter (fun c => decide (c.1 < a)) ++ cellsRun a bs ++
    m.filter (fun c => decide (a + bs.length ≤ c.1))

/-- The canonical form of a memory (addresses strictly rising, no zero byte listed). -/
def Memory.wf (m : List Host.Cell) : Bool := twf 0#8 m

/-- The byte at local physical address `a` as the dies or the host memory hold it. -/
def State.byte (s : State) (a : Nat) : Byte := tget 0#8 s.mem a

/-! ### Tables of units -/

/-- Room `g`. -/
def State.room (s : State) (g : Nat) : Room := tget .reset s.rooms g
/-- The state with room `g` as given. -/
def State.setRoom (s : State) (g : Nat) (r : Room) : State := { s with rooms := tset g r s.rooms }
/-- Wing `w`. -/
def State.wing (s : State) (w : Nat) : Wing := tget .reset s.wings w
/-- The state with wing `w` as given. -/
def State.setWing (s : State) (w : Nat) (v : Wing) : State := { s with wings := tset w v s.wings }
/-- Compute die `d`. -/
def State.die (s : State) (d : Nat) : Die := tget .reset s.dies d
/-- The state with die `d` as given. -/
def State.setDie (s : State) (d : Nat) (v : Die) : State := { s with dies := tset d v s.dies }
/-- Caching agent `a`. -/
def State.cache (s : State) (a : Nat) : Cache := tget .reset s.caches a
/-- The state with caching agent `a` as given. -/
def State.setCache (s : State) (a : Nat) (v : Cache) : State := { s with caches := tset a v s.caches }
/-- Stack `j`. -/
def State.stack (s : State) (j : Nat) : Stack := tget .reset s.stk j
/-- The state with stack `j` as given. -/
def State.setStack (s : State) (j : Nat) (v : Stack) : State := { s with stk := tset j v s.stk }
/-- Context `c`'s record. -/
def State.ctxRec (s : State) (c : Nat) : Context := tget .reset s.ctxs c
/-- The state with context `c`'s record as given. -/
def State.setCtx (s : State) (c : Nat) (v : Context) : State := { s with ctxs := tset c v s.ctxs }
/-- The pair with module `m`. -/
def State.pair (s : State) (m : Nat) : Pair := tget .reset s.pairs m
/-- The state with the pair with module `m` as given. -/
def State.setPair (s : State) (m : Nat) (v : Pair) : State := { s with pairs := tset m v s.pairs }
/-- The descriptors in progress in HATCH[`h`]. -/
def State.hatch (s : State) (h : Nat) : List HatchRun := tget [] s.hatches h
/-- The state with HATCH[`h`]'s descriptors in progress as given. -/
def State.setHatch (s : State) (h : Nat) (v : List HatchRun) : State :=
  { s with hatches := tput [] h v s.hatches }
/-- Suite `i`'s epoch machinery. -/
def State.epoch (s : State) (i : Nat) : Epoch := tget .reset s.epochs i
/-- The state with suite `i`'s epoch machinery as given. -/
def State.setEpoch (s : State) (i : Nat) (v : Epoch) : State := { s with epochs := tset i v s.epochs }
/-- The modes that unit `u` holds. -/
def State.unitModes (s : State) (u : Nat) : UnitModes := tget .reset s.modes u
/-- The state with unit `u`'s modes as given. -/
def State.setModes (s : State) (u : Nat) (v : UnitModes) : State := { s with modes := tset u v s.modes }
/-- Suite `i`'s fleet machinery. -/
def State.fleetOf (s : State) (i : Nat) : Fleet := tget .reset s.fleet i
/-- The state with suite `i`'s fleet machinery as given. -/
def State.setFleet (s : State) (i : Nat) (v : Fleet) : State := { s with fleet := tset i v s.fleet }

/-! ### Control registers and dictionary entries -/

/-- The control register at `pa` (R7). -/
def State.reg (s : State) (pa : Nat) : BitVec 64 := tget (regReset pa) s.regs pa
/-- The state with the control register at `pa` holding `v`. -/
def State.setReg (s : State) (pa : Nat) (v : BitVec 64) : State :=
  { s with regs := tput (regReset pa) pa v s.regs }
/-- The register's value as a number. -/
def State.regN (s : State) (pa : Nat) : Nat := (s.reg pa).toNat
/-- Bits [hi:lo] of the register at `pa`. -/
def State.regF (s : State) (pa hi lo : Nat) : Nat := fld (s.regN pa) hi lo
/-- The state with bits [hi:lo] of the register at `pa` holding `v`. -/
def State.setRegF (s : State) (pa hi lo v : Nat) : State :=
  s.setReg pa (BitVec.ofNat 64 (putFld (s.regN pa) hi lo v))

/-- The value of dictionary entry `i.k`, as a number. -/
def State.ent (s : State) (i k : Nat) : Nat := tget (dictDefault i k) s.od (dictKey i k)
/-- The state with dictionary entry `i.k` holding `v`. -/
def State.setEnt (s : State) (i k v : Nat) : State :=
  { s with od := tput (dictDefault i k) (dictKey i k) v s.od }
/-- The state with entry `i.k` counted up by `n`, modulo its type. -/
def State.incEnt (s : State) (i k n : Nat) : State :=
  match dictEntry i k with
  | some r => s.setEnt i k ((s.ent i k + n) % (r.ty.top + 1))
  | none => s
/-- The bytes of a STR or BLOB entry. -/
def State.blob (s : State) (i k : Nat) : Bytes := tget (dictBytes i k) s.blobs (dictKey i k)
/-- The state with a STR or BLOB entry holding `v`. -/
def State.setBlob (s : State) (i k : Nat) (v : Bytes) : State :=
  { s with blobs := tput (dictBytes i k) (dictKey i k) v s.blobs }

/-! ### Free values and output -/

/-- The next free value. -/
def State.freeVal (s : State) : Nat := Config.freeNat s.free
/-- The state with one free value drawn. -/
def State.drawFree (s : State) : State := { s with free := s.free + 1 }
/-- The state with `o` sent to the outside. -/
def State.emit (s : State) (o : Out) : State := { s with out := o :: s.out }

/-! ### The house: dies, suites, rooms (R10, R16 to R18) -/

/-- Whether the module's rails are up and its host die runs. -/
def State.on (s : State) : Bool := s.porch.power = .running
/-- The die's state (Table 1.8): 0 UP, 1 RESET, 2 FENCED, 3 REJOINING. -/
def State.dieState (s : State) (d : Nat) : Nat := s.ent 0x1100 (0x12 + 0x10 * d)
/-- Whether compute die `d` is UP. -/
def State.dieUp (s : State) (d : Nat) : Bool := s.on && s.dieState d = 0
/-- The present layout (R18). -/
def State.layout (s : State) : Nat := s.ent 0x1100 1
/-- The suite of compute die `d` in layout `l`. -/
def suiteOf (l d : Nat) : Nat := if l = 0 then 0 else if l = 1 then d / 2 else d
/-- The number of suites of layout `l`. -/
def suiteCount (l : Nat) : Nat := if l = 0 then 1 else if l = 1 then 2 else 4
/-- The compute dies of suite `i` in layout `l`. -/
def suiteDies (l i : Nat) : List Nat := (List.range 4).filter fun d => suiteOf l d = i
/-- The suite of compute die `d`. -/
def State.suiteOfDie (s : State) (d : Nat) : Nat := suiteOf s.layout d
/-- The suite that owns stack `j`. -/
def State.suiteOfStack (s : State) (j : Nat) : Nat := suiteOf s.layout (j / 3)
/-- An agent number (Table 1.5). -/
def agentNo (die cls inst : Nat) : BitVec 16 := BitVec.ofNat 16 (die * 8192 + cls * 256 + inst)
/-- The agent number of a unit of room `g`: class 1 stream, 2 vector, 3 copy, 4 array. -/
def roomAgent (cls g : Nat) : BitVec 16 := agentNo (g / 64) cls (g % 64)
/-- The die field of an agent number. -/
def agentDie (a : BitVec 16) : Nat := fld a.toNat 15 13
/-- The class field of an agent number. -/
def agentClass (a : BitVec 16) : Nat := fld a.toNat 12 8
/-- The instance field of an agent number. -/
def agentInst (a : BitVec 16) : Nat := fld a.toNat 7 0
/-- Whether room `g` exists and its die is UP. -/
def State.roomUp (s : State) (g : Nat) : Bool := s.dieUp (g / 64) && !(s.room g).testing
/-- Whether wing `w`'s die is UP. -/
def State.wingUp (s : State) (w : Nat) : Bool := s.dieUp (w / 8)

/-! ### The address map (Tables 1.10 and 1.11) -/

/-- What an address names. -/
inductive Region where
  | control | stack (j : Nat) | host | pcie | tier | remote | reserved
deriving DecidableEq, Repr

/-- The region of a physical address (R26). -/
def regionOf (pa : Nat) : Region :=
  if pa < 0x000100000000 then .control
  else if pa < 0x001000000000 then .reserved
  else if pa < 0x00D000000000 then .stack (pa / 2 ^ 36 - 1)
  else if pa < 0x010000000000 then .reserved
  else if pa < 0x018000000000 then .host
  else if pa < 0x020000000000 then .reserved
  else if pa < 0x030000000000 then .pcie
  else if pa < 0x200000000000 then .reserved
  else if pa < 0x380000000000 then .tier
  else if pa < 0x80000000000000 then .reserved
  else if pa < 0x100000000000000 then .remote
  else .reserved

/-- The channel of a stack address (R31). -/
def stackChannel (pa : Nat) : Nat := fld pa 12 8 ^^^ fld pa 22 18 ^^^ fld pa 32 28
/-- The channel of a host-memory address (R455). -/
def hostChannel (pa : Nat) : Nat := fld pa 10 8
/-- Bank, row and column of a stack address (R207). -/
def stackPlace (pa : Nat) : Nat × Nat × Nat :=
  let g := fld pa 35 13
  (fld g 3 0 ^^^ fld g 15 12, fld g 22 7, fld g 6 4)
/-- The home of a line: its controller's agent number (R197, R455). -/
def homeAgent (pa : Nat) : BitVec 16 :=
  match regionOf pa with
  | .stack j => agentNo (j / 3) 0x08 (j % 3)
  | _ => agentNo 4 0x12 (hostChannel pa)

/-- The die of a line's home (4: the host die). -/
def homeDie (line : Nat) : Nat := agentDie (homeAgent (line * 64))

/-! ### Hallways and routes (Tables 1.2 and 1.3, R13, R14, R408) -/

/-- State of HALL[`n`]: 0 DOWN, 1 TRAINING, 2 UP, 3 FENCED. -/
def State.hall (s : State) (n : Nat) : Nat := s.ent (0x5200 + n) 1
/-- HALL[`n`] in a state. -/
def State.setHall (s : State) (n v : Nat) : State := s.setEnt (0x5200 + n) 1 v

/-- The hallway that joins two dies, if one does; die 4 is the host die (Table 1.2). -/
def hallBetween (a b : Nat) : Option Nat :=
  match min a b, max a b with
  | 0, 1 => some 4 | 1, 3 => some 5 | 2, 3 => some 6 | 0, 2 => some 7
  | d, 4 => if d < 4 then some d else none
  | _, _ => none

/-- The middle die of the two-hop path of Table 1.3: along the row first, then along the column. -/
def middleDie (a b : Nat) : Nat := a / 2 * 2 + b % 2

/-- The middle die in use between two dies that no hallway joins: the other one while the first is not UP (R408). -/
def State.middle (s : State) (a b : Nat) : Nat :=
  if s.dieState (middleDie a b) = 0 then middleDie a b else 3 - middleDie a b

/-- The hallways that a transfer from die `a` to die `b` crosses, in order (R13). -/
def State.hallRoute (s : State) (a b : Nat) : List Nat :=
  if a = b then []
  else match hallBetween a b with
    | some n => [n]
    | none => (hallBetween a (s.middle a b)).toList ++ (hallBetween (s.middle a b) b).toList

/-- Whether a transfer between two dies waits for a hallway of its route that is training (R302). -/
def State.hallHeld (s : State) (a b : Nat) : Bool := (s.hallRoute a b).any fun n => s.hall n = 1
/-- Whether a ring hallway of the route of a transfer is DOWN: the transfer completes with poison (R15). -/
def State.hallCut (s : State) (a b : Nat) : Bool :=
  (s.hallRoute a b).any fun n => decide (4 ≤ n) && decide (s.hall n = 0)

/-! ### Whether a stack can serve a request (R219, R222, R231, R436) -/

/-- The merge buffer's copy of a line (R231). -/
def State.mergeCopy (s : State) (line : Nat) : Option LineData :=
  match regionOf (line * 64) with
  | .stack j => ((s.stack j).merge.find? fun e => e.1 = line).map fun e => e.2
  | _ => none

/-- Whether a request that needs the dies of a stack cannot use them now: in CRITICAL, or a bank under repair. -/
def State.stackHeld (s : State) (line : Nat) : Bool :=
  match regionOf (line * 64) with
  | .stack j =>
    (s.mergeCopy line).isNone &&
    (s.ent 0x3010 (j + 1) = 3 ||
     (s.stack j).bankHold = some (stackChannel (line * 64) * 16 + (stackPlace (line * 64)).1))
  | _ => false

/-- Whether an access from die `d` to a line waits, for its stack or for a hallway on its way. -/
def State.pathHeld (s : State) (d line : Nat) : Bool := s.stackHeld line || s.hallHeld d (homeDie line)

/-- Whether a controller refuses every access to stack `j`: carried over (R307) or being scrubbed (R219). -/
def State.stackShut (s : State) (j : Nat) : Bool := decide (s.ent 0x3019 (j + 1) ≠ 0) || (s.stack j).scrubbing

/-- Work that waits joins the others in arrival order. -/
def State.defer (s : State) (x : Later) : State := { s with later := s.later ++ [x] }

/-! ### Time and steps -/

/-- House time counts modulo 2^64 (R6). -/
def State.tick (s : State) : State :=
  { s with house := (s.house + 1) % 2 ^ 64
           backlog := (s.backlog.map fun e => (e.1, e.2 - 1)).filter fun e => decide (e.2 ≠ 0) }
/-- House time moved on to `t`; it never moves back. -/
def State.advance (s : State) (t : Nat) : State :=
  if s.house < t then { s with house := t % 2 ^ 64, backlog := [] } else s
/-- The step in progress (R379). -/
def State.stepNo (s : State) : Nat := s.ent 0x4310 2
/-- The step length L in force. -/
def State.stepLen (s : State) : Nat := s.ctl.len

/-! ### Messages to other modules (R314, R365) -/

/-- The copy of the Deed in use (R393). -/
def State.deed (s : State) : Bytes := Config.deedCopy (s.porch.deedNo.getD 0)
/-- The serial number of the Deed. -/
def State.serial (s : State) : Bytes := slice s.deed 8 16
/-- IDKEY of the Deed in use. -/
def State.idKey (s : State) : Bytes := slice s.deed 0x30 32

/-- The module's own number; 0xFFFF while it has none (R326). -/
def State.own (s : State) : Nat := s.ent 0x4010 2
/-- A packet of an operation with nothing but its address set. -/
def basePacket (op dst addr : Nat) : Packet :=
  ⟨1, BitVec.ofNat 4 op, dst, 0, 0, false, false, false, 0, false, 0, addr, 0, 0, 0, 0, []⟩

/-- The signed bytes of a PAIR_OPEN. -/
def pairOpenBytes (num : Nat) (keyHash : Bytes) (gen : Nat) (nonce : BitVec 128) : Bytes :=
  toBytes 2 num ++ keyHash ++ toBytes 2 gen ++ toBytes 16 nonce.toNat

/-- A pair is opened: PAIR_OPEN is sent, with a nonce of the module's own (R324, R327). -/
def State.openPair (s : State) (m : Nat) : State :=
  let p := s.pair m
  let gen := (p.gen + 1) % 2 ^ 16
  let nonce := BitVec.ofNat 128 s.freeVal
  let key := Config.sha512 s.idKey
  (s.drawFree.setPair m { p with failed := false, opening := true, nonce := nonce }).emit
    (.pairOpen m s.own key gen nonce (Config.idSign (pairOpenBytes s.own key gen nonce)))

/-- A header and body. -/
def msgBytes (kind op seq session target reply status : Nat) (body : Bytes) : Bytes :=
  toBytes 1 (0x10 + kind) ++ toBytes 1 op ++ toBytes 2 body.length ++ toBytes 4 seq ++ toBytes 2 session ++ toBytes 2 target ++
  toBytes 1 reply ++ toBytes 1 status ++ [0#8, 0#8] ++ body

/-- An event record (Table 14.10). -/
def eventBytes (r : EventRec) : Bytes :=
  toBytes 2 r.index ++ toBytes 1 r.sub ++ toBytes 1 r.cause ++ toBytes 4 r.number ++ toBytes 8 r.value.toNat ++ toBytes 8 r.time ++
  toBytes 8 r.step

/-- A message of the Scullery goes to module `m` in a MANAGEMENT packet, padded to whole words, after the operations that
wait for the pair (R314, Table 14.4); none goes without a module number, or to none. -/
def State.sendModule (s : State) (m : Nat) (b : Bytes) : State :=
  if s.own = 0xFFFF ∨ m = 0xFFFF ∨ m = s.own then s
  else
    let ws := (List.range ((b.length + 15) / 16)).map fun i => (BitVec.ofNat 128 (ofBytes (slice b (16 * i) 16)), (0 : BitVec 16))
    let p := s.pair m
    let s := s.setPair m { p with waiting := p.waiting ++ [({ basePacket 7 m 0 with src := s.own, words := ws }, .scullery)] }
    if p.up || p.opening || p.failed then s else s.openPair m

/-- A NOTICE goes to another module (R366, Table 14.9). -/
def State.sendNotice (s : State) (m op : Nat) (body : Bytes) : State :=
  ({ s with mgmt := { s.mgmt with sendSeq := s.mgmt.sendSeq + 1 } } : State).sendModule m (msgBytes 3 op s.mgmt.sendSeq 0 0 0 0 body)

/-- An EVENT goes to the segment manager, or over Gloing to the rack controller (R378). -/
def State.sendEvent (s : State) (seq d : Nat) (r : EventRec) : State :=
  if d = 1 then s.sendModule (s.ent 0x4430 1) (msgBytes 2 0x08 seq 0 0 0 0 (eventBytes r)) else s.emit (.event d r)

/-! ### Events (R378) -/

/-- The destinations enabled for an event of index `i`: 0 the segment manager, 1 the rack controller, 2
the host letterbox. -/
def State.eventDests (s : State) (i : Nat) : List Nat :=
  if bitOf (s.ent 0x4420 4) (i / 0x1000) then
    (if s.ent 0x4420 2 = 1 then [0] else []) ++ (if s.ent 0x4420 3 = 1 then [1] else []) ++
    (if s.ent 0x4420 1 ≠ 0 then [2] else [])
  else []

/-- A record placed in the queue of destination `d`, or dropped and counted when 256 are pending. The
network destinations are sent the record at once. -/
def State.queueEvent (s : State) (r : EventRec) (d : Nat) : State :=
  let q := tget [] s.mgmt.events d
  if 256 ≤ q.length then s.incEnt 0x4420 5 1
  else
    let s := { s with mgmt := { s.mgmt with events := tset d (q ++ [r]) s.mgmt.events } }
    if d = 2 then s
    else
      let s := { s with mgmt := { s.mgmt with sendSeq := s.mgmt.sendSeq + 1, outgoing := s.mgmt.outgoing ++ [(⟨s.mgmt.sendSeq, 1, Sent.event d r⟩ : Outgoing)] } }
      s.sendEvent (s.mgmt.sendSeq - 1) d r

/-- An object-dictionary event is raised (R378). -/
def State.raise (s : State) (i k cause value : Nat) : State :=
  if s.mgmt.sculleryUp then
    let n := s.mgmt.evNumber + 1
    let r : EventRec := ⟨i, k, cause, n, BitVec.ofNat 64 value, s.house, s.stepNo⟩
    let s := { s with mgmt := { s.mgmt with evNumber := n } }
    each (s.eventDests i) (fun d s => s.queueEvent r d) s
  else s

/-- Entry `i.k` takes a new value and its change raises an event. -/
def State.setRaise (s : State) (i k v : Nat) : State := (s.setEnt i k v).raise i k 0 v

/-- A core's answer. -/
def State.answer (s : State) (core : Nat) (a : CoreAnswer) : State := { s with cores := tset core a s.cores }

/-! ### The PCIe memory window (R300) -/

/-- The bus address of an address in the PCIe memory window (Table 11.10). -/
def busAddr (pa : Nat) : Nat := pa - 0x020000000000
/-- Bytes written to a PCIe device. -/
def State.pcieOut (s : State) (pa : Nat) (bytes : Bytes) : State := s.emit (.pcieWrite (busAddr pa) bytes)
/-- `n` bytes asked of a PCIe device. -/
def State.pcieAsk (s : State) (pa n : Nat) : State := s.emit (.pcieRead (busAddr pa) n)

/-! ### Interrupt writes -/

/-- The bytes `bs` from `a` on stored into a copy of a line. -/
def pokeLine (a : Nat) (bs : Bytes) (line : Nat) (l : LineData) : LineData :=
  let old := toBytes 64 l.bits.toNat
  let new := (List.range 64).map fun i =>
    let p := line * 64 + i
    if a ≤ p ∧ p < a + bs.length then lget 0#8 bs (p - a) else lget 0#8 old i
  { l with bits := BitVec.ofNat 512 (ofBytes new) }

/-- A small write by a unit that is not a caching agent takes its place: in the memory, and in every coherent copy of
its line that caches, Landings and merge buffers hold. -/
def State.poke (s : State) (a : Nat) (bs : Bytes) : State :=
  { s with
    mem := cellsPut a bs s.mem
    caches := s.caches.map fun c => (c.1, { c.2 with
      lines := c.2.lines.map fun l => (l.1, { l.2 with l := pokeLine a bs l.1 l.2.l })
      landing := c.2.landing.map fun e => { e with l := pokeLine a bs e.line e.l } })
    stk := s.stk.map fun k => (k.1, { k.2 with merge := k.2.merge.map fun e => (e.1, pokeLine a bs e.1 e.2) })
    resv := s.resv.filter fun e => e.2 / 64 ≠ a / 64 }

/-- An interrupt write from die `src` reaches memory: it waits with everything else for a held stack or a training
hallway, a stack that refuses it or a lost home takes nothing (R19, R222, R302, R307, R407). -/
def State.msiStore (s : State) (src pa v : Nat) : State :=
  match regionOf pa with
  | .stack j =>
    if s.dieState (j / 3) ≠ 0 || s.stackShut j || s.hallCut src (j / 3) then s
    else if s.pathHeld src (pa / 64) then s.defer (.msi src pa v)
    else s.poke pa (toBytes 4 v)
  | .host => if s.hallHeld src 4 then s.defer (.msi src pa v) else s.poke pa (toBytes 4 v)
  | _ => s

/-- An interrupt write of a 4-byte value by a unit of die `src` (R154, R290, R297, R357, R420): sent, and stored when
the address lies in memory. -/
def State.msi (s : State) (src pa v : Nat) : State :=
  (s.emit (.msi pa (BitVec.ofNat 32 v))).msiStore src pa v

/-! ### The Breaker's capture (R413 to R421) -/

/-- The class of a source (Table 16.2). -/
def srcClass (src : Nat) : Nat :=
  if src < 0x10 then 0 else if src < 0x20 then 1 else if src < 0x30 then 2 else if src < 0x40 then 3 else 4

/-- Address of CAPA of class `c` of Breaker `b`; CAPM, CAPT and CAPN follow at 8, 16 and 24. -/
def paCapture (b c : Nat) : Nat := paBreaker b (0x40 + 0x20 * c)

/-- CAPA of a report (Table 16.3). -/
def capA (r : Report) : Nat :=
  2 ^ 63 + (match r.addr with
    | some a => 2 ^ 62 + (if r.room then 2 ^ 61 else 0) + a.toNat / 16 * 16
    | none => 0)

/-- CAPM of a report (Table 16.3). SRC has 6 bits. -/
def capM (r : Report) : Nat :=
  r.master.toNat * 2 ^ 48 + r.access.toNat * 2 ^ 45 + b2n r.inj * 2 ^ 44 + r.src.toNat % 64 * 2 ^ 38 +
  (match r.contexts with
    | c :: _ => c % 256 * 2 ^ 30 + 2 ^ 29
    | [] => 0)

/-- The copies of Breaker `b`'s class `c` that the Scullery holds are brought up to date (R420). -/
def State.forwardCapture (s : State) (b c : Nat) : State :=
  let s := s.setEnt (0x5010 + b) (4 * c + 1) (s.regN (paCapture b c))
  let s := s.setEnt (0x5010 + b) (4 * c + 2) (s.regN (paCapture b c + 8))
  let s := s.setEnt (0x5010 + b) (4 * c + 3) (s.regN (paCapture b c + 16))
  let s := s.setEnt (0x5010 + b) (4 * c + 4) (s.regN (paCapture b c + 24))
  s.setEnt 0x5000 (b + 1) (s.regF (paBreaker b 0) 4 0)

/-- Breaker `b` accepts report `r`: it captures the first of its class and counts the later ones (R419),
writes the class's interrupt and forwards the capture (R420). A C0 report that finds 64 reports in the
queue is dropped and counted (R414). The action of a C2, C3 or C4 report is noted in `todo`. -/
def State.capture (s : State) (b : Nat) (r : Report) : State :=
  let c := srcClass r.src.toNat
  let waiting := tget 0 s.backlog b
  if 64 ≤ waiting ∧ c = 0 then
    s.setRegF (paBreaker b 8) 31 0 (satInc 32 (s.regF (paBreaker b 8) 31 0) 1)
  else
    let s := { s with backlog := tput 0 b (min 64 (waiting + 1)) s.backlog }
    let s := s.incEnt 0x5040 (5 * b + c + 1) 1
    let s := if 2 ≤ c then { s with todo := s.todo ++ [(b, r)] } else s
    if bitOf (s.regN (paBreaker b 0)) c then
      let s := s.setReg (paCapture b c + 24) (BitVec.ofNat 64 (satInc 32 (s.regN (paCapture b c + 24)) 1))
      s.forwardCapture b c
    else
      let s := s.setReg (paCapture b c) (BitVec.ofNat 64 (capA r))
      let s := s.setReg (paCapture b c + 8) (BitVec.ofNat 64 (capM r))
      let s := s.setReg (paCapture b c + 16) (BitVec.ofNat 64 s.house)
      let s := s.setReg (paCapture b c + 24) 0
      let s := s.setReg (paBreaker b 0) (s.reg (paBreaker b 0) ||| BitVec.ofNat 64 (2 ^ c))
      let irq := s.regN (paBreaker b (0x200 + 0x10 * c))
      let s := if irq = 0 then s else s.msi b irq (s.regN (paBreaker b (0x208 + 0x10 * c)))
      let s := s.forwardCapture b c
      s.raise 0x5000 (b + 1) 0 (s.ent 0x5000 (b + 1))

/-- A report with no address, no context and no suite. -/
def plainReport (src : Nat) (master : BitVec 16) : Report :=
  ⟨BitVec.ofNat 8 src, master, 0, false, none, false, [], []⟩

/-- A report of an access: its code (Table 10.4), address and context. -/
def accReport (src : Nat) (master : BitVec 16) (access pa : Nat) (ctx : Option Nat) : Report :=
  ⟨BitVec.ofNat 8 src, master, BitVec.ofNat 3 access, false, some (BitVec.ofNat 56 pa), false,
   ctx.toList, []⟩

/-- The Breaker of a die number of an agent (R413). -/
def breakerOf (die : Nat) : Nat := if die < 4 then die else 4

/-! ### Injection (R423, R424) -/

/-- The lowest slot of Breaker `b` that injects into a word: its number and mode. `ad` is the word's
address as the checker knows it. -/
def State.injSlot (s : State) (b : Nat) (target : BitVec 16) (array dir ad : Nat) : Option (Nat × Nat) :=
  ((List.range 8).find? fun k =>
    let ctl := s.regN (paBreaker b (0x100 + 0x20 * k))
    let am := s.regN (paBreaker b (0x108 + 0x20 * k))
    let mk := s.regN (paBreaker b (0x110 + 0x20 * k))
    fld ctl 63 48 = target.toNat && fld ctl 45 44 = array && fld ctl 43 42 ≠ 0 && fld ctl 41 41 = dir &&
    fld ctl 15 0 ≠ 0 && (fld ctl 40 40 = 0 || ((ad / 16 * 16) ^^^ am) &&& mk = 0)).map
  fun k => (k, fld (s.regN (paBreaker b (0x100 + 0x20 * k))) 43 42)

/-- Slot `k` of Breaker `b` has injected once more (R424). -/
def State.injUse (s : State) (b k : Nat) : State :=
  let pa := paBreaker b (0x100 + 0x20 * k)
  let s := s.setRegF pa 15 0 (s.regF pa 15 0 - 1)
  s.setRegF (pa + 0x18) 31 0 ((s.regF (pa + 0x18) 31 0 + 1) % 2 ^ 32)

/-! ### Mode epochs (R385 to R389)

A unit is numbered 0 to 31 for the dispatcher of a global wing and 32 to 287 for a global room. -/

/-- The applied epoch of dispatcher `w`. -/
def State.wingEpoch (s : State) (w : Nat) : Nat := s.ent 0x8038 (w + 1)
/-- The applied epoch of global room `g`. -/
def State.roomEpoch (s : State) (g : Nat) : Nat := if g < 128 then s.ent 0x8039 (g + 1) else s.ent 0x803A (g - 127)
/-- Room `g`'s applied epoch as given. -/
def State.setRoomEpoch (s : State) (g e : Nat) : State :=
  if g < 128 then s.setEnt 0x8039 (g + 1) e else s.setEnt 0x803A (g - 127) e

/-- The units of suite `i` (R385). -/
def State.suiteUnits (s : State) (i : Nat) : List Nat :=
  ((suiteDies s.layout i).filter fun d => s.dieUp d).flatMap fun d =>
    (List.range 8).map (fun w => 8 * d + w) ++ (List.range 64).map fun r => 32 + 64 * d + r

/-- A unit's applied epoch. -/
def State.unitEpoch (s : State) (u : Nat) : Nat := if u < 32 then s.wingEpoch u else s.roomEpoch (u - 32)
/-- A unit's applied epoch as given. -/
def State.setUnitEpoch (s : State) (u e : Nat) : State :=
  if u < 32 then s.setEnt 0x8038 (u + 1) e else s.setRoomEpoch (u - 32) e
/-- The die of a unit. -/
def unitDie (u : Nat) : Nat := if u < 32 then u / 8 else (u - 32) / 64

/-- Entry `k` of suite `i`'s epoch. -/
def State.ep (s : State) (i k : Nat) : Nat := s.ent (0x8030 + i) k
/-- Entry `k` of suite `i`'s epoch as given. -/
def State.setEp (s : State) (i k v : Nat) : State := s.setEnt (0x8030 + i) k v

/-- The units of suite `i` that have not applied its target epoch. -/
def State.laggards (s : State) (i : Nat) : List Nat := (s.suiteUnits i).filter fun u => s.unitEpoch u ≠ s.ep i 2

/-- What the units of suite `i` now say of its epoch: how many have acknowledged and how many straggle; STAGED once all have
acknowledged, and the change has ended once all have applied it (R386, R388). -/
def State.recountEpoch (s : State) (i : Nat) : State :=
  let p := s.epoch i
  let us := s.suiteUnits i
  let n := (us.filter fun u => p.acked.contains u).length
  match s.ep i 3 with
  | 0 => s
  | 1 => (s.setEp i 7 n).setEp i 3 (if n = us.length then 2 else 1)
  | 2 => s.setEp i 7 n
  | _ =>
    let l := s.laggards i
    let s := (s.setEp i 7 n).setEp i 8 (if p.applied then l.length else s.ep i 8)
    if p.applied ∧ l = [] then (((s.setEp i 1 (s.ep i 2)).setEp i 10 (ofSigned 32 p.win)).setEp i 11 p.head.toNat).setEp i 3 0
    else s

end Sys2Proof.Machine
end

