-- ==== Sys2Proof/Machine/Wire.lean ====
section
/-! DEFINITION. What the module puts on its wires: its addresses (R311, R373), the packet header (Table
12.2), the frame of the COMPAT lane mode (R311) and the signed bytes of the discovery messages (R324). -/

namespace Sys2Proof.Machine

/-! ### Addresses (R311, R373) -/

/-- Bytes 0 to 3 of the hash of an identity key, from which its module's addresses are made. -/
def keyHead (key : Bytes) : List Nat := (List.range 4).map fun i => (lget 0#8 (Config.sha512 key) i).toNat

/-- The MAC address of a module's port or node: 02, four bytes of its key's hash, `last`. -/
def macOf (key : Bytes) (last : Nat) : Bytes := ([2] ++ keyHead key ++ [last]).map fun b => BitVec.ofNat 8 b

/-- A hexadecimal digit in ASCII. -/
def hexDigit (n : Nat) : Byte := BitVec.ofNat 8 (if n < 10 then 48 + n else 87 + n)
/-- A 16-bit group of an IPv6 address without leading zeros. -/
def hexGroup (n : Nat) : Bytes :=
  let l := if n < 16 then 1 else if n < 256 then 2 else if n < 4096 then 3 else 4
  (List.range l).map fun i => hexDigit (n / 16 ^ (l - 1 - i) % 16)

/-- The link-local address of the MAC address of a key and a last byte, as text: modified EUI-64 turns 02 into 00. -/
def linkLocalOf (key : Bytes) (last : Nat) : Bytes :=
  let b := fun i => lget 0 (keyHead key) i
  let start : Bytes := [0x66#8, 0x65#8, 0x38#8, 0x30#8, 0x3A#8, 0x3A#8]
  let g1 : Bytes := if b 0 = 0 then [] else hexGroup (b 0) ++ [0x3A#8]
  start ++ g1 ++ hexGroup (b 1 * 256 + 0xFF) ++ [0x3A#8] ++ hexGroup (0xFE00 + b 2) ++ [0x3A#8] ++ hexGroup (b 3 * 256 + last)

/-- The module's own link-local address with a last byte. -/
def State.linkLocal (s : State) (last : Nat) : Bytes := linkLocalOf s.idKey last

/-! ### The packet header (Table 12.2) -/

/-- The four 64-bit values of a packet's header, HCRC among them. -/
def headerWords (k : Packet) : List Nat :=
  [k.ver.toNat * 2 ^ 60 + k.op.toNat * 2 ^ 56 + k.dst * 2 ^ 44 + k.src * 2 ^ 32 + k.seq,
   b2n k.short * 2 ^ 63 + b2n k.unnum * 2 ^ 62 + b2n k.place * 2 ^ 61 + k.ptarget * 2 ^ 55 + fld k.rsv.toNat 2 0 * 2 ^ 52 +
     b2n k.ackp * 2 ^ 51 + k.cisop.toNat * 2 ^ 43 + k.addr,
   k.words.length * 2 ^ 55 + fld k.rsv.toNat 9 3 * 2 ^ 48 + k.gen * 2 ^ 32 + k.tagx.toNat,
   fld k.rsv.toNat 41 10 * 2 ^ 32 + k.hcrc.toNat]

/-- The 32 bytes of a packet's header (R5). -/
def headerBytes (k : Packet) : Bytes := (headerWords k).flatMap fun x => toBytes 8 x

/-- One bit of a CRC-32C step, its polynomial reflected. -/
def crcBit (c : Nat) : Nat := if c % 2 = 1 then (c / 2) ^^^ 0x82F63B78 else c / 2

/-- CRC-32C of bytes. PRESUMED: the manual names the code and not its parameters, which are those in common use:
all-ones start, reflected bits, inverted result. -/
def crc32c (bs : Bytes) : Nat :=
  (bs.foldl (fun c b => (List.range 8).foldl (fun c _ => crcBit c) (c ^^^ b.toNat)) 0xFFFFFFFF) ^^^ 0xFFFFFFFF

/-- What HCRC has to be: over the 28 bytes of the header beside it. -/
def headerCrc (k : Packet) : BitVec 32 :=
  let b := headerBytes k
  BitVec.ofNat 32 (crc32c (b.take 24 ++ b.drop 28))

/-- A packet with its HCRC. -/
def sealPacket (k : Packet) : Packet := { k with hcrc := headerCrc k }

/-- The link bytes of a packet (R309). -/
def linkBytes (k : Packet) : Nat := 32 + 18 * k.words.length

/-! ### The Ethernet frame (R311) -/

/-- The frame that carries a packet out of port `p` to the port of the same plane of the module with an identity key, or
to the IPv6 multicast address of discovery. -/
def State.frameOf (s : State) (p : Nat) (peer : Option Bytes) (k : Packet) : Frame311 :=
  let vlan := s.ent 0x4010 6
  { dmac := peer.map fun key => macOf key p
    smac := macOf s.idKey p
    vlan := vlan
    src := s.linkLocal p
    dst := match peer with | some key => linkLocalOf key p | none => s.blob 0x4010 3
    ecn := 2
    udp := s.ent 0x4010 5
    size := 66 + linkBytes k + (if vlan = 0 then 0 else 4) }

/-! ### Signed bytes (Table 12.8)

DESIGN CHOICE: the manual lists what each message carries and gives no encoding: the fields in the table's order,
little-endian. -/

/-- The signed bytes of a HELLO. -/
def helloBytes (h : HelloMsg) : Bytes :=
  h.serial ++ h.key ++ toBytes 1 h.level ++ (h.ports.flatMap fun x => toBytes 1 x) ++ toBytes 4 h.window ++
    toBytes 1 h.suites ++ toBytes 2 h.num ++ toBytes 8 h.time ++ toBytes 16 h.nonce.toNat

/-- The signed bytes of an ASSIGN. -/
def assignBytes (num epoch : Nat) (nonce : BitVec 128) (time : Nat) : Bytes :=
  toBytes 2 num ++ toBytes 4 epoch ++ toBytes 16 nonce.toNat ++ toBytes 8 time

/-- The signed bytes of one change of a MEMBER message. -/
def changeBytes (c : MemberChange) : Bytes := toBytes 2 c.num ++ c.key ++ c.addrs.flatten ++ toBytes 1 (b2n c.join)

/-- The signed bytes of a MEMBER message. -/
def memberBytes (epoch : Nat) (cs : List MemberChange) (time : Nat) : Bytes :=
  toBytes 4 epoch ++ cs.flatMap changeBytes ++ toBytes 8 time

/-- The signed bytes of a PAIR_ACCEPT. -/
def pairAcceptBytes (gen : Nat) (nonces : Bytes) : Bytes := toBytes 2 gen ++ nonces

end Sys2Proof.Machine
end

