-- ==== Sys2Proof/Machine/Home.lean ====
section
/-! DEFINITION. The homes: words of the stacks and of host memory under the common code (R208, R214,
R216, R217, R424), whole lines, partial writes (R175) and merge buffers (R231). -/

namespace Sys2Proof

/-- Word `m` of a line. -/
def LineData.word (l : LineData) (m : Nat) : BitVec 128 := BitVec.ofNat 128 (l.bits.toNat / 2 ^ (128 * m))
/-- Whether word `m` of a line is poison. -/
def LineData.poisoned (l : LineData) (m : Nat) : Bool := Machine.bitOf l.psn.toNat m
/-- The bytes of a line. -/
def LineData.bytes (l : LineData) : Bytes := Machine.toBytes 64 l.bits.toNat
/-- A line of +0. -/
def LineData.zero : LineData := ⟨0, 0⟩

end Sys2Proof

namespace Sys2Proof.Machine

/-- Who makes an access: its agent number, the access code of Table 10.4 and its context. -/
structure Who where
  master : BitVec 16
  access : Nat
  ctx    : Option Nat
deriving DecidableEq, Repr

/-! ### Lines -/

/-- A line of four words with their poison marks. -/
def lineOfWords (ws : List (BitVec 128 × Bool)) : LineData :=
  ⟨BitVec.ofNat 512 ((ws.zipIdx.map fun x => x.1.1.toNat * 2 ^ (128 * x.2)).foldl (· + ·) 0),
   BitVec.ofNat 4 (maskOf ((ws.zipIdx.filter fun x => x.1.2).map fun x => x.2))⟩
/-- A line of 64 bytes with no poison. -/
def lineOfBytes (b : Bytes) : LineData := ⟨BitVec.ofNat 512 (ofBytes b), 0⟩
/-- The bytes of `new` under the byte mask, the rest of `old`; a word keeps its poison unless all 16 of its
bytes are written (R425), and takes the poison of what is written into it. -/
def mergeLine (old : LineData) (mask : BitVec 64) (new : LineData) : LineData :=
  let ob := old.bytes
  let nb := new.bytes
  let bs := (List.range 64).map fun i => if bitOf mask.toNat i then lget 0#8 nb i else lget 0#8 ob i
  let ps := (List.range 4).filter fun m =>
    let mk := fld mask.toNat (16 * m + 15) (16 * m)
    if mk = 65535 then new.poisoned m else if mk = 0 then old.poisoned m
    else old.poisoned m || new.poisoned m
  ⟨BitVec.ofNat 512 (ofBytes bs), BitVec.ofNat 4 (maskOf ps)⟩

/-- The byte mask of bytes `lo` to `lo + n − 1` of a line. -/
def byteMask (lo n : Nat) : BitVec 64 := BitVec.ofNat 64 ((2 ^ n - 1) * 2 ^ lo)
/-- The mask of a whole line. -/
def fullMask : BitVec 64 := BitVec.allOnes 64

/-! ### Checkers (R214, R216, R217, R424) -/

/-- What a checker forwards of a word: its data, whether it is poison, whether it was corrected, and whether it was
found uncorrectable. -/
structure Checked where
  x     : BitVec 128
  psn   : Bool
  fixed : Bool
  ue    : Bool
deriving DecidableEq, Repr

/-- Checker `t` of the die of Breaker `b` reads for `who` a stored word with data `x` and check difference `δ`, with
the injections armed on reads; `la` says that `ad` is a room-local offset (R456). -/
def State.checkWord (s : State) (b : Nat) (t : BitVec 16) (who : Who) (la : Bool) (ad : Nat) (x : BitVec 128)
    (δ : BitVec 16) : Checked × State :=
  let inj := s.injSlot b t 0 1 ad
  let δ' := match inj with | some (_, m) => δ ^^^ injectMask m | none => δ
  let s := match inj with | some (k, _) => s.injUse b k | none => s
  let rep := fun src => { accReport src who.master who.access ad who.ctx with inj := true, room := la }
  match decodeWord x δ' with
  | .clean => (⟨x, false, false, false⟩, s)
  | .poison => (⟨x, true, false, false⟩, s)
  | .corrected y => (⟨y, false, true, false⟩, s.capture b (rep 0x01))
  | .uncorrectable => (⟨x, true, false, true⟩, s.capture b (rep 0x10))

/-- The check difference with which checker `t` stores a word, poisoned or not, and the use of an injection armed on
writes. -/
def State.codeWord (s : State) (b : Nat) (t : BitVec 16) (ad : Nat) (psn : Bool) : BitVec 16 × State :=
  let δ := if psn then poisonMask else 0#16
  match s.injSlot b t 0 0 ad with
  | some (k, m) => (δ ^^^ injectMask m, s.injUse b k)
  | none => (δ, s)

/-- A stored line as checker `t` reads it for `who`: `code` gives, by word address, what its check bits differ by
beside its poison. The answer says how many words were corrected. -/
def State.checkLine (s : State) (b : Nat) (t : BitVec 16) (who : Who) (line : Nat) (l : LineData)
    (code : Tab (BitVec 16)) : (LineData × Nat) × State :=
  let r := (List.range 4).foldl (fun (acc : (List (BitVec 128 × Bool) × Nat) × State) m =>
    let pa := line * 64 + 16 * m
    let c := acc.2.checkWord b t who false pa (l.word m)
      (tget 0#16 code pa ^^^ (if l.poisoned m then poisonMask else 0#16))
    ((acc.1.1 ++ [(c.1.x, c.1.psn)], acc.1.2 + b2n c.1.fixed), c.2)) (([], 0), s)
  ((lineOfWords r.1.1, r.1.2), r.2)

/-- The table of check differences after checker `t` has stored words `ms` of a line. -/
def State.codeLine (s : State) (b : Nat) (t : BitVec 16) (line : Nat) (ms : List Nat) (code : Tab (BitVec 16)) :
    Tab (BitVec 16) × State :=
  ms.foldl (fun (acc : Tab (BitVec 16) × State) m =>
    let pa := line * 64 + 16 * m
    let d := acc.2.codeWord b t pa false
    (tput 0#16 pa d.1 acc.1, d.2)) (code, s)

/-! ### Words at a home -/

/-- The Breaker of the die of an address's home. -/
def homeBreaker (pa : Nat) : Nat := breakerOf (agentDie (homeAgent pa))

/-- The data of the 16-byte word at `pa` as stored. -/
def State.wordAt (s : State) (pa : Nat) : BitVec 128 := BitVec.ofNat 128 (ofBytes (cellsGet s.mem pa 16))

/-- The word at `pa` stored with data `x` and check difference `δ`. -/
def State.storeWord (s : State) (pa : Nat) (x : BitVec 128) (δ : BitVec 16) : State :=
  { s with mem := cellsPut pa (toBytes 16 x.toNat) s.mem, code := tput 0#16 pa δ s.code }

/-- The home stores a word, poisoned or not; an armed slot on writes changes its check bits (R424). -/
def State.putWord (s : State) (pa : Nat) (x : BitVec 128) (psn : Bool) : State :=
  let d := s.codeWord (homeBreaker pa) (homeAgent pa) pa psn
  d.2.storeWord pa x d.1

/-- The counts of a stack controller: corrected (`u` false) or uncorrectable words read (R224). -/
def State.countWord (s : State) (pa : Nat) (u : Bool) : State :=
  match regionOf pa with
  | .stack j =>
    let s := s.incEnt (if u then 0x3014 else 0x3013) (j + 1) 1
    let r := paStack j 0x10
    if u then s.setRegF r 63 32 ((s.regF r 63 32 + 1) % 2 ^ 32) else s.setRegF r 31 0 ((s.regF r 31 0 + 1) % 2 ^ 32)
  | _ => s

/-- The home reads a word from its dies for `who` (R212, R217): data, whether it leaves as poison. A
stack controller writes back what it corrected. -/
def State.readWord (s : State) (who : Who) (pa : Nat) : (BitVec 128 × Bool) × State :=
  let c := s.checkWord (homeBreaker pa) (homeAgent pa) who false pa (s.wordAt pa) (tget 0#16 s.code pa)
  let s := if c.1.fixed || c.1.ue then c.2.countWord pa c.1.ue else c.2
  let s := match c.1.fixed, regionOf pa with
    | true, .stack _ => s.storeWord pa c.1.x 0#16
    | _, _ => s
  ((c.1.x, c.1.psn), s)

/-- The row that an access opens (R208). -/
def State.openRowOf (s : State) (pa : Nat) : State :=
  match regionOf pa with
  | .stack j =>
    let st := s.stack j
    let p := stackPlace pa
    s.setStack j { st with openRow := tset (stackChannel pa * 16 + p.1) p.2.1 st.openRow }
  | _ => s

/-! ### Pool frames (R240, R245, R251) -/

/-- The state of the tier range: 0 DISABLED, 1 INITIALISING, 2 ENABLED, 3 DISABLING. -/
def State.tierState (s : State) : Nat := s.ent 0x3100 8
/-- The first byte of the pool of stack `j`. -/
def State.poolBase (s : State) (j : Nat) : Nat := (j + 1) * 2 ^ 36 + s.ent 0x3101 (j + 1) * 65536
/-- The physical address of frame `f`. -/
def State.frameAddr (s : State) (f : Nat) : Nat := s.poolBase (f / 524288) + f % 524288 * 65536
/-- The pool frame that a stack address lies in, while the tier range is in use. -/
def State.poolFrame (s : State) (pa : Nat) : Option Nat :=
  match regionOf pa with
  | .stack j =>
    if s.tierState = 0 ∨ s.tierState = 1 then none
    else if s.poolBase j ≤ pa ∧ pa < s.poolBase j + s.ent 0x3102 (j + 1) * 65536 then
      some (j * 524288 + (pa - s.poolBase j) / 65536)
    else none
  | _ => none
/-- Whether a write by anyone but the Dumbwaiter at a host address is refused (R243). -/
def State.tierRegion (s : State) (pa : Nat) : Bool :=
  decide (s.tierState ≠ 0) && decide (s.ent 0x3100 1 ≤ pa) && decide (pa < s.ent 0x3100 1 + 0x66000000)
/-- The dirty mask of frame `f`. -/
def State.qdOf (s : State) (f : Nat) : BitVec 4 := tget 0#4 (s.stack (f / 524288)).qd f
/-- The dirty mask of frame `f` as given. -/
def State.setQd (s : State) (f : Nat) (m : BitVec 4) : State :=
  let k := s.stack (f / 524288)
  s.setStack (f / 524288) { k with qd := tput 0#4 f m k.qd }
/-- A write-intent grant or a write makes the quarter of a pool line dirty (R251). -/
def State.markQd (s : State) (line : Nat) : State :=
  match s.poolFrame (line * 64) with
  | some f => s.setQd f (s.qdOf f ||| BitVec.ofNat 4 (2 ^ ((line * 64 - s.frameAddr f) / 16384)))
  | none => s

/-! ### Lines at a home -/

/-- The merge buffer's words of a line are read for `who`. -/
def State.mergeRead (s : State) (who : Who) (line : Nat) (l : LineData) : LineData × State :=
  match regionOf (line * 64) with
  | .stack j =>
    let r := s.checkLine (homeBreaker (line * 64)) (homeAgent (line * 64)) who line l (s.stack j).mcode
    (r.1.1, r.2)
  | _ => (l, s)

/-- The words of a line as the home reads them from its dies: a stack controller reads, and checks, the line's whole
granule (R208, R216). -/
def State.readDies (s : State) (who : Who) (line : Nat) : LineData × State :=
  let s := s.openRowOf (line * 64)
  let lo := match regionOf (line * 64) with | .stack _ => line / 4 * 4 | _ => line
  let n := match regionOf (line * 64) with | .stack _ => 16 | _ => 4
  let r := (List.range n).foldl (fun (a : List (BitVec 128 × Bool) × State) m =>
    let w := a.2.readWord who (lo * 64 + 16 * m)
    (a.1 ++ [w.1], w.2)) ([], s)
  (lineOfWords (slice r.1 (4 * (line - lo)) 4), r.2)

/-- The home reads a line: from its merge buffer, or from the dies. -/
def State.readLine (s : State) (who : Who) (line : Nat) : LineData × State :=
  match s.mergeCopy line with
  | some l => s.mergeRead who line l
  | none => s.readDies who line

/-- The home writes the words of a line that `words` names. -/
def State.writeWords (s : State) (line : Nat) (words : List Nat) (l : LineData) : State :=
  let s := s.openRowOf (line * 64)
  let s := each words (fun m s => s.putWord (line * 64 + 16 * m) (l.word m) (l.poisoned m)) s
  match regionOf (line * 64) with
  | .stack j =>
    let st := s.stack j
    if st.merge.any (fun e => e.1 = line) then
      let mask := BitVec.ofNat 64 (maskOf (words.flatMap fun m => (List.range 16).map fun i => 16 * m + i))
      s.setStack j { st with
        merge := st.merge.map fun (e : Nat × LineData) => if e.1 = line then (line, mergeLine e.2 mask l) else e
        mcode := words.foldl (fun c m => tdel c (line * 64 + 16 * m)) st.mcode }
    else s
  | _ => s

/-- The home writes a whole line (R175). -/
def State.writeLine (s : State) (line : Nat) (l : LineData) : State := s.writeWords line [0, 1, 2, 3] l

/-- The words of a line that a byte mask touches. -/
def touchedWords (mask : BitVec 64) : List Nat :=
  (List.range 4).filter fun m => fld mask.toNat (16 * m + 15) (16 * m) ≠ 0

/-- Whether a byte mask covers each word that it touches. -/
def wholeWords (mask : BitVec 64) : Bool :=
  (touchedWords mask).all fun m => fld mask.toNat (16 * m + 15) (16 * m) = 65535

/-- The home merges the masked bytes into a line (R175): it reads the line only where a word keeps some of its bytes
(R208). -/
def State.writeMasked (s : State) (who : Who) (line : Nat) (mask : BitVec 64) (l : LineData) : State :=
  if wholeWords mask then s.writeWords line (touchedWords mask) l
  else
    let r := s.readLine who line
    r.2.writeWords line (touchedWords mask) (mergeLine r.1 mask l)

/-! ### Zero scrubs (R219) -/

/-- Whether the stack of an address is being zero scrubbed, so that its controller refuses (R219). -/
def State.scrubbed (s : State) (pa : Nat) : Bool :=
  match regionOf pa with
  | .stack j => (s.stack j).scrubbing
  | _ => false

/-- A zero scrub's effect on stack `j`: every word +0 with valid check bits, no directory entry, nothing
merged (R219). -/
def State.zeroStack (s : State) (j : Nat) : State :=
  let lo := (j + 1) * 2 ^ 36
  let hi := lo + 2 ^ 36
  let out := fun a => decide (a < lo) || decide (hi ≤ a)
  let st := s.stack j
  let s := s.setStack j { st with merge := [], mcode := [], wbBuf := [] }
  { s with
    mem := s.mem.filter fun c => out c.1
    code := s.code.filter fun c => out c.1
    dirs := s.dirs.filter fun e => out (e.1 * 64)
    txns := s.txns.filter fun e => out (e.1 * 64) }

end Sys2Proof.Machine
end

