-- ==== Sys2Proof/Machine/Cistern.lean ====
section
/-! DEFINITION. The Cistern's arithmetic (R227 to R234): the operation named by a CISOP code on one
destination word and one source word, and its application at a home. Flags are SCCIS bits: 0 OV, 1 NR,
2 FOF, 3 FNV, 4 PSN (Table 8.6). -/

namespace Sys2Proof.Machine

/-- Lane `i` of width `w` of a word. -/
def laneOf (w : Nat) (x : BitVec 128) (i : Nat) : Nat := x.toNat / 2 ^ (w * i) % 2 ^ w

/-- A word made of lanes of width `w`, lane 0 first. -/
def ofLanes (w : Nat) : List Nat → BitVec 128
  | [] => 0
  | v :: t => BitVec.ofNat 128 (v % 2 ^ w + 2 ^ w * (ofLanes w t).toNat)

/-- A lane-wise operation on two words. -/
def lanes2 (w : Nat) (f : Nat → Nat → Nat) (d s : BitVec 128) : BitVec 128 :=
  ofLanes w ((List.range (128 / w)).map fun i => f (laneOf w d i) (laneOf w s i))

/-- The lane width of an element code: 0 for 32 bits, 1 for 64. -/
def cisWidth (el : Nat) : Nat := if el = 0 then 32 else 64

/-- The signed comparison of two lanes. -/
def slt (w a b : Nat) : Bool := decide (toSigned w a < toSigned w b)

/-- A floating add of the Cistern (R229): the canonical NaN, FOF on overflow, FNV for a new NaN. -/
def cisFadd (f : FFmt) (d s : Nat) : Nat × Nat :=
  let r := f.add .rne d s
  (r.1, (if r.2 &&& xOF ≠ 0 then 4 else 0) |||
        (if f.isNaN r.1 && !f.isNaN d && !f.isNaN s then 8 else 0))

/-- Lane-wise floating adds with their flags. -/
def cisFaddWord (f : FFmt) (d s : BitVec 128) : BitVec 128 × Nat :=
  let w := f.width
  let rs := (List.range (128 / w)).map fun i => cisFadd f (laneOf w d i) (laneOf w s i)
  (ofLanes w (rs.map fun r => r.1), rs.foldl (fun a r => a ||| r.2) 0)

/-- Whether a CISOP code is listed (Table 8.8). -/
def cisOpOk (op : Nat) : Bool :=
  (op % 16 ≤ 1 && op / 16 ≤ 8) || op = 0x92 || op = 0x93 || op = 0xA4

/-- The compare-and-swap codes. -/
def cisIsCas (op : Nat) : Bool := op = 0x80 || op = 0x81

/-- CAS of the source's pairs on the half of the destination word that starts at byte `half` (0 or 8) of
it (R230). -/
def cisCas (op half : Nat) (d s : BitVec 128) : BitVec 128 :=
  if op = 0x80 then
    let f := fun (i : Nat) =>
      let cur := laneOf 32 d (half / 4 + i)
      if cur = laneOf 32 s (2 * i) then laneOf 32 s (2 * i + 1) else cur
    ofLanes 32 ((List.range 4).map fun j =>
      if half / 4 ≤ j ∧ j < half / 4 + 2 then f (j - half / 4) else laneOf 32 d j)
  else
    let cur := laneOf 64 d (half / 8)
    let new := if cur = laneOf 64 s 0 then laneOf 64 s 1 else cur
    ofLanes 64 ((List.range 2).map fun j => if j = half / 8 then new else laneOf 64 d j)

/-- The result of an operation on a destination word `d` and a source word `s` (Table 8.8); `half` names
the half of `d` that a CAS acts on. -/
def cisApply (op half : Nat) (d s : BitVec 128) : BitVec 128 × Nat :=
  let w := cisWidth (op % 16)
  match op / 16 with
  | 0 => (lanes2 w (fun a b => a + b) d s, 0)
  | 1 => (lanes2 w (fun a b => if slt w b a then b else a) d s, 0)
  | 2 => (lanes2 w (fun a b => if slt w a b then b else a) d s, 0)
  | 3 => (lanes2 w (fun a b => min a b) d s, 0)
  | 4 => (lanes2 w (fun a b => max a b) d s, 0)
  | 5 => (d &&& s, 0)
  | 6 => (d ||| s, 0)
  | 7 => (d ^^^ s, 0)
  | 8 => (cisCas op half d s, 0)
  | 9 => cisFaddWord (if op = 0x92 then fFP32 else fBF16) d s
  | _ =>
    let r := xpAdd d s
    (r.1, (if r.2 &&& nfOV ≠ 0 then 1 else 0) ||| (if r.2 &&& nfNR ≠ 0 then 2 else 0))

/-- The operation on a line: the word that `pa` lies in, with poison as R234 states. -/
def cisLine (op pa : Nat) (l : LineData) (x : BitVec 128) (psn : Bool) : LineData × Nat :=
  let m := pa / 16 % 4
  let bad := psn || l.poisoned m
  let r := cisApply op (pa % 16 / 8 * 8) (l.word m) x
  let ws := (List.range 4).map fun i =>
    if i = m then (r.1, bad) else (l.word i, l.poisoned i)
  (lineOfWords ws, r.2 ||| (if bad then 16 else 0))

/-- Flags gathered in a stack's SCCIS and its dictionary copy (R233). -/
def State.setCis (s : State) (j fl : Nat) : State :=
  if fl = 0 then s
  else
    let s := s.setReg (paStack j 8) (s.reg (paStack j 8) ||| BitVec.ofNat 64 fl)
    s.setEnt 0x3017 (j + 1) (s.regF (paStack j 8) 4 0)

/-- The merge buffer writes a line to the dies (R231). -/
def State.mergeFlush (s : State) (j line : Nat) : State :=
  match s.mergeCopy line with
  | none => s
  | some l =>
    let r := s.mergeRead ⟨homeAgent (line * 64), 1, none⟩ line l
    let st := r.2.stack j
    let st := { st with merge := st.merge.filter fun e => e.1 ≠ line }
    let s := r.2.setStack j { st with mcode := st.mcode.filter fun e => e.1 / 64 ≠ line }
    s.writeLine line r.1

/-- A merge buffer holds a line as given, words `ms` of it newly stored. -/
def State.mergeStore (s : State) (j line : Nat) (ms : List Nat) (l : LineData) : State :=
  let c := s.codeLine (homeBreaker (line * 64)) (homeAgent (line * 64)) line ms (s.stack j).mcode
  let st := c.2.stack j
  let es := if st.merge.any fun e => e.1 = line then st.merge.map fun e => if e.1 = line then (line, l) else e
    else st.merge ++ [(line, l)]
  c.2.setStack j { st with merge := es, mcode := c.1 }

/-- A line taken into a merge buffer of 256 lines, the oldest written out when it is full. -/
def State.mergeTake (s : State) (j line : Nat) (who : Who) : LineData × State :=
  match s.mergeCopy line with
  | some l => s.mergeRead who line l
  | none =>
    let s := match (s.stack j).merge with
      | e :: _ => if 256 ≤ (s.stack j).merge.length then s.mergeFlush j e.1 else s
      | [] => s
    let r := s.readLine who line
    (r.1, r.2.mergeStore j line [0, 1, 2, 3] r.1)

/-- A Cistern applies one addend word at `pa` of its stack (R227 to R234). The line has been taken from
every caching agent. Answers the flags, and the destination word as it was before with its poison. -/
def State.cisternWord (s : State) (j op pa : Nat) (x : BitVec 128) (psn : Bool) (who : Who) :
    (Nat × BitVec 128 × Bool) × State :=
  let line := pa / 64
  let t := s.mergeTake j line who
  let r := cisLine op pa t.1 x psn
  let s := t.2.mergeStore j line [pa / 16 % 4] r.1
  let s := s.incEnt 0x3018 (j + 1) 1
  ((r.2, t.1.word (pa / 16 % 4), t.1.poisoned (pa / 16 % 4)), s.setCis j r.2)

end Sys2Proof.Machine
end

