-- ==== Sys2Proof/Machine/Coh.lean ====
section
/-! DEFINITION. Caching agents, Landings and directories (R187 to R205): the pieces that the coherence
messages and the accesses of the module's units share. Agents 0 to 31 are the wing caches by global wing
number, 32 to 39 the last-level cache slices (R197). -/

namespace Sys2Proof.Machine

/-! ### Agents -/

/-- The 16-bit agent number of caching agent `a`. -/
def cacheAgent (a : Nat) : BitVec 16 := if a < 32 then agentNo (a / 8) 0x06 (a % 8) else agentNo 4 0x11 (a - 32)
/-- The die of caching agent `a`. -/
def cacheDie (a : Nat) : Nat := if a < 32 then a / 8 else 4
/-- Whether caching agent `a` is out of reset. -/
def State.cacheUp (s : State) (a : Nat) : Bool := if a < 32 then s.wingUp a else s.on
/-- The set of a line in a wing cache (R187); a slice is modelled as one set. -/
def cacheSet (a line : Nat) : Nat := if a < 32 then 2048 * (line / 2048 % 3) + line % 2048 else 0
/-- The ways of a caching agent: 16 of a wing cache; a slice's 16 MiB of lines as ways of its one set. -/
def cacheWays (a : Nat) : Nat := if a < 32 then 16 else 262144

/-- The ways that may receive a new line (R190). -/
def State.eligible (s : State) (a n : Nat) : Bool :=
  if a < 32 then
    bitOf (s.regF (paCache a 0) 31 16) n && !bitOf (s.regF (paCache a 0) 47 32) n &&
    !bitOf (s.regF (paCache a 8) 47 32) n
  else true

/-- Whether some way may receive a new line. -/
def State.anyEligible (s : State) (a : Nat) : Bool := a ≥ 32 || (List.range 16).any fun n => s.eligible a n

/-- The hold time of an agent in ns (R205): WCCFG.HOLD cycles of CFAB, or 128 cycles of HMESH. -/
def State.holdNs (s : State) (a : Nat) : Nat := if a < 32 then (s.regF (paCache a 0) 8 0 * 5 + 5) / 6 else 64
/-- Whether a line of agent `a` is within its hold time. -/
def State.inHold (s : State) (a : Nat) (c : CLine) : Bool :=
  match c.hold with
  | some t => decide (s.house < t + s.holdNs a)
  | none => false

/-! ### The Landing (R195) -/

/-- The Landing of cache `a` as given, with WCLAND's occupancy and high mark (Table 7.1). -/
def State.setLanding (s : State) (a : Nat) (l : List LandLine) : State :=
  let s := s.setCache a { s.cache a with landing := l }
  if a < 32 then
    let s := s.setRegF (paCache a 0x18) 5 0 l.length
    if s.regF (paCache a 0x18) 15 8 < l.length then s.setRegF (paCache a 0x18) 15 8 l.length else s
  else s

/-- The Landing's entry for a line. -/
def State.landed (s : State) (a line : Nat) : Option LandLine := (s.cache a).landing.find? fun e => e.line = line
/-- The Landing without a line. -/
def State.unland (s : State) (a line : Nat) : State :=
  let s := s.setLanding a ((s.cache a).landing.filter fun e => e.line ≠ line)
  let k := s.cache a
  s.setCache a { k with code := k.code.filter fun e => e.1 / 64 ≠ line }

/-! ### Lines of a cache -/

/-- Cache `a`'s copy of a line. -/
def State.held (s : State) (a line : Nat) : Option CLine := ((s.cache a).lines.find? fun e => e.1 = line).map fun e => e.2
/-- Cache `a` holds a line as given. -/
def State.setHeld (s : State) (a line : Nat) (c : CLine) : State :=
  let k := s.cache a
  s.setCache a { k with lines := tset line c k.lines }
/-- Cache `a` holds the line no longer. -/
def State.dropHeld (s : State) (a line : Nat) : State :=
  let k := s.cache a
  s.setCache a { k with lines := tdel k.lines line
                        code := k.code.filter fun e => e.1 / 64 ≠ line }

/-- Reservations on a line are lost (R178). -/
def State.loseResv (s : State) (line : Nat) : State := { s with resv := s.resv.filter fun e => e.2 / 64 ≠ line }

/-! ### Directories (R197 to R199) -/

/-- The directory's state of a line; none is U. -/
def State.dirOf (s : State) (line : Nat) : Option DirState := (s.dirs.find? fun e => e.1 = line).map fun e => e.2.st

/-- The directory set of a line: its home, and the number of one of the home's 65,536 sets of 16 entries. The manual
does not give the set's number (DESIGN CHOICE): the lowest bits of the line's number among the home's lines, of which a
host memory controller homes four in every 32 (R455). -/
def dirSet (line : Nat) : Nat × Nat :=
  ((homeAgent (line * 64)).toNat,
   (match regionOf (line * 64) with | .host => line / 32 * 4 + line % 4 | _ => line) % 65536)

/-- The sharer vector's agents. -/
def sharers (v : BitVec 40) : List Nat := bitsOf 40 v.toNat
/-- A sharer vector. -/
def vecOf (l : List Nat) : BitVec 40 := BitVec.ofNat 40 (maskOf l)
/-- The agents that a directory state lists. -/
def dirAgents : Option DirState → List Nat
  | none => []
  | some (.shared v) => sharers v
  | some (.owned o) => [o]

/-- The directory without an entry for a line. -/
def State.dirDrop (s : State) (line : Nat) : State := { s with dirs := tdel s.dirs line }

/-- The directory's entry of a line rewritten, or a new entry in an empty place; a state that lists nobody
leaves no entry. -/
def State.dirPut (s : State) (line : Nat) (d : DirState) : State :=
  if dirAgents (some d) = [] then s.dirDrop line
  else match s.dirs.find? fun e => e.1 = line with
    | some e => { s with dirs := tset line { e.2 with st := d } s.dirs }
    | none => { s with dirs := tset line ⟨d, s.dirAge⟩ s.dirs, dirAge := s.dirAge + 1 }

/-- The entry that a home must give up before it can allocate one for a line (R199). -/
def State.dirVictim (s : State) (line : Nat) : Option Nat :=
  if (s.dirOf line).isSome then none
  else
    let here := s.dirs.filter fun e => dirSet e.1 = dirSet line
    if here.length < 16 then none
    else (here.foldl (fun (m : Option (Nat × DirEntry)) e =>
      match m with
      | none => some e
      | some o => if e.2.age < o.2.age then some e else some o) none).map fun e => e.1

/-! ### Corrected errors of ways (R193) -/

/-- CFAB cycles at house time (R23): 1.2 GHz. -/
def State.cfab (s : State) : Nat := s.house * 6 / 5

/-- A corrected error in way `n` of wing cache `w`: its run and count; the answer says whether it is the
sixteenth of the run. -/
def State.wayError (s : State) (w n : Nat) : Bool × State :=
  let s := s.incEnt (0x5234 + w / 8) (w % 8 + 1) 1
  let k := s.cache w
  let start := k.waysRun.find? fun e => e.1 = n
  let pc := paCache w (0x40 + 8 * n)
  let fresh := match start with | some e => decide (s.cfab > e.2 + 2 ^ 24) | none => true
  if fresh then
    (false, (s.setCache w { k with waysRun := tset n s.cfab k.waysRun }).setReg pc 1)
  else
    let c := s.regF pc 4 0 + 1
    if 16 ≤ c then (true, (s.setReg pc 0).setCache w { k with waysRun := tdel k.waysRun n })
    else (false, s.setReg pc (BitVec.ofNat 64 c))

/-! ### Reading a cache's arrays (R216, R217, R424) -/

/-- The Breaker of caching agent `a`'s die. -/
def cacheBreaker (a : Nat) : Nat := breakerOf (cacheDie a)

/-- The injections armed on reads of the tag (array 1) and state (2) of a line's way: an uncorrectable one makes the
line poison. The answer counts what was corrected. -/
def State.readTags (s : State) (a : Nat) (who : Who) (line : Nat) (l : LineData) (n : Nat) : (LineData × Nat) × State :=
  let b := cacheBreaker a
  [1, 2].foldl (fun (acc : (LineData × Nat) × State) array =>
    match acc.2.injSlot b (cacheAgent a) array 1 (line * 64) with
    | none => acc
    | some (k, md) =>
      let s := acc.2.injUse b k
      let rep := fun src => { accReport src who.master who.access (line * 64) who.ctx with inj := true }
      if md = 1 then ((acc.1.1, acc.1.2 + 1), s.capture b (rep 0x01))
      else if a ≥ 32 then (acc.1, s.capture b (rep 0x42))
      else if md = 2 then (({ acc.1.1 with psn := 0xF#4 }, acc.1.2), s.capture b (rep 0x10))
      else (({ acc.1.1 with psn := 0xF#4 }, acc.1.2), s)) ((l, n), s)

/-- The words of a line as the arrays of cache `a` give them to `who`: each stored word is decoded, and its tag and
state are read. The answer also says in how many places an error was corrected. -/
def State.readArrays (s : State) (a : Nat) (who : Who) (line : Nat) (l : LineData) : (LineData × Nat) × State :=
  let r := s.checkLine (cacheBreaker a) (cacheAgent a) who line l (s.cache a).code
  r.2.readTags a who line r.1.1 r.1.2

/-- Data written into the arrays of cache `a` for words `ms` of a line; an armed slot on writes leaves a
check difference there. -/
def State.writeArrays (s : State) (a line : Nat) (ms : List Nat) : State :=
  let c := s.codeLine (cacheBreaker a) (cacheAgent a) line ms (s.cache a).code
  c.2.setCache a { c.2.cache a with code := c.1 }

/-- A line that the Landing of cache `a` holds, as its storage gives it. -/
def State.readLanded (s : State) (a line : Nat) (l : LineData) : LineData × State :=
  let r := s.checkLine (cacheBreaker a) (cacheAgent a) ⟨cacheAgent a, 0, none⟩ line l (s.cache a).code
  (r.1.1, r.2)

/-! ### What a home does for a request (Table 7.4) -/

/-- The requesting agent of a request from a caching agent. -/
def reqAgent : HomeReq → Option Nat
  | .rds a => some a
  | .rdx a => some a
  | .upg a => some a
  | .wro a => some a
  | _ => none

/-- The snoops that a home sends for a request: to whom, and whether they invalidate. A home does not
snoop the requester: an owner that asks again has dropped its clean copy (R198). -/
def State.reqSnoops (s : State) (line : Nat) (r : HomeReq) : List Nat × Bool :=
  let d := s.dirOf line
  let others := match reqAgent r with
    | some a => (dirAgents d).filter fun o => o ≠ a
    | none => dirAgents d
  match r, d with
  | .rds _, some (.owned _) => (others, false)
  | .rdo _, some (.owned _) => (others, false)
  | .rds _, _ => ([], false)
  | .rdo _, _ => ([], false)
  | _, _ => (others, true)

/-- What a home answers. -/
inductive Grant where
  | s (l : LineData)
  | e (l : LineData)
  | m (l : LineData)
  | o
  | data (l : LineData)
  | cmp
deriving DecidableEq, Repr

/-- The read made by a home on behalf of caching agent `a`. -/
def agentWho (a : Nat) : Who := ⟨cacheAgent a, 0, none⟩

/-- The home ends a request whose snoops have been answered: `dirty` is the data an owner returned, and
`keep` the agents that still hold the line (Table 7.4). For WRF it leaves the placement to R204. -/
def State.homeEnd (s : State) (line : Nat) (r : HomeReq) (dirty : Option LineData) (keep : List Nat)
    (who : Who) : Grant × State :=
  match r with
  | .rds a =>
    match s.dirOf line with
    | some (.owned o) =>
      if o ≠ a ∧ keep.contains o then
        let s := match dirty with | some l => s.writeLine line l | none => s
        let x := s.readLine who line
        (.s (dirty.getD x.1), x.2.dirPut line (.shared (vecOf [o, a])))
      else
        let s := match dirty with | some l => s.writeLine line l | none => s
        let x := s.readLine who line
        (.e x.1, x.2.dirPut line (.owned a))
    | some (.shared v) =>
      let x := s.readLine who line
      (.s x.1, x.2.dirPut line (.shared (vecOf (a :: sharers v))))
    | none =>
      let x := s.readLine who line
      (.e x.1, x.2.dirPut line (.owned a))
  | .rdx a =>
    match dirty with
    | some l => (.m l, s.dirPut line (.owned a))
    | none =>
      let x := s.readLine who line
      (.m x.1, x.2.dirPut line (.owned a))
  | .upg a =>
    match s.dirOf line with
    | some (.shared v) =>
      if (sharers v).contains a then (.o, s.dirPut line (.owned a))
      else
        let x := s.readLine who line
        (.m x.1, x.2.dirPut line (.owned a))
    | _ =>
      match dirty with
      | some l => (.m l, s.dirPut line (.owned a))
      | none =>
        let x := s.readLine who line
        (.m x.1, x.2.dirPut line (.owned a))
  | .wro a => (.o, s.dirPut line (.owned a))
  | .rdo _ =>
    match s.dirOf line with
    | some (.owned o) =>
      let s := match dirty with | some l => s.writeLine line l | none => s
      let x := s.readLine who line
      (.data x.1, x.2.dirPut line (.shared (vecOf (if keep.contains o then [o] else []))))
    | _ =>
      let x := s.readLine who line
      (.data x.1, x.2)
  | .wrf _ l _ => (.cmp, (s.writeLine line l).dirDrop line)
  | .wrp _ mask l =>
    let s := match dirty with | some d => s.writeLine line d | none => s
    (.cmp, (s.writeMasked who line mask l).dirDrop line)
  | .red _ pa op x psn =>
    let s := match dirty with | some d => s.writeLine line d | none => s
    match regionOf pa with
    | .stack j => (.cmp, ((s.dirDrop line).cisternWord j op.toNat pa x psn who).2)
    | _ => (.cmp, s.dirDrop line)
  | .inval _ =>
    let s := match dirty with | some d => s.writeLine line d | none => s
    if (s.dirOf line).isNone then (.cmp, s)
    else match regionOf (line * 64) with
      | .stack j => (.cmp, (s.dirDrop line).incEnt 0x3020 (j + 1) 1)
      | _ => (.cmp, (s.dirDrop line).incEnt 0x3021 (hostChannel (line * 64) + 1) 1)

/-- `homeEnd` with the special ways of pool frames (R251): RDS is never granted E, and a write-intent grant or
a write sets the quarter's dirty bit. -/
def State.homeFinish (s : State) (line : Nat) (r : HomeReq) (dirty : Option LineData) (keep : List Nat)
    (who : Who) : Grant × State :=
  let x := s.homeEnd line r dirty keep who
  match (s.poolFrame (line * 64)).isSome, r, x.1 with
  | true, .rds a, .e l => (.s l, x.2.dirPut line (.shared (vecOf [a])))
  | true, .rds _, _ => x
  | true, .rdo _, _ => x
  | true, .inval _, _ => x
  | true, _, _ => (x.1, x.2.markQd line)
  | false, _, _ => x

/-- An injection into the directory of a line's home (ARRAY 2): CE is corrected and counted; an
uncorrectable entry makes the home hold every line of its set as held by no agent and write it poisoned
(R418). -/
def State.dirCheck (s : State) (line : Nat) : State :=
  let pa := line * 64
  let b := homeBreaker pa
  match s.injSlot b (homeAgent pa) 2 1 pa with
  | none => s
  | some (k, md) =>
    let s := s.injUse b k
    let own := fun src su => { plainReport src (homeAgent pa) with inj := true, suites := su, addr := some (BitVec.ofNat 56 pa) }
    if md = 1 then s.capture b (own 0x01 [])
    else
      let set := (s.dirs.filter fun e => dirSet e.1 = dirSet line).map fun e => e.1
      let s := each set (fun v s => (s.writeLine v ⟨(s.readLine (agentWho 0) v).1.bits, 0xF⟩).dirDrop v) s
      match regionOf pa with
      | .stack j => s.capture b (own 0x32 [s.suiteOfStack j])
      | _ => s.capture b (own 0x41 [])

/-! ### Messages (R200 to R205) -/

/-- The line that a message is about. -/
def Msg.about : Msg → Nat
  | .snps _ n => n | .snpi _ n => n | .push _ n _ => n | .ack _ n => n | .ackd _ n _ => n | .nh _ n => n
  | .nhw _ n => n | .gnts _ n _ => n | .gnte _ n _ => n | .gntm _ n _ => n | .gnto _ n => n | .data _ n _ => n
  | .cmp _ n => n | .wb _ n _ => n | .landAck _ n => n

/-- The caching agent at one end of a message. -/
def Msg.agent : Msg → Option Nat
  | .snps a _ => some a | .snpi a _ => some a | .push a _ _ => some a | .ack a _ => some a | .ackd a _ _ => some a
  | .nh a _ => some a | .nhw a _ => some a | .gnts a _ _ => some a | .gnte a _ _ => some a | .gntm a _ _ => some a
  | .gnto a _ => some a | .wb a _ _ => some a | .landAck a _ => some a | .data _ _ _ => none | .cmp _ _ => none

/-- Whether a message gives agent `a` a copy of a line. -/
def Msg.grants (a line : Nat) : Msg → Bool
  | .gnts b n _ => b = a && n = line
  | .gnte b n _ => b = a && n = line
  | .gntm b n _ => b = a && n = line
  | .gnto b n => b = a && n = line
  | .push b n _ => b = a && n = line
  | _ => false

/-- A message in flight. -/
def State.send (s : State) (m : Msg) : State := { s with net := s.net ++ [m] }
/-- A message has arrived. -/
def State.unsend (s : State) (m : Msg) : State := { s with net := s.net.erase m }

/-- The unit that made a request, as the home's accesses name it. -/
def reqWho : HomeReq → Who
  | .rds a => agentWho a
  | .rdx a => agentWho a
  | .upg a => agentWho a
  | .wro a => agentWho a
  | .rdo src => ⟨src, 0, none⟩
  | .wrf src _ _ => ⟨src, 1, none⟩
  | .wrp src _ _ => ⟨src, 1, none⟩
  | .red src _ _ _ _ => ⟨src, 2, none⟩
  | .inval _ => ⟨0, 1, none⟩

/-- The line that waits for the entry that a back-invalidation frees. -/
def HomeReq.waiter : HomeReq → List Nat
  | .inval n => [n]
  | _ => []

/-- Whether a request may need a directory entry for its line: a caching agent's, or a write that is placed (R204). -/
def State.allocates (s : State) (r : HomeReq) : Bool :=
  match r with
  | .wrf _ _ (some a) => decide (a < 40) && s.cacheUp a
  | r => (reqAgent r).isSome

/-- What a home sends to a requester. -/
def grantMsg (line : Nat) (r : HomeReq) : Grant → Msg
  | .s l => .gnts ((reqAgent r).getD 0) line l
  | .e l => .gnte ((reqAgent r).getD 0) line l
  | .m l => .gntm ((reqAgent r).getD 0) line l
  | .o => .gnto ((reqAgent r).getD 0) line
  | .data l => .data (reqWho r).master line l
  | .cmp => .cmp (reqWho r).master line

/-- A transaction whose snoops are all answered ends (R201, R204). -/
def State.finishTxn (s : State) (line : Nat) (t : Txn) : State :=
  let s := { s with txns := tdel s.txns line }
  let x := s.homeFinish line t.req t.dirty t.keep (reqWho t.req)
  let s := if t.req.waiter = [] then x.2.send (grantMsg line t.req x.1) else x.2
  match t.req with
  | .wrf _ l (some a) =>
    if decide (a < 40) && s.cacheUp a then (s.dirPut line (.owned a)).send (.push a line l) else s
  | _ => s

/-- Whether a transaction on a line is in progress. -/
def State.lineTxn (s : State) (line : Nat) : Option Txn := (s.txns.find? fun e => e.1 = line).map fun e => e.2

/-- Whether a line's requests wait for a directory entry (R199). -/
def State.waitsEntry (s : State) (line : Nat) : Bool :=
  s.lineQ.any (fun e => e.2.waiter = [line]) || s.txns.any fun e => e.2.req.waiter = [line]

/-- Whether anything keeps a line's home from starting a request now. -/
def State.homeBusy (s : State) (line : Nat) : Bool := (s.lineTxn line).isSome || s.lineQ.any fun e => e.1 = line

/-- A home starts a request whose line has an entry or needs none: it ends at once, or snoops. -/
def State.startTxn (s : State) (line : Nat) (r : HomeReq) : State :=
  let t := s.reqSnoops line r
  if t.1 = [] then s.finishTxn line ⟨r, [], none, []⟩
  else
    let s := { s with txns := tset line ⟨r, t.1, none, []⟩ s.txns }
    { s with net := s.net ++ t.1.map fun a => if t.2 then .snpi a line else .snps a line }

/-- A home starts a request on a line that is not busy. When its directory set is full, the request waits while the
oldest entry of the set is invalidated, as a transaction of that entry's line (R199, R200). -/
def State.startReq (s : State) (line : Nat) (r : HomeReq) : State :=
  let s := s.dirCheck line
  match if s.allocates r then s.dirVictim line else none with
  | none => s.startTxn line r
  | some v =>
    let busy := s.homeBusy v
    let s := { s with lineQ := (line, r) :: s.lineQ }
    if busy then { s with lineQ := s.lineQ ++ [(v, .inval line)] } else s.startTxn v (.inval line)

/-- The requests that wait for the given lines start in arrival order (R200). -/
def State.nextReqs (s : State) : List Nat → Nat → State
  | _, 0 => s
  | [], _ => s
  | line :: rest, n + 1 =>
    if (s.lineTxn line).isSome || s.waitsEntry line then s.nextReqs rest n
    else match s.lineQ.find? fun e => e.1 = line with
      | none => s.nextReqs rest n
      | some e =>
        (({ s with lineQ := s.lineQ.erase e } : State).startReq line e.2).nextReqs (line :: (e.2.waiter ++ rest)) n

/-- A request starts on a line that is not busy, and what waited behind it. -/
def State.beginReq (s : State) (line : Nat) (r : HomeReq) : State :=
  (s.startReq line r).nextReqs [line] (2 * s.lineQ.length + 4)

/-- Agent `a`'s answer reaches the home: no longer awaited, with its dirty data and whether it keeps the line. An
agent that says NH unasked has declined a placed line, and leaves the entry (R198, R204). -/
def State.answered (s : State) (line a : Nat) (d : Option LineData) (here : Bool) : State :=
  match s.lineTxn line with
  | some t =>
    if !t.wait.contains a then s
    else
      let inv := match t.req with | .rds _ => false | .rdo _ => false | _ => true
      let t := { t with wait := t.wait.filter (fun x => x ≠ a), dirty := d.orElse (fun _ => t.dirty), keep := if here && !inv then a :: t.keep else t.keep }
      if t.wait = [] then (s.finishTxn line t).nextReqs (line :: t.req.waiter) (2 * s.lineQ.length + 4)
      else { s with txns := tset line t s.txns }
  | none =>
    if here then s
    else match s.dirOf line with
      | some (.owned o) => if o = a then s.dirDrop line else s
      | some (.shared v) => s.dirPut line (.shared (vecOf ((sharers v).filter fun x => x ≠ a)))
      | none => s

/-! ### Lines that leave a cache (R193, R195) -/

/-- A WB arrives: memory takes the data and the Landing is acknowledged; it is the answer of an agent whose snoop
is awaited (R196, R201). In CRITICAL it takes a place of the write buffer, or waits (R222). -/
def State.takeWb (s : State) (a line : Nat) (l : LineData) : State :=
  let full := match regionOf (line * 64) with
    | .stack j => s.ent 0x3010 (j + 1) = 3 && decide (4096 ≤ (s.stack j).wbBuf.length)
    | _ => false
  if full then s
  else
    let s := ((s.unsend (.wb a line l)).writeLine line l).send (.landAck a line)
    let s := match regionOf (line * 64) with
      | .stack j => if s.ent 0x3010 (j + 1) = 3 then
          s.setStack j { s.stack j with wbBuf := (s.stack j).wbBuf ++ [(line, l)] } else s
      | _ => s
    if (s.lineTxn line).any fun t => t.wait.contains a then s.answered line a (some l) false
    else match s.dirOf line with
      | some (.owned o) => if o = a then s.dirDrop line else s
      | _ => s

/-- A HELD line of the Landing of cache `a` is sent to its home (R195). -/
def State.landSendLine (s : State) (a : Nat) (e : LandLine) : State :=
  let r := s.readLanded a e.line e.l
  let l := (r.2.cache a).landing.map fun x => if x = e then { x with sent := true, l := r.1 } else x
  (r.2.setCache a { r.2.cache a with landing := l }).send (.wb a e.line r.1)

/-- The write-back of a line of the Landing of cache `a` runs to its end: sent, taken by the home where it can take it,
and acknowledged. -/
def State.landFinish (s : State) (a line : Nat) : State :=
  let s := match s.landed a line with
    | some e => if e.sent then s else s.landSendLine a e
    | none => s
  let s := match s.net.findSome? fun m => match m with
      | .wb b n l => if b = a && n = line then some l else none
      | _ => none with
    | some l => s.takeWb a line l
    | none => s
  if s.net.contains (.landAck a line) then (s.unsend (.landAck a line)).unland a line else s

/-- A full Landing waits for a free entry, the oldest first (R195). -/
def State.landRoom (s : State) (a : Nat) : State :=
  each ((s.cache a).landing) (fun e s => if (s.cache a).landing.length < 32 then s else s.landFinish a e.line) s

/-- Every line of a Landing written back (R195). -/
def State.drainLanding (s : State) (a : Nat) : State :=
  each ((s.cache a).landing) (fun e s => s.landFinish a e.line) s

/-- A dirty line enters the Landing. -/
def State.landPut (s : State) (a line : Nat) (l : LineData) : State :=
  (s.setLanding a ((s.cache a).landing ++ [⟨line, l, false⟩])).writeArrays a line [0, 1, 2, 3]

/-- A line leaves its way: M into the Landing, waiting for an entry when it is full, E and S silently. The answer
counts the errors that its arrays corrected. -/
def State.expel (s : State) (a line : Nat) : Nat × State :=
  match s.held a line with
  | none => (0, s)
  | some c =>
    if c.st = .m then
      let r := (s.landRoom a).readArrays a ⟨cacheAgent a, 0, none⟩ line c.l
      (r.1.2, (r.2.dropHeld a line).landPut a line r.1.1)
    else (0, s.dropHeld a line)

/-- A way disabled (R193): its M lines are written back, its others dropped, its DIS bit set, COUNT cleared. -/
def State.disableWay (s : State) (w n : Nat) : State :=
  let ls := ((s.cache w).lines.filter fun e => e.2.way = n).map fun e => e.1
  let s := each ls (fun line s =>
    let r := s.expel w line
    r.2.incEnt (0x5234 + w / 8) (w % 8 + 1) r.1) s
  let m := s.regF (paCache w 8) 47 32 ||| 2 ^ n
  let s := s.setRegF (paCache w 8) 47 32 m
  let s := s.setEnt (0x5230 + w / 8) (w % 8 + 1) m
  s.capture (w / 8) { plainReport 0x02 (cacheAgent w) with addr := some (BitVec.ofNat 56 (n * 16)) }

/-- The errors that a read of the arrays of way `n` corrected are counted (R193). -/
def State.chargeWay (s : State) (a n cnt : Nat) : State :=
  if a ≥ 32 ∨ cnt = 0 then s
  else
    let r := (List.range cnt).foldl (fun (acc : Bool × State) _ =>
      let e := acc.2.wayError a n
      (acc.1 || e.1, e.2)) (false, s)
    if r.1 then r.2.disableWay a n else r.2

/-- A victim leaves cache `a`. -/
def State.evict (s : State) (a line : Nat) : State :=
  let n := ((s.held a line).map fun c => c.way).getD 0
  let r := s.expel a line
  r.2.chargeWay a n r.1

/-! ### Snoops (R196, R198, R201, R205) -/

/-- What an agent answers to a snoop. -/
inductive Ans where
  | ack
  | ackd (l : LineData)
  | nh
  | nhw
deriving DecidableEq, Repr

/-- A locked line taken by a snoop or back-invalidation is counted (R192). -/
def State.countLocked (s : State) (a way : Nat) : State :=
  if a < 32 ∧ bitOf (s.regF (paCache a 0) 47 32) way then s.incEnt (0x5238 + a / 8) (a % 8 + 1) 1 else s

/-- Agent `a` answers SNPS (`inv` false) or SNPI (`inv` true) for a line (Tables 7.2 and 7.3). -/
def State.snoop (s : State) (a line : Nat) (inv : Bool) : Ans × State :=
  match s.landed a line with
  | some e =>
    if e.sent then (.nhw, s)
    else
      let r := s.readLanded a line e.l
      (.ackd r.1, r.2.unland a line)
  | none =>
    match s.held a line with
    | none => (.nh, s)
    | some c =>
      let s := if a ≥ 32 ∧ inv then s.loseResv line else s
      let r := if c.st = .m then s.readArrays a ⟨cacheAgent a, 0, none⟩ line c.l else ((c.l, 0), s)
      let s := r.2
      let ans := if c.st = .m then .ackd r.1.1 else .ack
      if inv then (ans, ((s.dropHeld a line).countLocked a c.way).chargeWay a c.way r.1.2)
      else (ans, (s.setHeld a line { c with st := .s, l := r.1.1 }).chargeWay a c.way r.1.2)

/-- A snoop arrives at its agent (R196, R201, R205). It waits for a grant on its way and for a hold, unless `now`. -/
def State.takeSnoop (s : State) (a line : Nat) (inv now : Bool) : State :=
  if !s.cacheUp a then s.send (.nh a line)
  else
    let held := match s.held a line with | some c => s.inHold a c | none => false
    if !now && (held || (s.net ++ (s.cache a).fills).any fun m => m.grants a line) then
      s.setCache a { s.cache a with snoops := (s.cache a).snoops ++ [(line, inv)] }
    else
      let r := s.snoop a line inv
      match r.1 with
      | .ack => r.2.send (.ack a line)
      | .ackd l => r.2.send (.ackd a line l)
      | .nh => r.2.send (.nh a line)
      | .nhw => r.2.send (.nhw a line)

/-- The snoops of a line that wait at agent `a` are answered. -/
def State.heldSnoops (s : State) (a line : Nat) : State :=
  let k := s.cache a
  let l := k.snoops.filter fun e => e.1 = line
  let s := s.setCache a { k with snoops := k.snoops.filter fun e => e.1 ≠ line }
  each l (fun e s => s.takeSnoop a line e.2 true) s

/-- A line leaves its hold time: the snoops that waited for it are answered (R205). -/
def State.endHold (s : State) (a line : Nat) : State :=
  let s := match s.held a line with
    | some c => s.setHeld a line { c with hold := none }
    | none => s
  s.heldSnoops a line

/-! ### Allocation in a cache (R190) -/

/-- The lines of cache `a` that a new line may replace, those within their hold time too. -/
def State.victims (s : State) (a line : Nat) : List (Nat × CLine) :=
  (s.cache a).lines.filter fun e => cacheSet a e.1 = cacheSet a line && s.eligible a e.2.way

/-- Whether cache `a` has an invalid eligible way for a line: which one. -/
def State.emptyWay (s : State) (a line : Nat) : Option Nat :=
  let here := (s.cache a).lines.filter fun e => cacheSet a e.1 = cacheSet a line
  if a ≥ 32 then (if here.length < cacheWays a then some 0 else none)
  else (List.range 16).find? fun n => s.eligible a n && !(here.any fun e => e.2.way = n)

/-- The victim of a new line: an eligible line out of its hold time. The pseudo-LRU choice is left open. -/
def State.pickVictim (s : State) (a line : Nat) : Option Nat :=
  let vs := (s.victims a line).filter fun e => !s.inHold a e.2
  (vs[s.freeVal % vs.length]?).map fun e => e.1

/-- Whether a line can be installed in cache `a` without waiting: it is there, a way is empty, or a victim can go. -/
def State.canInstall (s : State) (a line : Nat) : Bool :=
  (s.held a line).isSome || (s.emptyWay a line).isSome ||
  (match s.pickVictim a line with
   | some v => (match s.held a v with | some c => decide (c.st ≠ .m) | none => true) ||
       decide ((s.cache a).landing.length < 32)
   | none => false)

/-- The eligible line whose hold began first: the one that a fill waits for (R190). -/
def State.firstHeld (s : State) (a line : Nat) : Option Nat :=
  ((s.victims a line).foldl (fun (m : Option (Nat × CLine)) e =>
    match m with
    | none => some e
    | some o => if e.2.hold.getD 0 < o.2.hold.getD 0 then some e else some o) none).map fun e => e.1

/-- A place for a line is made in cache `a`, waiting for a hold to end and for the Landing where the fill must (R190,
R195); none when the access is performed without allocation. A line that the cache has keeps its way. -/
def State.makeRoom (s : State) (a line : Nat) : Option State :=
  if (s.held a line).isSome then some s
  else if !s.anyEligible a then none
  else if (s.emptyWay a line).isSome then some s
  else
    let s := if (s.pickVictim a line).isSome then s
      else match s.firstHeld a line with | some v => s.endHold a v | none => s
    if (s.emptyWay a line).isSome then some s
    else match s.pickVictim a line with
      | none => none
      | some v =>
        let s := s.drawFree.landRoom a
        if (match s.held a v with | some c => decide (c.st = .m) | none => false) &&
           decide (32 ≤ (s.cache a).landing.length) then none
        else some (s.evict a v)

/-- A line installed in cache `a` in the place that is free for it (R190); `hold` says that its hold begins (R205). -/
def State.install (s : State) (a line : Nat) (st : Mesi) (l : LineData) (hold : Bool) : State :=
  let h := if hold then some s.house else none
  match s.held a line with
  | some c => (s.setHeld a line { c with st := st, l := l, hold := h }).writeArrays a line [0, 1, 2, 3]
  | none =>
    match s.emptyWay a line with
    | some n => (s.setHeld a line ⟨st, n, h, l⟩).writeArrays a line [0, 1, 2, 3]
    | none => s

/-- A line that a whole access has received by a grant is installed, where a place can be made for it. -/
def State.receive_ (s : State) (a line : Nat) (st : Mesi) (l : LineData) : State :=
  match s.makeRoom a line with
  | some s => s.install a line st l true
  | none => if st = .m then s.landPut a line l else s

/-! ### Grants and placement (R190, R204, R205) -/

/-- The state and data that a grant gives its agent; ownership without data makes an S copy M, and without one the
line's data is what the store that asked for it will write, which the manual does not give here. -/
def State.grantOf (s : State) : Msg → Option (Mesi × LineData)
  | .gnts _ _ l => some (.s, l)
  | .gnte _ _ l => some (.e, l)
  | .gntm _ _ l => some (.m, l)
  | .gnto a n => some (.m, match s.held a n with | some c => c.l | none => ⟨BitVec.ofNat 512 s.freeVal, 0⟩)
  | _ => none

/-- A grant is taken: the line is installed, its hold begins. Without a place it waits at its agent, unless `now` or no
way may receive it (R190). -/
def State.takeGrant (s : State) (a line : Nat) (m : Msg) (now : Bool) : State :=
  match s.grantOf m with
  | none => s
  | some (st, l) =>
    if !s.cacheUp a then s
    else
      let s := if (s.held a line).isNone && m = .gnto a line then s.drawFree else s
      if now || !s.anyEligible a then s.receive_ a line st l
      else if s.canInstall a line then
        match s.makeRoom a line with
        | some s => s.install a line st l true
        | none => s
      else s.setCache a { s.cache a with fills := (s.cache a).fills ++ [m] }

/-- The grants that wait at agent `a` are tried again in their order (R190, R195). -/
def State.retryFills (s : State) (a : Nat) : State :=
  let l := (s.cache a).fills
  let s := s.setCache a { s.cache a with fills := [] }
  each l (fun m s => s.takeGrant a m.about m false) s

/-- Whether a placed line is declined (R204): no eligible way, a full Landing, or every eligible line in its hold. -/
def State.declines (s : State) (a line : Nat) : Bool :=
  !s.cacheUp a || !s.anyEligible a || decide (32 ≤ (s.cache a).landing.length) || !s.canInstall a line

/-- A placed line arrives: installed in E with its hold, or declined (R204). -/
def State.takePush (s : State) (a line : Nat) (l : LineData) : State :=
  if s.declines a line then s.send (.nh a line) else s.receive_ a line .e l

/-! ### Messages that arrive -/

/-- The unit at the agent's end of a message, whether it goes to the home, and the home: all messages of one path keep
their order (R14). -/
def Msg.path (m : Msg) : BitVec 16 × Bool × BitVec 16 :=
  let up := match m with
    | .ack _ _ => true | .ackd _ _ _ => true | .nh _ _ => true | .nhw _ _ => true | .wb _ _ _ => true
    | _ => false
  let a := match m with
    | .data src _ _ => src
    | .cmp src _ => src
    | m => cacheAgent (m.agent.getD 0)
  (a, up, homeAgent (m.about * 64))

/-- The message that arrives first of those on the path of `m`. -/
def State.firstOnPath (s : State) (m : Msg) : Msg := (s.net.find? fun x => x.path = m.path).getD m

/-- A message of the net arrives where it goes; `now` lets nothing make it wait. -/
def State.arrives (s : State) (m : Msg) (now : Bool) : State :=
  match m with
  | .snps a n => (s.unsend m).takeSnoop a n false now
  | .snpi a n => (s.unsend m).takeSnoop a n true now
  | .push a n l => (s.unsend m).takePush a n l
  | .ack a n => (s.unsend m).answered n a none true
  | .ackd a n l => (s.unsend m).answered n a (some l) true
  | .nh a n => (s.unsend m).answered n a none false
  | .nhw _ _ => s.unsend m
  | .gnts a n _ => (s.unsend m).takeGrant a n m now
  | .gnte a n _ => (s.unsend m).takeGrant a n m now
  | .gntm a n _ => (s.unsend m).takeGrant a n m now
  | .gnto a n => (s.unsend m).takeGrant a n m now
  | .data _ _ _ => s.unsend m
  | .cmp _ _ => s.unsend m
  | .wb a n l => s.takeWb a n l
  | .landAck a n => ((s.unsend m).unland a n).retryFills a

/-- Whether anything of a line is in flight. -/
def State.lineBusy (s : State) (line : Nat) : Bool :=
  s.txns.any (fun e => e.1 = line) || s.net.any (fun m => m.about = line) || s.lineQ.any (fun e => e.1 = line) ||
  s.caches.any fun c => (c.2.snoops.any fun e => e.1 = line) || c.2.fills.any fun m => m.about = line

/-- What is in flight for a line comes to its end: a whole access of a unit follows it (R200). A line that waits for a
directory entry takes what is in flight for other lines with it. -/
def State.quiesceN (s : State) (line : Nat) : Nat → State
  | 0 => s
  | n + 1 =>
    let mine := fun (k : Nat) => decide (k = line) || s.waitsEntry line
    match s.net.find? fun m => mine m.about with
    | some m => ((s.arrives (s.firstOnPath m) true).unsend (s.firstOnPath m)).quiesceN line n
    | none =>
      match s.caches.findSome? fun c => (c.2.snoops.find? fun e => mine e.1).map fun e => (c.1, e.1) with
      | some c => (s.endHold c.1 c.2).quiesceN line n
      | none =>
        match s.caches.findSome? fun c => (c.2.fills.find? fun m => mine m.about).map fun m => (c.1, m) with
        | some c =>
          let k := s.cache c.1
          ((s.setCache c.1 { k with fills := k.fills.erase c.2 }).takeGrant c.1 c.2.about c.2 true).quiesceN line n
        | none =>
          match s.txns.find? fun e => mine e.1 with
          | some e => (s.answered e.1 (e.2.wait.headD 0) none false).quiesceN line n
          | none =>
            match s.lineQ.find? fun e => mine e.1 with
            | some e => (s.nextReqs [e.1] 2).quiesceN line n
            | none => s

/-- What is in flight for a line comes to its end. -/
def State.quiesce (s : State) (line : Nat) : State :=
  if s.lineBusy line then s.quiesceN line (200 * (2 + s.net.length + s.lineQ.length)) else s

/-- The wing caches of die `d` answer nothing any more: what waits for them goes on without them. -/
def State.loseAgents (s : State) (d : Nat) : State :=
  let mine := fun a => decide (a / 8 = d) && decide (a < 32)
  let s := { s with
    net := s.net.filter fun m => !(m.agent.any fun a => mine a)
    lineQ := s.lineQ.filter fun e => !((reqAgent e.2).any fun a => mine a)
    later := s.later.filter fun x => match x with
      | .req _ r => !((reqAgent r).any fun a => mine a)
      | _ => true }
  each s.txns (fun e s => each (e.2.wait.filter fun a => mine a) (fun a s => s.answered e.1 a none false) s) s

/-! ### Whole transactions -/

/-- The data of a line in flight to its home reaches it, and the Landing is acknowledged (R196). -/
def State.sentData (s : State) (a line : Nat) : Option LineData × State :=
  match s.landed a line with
  | some e => if e.sent then (some e.l, s.unland a line) else (none, s)
  | none => (none, s)

/-- The answers of all snooped agents at once, each after the hold that it waits for (R205): the dirty data, and the
agents that keep a copy. A WB that is in flight is the answer of its agent (R196). -/
def State.snoopAll (s : State) (line : Nat) (l : List Nat) (inv : Bool) : (Option LineData × List Nat) × State :=
  l.foldl (fun (acc : (Option LineData × List Nat) × State) a =>
    let r := (acc.2.endHold a line).snoop a line inv
    match r.1 with
    | .ack => ((acc.1.1, if inv then acc.1.2 else a :: acc.1.2), r.2)
    | .ackd d => ((some d, if inv then acc.1.2 else a :: acc.1.2), r.2)
    | .nh => (acc.1, r.2)
    | .nhw =>
      let w := r.2.sentData a line
      ((w.1.orElse fun _ => acc.1.1, acc.1.2), w.2)) ((none, []), s)

/-- Every agent gives up a line, after what is in flight for it (R188, R199): dirty data is written to memory. -/
def State.pullLine (s : State) (line : Nat) : State :=
  let s := s.quiesce line
  let r := s.snoopAll line (dirAgents (s.dirOf line)) true
  (match r.1.1 with | some d => r.2.writeLine line d | none => r.2).dirDrop line

/-- A back-invalidation frees the entry that a new one needs (R199). -/
def State.backInvalidate (s : State) (line : Nat) : State :=
  match s.dirVictim line with
  | none => s
  | some v =>
    let s := s.pullLine v
    match regionOf (v * 64) with
    | .stack j => s.incEnt 0x3020 (j + 1) 1
    | _ => s.incEnt 0x3021 (hostChannel (v * 64) + 1) 1

/-- A whole transaction at a home: snoops, answers, completion. -/
def State.homeDo (s : State) (line : Nat) (r : HomeReq) (who : Who) : Grant × State :=
  let s := (s.quiesce line).dirCheck line
  let s := if s.allocates r then s.backInvalidate line else s
  let t := s.reqSnoops line r
  let x := s.snoopAll line t.1 t.2
  x.2.homeFinish line r x.1.1 x.1.2 who

/-- The home pushes a line to a target; the target installs it in E, or declines (R204). -/
def State.pushTo (s : State) (a line : Nat) (l : LineData) : State :=
  if s.declines a line then s.dirDrop line else (s.receive_ a line .e l).dirPut line (.owned a)

/-- Whether an access to a line has to wait for a hallway that is training between the home and an agent: one that must
give up its copy, or one that a message of the line is on its way to or from (R302). -/
def State.agentsHeld (s : State) (line : Nat) (wr : Bool) : Bool :=
  (match s.dirOf line with
   | some (.owned a) => s.hallHeld (cacheDie a) (homeDie line)
   | some (.shared v) => wr && (sharers v).any fun a => s.hallHeld (cacheDie a) (homeDie line)
   | none => false) ||
  s.net.any fun m => decide (m.about = line) && s.hallHeld (agentDie m.path.1) (homeDie line)

/-- Whether an access of die `d` to a line waits: on its own way (R222, R302), or for the agents that the home asks. -/
def State.accessHeld (s : State) (d line : Nat) (wr : Bool) : Bool := s.pathHeld d line || s.agentsHeld line wr

/-! ### The value that every coherent reader sees -/

/-- The coherent value of a line: an owner's M copy, a line in a Landing, the merge buffer, or the dies. -/
def State.peek (s : State) (line : Nat) : LineData :=
  let inCache := (List.range 40).findSome? fun a =>
    match s.landed a line with
    | some e => some e.l
    | none => match s.held a line with
      | some c => if c.st = .m then some c.l else none
      | none => none
  match inCache with
  | some l => l
  | none =>
    match s.mergeCopy line with
    | some l => l
    | none => lineOfWords ((List.range 4).map fun m =>
        (s.wordAt (line * 64 + 16 * m), decide (tget 0#16 s.code (line * 64 + 16 * m) = poisonMask)))

end Sys2Proof.Machine
end

