-- ==== Sys2Proof/Machine/Mem.lean ====
section
/-! DEFINITION. Whole coherent accesses of the module's units: through a wing cache (R187 to R196), as a
non-caching agent (Table 7.5), at a Cistern, and on reduce lines (R178, R179). Each runs its transaction
to the end. -/

namespace Sys2Proof.Machine

/-! ### Non-caching agents -/

/-- A coherent read of a line with no copy kept (RDO). -/
def State.unitRead (s : State) (who : Who) (line : Nat) : LineData × State :=
  let r := s.homeDo line (.rdo who.master) who
  match r.1 with
  | .data l => (l, r.2)
  | _ => (LineData.zero, r.2)

/-- A coherent write of the masked bytes of a line (WRF or WRP), with an optional placement of a full line
(R204). -/
def State.unitWrite (s : State) (who : Who) (line : Nat) (mask : BitVec 64) (l : LineData) (place : Option Nat) :
    State :=
  if mask = fullMask then
    let r := s.homeDo line (.wrf who.master l place) who
    match place with
    | some a => if a < 40 then r.2.pushTo a line l else r.2
    | none => r.2
  else (s.homeDo line (.wrp who.master mask l) who).2

/-- A memory-side operation on one word: flags, and the old word with its poison (R227). -/
def State.redDo (s : State) (who : Who) (pa op : Nat) (x : BitVec 128) (psn : Bool) :
    (Nat × BitVec 128 × Bool) × State :=
  match regionOf pa with
  | .stack j =>
    let line := pa / 64
    let s := (s.quiesce line).dirCheck line
    let t := s.reqSnoops line (.red who.master pa (BitVec.ofNat 8 op) x psn)
    let a := s.snoopAll line t.1 t.2
    let s := match a.1.1 with | some d => a.2.writeLine line d | none => a.2
    (s.dirDrop line).cisternWord j op pa x psn who
  | _ => ((0, 0, false), s)

/-! ### Reduce lines (R179) -/

/-- The reduce lines of a holder: 0 to 31 wing caches, 32 to 35 die fabrics. -/
def State.rlinesOf (s : State) (h : Nat) : List RLine := tget [] s.rlines h
/-- The state with a holder's reduce lines as given. -/
def State.setRlines (s : State) (h : Nat) (l : List RLine) : State := { s with rlines := tput [] h l s.rlines }
/-- How many reduce lines a holder has room for (Table 6.6). -/
def rlineCap (h : Nat) : Nat := if h < 32 then 64 else 256
/-- The agent number of a holder: a wing cache, or a die fabric. -/
def holderAgent (h : Nat) : BitVec 16 := if h < 32 then cacheAgent h else agentNo (h - 32) 0x0B 0

/-- The checker of a holder's reduce lines: the wing cache; a die fabric's checks are its own (Table 8.4). -/
def holderBreaker (h : Nat) : Nat := if h < 32 then h / 8 else h - 32
/-- A holder reads its copy of a line for `who`. -/
def State.rlineRead (s : State) (h : Nat) (who : Who) (r : RLine) : LineData × State :=
  let x := s.checkLine (holderBreaker h) (holderAgent h) who r.line r.l r.code
  (x.1.1, x.2)

/-- A holder writes its copy of a line back to the home as one full-line write. -/
def State.rlineBack (s : State) (h line : Nat) : State :=
  match (s.rlinesOf h).find? fun r => r.line = line with
  | none => s
  | some r =>
    let x := s.rlineRead h ⟨holderAgent h, 1, none⟩ r
    let s := x.2.setRlines h ((x.2.rlinesOf h).filter fun r => r.line ≠ line)
    s.unitWrite ⟨holderAgent h, 1, none⟩ line fullMask x.1 none

/-- The holders that a wing's agents use: its wing cache and its die's fabric. -/
def holdersOf (w : Nat) : List Nat := [w, 32 + w / 8]

/-- The copy that coherent reads of a wing's agents return. -/
def State.rlineCopy (s : State) (w line : Nat) : Option (Nat × RLine) :=
  (holdersOf w).findSome? fun h => ((s.rlinesOf h).find? fun r => r.line = line).map fun r => (h, r)

/-- A plain write of a wing's agents takes the copies of its line back first. -/
def State.rlineYield (s : State) (w line : Nat) : State := each (holdersOf w) (fun h s => s.rlineBack h line) s

/-- A FENCE, VFENCE or STORE.REL of scope `sc` by the agents of wing `w` sends the copies of narrower scope
home. -/
def State.rlineFence (s : State) (w sc : Nat) : State :=
  each (holdersOf w) (fun h s =>
    each (((s.rlinesOf h).filter fun r => r.scope < sc).map fun r => r.line) (fun line s => s.rlineBack h line) s) s

/-! ### Wing agents -/

/-- A line of the Landing that is not sent moves back into cache `a` as M, where a place can be made for it; the
store that meets a SENT line waits for its acknowledgement first (Table 7.2). -/
def State.reclaim (s : State) (a line : Nat) : State :=
  match s.landed a line with
  | none => s
  | some e =>
    if e.sent then s.landFinish a line
    else
      let r := s.readLanded a line e.l
      match (r.2.unland a line).makeRoom a line with
      | some s => s.install a line .m r.1 false
      | none => s

/-- Cache `a` reads for `who` a line that it holds (R193). -/
def State.readHeld (s : State) (a line : Nat) (who : Who) (c : CLine) : LineData × State :=
  let r := s.readArrays a who line c.l
  (r.1.1, (r.2.setHeld a line { c with l := r.1.1 }).chargeWay a c.way r.1.2)

/-- Cache `a` asks for a line to read and installs what it is granted (RDS). -/
def State.fetchLine (s : State) (a : Nat) (who : Who) (line : Nat) : LineData × State :=
  let r := s.homeDo line (.rds a) who
  match r.1 with
  | .s l => (l, r.2.receive_ a line .s l)
  | .e l => (l, r.2.receive_ a line .e l)
  | _ => (LineData.zero, r.2)

/-- A coherent read of a line through cache `a` (R166, Tables 7.2 and 7.3); `alloc` asks for allocation. What is in flight
for the line comes to its end first. -/
def State.cacheRead (s : State) (a : Nat) (who : Who) (line : Nat) (alloc : Bool) : LineData × State :=
  let s := if (s.held a line).isSome || (s.landed a line).isSome then s else s.quiesce line
  match s.landed a line with
  | some e =>
    if e.sent then s.readLanded a line e.l
    else
      let s := s.reclaim a line
      match s.held a line, s.landed a line with
      | some c, _ => s.readHeld a line who c
      | none, some e => s.readLanded a line e.l
      | none, none => (e.l, s)
  | none =>
    match s.held a line with
    | some c => s.readHeld a line who c
    | none =>
      match (if alloc then s.makeRoom a line else none) with
      | some s => s.fetchLine a who line
      | none => s.unitRead who line

/-- A coherent read of a line by an agent of wing `w`: from the reduce lines of its holders (R179), or through the wing
cache. -/
def State.wingRead (s : State) (w : Nat) (who : Who) (line : Nat) (alloc : Bool) : LineData × State :=
  match s.rlineCopy w line with
  | some x => s.rlineRead x.1 who x.2
  | none => s.cacheRead w who line alloc

/-- How a store is allocated: normally, without allocation (STREAM, or a tracker in STREAMING), or placed. -/
inductive WAlloc where
  | keep
  | stream
  | place (a : Nat)
deriving DecidableEq, Repr

/-- The masked bytes stored into a line that wing cache `w` holds, which becomes M. -/
def State.storeHeld (s : State) (w line : Nat) (c : CLine) (mask : BitVec 64) (l : LineData) : State :=
  (s.setHeld w line { c with st := .m, l := mergeLine c.l mask l }).writeArrays w line (touchedWords mask)

/-- A store into a line that cache `a` holds in S, or does not hold: ownership is asked for (Table 7.3). What is
in flight for the line has come to its end. -/
def State.ownAndStore (s : State) (a : Nat) (who : Who) (line : Nat) (mask : BitVec 64) (l : LineData) : State :=
  let shared := (s.held a line).isSome
  let r := s.homeDo line (if mask = fullMask then .wro a else if shared then .upg a else .rdx a) who
  match r.1, r.2.held a line with
  | .m d, _ => r.2.receive_ a line .m (mergeLine d mask l)
  | .o, some c => (r.2.setHeld a line { c with hold := some r.2.house }).storeHeld a line { c with hold := some r.2.house } mask l
  | .o, none => r.2.receive_ a line .m l
  | _, _ => r.2

/-- A coherent store through cache `a` (Tables 7.2 and 7.3, R190); `stream` allocates nothing (R194). -/
def State.cacheWrite (s : State) (a : Nat) (who : Who) (line : Nat) (mask : BitVec 64) (l : LineData) (stream : Bool) :
    State :=
  let s := s.reclaim a line
  let s := if (s.held a line).any fun c => decide (c.st ≠ .s) then s else s.quiesce line
  match s.held a line with
  | some c =>
    if c.st ≠ .s then s.storeHeld a line c mask l
    else if stream ∧ mask = fullMask then s.unitWrite who line mask l none
    else s.ownAndStore a who line mask l
  | none =>
    match (if stream ∨ (s.landed a line).isSome then none else s.makeRoom a line) with
    | some s => s.ownAndStore a who line mask l
    | none => s.unitWrite who line mask l none

/-- Cache `a` takes a line to itself without writing it yet, so that what follows on it is one access (R178). -/
def State.cacheOwn (s : State) (a : Nat) (who : Who) (line : Nat) : State :=
  let s := s.reclaim a line
  let s := if (s.held a line).any fun c => decide (c.st ≠ .s) then s else s.quiesce line
  match s.held a line with
  | some c =>
    if c.st ≠ .s then s
    else
      let r := s.homeDo line (.upg a) who
      match r.1, r.2.held a line with
      | .m l, _ => r.2.receive_ a line .m l
      | .o, some c => r.2.setHeld a line { c with st := .m, hold := some r.2.house }
      | _, _ => r.2
  | none =>
    match s.makeRoom a line with
    | none => s
    | some s =>
      let r := s.homeDo line (.rdx a) who
      match r.1 with
      | .m l => r.2.receive_ a line .m l
      | _ => r.2

/-- A coherent store by an agent of wing `w` (R179, R194, R204). -/
def State.wingWrite (s : State) (w : Nat) (who : Who) (line : Nat) (mask : BitVec 64) (l : LineData)
    (al : WAlloc) : State :=
  let s := s.rlineYield w line
  match al with
  | .place a => s.unitWrite who line mask l (if mask = fullMask then some a else none)
  | _ => s.cacheWrite w who line mask l (al = .stream)

/-- A Cistern operation of scope `sc` from wing `w` on one word (Table 6.4): at the home, or on a reduce
line. Answers its flags. -/
def State.reduceWord (s : State) (w sc : Nat) (who : Who) (pa op : Nat) (x : BitVec 128) (psn : Bool) :
    Nat × State :=
  match regionOf pa with
  | .stack j =>
    let line := pa / 64
    let h := if sc ≤ 1 then some w else if sc = 2 ∧ j / 3 ≠ w / 8 then some (32 + w / 8) else none
    let s := each (holdersOf w) (fun k s =>
      if (s.rlinesOf k).any fun r => r.line = line && (some k ≠ h || r.scope ≠ sc) then s.rlineBack k line else s) s
    match h with
    | none =>
      let r := s.redDo who pa op x psn
      (r.1.1, r.2)
    | some k =>
      let have_ := (s.rlinesOf k).find? fun r => r.line = line
      let t := match have_ with
        | some r => s.rlineRead k who r
        | none =>
          let s := if rlineCap k ≤ (s.rlinesOf k).length then
              match (s.rlinesOf k).foldl (fun (m : Option RLine) r => match m with
                | none => some r
                | some o => if r.time < o.time then some r else some o) none with
              | some o => s.rlineBack k o.line
              | none => s
            else s
          s.wingRead w who line false
      let r := cisLine op pa t.1 x psn
      let c := t.2.codeLine (holderBreaker k) (holderAgent k) line [pa / 16 % 4] ((have_.map fun r => r.code).getD [])
      let rest := (c.2.rlinesOf k).filter fun r => r.line ≠ line
      (r.2, (c.2.setRlines k (rest ++ [⟨line, sc, r.1, c.1, c.2.house⟩])).setCis j r.2)
  | _ => (0, s)

/-! ### Runs of bytes -/

/-- The lines that bytes `a` to `a + n − 1` touch. -/
def linesOf (a n : Nat) : List Nat :=
  if n = 0 then [] else (List.range ((a + n - 1) / 64 - a / 64 + 1)).map fun i => a / 64 + i

/-- The part of a run of bytes from `a` that lies in a line: its mask and its data placed in the line. -/
def sliceOf (a : Nat) (bs : Bytes) (line : Nat) : BitVec 64 × Nat :=
  let lo := max a (line * 64)
  let hi := min (a + bs.length) (line * 64 + 64)
  (byteMask (lo - line * 64) (hi - lo), ofBytes (slice bs (lo - a) (hi - lo)) * 2 ^ (8 * (lo - line * 64)))

/-- `n` bytes at `a` with their lines read by `read`: the bytes, whether any word touched was poison. -/
def State.bytesBy (s : State) (read : Nat → State → LineData × State) (a n : Nat) : (Bytes × Bool) × State :=
  (linesOf a n).foldl (fun (acc : (Bytes × Bool) × State) line =>
    let x := read line acc.2
    let lo := max a (line * 64)
    let hi := min (a + n) (line * 64 + 64)
    let bad := (List.range 4).any fun m =>
      x.1.poisoned m && decide (lo < line * 64 + 16 * m + 16) && decide (line * 64 + 16 * m < hi)
    ((acc.1.1 ++ slice x.1.bytes (lo - line * 64) (hi - lo), acc.1.2 || bad), x.2)) (([], false), s)

/-- `n` bytes at `a` read by a unit. -/
def State.unitBytes (s : State) (who : Who) (a n : Nat) : (Bytes × Bool) × State :=
  s.bytesBy (fun line s => s.unitRead who line) a n

/-- `n` bytes at `a` read past the Shelves and the wing cache by an agent of wing `w`, which sees the reduce lines of its
holders (R142, R179). -/
def State.wingBytes (s : State) (w : Nat) (who : Who) (a n : Nat) : (Bytes × Bool) × State :=
  s.bytesBy (fun line s => match s.rlineCopy w line with
    | some x => s.rlineRead x.1 who x.2
    | none => s.unitRead who line) a n

/-- Bytes written at `a` by a unit, poisoned or not. -/
def State.unitStore (s : State) (who : Who) (a : Nat) (bs : Bytes) (psn : Bool) (place : Option Nat) : State :=
  each (linesOf a bs.length) (fun line s =>
    let x := sliceOf a bs line
    s.unitWrite who line x.1 ⟨BitVec.ofNat 512 x.2, if psn then 0xF else 0⟩ place) s

/-- Bytes written past the wing cache by an agent of wing `w`: the copies of its holders go home first (R179). -/
def State.wingStore (s : State) (w : Nat) (who : Who) (a : Nat) (bs : Bytes) : State :=
  (each (linesOf a bs.length) (fun line s => s.rlineYield w line) s).unitStore who a bs false none

/-- What a wing cache operation does to a line (R191): nothing, writes it back, or writes it back and invalidates it. -/
inductive FlushAct where
  | none | clean | flush
deriving DecidableEq, Repr

/-- A line of cache `a` is written back and left E, or written back and invalidated. -/
def State.flushLine (s : State) (a line : Nat) (f : FlushAct) : State :=
  match s.held a line with
  | none => s
  | some c =>
    if f = .none then s
    else
      let r := if c.st = .m then s.readArrays a (agentWho a) line c.l else ((c.l, 0), s)
      let s := if c.st = .m then r.2.writeLine line r.1.1 else r.2
      let own := match s.dirOf line with | some (.owned o) => decide (o = a) | _ => false
      let s := if f = .flush then (if own then (s.dropHeld a line).dirDrop line else s.dropHeld a line)
        else if c.st = .m then s.setHeld a line { c with st := .e, l := r.1.1 } else s
      s.chargeWay a c.way r.1.2

/-- An operation over all lines of a wing cache, by their ways (R191). -/
def State.flushCache (s : State) (a : Nat) (f : Nat → FlushAct) : State :=
  each ((s.cache a).lines) (fun e s => s.flushLine a e.1 (f e.2.way)) s

/-- CLEAN, FLUSH and FLUSH_ALL of wing cache `w` (R191): FLUSH leaves the locked ways as they are, FLUSH_ALL clears
LOCK. -/
def State.flushOp (s : State) (w op : Nat) : State :=
  let lock := s.regF (paCache w 0) 47 32
  let s := s.flushCache w fun n =>
    if op = 1 then .clean else if op = 3 || !bitOf lock n then .flush else .none
  if op = 3 then s.setRegF (paCache w 0) 47 32 0 else s

end Sys2Proof.Machine
end

