-- ==== Sys2Proof/Machine/Room.lean ====
section
/-! DEFINITION. A room's own storage under the common code: its Larder (R162, R163), its Shelf (R164, R165),
and the checker that the room array's agent number names (R423, R456). -/

namespace Sys2Proof.Machine

/-- The Larder size in bytes (S_LARDER, Table 1.8). -/
def larderSize : Nat := 1572864

/-- The checker of room `g`'s storage. -/
def roomTarget (g : Nat) : BitVec 16 := roomAgent 4 g

/-- A word of room storage is stored: its check difference, after an injection armed on writes. -/
def State.roomStore (s : State) (g ad : Nat) (psn : Bool) : BitVec 16 × State := s.codeWord (g / 64) (roomTarget g) ad psn

/-- A word of room storage with data `x` and check difference `δ` is read: its data, whether it leaves as
poison. `la` says that `ad` is a room-local offset (R456). -/
def State.roomLoad (s : State) (g : Nat) (who : Who) (la : Bool) (ad : Nat) (x : BitVec 128) (δ : BitVec 16) :
    (BitVec 128 × Bool) × State :=
  let c := s.checkWord (g / 64) (roomTarget g) who la ad x δ
  ((c.1.x, c.1.psn), c.2)

/-! ### The Larder -/

/-- The 16-byte word at offset `o` of room `g`'s Larder is read. -/
def State.larderWord (s : State) (g : Nat) (who : Who) (o : Nat) : (BitVec 128 × Bool) × State :=
  let r := s.room g
  s.roomLoad g who true o (BitVec.ofNat 128 (ofBytes (cellsGet r.larder o 16))) (tget 0#16 r.lcode o)

/-- The 16-byte word at offset `o` of room `g`'s Larder is written. -/
def State.setLarderWord (s : State) (g o : Nat) (x : BitVec 128) (psn : Bool) : State :=
  let d := s.roomStore g o psn
  let r := d.2.room g
  d.2.setRoom g { r with larder := cellsPut o (toBytes 16 x.toNat) r.larder, lcode := tput 0#16 o d.1 r.lcode }

/-- The 16-byte words that bytes `a` to `a + n − 1` touch, by address. -/
def wordsOf (a n : Nat) : List Nat :=
  if n = 0 then [] else (List.range ((a + n - 1) / 16 - a / 16 + 1)).map fun i => (a / 16 + i) * 16

/-- `n` bytes of room `g`'s Larder from offset `o`, each with the poison of its word. -/
def State.larderRead (s : State) (g : Nat) (who : Who) (o n : Nat) : List (Byte × Bool) × State :=
  (wordsOf o n).foldl (fun (acc : List (Byte × Bool) × State) a =>
    let w := acc.2.larderWord g who a
    let lo := max o a
    let hi := min (o + n) (a + 16)
    (acc.1 ++ (slice (toBytes 16 w.1.1.toNat) (lo - a) (hi - lo)).map (fun b => (b, w.1.2)), w.2)) ([], s)

/-- Bytes written into room `g`'s Larder from offset `o`. A word that keeps some of its bytes keeps its
poison. -/
def State.larderWrite (s : State) (g : Nat) (who : Who) (o : Nat) (bs : List (Byte × Bool)) : State :=
  each (wordsOf o bs.length) (fun a s =>
    let lo := max o a
    let hi := min (o + bs.length) (a + 16)
    let new := slice bs (lo - o) (hi - lo)
    let bad := new.any fun e => e.2
    if hi - lo = 16 then s.setLarderWord g a (BitVec.ofNat 128 (ofBytes (new.map fun e => e.1))) bad
    else
      let w := s.larderWord g who a
      let old := toBytes 16 w.1.1.toNat
      let mix := old.take (lo - a) ++ new.map (fun e => e.1) ++ old.drop (hi - a)
      w.2.setLarderWord g a (BitVec.ofNat 128 (ofBytes mix)) (bad || w.1.2)) s

/-! ### The Shelf -/

/-- How many lines the Shelf holds (S_SHELF, Table 1.8). -/
def shelfLines : Nat := 2048

/-- The Shelf of room `g` without a line. -/
def State.shelfDrop (s : State) (g line : Nat) : State :=
  let r := s.room g
  s.setRoom g { r with shelf := tdel r.shelf line, scode := r.scode.filter fun e => e.1 / 64 ≠ line }

/-- A line fill that was requested before an invalidation is not installed (R165). -/
def Room.noFill (r : Room) : Room :=
  if r.ve.load.isSome then { r with ve := { r.ve with load := some ⟨false⟩ } } else r

/-- The Shelf of room `g` with no line (Table 6.1). -/
def State.shelfClear (s : State) (g : Nat) : State :=
  let r := (s.room g).noFill
  s.setRoom g { r with shelf := [], scode := [], ranCtx := [] }

/-- The Shelf's copy of a line. -/
def State.shelfLine (s : State) (g line : Nat) : Option LineData :=
  ((s.room g).shelf.find? fun e => e.1 = line).map fun e => e.2

/-- The Shelf's stored words of a line take new data; armed slots on writes leave check differences. -/
def State.shelfCodes (s : State) (g line : Nat) (l : LineData) (ms : List Nat) : State :=
  each ms (fun m s =>
    let ad := line * 64 + 16 * m
    let d := s.roomStore g ad (l.poisoned m)
    let r := d.2.room g
    d.2.setRoom g { r with scode := tput 0#16 ad d.1 r.scode }) s

/-- The Shelf of room `g` takes a line; with no place left, a line that the model leaves open goes (R165). -/
def State.shelfFill (s : State) (g line : Nat) (l : LineData) : State :=
  let r := s.room g
  let s := if (s.shelfLine g line).isNone && decide (shelfLines ≤ r.shelf.length) then
      match r.shelf[s.freeVal % r.shelf.length]? with
      | some e => s.drawFree.shelfDrop g e.1
      | none => s
    else s
  let r := s.room g
  (s.setRoom g { r with shelf := tset line l r.shelf }).shelfCodes g line l [0, 1, 2, 3]

/-- A Shelf hit reads its four words (R216), with the injections armed on reads of the Shelf's tags and
states (R423): an uncorrectable tag or state makes the line poison. -/
def State.shelfRead (s : State) (g : Nat) (who : Who) (line : Nat) (l : LineData) : LineData × State :=
  let r := (List.range 4).foldl (fun (a : List (BitVec 128 × Bool) × State) m =>
    let ad := line * 64 + 16 * m
    let w := a.2.roomLoad g who false ad (l.word m) (tget 0#16 (a.2.room g).scode ad)
    (a.1 ++ [w.1], w.2)) ([], s)
  let ctl := fun (acc : LineData × State) (array : Nat) =>
    match acc.2.injSlot (g / 64) (roomTarget g) array 1 (line * 64) with
    | none => acc
    | some (k, md) =>
      let s := acc.2.injUse (g / 64) k
      let rep := fun src => { accReport src who.master who.access (line * 64) who.ctx with inj := true }
      if md = 1 then (acc.1, s.capture (g / 64) (rep 0x01))
      else if md = 2 then ({ acc.1 with psn := 0xF#4 }, s.capture (g / 64) (rep 0x10))
      else ({ acc.1 with psn := 0xF#4 }, s)
  ctl (ctl (lineOfWords r.1, r.2) 1) 2

/-- The room's own writes of a DRAIN, COPY or WRITE_REDUCE invalidate the matching lines (R164). -/
def State.shelfInvalidate (s : State) (g a n : Nat) : State :=
  let s := if (s.room g).ve.load.isSome then s.setRoom g (s.room g).noFill else s
  each (linesOf a n) (fun line s => if (s.shelfLine g line).isSome then s.shelfDrop g line else s) s

/-- The room's own STM updates a matching Shelf line in place (R118, R164). -/
def State.shelfMerge (s : State) (g line : Nat) (mask : BitVec 64) (l : LineData) : State :=
  match s.shelfLine g line with
  | none => s
  | some old =>
    let r := s.room g
    (s.setRoom g { r with shelf := tset line (mergeLine old mask l) r.shelf }).shelfCodes g line (mergeLine old mask l) (touchedWords mask)

end Sys2Proof.Machine
end

