-- ==== Sys2Proof/Machine/Queue.lean ====
section
/-! DEFINITION. Commands in flight (R136, R142, R144, R161), their completion records (R152 to R158), and
how a command ends. -/

namespace Sys2Proof.Machine

/-! ### Statuses (Table 5.10) -/

/-- OK. -/
def stOK : BitVec 5 := 0x00#5
/-- ABORTED. -/
def stABORTED : BitVec 5 := 0x01#5
/-- TOO_LATE. -/
def stTOO_LATE : BitVec 5 := 0x02#5
/-- NOT_FOUND. -/
def stNOT_FOUND : BitVec 5 := 0x03#5
/-- TIER_LATE. -/
def stTIER_LATE : BitVec 5 := 0x04#5
/-- ARRAY_CHECK. -/
def stARRAY_CHECK : BitVec 5 := 0x05#5
/-- POISON. -/
def stPOISON : BitVec 5 := 0x06#5
/-- CONTEXT_KILLED. -/
def stKILLED : BitVec 5 := 0x07#5
/-- REMOTE_FAIL. -/
def stREMOTE : BitVec 5 := 0x08#5
/-- THERMAL_ABORT. -/
def stTHERMAL : BitVec 5 := 0x09#5
/-- UNSUPPORTED. -/
def stUNSUP : BitVec 5 := 0x0A#5
/-- TRANSLATION_CANCELLED. -/
def stCANCELLED : BitVec 5 := 0x0B#5

/-! ### Fields of a command (Tables 5.3 and 5.5) -/

/-- The 64-bit value at byte offset 8 × `i` of a command. -/
def Cmd.wd (c : Cmd) (i : Nat) : Nat := (lget 0#64 c.words i).toNat
/-- Bits [hi:lo] of the value at byte offset 8 × `i`. -/
def Cmd.f (c : Cmd) (i hi lo : Nat) : Nat := fld (c.wd i) hi lo
/-- OPCODE. -/
def Cmd.op (c : Cmd) : Nat := c.f 0 7 0
/-- TAG. -/
def Cmd.tag (c : Cmd) : Nat := c.f 0 31 16
/-- JOB. -/
def Cmd.job (c : Cmd) : Nat := c.f 0 47 32
/-- SCOPE. -/
def Cmd.scope (c : Cmd) : Nat := c.f 0 50 48
/-- ROOM. -/
def Cmd.rm (c : Cmd) : Nat := c.f 0 53 51
/-- EPOCH. -/
def Cmd.epoch (c : Cmd) : Nat := c.f 0 63 56
/-- ORDER. -/
def Cmd.order (c : Cmd) : Bool := bitOf (c.wd 0) 9
/-- IRQ. -/
def Cmd.irq (c : Cmd) : Bool := bitOf (c.wd 0) 8

/-- The engine queue that an opcode runs in (Table 5.4): 0 matrix, 1 vector, 2 copy; none for the
dispatcher's commands. -/
def engineOf (op : Nat) : Option Nat :=
  if op = 1 ∨ op = 2 ∨ op = 3 then some 0
  else if op = 0x10 then some 1
  else if 0x20 ≤ op ∧ op ≤ 0x23 then some 2
  else none

/-- The opcodes of Table 5.4. -/
def knownOp (op : Nat) : Bool :=
  (engineOf op).isSome || [0x00, 0x30, 0x31, 0x38, 0x3F, 0x40].contains op

/-! ### Queue registers (Table 5.1) -/

/-- Bits [hi:lo] of register `o` of queue `q` of wing `w`. -/
def State.qf (s : State) (w q o hi lo : Nat) : Nat := s.regF (paQueue w q o) hi lo
/-- The state with bits [hi:lo] of register `o` of queue `q` of wing `w` holding `v`. -/
def State.setQf (s : State) (w q o hi lo v : Nat) : State := s.setRegF (paQueue w q o) hi lo v
/-- Entries of the work ring. -/
def State.wring (s : State) (w q : Nat) : Nat := 2 ^ s.qf w q 0x10 4 0
/-- Entries of the completion ring. -/
def State.cring (s : State) (w q : Nat) : Nat := 2 ^ s.qf w q 0x10 9 5
/-- The owning context. -/
def State.qctx (s : State) (w q : Nat) : Nat := s.qf w q 0x10 17 10
/-- ENABLE. -/
def State.qon (s : State) (w q : Nat) : Bool := s.qf w q 0x28 0 0 = 1
/-- HALTED. -/
def State.qhalted (s : State) (w q : Nat) : Bool := s.qf w q 0x30 48 48 = 1
/-- Commands of the queue in flight, as QINFL reads. -/
def State.inflight (s : State) (w q : Nat) : Nat := ((s.wing w).cmds.filter fun c => c.queue = q).length
/-- QINFL.INFLIGHT follows the commands in flight. -/
def State.syncInfl (s : State) (w q : Nat) : State := s.setQf w q 0x38 9 0 (s.inflight w q)

/-! ### Commands in flight -/

/-- Command `id` of wing `w`. -/
def State.cmd (s : State) (w id : Nat) : Option Cmd := (s.wing w).cmds.find? fun c => c.id = id
/-- Command `c.id` of wing `w` as given. -/
def State.putCmd (s : State) (w : Nat) (c : Cmd) : State :=
  let v := s.wing w
  s.setWing w { v with cmds := v.cmds.map fun d => if d.id = c.id then c else d }
/-- Whether a command waits for command `id`. -/
def Cmd.waitsOn (c : Cmd) (id : Nat) : Bool := c.awaiting.contains id
/-- The global room of a command. -/
def Cmd.room (c : Cmd) (w : Nat) : Nat := w * 8 + c.rm
/-- The commands of engine `e` of a room, in the order of issue. -/
def Room.eq (r : Room) (e : Nat) : List Nat := if e = 0 then r.mq else if e = 1 then r.vq else r.cq
/-- The room with engine queue `e` as given. -/
def Room.setEq (r : Room) (e : Nat) (l : List Nat) : Room :=
  if e = 0 then { r with mq := l } else if e = 1 then { r with vq := l } else { r with cq := l }

/-- The first command of engine `e` of room `g` that has no status: the one that the engine works on next. -/
def State.engineHead (s : State) (g e : Nat) : Option Cmd :=
  ((s.room g).eq e).findSome? fun id => match s.cmd (g / 8) id with
    | some c => if c.status.isNone then some c else none
    | none => none

/-! ### Ending a command -/

/-- Engine work on command `id` of a room is dropped; a VECTOR program stops. -/
def Room.dropRuns (r : Room) (id : Nat) : Room :=
  let r := match r.loadRun with
    | some l => if l.cmd = id then { r with loadRun := none } else r
    | none => r
  let r := match r.passRun with
    | some p => if p.cmd = id then { r with passRun := none } else r
    | none => r
  let r := match r.drainRun with
    | some d => if d.cmd = id then { r with drainRun := none } else r
    | none => r
  if r.ve.running && r.ve.cmd = id then { r with ve := { r.ve with running := false, load := none } } else r

/-- Slot `k` of a room. -/
def Room.slot (r : Room) (k : Nat) : Slot := if k = 0 then r.slot0 else r.slot1
/-- The room with slot `k` as given. -/
def Room.setSlot (r : Room) (k : Nat) (v : Slot) : Room := if k = 0 then { r with slot0 := v } else { r with slot1 := v }

/-- The row slot that the next row of a drain port takes. -/
def Room.nextRow (r : Room) : Nat := match r.port.getLast? with | some x => (x.slot + 1) % 8 | none => 0

/-- The rows of a DRAIN to the vector engine that are still to come, poisoned (R122). -/
def tailRows (c : Cmd) (first : Nat) : List PortRow :=
  let n := c.f 4 17 10 + 1
  let nan := BitVec.ofNat 2048 (ofBytes ((List.replicate 64 (toBytes 4 0x7FC00000)).flatten))
  (List.range (n - c.pos)).map fun i => ⟨(first + i) % 8, nan, BitVec.allOnes 64, [], c.ctx⟩

/-- What a finished command of the matrix engine queue leaves behind once every earlier one has finished. A
LOAD_STATIONARY that did not end OK leaves its status to its slot (R70); the slot's contents stay after TIER_LATE and
UNSUPPORTED, and are lost after any other (Table 3.12). DESIGN CHOICE: a LOAD_STATIONARY that the dispatcher refused
never reached the slot and is not its last load. A DRAIN to the vector engine that was ended early leaves the port the
rest of its rows, unless its context is killed (R122); the model appends them all at once, so that the port may hold more
rows than its 8 row slots (DESIGN CHOICE). -/
def State.absorbCmd (s : State) (g : Nat) (c : Cmd) : State :=
  let st := c.status.getD stOK
  let r := s.room g
  let k := c.f 5 0 0
  if c.op = 2 ∧ (st = stTIER_LATE ∨ (st = stUNSUP ∧ c.issueNo ≠ 0)) then
    s.setRoom g (r.setSlot k { r.slot k with status := st })
  else if c.op = 2 ∧ st ≠ stOK ∧ st ≠ stUNSUP then
    s.setRoom g (r.setSlot k { r.slot k with loaded := true, status := st, fmt := BitVec.ofNat 4 (c.f 5 4 1) })
  else if c.op = 3 ∧ c.wd 1 = 2 ^ 62 ∧ (st = stABORTED ∨ st = stKILLED ∨ st = stTHERMAL) ∧ ctxActive s c.ctx then
    s.setRoom g { r with port := r.port ++ tailRows c r.nextRow }
  else s
where
  /-- Whether a context is ACTIVE. -/
  ctxActive (s : State) (c : Nat) : Bool := (if c < 128 then s.ent 0x8101 (c + 1) else s.ent 0x8102 (c - 127)) = 1

/-- Command `id` of room `g`'s matrix engine queue has been absorbed: what ended before its issue and came only after
it follows. -/
def State.absorbEnded (s : State) (g id : Nat) : State :=
  let r := s.room g
  let l := r.ended.map fun e => (e.1.filter fun x => x ≠ id, e.2)
  let s := if r.ended = [] then s else s.setRoom g { r with ended := l.filter fun e => decide (e.1 ≠ []) }
  each (l.filter fun e => decide (e.1 = [])) (fun e s => s.absorbCmd g e.2) s

/-- The finished commands at the front of room `g`'s matrix engine queue are absorbed in order. -/
def State.absorb (s : State) (g : Nat) : List Nat → State
  | [] => s
  | id :: t =>
    match s.cmd (g / 8) id with
    | some c =>
      if c.status.isNone then s
      else if c.absorbed then s.absorb g t
      else (((s.absorbCmd g c).putCmd (g / 8) { c with absorbed := true }).absorbEnded g id).absorb g t
    | none => s.absorb g t

/-- A matrix command that ends before its issue leaves what it leaves behind once the issued commands of its engine
queue, which come before it, have finished. -/
def State.absorbUnissued (s : State) (g : Nat) (c : Cmd) : State :=
  let r := s.room g
  let ids := r.mq.filter fun id => (s.cmd (g / 8) id).any fun d => !d.absorbed
  if ids = [] then s.absorbCmd g c else s.setRoom g { r with ended := r.ended ++ [(ids, c)] }

/-- A key for command `id` of wing `w` as one that waits for a tile. -/
def cmdKey (w id : Nat) : Nat := (w * 2 ^ 40 + id) * 4

/-- A waiter gives up: the time of its stalls is added, and it no longer refers to any tile (R248, R257). -/
def State.dropWaiter (s : State) (key : Nat) : State :=
  let l := s.tier.stalls.filter fun e => e.1 = key
  let s := each l (fun e s => s.incEnt 0x3111 (e.2.2.1 + 1) (s.house - e.2.2.2)) s
  { s with tier := { s.tier with
    stalls := s.tier.stalls.filter fun e => e.1 ≠ key
    refs := s.tier.refs.filter fun e => e.1 ≠ key } }

/-- Command `id` of wing `w` gets its status, unless it has one: the first action that reaches it decides
(R416). Its engine works on it no longer. -/
def State.endCmd (s : State) (w id : Nat) (st : BitVec 5) : State :=
  match s.cmd w id with
  | none => s
  | some c =>
    if c.status.isSome then s
    else
      let s := (s.putCmd w { c with status := some st, st := .committed }).dropWaiter (cmdKey w id)
      let s := if st = stTIER_LATE then s.incEnt 0x3112 1 1 else s
      match engineOf c.op with
      | some e =>
        if c.issueNo = 0 then
          (if e = 0 then s.absorbUnissued (c.room w) { c with status := some st } else s)
        else
          let g := c.room w
          let s := s.setRoom g ((s.room g).dropRuns id)
          s.absorb g (s.room g).mq
      | none => s

/-- The waits on pending faults and walks of command `id` of wing `w` are dropped; a fault that nothing waits
on is removed (R281). -/
def State.unwait (s : State) (w id : Nat) : State :=
  { s with
    faults := (s.faults.map fun f => { f with waits := f.waits.filter fun x => x ≠ (w, id) }).filter
      fun f => decide (f.waits ≠ [])
    unfiled := s.unfiled.filter fun u => !(u.1.wing = w && u.1.cmd = id)
    dies := s.dies.map fun d => (d.1, { d.2 with walks := d.2.walks.filter fun k => !(k.wing = w && k.cmd = id) }) }

/-- An action ends command `id` of wing `w` if it has not reached its commit point (R160, R161). -/
def State.stopCmd (s : State) (w id : Nat) (st : BitVec 5) : State :=
  match s.cmd w id with
  | none => s
  | some c =>
    if c.status.isSome ∨ c.st = .committed then s
    else (s.endCmd w id st).unwait w id

/-! ### Records -/

/-- The record of a command (Table 5.9): its two 16-byte words, at offsets 0x00 and 0x10. -/
def recordWords (c : Cmd) (st : BitVec 5) (phase : Nat) (energy time : Nat) : Nat × Nat :=
  let d := match c.dirty with
    | some e => if e.lo < e.hi then
        (1, b2n e.larder, e.lo / 16, min 0xFFFFFF ((e.hi + 15) / 16 - e.lo / 16)) else (0, 0, 0, 0)
    | none => (0, 0, 0, 0)
  let w := match c.win with | some v => (1, ofSigned 10 v) | none => (0, 0)
  (c.tag + c.job * 2 ^ 16 + (phase * 128 + w.1 * 64 + d.1 * 32 + st.toNat) * 2 ^ 32 + c.num.toNat * 2 ^ 40 +
     energy % 65536 * 2 ^ 48 + c.prog % 2 ^ 32 * 2 ^ 64 + (c.vfl.toNat + d.2.2.2 * 256) * 2 ^ 96,
   w.2 + d.2.1 * 2 ^ 10 + d.2.2.1 % 2 ^ 53 * 2 ^ 11 + time % 2 ^ 64 * 2 ^ 64)

/-- The dispatcher of wing `w` as an agent. -/
def dispatcherAgent (w : Nat) : BitVec 16 := agentNo (w / 8) 0x05 (w % 8)

/-- Whether the memory at `pa` takes a write now: a running die's stack outside the tier pool, or host memory outside the
Dumbwaiter's region. -/
def State.reachable (s : State) (pa : Nat) : Bool :=
  match regionOf pa with
  | .stack j => s.dieUp (j / 3) && !s.stackShut j && (s.poolFrame pa).isNone
  | .host => s.on && !s.tierRegion pa
  | _ => false

/-- The physical address of the next completion slot. -/
def State.cslot (s : State) (w q : Nat) : Nat :=
  s.qf w q 0x08 55 6 * 64 + 32 * s.qf w q 0x30 47 32

/-- The completion slot is used: CTAIL moves on, and PHASE alternates at each wrap (R152). -/
def State.nextSlot (s : State) (w q : Nat) : State :=
  let t := s.qf w q 0x30 47 32 + 1
  if t < s.cring w q then s.setQf w q 0x30 47 32 t
  else
    let v := s.wing w
    let s := s.setWing w { v with
      phase := if v.phase.contains q then v.phase.filter fun x => x ≠ q else q :: v.phase }
    s.setQf w q 0x30 47 32 0

/-- PHASE of the next record of queue `q`. -/
def State.phaseOf (s : State) (w q : Nat) : Nat := if (s.wing w).phase.contains q then 0 else 1

/-- A last-words entry of a record (Table 11.12). -/
def lastWords (w q ctx : Nat) (rec : Nat × Nat) (pa loss cause : Nat) : List (BitVec 64) :=
  [BitVec.ofNat 64 rec.1, BitVec.ofNat 64 (rec.1 / 2 ^ 64), BitVec.ofNat 64 rec.2, BitVec.ofNat 64 (rec.2 / 2 ^ 64),
   BitVec.ofNat 64 pa, BitVec.ofNat 64 ((dispatcherAgent w).toNat * 2 ^ 48 + q * 2 ^ 16 + ctx * 2 ^ 8),
   BitVec.ofNat 64 loss, BitVec.ofNat 64 cause]

/-- Command `id` of wing `w` has written a line in its output tile `tile`; `va` is the line's address as the command
names it. What lies in the stacks of its own die no link loss can take (R304). -/
def State.noteWrite (s : State) (w id tile line va : Nat) : State :=
  if homeDie line = w / 8 then s
  else match s.cmd w id with
    | some c => if c.wrote.contains (line, tile, va) then s else s.putCmd w { c with wrote := (line, tile, va) :: c.wrote }
    | none => s

/-- Tile holds of a command end with its record (R256). -/
def State.dropHolds (s : State) (tiles : List Nat) : State :=
  let fs := s.tier.frames.map fun f =>
    if tiles.contains f.2.tile then (f.1, { f.2 with holds := f.2.holds - 1 }) else f
  { s with tier := { s.tier with frames := fs } }

/-- Whether a status that a command completes with halts its queue under HALT (R156). -/
def Cmd.fails (c : Cmd) (st : BitVec 5) : Bool := st ≠ stOK && !(c.op == 0x3F && (st == stTOO_LATE || st == stNOT_FOUND))

/-- Whether command `id` of wing `w` has sent other modules operations that they have not yet acknowledged as performed. -/
def State.remoteOpen (s : State) (w id : Nat) : Bool :=
  s.pairs.any fun p => (p.2.tx.any fun o => decide (o.issuer = .cmd w id)) || p.2.waiting.any fun x => decide (x.2 = .cmd w id)

/-- The bookkeeping that follows a record: the command leaves the flight, its engine queue and every await;
refusals are counted; the queue halts after a failure (R150, R152, R156). -/
def State.leaveFlight (s : State) (w : Nat) (c : Cmd) (st : BitVec 5) : State :=
  let v := s.wing w
  let cmds := (v.cmds.filter fun d => d.id ≠ c.id).map fun d =>
    if d.waitsOn c.id then { d with awaiting := d.awaiting.filter (fun x => x ≠ c.id), awaitBad := d.awaitBad || decide (st ≠ stOK) }
    else d
  let bad := match engineOf c.op with
    | some e => if c.issueNo ≠ 0 && st ≠ stOK && !v.failed.contains (c.queue, 3 * c.rm + e) then [(c.queue, 3 * c.rm + e)]
        else []
    | none => []
  let loose := v.loose.filter fun x => s.remoteOpen w x.2
  let loose := if s.remoteOpen w c.id then (c.queue, c.id) :: loose else loose
  let s := s.setWing w { v with cmds := cmds, held := v.held.filter (fun x => x ≠ c.id), failed := bad ++ v.failed, seen := v.seen.filter (fun x => x.1 ≠ c.id), loose := loose }
  let s := match engineOf c.op with
    | some e =>
      let r := s.room (c.room w)
      if c.issueNo = 0 then s else s.setRoom (c.room w) (r.setEq e ((r.eq e).filter fun x => x ≠ c.id))
    | none => s
  let s := s.dropHolds c.pages
  let s := if st = stUNSUP then s.incEnt 0x8021 (w + 1) 1 else s
  let s := s.syncInfl w c.queue
  if s.qf w c.queue 0x10 21 21 = 1 && c.fails st && !s.qhalted w c.queue then
    (s.setQf w c.queue 0x30 48 48 1).msi (w / 8) (s.qf w c.queue 0x18 55 2 * 4) (s.regN (paQueue w c.queue 0x20))
  else s

/-- ENERGY of a record (R153, R359): an engine's estimate is a free value, 0 without an engine. -/
def State.recordEnergy (s : State) (c : Cmd) : Nat × State :=
  if (engineOf c.op).isSome && c.issueNo ≠ 0 then (s.freeVal, s.drawFree) else (0, s)

/-- The dispatcher writes a command's record (R152 to R154): the word at 0x10, the word at 0x00, then the
interrupt write under IRQ. ENERGY of an engine command is a free value (R359). -/
def State.writeRecord (s : State) (w : Nat) (c : Cmd) (st : BitVec 5) : State :=
  let e := s.recordEnergy c
  let rec_ := recordWords c st (e.2.phaseOf w c.queue) e.1 e.2.house
  let s := e.2
  let pa := s.cslot w c.queue
  let who : Who := ⟨dispatcherAgent w, 1, some c.ctx⟩
  let s := s.wingStore w who (pa + 16) (toBytes 16 rec_.2)
  let s := s.wingStore w who pa (toBytes 16 rec_.1)
  let s := s.nextSlot w c.queue
  let s := if c.irq then s.msi (w / 8) (s.qf w c.queue 0x18 55 2 * 4) (s.regN (paQueue w c.queue 0x20)) else s
  s.leaveFlight w c st

/-- Whether a finished command's record may be written now (R145, R146, R150, R159). -/
def State.recordReady (s : State) (w : Nat) (c : Cmd) : Bool :=
  c.status.isSome && c.awaiting = [] && c.remote = 0 &&
  (match engineOf c.op with
   | some e => c.issueNo = 0 || ((s.room (c.room w)).eq e).head? = some c.id
   | none => true)

/-- Every finished command of wing `w` in an order in which their records may be written. -/
def State.flushRecords (s : State) (w : Nat) (f : Cmd → BitVec 5 → State → State) : Nat → State
  | 0 => s
  | n + 1 =>
    match (s.wing w).cmds.find? fun c => s.recordReady w c with
    | none => s
    | some c => State.flushRecords (f c (c.status.getD stOK) s) w f n

end Sys2Proof.Machine
end

