-- ==== Sys2Proof/Machine/Tier.lean ====
section
/-! DEFINITION. The tier range (R236 to R263): tiles and frames, accesses through the aperture, fills,
evictions and write-backs. -/

namespace Sys2Proof.Machine

/-- First byte of the aperture. -/
def tierBase : Nat := 0x200000000000
/-- The tile of an aperture address. -/
def tileOf (pa : Nat) : Nat := (pa - tierBase) / 65536
/-- A tile mover as an agent. The manual does not say which of the 64 movers works on a tile: the model names the first
(DESIGN CHOICE). -/
def moverAgent : BitVec 16 := agentNo 4 0x14 0
/-- A tile's state and frame. -/
def State.tile (s : State) (t : Nat) : TileState × Nat := tget (.absent, 0) s.tier.tiles t
/-- The code of a tile's state (Table 9.2). -/
def TileState.code : TileState → Nat
  | .absent => 0
  | .filling => 1
  | .resident => 2
  | .evicting => 3

/-- A frame that was just taken. -/
def Frame.fresh (t c : Nat) : Frame := ⟨t, .filling, false, false, 0, c, 0, 0⟩

/-- A tile's state and frame as given; its map entry in host memory follows (R243, R244). -/
def State.setTile (s : State) (t : Nat) (st : TileState) (f : Nat) : State :=
  let v := st.code * 2 ^ 30 + (if st = .absent then 0 else f)
  let ts := tput (.absent, 0) t (st, if st = .absent then 0 else f) s.tier.tiles
  { s with tier := { s.tier with tiles := ts }
           mem := cellsPut (s.ent 0x3100 1 + 4 * t) (toBytes 4 v) s.mem }

/-- A frame table entry as its 16 bytes (Table 9.3). -/
def Frame.bytes (f : Frame) : Bytes :=
  toBytes 8 (f.tile * 2 ^ 32 + f.st.code * 2 ^ 30 + b2n f.mark * 2 ^ 27 + b2n f.pin * 2 ^ 26 + f.pinctx * 2 ^ 18 +
    f.fctx * 2 ^ 10 + f.age) ++ toBytes 8 (f.holds * 2 ^ 32)

/-- Frame `f` as given, with its entry in host memory. -/
def State.setFrame (s : State) (f : Nat) (v : Frame) : State :=
  { s with tier := { s.tier with frames := tset f v s.tier.frames }
           mem := cellsPut (s.ent 0x3100 1 + 0x60000000 + 16 * f) v.bytes s.mem }
/-- Frame `f` freed. -/
def State.freeFrame (s : State) (f : Nat) : State :=
  { s with tier := { s.tier with frames := tdel s.tier.frames f, pinsOwed := s.tier.pinsOwed.filter fun x => x ≠ f }
           mem := cellsPut (s.ent 0x3100 1 + 0x60000000 + 16 * f) (List.replicate 16 0#8) s.mem }
/-- Frame `f`'s entry, if it is not free. -/
def State.frame (s : State) (f : Nat) : Option Frame := (s.tier.frames.find? fun e => e.1 = f).map fun e => e.2
/-- Every frame that is not free rewritten by `g`. -/
def State.mapFrames (s : State) (g : Frame → Frame) : State :=
  each s.tier.frames (fun e s => if g e.2 = e.2 then s else s.setFrame e.1 (g e.2)) s

/-! ### Taking frames (R249) -/

/-- Whether the Dumbwaiter may take frames in stack `j` (R307). -/
def State.poolUsable (s : State) (j : Nat) : Bool :=
  s.dieUp (j / 3) && s.ent 0x3019 (j + 1) = 0 && !(s.stack j).scrubbing
/-- Frames of stack `j` in use. -/
def State.framesUsed (s : State) (j : Nat) : Nat := (s.tier.frames.filter fun e => e.1 / 524288 = j).length
/-- Free frames of stack `j`. -/
def State.framesFree (s : State) (j : Nat) : Nat :=
  if s.poolUsable j then s.ent 0x3102 (j + 1) - s.framesUsed j else 0
/-- The lowest frame number from `n` on that a rising table does not list. -/
def lowestFree : Nat → Tab Frame → Nat
  | n, [] => n
  | n, (k, _) :: t => if k = n then lowestFree (n + 1) t else if k < n then lowestFree n t else n
/-- The stack with most free frames among `l`, the lowest on a tie; none when all are full. -/
def State.roomiest (s : State) (l : List Nat) : Option Nat :=
  l.foldl (fun (m : Option Nat) j =>
    if s.framesFree j = 0 then m
    else match m with
      | none => some j
      | some i => if s.framesFree i < s.framesFree j then some j else some i) none
/-- The frame that a fill takes: in the requester's die, else its suite, else anywhere. Die 4 is the host. -/
def State.pickFrame (s : State) (die suite : Nat) : Option Nat :=
  let all := List.range 12
  let near := if die < 4 then all.filter fun j => j / 3 = die else all
  let mine := all.filter fun j => s.suiteOfStack j = suite
  (((s.roomiest near).orElse fun _ => if die < 4 then s.roomiest mine else none).orElse fun _ => s.roomiest all).map
    fun j => lowestFree (j * 524288) s.tier.frames
/-- Fills and write-backs that run: tiles that are FILLING or EVICTING, and the tiles that a TIER_RELEASE writes back. -/
def State.movers (s : State) : Nat :=
  (s.tier.tiles.filter fun e => e.2.1 = .filling || e.2.1 = .evicting).length +
    (s.wings.flatMap fun e => e.2.cmds.filter fun c => c.busy).length

/-- The frames that are free. -/
def State.freeFrames (s : State) : Nat := ((List.range 12).map fun j => s.framesFree j).foldl (· + ·) 0

/-- Evicting ahead of need begins below the low watermark and ends at the high one (R253). -/
def State.watermarks (s : State) : State :=
  let free := s.freeFrames
  let on := if free < s.ent 0x3100 4 then true else s.tier.evictOn && decide (free < s.ent 0x3100 5)
  { s with tier := { s.tier with evictOn := on } }

/-- A fill takes a frame. -/
def State.beginFill (s : State) (r : FillReq) (f : Nat) : State :=
  ((s.setFrame f (Frame.fresh r.tile r.ctx)).setTile r.tile .filling f).watermarks

/-- The frame that a fill can take now: one of 64 movers must be idle (R249). -/
def State.fillFrame (s : State) (r : FillReq) : Option Nat :=
  if s.movers < 64 then s.pickFrame r.die r.suite else none

/-- A fill of an ABSENT tile starts, or waits in arrival order behind those that wait already; a tile has one fill
(R247, R249). -/
def State.startFill (s : State) (r : FillReq) : State :=
  if s.tier.waiting.any fun x => x.tile = r.tile then s
  else match (if s.tier.waiting = [] then s.fillFrame r else none) with
    | some f => s.beginFill r f
    | none => { s with tier := { s.tier with waiting := s.tier.waiting ++ [r] } }

/-- Waiting fills start in their order while there are frames and movers (R249). -/
def State.pumpFills (s : State) : Nat → State
  | 0 => s
  | n + 1 =>
    match s.tier.waiting with
    | [] => s
    | r :: t =>
      if (s.tile r.tile).1 ≠ .absent then ({ s with tier := { s.tier with waiting := t } } : State).pumpFills n
      else match s.fillFrame r with
        | some f => (({ s with tier := { s.tier with waiting := t } } : State).beginFill r f).pumpFills n
        | none => s

/-- A frame or a mover has become free: the fills that wait for one start. -/
def State.pump (s : State) : State := s.watermarks.pumpFills (s.tier.waiting.length + 1)

/-! ### Accesses (R237, R246, R247, R252, R257) -/

/-- The lookup buffer of die `d` translates an access to tile `t`: a miss takes an entry, in a full buffer of 16,384 the
place of one of the others, which the manual leaves open. -/
def State.lookup (s : State) (d t : Nat) : State :=
  let l := s.tier.marks
  if l.any fun e => e.1 = d && e.2.1 = t then
    { s with tier := { s.tier with marks := l.map fun e => if e.1 = d && e.2.1 = t then (d, t, true) else e } }
  else
    let mine := l.filter fun e => e.1 = d
    if mine.length < 16384 then { s with tier := { s.tier with marks := (d, t, true) :: l } }
    else match mine[s.freeVal % mine.length]? with
      | some e => { s.drawFree with tier := { s.tier with marks := (d, t, true) :: l.erase e } }
      | none => s

/-- A tile is accessed through die `d`'s lookup buffer: an entry whose mark is clear sends a mark (R252). -/
def State.markTile (s : State) (d t : Nat) : State :=
  if s.tier.marks.contains (d, t, true) then s
  else
    let s := s.lookup d t
    match s.frame (s.tile t).2 with
    | some f => s.setFrame (s.tile t).2 { f with mark := true }
    | none => s

/-- A wait on a tile begins: one stall for each waiter and tile. -/
def State.stall (s : State) (key t d : Nat) : State :=
  if s.tier.stalls.any fun e => e.1 = key && e.2.1 = t then s
  else
    let s := s.incEnt 0x3110 (d + 1) 1
    { s with tier := { s.tier with stalls := (key, t, d, s.house) :: s.tier.stalls } }

/-- A wait on a tile ends, and its time is added. -/
def State.unstall (s : State) (key t : Nat) : State :=
  match s.tier.stalls.find? fun e => e.1 = key && e.2.1 = t with
  | none => s
  | some e =>
    let s := s.incEnt 0x3111 (e.2.2.1 + 1) (s.house - e.2.2.2)
    { s with tier := { s.tier with stalls := s.tier.stalls.filter fun x => !(x.1 = key && x.2.1 = t) } }

/-- The reference of waiter `key` needs tile `t`: a fill starts, or the reference waits on what runs. -/
def State.needTile (s : State) (key t die suite ctx : Nat) : State :=
  match (s.tile t).1 with
  | .absent => s.startFill ⟨t, die, suite, ctx⟩
  | .evicting =>
    if s.tier.refs.contains (key, t) then s else { s with tier := { s.tier with refs := (key, t) :: s.tier.refs } }
  | _ => s

/-- Whether a reference waits on the eviction of tile `t` (R248). -/
def State.referred (s : State) (t : Nat) : Bool := s.tier.refs.any fun e => e.2 = t
/-- No reference waits on the eviction of tile `t` any more. -/
def State.unrefer (s : State) (t : Nat) : State :=
  { s with tier := { s.tier with refs := s.tier.refs.filter fun e => e.2 ≠ t } }

/-- An access at aperture address `pa` by an agent of die `d`: the physical address in the frame, or none
while the tile is not RESIDENT. `key` names who waits; `late` says that the wait is not a stall of R257. -/
def State.tierAccess (s : State) (pa d suite ctx key : Nat) (late : Bool) : Option Nat × State :=
  let t := tileOf pa
  if (s.tile t).1 = .resident then
    (some (s.frameAddr (s.tile t).2 + (pa - tierBase) % 65536), (s.markTile d t).unstall key t)
  else (none, (if late then s else s.stall key t d).needTile key t d suite ctx)

/-- A key for host core `c` as a waiter. -/
def coreKey (c : Nat) : Nat := c * 4 + 1
/-- A key for Hatch `h` as a waiter. -/
def hatchKey (h : Nat) : Nat := h * 4 + 2

/-! ### Filling and writing back (R250, R254) -/

/-- The Cellar channel of a quarter (R250). -/
def cellarChannel (t q : Nat) : Nat := (4 * t + q + t / 8) % 32

/-- The words of a quarter as the Cellar gives them: a poisoned word stays poison. -/
def State.cellarLine (s : State) (o : Nat) (bad : Bool) : LineData :=
  lineOfWords ((List.range 4).map fun m =>
    (BitVec.ofNat 128 (ofBytes (cellsGet s.tier.cellar (o + 16 * m) 16)),
     bad || decide (tget 0#16 s.tier.ccode (o + 16 * m) ≠ 0)))

/-- Quarter `q` of tile `t` is written into its frame as full-line writes at the frame's home (R250). Whether a good quarter
needed the controller's read retries is left open. -/
def State.fillQuarter (s : State) (t f q : Nat) (bad : Bool) : State :=
  let o := t * 65536 + q * 16384
  let pa := s.frameAddr f + q * 16384
  let s := each (List.range 256) (fun i s =>
    s.unitWrite ⟨moverAgent, 1, none⟩ (pa / 64 + i) fullMask (s.cellarLine (o + 64 * i) bad) none) s
  let s := s.incEnt 0x3130 2 18432
  if bad then
    (s.incEnt 0x3130 5 1).capture 4 (accReport 0x11 (agentNo 4 0x15 (cellarChannel t q)) 0 pa none)
  else s.drawFree.incEnt 0x3130 4 (s.freeVal % 2)

/-- Every agent gives up the lines from `a` to `a + n − 1` (`inv`), or its dirty data alone, once what is in flight for
each line has come to its end (R188); dirty data is written to memory. -/
def State.recall (s : State) (a n : Nat) (inv : Bool) : State :=
  let here := fun (line : Nat) => decide (a ≤ line * 64) && decide (line * 64 < a + n)
  let ls := (s.dirs.map fun e => e.1) ++ (s.net.map fun m => m.about) ++ (s.txns.map fun e => e.1) ++
    (s.lineQ.map fun e => e.1) ++ s.caches.flatMap fun c => c.2.fills.map fun m => m.about
  each (ls.filter here).eraseDups (fun line s =>
    if inv then s.pullLine line
    else
    let s := s.quiesce line
    let r := s.snoopAll line (dirAgents (s.dirOf line)) false
    let s := match r.1.1 with | some d => r.2.writeLine line d | none => r.2
    match s.dirOf line with
      | some (.owned _) => s.dirPut line (.shared (vecOf r.1.2))
      | _ => s) s

/-- The lines of merge buffers between `a` and `a + n − 1` are written to the dies. -/
def State.flushMerge (s : State) (a n : Nat) : State :=
  match regionOf a with
  | .stack j =>
    each (((s.stack j).merge.filter fun e => decide (a ≤ e.1 * 64) && decide (e.1 * 64 < a + n)).map fun e => e.1)
      (fun line s => s.mergeFlush j line) s
  | _ => s

/-- Blocks that fail as pages are programmed are replaced from spares (R262): by how much the percentage in use rises is left
open, short of all of them. With the use passing 90% the Breaker records CELLAR_SPARES. -/
def State.wearSpares (s : State) : State :=
  let old := s.ent 0x3130 7
  let new := old + s.freeVal % max 1 (100 - old)
  let s := s.drawFree.setEnt 0x3130 7 new
  if old < 90 ∧ 90 ≤ new then s.capture 4 (plainReport 0x05 (agentNo 4 0x15 0)) else s

/-- Quarter `q` of a frame is programmed into the Cellar: words, or poison in place of all of them. -/
def State.saveQuarter (s : State) (t f q : Nat) (lost : Bool) : State :=
  let o := t * 65536 + q * 16384
  let pa := s.frameAddr f + q * 16384
  let s := if lost then s else s.flushMerge pa 16384
  let r := (List.range 1024).foldl (fun (acc : List ((BitVec 128 × Bool) × Nat) × State) i =>
    if lost then (((BitVec.ofNat 128 0, true), o + 16 * i) :: acc.1, acc.2)
    else
      let w := acc.2.readWord ⟨moverAgent, 0, none⟩ (pa + 16 * i)
      ((w.1, o + 16 * i) :: acc.1, w.2)) ([], s)
  let s := each r.1.reverse (fun e (s : State) =>
    let ce := if lost then s.tier.cellar else cellsPut e.2 (toBytes 16 e.1.1.toNat) s.tier.cellar
    let cc := tput 0#16 e.2 (if e.1.2 then poisonMask else 0#16) s.tier.ccode
    { s with tier := { s.tier with cellar := ce, ccode := cc } }) r.2
  let s := { s with tier := { s.tier with worn := s.tier.worn + 18432 } }
  (s.incEnt 0x3130 3 18432).wearSpares

/-- The percentage used of the Cellar's rated endurance of 60 PB (R262). -/
def State.enduranceUsed (s : State) : Nat := min 255 (s.tier.worn * 100 / 60000000000000000)

/-- Whether the Cellar programs no page (R262). -/
def State.readOnly (s : State) : Bool := s.ent 0x3130 1 = 1

/-- The dirty quarters of a tile's frame are programmed, and its mask cleared (R254, R259). -/
def State.saveDirty (s : State) (t f : Nat) : State :=
  let qs := bitsOf 4 (s.qdOf f).toNat
  let s := s.setQd f 0
  each qs (fun q s => (s.saveQuarter t f q false).incEnt 0x3112 5 1) s

/-- The fill that a lost tile's references start (R246, R249): for the one that has waited longest in a stall. -/
def State.refill (s : State) (fr : Frame) : FillReq :=
  match (s.tier.stalls.filter fun e => e.2.1 = fr.tile).getLast? with
  | some e =>
    let d := e.2.2.1
    let c := if e.1 % 4 = 0 then ((s.cmd (e.1 / 4 / 2 ^ 40) (e.1 / 4 % 2 ^ 40)).map fun c => c.ctx).getD fr.fctx else 0
    ⟨fr.tile, d, if d < 4 then s.suiteOfDie d else 4, c⟩
  | none => ⟨fr.tile, 4, 4, fr.fctx⟩

/-- A tile's entry in every lookup buffer is invalidated (R254). -/
def State.forgetTile (s : State) (t : Nat) : State :=
  { s with tier := { s.tier with marks := s.tier.marks.filter fun m => m.2.1 ≠ t } }

/-- A frame lost with its die (R246): its tile is ABSENT. `mark` says that its dirty quarters become poison in
the Cellar (R261); otherwise the tile keeps its earlier Cellar data. -/
def State.loseFrame (s : State) (f : Nat) (fr : Frame) (mark : Bool) : State :=
  let qs := bitsOf 4 (s.qdOf f).toNat
  let s := if s.readOnly || !mark then s else each qs (fun q s => s.saveQuarter fr.tile f q true) s
  let s := s.setQd f 0
  let s := if qs = [] || !mark then s
    else s.capture 4 (accReport 0x12 moverAgent 6 (tierBase + fr.tile * 65536) none)
  let again := s.referred fr.tile || (s.tier.stalls.any fun e => e.2.1 = fr.tile)
  let s := (((s.unrefer fr.tile).setTile fr.tile .absent 0).freeFrame f).forgetTile fr.tile
  let inside := fun (a : Nat) => decide (s.frameAddr f ≤ a) && decide (a < s.frameAddr f + 65536)
  let s := { s with reads := s.reads.map fun r => if r.dst.any inside then { r with dst := none } else r }
  if again then s.startFill (s.refill fr) else s

/-- Every frame of the stacks of die `d` is lost (R246, R261). -/
def State.loseDieFrames (s : State) (d : Nat) (mark : Bool) : State :=
  (each (s.tier.frames.filter fun e => e.1 / 524288 / 3 = d) (fun e s => s.loseFrame e.1 e.2 mark) s).pump

/-- Frames in use by state, as 0x3103 counts them. -/
def State.frameCount (s : State) (k : Nat) : Nat :=
  match k with
  | 1 => s.freeFrames
  | 2 => (s.tier.frames.filter fun e => e.2.st = .filling).length
  | 3 => (s.tier.frames.filter fun e => e.2.st = .resident).length
  | 4 => (s.tier.frames.filter fun e => e.2.st = .evicting).length
  | _ => (s.tier.frames.filter fun e => e.2.pin).length

/-- Frames charged to a context (R260). -/
def State.charged (s : State) (c : Nat) : Nat := (s.tier.frames.filter fun e => e.2.fctx = c).length

/-- The pool's frames. -/
def State.poolFrames (s : State) : Nat := ((List.range 12).map fun j => s.ent 0x3102 (j + 1)).foldl (· + ·) 0

/-- A pin on a RESIDENT tile for context `c` (R255); answers whether the tile is now pinned. -/
def State.pinTile (s : State) (t c : Nat) : Bool × State :=
  match s.frame (s.tile t).2 with
  | none => (false, s)
  | some f =>
    if f.pin then (true, s)
    else if (s.frameCount 5 + 1) * 100 > s.ent 0x3100 6 * s.poolFrames then (false, s)
    else (true, s.setFrame (s.tile t).2 { f with pin := true, pinctx := c })

/-- Context `c` has been destroyed or killed: the Dumbwaiter still has to clear its pins, and sets no more for it
(R255). -/
def State.owePins (s : State) (c : Nat) : State :=
  let l := (s.tier.frames.filter fun e => e.2.pin && decide (e.2.pinctx = c) && !s.tier.pinsOwed.contains e.1).map fun e => e.1
  { s with tier := { s.tier with
    pinsOwed := l ++ s.tier.pinsOwed
    pinsDue := s.tier.pinsDue.filter fun x => x.2 ≠ c } }

end Sys2Proof.Machine
end

