-- ==== Sys2Proof/Machine/Xlate.lean ====
section
/-! DEFINITION. Contexts, segments, TLBs and walks (R265 to R283): translation of an access, its target
(R271), page walks, faults and their rings, and the checks of a context's entry. -/

namespace Sys2Proof.Machine

/-! ### Context states (R265) -/

/-- State of context `c`: 0 FREE, 1 ACTIVE, 2 KILLED. -/
def State.ctxState (s : State) (c : Nat) : Nat :=
  if c < 128 then s.ent 0x8101 (c + 1) else s.ent 0x8102 (c - 127)
/-- The state with context `c` in state `v`. -/
def State.setCtxState (s : State) (c v : Nat) : State :=
  if c < 128 then s.setEnt 0x8101 (c + 1) v else s.setEnt 0x8102 (c - 127) v
/-- Contexts that are ACTIVE or KILLED. -/
def State.liveCtxs (s : State) : List Nat := (List.range 256).filter fun c => s.ctxState c ≠ 0

/-! ### Reading a context's entry (R266 to R268) -/

/-- A 64-bit value of memory as coherent readers see it. -/
def State.peek64 (s : State) (pa : Nat) : Nat :=
  let l := s.peek (pa / 64)
  fld l.bits.toNat (pa % 64 * 8 + 63) (pa % 64 * 8)

/-- A segment descriptor's four values at `b` as segment `i`; none when V is 0. -/
def State.readSeg (s : State) (b i : Nat) : Option (Segment × Nat × Bool) :=
  let x := s.peek64 b
  let y := s.peek64 (b + 8)
  let z := s.peek64 (b + 16)
  let u := s.peek64 (b + 24)
  if bitOf x 63 then
    let kind := fld x 62 61
    let g : Segment := ⟨i, decide (kind = 1), bitOf x 60, bitOf x 59, fld x 56 12, fld y 56 12, fld z 55 12⟩
    let bad := fld x 58 57 ≠ 0 || fld x 11 0 ≠ 0 || fld y 63 57 ≠ 0 || fld y 11 0 ≠ 0 || fld z 63 56 ≠ 0 ||
      fld z 11 0 ≠ 0 || u ≠ 0 || 2 ≤ kind || (kind = 1 && (g.pr || g.pw || g.pbase ≠ 0))
    some (g, kind, bad)
  else none

/-- The number of the target of R271 that a physical address lies in; none outside all of them. -/
def targetOf (pa : Nat) : Option Nat :=
  match regionOf pa with
  | .stack j => some j
  | .host => some 12
  | .pcie => some 13
  | .tier => some 14
  | .control => if 0x60000000 ≤ pa ∧ pa < 0x70000000 then some 15 else none
  | .remote => some 16
  | .reserved => none

/-- Stack ranges of one suite count as one target range. -/
def State.targetRange (s : State) (pa : Nat) : Option Nat :=
  match targetOf pa with
  | some k => if k < 12 then some (100 + s.suiteOfStack k) else some k
  | none => none

/-- The refusal code of a valid segment of a kind by itself and against the segments before it (R268), lowest first. A
segment that ends before it begins covers no page and overlaps none. -/
def State.segCause (s : State) (ptmode suite : Nat) (before : List Segment) (g : Segment) (kind : Nat) (bad : Bool) : Nat :=
  let first := g.pbase * 4096
  let last := (g.pbase + (g.last - g.vbase)) * 4096
  if before.any fun h => decide (g.vbase ≤ g.last) && decide (h.vbase ≤ g.last) && decide (g.vbase ≤ h.last) then 1
  else if g.last < g.vbase then 2
  else if kind = 0 && (match targetOf first, targetOf last with
      | some _, some _ => decide (s.targetRange first ≠ s.targetRange last)
      | _, _ => true) then 3
  else if kind = 0 && (match targetOf first, targetOf last with
      | some a, some b => (decide (a < 12) && decide (s.suiteOfStack a ≠ suite)) ||
                          (decide (b < 12) && decide (s.suiteOfStack b ≠ suite))
      | _, _ => false) then 4
  else if g.paged && ptmode = 0 then 6
  else if bad then 8
  else 0

/-- The segments of an entry checked in order: the code and place of the first failure, or the segments. -/
def State.segChecks (s : State) (b ptmode suite : Nat) : Nat → List Segment → Except (Nat × Nat) (List Segment)
  | 0, acc => .ok acc
  | n + 1, acc =>
    let i := 15 - n
    match s.readSeg (b + 0x40 + 0x20 * i) i with
    | none => s.segChecks b ptmode suite n acc
    | some (g, kind, bad) =>
      let c := s.segCause ptmode suite acc g kind bad
      if c = 0 then s.segChecks b ptmode suite n (acc ++ [g]) else .error (c, i)

/-- The entry of context `c` read and checked (R268): its record, or the refusal's code and place. `own` is
the context's suite on a reload. -/
def State.readContext (s : State) (c : Nat) (own : Option Nat) : Except (Nat × Nat) Context :=
  let b := s.ent 0x8100 1 + c * 0x400
  if regionOf b ≠ .host ∨ regionOf (b + 0x3FF) ≠ .host then .error (9, 0xFF)
  else
    let h := s.peek64 b
    let u := s.peek64 (b + 8)
    let ptmode := fld h 63 60
    let root := fld h 43 0 * 4096
    let suite := fld u 1 0
    if suite ≥ suiteCount s.layout ∨ (own.isSome ∧ own ≠ some suite) then .error (5, 0xFF)
    else if ptmode ≠ 0 ∧ ptmode ≠ 10 then .error (6, 0xFF)
    else if ptmode = 10 ∧ (match regionOf root with
        | .host => false
        | .stack j => decide (s.suiteOfStack j ≠ suite)
        | _ => true) = true then .error (7, 0xFF)
    else if fld h 59 44 ≠ 0 ∨ fld u 63 2 ≠ 0 ∨ (List.range 6).any (fun i => s.peek64 (b + 16 + 8 * i) ≠ 0) then
      .error (8, 0xFF)
    else match s.segChecks b ptmode suite 16 [] with
      | .error e => .error e
      | .ok segs => .ok ⟨suite, ptmode, root, segs⟩

/-- The refusal reason of Table 10.3 is noted. -/
def State.refuseCtx (s : State) (c : Nat) (e : Nat × Nat) : State :=
  s.setEnt 0x8100 3 (e.1 * 2 ^ 24 + c * 2 ^ 16 + e.2 * 2 ^ 8)

/-- What a refused write leaves of the state `t` it reached: the refusal reason, and no more (R268, R362). -/
def State.keepReason (s t : State) : State :=
  if t.ent 0x8100 3 = s.ent 0x8100 3 then s else s.setEnt 0x8100 3 (t.ent 0x8100 3)

/-! ### TLBs (R274) -/

/-- Whether an entry permits an access (Table 10.4). -/
def TlbEntry.permits (e : TlbEntry) (access : Nat) : Bool :=
  if access = 1 then e.w && e.d else if access = 2 then e.r && e.w && e.d else e.r
/-- Whether an entry covers an address of a context. -/
def TlbEntry.covers (e : TlbEntry) (c va : Nat) : Bool :=
  decide (e.ctx = c) && decide (e.va ≤ va) && decide (va < e.va + e.size)
/-- Whether an entry overlaps bytes `a` to `b − 1` of a context. -/
def TlbEntry.meets (e : TlbEntry) (c a b : Nat) : Bool :=
  decide (e.ctx = c) && decide (e.va < b) && decide (a < e.va + e.size)
/-- The wing TLB's set of an entry. -/
def TlbEntry.set_ (e : TlbEntry) : Nat × Nat := (e.size, e.va / e.size % 256)
/-- An entry put first, the least recently used of a full buffer of `n` leaving. -/
def tlbPut (n : Nat) (e : TlbEntry) (l : List TlbEntry) : List TlbEntry := (e :: l.filter fun x => x ≠ e).take n
/-- An entry put into the wing TLB: sets of 8. An entry's set is VA[s+7:s] for its size. -/
def wtlbPut (e : TlbEntry) (l : List TlbEntry) : List TlbEntry :=
  let set := fun (x : TlbEntry) => x.set_.2
  let same := (l.filter fun x => decide (set x = set e) && decide (x ≠ e)).take 7
  e :: (l.filter fun x => decide (x ≠ e) && (decide (set x ≠ set e) || same.contains x))

/-- Entries removed from a room's µTLB. -/
def State.dropUtlb (s : State) (g : Nat) (p : TlbEntry → Bool) : State :=
  let r := s.room g
  if r.utlb = [] then s else s.setRoom g { r with utlb := r.utlb.filter fun e => !p e }
/-- Entries removed from a wing TLB. -/
def State.dropWtlb (s : State) (w : Nat) (p : TlbEntry → Bool) : State :=
  let v := s.wing w
  if v.tlb = [] then s else s.setWing w { v with tlb := v.tlb.filter fun e => !p e }
/-- Entries removed from every TLB of the dies that `d` names. -/
def State.dropTlbs (s : State) (d : Nat → Bool) (p : TlbEntry → Bool) : State :=
  { s with
    rooms := s.rooms.map fun r => if d (r.1 / 64) then (r.1, { r.2 with utlb := r.2.utlb.filter fun e => !p e }) else r
    wings := s.wings.map fun r => if d (r.1 / 8) then (r.1, { r.2 with tlb := r.2.tlb.filter fun e => !p e }) else r }

/-- What a translation gives: a physical address, a contained fault of a source, or a wait. -/
inductive Xl where
  | ok (pa : Nat)
  | kill (src : Nat)
  | wait
deriving DecidableEq, Repr

/-- The walk that an access of a room starts or joins (R274), or the pending fault that it joins (R277). -/
def State.walkFor (s : State) (w : Nat) (agent : BitVec 16) (ctx va access cmd : Nat) : State :=
  let page := va / 4096
  if s.faults.any fun f => f.ctx = ctx && f.page = page then
    { s with faults := s.faults.map fun f =>
        if f.ctx = ctx && f.page = page && !f.waits.contains (w, cmd) then { f with waits := (w, cmd) :: f.waits } else f }
  else
    let d := s.die (w / 8)
    let k : Walk := ⟨w / 8, ctx, page, va, access, agent, w, cmd⟩
    if d.walks.any fun x => x.ctx = ctx && x.page = page && x.wing = w && x.cmd = cmd && x.agent = agent then s
    else s.setDie (w / 8) { d with walks := d.walks ++ [k] }

/-- Translation of an access of room `g` (R270, R274): segments, µTLB, wing TLB, or a walk. -/
def State.xlate (s : State) (g : Nat) (agent : BitVec 16) (ctx va access cmd : Nat) : Xl × State :=
  match (s.ctxRec ctx).segs.find? fun x => x.vbase ≤ va / 4096 && va / 4096 ≤ x.last with
  | none => (.kill 0x22, s)
  | some x =>
    if !x.paged then
      let need := if access = 0 ∨ access = 7 then x.pr else if access = 1 then x.pw else x.pr && x.pw
      if need then (.ok (x.pbase * 4096 + (va - x.vbase * 4096)), s) else (.kill 0x22, s)
    else
      let r := s.room g
      let w := g / 8
      match r.utlb.find? fun e => e.covers ctx va with
      | some e =>
        if e.permits access then
          (.ok (e.pa + (va - e.va)), s.setRoom g { r with utlb := tlbPut 64 e r.utlb })
        else
          let s := s.dropUtlb g (fun x => x = e)
          let s := s.dropWtlb w (fun x => x = e)
          (.wait, s.walkFor w agent ctx va access cmd)
      | none =>
        let v := s.wing w
        match v.tlb.find? fun e => e.covers ctx va with
        | some e =>
          if e.permits access then
            let s := s.setWing w { v with tlb := wtlbPut e v.tlb }
            (.ok (e.pa + (va - e.va)), s.setRoom g { r with utlb := tlbPut 64 e r.utlb })
          else
            let s := s.dropWtlb w (fun x => x = e)
            (.wait, s.walkFor w agent ctx va access cmd)
        | none => (.wait, s.walkFor w agent ctx va access cmd)

/-! ### Targets (R19, R27, R237, R241, R243, R271, R307) -/

/-- Where an access goes. -/
inductive Tgt where
  | mem (pa : Nat)
  | lost (pa : Nat)
  | pcie (pa : Nat)
  | page (pa : Nat)
  | remote (pa : Nat)
  | kill (src : Nat)
  | wait
deriving DecidableEq, Repr

/-- Whether a stack controller refuses an agent of die `d` (4: the host die): another suite's stack (R19), a
stack carried over (R307) or being scrubbed (R219). -/
def State.stackRefuses (s : State) (d j : Nat) : Bool :=
  (decide (d < 4) && decide (s.suiteOfDie d ≠ s.suiteOfStack j)) || decide (s.ent 0x3019 (j + 1) ≠ 0) ||
  (s.stack j).scrubbing

/-- The target of an access at a physical address by an agent of die `d` for context `ctx`. `key` names the
waiter at a tile, `late` a wait that R257 does not count, `wr` a write. -/
def State.target (s : State) (pa d suite ctx key : Nat) (wr late : Bool) : Tgt × State :=
  match regionOf pa with
  | .stack j =>
    if s.dieState (j / 3) ≠ 0 then (.lost pa, s)
    else if s.stackRefuses d j ∨ (s.poolFrame pa).isSome then (.kill 0x21, s)
    else (.mem pa, s)
  | .host => if wr && s.tierRegion pa then (.kill 0x20, s) else (.mem pa, s)
  | .pcie => (.pcie pa, s)
  | .remote => (.remote pa, s)
  | .control => if 0x60000000 ≤ pa ∧ pa < 0x70000000 then (.page pa, s) else (.kill 0x20, s)
  | .tier =>
    if s.tierState ≠ 2 then (.kill 0x20, s)
    else
      let r := s.tierAccess pa d suite ctx key late
      match r.1 with
      | some fa => (.mem fa, r.2)
      | none => (.wait, r.2)
  | .reserved => (.kill 0x20, s)

/-! ### Walks (R272, R273, R275, R276) -/

/-- How a walk ends: an entry, a page fault with its level, a walker fault, a read that its home refuses, or a poisoned
PTE; or it waits for a stack or a hallway. -/
inductive WalkEnd where
  | entry (e : TlbEntry)
  | fault (cause level : Nat)
  | walker (pa : Nat)
  | refused (pa : Nat)
  | poison (pa : Nat)
  | held
deriving DecidableEq, Repr

/-- Bits of a VPN at a level. -/
def vpnAt (va level : Nat) : Nat := va / 2 ^ (12 + 9 * level) % 512
/-- Whether a valid PTE is a leaf. -/
def pteLeaf (p : Nat) : Bool := bitOf p 1 || bitOf p 3
/-- The PPN of a PTE. -/
def ptePpn (p : Nat) : Nat := fld p 53 10
/-- The fault of a PTE at a level for an access, if it causes one (R272, R273). -/
def pteFault (p level access : Nat) : Option Nat :=
  if !bitOf p 0 then some 0
  else if fld p 60 54 ≠ 0 ∨ (bitOf p 2 ∧ !bitOf p 1) then some 5
  else if !pteLeaf p then
    if level = 0 ∨ bitOf p 6 ∨ bitOf p 7 ∨ bitOf p 4 ∨ bitOf p 63 then some 5 else none
  else if 3 ≤ level then some 5
  else if bitOf p 63 ∧ (level ≠ 0 ∨ ptePpn p % 16 ≠ 8) then some 5
  else if ptePpn p % 2 ^ (9 * level) ≠ 0 then some 5
  else
    let rd := access ≠ 1
    let wr := access = 1 ∨ access = 2
    if rd ∧ !bitOf p 1 then some 1
    else if wr ∧ !bitOf p 2 then some 2
    else if !bitOf p 6 then some 3
    else if wr ∧ !bitOf p 7 then some 4
    else none

/-- The bits that must be equal throughout a run: all but V and the PPN. -/
def pteBits (p : Nat) : Nat × Nat := (fld p 7 1, fld p 63 61)

/-- The largest aligned run of PTEs that merges with leaf `i` of a block (R275): its first place and length. -/
def mergeRun (ps : List (Option Nat)) (i level access : Nat) : Nat × Nat :=
  let ok := fun (k : Nat) =>
    let n := 2 ^ k
    let a := i / n * n
    let run := slice ps a n
    match run with
    | some p0 :: _ =>
      ptePpn p0 % (n * 2 ^ (9 * level)) = 0 && run.length = n &&
      (run.zipIdx.all fun x => match x.1 with
        | some p => (pteFault p level access).isNone && pteLeaf p && decide (pteBits p = pteBits p0) &&
                    decide (ptePpn p = ptePpn p0 + x.2 * 2 ^ (9 * level))
        | none => false)
    | _ => false
  match [4, 3, 2, 1].find? ok with
  | some k => (i / 2 ^ k * 2 ^ k, 2 ^ k)
  | none => (i, 1)

/-- Whether a walk of a context's suite may read an address (R276). -/
def State.walkable (s : State) (suite pa : Nat) : Bool :=
  match regionOf pa with
  | .host => true
  | .stack j => decide (s.suiteOfStack j = suite)
  | _ => false

/-- Whether the home of an address refuses a walker's read: a stack carried over or scrubbed (R219, R307), or a pool frame
(R241). -/
def State.pteRefused (s : State) (pa : Nat) : Bool :=
  match regionOf pa with
  | .stack j => s.stackShut j || (s.poolFrame pa).isSome
  | _ => false

/-- Whether a walker's read from die `d` finds its home lost, or no way to it (R15, R407). -/
def State.pteLost (s : State) (d pa : Nat) : Bool :=
  match regionOf pa with
  | .stack j => decide (s.dieState (j / 3) ≠ 0) || s.hallCut d (j / 3)
  | _ => false

/-- A walker's read of 8 bytes: none when poisoned. -/
def State.readPte (s : State) (who : Who) (pa : Nat) : Option Nat × State :=
  let x := s.unitRead who (pa / 64)
  if x.1.poisoned (pa / 16 % 4) then (none, x.2)
  else (some (fld x.1.bits.toNat (pa % 64 * 8 + 63) (pa % 64 * 8)), x.2)

/-- The entry of a leaf at `pa` with value `p` for an address (R275). -/
def State.walkLeaf (s : State) (who : Who) (ctx va access level pa p : Nat) : WalkEnd × State :=
  let base := pa / 128 * 128
  let i := pa % 128 / 8
  let r := (List.range 16).foldl (fun (a : List (Option Nat) × State) k =>
    let x := if k = i then (some p, a.2) else a.2.readPte who (base + 8 * k)
    (a.1 ++ [x.1], x.2)) ([], s)
  let page := 2 ^ (12 + 9 * level)
  let w := bitOf p 2
  if bitOf p 63 then
    (.entry ⟨ctx, va / 65536 * 65536, 65536, ptePpn p / 16 * 65536, bitOf p 1, w, bitOf p 7⟩, r.2)
  else
    let m := mergeRun r.1 i level access
    let first := match r.1[m.1]? with | some (some q) => q | _ => p
    let size := page * m.2
    (.entry ⟨ctx, va / size * size, size, ptePpn first * 4096, bitOf p 1, w, bitOf p 7⟩, r.2)

/-- A non-leaf PTE enters the walk cache of die `d`; a full cache loses an entry that the manual does not
name. -/
def State.cacheWalk (s : State) (d ctx key table : Nat) : State :=
  let v := s.die d
  let l := v.walkc.filter fun x => !(x.1 = ctx && x.2.1 = key)
  if 256 ≤ l.length then
    (s.drawFree).setDie d { v with walkc := (ctx, key, table) :: l.eraseIdx (s.freeVal % l.length) }
  else s.setDie d { v with walkc := (ctx, key, table) :: l }

/-- The walk-cache key of the table of a level for an address. -/
def walkKey (va level : Nat) : Nat := level * 2 ^ 57 + va / 2 ^ (12 + 9 * (level + 1))

/-- The walk from the table at `table` of level `level`, the levels counted by `n` (R272). -/
def State.walkFrom (s : State) (who : Who) (suite ctx va access : Nat) : Nat → Nat → WalkEnd × State
  | 0, _ => (.fault 5 0, s)
  | n + 1, table =>
    let pa := table + 8 * vpnAt va n
    if !s.walkable suite pa then (.walker pa, s)
    else if s.pteLost (agentDie who.master) pa then (.poison pa, s)
    else if s.pteRefused pa then (.refused pa, s)
    else if s.accessHeld (agentDie who.master) (pa / 64) true then (.held, s)
    else
      let x := s.readPte who pa
      match x.1 with
      | none => (.poison pa, x.2)
      | some p =>
        match pteFault p n access with
        | some c => (.fault c n, x.2)
        | none =>
          if pteLeaf p then x.2.walkLeaf who ctx va access n pa p
          else
            let t := ptePpn p * 4096
            (x.2.cacheWalk (agentDie who.master) ctx (walkKey va (n - 1)) t).walkFrom who suite ctx va access n t

/-- A walk of die `d`: it starts at the lowest level whose table the walk cache holds. The manual does not say which of the
die's 16 walkers serves a walk, or writes a fault record: the model names the first (DESIGN CHOICE). -/
def State.walk (s : State) (d ctx va access : Nat) : WalkEnd × State :=
  let c := s.ctxRec ctx
  let who : Who := ⟨agentNo d 0x0A 0, 5, some ctx⟩
  let hit := [0, 1, 2, 3].findSome? fun l =>
    ((s.die d).walkc.find? fun x => x.1 = ctx && x.2.1 = walkKey va l).map fun x => (l, x.2.2)
  match hit with
  | some (l, t) => s.walkFrom who c.suite ctx va access (l + 1) t
  | none => s.walkFrom who c.suite ctx va access 5 c.root

/-- Where a walk from a table would lead, as memory stands: the PTEs as coherent readers see them, with no access made. -/
def State.peekWalk (s : State) (va : Nat) : Nat → Nat → Option Nat
  | 0, _ => none
  | n + 1, table =>
    let p := s.peek64 (table + 8 * vpnAt va n)
    if !bitOf p 0 then none
    else if !pteLeaf p then s.peekWalk va n (ptePpn p * 4096)
    else if bitOf p 63 then some (ptePpn p / 16 * 65536 + va % 65536)
    else some (ptePpn p * 4096 + va % 2 ^ (12 + 9 * n))

/-- Where an address of a context leads now, if it is mapped. -/
def State.leadsTo (s : State) (ctx va : Nat) : Option Nat :=
  let c := s.ctxRec ctx
  match c.segs.find? fun x => x.vbase ≤ va / 4096 && va / 4096 ≤ x.last with
  | none => none
  | some x => if x.paged then s.peekWalk va 5 c.root else some (x.pbase * 4096 + (va - x.vbase * 4096))

/-! ### Page faults (R277 to R280) -/

/-- A fault identifier that no pending fault of the suite carries: the first one from `n` on. -/
def State.freshFid (s : State) (suite : Nat) : Nat → Nat → BitVec 32
  | 0, n => BitVec.ofNat 32 n
  | k + 1, n =>
    if s.faults.any fun f => f.suite = suite && f.fid = BitVec.ofNat 32 n then s.freshFid suite k (n + 1)
    else BitVec.ofNat 32 n

/-- Whether suite `i`'s fault ring is full. -/
def State.ringFull (s : State) (i : Nat) : Bool :=
  let n := 2 ^ s.ent (0x8110 + i) 2
  decide ((s.ent (0x8110 + i) 6 + n - s.ent (0x8110 + i) 5 % n) % n = n - 1)
/-- Whether suite `i`'s fault ring takes a record. -/
def State.ringOpen (s : State) (i : Nat) : Bool := s.ent (0x8110 + i) 8 = 1 && !s.ringFull i

/-- A fault's record is written, and the interrupt after it (R278, R279). -/
def State.writeFault (s : State) (f : Fault277) : State :=
  let i := 0x8110 + f.suite
  let n := 2 ^ s.ent i 2
  let t := s.ent i 6
  let ph := if s.mgmt.fpass.contains f.suite then 0 else 1
  let pa := s.ent i 1 + 32 * t
  let who : Who := ⟨agentNo f.die 0x0A 0, 1, none⟩
  let w0 := f.va + (f.agent.toNat * 2 ^ 48 + f.ctx * 2 ^ 40 + f.fid.toNat) * 2 ^ 64
  let w1 := ph * 2 ^ 63 + f.cause * 2 ^ 52 + f.level * 2 ^ 49 + f.access * 2 ^ 46 + f.wing * 2 ^ 41 + f.queue * 2 ^ 34 +
    f.tag.toNat * 2 ^ 16 + f.job.toNat + f.time * 2 ^ 64
  let s := if regionOf pa = .host && !s.tierRegion pa then
      (s.unitStore who pa (toBytes 16 w0) false none).unitStore who (pa + 16) (toBytes 16 w1) false none
    else s
  let s := if t + 1 < n then s.setEnt i 6 (t + 1)
    else
      let fp := if ph = 0 then s.mgmt.fpass.filter fun x => x ≠ f.suite else f.suite :: s.mgmt.fpass
      ({ s with mgmt := { s.mgmt with fpass := fp } } : State).setEnt i 6 0
  let fs := s.faults.map fun x => if x.suite = f.suite && x.fid = f.fid then { x with inRing := true } else x
  let s := { s with faults := fs }
  s.msi f.die (s.ent i 3) (s.ent i 4)

/-- Whether suite `i`'s buffer of 1,024 faults that wait for the ring is full (R279). -/
def State.bufferFull (s : State) (i : Nat) : Bool :=
  decide (1024 ≤ (s.faults.filter fun f => f.suite = i && !f.inRing).length)

/-- A walk of an access ended in a page fault (R277). While the fault buffer is full, its engine stays stalled without a
record (R279). -/
def State.pageFault (s : State) (k : Walk) (cause level : Nat) : State :=
  let g := k.die * 64 + agentInst k.agent
  let at_ := fun (e : TlbEntry) => e.covers k.ctx k.va
  let s := (s.dropUtlb g at_).dropWtlb k.wing at_
  if s.faults.any fun f => f.ctx = k.ctx && f.page = k.page then
    { s with faults := s.faults.map fun f =>
        if f.ctx = k.ctx && f.page = k.page && !f.waits.contains (k.wing, k.cmd) then { f with waits := (k.wing, k.cmd) :: f.waits } else f }
  else if s.bufferFull (s.ctxRec k.ctx).suite && !s.ringOpen (s.ctxRec k.ctx).suite then
    { s with unfiled := s.unfiled ++ [(k, cause, level)] }
  else
    let suite := (s.ctxRec k.ctx).suite
    let fid := s.freshFid suite (s.faults.length + 1) (s.freeVal % 2 ^ 32)
    let s := s.drawFree
    let c := s.cmd k.wing k.cmd
    let f : Fault277 := ⟨suite, fid, k.ctx, k.page, k.va, k.agent, cause, level, k.access, k.wing,
      (c.map fun c => c.queue).getD 0, BitVec.ofNat 16 ((c.map fun c => c.tag).getD 0),
      BitVec.ofNat 16 ((c.map fun c => c.job).getD 0), s.house, k.die, [(k.wing, k.cmd)], false⟩
    let s := s.incEnt 0x8120 (k.die + 1) 1
    let s := if s.ent (0x8110 + suite) 8 = 1 && s.ringFull suite then
        s.setEnt 0x8121 (suite + 1) (putFld (s.ent 0x8121 (suite + 1)) 31 0
          ((fld (s.ent 0x8121 (suite + 1)) 31 0 + 1) % 2 ^ 32)) else s
    let ahead := s.faults.any fun x => x.suite = suite && !x.inRing
    let s := { s with faults := s.faults ++ [f] }
    if s.ringOpen suite && !ahead then s.writeFault f else s

/-- The oldest fault of suite `i` that found its buffer full is recorded once the buffer has space (R279). -/
def State.fileFault (s : State) (i : Nat) : State :=
  if s.bufferFull i then s
  else match s.unfiled.find? fun u => (s.ctxRec u.1.ctx).suite = i with
    | some u => ({ s with unfiled := s.unfiled.erase u } : State).pageFault u.1 u.2.1 u.2.2
    | none => s

/-- Faults of suite `i` that wait in the buffer are written in arrival order while the ring takes them, and the faults
that found the buffer full follow into it. -/
def State.drainFaults (s : State) (i : Nat) : Nat → State
  | 0 => s
  | n + 1 =>
    if s.ringOpen i then
      match s.faults.find? fun f => f.suite = i && !f.inRing with
      | some f => ((s.writeFault f).fileFault i).drainFaults i n
      | none => s
    else s

end Sys2Proof.Machine
end

