-- ==== Sys2Proof/WellFormed.lean ====
section
/-! DEFINITION. Well-formed commands: the units, lanes and lengths that a command names are ones that the
module has (chapter 1). Nothing else is asked: a command whose contents the manual refuses is well formed
and is refused as the manual says. -/

namespace Sys2Proof

/-- A size in bytes of one access (R7, R178). -/
def sizeOk (n : Nat) : Bool := n == 1 || n == 2 || n == 4 || n == 8 || n == 16 || n == 32 || n == 64

/-- The sizes of a host core's accesses. -/
def coreSize (n : Nat) : Bool := n == 1 || n == 2 || n == 4 || n == 8

/-- A line of a stack or of host memory (Table 1.10). -/
def memLine (line : Nat) : Bool :=
  (decide (0x001000000000 ≤ line * 64) && decide (line * 64 < 0x00D000000000)) ||
  (decide (0x010000000000 ≤ line * 64) && decide (line * 64 < 0x018000000000))

/-- A ring hallway, HALL[4] to HALL[7] (Table 1.2). -/
def ringHall (n : Nat) : Bool := decide (4 ≤ n) && decide (n < 8)

/-- The fields of a packet header are as wide as Table 12.2 gives them. -/
def Packet.wf (k : Packet) : Bool :=
  decide (k.dst < 4096) && decide (k.src < 4096) && decide (k.seq < 2 ^ 32) && decide (k.ptarget < 64) &&
  decide (k.addr < 2 ^ 43) && decide (k.gen < 2 ^ 16) && decide (k.words.length ≤ 256)

/-- Whether the module has the units that a command names. -/
def Instr.wf : Instr → Bool
  | .powerOn _ => true
  | .prechargeDone => true
  | .prechargeRestart => true
  | .pwrEnAssert _ => true
  | .pwrEnDeassert _ => true
  | .undervoltage => true
  | .overvoltage => true
  | .voltageReturn => true
  | .romStart _ => true
  | .deedRead => true
  | .identityDerive => true
  | .roleResolve _ => true
  | .bootRequest => true
  | .bootBlock _ _ _ _ => true
  | .bootTimeout => true
  | .imageRetry => true
  | .firmwareStart => true
  | .hostRelease _ => true
  | .hostBootRetry _ => true
  | .perstRelease => true
  | .watchdogExpiry => true
  | .moduleReset => true
  | .dieReset d => decide (d < 4)
  | .dieDrain d => decide (d < 4)
  | .suiteReset s => decide (s < 4)
  | .suiteDrain s => decide (s < 4)
  | .dieRejoinStart d => decide (d < 4)
  | .dieRejoinDone d _ => decide (d < 4)
  | .roomReset g => decide (g < 256)
  | .roomSelfTestDone g _ => decide (g < 256)
  | .clockLoss d => decide (d < 4)
  | .layoutWrite _ => true
  | .layoutChangeDone => true
  | .ringHallTrainingLoss n => ringHall n
  | .ringHallRetrainDone n => ringHall n
  | .ringHallDown n => ringHall n
  | .hostHallTrainingLoss d => decide (d < 4)
  | .hostHallRetrainDone d => decide (d < 4)
  | .hallHeartbeat => true
  | .linkLossDeclare d _ => decide (d < 4)
  | .dieSelfResetDone d => decide (d < 4)
  | .linkReturn d => decide (d < 4)
  | .stackAdopt j => decide (j < 12)
  | .logClear => true
  | .registerWrite _ pa size _ => decide (pa < 2 ^ 56) && coreSize size
  | .mirrorLoad pa => decide (pa < 2 ^ 56)
  | .mirrorStore pa size _ => decide (pa < 2 ^ 56) && coreSize size
  | .mirrorTimeout pa _ => decide (pa < 2 ^ 56)
  | .hostCoreLoad core _ pa size => decide (core < 96) && decide (pa < 2 ^ 56) && coreSize size
  | .hostCoreStore core _ pa size _ => decide (core < 96) && decide (pa < 2 ^ 56) && coreSize size
  | .wqDoorbell w q size _ => decide (w < 32) && decide (q < 128) && sizeOk size
  | .cqDoorbell w q size _ => decide (w < 32) && decide (q < 128) && sizeOk size
  | .queueEnable w q => decide (w < 32) && decide (q < 128)
  | .queueDisable w q => decide (w < 32) && decide (q < 128)
  | .queueReset w q => decide (w < 32) && decide (q < 128)
  | .queueResume w q => decide (w < 32) && decide (q < 128)
  | .queueOrderWrite w q _ => decide (w < 32) && decide (q < 128)
  | .commandFetch w => decide (w < 32)
  | .commandIssue w q => decide (w < 32) && decide (q < 128)
  | .nop w q => decide (w < 32) && decide (q < 128)
  | .loadStationary g => decide (g < 256)
  | .loadComplete g => decide (g < 256)
  | .matmul g => decide (g < 256)
  | .streamDataArrival g => decide (g < 256)
  | .passVerdict g _ => decide (g < 256)
  | .passCommit g => decide (g < 256)
  | .drain g => decide (g < 256)
  | .drainGroupWritten g => decide (g < 256)
  | .tierDeadlineExpiry g e => decide (g < 256) && (decide (e = 0) || decide (e = 2))
  | .vector g => decide (g < 256)
  | .vnop g _ => decide (g < 256)
  | .halt g _ => decide (g < 256)
  | .mark g _ => decide (g < 256)
  | .loop g _ => decide (g < 256)
  | .br g _ => decide (g < 256)
  | .vfence g _ => decide (g < 256)
  | .rdflg g _ => decide (g < 256)
  | .clrflg g _ => decide (g < 256)
  | .sadd g _ => decide (g < 256)
  | .ssub g _ => decide (g < 256)
  | .saddi g _ => decide (g < 256)
  | .smul g _ => decide (g < 256)
  | .sand g _ => decide (g < 256)
  | .sor g _ => decide (g < 256)
  | .sxor g _ => decide (g < 256)
  | .ssh g _ => decide (g < 256)
  | .smovi g _ => decide (g < 256)
  | .smovh g _ => decide (g < 256)
  | .vmovi g _ => decide (g < 256)
  | .sldl g _ => decide (g < 256)
  | .sstl g _ => decide (g < 256)
  | .fadd g _ => decide (g < 256)
  | .fsub g _ => decide (g < 256)
  | .fmul g _ => decide (g < 256)
  | .fma g _ => decide (g < 256)
  | .fms g _ => decide (g < 256)
  | .fnma g _ => decide (g < 256)
  | .fmin g _ => decide (g < 256)
  | .fmax g _ => decide (g < 256)
  | .fcmp g _ => decide (g < 256)
  | .sel g _ => decide (g < 256)
  | .fabs g _ => decide (g < 256)
  | .fneg g _ => decide (g < 256)
  | .cvt g _ => decide (g < 256)
  | .fcvti g _ => decide (g < 256)
  | .icvtf g _ => decide (g < 256)
  | .iadd g _ => decide (g < 256)
  | .isub g _ => decide (g < 256)
  | .vand g _ => decide (g < 256)
  | .vor g _ => decide (g < 256)
  | .vxor g _ => decide (g < 256)
  | .shl g _ => decide (g < 256)
  | .shr g _ => decide (g < 256)
  | .sra g _ => decide (g < 256)
  | .icmp g _ => decide (g < 256)
  | .vsplat g _ => decide (g < 256)
  | .vext g _ => decide (g < 256)
  | .vins g _ => decide (g < 256)
  | .vperm g _ => decide (g < 256)
  | .pand g _ => decide (g < 256)
  | .por g _ => decide (g < 256)
  | .pxor g _ => decide (g < 256)
  | .pnot g _ => decide (g < 256)
  | .pfirst g _ => decide (g < 256)
  | .pcnt g _ => decide (g < 256)
  | .exp2 g _ => decide (g < 256)
  | .log2 g _ => decide (g < 256)
  | .rcp g _ => decide (g < 256)
  | .rsqrt g _ => decide (g < 256)
  | .rsum g _ => decide (g < 256)
  | .rmin g _ => decide (g < 256)
  | .rmax g _ => decide (g < 256)
  | .vsumx g _ => decide (g < 256)
  | .xcvt g _ => decide (g < 256)
  | .ldl g _ => decide (g < 256)
  | .stl g _ => decide (g < 256)
  | .ldm g _ => decide (g < 256)
  | .loadDataReturn g => decide (g < 256)
  | .stm g _ => decide (g < 256)
  | .recv g _ => decide (g < 256)
  | .copy g => decide (g < 256)
  | .writeReduce g => decide (g < 256)
  | .tierPrefetch g => decide (g < 256)
  | .tierRelease g => decide (g < 256)
  | .tierReleaseTileDone g => decide (g < 256)
  | .latchWait w q => decide (w < 32) && decide (q < 128)
  | .latchWaitSatisfied w q => decide (w < 32) && decide (q < 128)
  | .latchSignal w q => decide (w < 32) && decide (q < 128)
  | .latchSignalPerform w q => decide (w < 32) && decide (q < 128)
  | .fence w q => decide (w < 32) && decide (q < 128)
  | .fenceComplete w q => decide (w < 32) && decide (q < 128)
  | .abort w q => decide (w < 32) && decide (q < 128)
  | .translationInvalidate w q => decide (w < 32) && decide (q < 128)
  | .invalidateCommit w q => decide (w < 32) && decide (q < 128)
  | .completionRecordWrite w q _ => decide (w < 32) && decide (q < 128)
  | .latchSetWrite w l size _ => decide (w < 32) && decide (l < 4096) && sizeOk size
  | .latchAddWrite w l size _ => decide (w < 32) && decide (l < 4096) && sizeOk size
  | .reduceLineWriteback holder _ => decide (holder < 36)
  | .reduceLineTimeout holder _ => decide (holder < 36)
  | .wccfgWrite w _ => decide (w < 32)
  | .clean w => decide (w < 32)
  | .flush w => decide (w < 32)
  | .flushAll w => decide (w < 32)
  | .wcopDone w => decide (w < 32)
  | .wayReenable w _ => decide (w < 32)
  | .wclandRead w => decide (w < 32)
  | .trackerTimeout g k => decide (g < 256) && decide (k < 3)
  | .landingWbSend w => decide (w < 32)
  | .holdExpiry a line => decide (a < 40) && memLine line
  | .rds a line => decide (a < 40) && memLine line
  | .rdx a line => decide (a < 40) && memLine line
  | .upg a line => decide (a < 40) && memLine line
  | .wro a line => decide (a < 40) && memLine line
  | .rdo _ line => memLine line
  | .wrf _ line _ _ => memLine line
  | .wrp _ line _ _ => memLine line
  | .wb a line _ => decide (a < 40) && memLine line
  | .red _ pa _ _ _ => decide (pa < 2 ^ 56)
  | .snps a line => decide (a < 40) && memLine line
  | .snpi a line => decide (a < 40) && memLine line
  | .push a line _ => decide (a < 40) && memLine line
  | .ack a line => decide (a < 40) && memLine line
  | .ackd a line _ => decide (a < 40) && memLine line
  | .nh a line => decide (a < 40) && memLine line
  | .nhw a line => decide (a < 40) && memLine line
  | .gnts a line _ => decide (a < 40) && memLine line
  | .gnte a line _ => decide (a < 40) && memLine line
  | .gntm a line _ => decide (a < 40) && memLine line
  | .gnto a line => decide (a < 40) && memLine line
  | .data _ line _ => memLine line
  | .cmp _ line => memLine line
  | .landingAckReceive a line => decide (a < 40) && memLine line
  | .rowClose j ch bank => decide (j < 12) && decide (ch < 32) && decide (bank < 16)
  | .patrolScrubRead j => decide (j < 12)
  | .zeroScrubStart j => decide (j < 12)
  | .zeroScrubDone j => decide (j < 12)
  | .stackTempSample j _ => decide (j < 12)
  | .perBankRefresh j ch bank => decide (j < 12) && decide (ch < 32) && decide (bank < 16)
  | .stackCriticalTimeout j => decide (j < 12)
  | .scerrRead j => decide (j < 12)
  | .mergeBufferFlush j line => decide (j < 12) && memLine line
  | .addI32 _ pa _ _ => decide (pa < 2 ^ 56)
  | .addI64 _ pa _ _ => decide (pa < 2 ^ 56)
  | .minS32 _ pa _ _ => decide (pa < 2 ^ 56)
  | .minS64 _ pa _ _ => decide (pa < 2 ^ 56)
  | .maxS32 _ pa _ _ => decide (pa < 2 ^ 56)
  | .maxS64 _ pa _ _ => decide (pa < 2 ^ 56)
  | .minU32 _ pa _ _ => decide (pa < 2 ^ 56)
  | .minU64 _ pa _ _ => decide (pa < 2 ^ 56)
  | .maxU32 _ pa _ _ => decide (pa < 2 ^ 56)
  | .maxU64 _ pa _ _ => decide (pa < 2 ^ 56)
  | .cisAnd _ pa _ _ => decide (pa < 2 ^ 56)
  | .cisOr _ pa _ _ => decide (pa < 2 ^ 56)
  | .cisXor _ pa _ _ => decide (pa < 2 ^ 56)
  | .cas32 _ pa _ _ => decide (pa < 2 ^ 56)
  | .cas64 _ pa _ _ => decide (pa < 2 ^ 56)
  | .addF32 _ pa _ _ => decide (pa < 2 ^ 56)
  | .addBf16 _ pa _ _ => decide (pa < 2 ^ 56)
  | .addXp _ pa _ _ => decide (pa < 2 ^ 56)
  | .readMap => true
  | .spareRow => true
  | .spareCol => true
  | .softPpr => true
  | .hardPpr => true
  | .repairDone _ => true
  | .tierEnable => true
  | .tierEnableDone => true
  | .tierDisable => true
  | .tierDisableDone => true
  | .fillComplete t _ => decide (t < 402653184)
  | .victimSelect => true
  | .evictionComplete t => decide (t < 402653184)
  | .ageTick => true
  | .contextPinClear c => decide (c < 256)
  | .cellarSparesExhausted => true
  | .contextActivate c => decide (c < 256)
  | .contextKill c => decide (c < 256)
  | .contextFree c => decide (c < 256)
  | .walkComplete d c page => decide (d < 4) && decide (c < 256) && decide (page < 2 ^ 52)
  | .faultBufferDrain s => decide (s < 4)
  | .faultRingEnable s => decide (s < 4)
  | .resume s _ => decide (s < 4)
  | .cancel s _ => decide (s < 4)
  | .sfenceVma _ => true
  | .sinvalVma _ => true
  | .hatchEnable h => decide (h < 16)
  | .hatchDisable h => decide (h < 16)
  | .hatchReset h => decide (h < 16)
  | .hatchResume h => decide (h < 16)
  | .hatchDoorbell h _ => decide (h < 16)
  | .hatchNop h => decide (h < 16)
  | .hatchCopy h => decide (h < 16)
  | .hatchReduce h => decide (h < 16)
  | .hatchCompletion h => decide (h < 16)
  | .lockRead m _ => decide (m < 64)
  | .lockWrite m _ => decide (m < 64)
  | .go m _ => decide (m < 64)
  | .take m => decide (m < 64)
  | .brk m _ => decide (m < 64)
  | .domainWakeDone dom => decide (dom < 40)
  | .pcieInboundRead pa _ _ => decide (pa < 2 ^ 56)
  | .pcieInboundWrite pa _ _ _ => decide (pa < 2 ^ 56)
  | .pcieError _ => true
  | .portModeWrite p _ => decide (p < 3)
  | .autoModeSwitch p => decide (p < 3)
  | .portUp p => decide (p < 3)
  | .laneLockLoss p => decide (p < 3)
  | .writePacket p k => decide (p < 3) && k.wf
  | .readPacket p k => decide (p < 3) && k.wf
  | .readResponse p k => decide (p < 3) && k.wf
  | .writeReducePacket p k => decide (p < 3) && k.wf
  | .signalPacket p k => decide (p < 3) && k.wf
  | .atomicPacket p k => decide (p < 3) && k.wf
  | .atomicResponse p k => decide (p < 3) && k.wf
  | .managementPacket p k => decide (p < 3) && k.wf
  | .ackPacket p k _ => decide (p < 3) && k.wf
  | .nakPacket p k => decide (p < 3) && k.wf
  | .hello p k => decide (p < 3) && k.pkt.wf
  | .remoteOpIssue m => decide (m < 4096)
  | .ackSend m => decide (m < 4096)
  | .retransmitTimeout m _ => decide (m < 4096)
  | .pairProgressTimeout m => decide (m < 4096)
  | .windowRestore m => decide (m < 4096)
  | .pairReestablish m => decide (m < 4096)
  | .pairOpen m _ _ _ _ => decide (m < 4096)
  | .pairAccept m _ _ _ => decide (m < 4096)
  | .atomicGo k => decide (k < 64)
  | .hostRemoteLoad core pa size => decide (core < 96) && decide (pa < 2 ^ 56) && sizeOk size
  | .hostRemoteStore core pa size _ => decide (core < 96) && decide (pa < 2 ^ 56) && sizeOk size
  | .lldpTransmit p => decide (p < 3)
  | .lldpReceive p _ => decide (p < 3)
  | .helloTransmit => true
  | .assign _ _ _ _ _ => true
  | .member _ _ _ _ => true
  | .ptpMessage m _ => decide (m.port < 3)
  | .thermostatPeriod _ => true
  | .thermostatUndo _ => true
  | .thermostatMiss => true
  | .droopDetect w _ => decide (w < 32)
  | .droopEnd w => decide (w < 32)
  | .stepBoundary _ => true
  | .stepSyncPulse _ _ => true
  | .stepLengthWrite _ => true
  | .hcoreFreqRequest c _ => decide (c < 4)
  | .hcoreGrantApply c => decide (c < 4)
  | .freqSet _ _ _ _ => true
  | .laggard _ _ _ _ _ => true
  | .laggardClear _ _ _ => true
  | .freqLate _ _ _ => true
  | .dieTempSample d _ => decide (d < 5)
  | .dieCriticalTimeout d => decide (d < 5)
  | .hearthTick _ _ => true
  | .hearthRamp => true
  | .hearthTimeout => true
  | .hearthDisable => true
  | .wingIdleTimeout w => decide (w < 32)
  | .wingWake w => decide (w < 32)
  | .wingWakeDone w => decide (w < 32)
  | .wakeAssert => true
  | .ledgerRecordWrite => true
  | .slotFree _ => true
  | .read _ => true
  | .write _ => true
  | .readSeg _ => true
  | .writeSeg _ => true
  | .event _ _ => true
  | .heartbeat _ _ _ _ => true
  | .heartbeatTransmit => true
  | .nodeLostTimeout _ => true
  | .managerLostTimeout => true
  | .plcaBeaconTimeout => true
  | .requestRetry _ => true
  | .relayRetry _ => true
  | .replyLockRetry => true
  | .stage s _ => decide (s < 4)
  | .epochAck s unit => decide (s < 4) && decide (unit < 288)
  | .commit s _ => decide (s < 4)
  | .epochCancel s _ => decide (s < 4)
  | .spdmRequest _ _ _ => true
  | .sessionOpen _ _ _ _ => true
  | .sessionFinish _ _ => true
  | .sessionClose _ => true
  | .sessionTimeout _ => true
  | .breakerReport b _ => decide (b < 5)
  | .bstatClear b _ => decide (b < 5)
  | .bdropRead b => decide (b < 5)
  | .injctlWrite b k _ => decide (b < 5) && decide (k < 8)
  | .c4RecordClear => true
  | .testStateRequest _ _ => true
  | .tapBypass => true
  | .tapIdcode => true
  | .tapSample => true
  | .tapExtest => true
  | .tapClamp => true
  | .tapHighz => true
  | .tapDiesel _ => true
  | .tapWsp => true
  | .tapDwr => true
  | .interconnectTestGo => true
  | .interconnectTestDone _ => true
  | .powerOff => true
  | .prechargeStop => true
  | .wakeDeassert => true
  | .tapReset => true
  | .response _ _ _ _ => true
  | .plcaBeaconReceive => true
  | .ringHallUp n => ringHall n

end Sys2Proof
end

