-- ==== Sys2Proof/Machine/Kill.lean ====
section
/-! DEFINITION. What ends work: the kill of a context (R160, R269), the resets of Table 15.7, link loss
(R303, R304), loss of the rails (R391, R443), and the class actions of the Breaker (R415, R422). -/

namespace Sys2Proof.Machine

/-! ### Context kill -/

/-- The queue whose QCTL register lies at `pa`. -/
def queueOfCtl (pa : Nat) : Option (Nat × Nat) :=
  let y := pa % 0x01000000
  if pa < 0x40000000 ∧ pa % 0x10000000 < 0x08000000 ∧ 0x810000 ≤ y ∧ y < 0x812000 ∧ y % 0x40 = 0x28 then
    some (pa / 0x10000000 * 8 + pa % 0x10000000 / 0x01000000, (y - 0x810000) / 0x40)
  else none

/-- The enabled work queues, as (wing, queue). -/
def State.enabledQueues (s : State) : List (Nat × Nat) :=
  s.regs.filterMap fun e => if bitOf e.2.toNat 0 then queueOfCtl e.1 else none

/-- The enabled queues of a context. -/
def State.queuesOf (s : State) (c : Nat) : List (Nat × Nat) := s.enabledQueues.filter fun x => s.qctx x.1 x.2 = c

/-- The commands in flight of a context, as (wing, id). -/
def State.cmdsOf (s : State) (c : Nat) : List (Nat × Nat) :=
  s.wings.flatMap fun e => (e.2.cmds.filter fun k => k.ctx = c).map fun k => (e.1, k.id)

/-- A queue disabled: its ENABLE bit is 0. -/
def State.disableQueue (s : State) (x : Nat × Nat) : State := s.setQf x.1 x.2 0x28 0 0 0

/-- Everything that translation holds of a context goes: TLB and walk-cache entries, walks, pending faults. -/
def State.forgetCtx (s : State) (c : Nat) : State :=
  let s := s.dropTlbs (fun _ => true) (fun e => e.ctx = c)
  let ds := s.dies.map fun d => (d.1, { d.2 with walks := d.2.walks.filter (fun k => k.ctx ≠ c), walkc := d.2.walkc.filter (fun k => k.1 ≠ c) })
  { s with dies := ds, faults := s.faults.filter (fun f => f.ctx ≠ c), unfiled := s.unfiled.filter fun u => u.1.ctx ≠ c }

/-- An ACTIVE context is killed (R160, R269): its commands that have not committed end with `st`, its queues
are disabled, its faults and translations go, the Shelves of rooms that ran its commands are invalidated
(Table 6.1), and the port rows of its DRAINs are discarded (R121). -/
def State.killContext (s : State) (c : Nat) (st : BitVec 5) : State :=
  if s.ctxState c ≠ 1 then s
  else
    let s := (s.setCtxState c 2).owePins c
    let ran := s.rooms.filter fun r => r.2.ranCtx.contains c ||
      [0, 1, 2].any fun e => (r.2.eq e).any fun id => (s.cmd (r.1 / 8) id).any fun k => decide (k.ctx = c)
    let s := each (s.cmdsOf c) (fun x s => s.stopCmd x.1 x.2 st) s
    let s := each (s.queuesOf c) (fun x s => s.disableQueue x) s
    let s := s.forgetCtx c
    let s := each ran (fun r s => s.shelfClear r.1) s
    { s with rooms := s.rooms.map fun r =>
        if r.2.port.any fun p => p.ctx = c then (r.1, { r.2 with port := r.2.port.filter fun p => p.ctx ≠ c }) else r }

/-- A context FREE: its record is gone. -/
def State.freeContext (s : State) (c : Nat) : State :=
  let s := (s.setCtxState c 0).owePins c
  { s with ctxs := tdel s.ctxs c }

/-! ### Parts of a die reset -/

/-- The hallways that end on compute die `d` (Table 1.2). -/
def hallsOf (d : Nat) : List Nat :=
  d :: (if d = 0 then [4, 7] else if d = 1 then [4, 5] else if d = 2 then [6, 7] else [5, 6])
/-- The compute dies at the ends of a hallway. -/
def hallEnds (n : Nat) : List Nat :=
  if n < 4 then [n] else if n = 4 then [0, 1] else if n = 5 then [1, 3] else if n = 6 then [3, 2] else [2, 0]
/-- Whether a ring hallway has stayed down (R15): DOWN with a time of loss, which a hallway that has not yet trained
since power-up lacks. -/
def State.ringFailed (s : State) (n : Nat) : Bool :=
  decide (4 ≤ n) && decide (s.hall n = 0) && decide (s.ent (0x5200 + n) 4 ≠ 0)
/-- The suites that a level source of class C3 still acts on: those that a layout change created since its last action
(R416). Sources are keyed by the ring hallway, and by 8 and the die for DIE_CRITICAL. -/
def State.levelSuites (s : State) (key : Nat) (suites : List Nat) : List Nat :=
  if tget 0 s.mgmt.acted key = s.mgmt.layouts + 1 then [] else suites
/-- A level source's action has been asked for. -/
def State.levelActed (s : State) (key : Nat) : State :=
  { s with mgmt := { s.mgmt with acted := tput 0 key (s.mgmt.layouts + 1) s.mgmt.acted } }
/-- A level source's condition has ended. -/
def State.levelEnds (s : State) (key : Nat) : State :=
  { s with mgmt := { s.mgmt with acted := tdel s.mgmt.acted key } }
/-- The hallways of a die are fenced; one that has stayed down is DOWN still. -/
def State.fenceHalls (s : State) (d : Nat) : State :=
  each (hallsOf d) (fun n s => if s.ringFailed n then s else s.setHall n 3) s

/-- Whether a line is homed in the stacks of die `d`. -/
def lineOnDie (d line : Nat) : Bool :=
  match regionOf (line * 64) with
  | .stack j => decide (j / 3 = d)
  | _ => false

/-- Whether an address lies in the stacks of die `d`. -/
def paOnDie (d pa : Nat) : Bool := lineOnDie d (pa / 64)

/-- Whether a FLAT segment maps a page of the stacks for which `p` holds. -/
def Segment.maps (g : Segment) (p : Nat → Bool) : Bool :=
  !g.paged && (List.range 12).any fun j => p j &&
    decide (g.pbase * 4096 < (j + 2) * 2 ^ 36) && decide ((j + 1) * 2 ^ 36 < (g.pbase + (g.last - g.vbase) + 1) * 4096)

/-- The contexts that a reset of die `d` implicates (R407): a queue on the die, a FLAT segment mapping its
stacks, or their ROOT in them. -/
def State.implicated (s : State) (d : Nat) : List Nat :=
  (List.range 256).filter fun c =>
    s.ctxState c = 1 &&
    ((s.queuesOf c).any (fun x => x.1 / 8 = d) || (s.cmdsOf c).any (fun x => x.1 / 8 = d) ||
     (s.ctxRec c).segs.any (fun g => g.maps fun j => j / 3 = d) ||
     ((s.ctxRec c).ptmode = 10 && paOnDie d (s.ctxRec c).root))

/-- A line of four poisoned words. -/
def poisonLine : LineData := ⟨0, 0xF#4⟩

/-- What a requester gets from a home that is lost: poison. -/
def lostAnswer (line : Nat) : HomeReq → List Msg
  | .rds a => [.gnts a line poisonLine]
  | .rdx a => [.gntm a line poisonLine]
  | .upg a => [.gntm a line poisonLine]
  | .wro a => [.gnto a line]
  | .rdo src => [.data src line poisonLine]
  | .wrf src _ _ => [.cmp src line]
  | .wrp src _ _ => [.cmp src line]
  | .red src _ _ _ _ => [.cmp src line]
  | .inval _ => []

/-- What waits for the stacks of die `d` comes to its end when the die is lost (R303, R407): loads fault on poison,
reads return it, writes are dropped. Operations of other modules stay in their sequence (R315). -/
def State.dropLater (s : State) (d : Nat) : State :=
  let mine := fun (x : Later) => match x with
    | .req line _ => lineOnDie d line
    | .msi _ pa _ => paOnDie d pa
    | .load _ _ pa _ => paOnDie d pa
    | .store _ _ pa _ _ => paOnDie d pa
    | .pcieRead pa _ _ => paOnDie d pa
    | .pcieWrite pa _ _ _ => paOnDie d pa
    | .write _ pa _ _ => decide (pa < 0x40000000) && decide (pa / 0x10000000 = d)
    | .remote _ => false
    | .fence => false
  let l := s.later.filter mine
  each l (fun x s => match x with
    | .req line r => { s with net := s.net ++ lostAnswer line r }
    | .load c _ pa _ =>
      (s.capture 4 (accReport 0x17 (agentNo 4 0x10 c) 0 pa none)).answer c .accessFault
    | .store c k _ _ _ => s.answer c (if k = .store then .none else .accessFault)
    | .pcieRead _ len _ => s.emit (.pcieData (List.replicate len 0#8) true)
    | _ => s) { s with later := s.later.filter fun x => !mine x }

/-- The requests at the homes of die `d` are answered with poison, and nothing stays in flight to or from
it. -/
def State.dropHomes (s : State) (d : Nat) : State :=
  let a1 := (s.txns.filter fun e => lineOnDie d e.1).flatMap fun e => lostAnswer e.1 e.2.req
  let a2 := (s.lineQ.filter fun e => lineOnDie d e.1).flatMap fun e => lostAnswer e.1 e.2
  let s := s.dropLater d
  { s with
    txns := s.txns.filter fun e => !lineOnDie d e.1
    lineQ := s.lineQ.filter fun e => !lineOnDie d e.1
    net := s.net ++ a1 ++ a2
    dirs := s.dirs.filter fun e => !lineOnDie d (e.1) }

/-- The wing caches of die `d` leave every directory; a line that one of them owned and whose data is lost is
written poisoned (R407, R303). -/
def State.purgeAgents (s : State) (d : Nat) : State :=
  let mine := fun a => decide (a / 8 = d) && decide (a < 32)
  let s := s.loseAgents d
  each s.dirs (fun e s =>
    match e.2.st with
    | .owned o => if mine o then (s.writeLine e.1 ⟨(s.peek e.1).bits, 0xF⟩).dirDrop e.1 else s
    | .shared v =>
      if (sharers v).any mine then s.dirPut e.1 (.shared (vecOf ((sharers v).filter fun a => !mine a))) else s) s

/-- Every agent outside die `d` drops its copies of lines homed in the die's stacks, without write-back. -/
def State.dropCopies (s : State) (d : Nat) : State :=
  let cs := s.caches.map fun c => (c.1, { c.2 with lines := c.2.lines.filter (fun l => !lineOnDie d l.1), landing := c.2.landing.filter (fun l => !lineOnDie d l.line) })
  let rl := (s.rlines.map fun e => (e.1, e.2.filter fun r => !lineOnDie d r.line)).filter fun e => decide (e.2 ≠ [])
  { s with caches := cs, rlines := rl, resv := s.resv.filter fun e => !paOnDie d e.2 }

/-- Whether bytes `a` to `a + n − 1` touch the stacks of die `d`. -/
def runOnDie (d a n : Nat) : Bool :=
  decide (a < (3 * d + 4) * 2 ^ 36) && decide ((3 * d + 1) * 2 ^ 36 < a + n)

/-- Whether a descriptor's source or destination touches the stacks of die `d`. -/
def HatchRun.uses (r : HatchRun) (d : Nat) : Bool :=
  let n := fld (lget 0#64 r.words 0).toNat 63 32
  runOnDie d (lget 0#64 r.words 1).toNat n || runOnDie d (lget 0#64 r.words 2).toNat n

/-- A Hatch descriptor that uses the stacks of die `d` ends LINK_LOST (R305). -/
def State.loseHatches (s : State) (d : Nat) : State :=
  each s.hatches (fun h s =>
    let hit := fun (r : HatchRun) => !r.done && r.uses d
    if h.2.any hit then
      let s := s.setHatch h.1 (h.2.map fun r => if hit r then { r with done := true, status := 4#4 } else r)
      s.setRegF (paHatch h.1 0x28) 33 33 1
    else s) s

/-- SCSTAT of stack `j` shows its temperature, its band, and whether its dies are in self-refresh or being scrubbed
(R224). -/
def State.showStack (s : State) (j : Nat) : State :=
  let b := s.ent 0x3010 (j + 1)
  let s := s.setRegF (paStack j 0) 23 16 (s.ent 0x3011 (j + 1))
  let s := s.setRegF (paStack j 0) 4 4 (b2n (s.stack j).scrubbing)
  let s := s.setRegF (paStack j 0) 3 3 (b2n (b = 3))
  s.setRegF (paStack j 0) 1 0 b

/-- The zero-scrub of stack `j` ends: its contents are zero and defined, and its registers say so (R219, R435). -/
def State.scrubStack (s : State) (j : Nat) : State :=
  let s := s.zeroStack j
  let s := s.setStack j { s.stack j with undefined := false, scrubbing := false }
  ((s.setEnt 0x3019 (j + 1) 0).setEnt 0x3016 (j + 1) 0).showStack j

/-- Every unit of die `d` is reset; the retained record buffer stays (Table 11.11), as do repairs, band times
and the power-skip duty. -/
def State.clearDie (s : State) (d : Nat) (forced : Bool) : State :=
  let v := s.die d
  let s := { s with
    rooms := s.rooms.filter fun e => decide (e.1 / 64 ≠ d)
    wings := s.wings.filter fun e => decide (e.1 / 8 ≠ d)
    caches := s.caches.filter fun e => decide (32 ≤ e.1) || decide (e.1 / 8 ≠ d)
    rlines := s.rlines.filter fun e => decide (32 + d ≠ e.1) && (decide (32 ≤ e.1) || decide (e.1 / 8 ≠ d))
    modes := s.modes.filter fun e => decide ((if e.1 < 32 then e.1 / 8 else (e.1 - 32) / 64) ≠ d)
    regs := s.regs.filter fun e => decide (0x40000000 ≤ e.1) || decide (e.1 / 0x10000000 ≠ d)
    backlog := tdel s.backlog d }
  let s := s.setDie d { Die.reset with forced := v.forced || forced, lossAt := v.lossAt, beatAt := v.beatAt, retained := v.retained, skip := v.skip, coolAt := v.coolAt, mildAt := v.mildAt, critAt := v.critAt, stopped := v.stopped }
  let s := each [0, 1, 2] (fun i s =>
    let j := 3 * d + i
    let k := s.stack j
    let s := s.setStack j { Stack.reset with coolAt := k.coolAt, mildAt := k.mildAt, critAt := k.critAt, repairs := k.repairs, undefined := k.undefined }
    ((s.setEnt 0x3016 (j + 1) 0).setEnt 0x3017 (j + 1) 0).showStack j) s
  let s := each [0, 1, 2, 3, 4, 5, 6, 7] (fun w s => s.setEnt (0x5230 + d) (w + 1) 0) s
  let s := s.setEnt 0x1100 (0x12 + 0x10 * d) 1
  -- its units are not counted any more (R385)
  let i := s.suiteOfDie d
  let p := s.epoch i
  (s.setEpoch i { p with acked := p.acked.filter fun u => unitDie u ≠ d }).recountEpoch i

/-- The hallway end that a report of a lost die names (R420). -/
def hallEnd (d : Nat) : BitVec 16 := agentNo 4 0x0C d

/-- A command that has committed and has no status yet completes normally (Table 5.12). -/
def Cmd.finished (c : Cmd) : Cmd :=
  if c.status.isNone then { c with status := some stOK, prog := c.pos + 1 } else c

/-- The commands of die `d` end CONTEXT_KILLED unless they have committed, and none waits for another command or for
another module any more: every one of them gets its record (R304, R407). -/
def State.killDieCmds (s : State) (d : Nat) : State :=
  each (s.wings.filter fun e => e.1 / 8 = d) (fun e s =>
    let s := each e.2.cmds (fun c s => s.stopCmd e.1 c.id stKILLED) s
    let v := s.wing e.1
    s.setWing e.1 { v with cmds := v.cmds.map fun c => { c.finished with awaiting := [], remote := 0 } }) s

/-- A record goes to memory, or nowhere when its ring's home is lost. -/
def State.recordOrDrop (w : Nat) (c : Cmd) (st : BitVec 5) (s : State) : State :=
  if s.reachable (s.cslot w c.queue) then s.writeRecord w c st else (s.nextSlot w c.queue).leaveFlight w c st

/-- A forced reset of compute die `d` (R407, R408). -/
def State.forcedReset (s : State) (d : Nat) : State :=
  if s.dieState d = 1 ∨ s.dieState d = 2 then s.setDie d { s.die d with forced := true }
  else
    let l := s.implicated d
    let s := s.setEnt 0x1100 (0x12 + 0x10 * d) 2
    let s := (s.fenceHalls d).capture 4 { plainReport 0x2A (hallEnd d) with contexts := l }
    let s := each l (fun c s => s.killContext c stKILLED) s
    let s := s.killDieCmds d
    let s := each (s.wings.filter fun e => e.1 / 8 = d)
      (fun e s => s.flushRecords e.1 (State.recordOrDrop e.1) e.2.cmds.length) s
    let s := (s.dropHomes d).purgeAgents d
    let s := s.dropCopies d
    let s := s.loseHatches d
    let s := s.loseDieFrames d true
    s.clearDie d true

/-! ### Link loss (R303, R304) -/

/-- A record of a die that has lost its link: written where its home is the die's own stacks or a running
die's, else retained (R304, R306). -/
def State.recordOrRetain (d cause w : Nat) (c : Cmd) (st : BitVec 5) (s : State) : State :=
  let pa := s.cslot w c.queue
  let near := match regionOf pa with
    | .stack j => decide (j / 3 = d) || s.dieUp (j / 3)
    | _ => false
  if near then s.writeRecord w { c with words := c.words.set 0 (lget 0#64 c.words 0 &&& ~~~(0x100#64)) } st
  else
    let e := s.recordEnergy c
    let s := e.2
    let rec_ := recordWords c st (s.phaseOf w c.queue) e.1 s.house
    let v := s.die d
    let e := lastWords w c.queue c.ctx rec_ pa s.house cause
    let s := if v.retained.length < 4224 then s.setDie d { v with retained := v.retained ++ [e] } else s
    (s.nextSlot w c.queue).leaveFlight w c st

/-- Whether a die that lost its link can still write a line: its own stacks, or a running die's. -/
def State.nearLine (s : State) (d line : Nat) : Bool :=
  match regionOf (line * 64) with
  | .stack j => decide (j / 3 = d) || s.dieUp (j / 3)
  | _ => false

/-- The lines that a die which lost its link holds modified and can write nowhere (Table 11.11). -/
def State.lostLines (s : State) (d : Nat) : List Nat :=
  ((s.caches.filter fun c => decide (c.1 < 32) && decide (c.1 / 8 = d)).flatMap fun c =>
    ((c.2.lines.filter fun l => decide (l.2.st = .m)).map fun l => l.1) ++ c.2.landing.map fun l => l.line).filter
      (fun l => !s.nearLine d l) ++
  ((s.rlines.filter fun e => decide (e.1 = 32 + d) || (decide (e.1 < 32) && decide (e.1 / 8 = d))).flatMap fun e =>
    e.2.map fun r => r.line).filter fun l => !s.nearLine d l

/-- How a command ends at link loss when some of its writes are not performed at their homes, because their lines are lost
or another module has not acknowledged them: CONTEXT_KILLED, with P the leading tiles whose every write was performed,
and all that it wrote beyond them in the dirty extent (R304). -/
def Cmd.unperformed (c : Cmd) (lost : List Nat) : Cmd :=
  let gone := c.wrote.filter fun x => lost.contains x.1
  if gone = [] ∧ c.remote = 0 then c
  else
    let p := gone.foldl (fun m x => min m x.2.1) c.prog
    let more := (c.wrote.filter fun x => decide (p ≤ x.2.1)).map fun x => (x.2.2, x.2.2 + 64)
    let all := more ++ match c.dirty with | some e => if e.larder then [] else [(e.lo, e.hi)] | none => []
    let dirty := match all with
      | [] => c.dirty
      | x :: t => some ⟨false, t.foldl (fun m y => min m y.1) x.1, t.foldl (fun m y => max m y.2) x.2⟩
    { c with status := some stKILLED, prog := p, dirty := dirty }

/-- The commands of die `d`, which has lost its link, that did not perform all their writes end CONTEXT_KILLED. -/
def State.loseWrites (s : State) (d : Nat) : State :=
  let lost := s.lostLines d
  each (s.wings.filter fun e => e.1 / 8 = d) (fun e s =>
    let s := each e.2.cmds (fun c s => s.stopCmd e.1 c.id stKILLED) s
    let v := s.wing e.1
    s.setWing e.1 { v with cmds := v.cmds.map fun c => if c.busy then { c with status := some stKILLED } else c.unperformed lost }) s

/-- The die's caches, Landings, reduce lines and merge buffers write back what they can reach. -/
def State.saveNear (s : State) (d : Nat) : State :=
  let s := each (s.caches.filter fun c => decide (c.1 < 32) && decide (c.1 / 8 = d)) (fun c s =>
    let s := each c.2.lines (fun l s =>
      if l.2.st = .m && s.nearLine d l.1 then
        let r := s.readArrays c.1 (agentWho c.1) l.1 l.2.l
        (r.2.writeLine l.1 r.1.1).dirDrop l.1 else s) s
    each c.2.landing (fun l s => if s.nearLine d l.line then (s.writeLine l.line l.l).dirDrop l.line else s) s) s
  let s := each (s.rlines.filter fun e => decide (e.1 = 32 + d) || (decide (e.1 < 32) && decide (e.1 / 8 = d)))
    (fun e s => each e.2 (fun r s => if s.nearLine d r.line then s.writeLine r.line r.l else s) s) s
  each [0, 1, 2] (fun i s => s.flushMerge ((3 * d + i + 1) * 2 ^ 36) (2 ^ 36)) s

/-- Compute die `d` declares link loss for a cause of Table 11.12 and resets itself (Table 11.11); the host die
treats it as a reset of the die (R303). -/
def State.linkLoss (s : State) (d cause : Nat) : State :=
  if s.dieState d = 1 ∨ s.dieState d = 2 then s
  else
    let l := s.implicated d
    let s := s.incEnt 0x5301 (d + 1) 1
    let s := s.setEnt 0x5300 3 s.house
    let s := each l (fun c s => s.killContext c stKILLED) s
    let s := (s.loseWrites d).killDieCmds d
    let s := each (s.wings.filter fun e => e.1 / 8 = d)
      (fun e s => s.flushRecords e.1 (State.recordOrRetain d cause e.1) e.2.cmds.length) s
    let s := s.saveNear d
    let s := s.setEnt 0x1100 (0x12 + 0x10 * d) 2
    let s := (s.fenceHalls d).setHall d 0
    let s := s.capture 4 { plainReport 0x2A (hallEnd d) with contexts := l }
    let s := (s.dropHomes d).purgeAgents d
    let s := s.dropCopies d
    let s := s.loseHatches d
    let s := s.loseDieFrames d false
    let s := each [0, 1, 2] (fun i s => s.setEnt 0x3019 (3 * d + i + 1) 1) s
    let s := (s.clearDie d false).setEnt 0x1100 (0x12 + 0x10 * d) 2
    s.setDie d { s.die d with lossAt := some s.house }

/-! ### Suite reset -/

/-- The contexts of suite `i` that exist. -/
def State.suiteCtxs (s : State) (i : Nat) : List Nat := s.liveCtxs.filter fun c => (s.ctxRec c).suite = i

/-- A suite's mode epoch machinery at its power-up values (R21, R385). -/
def State.resetEpoch (s : State) (i : Nat) : State :=
  let s := { s with epochs := tdel s.epochs i }
  each [1, 2, 3, 7, 8, 9, 10, 11] (fun k s => s.setEnt (0x8030 + i) k (dictDefault (0x8030 + i) k)) s

/-- A reset of suite `i`: every die as a compute die reset, every context FREE (Table 15.7). -/
def State.suiteReset (s : State) (i : Nat) : State :=
  let s := each (s.suiteCtxs i) (fun c s => s.killContext c stKILLED) s
  let s := each (suiteDies s.layout i) (fun d s => s.forcedReset d) s
  each (s.suiteCtxs i) (fun c s => s.freeContext c) s

/-! ### Loss of the module's state -/

/-- Dictionary entries that live in the Porch or in the Cellar (R4): the C4 record, the last-words log's counts, and
what the Cellar says of its blocks: READ_ONLY and the spares in use. -/
def persistent (k : Nat) : Bool :=
  let i := k / 256
  decide (i = 0x5020) || decide (i = 0x5300) || decide (k = dictKey 0x3130 1) || decide (k = dictKey 0x3130 7)

/-- The module with everything outside the Porch, the Cellar and the repairs at its value before power-up, and
boot status ROM; `keep` keeps the contents of the stacks and of host memory, and that PTP has locked since power-up. -/
def State.cold (s : State) (keep : Bool) : State :=
  let b := State.reset
  { b with
    pending := s.pending
    house := s.house
    free := s.free
    out := s.out
    porch := { s.porch with image := [], m1 := [], blocks := [], imageId := none, count := 0, boot := .rails, deedNo := none, pufLocked := false, released := false, hostHash := [], restarts := [], perst := true }
    od := s.od.filter fun e => persistent e.1
    mem := if keep then s.mem else []
    code := if keep then s.code else []
    dies := if keep then s.dies.map (fun d => (d.1, { Die.reset with retained := d.2.retained, lossAt := d.2.lossAt })) else []
    stk := (s.stk.map fun e => (e.1, { Stack.reset with undefined := keep && e.2.undefined, repairs := if keep then e.2.repairs else e.2.repairs.filter fun r => r.2.1 ≠ 3 }))
    tier := { Tier.reset with cellar := s.tier.cellar, ccode := s.tier.ccode, worn := s.tier.worn }
    mgmt := { Mgmt.reset with sculleryUp := false }
    ctl := { Control.reset s.house s.house (s.house + 1000000) with ptpLocked := keep && s.ctl.ptpLocked } }

/-- The dies are RESET and the hallways DOWN, as they are until they train. -/
def State.untrained (s : State) : State :=
  let s := each [0, 1, 2, 3] (fun d s => s.setEnt 0x1100 (0x12 + 0x10 * d) 1) s
  each [0, 1, 2, 3, 4, 5, 6, 7] (fun n s => s.setHall n 0) s

/-- A module reset (R406): reset notices, the compute dies' self-reset, the host die's reset, and power-up from
the ROM. -/
def State.moduleReset (s : State) : State :=
  let s := each [0, 1, 2, 3] (fun d s => (s.emit (.resetNotice d)).linkLoss d 2) s
  let s := (s.cold true).untrained
  let s := each (List.range 12) (fun j s => s.setEnt 0x3019 (j + 1) 1) s
  s.setEnt 0x1010 1 0

/-- Every rail but VPORCH is off: the contents of stacks and host memory are lost (R391, R443). -/
def State.railsOff (s : State) (p : Power) : State :=
  let s := (s.cold false).untrained
  { s with porch := { s.porch with power := p } }

/-- An alert is asserted. -/
def State.alert (s : State) (a : Alert) : State :=
  if s.porch.alerts.contains a then s else { s with porch := { s.porch with alerts := a :: s.porch.alerts } }

/-! ### Class actions (R415, R422) -/

/-- The C4 action (R422): the Porch record, ALERT#, and the module reset or the rail shutdown of R346. -/
def State.c4Action (s : State) (b : Nat) (r : Report) : State :=
  let s := if bitOf (s.ent 0x5020 1) 63 then s.incEnt 0x5020 6 1
    else
      let s := s.setEnt 0x5020 1 (capA r)
      let s := s.setEnt 0x5020 2 (capM r)
      let s := s.setEnt 0x5020 3 s.house
      s.setEnt 0x5020 4 b
  let s := s.alert .c4
  if r.src = 0x40#8 then (s.railsOff .standby).alert .trip else s.moduleReset

/-- The class action of a report (Table 16.1). -/
def State.classAction (s : State) (x : Nat × Report) : State :=
  match srcClass x.2.src.toNat with
  | 2 => each x.2.contexts (fun c s => s.killContext c (if x.2.src = 0x28#8 then stTHERMAL else stKILLED)) s
  | 3 => each x.2.suites (fun i s => s.suiteReset i) s
  | 4 => s.c4Action x.1 x.2
  | _ => s

/-- The class actions that a command's reports asked for are taken, and those that these cause. -/
def State.settleN : Nat → State → State
  | 0, s => { s with todo := [] }
  | n + 1, s => if s.todo = [] then s else (s.todo.foldl State.classAction { s with todo := [] }).settleN n

/-- The class actions are taken. -/
def State.settle (s : State) : State := State.settleN 4 s

/-- A command's answer: its effect where the module has the units that the command names (`ok`, the arm of
`Instr.wf` of the command), with the class actions taken; the queue of commands is no part of any effect. -/
def act (ok : Bool) (f : State → State) (s : State) : Host.Outcome State Fault Refusal :=
  if ok then .next { (f s).settle with pending := s.pending } else .fault .noSuchUnit

end Sys2Proof.Machine
end

