-- ==== Sys2Proof/Machine/Latch.lean ====
section
/-! DEFINITION. Latches (R147 to R149), waking a wing (R134, R353), and the checks of a command's fields that
need no translation (R137, R138, R148). -/

namespace Sys2Proof.Machine

/-- A sleeping wing starts to wake (R134, R353). -/
def State.wakeWing (s : State) (w : Nat) : State :=
  let v := s.wing w
  if v.power = .sleeping then s.setWing w { v with power := .waking } else s

/-! ### Latches -/

/-- The value of latch `l` of wing `w`. -/
def State.latch (s : State) (w l : Nat) : BitVec 32 := tget 0#32 (s.wing w).latches l

/-- Whether a latch value satisfies a LATCH_WAIT (R149). -/
def Cmd.satisfied (c : Cmd) (v : BitVec 32) : Bool :=
  if c.f 1 17 16 = 0 then decide ((v - BitVec.ofNat 32 (c.f 1 63 32)).toNat < 2 ^ 31)
  else decide (v = BitVec.ofNat 32 (c.f 1 63 32))

/-- Whether a command holds the later commands of its queue until its record is written: a LATCH_WAIT or FENCE
(R143, R149, R151), and under HALT one that ended before it reached an engine with a status that halts the queue
(R156). -/
def Cmd.blocks (c : Cmd) (halt : Bool) : Bool :=
  c.op == 0x30 || c.op == 0x38 || (halt && c.issueNo = 0 && c.status.any fun st => c.fails st)

/-- The commands of queue `q` of wing `w` in flight, oldest first. -/
def State.queueCmds (s : State) (w q : Nat) : List Cmd := (s.wing w).cmds.filter fun c => c.queue = q

/-- Whether a command has still to be issued, or to begin: it is only fetched and has no status. -/
def Cmd.unissued (c : Cmd) : Bool := c.st = .fetched && c.status.isNone && c.issueNo = 0

/-- The oldest unissued command of a queue, ABORTs aside; none behind one that holds it. -/
def oldestUnissued (halt : Bool) : List Cmd → Option Cmd
  | [] => none
  | c :: t =>
    if c.op ≠ 0x3F && c.unissued then some c
    else if c.blocks halt then none
    else oldestUnissued halt t

/-- The oldest unissued command of queue `q` of wing `w`. -/
def State.oldest (s : State) (w q : Nat) : Option Cmd :=
  oldestUnissued (s.qf w q 0x10 21 21 = 1) (s.queueCmds w q)

/-- A latch value reaches the waits that test it (R149): those that wait, and the oldest unissued commands of
their queues. A wait whose condition holds has passed its commit point (Table 5.11). -/
def State.showLatch (s : State) (w l : Nat) (v : BitVec 32) : State :=
  let x := s.wing w
  let hit := fun (c : Cmd) =>
    c.op == 0x30 && c.status.isNone && decide (c.f 1 11 0 = l) && c.satisfied v &&
    (decide (c.st = .waiting) || (!s.qhalted w c.queue && ((s.oldest w c.queue).map fun d => d.id) == some c.id)) &&
    !(x.seen.any fun e => e.1 = c.id)
  s.setWing w { x with
    cmds := x.cmds.map fun c => if hit c then { c with st := .committed } else c
    seen := (x.cmds.filter hit).map (fun c => (c.id, v)) ++ x.seen }

/-- Latch `l` of wing `w` takes a value. The value that it held until now has been seen by every wait that became the
oldest of its queue meanwhile. -/
def State.latchPut (s : State) (w l : Nat) (v : BitVec 32) : State :=
  if s.wingUp w then
    let s := s.showLatch w l (s.latch w l)
    let x := s.wing w
    ((s.setWing w { x with latches := tput 0#32 l v x.latches }).showLatch w l v).wakeWing w
  else s

/-- SET (R147). -/
def State.latchSet (s : State) (w l : Nat) (v : BitVec 32) : State := s.latchPut w l v
/-- ADD (R147). -/
def State.latchAdd (s : State) (w l : Nat) (v : BitVec 32) : State := s.latchPut w l (s.latch w l + v)

/-- Whether the owner register of a latch's block assigns it to a context (R148). -/
def State.latchOwned (s : State) (w l c : Nat) : Bool :=
  let o := s.regN (paOwner w (l / 64))
  bitOf o 8 && decide (fld o 7 0 = c)

/-! ### Parameters of the array commands (Tables 3.2, 3.4, 3.5) -/

/-- K of a pass by operand class (Table 3.1). -/
def kPass (cls : Nat) : Nat := if cls = 0 then 256 else if cls = 1 then 512 else 128
/-- Data columns by operand class (Table 3.1). -/
def colsOf (cls : Nat) : Nat := if cls = 2 then 32 else 64

/-- Whether a MATMUL's parameters fall outside Table 3.5, R47, R49 or R70. -/
def badMatmul (c : Cmd) : Bool :=
  let cls := fmtClass (c.f 5 32 29)
  let across := bitOf (c.wd 5) 33
  let mode := c.f 5 15 14
  cls = 3 || c.f 1 15 0 ≠ 0 || (across && cls = 2 && 128 < c.f 5 28 21 + 1) ||
  (bitOf (c.wd 5) 34 && !(across && cls = 2)) || (c.f 4 63 32 ≠ 0 && !(across && cls = 1)) ||
  mode = 3 || c.f 5 13 10 ≠ 0 || (mode ≠ 0 && c.f 5 9 0 ≠ 0) || (mode = 1 && cls = 2)

/-- Whether a LOAD_STATIONARY's parameters fall outside Table 3.2. -/
def badLoad (c : Cmd) : Bool :=
  let cls := fmtClass (c.f 5 4 1)
  let bs := c.f 4 31 0
  let ss := c.f 4 44 32
  cls = 3 || c.f 1 3 0 ≠ 0 || 65536 < bs || bs % 16 ≠ 0 || bs < (if fmtBits (c.f 5 4 1) = 6 then 192 else 256) ||
  (cls ≠ 2 && (4096 < ss || ss < kPass cls / 32)) || kPass cls < c.f 5 14 5 + 1 || colsOf cls < c.f 5 21 15 + 1

/-- Whether a DRAIN's parameters fall outside Table 3.4 and R71, as far as they do not depend on the bank. -/
def badDrain (c : Cmd) : Bool :=
  let t := c.f 4 33 30
  let mx := bitOf (c.wd 4) 34
  let n := c.f 4 17 10 + 1
  let vec := bitOf (c.wd 1) 62
  let bs := c.f 3 31 0
  let ss := c.f 3 44 32
  256 < c.f 4 9 2 + n || 64 < c.f 4 23 18 + (c.f 4 29 24 + 1) ||
  !(if mx then [0, 1, 4].contains t else [0, 1, 8, 9, 0xA, 0xC].contains t) ||
  (mx && (c.f 4 9 2 % 32 ≠ 0 || n % 32 ≠ 0 || 4096 < ss || ss < n / 32)) ||
  (if vec then decide (t ≠ 0xA) || mx
   else decide (c.f 1 3 0 ≠ 0) ||
     (t ≠ 0xC && (decide (65536 < bs) || decide (bs < 16) || decide (bs % 16 ≠ 0) || decide (bs < (n * fmtBits t / 8 + 15) / 16 * 16))))

/-! ### Checks at fetch (R137, R138, R141, R148) -/

/-- Whether an address word has a set reserved bit (R138). -/
def badWord (a : Nat) : Bool := fld a 62 57 ≠ 0 || (bitOf a 63 && fld a 56 21 ≠ 0)
/-- Whether any of the values at byte offsets 8 × `l` is not 0. -/
def Cmd.anySet (c : Cmd) (l : List Nat) : Bool := l.any fun i => c.wd i ≠ 0
/-- The feature level of a suite, the lowest of its dies (R411). -/
def State.levelOf (s : State) (i : Nat) : Nat :=
  (suiteDies s.layout i).foldl (fun m d => min m (s.ent 0x1100 (0x11 + 0x10 * d))) 255
/-- PKG_LEVEL: the lowest feature level of the compute dies (R411). -/
def State.pkgLevel (s : State) : Nat :=
  [1, 2, 3].foldl (fun m d => min m (s.ent 0x1100 (0x11 + 0x10 * d))) (s.ent 0x1100 0x11)

/-- Whether the body of a command has a set reserved bit or a field outside its range, as far as that shows
without translation (Table 5.5, R138, R141, R148). -/
def State.badBody (s : State) (w : Nat) (priv : Bool) (c : Cmd) : Bool :=
  match c.op with
  | 0x00 => c.anySet [1, 2, 3, 4, 5, 6, 7]
  | 0x01 => badWord (c.wd 1) || badWord (c.wd 2) || c.f 5 63 37 ≠ 0 || c.anySet [6, 7] || badMatmul c
  | 0x02 => badWord (c.wd 1) || badWord (c.wd 2) || c.f 4 63 45 ≠ 0 || c.f 5 63 23 ≠ 0 || c.anySet [6, 7] || badLoad c
  | 0x03 => (if bitOf (c.wd 1) 62 then decide (c.wd 1 ≠ 2 ^ 62) else badWord (c.wd 1)) || badWord (c.wd 2) ||
      c.f 3 63 45 ≠ 0 || c.f 4 63 36 ≠ 0 || c.anySet [5, 6, 7] || badDrain c
  | 0x10 => c.f 1 63 45 ≠ 0 || c.f 1 31 21 ≠ 0 || c.f 1 44 32 = 0 || 4096 < c.f 1 44 32 || c.f 1 2 0 ≠ 0
  | 0x20 => badWord (c.wd 1) || badWord (c.wd 2) || c.f 4 63 48 ≠ 0 || c.f 6 63 6 ≠ 0 || c.anySet [7] ||
      c.f 1 3 0 ≠ 0 || c.f 2 3 0 ≠ 0 || c.f 4 3 0 ≠ 0 || c.f 4 31 0 < 16 || c.f 5 3 0 ≠ 0 || c.f 5 35 32 ≠ 0 ||
      (c.f 4 47 32 ≠ 0 && (c.f 5 63 32 < c.f 4 31 0 || c.f 5 31 0 < c.f 4 31 0))
  | 0x21 => badWord (c.wd 1) || badWord (c.wd 2) || bitOf (c.wd 2) 63 || c.f 3 63 40 ≠ 0 || c.anySet [4, 5, 6, 7] ||
      c.f 1 3 0 ≠ 0 || c.f 2 3 0 ≠ 0 || c.f 3 31 0 < 16 || c.f 3 3 0 ≠ 0 || !cisOpOk (c.f 3 39 32)
  | 0x22 => badWord (c.wd 1) || bitOf (c.wd 1) 63 || c.f 1 15 0 ≠ 0 || c.f 2 63 32 ≠ 0 || c.wd 2 = 0 ||
      c.f 4 63 1 ≠ 0 || c.anySet [5, 6, 7]
  | 0x23 => badWord (c.wd 1) || bitOf (c.wd 1) 63 || c.f 1 15 0 ≠ 0 || c.f 2 63 32 ≠ 0 || c.wd 2 = 0 ||
      c.f 3 63 2 ≠ 0 || c.anySet [4, 5, 6, 7]
  | 0x30 => c.f 1 31 20 ≠ 0 || 2 ≤ c.f 1 17 16 || c.f 1 15 12 ≠ 0 || c.anySet [2, 3, 4, 5, 6, 7] ||
      !s.latchOwned w (c.f 1 11 0) c.ctx
  | 0x31 => c.f 2 63 24 ≠ 0 || c.anySet [3, 4, 5, 6, 7] ||
      (!bitOf (c.wd 1) 18 && !s.latchOwned (c.f 1 16 12) (c.f 1 11 0) c.ctx)
  | 0x38 => c.f 1 63 16 ≠ 0 || c.f 1 7 3 ≠ 0 || 6 ≤ c.f 1 2 0 || c.anySet [2, 3, 4, 5, 6, 7]
  | 0x3F => c.f 1 63 23 ≠ 0 || c.anySet [2, 3, 4, 5, 6, 7]
  | 0x40 => badWord (c.wd 1) || bitOf (c.wd 1) 63 || c.f 1 11 0 ≠ 0 || c.f 2 63 32 ≠ 0 || c.f 3 63 9 ≠ 0 ||
      (bitOf (c.wd 3) 8 && !priv) || c.anySet [4, 5, 6, 7]
  | _ => true

/-- Whether a command is refused at fetch (R137). -/
def State.refusedAtFetch (s : State) (w : Nat) (c : Cmd) : Bool :=
  !knownOp c.op || c.f 0 55 54 ≠ 0 || c.f 0 15 10 ≠ 0 || 6 ≤ c.scope ||
  s.badBody w (s.qf w c.queue 0x10 22 22 = 1) c ||
  (((c.op == 0x21 && c.f 3 39 32 = 0x93) || (c.op == 0x01 && bitOf (c.wd 5) 33 && fmtClass (c.f 5 32 29) = 1)) &&
   s.levelOf (s.suiteOfDie (w / 8)) < 2)

end Sys2Proof.Machine
end

