-- ==== Sys2Proof/Machine/QueueCmds.lean ====
section
/-! DEFINITION. Work queues: doorbells, enable, disable, reset and resume (R127 to R134, R156), fetch (R135, R142)
and issue (R139, R140, R143, R144). -/

namespace Sys2Proof.Machine

/-! ### Doorbells (R132 to R134) -/

/-- A doorbell write to register bits [`hi`:`lo`] of offset `o` of a queue with `n` ring entries: discarded
without an error while the queue is disabled, discarded with DBERR when it is no 8-byte write or out of the ring. -/
def State.doorbell (s : State) (w q size v n o hi lo : Nat) : State :=
  if s.wingUp w then
    let s := s.wakeWing w
    if !s.qon w q then s
    else if size ≠ 8 ∨ n ≤ v % 2 ^ 16 then s.setQf w q 0x30 50 50 1
    else s.setQf w q o hi lo (v % 2 ^ 16)
  else s

/-- A write of `size` bytes to WQDB of queue `q` of wing `w`. -/
def State.wqdb (s : State) (w q size v : Nat) : State := s.doorbell w q size v (s.wring w q) 0x38 47 32
/-- A write of `size` bytes to CQDB of queue `q` of wing `w`. -/
def State.cqdb (s : State) (w q size v : Nat) : State := s.doorbell w q size v (s.cring w q) 0x30 31 16
/-- A write elsewhere in a doorbell page. -/
def State.badDoorbell (s : State) (w q : Nat) : State :=
  if s.wingUp w then (if s.qon w q then s.setQf w q 0x30 50 50 1 else s) else s

/-- WQ_DOORBELL. -/
def execWqDoorbell (w q size : Nat) (v : BitVec 64) (s : State) : Host.Outcome State Fault Refusal :=
  act (decide (w < 32) && decide (q < 128) && sizeOk size) (fun s => s.wqdb w q size v.toNat) s
/-- CQ_DOORBELL. -/
def execCqDoorbell (w q size : Nat) (v : BitVec 64) (s : State) : Host.Outcome State Fault Refusal :=
  act (decide (w < 32) && decide (q < 128) && sizeOk size) (fun s => s.cqdb w q size v.toNat) s

/-! ### Queue control (R129 to R131, R156) -/

/-- Whether a ring of `n` bytes at `a` lies wholly within one stack range or within host memory (R127). -/
def State.ringPlace (s : State) (a n : Nat) : Bool :=
  match targetOf a, targetOf (a + n - 1) with
  | some x, some y => decide (x ≤ 12) && decide (y ≤ 12) && decide (s.targetRange a = s.targetRange (a + n - 1))
  | _, _ => false

/-- The conditions of an enable (R129). -/
def State.mayEnable (s : State) (w q : Nat) : Bool :=
  let wl := s.qf w q 0x10 4 0
  let cl := s.qf w q 0x10 9 5
  decide (6 ≤ wl) && decide (wl ≤ 16) && decide (6 ≤ cl) && decide (cl ≤ 16) &&
  s.ringPlace (s.qf w q 0x00 55 6 * 64) (64 * 2 ^ wl) && s.ringPlace (s.qf w q 0x08 55 6 * 64) (32 * 2 ^ cl) &&
  decide (s.ctxState (s.qctx w q) = 1) && decide ((s.ctxRec (s.qctx w q)).suite = s.suiteOfDie (w / 8))

/-- ENABLE written 1: accepted, or CFGERR (R129). -/
def State.enableQueue (s : State) (w q : Nat) : State :=
  if !s.wingUp w || s.qon w q then s
  else if s.mayEnable w q then s.setQf w q 0x28 0 0 1
  else s.setQf w q 0x30 52 52 1

/-- RESET written 1 (R131): the indices return to 0 and the halt ends; the completion ring's first pass
starts again. -/
def State.resetQueue (s : State) (w q : Nat) : State :=
  if !s.wingUp w || s.qon w q || decide (s.inflight w q ≠ 0) then s
  else
    let s := s.setQf w q 0x30 47 0 0
    let s := s.setQf w q 0x30 48 48 0
    let s := s.setQf w q 0x38 47 32 0
    let v := s.wing w
    s.setWing w { v with phase := v.phase.filter (fun x => x ≠ q), failed := v.failed.filter fun x => x.1 ≠ q }

/-- RESUME written 1 (R156). -/
def State.resumeQueue (s : State) (w q : Nat) : State := if s.wingUp w then s.setQf w q 0x30 48 48 0 else s

/-- QCFG.ORDER written (R130): staged while the queue is enabled, in force at once while it is disabled. -/
def State.orderQueue (s : State) (w q : Nat) (compat : Bool) : State :=
  if !s.wingUp w then s
  else
    let s := s.setQf w q 0x10 18 18 (b2n compat)
    if s.qon w q then s
    else
      let s := s.setQf w q 0x30 49 49 (b2n compat)
      let v := s.wing w
      let l := v.ordPrev.filter fun x => x ≠ q
      s.setWing w { v with ordPrev := if compat then q :: l else l }

/-- QUEUE_ENABLE. -/
def execQueueEnable (w q : Nat) (s : State) : Host.Outcome State Fault Refusal :=
  act (decide (w < 32) && decide (q < 128)) (fun s => s.enableQueue w q) s
/-- QUEUE_DISABLE. -/
def execQueueDisable (w q : Nat) (s : State) : Host.Outcome State Fault Refusal :=
  act (decide (w < 32) && decide (q < 128)) (fun s => if s.wingUp w then s.disableQueue (w, q) else s) s
/-- QUEUE_RESET. -/
def execQueueReset (w q : Nat) (s : State) : Host.Outcome State Fault Refusal :=
  act (decide (w < 32) && decide (q < 128)) (fun s => s.resetQueue w q) s
/-- QUEUE_RESUME. -/
def execQueueResume (w q : Nat) (s : State) : Host.Outcome State Fault Refusal :=
  act (decide (w < 32) && decide (q < 128)) (fun s => s.resumeQueue w q) s
/-- QUEUE_ORDER_WRITE. -/
def execQueueOrderWrite (w q : Nat) (compat : Bool) (s : State) : Host.Outcome State Fault Refusal :=
  act (decide (w < 32) && decide (q < 128)) (fun s => s.orderQueue w q compat) s

/-! ### Fetch (R135, R142) -/

/-- Entries of a queue that wait to be fetched (R133). -/
def State.pendingEntries (s : State) (w q : Nat) : Nat :=
  (s.qf w q 0x38 47 32 + s.wring w q - s.qf w q 0x30 15 0) % s.wring w q
/-- Records that the completion ring has room for beside those of the commands in flight (R135). -/
def State.recordRoom (s : State) (w q : Nat) : Nat :=
  s.cring w q - 1 -
    ((s.qf w q 0x30 47 32 + s.cring w q - s.qf w q 0x30 31 16) % s.cring w q + s.inflight w q)
/-- QLIMIT; 0 means 512, and no limit above 512 takes effect. -/
def State.qlimit (s : State) (w q : Nat) : Nat :=
  let n := s.qf w q 0x10 41 32
  if n = 0 ∨ 512 < n then 512 else n
/-- Commands of wing `w` that count against its 512, and those in further ABORT slots. -/
def State.wingLoad (s : State) (w : Nat) (ab : Bool) : Nat := ((s.wing w).cmds.filter fun c => c.abSlot = ab).length
/-- The address of work ring entry `i`. -/
def State.wslot (s : State) (w q i : Nat) : Nat := s.qf w q 0x00 55 6 * 64 + 64 * (i % s.wring w q)

/-- How many entries a fetch of queue `q` may take now, and whether the one entry goes into an ABORT slot. A halted queue
is skipped (R142), but one that runs under QCFG.HALT is still fetched up to its limits (R156). -/
def State.fetchable (s : State) (w q : Nat) : Option (Nat × Bool) :=
  let n := min (min 8 (s.pendingEntries w q)) (s.recordRoom w q)
  let m := min n (min (s.qlimit w q - ((s.queueCmds w q).filter fun c => !c.abSlot).length) (512 - s.wingLoad w false))
  let head := s.wslot w q (s.qf w q 0x30 15 0)
  if n = 0 ∨ s.accessHeld (w / 8) (head / 64) false ∨ (s.qhalted w q ∧ s.qf w q 0x10 21 21 = 0) then none
  else if m ≠ 0 then some (m, false)
  else if s.wingLoad w true < 16 ∧ fld (s.peek64 head) 7 0 = 0x3F then some (1, true)
  else none

/-- The queue that the dispatcher fetches from (R142): highest PRIO first, round-robin within it. -/
def State.fetchChoice (s : State) (w : Nat) : Option (Nat × Nat × Bool) :=
  let qs := ((s.enabledQueues.filter fun x => x.1 = w).filterMap fun x =>
    (s.fetchable w x.2).map fun f => (x.2, f))
  let top := qs.foldl (fun m x => max m (s.qf w x.1 0x10 20 19)) 0
  let best := qs.filter fun x => s.qf w x.1 0x10 20 19 = top
  let r := (s.wing w).rr
  let dist := fun (q : Nat) => (q + 128 - (r + 1) % 128) % 128
  best.foldl (fun (m : Option (Nat × Nat × Bool)) x =>
    match m with
    | none => some x
    | some o => if dist x.1 < dist o.1 then some x else some o) none

/-- A command as its ring entry spells it. -/
def newCmd (id q ctx : Nat) (ab : Bool) (words : List (BitVec 64)) : Cmd :=
  ⟨id, q, ctx, words, .fetched, none, 0, 0, 0, none, none, 0, 0, false, ab, [], false, 0, 0, [], 0, false, false, []⟩

/-- One ring entry fetched: read coherently past every Shelf, checked, and in flight. A poisoned entry gets
its record at once, and the queue halts. -/
def State.fetchOne (s : State) (w q : Nat) (ab : Bool) : State :=
  let head := s.qf w q 0x30 15 0
  let pa := s.wslot w q head
  let ctx := s.qctx w q
  let who : Who := ⟨dispatcherAgent w, 4, some ctx⟩
  let t := if s.hallCut (w / 8) (homeDie (pa / 64)) then (.lost pa, s)
    else s.target pa (w / 8) (s.suiteOfDie (w / 8)) ctx (cmdKey w 0) false true
  match t.1 with
  | .kill src => t.2.capture (w / 8) (accReport src (dispatcherAgent w) 4 pa (some ctx))
  | .wait => t.2
  | _ =>
    let x := match t.1 with
      | .mem _ => s.wingBytes w who pa 64
      | _ => ((List.replicate 64 0#8, true), s)
    let s := x.2.setQf w q 0x30 15 0 ((head + 1) % s.wring w q)
    let words := (List.range 8).map fun i => BitVec.ofNat 64 (ofBytes (slice x.1.1 (8 * i) 8))
    let v := s.wing w
    let c := newCmd v.nextId q ctx ab (if x.1.2 then [BitVec.ofNat 64 (0xFFFF * 2 ^ 32 + 0xFFFF * 2 ^ 16)] else words)
    let s := s.setWing w { v with cmds := v.cmds ++ [c], nextId := v.nextId + 1 }
    if x.1.2 then
      let s := s.setQf w q 0x30 51 51 1
      let halted := s.qhalted w q
      let s := if halted then s
        else (s.setQf w q 0x30 48 48 1).msi (w / 8) (s.qf w q 0x18 55 2 * 4) (s.regN (paQueue w q 0x20))
      State.recordOrDrop w { c with status := some stPOISON } stPOISON s
    else
      let s := s.syncInfl w q
      if s.refusedAtFetch w c then s.putCmd w { c with status := some stUNSUP } else s

/-- `n` entries fetched one after another, while the queue stays enabled. -/
def State.fetchN (s : State) (w q : Nat) (ab : Bool) : Nat → State
  | 0 => s
  | n + 1 => if s.qon w q then (s.fetchOne w q ab).fetchN w q ab n else s

/-- A fetch of wing `w` returns. -/
def State.fetch (s : State) (w : Nat) : State :=
  if !s.wingUp w || decide ((s.wing w).power ≠ .running) then s
  else match s.fetchChoice w with
    | none => s
    | some (q, n, ab) =>
      let v := s.wing w
      (s.setWing w { v with rr := q }).fetchN w q ab n

/-- COMMAND_FETCH. -/
def execCommandFetch (w : Nat) (s : State) : Host.Outcome State Fault Refusal :=
  act (decide (w < 32)) (fun s => s.fetch w) s

/-! ### Issue (R139, R140, R143, R144) -/

/-- How a command's EPOCH stands to an applied epoch `a`: 0 it may issue, 1 it is held, 2 it is refused. -/
def epochStands (a e : Nat) : Nat :=
  let behind := (a + 256 - e % 256) % 256
  if behind ≤ 1 then 0 else if 129 ≤ behind then 1 else 2

/-- The room's storage of the Hearth gives way to real work (R351). -/
def State.stopHearth (s : State) (g : Nat) : State :=
  let r := s.room g
  if r.hearth then s.setRoom g { r with hearth := false } else s

/-- The oldest unissued command of queue `q` is issued to its engine, held, or refused (R139, R140, R143, R144). -/
def State.issue (s : State) (w q : Nat) : State :=
  if !s.wingUp w || decide ((s.wing w).power ≠ .running) || s.qhalted w q then s
  else match s.oldest w q with
    | none => s
    | some c =>
      match engineOf c.op with
      | none => s
      | some e =>
        let g := c.room w
        let a := s.wingEpoch w
        let k := max (epochStands a c.epoch) (epochStands (s.roomEpoch g) c.epoch)
        let r := s.room g
        if k = 2 then s.endCmd w c.id stUNSUP
        else if k = 1 then
          let v := s.wing w
          if v.held.contains c.id then s
          else (s.setWing w { v with held := c.id :: v.held }).incEnt 0x8020 (w + 1) 1
        else if r.testing ∨ 32 ≤ (r.eq e).length then s
        else
          let now := decide (a = c.epoch)
          let ord := if now then decide (s.qf w q 0x30 49 49 = 1) else (s.wing w).ordPrev.contains q
          if ord ≠ c.order then s.endCmd w c.id stUNSUP
          else
            let m := s.unitModes w
            let v := s.wing w
            let c' := { c with st := .issued, bWin := if now then m.win else m.pwin, bHead := if now then m.head else m.phead, bOrd := ord, issueNo := v.issueNo }
            let s := s.stopHearth g
            let r := s.room g
            let s := s.setRoom g ((r.setEq e (r.eq e ++ [c.id])))
            let r := s.room g
            let s := s.setRoom g { r with ranCtx := if r.ranCtx.contains c.ctx then r.ranCtx else c.ctx :: r.ranCtx }
            let v := s.wing w
            (s.setWing w { v with issueNo := v.issueNo + 1 }).putCmd w c'

/-- COMMAND_ISSUE. -/
def execCommandIssue (w q : Nat) (s : State) : Host.Outcome State Fault Refusal :=
  act (decide (w < 32) && decide (q < 128)) (fun s => s.issue w q) s

/-- A dispatcher command that begins: the oldest unissued command of queue `q`, when it has opcode `op`. -/
def State.begins (s : State) (w q op : Nat) : Option Cmd :=
  if !s.wingUp w || s.qhalted w q then none
  else match s.oldest w q with
    | some c => if c.op = op then some c else none
    | none => none

/-- A command done: its status, and its one output tile (Table 5.11). -/
def State.doneOne (s : State) (w : Nat) (c : Cmd) : State :=
  (s.putCmd w { c with prog := 1 }).endCmd w c.id stOK

/-- NOP (Table 5.11): it completes at its issue. -/
def State.nopCmd (s : State) (w q : Nat) : State :=
  match s.begins w q 0x00 with
  | some c => s.doneOne w c
  | none => s

/-- NOP. -/
def execNop (w q : Nat) (s : State) : Host.Outcome State Fault Refusal :=
  act (decide (w < 32) && decide (q < 128)) (fun s => s.nopCmd w q) s

/-! ### Records (R152 to R154) -/

/-- The record of the oldest finished command with a tag is written. -/
def State.recordWrite (s : State) (w q : Nat) (tag : BitVec 16) : State :=
  if !s.wingUp w then s
  else match (s.queueCmds w q).find? fun c => c.tag = tag.toNat && s.recordReady w c with
    | none => s
    | some c =>
      let st := c.status.getD stOK
      let pa := s.cslot w q
      if s.accessHeld (w / 8) (pa / 64) true then s
      else
        let t := if s.hallCut (w / 8) (homeDie (pa / 64)) then (.lost pa, s)
          else s.target pa (w / 8) (s.suiteOfDie (w / 8)) c.ctx (cmdKey w c.id) true true
        match t.1 with
        | .mem _ => t.2.writeRecord w c st
        | .kill src =>
          let s := t.2.capture (w / 8) (accReport src (dispatcherAgent w) 1 pa (some c.ctx))
          (s.nextSlot w q).leaveFlight w c st
        | _ => (t.2.nextSlot w q).leaveFlight w c st

/-- COMPLETION_RECORD_WRITE. -/
def execCompletionRecordWrite (w q : Nat) (tag : BitVec 16) (s : State) : Host.Outcome State Fault Refusal :=
  act (decide (w < 32) && decide (q < 128)) (fun s => s.recordWrite w q tag) s

end Sys2Proof.Machine
end

