-- ==== Sys2Proof/Machine/Fabric.lean ====
section
/-! DEFINITION. The Gloing transport (R312 to R321, R326): the latch and doorbell pages as a target, the refusals
of a target, sequences, and what operations do at their target and at their issuer. -/

namespace Sys2Proof.Machine

/-! ### The latch and doorbell pages (Tables 1.11, 5.2, 5.6) -/

/-- What an address in the latch and doorbell pages names. -/
inductive PageReg where
  | wq (w q : Nat) | cq (w q : Nat) | other (w q : Nat) | lval (w l : Nat) | ladd (w l : Nat) | none
deriving DecidableEq, Repr

/-- The register at an address of the latch and doorbell pages. -/
def pageReg (pa : Nat) : PageReg :=
  if 0x60000000 ≤ pa ∧ pa < 0x70000000 then
    let w := (pa - 0x60000000) / 0x800000
    let o := (pa - 0x60000000) % 0x800000
    if o < 0x80000 then
      (if o % 0x1000 = 0 then .wq w (o / 0x1000) else if o % 0x1000 = 8 then .cq w (o / 0x1000)
       else .other w (o / 0x1000))
    else if 0x400000 ≤ o ∧ o < 0x410000 then
      (if o % 16 < 8 then .lval w ((o - 0x400000) / 16) else .ladd w ((o - 0x400000) / 16))
    else .none
  else .none

/-- The global wing of a page address. -/
def PageReg.wing : PageReg → Option Nat
  | .wq w _ => some w | .cq w _ => some w | .other w _ => some w | .lval w _ => some w | .ladd w _ => some w
  | .none => Option.none

/-- A write of `size` bytes to the latch and doorbell pages (R132, R147). -/
def State.pageWrite (s : State) (pa size v : Nat) : State :=
  match pageReg pa with
  | .wq w q => s.wqdb w q size v
  | .cq w q => s.cqdb w q size v
  | .other w q => s.badDoorbell w q
  | .lval w l => if (size = 8 ∨ size = 4) ∧ pa % 8 = 0 then s.latchSet w l (BitVec.ofNat 32 v) else s
  | .ladd w l => if (size = 8 ∨ size = 4) ∧ pa % 8 = 0 then s.latchAdd w l (BitVec.ofNat 32 v) else s
  | .none => s

/-- Eight bytes read from the latch and doorbell pages: the latch's value, and 0 elsewhere. -/
def State.pageRead (s : State) (pa : Nat) : Nat :=
  match pageReg pa with
  | .lval w l => if s.wingUp w then (s.latch w l).toNat else 0
  | _ => 0

/-! ### Modules and ports -/

/-- The membership word of module `m` (R325). -/
def State.modWord (s : State) (m : Nat) : Nat := s.ent (0x4100 + m / 128) (m % 128 + 1)
/-- The membership word of module `m` as given; every change raises an event. -/
def State.setModWord (s : State) (m v : Nat) : State :=
  if s.modWord m = v then s else s.setRaise (0x4100 + m / 128) (m % 128 + 1) v
/-- Whether module `m` is a member. -/
def State.member (s : State) (m : Nat) : Bool := fld (s.modWord m) 63 62 = 1
/-- Module `m`'s identity public key. -/
def State.modKey (s : State) (m : Nat) : Bytes := s.blob (0x4180 + m / 128) (m % 128 + 1)
/-- Whether port `p` is up. -/
def State.portUp (s : State) (p : Nat) : Bool := s.on && decide (2 ≤ s.ent 0x4001 (p + 1))
/-- A Gloing port as an agent. -/
def portAgent (p : Nat) : BitVec 16 := agentNo 4 0x17 p
/-- A packet leaves on port `q`: in a frame in COMPAT mode (R311). -/
def State.sendPacket (s : State) (q : Nat) (k : Packet) : State :=
  let k := sealPacket k
  s.emit (if s.ent 0x4001 (q + 1) = 3 then .frame q (s.frameOf q (some (s.modKey k.dst)) k) k else .packet (some q) k)
/-- Packets that wait for an acknowledgement on port `p`. -/
def State.portLoad (s : State) (p : Nat) : Nat :=
  ((s.pairs.flatMap fun e => e.2.tx.filter fun o => o.port = some p).map fun o => linkBytes o.pkt).foldl (· + ·) 0
/-- The up port with the shortest queue (R318). -/
def State.bestPort (s : State) : Option Nat :=
  ((List.range 3).filter fun p => s.portUp p).foldl (fun (m : Option Nat) p =>
    match m with
    | none => some p
    | some o => if s.portLoad p < s.portLoad o then some p else some o) none

/-- Whether sequence number `a` comes before `b`. -/
def seqBefore (a b : Nat) : Bool :=
  let d := (b + 2 ^ 32 - a % 2 ^ 32) % 2 ^ 32
  decide (d ≠ 0) && decide (d < 2 ^ 31)

/-- Whether a packet keeps R312: its ADDR is 16-byte aligned, and its payload crosses no 4 KiB boundary of the target's
map. DESIGN CHOICE: what the registers of the latch and doorbell pages and the pairs of a CAS need, 8-byte alignment, is
allowed to a SHORT WRITE, a SIGNAL and a CAS; the manual says nothing of a packet that breaks the rule, and the target
refuses it. -/
def packetAligned (k : Packet) : Bool :=
  let op := k.op.toNat
  let cas := op = 3 && cisIsCas k.cisop.toNat
  let n := if op = 1 then 16 * fld k.tagx.toNat 31 23
    else if op = 4 || k.short then 8 else (if cas then 8 else 16) * k.words.length
  !(op = 0 || op = 1 || op = 3 || op = 4 || op = 5) ||
    (k.addr % (if op = 4 || (op = 0 && k.short) || cas then 8 else 16) = 0 && decide (k.addr % 4096 + n ≤ 4096))

/-! ### What a target refuses (R28, R315, R412) -/

/-- Whether a target refuses an operation. -/
def State.refusesRemote (s : State) (k : Packet) : Bool :=
  let op := k.op.toNat
  !packetAligned k ||
  match regionOf k.addr with
  | .stack j =>
    op = 4 || s.ent 0x4041 (j + 1) = 0 || !s.dieUp (j / 3) || s.stackShut j ||
    (s.poolFrame k.addr).isSome ||
    ((op = 3 || op = 5) &&
      (!cisOpOk k.cisop.toNat || (k.cisop == 0x93#8 && decide (s.levelOf (s.suiteOfStack j) < 2))))
  | _ =>
    match pageReg k.addr with
    | .none => true
    | r =>
      op = 3 || op = 5 ||
      ((op = 0 || op = 4) && !bitOf (s.ent 0x4042 1) (r.wing.getD 0)) ||
      (op = 4 && (match r with | .lval _ _ => false | .ladd _ _ => false | _ => true) || (op = 4 && k.addr % 8 ≠ 0))

/-! ### Performing an operation (Table 12.3) -/

/-- Data words stored from a 16-byte aligned address by a unit: whole lines as WRF, others as WRP. -/
def State.storeWords (s : State) (who : Who) (a : Nat) (ws : List (BitVec 128 × Bool)) (place : Option Nat) : State :=
  each (linesOf a (16 * ws.length)) (fun line s =>
    let ms := (List.range 4).filter fun m => decide (a ≤ line * 64 + 16 * m) && decide (line * 64 + 16 * m < a + 16 * ws.length)
    let mask := BitVec.ofNat 64 (maskOf (ms.flatMap fun m => (List.range 16).map fun i => 16 * m + i))
    let l := lineOfWords ((List.range 4).map fun m =>
      if ms.contains m then lget (0, false) ws ((line * 64 + 16 * m - a) / 16) else (0, false))
    s.unitWrite who line mask l place) s

/-- `n` words read coherently from a 16-byte aligned address. -/
def State.loadWords (s : State) (who : Who) (a n : Nat) : List (BitVec 128 × Bool) × State :=
  (List.range n).foldl (fun (acc : List (BitVec 128 × Bool) × State) i =>
    let pa := a + 16 * i
    let x := acc.2.unitRead who (pa / 64)
    (acc.1 ++ [(x.1.word (pa / 16 % 4), x.1.poisoned (pa / 16 % 4))], x.2)) ([], s)

/-- The payload of a packet that the port's checker has passed: clean words and poison. -/
def packetData (k : Packet) : List (BitVec 128 × Bool) := k.words.map fun x => (x.1, decide (x.2 ≠ 0))
/-- A word in a packet: its data, and its check bits (R214, R309). -/
def packWord (x : BitVec 128 × Bool) : BitVec 128 × BitVec 16 := (x.1, if x.2 then poisonMask else 0)

/-- What an operation gives back: the flags of its reductions, and data words for a response. -/
structure Performed where
  flags : Nat
  data  : List (BitVec 128 × Bool)
deriving DecidableEq, Repr

/-- An accepted operation is performed at its target (R314). -/
def State.performOp (s : State) (p : Nat) (k : Packet) : Performed × State :=
  let who : Who := ⟨portAgent p, if k.op = 0 then 1 else if k.op = 1 then 0 else 2, none⟩
  let none_ : Performed := ⟨0, []⟩
  match k.op.toNat with
  | 0 =>
    match regionOf k.addr with
    | .stack _ =>
      if k.short then
        match packetData k with
        | (x, psn) :: _ => (none_, s.unitStore who k.addr (toBytes 8 x.toNat) psn none)
        | [] => (none_, s)
      else (none_, s.storeWords who k.addr (packetData k) (if k.place then some k.ptarget else none))
    | _ =>
      let ws := (packetData k).zipIdx
      (none_, each ws (fun e s =>
        if e.1.2 then s
        else
          let s := s.pageWrite (k.addr + 16 * e.2) 8 (e.1.1.toNat % 2 ^ 64)
          if k.short then s else s.pageWrite (k.addr + 16 * e.2 + 8) 8 (e.1.1.toNat / 2 ^ 64)) s)
  | 1 =>
    let n := fld k.tagx.toNat 31 23
    match regionOf k.addr with
    | .stack _ =>
      let r := s.loadWords who k.addr n
      (⟨0, r.1⟩, r.2)
    | _ => (⟨0, (List.range n).map fun i =>
        let a := k.addr / 16 * 16 + 16 * i
        (BitVec.ofNat 128 (s.pageRead a + s.pageRead (a + 8) * 2 ^ 64), false)⟩, s)
  | 3 =>
    let cas := cisIsCas k.cisop.toNat
    let r := (packetData k).zipIdx.foldl (fun (acc : Nat × State) e =>
      let x := acc.2.redDo who (k.addr + (if cas then 8 else 16) * e.2) k.cisop.toNat e.1.1 e.1.2
      (acc.1 ||| x.1.1, x.2)) (0, s)
    (⟨r.1, []⟩, r.2)
  | 4 => (none_, s.pageWrite k.addr 8 k.tagx.toNat)
  | 5 =>
    match packetData k with
    | (x, psn) :: _ =>
      let r := s.redDo who k.addr k.cisop.toNat x psn
      (⟨r.1.1, [r.1.2]⟩, r.2)
    | [] => (none_, s)
  | 7 => (none_, s.emit (.scullery k))
  | _ => (none_, s)

/-! ### The issuer's side -/

/-- The output tiles of a COPY or WRITE_REDUCE (Table 5.11); 0 for others. -/
def Cmd.tiles (c : Cmd) : Nat :=
  if c.op = 0x20 then ((c.f 4 47 32 + 1) * c.f 4 31 0 + 65535) / 65536
  else if c.op = 0x21 then (c.f 3 31 0 + 4095) / 4096
  else 0

/-- A COPY notes that words it moves are poisoned, if they are. -/
def State.notePoison (s : State) (w id : Nat) (bad : Bool) : State :=
  match s.cmd w id with
  | some c => if bad then s.putCmd w { c with awaitBad := true } else s
  | none => s

/-- Whether a command has issued its last write and ends well, or with poison moved. -/
def Cmd.allSent (c : Cmd) : Bool := c.status == some stOK || c.status == some stPOISON

/-- One operation of an issuer has reached what its record waits for. With its last one, the output tile in
progress of a COPY or WRITE_REDUCE is complete; a COPY whose last read has arrived has issued its last write. -/
def State.remoteDone (s : State) : Issuer → State
  | .cmd w id =>
    match s.cmd w id with
    | some c =>
      let left := c.remote - 1
      if left ≠ 0 || c.tiles = 0 || !(c.status.isNone || c.allSent) then s.putCmd w { c with remote := left }
      else
        let s := s.putCmd w { c with remote := left, prog := c.pos, dirty := none }
        if c.op = 0x20 && c.pos = c.tiles && c.status.isNone then
          s.endCmd w id (if c.awaitBad then stPOISON else stOK)
        else s
    | none => s
  | _ => s

/-- Flags of remote reductions reach the command that issued them (R233, R234): OV and NR, and POISON. -/
def State.remoteFlags (s : State) (i : Issuer) (fl : Nat) : State :=
  match i with
  | .cmd w id =>
    match s.cmd w id with
    | some c =>
      let num := c.num ||| (if bitOf fl 0 then nfOV else 0) ||| (if bitOf fl 1 then nfNR else 0)
      s.putCmd w { c with num := num, status := if bitOf fl 4 && c.status == some stOK then some stPOISON else c.status }
    | none => s
  | _ => s

/-- An operation is abandoned (R316, R317, R320, R326): its command ends REMOTE_FAIL, its slot likewise, a core's
load faults, a core's store is counted. -/
def State.remoteFail (s : State) (i : Issuer) (op : BitVec 4) : State :=
  match i with
  | .cmd w id =>
    match s.cmd w id with
    | some c =>
      let s := if c.status.isNone then (s.endCmd w id stREMOTE).unwait w id else s
      match s.cmd w id with
      | some c =>
        let p := if c.allSent then c.prog - 1 else c.prog
        s.putCmd w { c with status := some stREMOTE, st := .committed, remote := 0, prog := p }
      | none => s
    | none => s
  | .slot k => (s.setRegF (paAtomic k 0x20) 3 0 2).setRegF (paAtomic k 0x18) 1 1 0
  | .core c =>
    if op = 1 then { s with cores := tset c .accessFault s.cores }
    else (s.incEnt 0x4006 1 1).raise 0x4006 1 0 (s.ent 0x4006 1 + 1)
  | _ => s

/-- The flags that an ATOMIC's result gives (Table 12.4): the operation of the slot on the word returned. -/
def atomicFlags (op half : Nat) (old x : BitVec 128) : Nat := (cisApply op half old x).2

/-- The address by which agents name a line of memory: an aperture address for a pool frame's. -/
def State.apertureOf (s : State) (pa : Nat) : Nat :=
  match s.poolFrame pa with
  | some f => match s.frame f with
    | some r => tierBase + r.tile * 65536 + (pa - s.frameAddr f)
    | none => pa
  | none => pa

/-- The words that a COPY has read from another module reach their place: the Larder (from 2^63 on), memory, the
PCIe window or the latch and doorbell pages; nothing reaches a stack whose die has gone, or crosses a ring hallway that
is down. In memory the wing's reduce lines go home first and the room's Shelf lines are invalidated (R164, R179). `va` is
the place as the command names it. -/
def State.storeAnswer (s : State) (g : Nat) (c : Cmd) (d va : Nat) (ws : List (BitVec 128 × Bool)) : State :=
  let who : Who := ⟨roomAgent 3 g, 1, some c.ctx⟩
  let bytes := ws.flatMap fun (x : BitVec 128 × Bool) => (toBytes 16 x.1.toNat).map fun b => (b, x.2)
  if 2 ^ 63 ≤ d then s.larderWrite g who (d % 2 ^ 21) bytes
  else match regionOf d with
    | .pcie => s.pcieOut d (bytes.map fun b => b.1)
    | .control => each ws.zipIdx (fun x s =>
        if x.1.2 then s
        else (s.pageWrite (d + 16 * x.2) 8 (x.1.1.toNat % 2 ^ 64)).pageWrite (d + 16 * x.2 + 8) 8 (x.1.1.toNat / 2 ^ 64)) s
    | _ =>
      if !s.reachable d || s.hallCut (g / 64) (homeDie (d / 64)) then s
      else
        let s := each (linesOf d (16 * ws.length)) (fun line s =>
          (s.rlineYield (g / 8) line).noteWrite (g / 8) c.id c.prog line (va / 64 * 64 + (line - d / 64) * 64)) s
        (s.shelfInvalidate g (s.apertureOf d) (16 * ws.length)).storeWords who d ws
          (if bitOf (c.wd 6) 5 then some (c.f 6 4 0) else none)

/-- A response reaches its requester (R316, R317). -/
def State.deliver (s : State) (r : ReadReq) (ws : List (BitVec 128 × Bool)) : State :=
  let s := { s with reads := s.reads.filter fun x => !(x.id = r.id && x.peer = r.peer) }
  match r.issuer with
  | .core c =>
    match ws with
    | (x, false) :: _ =>
      { s with cores := tset c (.value (BitVec.ofNat 64 (x.toNat / 2 ^ (8 * (r.addr % 16)) % 2 ^ (8 * r.size)))) s.cores }
    | _ =>
      let s := s.capture 4 (accReport 0x17 (agentNo 4 0x10 c) 0 r.addr none)
      { s with cores := tset c .accessFault s.cores }
  | .slot k =>
    match ws with
    | (x, bad) :: _ =>
      let fl := atomicFlags r.oper.1 (r.addr % 16 / 8 * 8) x r.oper.2
      let s := s.setReg (paAtomic k 0x28) (BitVec.ofNat 64 x.toNat)
      let s := s.setReg (paAtomic k 0x30) (BitVec.ofNat 64 (x.toNat / 2 ^ 64))
      let s := s.setReg (paAtomic k 0x20)
        (BitVec.ofNat 64 (b2n bad * 128 + b2n (bitOf fl 1) * 64 + b2n (bitOf fl 0) * 32))
      s.setRegF (paAtomic k 0x18) 1 1 0
    | [] => s
  | .cmd w id =>
    match s.cmd w id with
    | none => s
    | some c =>
      let g := c.room w
      let s := match (if c.status.isNone then r.dst else none) with
        | none => s
        | some d => (s.notePoison w id (ws.any fun x => x.2)).storeAnswer g c d r.oper.1 ws
      s.remoteDone r.issuer
  | _ => s

/-- The die on which a page register lies. -/
def PageReg.die (r : PageReg) : Nat := (r.wing.getD 0) / 8

/-- Whether an operation that has arrived waits: its target is a stack that holds its requests (R222), lies behind a
hallway that is training (R302), or is the place of a COPY's answer that waits so. -/
def State.opHeld (s : State) (k : Packet) : Bool :=
  let op := k.op.toNat
  let n := if k.words = [] then fld k.tagx.toNat 31 23 else k.words.length
  if op = 2 then
    (s.reads.find? fun r => r.id = fld k.tagx.toNat 22 0 && r.peer = k.src).any fun r =>
      match r.dst, r.issuer with
      | some d, .cmd w _ => decide (d < 2 ^ 63) &&
        (match regionOf d with
         | .stack _ => (linesOf d (16 * max n 1)).any fun line => s.accessHeld (w / 8) line true
         | .host => s.hallHeld (w / 8) 4
         | _ => false)
      | _, _ => false
  else if op = 0 || op = 1 || op = 3 || op = 4 || op = 5 then
    match regionOf k.addr with
    | .stack _ => (linesOf k.addr (16 * max n 1)).any fun line => s.accessHeld 4 line (decide (op ≠ 1))
    | _ => s.hallHeld 4 (pageReg k.addr).die
  else false

/-- Operations of module `m` wait: the next one goes on in the order of arrival of everything that waits. -/
def State.deferRemote (s : State) (m : Nat) : State :=
  if s.later.contains (.remote m) then s else s.defer (.remote m)

/-- An operation addressed to the module itself is performed as its target performs it (R28). -/
def State.loopback (s : State) (i : Issuer) (k : Packet) : State :=
  let asked := fun (x : ReadReq) => (k.op = 1 || k.op = 5) && x.id = fld k.tagx.toNat 22 0 && x.peer = k.dst
  if s.refusesRemote k then
    ({ s with reads := s.reads.filter fun x => !asked x } : State).remoteFail i k.op
  else
    let r := s.performOp 0 k
    if k.op = 1 ∨ k.op = 5 then
      match r.2.reads.find? asked with
      | some q => r.2.deliver q r.1.data
      | none => r.2
    else (r.2.remoteFlags i (if k.ackp then r.1.flags else 0)).remoteDone i

/-- Whether an operation to the module itself waits: for its target, or for the place of its answer (R28, R222). -/
def State.loopHeld (s : State) (k : Packet) : Bool :=
  !s.refusesRemote k && (s.opHeld k || s.opHeld { k with op := if k.op = 1 then 2 else 9, src := k.dst })

/-- The operations to the module itself that wait are performed in their order, as far as they can be. -/
def State.drainOwn (s : State) : Nat → State
  | 0 => s
  | n + 1 =>
    let p := s.pair s.own
    match p.waiting with
    | [] => s
    | (k, i) :: t =>
      if s.loopHeld k then s.deferRemote s.own
      else ((s.setPair s.own { p with waiting := t }).loopback i k).drainOwn n

/-- An operation issued to another module, or looped back (R28, R316, R326). It waits to be accepted into its
sequence; a pair that was never opened is opened now (R327). -/
def State.remoteOp (s : State) (i : Issuer) (k : Packet) : State :=
  if s.own = 0xFFFF then s.remoteFail i k.op
  else
    let k := { k with src := s.own }
    let p := s.pair k.dst
    let s := s.setPair k.dst { p with waiting := p.waiting ++ [(k, i)] }
    if k.dst = s.own then (if p.waiting = [] then s.drainOwn 1 else s)
    else if p.up || p.opening || p.failed then s
    else s.openPair k.dst

/-- A request identifier. -/
def State.nextReadId (s : State) : Nat × State :=
  (s.mgmt.readId, { s with mgmt := { s.mgmt with readId := (s.mgmt.readId + 1) % 2 ^ 23 } })

/-- A READ or an ATOMIC with its request noted. -/
def State.remoteAsk (s : State) (i : Issuer) (k : Packet) (addr size : Nat) (dst : Option Nat)
    (oper : Nat × BitVec 128) : State :=
  if s.own = 0xFFFF then s.remoteFail i k.op
  else
  let n := s.nextReadId
  let s := n.2
  let s := { s with reads := s.reads ++ [ReadReq.mk n.1 k.dst i addr size dst oper] }
  let t := if k.op = 1 then BitVec.ofNat 32 (k.tagx.toNat / 2 ^ 23 * 2 ^ 23 + n.1) else BitVec.ofNat 32 n.1
  s.remoteOp i { k with tagx := t }

/-! ### What holds an invalidation (R282, R283) -/

/-- Whether an access of a command whose context is one of `p` has been translated and is not performed: an operation not
yet accepted into its sequence, or a read whose answer has still to be stored (R282). -/
def State.translated (s : State) (p : Nat → Bool) : Bool :=
  let mine := fun (i : Issuer) => match i with
    | .cmd w id => (s.cmd w id).any fun c => p c.ctx
    | _ => false
  (s.pairs.any fun e => e.2.waiting.any fun x => mine x.2) || s.reads.any fun r => r.dst.isSome && mine r.issuer

/-- The host cores whose SFENCE.VMA waits go on when nothing translated through removed entries is outstanding (R283). -/
def State.endFences (s : State) : State :=
  if s.later.contains .fence && !s.translated (fun _ => true) then
    let n := (s.later.filter fun x => x = .fence).length
    each (List.range n) (fun _ s => s.emit .fenceDone) { s with later := s.later.filter fun x => x ≠ .fence }
  else s

/-! ### A pair fails (R320) -/

/-- The commands among issuers. -/
def ownersOf (l : List Issuer) : List (Nat × Nat) := l.filterMap fun i => match i with | .cmd w id => some (w, id) | _ => none

/-- The pair with module `m` fails in the direction to `m`, where it is established or sought: its operations are
abandoned. What was not yet accepted into an established pair's sequence waits for the next one. -/
def State.failPair (s : State) (m : Nat) : State :=
  let p := s.pair m
  if !p.up && !p.opening && p.waiting = [] then s
  else
    let lost := (p.tx.filter fun o => !o.performed).map fun o => (o.issuer, o.pkt.op)
    let lost := if p.up then lost else lost ++ p.waiting.map fun x => (x.2, x.1.op)
    let asked := (s.reads.filter fun r => r.peer = m &&
      !(p.up && p.waiting.any fun x => fld x.1.tagx.toNat 22 0 = r.id && decide (x.2 = r.issuer)))
    let owed := ownersOf (lost.map (fun x => x.1) ++ asked.map fun r => r.issuer)
    let s := s.incEnt 0x4007 1 1
    let s := s.setPair m { p with
      up := false, opening := false, failed := true, tx := [], waiting := if p.up then p.waiting else [], owed := owed ++ p.owed }
    let s := { s with reads := s.reads.filter fun r => !asked.contains r }
    let s := each lost (fun x s => s.remoteFail x.1 x.2) s
    (each asked (fun r s => s.remoteFail r.issuer 1) s).endFences

/-- The module has lost its number (R325, R326): every pair fails, and what waits for one fails at its issue. -/
def State.leaveFabric (s : State) : State :=
  each s.pairs (fun e s =>
    let s := s.failPair e.1
    let l := (s.pair e.1).waiting
    let s := s.setPair e.1 { s.pair e.1 with waiting := [] }
    let gone := fun (r : ReadReq) => r.peer = e.1
    let s := { s with reads := s.reads.filter fun r => !gone r }
    (each l (fun x s => s.remoteFail x.2 x.1.op) s).endFences) s

/-! ### Sending -/

/-- The pair window in link bytes, halved after a congestion mark (R318, R320). -/
def State.pairWindow (s : State) (m : Nat) : Nat :=
  if (s.pair m).halved then s.ent 0x4002 1 / 2 else s.ent 0x4002 1

/-- Whether a packet still waits for an acknowledgement: of its arrival, or with ACKP of its performance (R319). -/
def TxOp.open_ (o : TxOp) : Bool := o.port.isSome || o.pkt.ackp
/-- Link bytes of the packets of a sequence that wait for an acknowledgement. -/
def unacked (l : List TxOp) : Nat := (l.filter fun o => o.open_).foldl (fun n o => n + linkBytes o.pkt) 0

/-- Operation `k` of issuer `i` takes the next number of its sequence and is sent on port `q`. -/
def State.acceptOp (s : State) (m : Nat) (k : Packet) (i : Issuer) (rest : List (Packet × Issuer)) (q : Nat) : State :=
  let p := s.pair m
  let k := sealPacket { k with seq := p.nextSeq, gen := p.gen, src := s.own }
  let s := s.setPair m { p with waiting := rest, nextSeq := (p.nextSeq + 1) % 2 ^ 32, tx := p.tx ++ [TxOp.mk k (some q) 0 i false], issued := p.issued + 1 }
  s.sendPacket q k

/-- Whether an operation is done for its issuer once it is accepted: nothing comes back for it. -/
def sendIsAll (k : Packet) : Issuer → Bool
  | .cmd _ _ => !k.ackp && k.op != 1
  | _ => false

/-- The first operation that waits for module `m` is accepted into its sequence and sent (R318, R319). -/
def State.issueRemote (s : State) (m : Nat) : State :=
  let p := s.pair m
  match p.waiting, s.bestPort with
  | (k, i) :: rest, some q =>
    let n := linkBytes k
    if !p.up ∨ s.own = 0xFFFF ∨ m = s.own ∨ s.pairWindow m < unacked p.tx + n ∨
        12 * 2 ^ 20 < unacked (s.pairs.flatMap fun e => e.2.tx) + n then s
    else
      let s := s.acceptOp m k i rest q
      (if sendIsAll k i then s.remoteDone i else s).endFences
  | _, _ => s

/-- Packet `o` to module `m` is sent again, on the port with the shortest queue; 0x4003 counts it. -/
def State.retransmit (s : State) (m : Nat) (o : TxOp) : State :=
  match s.bestPort with
  | some q =>
    let p := s.pair m
    let tx := p.tx.map fun x => if x.pkt.seq = o.pkt.seq then { x with tries := x.tries + 1, port := some q } else x
    ((s.setPair m { p with tx := tx }).incEnt 0x4003 (q + 1) 1).sendPacket q o.pkt
  | none => s

/-- Operation `seq` to module `m` is sent again; the pair fails once a packet has been sent again 8 times (R320). -/
def State.resend (s : State) (m seq : Nat) : State :=
  match (s.pair m).tx.find? fun o => o.pkt.seq = seq && o.port.isSome with
  | some o =>
    if s.own = 0xFFFF ∨ s.bestPort = none then s
    else if 7 ≤ o.tries then (s.retransmit m o).failPair m
    else s.retransmit m o
  | none => s

/-! ### Receiving (R313, R319) -/

/-- What a port's checker reports of a payload word: with the word's address where the packet has one. -/
def arriveReport (src p : Nat) (k : Packet) (ad : Nat) (inj : Bool) : Report :=
  let op := k.op.toNat
  if op = 0 ∨ op = 3 ∨ op = 5 then
    { accReport src (portAgent p) (if op = 0 then 1 else if op = 3 then 2 else 3) ad none with inj := inj }
  else { plainReport src (portAgent p) with inj := inj }

/-- The checker of port `p` on payload word `x` at `ad` of packet `k` (R216, R217, R313): a corrected word is forwarded
corrected, an uncorrectable one as poison; poison stays poison. -/
def State.arriveWord (s : State) (p : Nat) (k : Packet) (ad : Nat) (x : BitVec 128 × BitVec 16) :
    (BitVec 128 × BitVec 16) × State :=
  let inj := s.injSlot 4 (portAgent p) 0 1 ad
  let δ := match inj with | some (_, m) => x.2 ^^^ injectMask m | none => x.2
  let s := match inj with | some (n, _) => s.injUse 4 n | none => s
  match decodeWord x.1 δ with
  | .clean => ((x.1, 0), s)
  | .poison => ((x.1, poisonMask), s)
  | .corrected y => ((y, 0), s.capture 4 (arriveReport 0x01 p k ad inj.isSome))
  | .uncorrectable => ((x.1, poisonMask), s.capture 4 (arriveReport 0x13 p k ad inj.isSome))

/-- The words of an arriving packet pass the port's checker. -/
def State.arrive (s : State) (p : Nat) (k : Packet) : Packet × State :=
  let r := k.words.zipIdx.foldl (fun (a : List (BitVec 128 × BitVec 16) × State) x =>
    let w := a.2.arriveWord p k (k.addr / 16 * 16 + 16 * x.2) x.1
    (a.1 ++ [w.1], w.2)) ([], s)
  ({ k with words := r.1 }, r.2)

/-- Whether the header of a packet is broken: its CRC fails, its version is not 1, or its OP is reserved (R313, R314). -/
def badHeader (k : Packet) : Bool := k.hcrc != headerCrc k || k.ver != 1 || decide (0xB ≤ k.op.toNat)

/-- Whether a port discards a packet (R313). -/
def State.discards (s : State) (k : Packet) : Bool :=
  let p := s.pair k.src
  badHeader k || s.own = 0xFFFF || k.dst ≠ s.own || !p.up || k.gen ≠ p.gen

/-- A packet of port `p` that should be of operation `op` is taken by `f` unless the port is down, the packet is discarded
and counted (R313), or it is another operation's. -/
def State.guarded (s : State) (p : Nat) (k : Packet) (op : Nat) (f : State → State) : State :=
  if !s.portUp p then s
  else if s.discards k then s.incEnt 0x4005 (p + 1) 1
  else if k.op.toNat ≠ op then s
  else f s

/-- A refusal is answered (R315). -/
def State.sendNak (s : State) (m : Nat) (k : Packet) : State :=
  let n := { basePacket 9 m 0 with src := s.own, seq := k.seq, gen := k.gen }
  let s := s.setPair m { s.pair m with rxBad := true }
  match s.bestPort with
  | some q => s.sendPacket q n
  | none => s

/-- A response to a READ or ATOMIC of module `m` reaches the request that it names. -/
def State.takeAnswer (s : State) (m : Nat) (k : Packet) : State :=
  match s.reads.find? fun x => x.id = fld k.tagx.toNat 22 0 && x.peer = m with
  | some x => (s.deliver x (packetData k)).endFences
  | none => s

/-- The next operation of the sequence from module `m` is performed, or refused. -/
def State.takeOp (s : State) (p m : Nat) (k : Packet) : State :=
  let data := k.op = 0 || k.op = 1 || k.op = 3 || k.op = 4 || k.op = 5
  if data && s.refusesRemote k then s.sendNak m k
  else
    let r := s.performOp p k
    let s := r.2
    let q := s.pair m
    let fl := (if bitOf r.1.flags 0 then 1 else 0) ||| (if bitOf r.1.flags 1 then 2 else 0) ||| (if bitOf r.1.flags 4 then 4 else 0)
    let fl := if k.op = 3 then BitVec.ofNat 8 fl else 0
    let s := s.setPair m { q with
      rxSeq := (q.rxSeq + 1) % 2 ^ 32, performed := (q.performed + 1) % 2 ^ 32, flags := q.flags ||| fl, ackDue := true }
    let back := fun (op : Nat) =>
      { basePacket op m 0 with tagx := BitVec.ofNat 32 (fld k.tagx.toNat 22 0), words := r.1.data.map packWord }
    match k.op.toNat with
    | 1 => s.remoteOp .port (back 2)
    | 2 => s.takeAnswer m k
    | 5 => s.remoteOp .port (back 6)
    | 6 => s.takeAnswer m k
    | _ => s

/-- Resequenced operations follow while the next one is there and need not wait. -/
def State.drainRx (s : State) (p m : Nat) : Nat → State
  | 0 => s
  | n + 1 =>
    let q := s.pair m
    if q.rxBad then s
    else match q.rx.find? fun e => e.1 = q.rxSeq with
      | none => s
      | some (i, k) =>
        if !s.refusesRemote k && s.opHeld k then s.deferRemote m
        else ((s.setPair m { q with rx := q.rx.filter fun e => e.1 ≠ i }).takeOp p m k).drainRx p m n

/-- A sequenced packet arrives at port `p` (R313, R319): it takes its place in the resequence buffer, from which the
operations are performed in order. The next one is always accepted. -/
def State.receive (s : State) (p : Nat) (k : Packet) (op : Nat) : State :=
  s.guarded p k op fun s =>
    let m := k.src
    let q := s.pair m
    let used := (s.pairs.flatMap fun e => e.2.rx).foldl (fun n e => n + linkBytes e.2) 0
    if q.rxBad then s.incEnt 0x4005 (p + 1) 1
    else if k.seq ≠ q.rxSeq && seqBefore k.seq q.rxSeq || q.rx.any fun e => e.1 = k.seq then
      s.setPair m { q with ackDue := true }
    else if k.seq ≠ q.rxSeq && decide (6 * 2 ^ 20 < used + linkBytes k) then s.incEnt 0x4005 (p + 1) 1
    else
      let a := s.arrive p k
      let q := a.2.pair m
      (a.2.setPair m { q with rx := q.rx ++ [(k.seq, a.1)], ackDue := true }).drainRx p m (q.rx.length + 1)

/-! ### Acknowledgements (R319, R320) -/

/-- The ACK that module `m` is owed: the count received, the packets received beyond it, the SEQ through which every
operation has been performed, and the flags of the WRITE_REDUCEs performed since the last ACK, in CISOP too. -/
def State.sendAck (s : State) (m : Nat) : State :=
  let q := s.pair m
  match s.bestPort with
  | none => s
  | some p =>
    if !q.ackDue || !q.up then s
    else
      let next := ((List.range (q.rx.length + 1)).find? fun i =>
        !(q.rx.any fun e => e.1 = (q.rxSeq + i) % 2 ^ 32)).getD 0
      let got := (q.rxSeq + next) % 2 ^ 32
      let map := maskOf ((List.range 64).filter fun i => q.rx.any fun e => e.1 = (got + i) % 2 ^ 32)
      let w := map + (q.performed + 2 ^ 32 - 1) % 2 ^ 32 * 2 ^ 64 + q.flags.toNat * 2 ^ 96
      let k := { basePacket 8 m 0 with
        src := s.own, seq := got, gen := q.gen, cisop := q.flags, words := [(BitVec.ofNat 128 w, 0)] }
      (s.setPair m { q with ackDue := false, flags := 0 }).sendPacket p k

/-- What an ACK of module `m` says: `seq` packets received, those of a bitmap beyond it, every operation through `perf`
performed, and the flags of its WRITE_REDUCEs. -/
def State.acked (s : State) (m seq w : Nat) (ce : Bool) : State :=
  let q := s.pair m
  let perf := fld w 95 64
  let fl := fld w 103 96
  let far := fun (o : TxOp) => (o.pkt.seq + 2 ^ 32 - seq) % 2 ^ 32
  let done := q.tx.filter fun o => !seqBefore perf o.pkt.seq
  let left := (q.tx.filter fun o => seqBefore perf o.pkt.seq).map fun o =>
    if seqBefore o.pkt.seq seq || (decide (far o < 64) && bitOf w (far o)) then { o with port := none } else o
  let top := (List.range 64).foldl (fun m i => if bitOf w i then i else m) 0
  let missing := left.filter fun o => o.port.isSome && decide (far o < top)
  let s := s.setPair m { q with tx := left, halved := q.halved || ce }
  let s := each done (fun o s =>
    if o.pkt.ackp then
      let sc := (if bitOf fl 0 then 1 else 0) + (if bitOf fl 1 then 2 else 0) + (if bitOf fl 2 then 16 else 0)
      (if o.pkt.op = 3 then s.remoteFlags o.issuer sc else s).remoteDone o.issuer
    else s) s
  each missing (fun o s => if (s.pair m).up then s.resend m o.pkt.seq else s) s

/-- An ACK arrives. DESIGN CHOICE: one whose payload word is poison says nothing. -/
def State.takeAck (s : State) (p : Nat) (k : Packet) (ce : Bool) : State :=
  s.guarded p k 8 fun s =>
    let a := s.arrive p k
    match packetData a.1 with
    | (x, false) :: _ => a.2.acked k.src k.seq x.toNat ce
    | _ => a.2

/-- A NAK arrives: the pair fails, and its cause is counted. -/
def State.takeNak (s : State) (p : Nat) (k : Packet) : State :=
  s.guarded p k 9 fun s =>
    let c := k.cisop.toNat
    (if c ≤ 2 then s.incEnt 0x4006 (2 + c) 1 else s).failPair k.src

/-- A pair starts a generation: sequence numbers from 0 in both directions (R318, R320, R327). -/
def State.startPair (s : State) (m gen : Nat) : State :=
  let p := s.pair m
  let s := s.setPair m { Pair.reset with
    up := true, gen := gen, waiting := p.waiting, key := s.modKey m, owed := p.owed }
  s.setModWord m (putFld (s.modWord m) 15 0 gen)

end Sys2Proof.Machine
end

