-- ==== Sys2Proof/Machine/Engine.lean ====
section
/-! DEFINITION. How the engines of a room reach what their commands name: address words (R138), the plan of a
command's accesses (R270, R271), reads through the Shelf and the wing cache (R78, R164), writes (R194),
tier deadlines (R80), and how a command starts and ends at its engine. -/

namespace Sys2Proof.Machine

/-! ### Places -/

/-- A place that an address word names (R138): an offset of the room's Larder, or a virtual address. -/
structure Loc where
  larder : Bool
  a      : Nat
deriving DecidableEq, Repr

/-- The place `o` bytes after the one that an address word names. -/
def locOf (word o : Nat) : Loc :=
  if bitOf word 63 then ⟨true, fld word 20 0 + o⟩ else ⟨false, fld word 56 0 + o⟩
/-- Bytes of one access: a line of memory, a word of the Larder. -/
def Loc.unit (l : Loc) : Nat := if l.larder then 16 else 64
/-- The number of the access that holds a place's byte `o`; accesses to the Larder count from 2^60. -/
def Loc.key (l : Loc) (o : Nat) : Nat := (if l.larder then 2 ^ 60 else 0) + (l.a + o) / l.unit
/-- The accesses that `n` bytes from a place need. -/
def Loc.keys (l : Loc) (n : Nat) : List Nat :=
  if n = 0 then [] else (List.range (l.key (n - 1) - l.key 0 + 1)).map fun i => l.key 0 + i
/-- The first byte of each of those accesses, by its number of the access times 64 and its place in it. -/
def Loc.first (l : Loc) : Nat := if l.larder then l.key 0 * 64 else l.a
def Loc.firsts (l : Loc) (n : Nat) : List Nat := (l.keys n).map fun k => if k = l.key 0 then l.first else k * 64
/-- Of accesses named by their first bytes, the first one of each. -/
def oncePer (l : List Nat) : List Nat := l.eraseDupsBy fun a b => a / 64 == b / 64
/-- Whether `n` bytes from a place leave the Larder (R138). -/
def Loc.past (l : Loc) (n : Nat) : Bool := l.larder && decide (larderSize < l.a + n)

/-- An engine at work: its room, the class of its agent number (R17), the access code, its command. -/
structure Engine where
  g      : Nat
  cls    : Nat
  access : Nat
  cmd    : Cmd
  shelf  : Bool
  keep   : Bool
deriving DecidableEq, Repr

/-- The engine as the issuer of an access. -/
def Engine.who (q : Engine) : Who := ⟨roomAgent q.cls q.g, q.access, some q.cmd.ctx⟩
/-- The wing of an engine. -/
def Engine.wing (q : Engine) : Nat := q.g / 8

/-- One access with its translated physical address and where it goes. -/
structure Spot where
  key : Nat
  pa  : Nat
  tgt : Tgt
deriving DecidableEq, Repr

/-- What can be said of all the accesses of a command before any of them is made. -/
inductive Plan where
  | ready (l : List Spot)
  | wait
  | kill (src : Nat) (pa : Option Nat)
deriving DecidableEq, Repr

/-- Whether no copy of the wing serves an access to a line: it has to reach the line's home. A store needs ownership. -/
def State.leaves (s : State) (w line : Nat) (wr : Bool) : Bool :=
  match s.held w line, s.landed w line with
  | some c, _ => wr && decide (c.st = .s)
  | none, some e => wr && e.sent
  | none, none => wr || (s.rlineCopy w line).isNone

/-- Command `id` of wing `w` has an access held at the stack of a line, if it is that which holds it. -/
def State.holdAt (s : State) (line w id : Nat) : State :=
  match regionOf (line * 64) with
  | .stack j =>
    if !s.stackHeld line then s
    else
    let k := s.stack j
    if k.waiters.contains (w, id) then s else s.setStack j { k with waiters := (w, id) :: k.waiters }
  | _ => s

/-- What an access by wing `w` to a line of memory meets on its way: its home's poison where a ring hallway is down (R15),
a wait for a held stack (R222) or a training hallway (R302). -/
def State.way (s : State) (w a : Nat) (wr : Bool) : Tgt :=
  if !s.leaves w (a / 64) wr then .mem a
  else if s.hallCut (w / 8) (homeDie (a / 64)) then .lost a
  else if s.accessHeld (w / 8) (a / 64) wr then .wait
  else .mem a

/-- A place that the Shelf of room `g` gives: the tile of an aperture address in its frame, where it is RESIDENT, for the
case that the line leaves the Shelf before it is read. -/
def State.shelfSpot (s : State) (pa : Nat) : Tgt :=
  if regionOf pa = .tier && (s.tile (tileOf pa)).1 = .resident then
    .mem (s.frameAddr (s.tile (tileOf pa)).2 + (pa - tierBase) % 65536)
  else .mem pa

/-- The access with first byte `va` is translated and its target found; a Shelf hit needs no target, but under a DEADLINE
every tile is touched (R80). -/
def State.spot (s : State) (q : Engine) (va : Nat) (late : Bool) : Spot × State :=
  let key := va / 64
  if 2 ^ 60 ≤ key then (⟨key, 0, .mem 0⟩, s)
  else
    let r := s.xlate q.g q.who.master q.cmd.ctx va q.access q.cmd.id
    match r.1 with
    | .kill k => (⟨key, 0, .kill k⟩, r.2)
    | .wait => (⟨key, 0, .wait⟩, r.2)
    | .ok pa =>
      if q.shelf && !late && (r.2.shelfLine q.g (pa / 64)).isSome then (⟨key, pa, r.2.shelfSpot pa⟩, r.2)
      else
        let wr := decide (q.access = 1 ∨ q.access = 2)
        let t := r.2.target pa (q.g / 64) (r.2.ctxRec q.cmd.ctx).suite q.cmd.ctx (cmdKey q.wing q.cmd.id) wr late
        match t.1 with
        | .mem a => (⟨key, pa, t.2.way q.wing a wr⟩,
            if t.2.way q.wing a wr = .wait then t.2.holdAt (a / 64) q.wing q.cmd.id else t.2)
        | .page a =>
          let d := ((pageReg a).wing.getD q.wing) / 8
          (⟨key, pa, if t.2.hallCut (q.g / 64) d then .lost a else if t.2.hallHeld (q.g / 64) d then .wait else .page a⟩, t.2)
        | x => (⟨key, pa, x⟩, t.2)

/-- Accesses that are not reached: an earlier one of their engine waits. -/
def notYet (vas : List Nat) : List Spot := vas.map fun va => ⟨va / 64, 0, .wait⟩

/-- The accesses with given first bytes planned one by one, in order; the engine stalls at the first that waits
(R277), unless it touches them all (`late`, R80). -/
def State.spots (s : State) (q : Engine) (late : Bool) : List Nat → List Spot × State
  | [] => ([], s)
  | va :: t =>
    let r := s.spot q va late
    if !late && decide (r.1.tgt = .wait) then (r.1 :: notYet t, r.2)
    else
      let u := r.2.spots q late t
      (r.1 :: u.1, u.2)

/-- The plan of a list of accesses: the first refusal, else a wait for any of them, else all of them. An access
of these engines to the remote window is refused as one to a forbidden range (R316), unless `rem` allows it. -/
def planOf (rem : Bool) (l : List Spot) : Plan :=
  match l.findSome? (fun x => match x.tgt with
      | .kill k => some (k, if k = 0x22 then none else some (x.pa : Nat))
      | .remote a => if rem then none else some (0x20, some a)
      | _ => none) with
  | some (k, pa) => .kill k pa
  | none => if l.any fun x => x.tgt = .wait then .wait else .ready l

/-- Accesses planned for an engine, each once. -/
def State.plan (s : State) (q : Engine) (vas : List Nat) (late rem : Bool) : Plan × State :=
  let r := s.spots q late (oncePer vas)
  (planOf rem r.1, r.2)

/-- A refused access raises a contained fault against the context (R19, R27, R270). -/
def State.raiseC2 (s : State) (q : Engine) (src : Nat) (pa : Option Nat) : State :=
  s.capture (q.g / 64) { accReport src q.who.master q.access (pa.getD 0) (some q.cmd.ctx) with
                           addr := pa.map fun a => BitVec.ofNat 56 (a / 16 * 16) }

/-! ### Reads -/

/-- Bytes of a line, each with the poison of its word. -/
def lineMarks (l : LineData) : List (Byte × Bool) :=
  l.bytes.zipIdx.map fun x => (x.1, l.poisoned (x.2 / 16))

/-- Bytes that the outside of the module answers with: the manual leaves them open. -/
def freeLine (n : Nat) : LineData := ⟨BitVec.ofNat 512 n, 0⟩

/-- A line of the aperture that the Shelf no longer gives, of a tile that is not RESIDENT: what the tile holds once it is,
for which the access waits (R78, R257). -/
def State.tileLine (s : State) (q : Engine) (pa : Nat) : LineData × State :=
  let t := tileOf pa
  let key := cmdKey q.wing q.cmd.id
  let l := if (s.tile t).1 = .evicting then s.peek ((s.frameAddr (s.tile t).2 + (pa - tierBase) % 65536) / 64)
    else s.cellarLine ((pa - tierBase) / 64 * 64) false
  (l, (s.stall key t (q.g / 64)).needTile key t (q.g / 64) (s.ctxRec q.cmd.ctx).suite q.cmd.ctx)

/-- A line read by an engine: from the Shelf, coherently through the wing cache, or from where it lies. -/
def State.readAt (s : State) (q : Engine) (x : Spot) : LineData × State :=
  match x.tgt with
  | .mem a =>
    match (if q.shelf then s.shelfLine q.g (x.pa / 64) else none) with
    | some l => s.shelfRead q.g q.who (x.pa / 64) l
    | none =>
      let r := if regionOf a = .tier then s.tileLine q x.pa
        else (if regionOf x.pa = .tier then s.markTile (q.g / 64) (tileOf x.pa) else s).wingRead q.wing q.who (a / 64) q.keep
      if q.shelf && q.keep then (r.1, r.2.shelfFill q.g (x.pa / 64) r.1) else r
  | .pcie a => (freeLine s.freeVal, s.drawFree.pcieAsk (a / 64 * 64) 64)
  | .page a =>
    (lineOfBytes ((List.range 8).flatMap fun i => toBytes 8 (s.pageRead (a / 64 * 64 + 8 * i))), s)
  | .lost _ => (poisonLine, s)
  | _ => (LineData.zero, s)

/-- The bytes that a planned access yields. -/
def State.readSpot (s : State) (q : Engine) (x : Spot) : List (Byte × Bool) × State :=
  if 2 ^ 60 ≤ x.key then s.larderRead q.g q.who ((x.key - 2 ^ 60) * 16) 16
  else
    let r := s.readAt q x
    (lineMarks r.1, r.2)

/-- Every planned access made, those that the Shelf serves first, before a fill can take their place there: the bytes by
access. -/
def State.readAll (s : State) (q : Engine) (l : List Spot) : Tab (List (Byte × Bool)) × State :=
  let hit := fun (x : Spot) => q.shelf && (s.shelfLine q.g (x.pa / 64)).isSome
  (l.filter hit ++ l.filter fun x => !hit x).foldl (fun (a : Tab (List (Byte × Bool)) × State) x =>
    let r := a.2.readSpot q x
    ((x.key, r.1) :: a.1, r.2)) ([], s)

/-- Byte `o` after a place, as read. -/
def byteAt (t : Tab (List (Byte × Bool))) (l : Loc) (o : Nat) : Byte × Bool :=
  lget (0#8, false) (tget [] t (l.key o)) ((l.a + o) % l.unit)

/-- `n` bytes from a place, as read. -/
def bytesAt (t : Tab (List (Byte × Bool))) (l : Loc) (n : Nat) : List (Byte × Bool) :=
  (List.range n).map fun i => byteAt t l i

/-- Whether a word that holds one of `n` bytes from a place was read poisoned. -/
def anyBad (t : Tab (List (Byte × Bool))) (l : Loc) (n : Nat) : Bool := (bytesAt t l n).any fun x => x.2

/-! ### Writes -/

/-- Tracker `k` of a room. -/
def Room.trk (r : Room) (k : Nat) : Tracker := if k = 0 then r.trk0 else if k = 1 then r.trk1 else r.trk2
/-- The room with tracker `k` as given. -/
def Room.setTrk (r : Room) (k : Nat) (v : Tracker) : Room :=
  if k = 0 then { r with trk0 := v } else if k = 1 then { r with trk1 := v } else { r with trk2 := v }

/-- A full-line store of tracker `k` (R194): whether it is performed without allocation. -/
def State.track (s : State) (g k line : Nat) : Bool × State :=
  let r := s.room g
  let t := r.trk k
  let run := if line = t.last + 1 then t.run + 1 else 0
  let on := t.streaming || (decide (8 ≤ run) && s.regF (paCache (g / 8) 0) 48 48 = 1)
  (t.streaming, s.setRoom g (r.setTrk k ⟨line, run, on⟩))

/-- The output tile that an engine's command writes now: the next one that is not complete. -/
def Engine.tile (q : Engine) (s : State) : Nat := ((s.cmd q.wing q.cmd.id).map fun c => c.prog).getD 0

/-- A run of masked bytes written to a planned line by an engine; `al` is its allocation. -/
def State.writeLineAt (s : State) (q : Engine) (k : Nat) (x : Spot) (mask : BitVec 64) (l : LineData) (al : WAlloc) :
    State :=
  match x.tgt with
  | .mem a =>
    let s := s.noteWrite q.wing q.cmd.id (q.tile s) (a / 64) (x.key * 64)
    let t := if mask = fullMask then s.track q.g k (a / 64) else (false, s)
    let s := t.2.wingWrite q.wing q.who (a / 64) mask l (if t.1 && al = .keep then .stream else al)
    if q.cls = 2 then s.shelfMerge q.g (x.pa / 64) mask l else s.shelfInvalidate q.g (x.pa / 64 * 64) 64
  | .pcie a =>
    let on := (List.range 64).filter fun i => bitOf mask.toNat i
    s.pcieOut (a / 64 * 64 + on.headD 0) (on.map fun i => lget 0#8 l.bytes i)
  | .page a =>
    each (List.range 8) (fun i s =>
      let on := (List.range 8).filter fun j => bitOf mask.toNat (8 * i + j)
      if on = [] || l.poisoned (i / 2) then s
      else
        let p := 8 * i + on.headD 0
        s.pageWrite (a / 64 * 64 + p) on.length (ofBytes (slice l.bytes p on.length))) s
  | _ => s

/-- The line that part of a run of bytes from virtual address `a` makes: its byte mask and its data. -/
def lineOfRun (a : Nat) (bs : List (Byte × Bool)) (key : Nat) : BitVec 64 × LineData :=
  let x := sliceOf a (bs.map fun b => b.1) key
  let bad := fun (m : Nat) => (List.range 16).any fun i =>
    let p := key * 64 + 16 * m + i
    decide (a ≤ p) && (lget (0#8, false) bs (p - a)).2
  (x.1, ⟨BitVec.ofNat 512 x.2, BitVec.ofNat 4 (maskOf ((List.range 4).filter bad))⟩)

/-- A run of bytes written from a place under a plan that holds its accesses. -/
def State.writeRun (s : State) (q : Engine) (k : Nat) (al : WAlloc) (l : List Spot) (loc : Loc)
    (bs : List (Byte × Bool)) : State :=
  if loc.larder then s.larderWrite q.g q.who loc.a bs
  else each (loc.keys bs.length) (fun key s =>
    match l.find? fun x => x.key = key with
    | some x =>
      let y := lineOfRun loc.a bs key
      s.writeLineAt q k x y.1 y.2 al
    | none => s) s

/-! ### Commands at their engine -/

/-- The command with opcode `op` that an engine of room `g` works on next. -/
def State.headCmd (s : State) (g e op : Nat) : Option Cmd :=
  if !s.roomUp g then none
  else match s.engineHead g e with
    | some c => if c.op = op then some c else none
    | none => none

/-- A command with its present record of the wing. -/
def State.cmdNow (s : State) (g : Nat) (c : Cmd) : Cmd := (s.cmd (g / 8) c.id).getD c

/-- The house time of a command's DEADLINE; none when it has none. -/
def Cmd.deadline (c : Cmd) : Option Nat := if c.wd 3 = 0 then none else some (c.wd 3)

/-- The tier tiles that planned accesses reach. -/
def State.tilesOf (s : State) (l : List Spot) : List Nat :=
  (l.filterMap fun x => match x.tgt with
    | .mem a => match s.poolFrame a with
      | some f => (s.frame f).map fun r => r.tile
      | none => none
    | _ => none).eraseDups

/-- A command holds tiles against eviction until its record (R80, R256). -/
def State.holdTiles (s : State) (g : Nat) (c : Cmd) (tiles : List Nat) : State :=
  let s := each tiles (fun t s =>
    match s.frame (s.tile t).2 with
    | some f => s.setFrame (s.tile t).2 { f with holds := f.holds + 1 }
    | none => s) s
  s.putCmd (g / 8) { s.cmdNow g c with pages := tiles }

/-! ### Flag writes (R291, R292) -/

/-- Whether an address of host memory or of a stack lies in a valid flag window (R291, Table 11.8). A window is 4 KiB or
more, so a write of one line lies in it wholly or not at all. -/
def State.inWindow (s : State) (a : Nat) : Bool :=
  (List.range 16).any fun i =>
    let e := s.ent 0x8130 (i + 1)
    let lo := fld e 55 12 * 4096
    bitOf e 63 && decide (lo % 2 ^ fld e 5 0 = 0) && decide (lo ≤ a) && decide (a < lo + 2 ^ fld e 5 0) &&
    decide (regionOf lo = regionOf (lo + 2 ^ fld e 5 0 - 1))

/-- Runs of virtual memory that a command of an engine writes: first byte and bytes. -/
def Cmd.writesTo (c : Cmd) : List (Nat × Nat) :=
  let run := fun (w o n : Nat) => if (locOf (c.wd w) 0).larder then [] else [((locOf (c.wd w) o).a, n)]
  if c.op = 0x20 then (List.range (c.f 4 47 32 + 1)).flatMap fun r => run 2 (r * c.f 5 63 32) (c.f 4 31 0)
  else if c.op = 0x21 then run 2 0 (c.f 3 31 0)
  else if c.op = 3 && !bitOf (c.wd 1) 62 then
    let n := c.f 4 17 10 + 1
    if c.f 4 33 30 = 0xC then run 1 0 (1024 * n)
    else (List.range (c.f 4 29 24 + 1)).flatMap fun j =>
      run 1 (j * c.f 3 31 0) (n * fmtBits (c.f 4 33 30) / 8) ++
      (if bitOf (c.wd 4) 34 then run 2 (j * c.f 3 44 32) ((n + 31) / 32) else [])
  else []

/-- Whether a command still has writes to perform toward host memory (`host`) or toward the stacks. What a vector program
will yet store is not known before it ends. -/
def State.owesWrites (s : State) (c : Cmd) (host : Bool) : Bool :=
  c.status.isNone && (decide (c.st ≠ .committed) || decide (c.remote ≠ 0)) &&
  (c.op = 0x10 || c.writesTo.any fun x =>
    (List.range ((x.1 + x.2 - 1) / 4096 + 1 - x.1 / 4096)).any fun i =>
      (s.leadsTo c.ctx ((x.1 / 4096 + i) * 4096)).any fun pa => match regionOf pa with
        | .host => host
        | .stack _ => !host
        | .tier => !host
        | _ => false)

/-- The direction of a planned access that is a flag write (R291): toward host memory, or toward the stacks. -/
def State.flagWrite (s : State) (q : Engine) (x : Spot) : Option Bool :=
  if !q.cmd.bOrd || !(q.access = 1 || q.access = 2) then none
  else match x.tgt with
    | .mem a => if s.inWindow a then some (regionOf a = .host) else none
    | _ => none

/-- Flag writes in the given directions wait while an earlier command of their queue has writes to perform there; then the
reduce lines that it left with the wing's holders go home (R292). Every other write is performed as it is made. -/
def State.flagsReady (s : State) (q : Engine) (l : List Bool) : Bool × State :=
  let before := (s.wing q.wing).cmds.filter fun c => decide (c.queue = q.cmd.queue) && decide (c.id < q.cmd.id)
  if l.any fun h => before.any fun c => s.owesWrites c h then (false, s)
  else (true, if l.contains false then s.rlineFence q.wing 6 else s)

/-- What a command finds before its first effect: it may go on under a plan, waits, or has ended. -/
inductive Ready where
  | go (l : List Spot)
  | wait
  | ended
deriving DecidableEq, Repr

/-- The tiles of the aperture that physical addresses name. -/
def aperture (l : List Nat) : List Nat :=
  (l.filterMap fun pa => if regionOf pa = .tier then some (tileOf pa) else none).eraseDups

/-- The addresses that the accesses of a command translate to, up to the first that waits for its translation: whether
there is one, and the addresses. -/
def State.addresses (s : State) (legs : List (Engine × List Nat)) : (Bool × List Nat) × State :=
  (legs.flatMap fun x => (oncePer x.2).map fun va => (x.1, va)).foldl
    (fun (a : (Bool × List Nat) × State) x =>
      if a.1.1 || decide (2 ^ 60 ≤ x.2 / 64) then a
      else
        let r := a.2.xlate x.1.g x.1.who.master x.1.cmd.ctx x.2 x.1.access x.1.cmd.id
        match r.1 with
        | .ok pa => ((false, pa :: a.1.2), r.2)
        | .wait => ((true, a.1.2), r.2)
        | .kill _ => (a.1, r.2)) ((false, []), s)

/-- A command before its first effect waits, or ends TIER_LATE at its DEADLINE (R80). -/
def State.waitLate (s : State) (q : Engine) (fresh : Bool) : Ready × State :=
  match q.cmd.deadline with
  | some d => if fresh && decide (d ≤ s.house) then (.ended, s.endCmd q.wing q.cmd.id stTIER_LATE) else (.wait, s)
  | none => (.wait, s)

/-- The accesses of a command before its first effect (R80, R256), in legs of one kind of access each: with a
DEADLINE it touches all of them first and holds the tiles, ending TIER_LATE at the deadline, and UNSUPPORTED, before it
touches any, with more than 256 tiles; without one it stalls. A refused access kills its context, and is reported as its leg's. -/
def State.readyLegs (s : State) (q : Engine) (legs : List (Engine × List Nat)) (rem : Bool) : Ready × State :=
  let fresh := decide (q.cmd.st = .issued)
  let late := q.cmd.deadline.isSome && fresh
  let n := if late then s.addresses legs else ((false, []), s)
  let s := n.2
  if n.1.1 then s.waitLate q fresh
  else if 256 < (aperture n.1.2).length then (.ended, s.endCmd q.wing q.cmd.id stUNSUP)
  else
  let a := legs.foldl (fun (a : List (Engine × List Spot) × State) x =>
    let r := if !late && a.1.any (fun y => y.2.any fun z => z.tgt = .wait) then (notYet (oncePer x.2), a.2)
      else a.2.spots x.1 late (oncePer x.2)
    (a.1 ++ [(x.1, r.1)], r.2)) ([], s)
  let l := a.1.flatMap fun x => x.2
  let s := a.2
  match planOf rem l with
  | .kill k pa =>
    let by_ := (a.1.find? fun x => match planOf rem x.2 with | .kill _ _ => true | _ => false).map fun x => x.1
    (.ended, s.raiseC2 (by_.getD q) k pa)
  | .wait => s.waitLate q fresh
  | .ready l =>
    let f := s.flagsReady q (a.1.flatMap fun x => x.2.filterMap fun y => s.flagWrite x.1 y)
    if !f.1 then (.wait, f.2)
    else (.go l, if late then f.2.holdTiles q.g q.cmd (f.2.tilesOf l) else f.2)

/-- The accesses of one kind of a command before its first effect. -/
def State.ready (s : State) (q : Engine) (vas : List Nat) (rem : Bool) : Ready × State :=
  s.readyLegs q [(q, vas)] rem

/-- Command `id` at an engine of room `g` has begun on output bytes and holds before it writes them. -/
def State.begun (s : State) (g id : Nat) (e : Dirty) : State :=
  match s.cmd (g / 8) id with
  | some c => s.putCmd (g / 8) { c with dirty := some e }
  | none => s

end Sys2Proof.Machine
end

