-- ==== Sys2Proof/Machine/Array.lean ====
section
/-! DEFINITION. The room array's layouts and sums (chapter 3): stored tiles and stationary blocks (R73 to R77),
the sums of a pass and its two checks (R82 to R85), and its commit (R67, R68). -/

namespace Sys2Proof.Machine

/-! ### Layouts -/

/-- The offset of byte (r, c) of a T256 tile (R73). -/
def tileOff (r c : Nat) : Nat := 256 * (16 * (r / 16) + ((c / 16) ^^^ (r / 16))) + 16 * (r % 16) + c % 16

/-- Element `e` of `w` bits of a packed row whose byte `c` is `f c` (R34, R73, R76). -/
def elemAt (f : Nat → Byte) (w e : Nat) : Nat :=
  ofBytes ((List.range ((w * e % 8 + w + 7) / 8)).map fun i => f (w * e / 8 + i)) / 2 ^ (w * e % 8) % 2 ^ w

/-- The bytes that `n` packed elements of `w` bits take. -/
def packedBytes (w n : Nat) : Nat := (w * n + 7) / 8

/-- The exact scaled value of an element as m × 2^e; none when any product of it is special (R35, R36, R45). -/
def scaledVal (fmt code sc : Nat) : Option (Int × Int) :=
  if fmtClass fmt = 2 then (decodeElem fmt code).int?
  else if sc = 0xFF then none
  else (decodeElem fmt code).int?.map fun x => (x.1, x.2 + ((sc : Int) - 127))

/-- The exact sum of values m × 2^e, as one of them. -/
def sumVals (l : List (Int × Int)) : Int × Int :=
  match l with
  | [] => (0, 0)
  | x :: t =>
    let e := t.foldl (fun m y => min m y.2) x.2
    (l.foldl (fun a y => a + y.1 * 2 ^ (y.2 - e).toNat) 0, e)

/-- Whether |x| > |y| × 2^96. -/
def farAbove (x y : Int × Int) : Bool :=
  let d := x.2 - y.2 - 96
  if 0 ≤ d then decide (x.1.natAbs * 2 ^ d.toNat > y.1.natAbs) else decide (x.1.natAbs > y.1.natAbs * 2 ^ (-d).toNat)

/-- Whether two non-zero magnitudes of a list differ by more than a factor of 2^96 (R85). -/
def tooWide (l : List (Int × Int)) : Bool :=
  let nz := l.filter fun x => decide (x.1 ≠ 0)
  nz.any fun x => nz.any fun y => farAbove x y

/-! ### LOAD_STATIONARY (R69, R76, R82) -/

/-- The slot that a load's bytes make. -/
def loadedSlot (c : Cmd) (t : Tab (List (Byte × Bool))) : Slot :=
  let fmt := c.f 5 4 1
  let k := c.f 5 14 5 + 1
  let b := c.f 5 21 15 + 1
  let w := fmtBits fmt
  let cell := fun (i j : Nat) =>
    let col := locOf (c.wd 1) (j * c.f 4 31 0)
    let sc := if fmtClass fmt = 2 then 127 else (byteAt t (locOf (c.wd 2) (j * c.f 4 44 32)) (i / 32)).1.toNat
    (BitVec.ofNat 16 (elemAt (fun o => (byteAt t col o).1) w i), BitVec.ofNat 8 sc)
  let x := (List.range k).map fun i => (List.range b).map fun j => cell i j
  ⟨true, stOK, BitVec.ofNat 4 fmt, k, b, x,
   x.map fun row => sumVals (row.filterMap fun e => scaledVal fmt e.1.toNat e.2.toNat)⟩

/-- The places and lengths that a load reads: its columns and their scales. -/
def loadPlaces (c : Cmd) : List (Loc × Nat) :=
  let fmt := c.f 5 4 1
  let k := c.f 5 14 5 + 1
  (List.range (c.f 5 21 15 + 1)).flatMap fun j =>
    (locOf (c.wd 1) (j * c.f 4 31 0), packedBytes (fmtBits fmt) k) ::
    (if fmtClass fmt = 2 then [] else [(locOf (c.wd 2) (j * c.f 4 44 32), (k + 31) / 32)])

/-! ### Streamed rows (Table 3.6) -/

/-- Fields of a MATMUL. -/
def Cmd.wfmt (c : Cmd) : Nat := c.f 5 32 29
/-- ORIENT is ACROSS. -/
def Cmd.across (c : Cmd) : Bool := bitOf (c.wd 5) 33
/-- PASSES. -/
def Cmd.passes (c : Cmd) : Nat := c.f 5 20 19 + 1
/-- BANK of pass `p`. -/
def Cmd.bankOf (c : Cmd) (p : Nat) : Nat := (c.f 5 18 17 + p) % 4
/-- FRESH. -/
def Cmd.fresh (c : Cmd) : Bool := bitOf (c.wd 5) 35
/-- Rows of pass `p` (R70). -/
def Cmd.rowsOf (c : Cmd) (p : Nat) : Nat :=
  if p + 1 = c.passes then c.f 5 28 21 + 1 else if c.across && fmtClass c.wfmt = 2 then 128 else 256
/-- Bytes of a scale entry (R74). -/
def entryBytes (cls : Nat) : Nat := if cls = 0 then 2048 else 4096

/-- Where streamed element k of row n of a pass is stored: 1 for the pair partner's tile, its stored row and
its element in the row (Table 3.6). -/
def storedAt (c : Cmd) (p n k : Nat) : Nat × Nat × Nat :=
  if !c.across then (0, n, k)
  else match fmtClass c.wfmt with
    | 1 => (k / 256, k % 256, 256 * (p % 2) + n)
    | 2 => (0, 128 * c.f 5 34 34 + k, n)
    | _ => (0, k, n)

/-- The tile of a pass, or its pair partner (R75). -/
def tileLoc (c : Cmd) (p part : Nat) : Loc :=
  let t := if c.across && fmtClass c.wfmt = 1 then p / 2 else p
  locOf (c.wd 1) (t * (c.f 4 31 0 * 65536) + part * (c.f 4 63 32 * 65536))
/-- The scale entry of a tile of a pass (R75). -/
def entryLoc (c : Cmd) (p part : Nat) : Loc :=
  let t := if c.across && fmtClass c.wfmt = 1 then p / 2 else p
  locOf (c.wd 2) ((t * c.f 4 31 0 + part * c.f 4 63 32) * entryBytes (fmtClass c.wfmt))
/-- The tiles of a pass: one, or a pair. -/
def tileParts (c : Cmd) : List Nat := if c.across && fmtClass c.wfmt = 1 then [0, 1] else [0]

/-- The stored rows that a pass reads of each of its tiles. -/
def storedRows (c : Cmd) (p : Nat) : List Nat :=
  if !c.across then List.range (c.rowsOf p)
  else if fmtClass c.wfmt = 2 then (List.range 128).map fun i => 128 * c.f 5 34 34 + i
  else List.range 256
/-- The elements of a stored row that a pass reads. -/
def storedElems (c : Cmd) (p : Nat) : List Nat :=
  if !c.across then List.range (kPass (fmtClass c.wfmt))
  else if fmtClass c.wfmt = 1 then (List.range (c.rowsOf p)).map fun j => 256 * (p % 2) + j
  else List.range (c.rowsOf p)

/-- The granules of a tile that a pass streams, as places (R73, R78). -/
def granules (c : Cmd) (p part : Nat) : List Loc :=
  let w := fmtBits c.wfmt
  let cols := ((storedElems c p).flatMap fun e => [w * e / 128, (w * e + w - 1) / 128]).eraseDups
  let rows := ((storedRows c p).map fun r => r / 16).eraseDups
  rows.flatMap fun r => cols.map fun k => { tileLoc c p part with a := (tileLoc c p part).a + 256 * (16 * r + (k ^^^ r)) }

/-- The scale bytes of an entry that a pass reads, as places (R74). -/
def scalePlaces (c : Cmd) (p part : Nat) : List Loc :=
  if fmtClass c.wfmt = 2 then []
  else
    let n := kPass (fmtClass c.wfmt) / 32
    let js := ((storedElems c p).map fun e => e / 32).eraseDups
    (storedRows c p).flatMap fun r => js.map fun j => { entryLoc c p part with a := (entryLoc c p part).a + r * n + j }

/-- The accesses of the scales of a pass. -/
def scaleKeys (c : Cmd) (p : Nat) : List Nat := (tileParts c).flatMap fun i => (scalePlaces c p i).flatMap fun l => l.firsts 1
/-- The accesses of a pass. -/
def passKeys (c : Cmd) (p : Nat) : List Nat :=
  ((tileParts c).flatMap fun i => (granules c p i).flatMap fun l => l.firsts 256) ++ scaleKeys c p

/-- Whether a granule or scale word of a pass was read poisoned (R89). -/
def passBad (c : Cmd) (p : Nat) (t : Tab (List (Byte × Bool))) : Bool :=
  (tileParts c).any fun i => (granules c p i).any (fun l => anyBad t l 256) || (scalePlaces c p i).any (fun l => anyBad t l 1)

/-- The scaled value of element k of row n of a pass. -/
def streamedVal (c : Cmd) (p n k : Nat) (t : Tab (List (Byte × Bool))) : Option (Int × Int) :=
  let x := storedAt c p n k
  let tile := tileLoc c p x.1
  let code := elemAt (fun b => (byteAt t tile (tileOff x.2.1 b)).1) (fmtBits c.wfmt) x.2.2
  let sc := if fmtClass c.wfmt = 2 then 127
    else (byteAt t (entryLoc c p x.1) (x.2.1 * (kPass (fmtClass c.wfmt) / 32) + x.2.2 / 32)).1.toNat
  scaledVal c.wfmt code sc

/-! ### Window words (R46 to R49) -/

/-- F of Table 2.4. -/
def boundExp (fmt : Nat) : Int :=
  match fmt with
  | 0 => 9
  | 1 => 16
  | 2 => 5
  | 3 => 3
  | 4 => 3
  | _ => 8

/-- SA: the least exponent above every finite scaled stationary value; none when all are zero (R49). -/
def slotTop (v : Slot) : Option Int :=
  let l := v.x.flatMap fun row => row.filterMap fun e =>
    match scaledVal v.fmt.toNat e.1.toNat e.2.toNat with
    | some (m, x) => if m = 0 then none else some ((Nat.log2 m.natAbs : Int) + x + 1)
    | none => none
  l.foldl (fun (a : Option Int) y => match a with | none => some y | some m => some (max m y)) none

/-- W under AUTO (R49). -/
def autoWindow (c : Cmd) (v : Slot) (t : Tab (List (Byte × Bool))) : Int :=
  let codes := (List.range c.passes).flatMap fun p => (tileParts c).flatMap fun i =>
    (scalePlaces c p i).map fun l => (byteAt t l 0).1.toNat
  let sb := (codes.filter fun x => decide (x ≠ 0xFF)).foldl (fun (a : Option Nat) y => match a with | none => some y | some m => some (max m y)) none
  match slotTop v, sb with
  | some a, some b => max (-512) (min 511 (a + ((b : Int) - 127 + boundExp c.wfmt) + c.bHead))
  | _, _ => -512

/-! ### One execution of a pass (R39 to R45, R82 to R85) -/

/-- Products summed under a window: the sum, its flags and whether one was clamped. -/
def sumProducts (w : Int) (l : List ((Int × Int) × (Int × Int))) : Int × BitVec 8 :=
  l.foldl (fun (a : Int × BitVec 8) x =>
    let q := windowQ w (x.1.1 * x.2.1) (x.1.2 + x.2.2)
    (a.1 + q.1, a.2 ||| q.2)) (0, 0#8)

/-- The pass buffer and checks of one execution, `ws` holding every streamed element of each row. DESIGN CHOICE: a check
that is skipped for a spread of 2^96 forms no checksum products, so their clamping cannot skip the other check too; R85 does
not say. -/
def runPass (v : Slot) (w : Int) (ws : List (List (Option (Int × Int)))) (run : PassRun) : PassRun :=
  let xs := v.x.map fun row => row.map fun e => scaledVal v.fmt.toNat e.1.toNat e.2.toNat
  let col := fun (j : Nat) => xs.map fun row => lget none row j
  let js := List.range v.bc
  let ps := ws.map fun wr => js.map fun j =>
    sumProducts w ((col j).zip wr |>.filterMap fun e => match e.1, e.2 with | some a, some b => some (a, b) | _, _ => none)
  let special := (ws.zipIdx.flatMap fun wr => js.filterMap fun j =>
    if ((col j).zip wr.1).any (fun e => e.1.isNone || e.2.isNone) then some (64 * wr.2 + j) else none)
  let pf := (ps.flatMap fun r => r.map fun e => e.2).foldl (fun a b => a ||| b) 0#8
  let dataOv := decide (pf &&& nfOV ≠ 0#8)
  let colWide := xs.any fun row => tooWide (row.filterMap fun e => e)
  let wcol := fun (k : Nat) => ws.filterMap fun wr => lget none wr k
  let rowWide := (List.range (lget [] ws 0).length).any fun k => tooWide (wcol k)
  let none_ := dataOv || decide (special ≠ [])
  let cs := if none_ || colWide then [] else ws.map fun wr =>
    sumProducts w (v.sums.zip wr |>.filterMap fun e => e.2.map fun b => (e.1, b))
  let us := (List.range v.kc).map fun k => sumVals (wcol k)
  let rs := if none_ || rowWide then [] else js.map fun j =>
    sumProducts w ((col j).zip us |>.filterMap fun e => e.1.map fun a => (a, e.2))
  let sumOv := (cs ++ rs).any fun e => decide (e.2 &&& nfOV ≠ 0#8)
  { run with
    win := w
    rows := ws.length
    buf := ps.map fun r => r.map fun e => e.1
    special := special
    colSums := cs.map fun e => e.1
    rowSums := rs.map fun e => e.1
    skipCol := none_ || colWide || sumOv
    skipRow := none_ || rowWide || sumOv
    held := false
    stage := .streaming
    flags := pf ||| (if special = [] then 0#8 else nfNR) }

/-- The column sums as an upset array delivered them (R84). -/
def upsetBuf (buf : List (List Int)) (hits : List Upset) : List (List Int) :=
  hits.foldl (fun b h => b.set h.n ((lget [] b h.n).set h.b (lget 0 (lget [] b h.n) h.b + h.delta))) buf

/-- The rows n whose column check mismatches, and the columns b whose row check does (R84). -/
def mismatches (cls : Nat) (run : PassRun) : List Nat × List Nat :=
  let t : Nat := if cls = 1 then 131072 else 65536
  let far := fun (x y : Int) => decide (t ≤ (x - y).natAbs)
  let rows := if run.skipCol then [] else
    (run.colSums.zip run.buf).zipIdx.filterMap fun e => if far e.1.1 (e.1.2.foldl (· + ·) 0) then some e.2 else none
  let cols := if run.skipRow then [] else
    run.rowSums.zipIdx.filterMap fun e =>
      if far e.1 ((run.buf.map fun r => lget 0 r e.2).foldl (· + ·) 0) then some e.2 else none
  (rows, cols)

/-! ### The accumulator store (R66 to R68, R456) -/

/-- Bank `k` of a room. -/
def Room.bank (r : Room) (k : Nat) : Bank :=
  if k = 0 then r.bank0 else if k = 1 then r.bank1 else if k = 2 then r.bank2 else r.bank3
/-- The room with bank `k` as given. -/
def Room.setBank (r : Room) (k : Nat) (v : Bank) : Room :=
  if k = 0 then { r with bank0 := v } else if k = 1 then { r with bank1 := v }
  else if k = 2 then { r with bank2 := v } else { r with bank3 := v }

/-- A slot of the die's Breaker is armed on the checker of a room for data words in a direction. -/
def State.armedOn (s : State) (g dir : Nat) : Bool :=
  (List.range 8).any fun k =>
    let ctl := s.regN (paBreaker (g / 64) (0x100 + 0x20 * k))
    fld ctl 63 48 = (roomTarget g).toNat && fld ctl 45 44 = 0 && fld ctl 43 42 ≠ 0 && fld ctl 41 41 = dir &&
    fld ctl 15 0 ≠ 0

/-- The room-local offset of a code word of position (n, b) of bank `k` (R456). -/
def accWord (k n b i : Nat) : Nat := 0x200000 + k * 0x80000 + n * 0x800 + b * 0x20 + 16 * i

/-- The room array as the reader of its own store. -/
def arrayWho (g : Nat) (ctx : Option Nat) : Who := ⟨roomAgent 4 g, 0, ctx⟩

/-- The two words of a position are read: whether its code cannot correct one of them. -/
def State.readAcc (s : State) (g k n b : Nat) (ctx : Option Nat) : Bool × State :=
  [0, 1].foldl (fun (a : Bool × State) i =>
    let o := accWord k n b i
    let r := a.2.roomLoad g (arrayWho g ctx) true o 0 (tget 0#16 ((a.2.room g).bank k).code o)
    (a.1 || r.1.2, r.2)) (false, s)

/-- The two words of a position are written, poisoned or not. -/
def State.writeAcc (s : State) (g k n b : Nat) (psn : Bool) : State :=
  each [0, 1] (fun i s =>
    let o := accWord k n b i
    let d := s.roomStore g o psn
    let r := d.2.room g
    d.2.setRoom g (r.setBank k { r.bank k with code := tput 0#16 o d.1 (r.bank k).code })) s

/-- The code words of rows 0 to `rows` − 1 of a bank are rewritten; `keep` first reads what they held. -/
def State.rewriteAcc (s : State) (g k rows cols : Nat) (keep : Bool) (ctx : Option Nat) : State :=
  if s.armedOn g 0 || (keep && (s.armedOn g 1 || decide (((s.room g).bank k).code ≠ []))) then
    each (List.range rows) (fun n s => each (List.range cols) (fun b s =>
      let r := if keep then s.readAcc g k n b ctx else (false, s)
      r.2.writeAcc g k n b r.1) s) s
  else
    let r := s.room g
    s.setRoom g (r.setBank k { r.bank k with code := (r.bank k).code.filter fun e => decide (accWord k rows 0 0 ≤ e.1) })

/-- A pass commits into its bank (R67, R68). -/
def commitBank (b : Bank) (fresh : Bool) (cls kc : Nat) (run : PassRun) : Bank :=
  let old := if fresh then { Bank.reset with chain := true, w := run.win, cls := cls, code := b.code } else b
  let cells := run.buf.zipIdx.flatMap fun r => r.1.zipIdx.map fun x => (64 * r.2 + x.2, x.1)
  { old with
    acc := cells.foldl (fun t x => tput 0 x.1 (tget 0 t x.1 + x.2) t) old.acc
    nar := old.nar ++ run.special.filter fun x => !old.nar.contains x
    count := old.count + kc }

end Sys2Proof.Machine
end

