-- ==== Sys2Proof/Machine/ArrayCmds.lean ====
section
/-! DEFINITION. The array commands of a room: LOAD_STATIONARY, MATMUL with its passes, and DRAIN (R69 to R72, R84
to R92), and the trackers' timeout (R194). -/

namespace Sys2Proof.Machine

/-! ### LOAD_STATIONARY -/

/-- The stream unit at work for a command. -/
def streamUnit (g : Nat) (c : Cmd) (keep : Bool) : Engine := ⟨g, 1, 7, c, true, keep⟩

/-- LOAD_STATIONARY reads its block (R69, R89, R138). -/
def State.startLoad (s : State) (g : Nat) : State :=
  match s.headCmd g 0 2 with
  | none => s
  | some c =>
    if (s.room g).loadRun.isSome then s
    else if (loadPlaces c).any fun x => x.1.past x.2 then s.endCmd (g / 8) c.id stUNSUP
    else
      let q := streamUnit g c (bitOf (c.wd 5) 22)
      let r := s.ready q ((loadPlaces c).flatMap fun x => x.1.firsts x.2) false
      match r.1 with
      | .go l =>
        let t := r.2.readAll q l
        if (loadPlaces c).any fun x => anyBad t.1 x.1 x.2 then t.2.endCmd (g / 8) c.id stPOISON
        else
          let s := t.2.putCmd (g / 8) { t.2.cmdNow g c with st := .running }
          s.setRoom g { s.room g with loadRun := some ⟨c.id, c.f 5 0 0, false, loadedSlot c t.1⟩ }
      | _ => r.2

/-- The last cell of a LOAD_STATIONARY is written (R91): its slot is valid. -/
def State.endLoad (s : State) (g : Nat) : State :=
  if !s.roomUp g then s
  else match (s.room g).loadRun with
    | none => s
    | some l =>
      let r := s.room g
      let s := s.setRoom g ({ r with loadRun := none }.setSlot l.slotNo l.slot)
      match s.cmd (g / 8) l.cmd with
      | some c => (s.putCmd (g / 8) { c with prog := 1 }).endCmd (g / 8) l.cmd stOK
      | none => s

/-- LOAD_STATIONARY. -/
def execLoadStationary (g : Nat) (s : State) : Host.Outcome State Fault Refusal :=
  act (decide (g < 256)) (fun s => s.startLoad g) s

/-- LOAD_COMPLETE. -/
def execLoadComplete (g : Nat) (s : State) : Host.Outcome State Fault Refusal :=
  act (decide (g < 256)) (fun s => s.endLoad g) s

/-! ### MATMUL -/

/-- The pass runs with its record in the room. -/
def State.setPass (s : State) (g : Nat) (p : Option PassRun) : State := s.setRoom g { s.room g with passRun := p }

/-- The pass in the array streams its rows against its slot, or holds for its source (R78, R79, R89). -/
def State.streamPass (s : State) (g : Nat) (c : Cmd) (run : PassRun) : State :=
  let q := streamUnit g c (bitOf (c.wd 5) 36)
  let r := s.ready q (passKeys c run.pass) false
  match r.1 with
  | .ended => r.2
  | .wait => r.2.setPass g (some { run with held := true, buf := [] })
  | .go l =>
    let t := r.2.readAll q l
    let s := t.2
    if passBad c run.pass t.1 then s.endCmd (g / 8) c.id stPOISON
    else
      let v := (s.room g).slot (c.f 5 16 16)
      let ws := (List.range (c.rowsOf run.pass)).map fun n => (List.range (kPass (fmtClass c.wfmt))).map fun k => streamedVal c run.pass n k t.1
      let run := runPass v run.win ws run
      let c := s.cmdNow g c
      (s.putCmd (g / 8) { c with num := c.num ||| run.flags }).setPass g (some run)

/-- A window word's W other than under AUTO (R46 to R48). -/
def Cmd.fixedW (c : Cmd) : Option Int :=
  match c.f 5 15 14 with
  | 0 => some (toSigned 10 (c.f 5 9 0))
  | 2 => some c.bWin
  | _ => none

/-- The window of a pass: the command's own, or under AUTO that of the chain it continues (R46). -/
def State.passWin (s : State) (g : Nat) (c : Cmd) (p : Nat) : Int :=
  match c.fixedW with
  | some w => w
  | none => if c.fresh then c.win.getD 0 else ((s.room g).bank (c.bankOf p)).w

/-- Why a MATMUL may not run on the slot and banks as they stand (R43, R46, R68, R70, R138). -/
def State.matmulStop (s : State) (g : Nat) (c : Cmd) : Option (BitVec 5) :=
  let r := s.room g
  let v := r.slot (c.f 5 16 16)
  let cls := fmtClass c.wfmt
  let ps := List.range c.passes
  let far := ps.any fun p => (tileParts c).any fun i =>
    (tileLoc c p i).past 65536 || (decide (cls ≠ 2) && (entryLoc c p i).past (entryBytes cls))
  let badBank := fun (p : Nat) =>
    let b := r.bank (c.bankOf p)
    !b.chain || decide (b.cls ≠ cls) || decide (16777216 < b.count + v.kc) ||
    (match c.fixedW with | some w => decide (w ≠ b.w) | none => false)
  if !v.loaded ∨ fmtClass v.fmt.toNat ≠ cls then some stUNSUP
  else if v.status ≠ stOK then some v.status
  else if far ∨ (!c.fresh ∧ ps.any badBank = true) then some stUNSUP
  else none

/-- The first pass begins under its window. -/
def State.beginPass (s : State) (g : Nat) (c : Cmd) (p : Nat) : State :=
  let run : PassRun := ⟨c.id, p, 0, .streaming, false, false, s.passWin g c p, 0, [], [], [], [], false, false, 0⟩
  (s.setPass g (some run)).streamPass g c run

/-- MATMUL begins: it checks, touches its tier tiles under a DEADLINE, finds its window, and streams (R47 to R49,
R70, R80). DESIGN CHOICE: AU is set where AUTO derives a window, under FRESH, and not where AUTO continues the window of a
chain; Table 2.7 does not say. -/
def State.startMatmul (s : State) (g : Nat) (c : Cmd) : State :=
  match s.matmulStop g c with
  | some st => s.endCmd (g / 8) c.id st
  | none =>
    let auto := c.fixedW.isNone && c.fresh
    let q := streamUnit g c (bitOf (c.wd 5) 36)
    let ps := List.range c.passes
    let all := if c.deadline.isSome then ps.flatMap fun p => passKeys c p else []
    let r := s.ready q all false
    match r.1 with
    | .go _ =>
      let a := if auto then r.2.ready { q with cmd := { r.2.cmdNow g c with st := .running } } (ps.flatMap fun p => scaleKeys c p) false
               else (.go [], r.2)
      match a.1 with
      | .go l =>
        let t := a.2.readAll q l
        let s := t.2
        let c := s.cmdNow g c
        let w := if auto then autoWindow c ((s.room g).slot (c.f 5 16 16)) t.1 else s.passWin g c 0
        let c := { c with st := .running, win := some w, num := c.num ||| (if auto then nfAU else 0#8) }
        (s.putCmd (g / 8) c).beginPass g c 0
      | _ => a.2
    | _ => r.2

/-- MATMUL at its engine: it begins, or streams the pass that its source held. -/
def State.goMatmul (s : State) (g : Nat) : State :=
  match s.headCmd g 0 1 with
  | none => s
  | some c =>
    match (s.room g).passRun with
    | none => s.startMatmul g c
    | some run => if run.held then s.streamPass g c run else s

/-- MATMUL. -/
def execMatmul (g : Nat) (s : State) : Host.Outcome State Fault Refusal :=
  act (decide (g < 256)) (fun s => s.goMatmul g) s

/-- STREAM_DATA_ARRIVAL. -/
def execStreamDataArrival (g : Nat) (s : State) : Host.Outcome State Fault Refusal :=
  act (decide (g < 256)) (fun s => s.goMatmul g) s

/-! ### Verdicts and commits -/

/-- The lowest slot armed to force a column check of a room (R424): its number and mode. -/
def State.arrayInj (s : State) (g : Nat) : Option (Nat × Nat) :=
  ((List.range 8).find? fun k =>
    let ctl := s.regN (paBreaker (g / 64) (0x100 + 0x20 * k))
    fld ctl 63 48 = (roomTarget g).toNat && fld ctl 45 44 = 3 && fld ctl 43 42 ≠ 0 && fld ctl 15 0 ≠ 0).map
  fun k => (k, s.regF (paBreaker (g / 64) (0x100 + 0x20 * k)) 43 42)

/-- The check record of Table 3.11. -/
def checkRecord (rows cols : List Nat) (rep : Bool) (p : Nat) : Nat :=
  b2n (rows.length = 1) * 2 ^ 31 + b2n (cols.length = 1) * 2 ^ 30 + b2n (decide (rows ≠ [])) * 2 ^ 29 +
  b2n (decide (cols ≠ [])) * 2 ^ 28 + b2n rep * 2 ^ 27 +
  (if rows.length = 1 then rows.headD 0 * 2 ^ 16 else 0) + (if cols.length = 1 then cols.headD 0 * 2 ^ 8 else 0) + p

/-- The verdict of the execution in the array (R84 to R87): `exec` 0 is a first execution; a second is 1, 2 when
an injection forces it too, or 3 when one forced the first only. -/
def State.verdict (s : State) (g : Nat) (hits : List Upset) : State :=
  if !s.roomUp g then s
  else match (s.room g).passRun with
    | none => s
    | some run =>
      if run.held ∨ run.buf = [] ∨ run.stage = .judged then s
      else match s.cmd (g / 8) run.cmd with
        | none => s
        | some c =>
          let d := g / 64
          let k := g % 64 + 1
          let run := { run with buf := upsetBuf run.buf hits }
          let m := mismatches (fmtClass c.wfmt) run
          let inj := if run.exec = 0 && !run.skipCol then s.arrayInj g else none
          let s := match inj with | some (i, _) => s.injUse d i | none => s
          let forced := inj.isSome || run.exec = 2
          let rows := if forced && !run.skipCol then (if m.1.contains 0 then m.1 else 0 :: m.1) else m.1
          let skip := run.skipCol || run.skipRow
          let s := if skip && !run.counted then s.incEnt (0x521C + d) k 1 else s
          let run := { run with counted := run.counted || skip }
          let rep := { plainReport 0x14 (roomAgent 4 g) with access := 7#3, contexts := [c.ctx] }
          if rows = [] && m.2 = [] then
            let s := if run.exec = 0 then s
              else (s.incEnt (0x5210 + d) k 1).capture d { rep with src := 0x03#8, inj := run.exec = 3 }
            s.setPass g (some { run with stage := .judged })
          else
            let s := s.setEnt (0x5218 + d) k (checkRecord rows m.2 (run.exec ≠ 0) run.pass)
            if run.exec ≠ 0 then
              let s := s.incEnt (0x5214 + d) k 1
              let sus := s.ent 0x1100 (0x13 + 0x10 * d)
              let s := s.setEnt 0x1100 (0x13 + 0x10 * d) (sus ||| 2 ^ (g % 64))
              (s.capture d { rep with inj := run.exec = 2 }).endCmd (g / 8) c.id stARRAY_CHECK
            else
              let e := match inj with | some (_, md) => if md = 2 then 2 else 3 | none => 1
              s.streamPass g c { run with exec := e, buf := [], stage := .streaming }

/-- PASS_VERDICT. -/
def execPassVerdict (g : Nat) (hits : List Upset) (s : State) : Host.Outcome State Fault Refusal :=
  act (decide (g < 256)) (fun s => s.verdict g hits) s

/-- A pass whose checks agree commits; the next pass streams, or the MATMUL ends (R67, R68, R91). -/
def State.commitPass (s : State) (g : Nat) : State :=
  if !s.roomUp g then s
  else match (s.room g).passRun with
    | none => s
    | some run =>
      if run.stage = .streaming then s
      else match s.cmd (g / 8) run.cmd with
        | none => s
        | some c =>
          let k := c.bankOf run.pass
          let cls := fmtClass c.wfmt
          let v := (s.room g).slot (c.f 5 16 16)
          let s := s.rewriteAcc g k (if c.fresh then 256 else run.rows) (colsOf cls) (!c.fresh) (some c.ctx)
          let r := s.room g
          let s := s.setRoom g ({ r with passRun := none }.setBank k (commitBank (r.bank k) c.fresh cls v.kc run))
          let c := { c with prog := c.prog + 1 }
          let s := s.putCmd (g / 8) c
          if run.pass + 1 = c.passes then s.endCmd (g / 8) c.id stOK else s.beginPass g c (run.pass + 1)

/-- PASS_COMMIT. -/
def execPassCommit (g : Nat) (s : State) : Host.Outcome State Fault Refusal :=
  act (decide (g < 256)) (fun s => s.commitPass g) s

/-! ### DRAIN (R50 to R54, R71, R89, R90, R121) -/

/-- N_FIRST, N_COUNT, B_FIRST and B_COUNT. -/
def Cmd.region (c : Cmd) : Nat × Nat × Nat × Nat := (c.f 4 9 2, c.f 4 17 10 + 1, c.f 4 23 18, c.f 4 29 24 + 1)
/-- TFMT. -/
def Cmd.tfmt (c : Cmd) : Nat := c.f 4 33 30
/-- MX. -/
def Cmd.mx (c : Cmd) : Bool := bitOf (c.wd 4) 34
/-- DST is the vector engine. -/
def Cmd.toVec (c : Cmd) : Bool := bitOf (c.wd 1) 62

/-- DRAIN begins once its bank passes the checks of R71 and R138. -/
def State.startDrain (s : State) (g : Nat) : State :=
  match s.headCmd g 0 3 with
  | none => s
  | some c =>
    if (s.room g).drainRun.isSome then s
    else
      let b := (s.room g).bank (c.f 4 1 0)
      let x := c.region
      let ext := if c.tfmt = 0xC then 16 * (64 * (x.2.1 - 1) + x.2.2.2)
        else (x.2.2.2 - 1) * c.f 3 31 0 + x.2.1 * fmtBits c.tfmt / 8
      let far := !c.toVec && ((locOf (c.wd 1) 0).past ext ||
        (c.mx && (locOf (c.wd 2) 0).past ((x.2.2.2 - 1) * c.f 3 44 32 + x.2.1 / 32)))
      if !b.chain ∨ (b.cls = 2 ∧ 32 < x.2.2.1 + x.2.2.2) ∨ far then s.endCmd (g / 8) c.id stUNSUP
      else
        let s := s.putCmd (g / 8) { c with st := .running, win := some b.w }
        s.setRoom g { s.room g with drainRun := some ⟨c.id, 0, false⟩ }

/-- The values of `cnt` rows of a drained region from its row `lo`: for each row, each drained column's value,
its poison and the flags of leaving the room. -/
def State.drainRows (s : State) (g : Nat) (c : Cmd) (lo cnt : Nat) : List (List (WVal × Bool × BitVec 8)) × State :=
  let k := c.f 4 1 0
  let x := c.region
  let loud := s.armedOn g 1 || decide (((s.room g).bank k).code ≠ [])
  (List.range cnt).foldl (fun (a : List (List (WVal × Bool × BitVec 8)) × State) i =>
    let n := x.1 + lo + i
    let r := (List.range x.2.2.2).foldl (fun (y : List (WVal × Bool × BitVec 8) × State) j =>
      let b := x.2.2.1 + j
      let z := if loud then y.2.readAcc g k n b (some c.ctx) else (false, y.2)
      let bk := (z.2.room g).bank k
      let v := leaveRoom (bk.nar.contains (64 * n + b)) (tget 0 bk.acc (64 * n + b))
      (y.1 ++ [(v.1, z.1, v.2)], z.2)) ([], a.2)
    (a.1 ++ [r.1], r.2)) ([], s)

/-- Elements packed into bytes (R34). -/
def packElems (w : Nat) (l : List Nat) : Bytes :=
  toBytes (packedBytes w l.length) (l.foldr (fun v a => v % 2 ^ w + 2 ^ w * a) 0)

/-- The output writes of a group of rows: places, bytes with poison, and the flags (R50 to R54, R76, R89). -/
def groupItems (c : Cmd) (w : Int) (lo : Nat) (rows : List (List (WVal × Bool × BitVec 8))) :
    List (Loc × List (Byte × Bool)) × BitVec 8 :=
  let own := (rows.flatMap fun r => r.map fun e => e.2.2).foldl (fun a b => a ||| b) 0#8
  if c.tfmt = 0xC then
    (rows.zipIdx.map fun r =>
      (locOf (c.wd 1) (1024 * (lo + r.2)), r.1.flatMap fun e =>
        (toBytes 16 (match e.1 with | .nar => narCode.toNat | .val a => (partialBits a).toNat)).map fun b => (b, e.2.1)),
     if rows.any (fun r => r.any fun e => e.1 = .nar) then own ||| nfNR else own)
  else
    let bits := fmtBits c.tfmt
    match fmtOf c.tfmt with
    | none => ([], own)
    | some f =>
      (List.range c.region.2.2.2).foldl (fun (a : List (Loc × List (Byte × Bool)) × BitVec 8) j =>
        let col := rows.map fun r => lget (.nar, false, 0#8) r j
        let place := locOf (c.wd 1) (j * c.f 3 31 0 + lo * bits / 8)
        if c.mx then
          let m := convMX f w (col.map fun e => e.1)
          let bad := col.any fun e => e.2.1
          (a.1 ++ [(place, (packElems bits m.2.1).map fun b => (b, bad)),
                   (locOf (c.wd 2) (j * c.f 3 44 32 + lo / 32), [(BitVec.ofNat 8 m.1, bad)])], a.2 ||| m.2.2)
        else
          let vs := col.map fun e => (convOut f w e.1, e.2.1)
          (a.1 ++ [(place, vs.flatMap fun v => (toBytes (bits / 8) v.1.1).map fun b => (b, v.2))],
           vs.foldl (fun x v => x ||| v.1.2) a.2)) ([], own)

/-- A row delivered to the drain port (R121): its free row slot is written under the common code. -/
def State.pushRow (s : State) (g : Nat) (lanes : BitVec 2048) (bad : BitVec 64) (ctx : Nat) : State :=
  let k := (s.room g).nextRow
  let r := (List.range 16).foldl (fun (a : Tab (BitVec 16) × State) m =>
    let d := a.2.roomStore g (0x400000 + k * 0x100 + m * 16) false
    (tput 0#16 m d.1 a.1, d.2)) ([], s)
  let v := r.2.room g
  r.2.setRoom g { v with port := v.port ++ [⟨k, lanes, bad, r.1, ctx⟩] }

/-- Rows of a group delivered to the vector engine while the port has room (R121). -/
def State.drainToPort (s : State) (g : Nat) (c : Cmd) (w : Int) : Nat → State
  | 0 => s
  | n + 1 =>
    let pos := (s.cmdNow g c).pos
    if 8 ≤ (s.room g).port.length ∨ c.region.2.1 ≤ pos then s
    else
      let r := s.drainRows g c pos 1
      let row := lget [] r.1 0
      let vs := row.map fun e => (convOut fFP32 w e.1, e.2)
      let lanes := BitVec.ofNat 2048 (ofBytes (padTo 256 (vs.flatMap fun v => toBytes 4 v.1.1)))
      let bad := BitVec.ofNat 64 (maskOf ((vs.zipIdx.filter fun v => v.1.2.1).map fun v => v.2))
      let fl := vs.foldl (fun a v => a ||| v.1.2 ||| v.2.2) 0#8
      let s := r.2.pushRow g lanes bad c.ctx
      let now := s.cmdNow g c
      let pos := now.pos + 1
      let done := pos % 32 = 0 || pos = c.region.2.1
      let s := s.putCmd (g / 8) { now with pos := pos, num := now.num ||| fl, prog := now.prog + (if done then 1 else 0) }
      let s := if bad = 0 then s
        else s.setRoom g { s.room g with drainRun := (s.room g).drainRun.map fun d => { d with poison := true } }
      if done then s else s.drainToPort g c w n

/-- A DRAIN whose last group is written ends OK, or POISON when an output was poisoned (R89, R91). -/
def State.endDrain (s : State) (g : Nat) (c : Cmd) : State :=
  if (s.cmdNow g c).prog * 32 < c.region.2.1 then s
  else
    let bad := match (s.room g).drainRun with | some d => d.poison | none => false
    s.endCmd (g / 8) c.id (if bad then stPOISON else stOK)

/-- A group is written: its flags, its progress and its poison. -/
def State.groupDone (s : State) (g : Nat) (c : Cmd) (d : DrainRun) (fl : BitVec 8) (bad : Bool) : State :=
  let now := s.cmdNow g c
  let s := s.putCmd (g / 8) { now with num := now.num ||| fl, prog := now.prog + 1, dirty := none }
  (s.setRoom g { s.room g with drainRun := some ⟨d.cmd, d.group + 1, d.poison || bad⟩ }).endDrain g c

/-- The bytes of a group in progress (R90), in the space of DST. -/
def groupExtent (c : Cmd) (l : List (Loc × List (Byte × Bool))) : Dirty :=
  let b := (locOf (c.wd 1) 0).larder
  let l := l.filter fun x => x.1.larder = b
  ⟨b, l.foldl (fun m x => min m x.1.a) (2 ^ 64), l.foldl (fun m x => max m (x.1.a + x.2.length)) 0⟩

/-- The next group of 32 rows of the DRAIN is converted and written (R90), or as many of its rows as the drain
port takes. -/
def State.drainGroup (s : State) (g : Nat) : State :=
  if !s.roomUp g then s
  else match (s.room g).drainRun with
    | none => s
    | some d =>
      match s.cmd (g / 8) d.cmd with
      | none => s
      | some c =>
        let w := ((s.room g).bank (c.f 4 1 0)).w
        if c.toVec then (s.drainToPort g c w 32).endDrain g c
        else
          let lo := 32 * c.prog
          let rows := s.drainRows g c lo (min 32 (c.region.2.1 - lo))
          let items := groupItems c w lo rows.1
          let q : Engine := ⟨g, 4, 1, c, false, false⟩
          let r := s.ready q (items.1.flatMap fun x => x.1.firsts x.2.length) false
          match r.1 with
          | .go l =>
            let rows := r.2.drainRows g c lo (min 32 (c.region.2.1 - lo))
            let items := groupItems c w lo rows.1
            let al : WAlloc := if bitOf (c.wd 4) 35 then .keep else .stream
            (each items.1 (fun x s => s.writeRun q 0 al l x.1 x.2) rows.2).groupDone g c d items.2
              (rows.1.any fun r => r.any fun e => e.2.1)
          | _ => r.2.begun g c.id (groupExtent c items.1)

/-- DRAIN. -/
def execDrain (g : Nat) (s : State) : Host.Outcome State Fault Refusal :=
  act (decide (g < 256)) (fun s => s.startDrain g) s

/-- DRAIN_GROUP_WRITTEN. -/
def execDrainGroupWritten (g : Nat) (s : State) : Host.Outcome State Fault Refusal :=
  act (decide (g < 256)) (fun s => s.drainGroup g) s

/-- TRACKER_TIMEOUT: 64 CFAB cycles have passed without a continuing full-line store (R194). -/
def execTrackerTimeout (g k : Nat) (s : State) : Host.Outcome State Fault Refusal :=
  act (decide (g < 256) && decide (k < 3)) (fun s =>
    if s.roomUp g then s.setRoom g ((s.room g).setTrk k { (s.room g).trk k with run := 0, streaming := false }) else s) s

end Sys2Proof.Machine
end

