-- ==== Sys2Proof/Machine/GloingCmds.lean ====
section
/-! DEFINITION. The Gloing family: ports and lane modes (R310, R321), packets (R313 to R320), pairs (R327), atomic
slots (R317), host core remote accesses (R316), discovery (R323 to R325) and PTP (R328). -/

namespace Sys2Proof.Machine

/-! ### Ports (R310, R321) -/

/-- A port takes a state; every transition raises an event. -/
def State.setPort (s : State) (p v : Nat) : State :=
  if s.ent 0x4001 (p + 1) = v then s else s.setRaise 0x4001 (p + 1) v

/-- The packets that wait on a port that went down are sent again on the other up ports (R321): no pair fails on that
account alone, but each is a retransmission of R320. -/
def State.movePackets (s : State) (p : Nat) : State :=
  if s.own = 0xFFFF then s
  else each s.pairs (fun e s => each (e.2.tx.filter fun o => o.port = some p) (fun o s => s.retransmit e.1 o) s) s

/-- PTP stops listening to port `p`. -/
def State.dropPtp (s : State) (p : Nat) : State :=
  if s.mgmt.ptpPort = some p then { s with mgmt := { s.mgmt with ptpPort := none } } else s

/-- A port goes down into a state and its packets move. -/
def State.portDown (s : State) (p v : Nat) : State :=
  let was := s.portUp p
  let s := s.setPort p v
  if was then (s.dropPtp p).movePackets p else s

/-- A write to a port's mode. -/
def State.portMode (s : State) (p v : Nat) : State :=
  if !s.on || decide (3 < v) then s
  else
    let s := s.setEnt 0x4000 (p + 1) v
    let st := s.ent 0x4001 (p + 1)
    let s := { s with mgmt := { s.mgmt with autoCompat := s.mgmt.autoCompat.filter fun x => x ≠ p } }
    if v = 0 then s.portDown p 0
    else if (v = 1 && st = 2) || (v = 2 && st = 3) || (v = 3 && 2 ≤ st) then s
    else s.portDown p 1

/-- AUTO tries the other mode. -/
def State.autoSwitch (s : State) (p : Nat) : State :=
  if s.on && s.ent 0x4000 (p + 1) = 3 && !s.portUp p then
    let l := s.mgmt.autoCompat
    { s with mgmt := { s.mgmt with autoCompat := if l.contains p then l.filter fun x => x ≠ p else p :: l } }
  else s

/-- All lanes of a port have trained. -/
def State.portRises (s : State) (p : Nat) : State :=
  if !s.on || s.portUp p then s
  else match s.ent 0x4000 (p + 1) with
    | 0 => s
    | 1 => s.setPort p 2
    | 2 => s.setPort p 3
    | _ => s.setPort p (if s.mgmt.autoCompat.contains p then 3 else 2)

/-- PORT_MODE_WRITE. -/
def execPortModeWrite (p v : Nat) (s : State) : Host.Outcome State Fault Refusal :=
  act (decide (p < 3)) (fun s => s.portMode p v) s
/-- AUTO_MODE_SWITCH. -/
def execAutoModeSwitch (p : Nat) (s : State) : Host.Outcome State Fault Refusal :=
  act (decide (p < 3)) (fun s => s.autoSwitch p) s
/-- PORT_UP. -/
def execPortUp (p : Nat) (s : State) : Host.Outcome State Fault Refusal :=
  act (decide (p < 3)) (fun s => s.portRises p) s
/-- LANE_LOCK_LOSS. -/
def execLaneLockLoss (p : Nat) (s : State) : Host.Outcome State Fault Refusal :=
  act (decide (p < 3)) (fun s => if s.portUp p then s.portDown p 1 else s) s

/-! ### Packets -/

/-- WRITE_PACKET. -/
def execWritePacket (p : Nat) (k : Packet) (s : State) : Host.Outcome State Fault Refusal :=
  act (decide (p < 3) && k.wf) (fun s => s.receive p k 0) s
/-- READ_PACKET. -/
def execReadPacket (p : Nat) (k : Packet) (s : State) : Host.Outcome State Fault Refusal :=
  act (decide (p < 3) && k.wf) (fun s => s.receive p k 1) s
/-- READ_RESPONSE. -/
def execReadResponse (p : Nat) (k : Packet) (s : State) : Host.Outcome State Fault Refusal :=
  act (decide (p < 3) && k.wf) (fun s => s.receive p k 2) s
/-- WRITE_REDUCE_PACKET. -/
def execWriteReducePacket (p : Nat) (k : Packet) (s : State) : Host.Outcome State Fault Refusal :=
  act (decide (p < 3) && k.wf) (fun s => s.receive p k 3) s
/-- SIGNAL_PACKET. -/
def execSignalPacket (p : Nat) (k : Packet) (s : State) : Host.Outcome State Fault Refusal :=
  act (decide (p < 3) && k.wf) (fun s => s.receive p k 4) s
/-- ATOMIC_PACKET. -/
def execAtomicPacket (p : Nat) (k : Packet) (s : State) : Host.Outcome State Fault Refusal :=
  act (decide (p < 3) && k.wf) (fun s => s.receive p k 5) s
/-- ATOMIC_RESPONSE. -/
def execAtomicResponse (p : Nat) (k : Packet) (s : State) : Host.Outcome State Fault Refusal :=
  act (decide (p < 3) && k.wf) (fun s => s.receive p k 6) s
/-- MANAGEMENT_PACKET. -/
def execManagementPacket (p : Nat) (k : Packet) (s : State) : Host.Outcome State Fault Refusal :=
  act (decide (p < 3) && k.wf) (fun s => s.receive p k 7) s
/-- ACK_PACKET. -/
def execAckPacket (p : Nat) (k : Packet) (ce : Bool) (s : State) : Host.Outcome State Fault Refusal :=
  act (decide (p < 3) && k.wf) (fun s => s.takeAck p k ce) s
/-- NAK_PACKET. -/
def execNakPacket (p : Nat) (k : Packet) (s : State) : Host.Outcome State Fault Refusal :=
  act (decide (p < 3) && k.wf) (fun s => s.takeNak p k) s

/-- Whether a message's time is within 10 s of house time, which matters once PTP is locked (R324). -/
def State.timely (s : State) (t : Nat) : Bool :=
  !s.ctl.ptpLocked || (decide (t ≤ s.house + 10000000000) && decide (s.house ≤ t + 10000000000))

/-- A HELLO arrives (R313, R324): a message whose signature or time fails is discarded; another is delivered to the
Scullery, and shows that a member is reachable on the port's plane. -/
def State.takeHello (s : State) (p : Nat) (k : Packet) (h : HelloMsg) : State :=
  if !s.portUp p then s
  else if badHeader k then s.incEnt 0x4005 (p + 1) 1
  else if k.op ≠ 10 then s
  else
    let a := s.arrive p k
    if !(Config.ed25519 h.key (helloBytes h) h.sig && a.2.timely h.time) then a.2
    else
      let s := a.2.emit (.scullery a.1)
      if !k.unnum && s.member k.src && decide (s.modKey k.src = h.key) then
        s.setModWord k.src (s.modWord k.src ||| 2 ^ (59 + p))
      else s

/-- HELLO. -/
def execHello (p : Nat) (k : HelloPacket) (s : State) : Host.Outcome State Fault Refusal :=
  act (decide (p < 3) && k.pkt.wf) (fun s => s.takeHello p k.pkt k.msg) s

/-! ### The transport's own steps -/

/-- A pair whose commands have all completed is opened again (R320). -/
def State.reopen (s : State) (m : Nat) : State :=
  let p := s.pair m
  if p.failed && !p.opening && s.member m && s.own ≠ 0xFFFF && p.owed.all (fun x => (s.cmd x.1 x.2).isNone) then
    (s.setPair m { p with owed := [] }).openPair m
  else s

/-- REMOTE_OP_ISSUE. -/
def execRemoteOpIssue (m : Nat) (s : State) : Host.Outcome State Fault Refusal :=
  act (decide (m < 4096)) (fun s => s.issueRemote m) s
/-- ACK_SEND. -/
def execAckSend (m : Nat) (s : State) : Host.Outcome State Fault Refusal :=
  act (decide (m < 4096)) (fun s => s.sendAck m) s
/-- RETRANSMIT_TIMEOUT. -/
def execRetransmitTimeout (m seq : Nat) (s : State) : Host.Outcome State Fault Refusal :=
  act (decide (m < 4096)) (fun s => s.resend m seq) s
/-- PAIR_PROGRESS_TIMEOUT. -/
def execPairProgressTimeout (m : Nat) (s : State) : Host.Outcome State Fault Refusal :=
  act (decide (m < 4096))
    (fun s => if m ≠ s.own && ((s.pair m).tx ≠ [] || (!(s.pair m).up && (s.pair m).waiting ≠ [])) then s.failPair m else s) s
/-- WINDOW_RESTORE. -/
def execWindowRestore (m : Nat) (s : State) : Host.Outcome State Fault Refusal :=
  act (decide (m < 4096)) (fun s => s.setPair m { s.pair m with halved := false }) s
/-- PAIR_REESTABLISH. -/
def execPairReestablish (m : Nat) (s : State) : Host.Outcome State Fault Refusal :=
  act (decide (m < 4096)) (fun s => s.reopen m) s

/-- PAIR_OPEN arrives from module `m` (R324, R327): ignored unless a member sent it. -/
def State.takePairOpen (s : State) (m : Nat) (keyHash : Bytes) (gen : Nat) (nonce : BitVec 128) (sig : Bytes) : State :=
  if s.on && s.own ≠ 0xFFFF && s.member m && keyHash = Config.sha512 (s.modKey m) &&
     Config.ed25519 (s.modKey m) (pairOpenBytes m keyHash gen nonce) sig then
    let s := if (s.pair m).tx ≠ [] then s.failPair m else s
    let nonces := toBytes 16 nonce.toNat ++ toBytes 16 (BitVec.ofNat 128 s.freeVal).toNat
    (s.drawFree.startPair m gen).emit (.pairAccept m gen nonces (Config.idSign (pairAcceptBytes gen nonces)))
  else s

/-- PAIR_ACCEPT arrives from module `m`: the first nonce must be that of the PAIR_OPEN sent. -/
def State.takePairAccept (s : State) (m gen : Nat) (nonces sig : Bytes) : State :=
  let p := s.pair m
  if s.on && p.opening && s.member m && gen = (p.gen + 1) % 2 ^ 16 && nonces.take 16 = toBytes 16 p.nonce.toNat &&
     Config.ed25519 (s.modKey m) (pairAcceptBytes gen nonces) sig then s.startPair m gen
  else s

/-- PAIR_OPEN. -/
def execPairOpen (m : Nat) (keyHash : Bytes) (gen : Nat) (nonce : BitVec 128) (sig : Bytes) (s : State) :
    Host.Outcome State Fault Refusal :=
  act (decide (m < 4096)) (fun s => s.takePairOpen m keyHash gen nonce sig) s
/-- PAIR_ACCEPT. -/
def execPairAccept (m gen : Nat) (nonces sig : Bytes) (s : State) : Host.Outcome State Fault Refusal :=
  act (decide (m < 4096)) (fun s => s.takePairAccept m gen nonces sig) s

/-! ### Atomic slots and host cores (R316, R317) -/

/-- The target module of a remote address. -/
def remoteModule (pa : Nat) : Nat := fld pa 54 43
/-- The target address in the module's local map. -/
def remoteAddr (pa : Nat) : Nat := fld pa 42 0

/-- GO on ATOMIC[`k`]. -/
def State.goAtomic (s : State) (k : Nat) : State :=
  if !s.on || s.regF (paAtomic k 0x18) 1 1 = 1 then s
  else
    let pa := s.regF (paAtomic k 0) 55 4 * 16
    let op := s.regF (paAtomic k 0x18) 15 8
    if regionOf pa ≠ .remote ∨ !cisOpOk op then s.setReg (paAtomic k 0x20) 3
    else
      let x := BitVec.ofNat 128 (s.regN (paAtomic k 0x08) + s.regN (paAtomic k 0x10) * 2 ^ 64)
      let s := s.setRegF (paAtomic k 0x18) 1 1 1
      s.remoteAsk (.slot k)
        { basePacket 5 (remoteModule pa) (remoteAddr pa) with cisop := BitVec.ofNat 8 op, words := [(x, 0)] } pa 16 none (op, x)

/-- ATOMIC_GO. -/
def execAtomicGo (k : Nat) (s : State) : Host.Outcome State Fault Refusal :=
  act (decide (k < 64)) (fun s => s.goAtomic k) s

/-- Whether R28 permits a remote address as a target. -/
def remotePermitted (a : Nat) : Bool :=
  match regionOf a with
  | .stack _ => true
  | _ => pageReg a ≠ .none

/-- A host core's remote load. -/
def State.coreRemoteLoad (s : State) (core pa size : Nat) : State :=
  if !s.on then s
  else if regionOf pa ≠ .remote ∨ !(size = 4 ∨ size = 8) ∨ pa % size ≠ 0 ∨ !remotePermitted (remoteAddr pa) then
    s.answer core .accessFault
  else if s.own = 0xFFFF then s.answer core .accessFault
  else
    let a := remoteAddr pa
    (s.answer core .waiting).remoteAsk (.core core)
      { basePacket 1 (remoteModule pa) (a / 16 * 16) with tagx := BitVec.ofNat 32 (2 ^ 23) } pa size none (0, 0)

/-- A host core's remote store. -/
def State.coreRemoteStore (s : State) (core pa size v : Nat) : State :=
  if !s.on then s
  else if regionOf pa ≠ .remote ∨ size ≠ 8 ∨ pa % 8 ≠ 0 ∨ pageReg (remoteAddr pa) = .none then
    s.answer core .accessFault
  else
    (s.answer core .none).remoteOp (.core core)
      { basePacket 0 (remoteModule pa) (remoteAddr pa) with short := true, words := [(BitVec.ofNat 128 (v % 2 ^ 64), 0)] }

/-- HOST_REMOTE_LOAD. -/
def execHostRemoteLoad (core pa size : Nat) (s : State) : Host.Outcome State Fault Refusal :=
  act (decide (core < 96) && decide (pa < 2 ^ 56) && sizeOk size) (fun s => s.coreRemoteLoad core pa size) s
/-- HOST_REMOTE_STORE. -/
def execHostRemoteStore (core pa size : Nat) (v : BitVec 64) (s : State) : Host.Outcome State Fault Refusal :=
  act (decide (core < 96) && decide (pa < 2 ^ 56) && sizeOk size) (fun s => s.coreRemoteStore core pa size v.toNat) s

/-! ### Discovery and membership (R323 to R325) -/

/-- A switch's identity is received; a change raises an event. -/
def State.takeLldp (s : State) (p : Nat) (nb : Bytes) : State :=
  if !s.portUp p || decide (s.blob 0x4011 (p + 1) = nb) then s
  else (s.setBlob 0x4011 (p + 1) nb).raise 0x4011 (p + 1) 0 nb.length

/-- The module's HELLO of Table 12.8. -/
def State.helloMsg (s : State) : HelloMsg :=
  let h : HelloMsg :=
    { serial := s.serial
      key := s.idKey
      level := s.pkgLevel
      ports := [s.ent 0x4001 1, s.ent 0x4001 2, s.ent 0x4001 3]
      window := s.ent 0x4002 1
      suites := suiteCount s.layout
      num := s.own
      time := s.house
      nonce := s.mgmt.nonce
      sig := [] }
  { h with sig := Config.idSign (helloBytes h) }

/-- HELLOs go out on every up port, with a fresh nonce: in COMPAT mode to the multicast address of 0x4010.03. -/
def State.sendHello (s : State) : State :=
  if !s.on then s
  else
    let s := { s with mgmt := { s.mgmt with nonce := BitVec.ofNat 128 s.freeVal } }.drawFree
    each ((List.range 3).filter fun p => s.portUp p) (fun p s =>
      s.emit (.hello p (if s.ent 0x4001 (p + 1) = 3 then s.blob 0x4010 3 else []) s.helloMsg)) s

/-- ASSIGN (R325). -/
def State.takeAssign (s : State) (num ep : Nat) (nonce : BitVec 128) (time : Nat) (sig : Bytes) : State :=
  let key := s.blob 0x4010 1
  if s.on && key ≠ [] && nonce = s.mgmt.nonce && s.timely time && num < 4096 &&
     Config.ed25519 key (assignBytes num ep nonce time) sig then
    (s.setRaise 0x4010 2 num).setEnt 0x4010 4 ep
  else s

/-- One joining or leaving module (R325). -/
def State.applyChange (s : State) (c : MemberChange) : State :=
  if 4096 ≤ c.num then s
  else if c.join then
    let s := if s.modKey c.num = c.key then s
      else (s.setBlob (0x4180 + c.num / 128) (c.num % 128 + 1) c.key).raise (0x4180 + c.num / 128) (c.num % 128 + 1) 0 c.key.length
    let s := { s with mgmt := { s.mgmt with addrs := tput [] c.num c.addrs s.mgmt.addrs } }
    s.setModWord c.num (putFld (s.modWord c.num) 63 62 1)
  else
    let s := { s with mgmt := { s.mgmt with addrs := tdel s.mgmt.addrs c.num } }
    let s := s.setModWord c.num (putFld (s.modWord c.num) 63 62 2)
    if c.num = s.own then (s.setRaise 0x4010 2 0xFFFF).leaveFabric else s.failPair c.num

/-- MEMBER (R325). -/
def State.takeMember (s : State) (ep : Nat) (cs : List MemberChange) (time : Nat) (sig : Bytes) : State :=
  let key := s.blob 0x4010 1
  if s.on && key ≠ [] && s.timely time &&
     Config.ed25519 key (memberBytes ep cs time) sig then
    (each cs (fun c s => s.applyChange c) s).setEnt 0x4010 4 ep
  else s

/-- The LLDPDU of port `p`, if it is up (R323): its MAC address, "gloing" and its number, 4 s to live, the serial number,
and its IPv6 address. -/
def State.sendLldp (s : State) (p : Nat) : State :=
  let name := [0x67#8, 0x6C#8, 0x6F#8, 0x69#8, 0x6E#8, 0x67#8, BitVec.ofNat 8 (48 + p)]
  if s.portUp p then s.emit (.lldp p (macOf s.idKey p) name 4 s.serial (s.linkLocal p)) else s

/-- LLDP_TRANSMIT. -/
def execLldpTransmit (p : Nat) (s : State) : Host.Outcome State Fault Refusal :=
  act (decide (p < 3)) (fun s => s.sendLldp p) s
/-- LLDP_RECEIVE. -/
def execLldpReceive (p : Nat) (nb : Bytes) (s : State) : Host.Outcome State Fault Refusal :=
  act (decide (p < 3)) (fun s => s.takeLldp p nb) s
/-- HELLO_TRANSMIT. -/
def execHelloTransmit (s : State) : Host.Outcome State Fault Refusal := act true (fun s => s.sendHello) s
/-- ASSIGN. -/
def execAssign (num epoch : Nat) (nonce : BitVec 128) (time : Nat) (sig : Bytes) (s : State) :
    Host.Outcome State Fault Refusal :=
  act true (fun s => s.takeAssign num epoch nonce time sig) s
/-- MEMBER. -/
def execMember (epoch : Nat) (changes : List MemberChange) (time : Nat) (sig : Bytes) (s : State) :
    Host.Outcome State Fault Refusal :=
  act true (fun s => s.takeMember epoch changes time sig) s

/-! ### PTP (R328) -/

/-- House time is slewed towards PTP time (R328): by at most 100 ppm of the time since the last correction. House time never
goes back: what a slower clock would lose is timing that the model does not count. -/
def State.slew (s : State) (off : Int) : State :=
  let s := s.advance (s.house + min off.toNat ((s.house - s.ctl.slewAt) / 10000))
  { s with ctl := { s.ctl with slewAt := s.house } }

/-- A PTP measurement on the selected port: PTP time less house time. The first lock with PTP ahead steps house time
forward once. -/
def State.ptp (s : State) (off : Int) (locked : Bool) : State :=
  let s := s.setEnt 0x4300 2 (ofSigned 32 (max (-(2 ^ 31)) (min (2 ^ 31 - 1) off)))
  let st := fun (s : State) (v : Nat) => if s.ent 0x4300 1 = v then s else s.setRaise 0x4300 1 v
  if !locked then st s 2
  else if s.ctl.ptpLocked then
    let s := st (s.slew off) 3
    if 1000000 < off.natAbs then s.raise 0x4300 2 0 (s.ent 0x4300 2) else s
  else if off < 0 then st s 4
  else
    let s := s.advance (s.house + off.toNat)
    let next := (s.house / s.stepLen + 1) * s.stepLen
    st { s with ctl := { s.ctl with ptpLocked := true, renumber := true, nextBound := next, slewAt := s.house } } 3

/-- A PTP message of a domain on port `p` (R328). DESIGN CHOICE: the best master clock algorithm of IEEE 1588, whose
inputs no command carries, selects the port that was heard first, for as long as it is up; the others stand by. -/
def State.ptpOn (s : State) (p dom : Nat) (off : Int) (locked : Bool) : State :=
  if !s.portUp p || s.ent 0x4300 3 = 0 || decide (dom ≠ s.ent 0x4300 4) then s
  else
    let s := if s.mgmt.ptpPort.isNone then { s with mgmt := { s.mgmt with ptpPort := some p } } else s
    if s.mgmt.ptpPort = some p then s.ptp off locked else s

/-- PTP_MESSAGE. -/
def execPtpMessage (m : PtpSample) (locked : Bool) (s : State) : Host.Outcome State Fault Refusal :=
  act (decide (m.port < 3)) (fun s => s.ptpOn m.port m.domain m.offset locked) s

end Sys2Proof.Machine
end

