-- ==== Sys2Proof/Machine/CopyCmds.lean ====
section
/-! DEFINITION. The copy unit of a room: COPY and WRITE_REDUCE (R141, R157, R316), TIER_PREFETCH and TIER_RELEASE
(R258, R259), and the expiry of a tier DEADLINE (R80, R256, R258). -/

namespace Sys2Proof.Machine

/-- The copy unit at work for a command, with the access code of one side. It never uses the Shelf (R166). -/
def copyUnit (g access : Nat) (c : Cmd) : Engine := ⟨g, 3, access, c, false, false⟩

/-! ### COPY (R141, R256, R316) -/

/-- Part of a COPY's rows: offsets from SRC and DST, and bytes. -/
structure Piece where
  src : Nat
  dst : Nat
  n   : Nat
deriving DecidableEq, Repr

/-- The parts of a run of `n` bytes that cross no 4 KiB boundary of either place. -/
def splitPiece (a b : Nat) : Nat → Piece → List Piece
  | 0, _ => []
  | f + 1, p =>
    let m := min p.n (min (4096 - (a + p.src) % 4096) (4096 - (b + p.dst) % 4096))
    if p.n ≤ m ∨ m = 0 then [p] else ⟨p.src, p.dst, m⟩ :: splitPiece a b f ⟨p.src + m, p.dst + m, p.n - m⟩

/-- The parts of bytes `lo` to `hi − 1` of a COPY, in copy order. -/
def copyPieces (c : Cmd) (lo hi : Nat) : List Piece :=
  let n := c.f 4 31 0
  if hi ≤ lo ∨ n = 0 then []
  else
    let a := (locOf (c.wd 1) 0).a
    let b := (locOf (c.wd 2) 0).a
    (List.range ((hi - 1) / n - lo / n + 1)).flatMap fun i =>
      let r := lo / n + i
      let x := max lo (r * n)
      let y := min hi ((r + 1) * n)
      splitPiece a b (2 * (y - x) / 4096 + 4) ⟨r * c.f 5 31 0 + (x - r * n), r * c.f 5 63 32 + (x - r * n), y - x⟩

/-- Bytes of a COPY. -/
def Cmd.copyBytes (c : Cmd) : Nat := (c.f 4 47 32 + 1) * c.f 4 31 0

/-- The parts of output tile `p`: 65,536 bytes of destination in copy order (Table 5.11). -/
def copyTile (c : Cmd) (p : Nat) : List Piece := copyPieces c (65536 * p) (min c.copyBytes (65536 * (p + 1)))

/-- Whether a COPY names a byte beyond the Larder (R138). -/
def copyOver (c : Cmd) : Bool :=
  let rows := c.f 4 47 32
  (locOf (c.wd 1) 0).past (rows * c.f 5 31 0 + c.f 4 31 0) || (locOf (c.wd 2) 0).past (rows * c.f 5 63 32 + c.f 4 31 0)

/-- Whether a place lies in the remote window, as its context's tables stand. -/
def State.leadsAway (s : State) (ctx : Nat) (l : Loc) : Bool :=
  !l.larder && (s.leadsTo ctx l.a).any fun pa => regionOf pa = .remote

/-- Whether a part of a COPY has both its sides in the remote window: the COPY then has no effect at all (R316). DEDUCED:
the copy unit finds this before its first effect, whatever translations it has yet to make. -/
def State.bothAway (s : State) (c : Cmd) : Bool :=
  (copyPieces c 0 c.copyBytes).any fun p =>
    s.leadsAway c.ctx (locOf (c.wd 1) p.src) && s.leadsAway c.ctx (locOf (c.wd 2) p.dst)

/-- The accesses of the sides of parts. -/
def pieceKeys (word : Nat) (off : Piece → Nat) (l : List Piece) : List Nat :=
  oncePer (l.flatMap fun p => (locOf word (off p)).firsts p.n)

/-- One access for each 4 KiB page of a COPY's sides: what it touches under a DEADLINE. -/
def touchKeys (word : Nat) (off : Piece → Nat) (l : List Piece) : List Nat :=
  oncePer (l.map fun p => (locOf word (off p)).first)

/-- Where an access of a plan goes. -/
def spotOf (l : List Spot) (k : Nat) : Option Spot := l.find? fun x => x.key = k
/-- The remote address of a place under a plan. -/
def remoteOf (l : List Spot) (p : Loc) : Option Nat :=
  match spotOf l (p.key 0) with
  | some x => match x.tgt with
    | .remote a => some (a / 64 * 64 + p.a % 64)
    | _ => none
  | none => none

/-- The 16-byte words of a run of bytes, with their poison. -/
def wordsFrom (bs : List (Byte × Bool)) : List (BitVec 128 × Bool) :=
  (List.range (bs.length / 16)).map fun i =>
    let x := slice bs (16 * i) 16
    (BitVec.ofNat 128 (ofBytes (x.map fun b => b.1)), x.any fun b => b.2)

/-- A command waits for one more operation in another module. -/
def State.oneMore (s : State) (g id : Nat) : State :=
  match s.cmd (g / 8) id with
  | some c => s.putCmd (g / 8) { c with remote := c.remote + 1 }
  | none => s

/-- The address at which an answer of another module is stored: an offset of the Larder from 2^63 on, or a
physical address; none where it goes nowhere. -/
def answerPlace (l : List Spot) (p : Loc) : Option Nat :=
  if p.larder then some (2 ^ 63 + p.a)
  else match spotOf l (p.key 0) with
    | some x => match x.tgt with
      | .mem a => some (a / 64 * 64 + p.a % 64)
      | .pcie a => some (a / 64 * 64 + p.a % 64)
      | .page a => some (a / 64 * 64 + p.a % 64)
      | _ => none
    | none => none

/-- One part of a COPY is moved, sent to another module, or asked of it (R28, R316). -/
def State.copyPiece (s : State) (g : Nat) (c : Cmd) (src dst : List Spot) (t : Tab (List (Byte × Bool))) (p : Piece) :
    State :=
  let from_ := locOf (c.wd 1) p.src
  let onto := locOf (c.wd 2) p.dst
  let qw := copyUnit g 1 c
  let place := bitOf (c.wd 6) 5
  if (s.cmd (g / 8) c.id).any (fun x => x.status.isSome) then s
  else match remoteOf src from_, remoteOf dst onto with
    | some a, _ =>
      let k := { basePacket 1 (remoteModule a) (remoteAddr a) with tagx := BitVec.ofNat 32 (p.n / 16 * 2 ^ 23) }
      (s.oneMore g c.id).remoteAsk (.cmd (g / 8) c.id) k a p.n (answerPlace dst onto) (onto.a, 0)
    | none, some b =>
      let k := { basePacket 0 (remoteModule b) (remoteAddr b) with
        place := place, ptarget := c.f 6 4 0, ackp := decide (c.scope = 5),
        words := (wordsFrom (bytesAt t from_ p.n)).map packWord }
      ((s.notePoison (g / 8) c.id (anyBad t from_ p.n)).oneMore g c.id).remoteOp (.cmd (g / 8) c.id) k
    | none, none =>
      (s.notePoison (g / 8) c.id (anyBad t from_ p.n)).writeRun qw 2 (if place then .place (c.f 6 4 0) else .keep) dst onto (bytesAt t from_ p.n)

/-- The bytes of destination that parts write, as a dirty extent. -/
def pieceExtent (c : Cmd) (l : List Piece) : Dirty :=
  let b := locOf (c.wd 2) 0
  ⟨b.larder, b.a + (l.foldl (fun m p => min m p.dst) (2 ^ 64)), b.a + (l.foldl (fun m p => max m (p.dst + p.n)) 0)⟩

/-- Output tile `p` of a COPY under the plans of its sides; a tile with a remote side stays in progress. -/
def State.moveTile (s : State) (g : Nat) (c : Cmd) (p : Nat) (src dst : List Spot) : State :=
  let ps := copyTile c p
  let t := s.readAll (copyUnit g 0 c) (src.filter fun x => match x.tgt with | .remote _ => false | _ => true)
  let s := t.2.putCmd (g / 8) { t.2.cmdNow g c with st := .running, pos := p + 1, dirty := some (pieceExtent c ps) }
  let s := each ps (fun x s => s.copyPiece g c src dst t.1 x) s
  match s.cmd (g / 8) c.id with
  | none => s
  | some d =>
    if d.status.isSome then s
    else if d.remote = 0 then s.putCmd (g / 8) { d with prog := p + 1, dirty := none }
    else s

/-- Tiles of a COPY from the one at `pos` on, as far as their accesses are ready; one with a remote side is
completed before the next begins, and one whose source is read but whose destination waits or is refused is in
progress (R157). A COPY that moved a poisoned word ends POISON with full progress (Table 5.10). -/
def State.copyTiles (s : State) (g id : Nat) : Nat → State
  | 0 => s
  | n + 1 =>
    match s.cmd (g / 8) id with
    | none => s
    | some c =>
      if c.status.isSome ∨ c.pos = c.tiles ∨ c.remote ≠ 0 then s
      else
        let ps := copyTile c c.pos
        let sk := pieceKeys (c.wd 1) (fun p => p.src) ps
        let qr := copyUnit g 0 { c with st := .running }
        let r := s.readyLegs qr
          [(qr, sk), (copyUnit g 1 { c with st := .running }, pieceKeys (c.wd 2) (fun p => p.dst) ps)] true
        match r.1 with
        | .go l =>
          let src := l.take sk.length
          let dst := l.drop sk.length
          let far := fun (x : Spot) => match x.tgt with | .remote _ => true | _ => false
          let both := fun (p : Piece) => (remoteOf src (locOf (c.wd 1) p.src)).isSome && (remoteOf dst (locOf (c.wd 2) p.dst)).isSome
          if ps.any both then r.2.endCmd (g / 8) id stUNSUP
          else
            let s := r.2.moveTile g c c.pos src dst
            match s.cmd (g / 8) id with
            | none => s
            | some d =>
              if d.pos = d.tiles && (d.remote = 0 || !src.any far) && d.status.isNone then
                (s.putCmd (g / 8) { d with prog := d.tiles }).endCmd (g / 8) id (if d.awaitBad then stPOISON else stOK)
              else s.copyTiles g id n
        | _ =>
          match (s.readyLegs qr [(qr, sk)] true).1 with
          | .go _ => r.2.begun g id (pieceExtent c ps)
          | _ => r.2

/-- COPY at its engine: its checks, the tier tiles that it touches first under a DEADLINE, and its tiles. -/
def State.goCopy (s : State) (g : Nat) : State :=
  match s.headCmd g 2 0x20 with
  | none => s
  | some c =>
    if c.pos = 0 && (copyOver c || s.bothAway c) then s.endCmd (g / 8) c.id stUNSUP
    else if c.deadline.isSome && c.st = .issued then
      let ps := copyPieces c 0 c.copyBytes
      let q := copyUnit g 0 c
      let r := s.readyLegs q
        [(q, touchKeys (c.wd 1) (fun p => p.src) ps), (copyUnit g 1 c, touchKeys (c.wd 2) (fun p => p.dst) ps)] true
      match r.1 with
      | .go _ =>
        (r.2.putCmd (g / 8) { r.2.cmdNow g c with st := .running }).copyTiles g c.id (c.tiles + 1)
      | _ => r.2
    else s.copyTiles g c.id (c.tiles + 1)

/-- COPY. -/
def execCopy (g : Nat) (s : State) : Host.Outcome State Fault Refusal :=
  act (decide (g < 256)) (fun s => s.goCopy g) s

/-! ### WRITE_REDUCE (R141, R227 to R234, R316) -/

/-- Bytes of destination per 16-byte word of source (R230). -/
def reduceStep (op : Nat) : Nat := if cisIsCas op then 8 else 16

/-- What the translation of a WRITE_REDUCE's destination gives: it may go on, waits for the first address that is not
translated (R277), or may not be reduced into at an address (R141). -/
inductive ReduceTo where
  | ok
  | wait
  | bad (pa : Nat)
deriving DecidableEq, Repr

/-- The destination of a chunk translated in order, up to the first address that waits, is refused, or lies outside the
stacks and the remote window (R141). -/
def State.reduceTarget (s : State) (q : Engine) : List Nat → ReduceTo × State
  | [] => (.ok, s)
  | va :: t =>
    let r := s.xlate q.g q.who.master q.cmd.ctx va q.access q.cmd.id
    match r.1 with
    | .wait => (.wait, r.2)
    | .kill _ => (.ok, r.2)
    | .ok pa => match regionOf pa with
      | .stack _ => r.2.reduceTarget q t
      | .remote => r.2.reduceTarget q t
      | _ => (.bad pa, r.2)

/-- The addend words of a chunk applied to a local destination: the flags of Table 8.6. -/
def State.reduceLocal (s : State) (g : Nat) (c : Cmd) (dst : List Spot) (o : Nat) (ws : List (BitVec 128 × Bool)) :
    Nat × State :=
  let op := c.f 3 39 32
  let q := copyUnit g 2 c
  ws.zipIdx.foldl (fun (a : Nat × State) x =>
    let p := locOf (c.wd 2) (o + reduceStep op * x.2)
    match spotOf dst (p.key 0) with
    | some y => match y.tgt with
      | .mem pa =>
        let s := a.2.noteWrite (g / 8) c.id c.pos (pa / 64) (p.a / 64 * 64)
        let r := s.reduceWord (g / 8) c.scope q.who (pa / 64 * 64 + p.a % 64) op x.1.1 x.1.2
        (a.1 ||| r.1, r.2.shelfInvalidate g (y.pa / 64 * 64) 64)
      | _ => a
    | none => a) (0, s)

/-- The addends of a chunk in runs that cross no 4 KiB boundary of the destination: one packet each where it lies in
another module (R316), and applied where it is local. The flags are those of the local ones. -/
def State.reduceRuns (s : State) (g : Nat) (c : Cmd) (dst : List Spot) (o : Nat) : Nat → List (BitVec 128 × Bool) →
    Nat × State
  | 0, _ => (0, s)
  | f + 1, ws =>
    let step := reduceStep (c.f 3 39 32)
    let p := locOf (c.wd 2) o
    let m := min ws.length ((4096 - p.a % 4096) / step)
    if ws = [] ∨ (s.cmd (g / 8) c.id).any (fun x => x.status.isSome) then (0, s)
    else
      let r := match remoteOf dst p with
        | none => s.reduceLocal g c dst o (ws.take m)
        | some b =>
          let k := { basePacket 3 (remoteModule b) (remoteAddr b) with
            cisop := BitVec.ofNat 8 (c.f 3 39 32), ackp := decide (c.scope = 5), words := (ws.take m).map packWord }
          (0, (s.oneMore g c.id).remoteOp (.cmd (g / 8) c.id) k)
      let t := r.2.reduceRuns g c dst (o + step * m) f (ws.drop m)
      (r.1 ||| t.1, t.2)

/-- Chunk `p` of a WRITE_REDUCE, under the plans of its sides. -/
def State.reduceChunk (s : State) (g : Nat) (c : Cmd) (p n : Nat) (src dst : List Spot) : State :=
  let o := 4096 * p * reduceStep (c.f 3 39 32) / 16
  let b := (locOf (c.wd 2) 0).a + o
  let t := s.readAll (copyUnit g 0 c) src
  let ws := wordsFrom (bytesAt t.1 (locOf (c.wd 1) (4096 * p)) n)
  let s := t.2.putCmd (g / 8) { t.2.cmdNow g c with
    st := .running, pos := p + 1, dirty := some ⟨false, b, b + n * reduceStep (c.f 3 39 32) / 16⟩ }
  let r := s.reduceRuns g c dst o (ws.length + 1) ws
  match r.2.cmd (g / 8) c.id with
  | none => r.2
  | some d =>
    let d := { d with num := d.num ||| (if bitOf r.1 0 then nfOV else 0) ||| (if bitOf r.1 1 then nfNR else 0)
                      awaitBad := d.awaitBad || bitOf r.1 4 }
    let d := if d.remote = 0 && d.status.isNone then { d with prog := p + 1, dirty := none } else d
    r.2.putCmd (g / 8) d

/-- Chunks of a WRITE_REDUCE from the one at `pos` on. A chunk with a remote destination is accepted whole before
the next begins. A poisoned addend or destination word gives POISON with full progress (R234). -/
def State.reduceChunks (s : State) (g id : Nat) : Nat → State
  | 0 => s
  | f + 1 =>
    match s.cmd (g / 8) id with
    | none => s
    | some c =>
      if c.status.isSome ∨ c.pos = c.tiles ∨ c.remote ≠ 0 then s
      else
        let n := min 4096 (c.f 3 31 0 - 4096 * c.pos)
        let step := reduceStep (c.f 3 39 32)
        let src := (locOf (c.wd 1) (4096 * c.pos)).firsts n
        let dst := (locOf (c.wd 2) (4096 * c.pos * step / 16)).firsts (n * step / 16)
        let qr := copyUnit g 0 { c with st := .running }
        let qw := copyUnit g 2 { c with st := .running }
        let bad := s.reduceTarget qw dst
        match bad.1 with
        | .bad pa => bad.2.raiseC2 qw 0x26 (some pa)
        | .wait => bad.2
        | .ok =>
          let a := bad.2.ready qr src false
          match a.1 with
          | .go ls =>
            let b := a.2.ready qw dst true
            match b.1 with
            | .go ld =>
              let s := b.2.reduceChunk g c c.pos n ls ld
              match s.cmd (g / 8) id with
              | none => s
              | some d =>
                if d.pos = d.tiles && d.status.isNone then
                  (s.putCmd (g / 8) { d with prog := d.tiles }).endCmd (g / 8) id (if d.awaitBad then stPOISON else stOK)
                else s.reduceChunks g id f
            | _ => b.2
          | _ => a.2

/-- WRITE_REDUCE at its engine. -/
def State.goReduce (s : State) (g : Nat) : State :=
  match s.headCmd g 2 0x21 with
  | none => s
  | some c =>
    if c.pos = 0 && (locOf (c.wd 1) 0).past (c.f 3 31 0) then s.endCmd (g / 8) c.id stUNSUP
    else s.reduceChunks g c.id (c.tiles + 1)

/-- WRITE_REDUCE. -/
def execWriteReduce (g : Nat) (s : State) : Host.Outcome State Fault Refusal :=
  act (decide (g < 256)) (fun s => s.goReduce g) s

/-! ### TIER_PREFETCH and TIER_RELEASE (R258, R259) -/

/-- What the translation of one tile of a command gives. -/
inductive TileAt where
  | tile (t : Nat)
  | wait
  | ended
deriving DecidableEq, Repr

/-- Tile `i` of a TIER_PREFETCH or TIER_RELEASE translated (R258); one outside the aperture kills. -/
def State.tileAt (s : State) (g : Nat) (c : Cmd) (i : Nat) : TileAt × State :=
  let q := copyUnit g 6 c
  let r := s.xlate g q.who.master c.ctx (fld (c.wd 1) 56 0 + 65536 * i) 6 c.id
  match r.1 with
  | .kill k => (.ended, r.2.raiseC2 q k none)
  | .wait => (.wait, r.2)
  | .ok pa =>
    if regionOf pa ≠ .tier then (.ended, r.2.raiseC2 q 0x27 (some pa))
    else if r.2.tierState ≠ 2 then (.ended, r.2.raiseC2 q 0x20 (some pa))
    else (.tile (tileOf pa), r.2)

/-- A pin is owed to a tile once it is RESIDENT. -/
def State.owePin (s : State) (t c : Nat) : State :=
  if s.tier.pinsDue.any fun x => x.1 = t then s
  else { s with tier := { s.tier with pinsDue := s.tier.pinsDue ++ [(t, c)] } }

/-- Tiles of a TIER_PREFETCH from tile `i` on: fills start in address order, and the leading tiles that are
RESIDENT, and pinned under PIN, are its progress. `lead` says that every tile before `i` is done. -/
def State.prefetchFrom (s : State) (g : Nat) (c : Cmd) : Nat → Nat → Bool → State
  | 0, _, lead =>
    if lead then (s.putCmd (g / 8) { s.cmdNow g c with prog := c.f 2 31 0 }).endCmd (g / 8) c.id stOK else s
  | n + 1, i, lead =>
    let r := s.tileAt g c i
    match r.1 with
    | .ended => r.2
    | .wait => r.2
    | .tile t =>
      let pin := bitOf (c.wd 4) 0
      if (r.2.tile t).1 = .resident then
        let p := if pin then r.2.pinTile t c.ctx else (true, r.2)
        if !p.1 then p.2.owePin t c.ctx
        else
          let d := p.2.cmdNow g c
          let s := if lead then p.2.putCmd (g / 8) { d with prog := i + 1, pos := i + 1 } else p.2
          s.prefetchFrom g c n (i + 1) lead
      else
        let s := r.2.needTile (cmdKey (g / 8) c.id) t (g / 64) (r.2.ctxRec c.ctx).suite c.ctx
        let s := if pin then s.owePin t c.ctx else s
        s.prefetchFrom g c n (i + 1) false

/-- Fills that a command asked for and that have not started are not started (R258), unless an access waits. -/
def State.dropFills (s : State) (g : Nat) (c : Cmd) : State :=
  let ts := (List.range (c.f 2 31 0 - c.pos)).filterMap fun i =>
    match (s.tileAt g c (c.pos + i)).1 with | .tile t => some t | _ => none
  let gone := fun (t : Nat) => ts.contains t && !(s.tier.stalls.any fun e => e.2.1 = t)
  let keep := fun (t : Nat) => (s.tile t).1 ≠ .absent || !ts.contains t
  { s with tier := { s.tier with waiting := s.tier.waiting.filter fun r => !gone r.tile
                                 pinsDue := s.tier.pinsDue.filter fun x => keep x.1 } }

/-- Whether a tile of a TIER_PREFETCH is done: RESIDENT, and pinned under PIN (R258). -/
def State.tileDone (s : State) (pin : Bool) (t : Nat) : Bool :=
  decide ((s.tile t).1 = .resident) && (!pin || (s.frame (s.tile t).2).any fun f => f.pin)

/-- TIER_PREFETCH at its engine. -/
def State.goPrefetch (s : State) (g : Nat) : State :=
  match s.headCmd g 2 0x22 with
  | none => s
  | some c =>
    let late := match c.deadline with | some d => decide (d ≤ s.house) | none => false
    let n := c.f 2 31 0
    let done := (List.range (n - c.pos)).all fun i =>
      match (s.tileAt g c (c.pos + i)).1 with | .tile t => s.tileDone (bitOf (c.wd 4) 0) t | _ => false
    if late && !done then (s.dropFills g c).endCmd (g / 8) c.id stTIER_LATE
    else (s.putCmd (g / 8) { c with st := .running }).prefetchFrom g c (n - c.pos) c.pos true

/-- TIER_PREFETCH. -/
def execTierPrefetch (g : Nat) (s : State) : Host.Outcome State Fault Refusal :=
  act (decide (g < 256)) (fun s => s.goPrefetch g) s

/-- A pin cleared for a context (R255). -/
def State.unpinTile (s : State) (t c : Nat) : State :=
  match s.frame (s.tile t).2 with
  | some f => if f.pin && f.pinctx = c && (s.tile t).1 ≠ .absent then
      let s := s.setFrame (s.tile t).2 { f with pin := false, pinctx := 0 }
      { s with tier := { s.tier with pinsOwed := s.tier.pinsOwed.filter fun x => x ≠ (s.tile t).2 } } else s
  | none => s

/-- Pins that waited for the limit are set, oldest first (R255). -/
def State.grantPins (s : State) : State :=
  each s.tier.pinsDue (fun x s =>
    if (s.tile x.1).1 ≠ .resident then s
    else
      let r := s.pinTile x.1 x.2
      if r.1 then { r.2 with tier := { r.2.tier with pinsDue := r.2.tier.pinsDue.filter fun y => y ≠ x } } else r.2) s

/-- The last step for a tile (R259): a RESIDENT tile that is not pinned and not held becomes the first candidate
victim. -/
def State.ageOut (s : State) (t : Nat) : State :=
  match s.frame (s.tile t).2 with
  | some f => if (s.tile t).1 = .resident && !f.pin && f.holds = 0 then
      s.setFrame (s.tile t).2 { f with age := 255, mark := false } else s
  | none => s

/-- Whether the Dumbwaiter cannot reach a frame now: its stack is in CRITICAL (R222), or the hallway to its die is training
(R284, R302). -/
def State.frameHeld (s : State) (f : Nat) : Bool :=
  decide (s.ent 0x3010 (f / 524288 + 1) = 3) || s.hallHeld 4 (f / 524288 / 3)

/-- Tiles of a TIER_RELEASE from tile `i` on; a tile with quarters to program waits for the Cellar (R259). -/
def State.releaseFrom (s : State) (g : Nat) (c : Cmd) : Nat → Nat → State
  | 0, _ => (s.putCmd (g / 8) { s.cmdNow g c with prog := c.f 2 31 0 }).endCmd (g / 8) c.id stOK
  | n + 1, i =>
    let r := s.tileAt g c i
    match r.1 with
    | .ended => r.2
    | .wait => r.2
    | .tile t =>
      let x := r.2.tile t
      if x.1 = .filling ∨ x.1 = .evicting then r.2
      else
        let s := if bitOf (c.wd 3) 1 then (r.2.unpinTile t c.ctx).grantPins else r.2
        let dirty := bitOf (c.wd 3) 0 && x.1 = .resident && s.qdOf x.2 ≠ 0 && !s.readOnly
        if dirty then
          if s.frameHeld x.2 || decide (64 ≤ s.movers) then s
          else
            let s := (s.recall (s.frameAddr x.2) 65536 false).saveDirty t x.2
            let d := s.cmdNow g c
            s.putCmd (g / 8) { d with busy := true, st := if n = 0 then .committed else .running }
        else
          let s := s.ageOut t
          let d := s.cmdNow g c
          (s.putCmd (g / 8) { d with prog := i + 1, pos := i + 1 }).releaseFrom g c n (i + 1)

/-- TIER_RELEASE at its engine. -/
def State.goRelease (s : State) (g : Nat) : State :=
  match s.headCmd g 2 0x23 with
  | none => s
  | some c =>
    if c.busy then s
    else (s.putCmd (g / 8) { c with st := .running }).releaseFrom g c (c.f 2 31 0 - c.pos) c.pos

/-- The quarters of the tile in progress are programmed: the tile is processed, and the next ones follow. -/
def State.releaseDone (s : State) (g : Nat) : State :=
  match s.headCmd g 2 0x23 with
  | none => s
  | some c =>
    if !c.busy then s
    else
      let r := s.tileAt g c c.pos
      let s := match r.1 with | .tile t => s.ageOut t | _ => s
      let d := { c with busy := false, prog := c.pos + 1, pos := c.pos + 1 }
      (s.putCmd (g / 8) d).pump.releaseFrom g d (c.f 2 31 0 - d.pos) d.pos

/-- TIER_RELEASE. -/
def execTierRelease (g : Nat) (s : State) : Host.Outcome State Fault Refusal :=
  act (decide (g < 256)) (fun s => s.goRelease g) s

/-- TIER_RELEASE_TILE_DONE. -/
def execTierReleaseTileDone (g : Nat) (s : State) : Host.Outcome State Fault Refusal :=
  act (decide (g < 256)) (fun s => s.releaseDone g) s

/-! ### Deadlines -/

/-- House time reaches the DEADLINE of the command at the head of an engine that still waits for its tiles: the
command looks at them once more and ends TIER_LATE unless they are all there. -/
def State.expire (s : State) (g e : Nat) : State :=
  if !s.roomUp g then s
  else match s.engineHead g e with
    | none => s
    | some c =>
      match c.deadline with
      | none => s
      | some d =>
        if c.op = 1 && c.st = .issued then (s.advance d).goMatmul g
        else if c.op = 2 && c.st = .issued then (s.advance d).startLoad g
        else if c.op = 0x20 && c.st = .issued then (s.advance d).goCopy g
        else if c.op = 0x22 then (s.advance d).goPrefetch g
        else s

/-- TIER_DEADLINE_EXPIRY. -/
def execTierDeadlineExpiry (g e : Nat) (s : State) : Host.Outcome State Fault Refusal :=
  act (decide (g < 256) && (decide (e = 0) || decide (e = 2))) (fun s => s.expire g e) s

end Sys2Proof.Machine
end

