-- ==== Sys2Proof/Machine/CacheCmds.lean ====
section
/-! DEFINITION. The wing caches' registers and operations (R191 to R195), reduce lines (R179), and the coherence
messages as they arrive (R196 to R205). -/

namespace Sys2Proof.Machine

/-! ### Reduce lines -/

/-- REDUCE_LINE_WRITEBACK. -/
def execReduceLineWriteback (holder line : Nat) (s : State) : Host.Outcome State Fault Refusal :=
  act (decide (holder < 36)) (fun s => s.rlineBack holder line) s

/-- The copy was last updated 64 µs ago (R179): house time reaches that time and the copy goes home. -/
def State.rlineTimeout (s : State) (h line : Nat) : State :=
  match (s.rlinesOf h).find? fun r => r.line = line with
  | none => s
  | some r => (s.advance (r.time + 64000)).rlineBack h line

/-- REDUCE_LINE_TIMEOUT. -/
def execReduceLineTimeout (holder line : Nat) (s : State) : Host.Outcome State Fault Refusal :=
  act (decide (holder < 36)) (fun s => s.rlineTimeout holder line) s

/-! ### Registers (Table 7.1) -/

/-- A write to WCCFG (R191, R192): more than 12 LOCK bits refuse it whole, and HOLD is kept within 16 to 256. -/
def State.wccfg (s : State) (w v : Nat) : State :=
  if !s.wingUp w then s
  else if 12 < popCount 16 (fld v 47 32) then s.setRegF (paCache w 8) 16 16 1
  else
    let hold := max 16 (min 256 (fld v 8 0))
    (s.setReg (paCache w 0) (BitVec.ofNat 64 (fld v 48 16 * 2 ^ 16 + hold))).retryFills w

/-- WCCFG_WRITE. -/
def execWccfgWrite (w : Nat) (v : BitVec 64) (s : State) : Host.Outcome State Fault Refusal :=
  act (decide (w < 32)) (fun s => s.wccfg w v.toNat) s

/-- A write to WCOP (R191): 1 CLEAN, 2 FLUSH, 3 FLUSH_ALL; ignored while an operation is in progress. -/
def State.wcop (s : State) (w op : Nat) : State :=
  if !s.wingUp w || decide ((s.cache w).op ≠ 0) || decide (op = 0) || decide (3 < op) then s
  else
    let s := s.setCache w { s.cache w with op := op }
    (s.setRegF (paCache w 0x10) 2 2 1).flushOp w op

/-- An operation of WCOP has passed every set. -/
def State.wcopEnd (s : State) (w : Nat) : State :=
  if !s.wingUp w then s else (s.setCache w { s.cache w with op := 0 }).setRegF (paCache w 0x10) 2 2 0

/-- CLEAN. -/
def execClean (w : Nat) (s : State) : Host.Outcome State Fault Refusal := act (decide (w < 32)) (fun s => s.wcop w 1) s
/-- FLUSH. -/
def execFlush (w : Nat) (s : State) : Host.Outcome State Fault Refusal := act (decide (w < 32)) (fun s => s.wcop w 2) s
/-- FLUSH_ALL. -/
def execFlushAll (w : Nat) (s : State) : Host.Outcome State Fault Refusal := act (decide (w < 32)) (fun s => s.wcop w 3) s
/-- WCOP_DONE. -/
def execWcopDone (w : Nat) (s : State) : Host.Outcome State Fault Refusal := act (decide (w < 32)) (fun s => s.wcopEnd w) s

/-- DIS bits written 1: the ways take part in lookup and allocation again (R193). -/
def State.enableWays (s : State) (w m : Nat) : State :=
  if !s.wingUp w then s
  else
    let v := s.regF (paCache w 8) 47 32 &&& (65535 - m % 65536)
    ((s.setRegF (paCache w 8) 47 32 v).setEnt (0x5230 + w / 8) (w % 8 + 1) v).retryFills w

/-- WAY_REENABLE. -/
def execWayReenable (w : Nat) (mask : BitVec 16) (s : State) : Host.Outcome State Fault Refusal :=
  act (decide (w < 32)) (fun s => s.enableWays w mask.toNat) s

/-- A read of a register that clears its RC bits (R7): its value is answered. -/
def State.readClear (s : State) (pa : Nat) : State :=
  match regDesc pa with
  | none => s.emit (.regRead pa 0)
  | some d => (s.emit (.regRead pa (s.reg pa))).setReg pa (s.reg pa &&& ~~~d.rc)

/-- WCLAND_READ. -/
def execWclandRead (w : Nat) (s : State) : Host.Outcome State Fault Refusal :=
  act (decide (w < 32)) (fun s => if s.wingUp w then s.readClear (paCache w 0x18) else s) s

/-! ### The Landing -/

/-- The oldest HELD line's WB is sent (R195). -/
def State.landSend (s : State) (w : Nat) : State :=
  match (s.cache w).landing.find? fun e => !e.sent with
  | none => s
  | some e => if s.wingUp w then s.landSendLine w e else s

/-- LANDING_WB_SEND. -/
def execLandingWbSend (w : Nat) (s : State) : Host.Outcome State Fault Refusal :=
  act (decide (w < 32)) (fun s => s.landSend w) s

/-- The hold of a line ends (R205): house time reaches that moment, the snoops that waited for it are answered, and
the fills that wait for a way go on (R190). -/
def State.holdOver (s : State) (a line : Nat) : State :=
  let s := match (s.held a line).bind fun c => c.hold with
    | some t => s.advance (t + s.holdNs a)
    | none => s
  (s.endHold a line).retryFills a

/-- HOLD_EXPIRY. -/
def execHoldExpiry (a line : Nat) (s : State) : Host.Outcome State Fault Refusal :=
  act (decide (a < 40) && memLine line) (fun s => s.holdOver a line) s

/-! ### Requests at a home -/

/-- Whether a request writes its line, or asks for the right to. -/
def HomeReq.writes : HomeReq → Bool
  | .rds _ => false
  | .rdo _ => false
  | _ => true

/-- Whether a class of agents never goes through the tier aperture: dispatchers, walkers, the root port (R237) and the
Scullery. A request of any other agent for a line of a pool frame came through it. -/
def outsideAperture (cls : Nat) : Bool := cls = 0x05 || cls = 0x0A || cls = 0x16 || cls = 0x18

/-- The source with which a home refuses a request (R19, R219, R241, R243, R307). -/
def State.homeRefuses (s : State) (line : Nat) (r : HomeReq) : Option Nat :=
  let a := (reqWho r).master
  if agentDie a = 4 ∧ agentClass a = 0x14 then none
  else match regionOf (line * 64) with
    | .stack j =>
      if s.stackShut j then some 0x21
      else if (s.poolFrame (line * 64)).isSome then (if outsideAperture (agentClass a) then some 0x21 else none)
      else if agentDie a < 4 ∧ s.suiteOfDie (agentDie a) ≠ s.suiteOfStack j then some 0x21
      else none
    | .host => if r.writes && s.tierRegion (line * 64) then some 0x20 else none
    | _ => none

/-- The context for which a unit of a room works now: that of the command at the head of its engine queue. -/
def State.unitCtx (s : State) (a : BitVec 16) : Option Nat :=
  let e := if agentClass a = 2 then some 1 else if agentClass a = 3 then some 2
    else if agentClass a = 1 ∨ agentClass a = 4 then some 0 else none
  if agentDie a < 4 ∧ agentInst a < 64 then
    e.bind fun e => (s.engineHead (agentDie a * 64 + agentInst a) e).map fun c => c.ctx
  else none

/-- Whether a request needs the dies of its stack (R222): ownership without data does not. -/
def State.needsDies (s : State) (line : Nat) (r : HomeReq) : Bool :=
  match r with
  | .wro _ => false
  | .upg a => match s.dirOf line with
    | some (.shared v) => !(sharers v).contains a
    | _ => true
  | _ => true

/-- A request arrives at a home (R13, R19, R200, R219, R222, R241, R243, R302, R407): refused, answered with poison by
what has become of a lost home, made to wait, queued, or started. -/
def State.homeTake (s : State) (line : Nat) (r : HomeReq) : State :=
  let who := reqWho r
  let d := agentDie who.master
  let lost := match regionOf (line * 64) with
    | .stack j => !s.dieUp (j / 3) || s.hallCut d (j / 3)
    | _ => !s.on
  if lost then { s with net := s.net ++ lostAnswer line r }
  else match s.homeRefuses line r with
    | some src => if d < 4 then s.capture d (accReport src who.master who.access (line * 64) (s.unitCtx who.master)) else s
    | none =>
      if s.hallHeld d (homeDie line) || (s.needsDies line r && s.stackHeld line) then s.defer (.req line r)
      else if s.homeBusy line then { s with lineQ := s.lineQ ++ [(line, r)] }
      else s.beginReq line r

/-- A request of caching agent `a`: what the agent sent to that home before has arrived before it (R14). -/
def State.agentAsks (s : State) (a line : Nat) (r : HomeReq) : State :=
  if !s.cacheUp a || s.net.any fun m => m.path = (cacheAgent a, true, homeAgent (line * 64)) then s else s.homeTake line r

/-- RDS. -/
def execRds (a line : Nat) (s : State) : Host.Outcome State Fault Refusal :=
  act (decide (a < 40) && memLine line) (fun s => s.agentAsks a line (HomeReq.rds a)) s
/-- RDX. -/
def execRdx (a line : Nat) (s : State) : Host.Outcome State Fault Refusal :=
  act (decide (a < 40) && memLine line) (fun s => s.agentAsks a line (HomeReq.rdx a)) s
/-- UPG. -/
def execUpg (a line : Nat) (s : State) : Host.Outcome State Fault Refusal :=
  act (decide (a < 40) && memLine line) (fun s => s.agentAsks a line (HomeReq.upg a)) s
/-- WRO. -/
def execWro (a line : Nat) (s : State) : Host.Outcome State Fault Refusal :=
  act (decide (a < 40) && memLine line) (fun s => s.agentAsks a line (HomeReq.wro a)) s
/-- RDO. -/
def execRdo (src : BitVec 16) (line : Nat) (s : State) : Host.Outcome State Fault Refusal :=
  act (memLine line) (fun s => s.homeTake line (HomeReq.rdo src)) s
/-- WRF. -/
def execWrf (src : BitVec 16) (line : Nat) (l : LineData) (place : Option Nat) (s : State) :
    Host.Outcome State Fault Refusal :=
  act (memLine line) (fun s => s.homeTake line (HomeReq.wrf src l place)) s
/-- WRP. -/
def execWrp (src : BitVec 16) (line : Nat) (mask : BitVec 64) (l : LineData) (s : State) :
    Host.Outcome State Fault Refusal :=
  act (memLine line) (fun s => s.homeTake line (HomeReq.wrp src mask l)) s

/-- A memory-side operation arrives (R227, R228): only a stack has a Cistern, and a reserved code has no
operation. -/
def State.redTake (s : State) (src : BitVec 16) (pa op : Nat) (x : BitVec 128) (psn : Bool) : State :=
  match regionOf pa with
  | .stack _ => if cisOpOk op then s.homeTake (pa / 64) (.red src pa (BitVec.ofNat 8 op) x psn) else s
  | _ => s

/-- RED. -/
def execRed (src : BitVec 16) (pa : Nat) (op : BitVec 8) (x : BitVec 128) (psn : Bool) (s : State) :
    Host.Outcome State Fault Refusal :=
  act (decide (pa < 2 ^ 56)) (fun s => s.redTake src pa op.toNat x psn) s

/-! ### Messages that the module has in flight -/

/-- A message arrives if it is in flight, the first of its path (R14), and no hallway of that path is training
(R302). -/
def State.deliverMsg (s : State) (m : Msg) : State :=
  if s.net.contains m && decide (s.firstOnPath m = m) && !s.hallHeld (agentDie m.path.1) (homeDie m.about) then
    s.arrives m false
  else s

/-- WB. -/
def execWb (a line : Nat) (l : LineData) (s : State) : Host.Outcome State Fault Refusal :=
  act (decide (a < 40) && memLine line) (fun s => s.deliverMsg (Msg.wb a line l)) s
/-- SNPS. -/
def execSnps (a line : Nat) (s : State) : Host.Outcome State Fault Refusal :=
  act (decide (a < 40) && memLine line) (fun s => s.deliverMsg (Msg.snps a line)) s
/-- SNPI. -/
def execSnpi (a line : Nat) (s : State) : Host.Outcome State Fault Refusal :=
  act (decide (a < 40) && memLine line) (fun s => s.deliverMsg (Msg.snpi a line)) s
/-- PUSH. -/
def execPush (a line : Nat) (l : LineData) (s : State) : Host.Outcome State Fault Refusal :=
  act (decide (a < 40) && memLine line) (fun s => s.deliverMsg (Msg.push a line l)) s
/-- ACK. -/
def execAck (a line : Nat) (s : State) : Host.Outcome State Fault Refusal :=
  act (decide (a < 40) && memLine line) (fun s => s.deliverMsg (Msg.ack a line)) s
/-- ACKD. -/
def execAckd (a line : Nat) (l : LineData) (s : State) : Host.Outcome State Fault Refusal :=
  act (decide (a < 40) && memLine line) (fun s => s.deliverMsg (Msg.ackd a line l)) s
/-- NH. -/
def execNh (a line : Nat) (s : State) : Host.Outcome State Fault Refusal :=
  act (decide (a < 40) && memLine line) (fun s => s.deliverMsg (Msg.nh a line)) s
/-- NHW. -/
def execNhw (a line : Nat) (s : State) : Host.Outcome State Fault Refusal :=
  act (decide (a < 40) && memLine line) (fun s => s.deliverMsg (Msg.nhw a line)) s
/-- GNTS. -/
def execGnts (a line : Nat) (l : LineData) (s : State) : Host.Outcome State Fault Refusal :=
  act (decide (a < 40) && memLine line) (fun s => s.deliverMsg (Msg.gnts a line l)) s
/-- GNTE. -/
def execGnte (a line : Nat) (l : LineData) (s : State) : Host.Outcome State Fault Refusal :=
  act (decide (a < 40) && memLine line) (fun s => s.deliverMsg (Msg.gnte a line l)) s
/-- GNTM. -/
def execGntm (a line : Nat) (l : LineData) (s : State) : Host.Outcome State Fault Refusal :=
  act (decide (a < 40) && memLine line) (fun s => s.deliverMsg (Msg.gntm a line l)) s
/-- GNTO. -/
def execGnto (a line : Nat) (s : State) : Host.Outcome State Fault Refusal :=
  act (decide (a < 40) && memLine line) (fun s => s.deliverMsg (Msg.gnto a line)) s
/-- DATA. -/
def execData (src : BitVec 16) (line : Nat) (l : LineData) (s : State) : Host.Outcome State Fault Refusal :=
  act (memLine line) (fun s => s.deliverMsg (Msg.data src line l)) s
/-- CMP. -/
def execCmp (src : BitVec 16) (line : Nat) (s : State) : Host.Outcome State Fault Refusal :=
  act (memLine line) (fun s => s.deliverMsg (Msg.cmp src line)) s
/-- LANDING_ACK_RECEIVE. -/
def execLandingAckReceive (a line : Nat) (s : State) : Host.Outcome State Fault Refusal :=
  act (decide (a < 40) && memLine line) (fun s => s.deliverMsg (Msg.landAck a line)) s

end Sys2Proof.Machine
end

