-- ==== Sys2Proof/Machine/Epochs.lean ====
section
/-! DEFINITION. Mode epochs (R385 to R389, R139). -/

namespace Sys2Proof.Machine

/-- How a dictionary write with an effect of its own is answered: done, out of range, busy, not quiescent, or
forbidden (Table 14.8). -/
inductive Answered where
  | ok
  | access
  | range
  | busy
  | notQuiescent
deriving DecidableEq, Repr

/-- STAGE (R386). -/
def State.stageEpoch (s : State) (i e : Nat) : Answered × State :=
  if suiteCount s.layout ≤ i then (.range, s)
  else if s.ep i 3 ≠ 0 then (.busy, s)
  else if e ≠ (s.ep i 1 + 1) % 256 then (.range, s)
  else
    let ords := (s.enabledQueues.filter fun x => s.suiteOfDie (x.1 / 8) = i).map fun x =>
      (x.1 * 128 + x.2, decide (s.qf x.1 x.2 0x10 18 18 = 1))
    let s := s.setEpoch i { Epoch.reset with win := toSigned 32 (s.ent 0x8010 (i + 1)), head := s.ent 0x8011 (i + 1), ords := ords }
    let s := (s.setEp i 2 e).setEp i 7 0
    (.ok, s.setEp i 3 (if s.suiteUnits i = [] then 2 else 1))

/-- A unit acknowledges a staged epoch (R386, R388), once its path is not held. -/
def State.ackEpoch (s : State) (i u : Nat) : State :=
  let p := s.epoch i
  if !(s.ep i 3 = 1 || s.ep i 3 = 3) || !(s.suiteUnits i).contains u || p.acked.contains u ||
     s.ent (0x5200 + unitDie u) 1 ≠ 2 then s
  else
    let s := s.setEpoch i { p with acked := u :: p.acked }
    let s := s.setEp i 7 (p.acked.length + 1)
    if s.ep i 3 = 1 ∧ ((s.suiteUnits i).all fun x => (u :: p.acked).contains x) then s.setEp i 3 2 else s

/-- COMMIT (R387): the epoch in bits [7:0], the step in bits [63:8]. -/
def State.commitEpoch (s : State) (i v : Nat) : Answered × State :=
  if suiteCount s.layout ≤ i ∨ !(s.ep i 3 = 1 || s.ep i 3 = 2) ∨ v % 256 ≠ s.ep i 2 then (.range, s)
  else
    let s := s.setEpoch i { s.epoch i with step := v / 256, earliest := s.house + 20000, applied := false, bounds := 0 }
    (.ok, s.setEp i 3 3)

/-- CANCEL (R386). -/
def State.cancelEpoch (s : State) (i v : Nat) : Answered × State :=
  if suiteCount s.layout ≤ i then (.range, s)
  else if v = 0 ∨ s.ep i 3 = 0 then (.ok, s)
  else if s.ep i 3 = 3 then (.busy, s)
  else (.ok, (s.setEpoch i .reset).setEp i 3 0)

/-- A unit applies epoch `e` of its suite: the values it held are those of the epoch before (R139, R388). -/
def State.applyUnit (s : State) (u e : Nat) (p : Epoch) : State :=
  let m := s.unitModes u
  let s := (s.setModes u ⟨p.win, p.head, m.win, m.head⟩).setUnitEpoch u e
  if u < 32 then
    let qs := (List.range 128).filter fun q => s.qf u q 0x30 49 49 = 1
    let s := s.setWing u { s.wing u with ordPrev := qs }
    each (p.ords.filter fun x => x.1 / 128 = u) (fun x s => s.setQf u (x.1 % 128) 0x30 49 49 (b2n x.2)) s
  else s

/-- The acknowledged units of suite `i` apply its epoch; with no straggler left the change has ended (R388). -/
def State.applyAcked (s : State) (i : Nat) : State :=
  let p := s.epoch i
  let e := s.ep i 2
  let s := each ((s.laggards i).filter fun u => p.acked.contains u) (fun u s => s.applyUnit u e p) s
  s.recountEpoch i

/-- What a boundary does to the epoch of suite `i` (R380, R387 to R389). -/
def State.boundEpoch (s : State) (i : Nat) : State :=
  if s.ep i 3 ≠ 3 then s
  else
    let p := s.epoch i
    if !p.applied then
      if s.stepNo < p.step ∨ s.house < p.earliest then s
      else
        let s := s.setEpoch i { p with applied := true, bounds := 0 }
        (s.setEp i 9 s.stepNo).applyAcked i
    else
      let s := s.setEpoch i { p with bounds := p.bounds + 1 }
      let s := s.applyAcked i
      if p.bounds + 1 = 2 ∧ s.ep i 3 = 3 then
        each (s.laggards i) (fun u s => s.raise (0x8030 + i) 8 1 u) s
      else s

/-- A unit that starts takes its suite's applied epoch, with those values for the epoch before, and any staged
values (R385, R139). -/
def State.startUnit (s : State) (u : Nat) : State :=
  let i := s.suiteOfDie (unitDie u)
  let win := toSigned 32 (s.ep i 10)
  let head := s.ep i 11
  let p := s.epoch i
  let s := (s.setModes u ⟨win, head, win, head⟩).setUnitEpoch u (s.ep i 1)
  if s.ep i 3 ≠ 0 ∧ !p.acked.contains u then (s.setEpoch i { p with acked := u :: p.acked }).recountEpoch i else s

/-- STAGE. -/
def execStage (i e : Nat) (s : State) : Host.Outcome State Fault Refusal :=
  act (decide (i < 4)) (fun s => (s.stageEpoch i e).2) s
/-- EPOCH_ACK. -/
def execEpochAck (i unit : Nat) (s : State) : Host.Outcome State Fault Refusal :=
  act (decide (i < 4) && decide (unit < 288)) (fun s => s.ackEpoch i unit) s
/-- COMMIT. -/
def execCommit (i : Nat) (v : BitVec 64) (s : State) : Host.Outcome State Fault Refusal :=
  act (decide (i < 4)) (fun s => (s.commitEpoch i v.toNat).2) s
/-- EPOCH_CANCEL. -/
def execEpochCancel (i v : Nat) (s : State) : Host.Outcome State Fault Refusal :=
  act (decide (i < 4)) (fun s => (s.cancelEpoch i v).2) s

end Sys2Proof.Machine
end

