-- ==== Sys2Proof/Machine/Fleet.lean ====
section
/-! DEFINITION. Frequencies and the fleet frequency lock (R335, R337 to R344, R377), and the numbers that dictionary
entries hold as binary32. -/

namespace Sys2Proof.Machine

/-! ### Binary32 (R361) -/

/-- The binary32 nearest to n ÷ d. -/
def f32Ratio (n d : Nat) : Nat :=
  (fFP32.round .rne false false (2 * (n * 2 ^ 64 / d) + b2n (n * 2 ^ 64 % d ≠ 0)) (-65)).bits

/-- Whether n ÷ d is at or below a binary32. -/
def ratioLe (n d x : Nat) : Bool :=
  match fFP32.decode x with
  | .fin false m e => if 0 ≤ e then decide (n ≤ d * (m * 2 ^ e.toNat)) else decide (n * 2 ^ (-e).toNat ≤ d * m)
  | .inf false => true
  | _ => false

/-- Whether the module is its segment's manager (R374). -/
def State.manager (s : State) : Bool := s.ent 0x4400 1 = 1

/-! ### Power-skip duty -/

/-- The sixteenths of its CARITH cycles that a compute die skips (R332, R333, R335, Table 13.5). -/
def State.duty (s : State) (d : Nat) : Nat :=
  let own := if s.ctl.missed then 8 else (s.die d).skip
  let b := s.ent 0x2200 (d + 1)
  if b = 3 then 16 else if b = 2 then max 4 own else own

/-! ### Laggards (R343, Table 13.4) -/

/-- The running dies of a suite. -/
def State.runningDies (s : State) (i : Nat) : List Nat := (suiteDies s.layout i).filter fun d => s.dieUp d
/-- Of two fractions given as parts of sixteen times a whole, the larger; one of nothing is 0. -/
def moreSkip (a b : Nat × Nat) : Nat × Nat :=
  if b.2 = 0 then a else if a.2 = 0 then b else if a.1 * b.2 < b.1 * a.2 then b else a
/-- The largest skipped fraction of a suite's running dies over the last step, as sixteenths and a whole (R336, R339, Table
13.4). -/
def State.suiteSkip (s : State) (i : Nat) : Nat × Nat :=
  (s.runningDies i).foldl (fun m d => moreSkip m (s.die d).lastSkip) (0, 0)
/-- A frequency less the skipped fraction. -/
def lessSkip (f : Nat) (k : Nat × Nat) : Nat := if k.2 = 0 then f else f * (16 * k.2 - k.1) / (16 * k.2)
/-- The causes that hold for a suite: bit 0 POWER (as `power` says), 1 DIE, 2 STACK. -/
def State.causesNow (s : State) (i : Nat) (power : Bool) : Nat :=
  let ds := suiteDies s.layout i
  b2n power + 2 * b2n (ds.any fun d => decide (2 ≤ s.ent 0x2200 (d + 1))) +
  4 * b2n (ds.any fun d => [1, 2, 3].any fun k => decide (2 ≤ s.ent 0x3010 (3 * d + k)))
/-- A sustainable frequency: at least 600 MHz, a multiple of 25 MHz. -/
def sustain (f : Nat) : Nat := max 600 (f / 25 * 25)
/-- The sustainable frequency of a suite for its causes. -/
def State.sustainable (s : State) (i causes : Nat) : Nat :=
  let f := (s.fleetOf i).freq
  let power := if bitOf causes 0 then sustain (lessSkip f (s.suiteSkip i)) else 2000
  let heat := if 2 ≤ causes then sustain (f * (100 - s.ent 0x2105 (i + 1)) / 100) else 2000
  min power heat

/-- The suites whose fleet job is `job`. -/
def State.jobSuites (s : State) (job : Nat) : List Nat :=
  if job = 0 then [] else (List.range (suiteCount s.layout)).filter fun i => s.ent 0x2100 (i + 1) = job

/-- A FREQ_SET is taken for every suite of its job (R342). -/
def State.takeFreq (s : State) (job mhz b : Nat) : State :=
  each (s.jobSuites job) (fun i s =>
    let f := s.fleetOf i
    if s.stepNo + 1 < b then s.setFleet i { f with byStep := some (b, mhz, false) }
    else s.setFleet i { f with byStep := some (s.stepNo + 2, mhz, true) }) s

/-- The authority sends a FREQ_SET, which it also takes (R342, R344). -/
def State.sendFreq (s : State) (job mhz : Nat) : State :=
  let b := s.stepNo + 2
  (s.emit (.freqSet 0xFFFF job mhz b)).takeFreq job mhz b

/-- The authority hears of a laggard of suite `i`'s job (R344). -/
def State.judgeLaggard (s : State) (i job mhz : Nat) (serial : Bytes) : State :=
  let f := s.fleetOf i
  let reports := (mhz, serial) :: f.reports
  if f.policy = 1 then s.setFleet i { f with reports := reports }
  else
    let s := s.setFleet i { f with reports := reports, calm := 0, start := if f.start = 0 then f.freq else f.start, lagging := if f.lagging.contains serial then f.lagging else serial :: f.lagging }
    s.sendFreq job (reports.foldl (fun m r => min m r.1) 2000)

/-- A laggard of suite `i`'s job has cleared. -/
def State.judgeClear (s : State) (i : Nat) (serial : Bytes) : State :=
  let f := s.fleetOf i
  s.setFleet i { f with lagging := f.lagging.filter fun x => x ≠ serial, calm := 0 }

/-- A manager's route of a fleet message: for every suite of the job over Gloing to the authority named, or `self` (R377). -/
def State.routeFleet (s : State) (job op : Nat) (body : Bytes) (self : Nat → State → State) : State :=
  each (s.jobSuites job) (fun i s =>
    let a := s.ent 0x4430 (i + 2)
    if a = 0xFFFF then s.raise 0x4430 (i + 2) 5 job
    else if a = 0xFFFE then self i s
    else s.sendNotice a op body) s

/-- A LAGGARD goes its way: a worker sends it to its manager. -/
def State.sendLaggard (s : State) (job causes mhz step : Nat) (serial : Bytes) : State :=
  if s.manager then
    s.routeFleet job 0x21 (toBytes 4 job ++ toBytes 2 causes ++ toBytes 2 mhz ++ toBytes 8 step ++ serial)
      (fun i s => s.judgeLaggard i job mhz serial)
  else s.emit (.laggard 0xFFFF job (BitVec.ofNat 3 causes) mhz step serial)
/-- A LAGGARD_CLEAR goes its way. -/
def State.sendClear (s : State) (job step : Nat) (serial : Bytes) : State :=
  if s.manager then
    s.routeFleet job 0x22 (toBytes 8 job ++ toBytes 8 step ++ serial) (fun i s => s.judgeClear i serial)
  else s.emit (.laggardClear 0xFFFF job step serial)
/-- A FREQ_LATE goes its way. -/
def State.sendLate (s : State) (job step : Nat) (serial : Bytes) : State :=
  if s.manager then s.routeFleet job 0x23 (toBytes 8 job ++ toBytes 8 step ++ serial) (fun _ s => s)
  else s.emit (.freqLate 0xFFFF job step serial)

/-- Suite `i` reports its causes. -/
def State.reportLaggard (s : State) (i causes : Nat) : State :=
  let mhz := s.sustainable i causes
  let s := (s.incEnt 0x2107 (i + 1) 1).setEnt 0x2106 (i + 1) (causes * 2 ^ 24 + mhz)
  let f := s.fleetOf i
  let s := s.setFleet i { f with reported := some mhz, clean := 0, heldDue := if f.policy = 1 then some (2, some mhz) else f.heldDue }
  s.sendLaggard (s.ent 0x2100 (i + 1)) causes mhz s.stepNo s.serial

/-- The causes of suite `i` now: the first one makes the module a laggard, with an event (R343). -/
def State.laggardNow (s : State) (i : Nat) (power : Bool) : State :=
  let f := s.fleetOf i
  let c := s.causesNow i power
  let s := s.setFleet i { f with causes := c }
  if s.ent 0x2100 (i + 1) = 0 ∨ c = 0 ∨ f.causes ≠ 0 ∨ f.reported.isSome then s
  else (s.reportLaggard i c).raise 0x2106 (i + 1) 0 (c * 2 ^ 24 + s.sustainable i c)

/-- A band has changed: the suite's causes are looked at, with POWER as the last step left it. -/
def State.laggardBand (s : State) (i : Nat) : State := s.laggardNow i (bitOf (s.fleetOf i).causes 0)

/-! ### What a boundary does to frequencies (R337 to R344) -/

/-- CARITH of die `d` at a frequency. -/
def State.setCarith (s : State) (d mhz : Nat) : State := s.setEnt 0x1110 (10 + d) (mhz * 1000)

/-- A written setting of suite `i`, index 0x2101 to 0x2103, is staged for the second boundary (R337). -/
def State.stageFreq (s : State) (i idx : Nat) : State :=
  let f := s.fleetOf i
  s.setFleet i { f with due := f.due ++ [(2, idx, s.ent idx (i + 1))] }

/-- A staged setting takes effect. -/
def Fleet.take (f : Fleet) (idx v : Nat) : Fleet :=
  if idx = 0x2101 then { f with freq := v, openF := max f.openF v }
  else if idx = 0x2102 then { f with mode := v, openF := if f.mode = v then f.openF else f.freq }
  else { f with policy := v }

/-- A suite's settings at a boundary that opens step `n`: those whose boundary has come take effect, then a FREQ_SET whose
step has come (R337, R342, R344). -/
def Fleet.atBoundary (f : Fleet) (n : Nat) : Fleet :=
  let due := f.due.map fun x => (x.1 - 1, x.2)
  let f := (due.filter fun x => x.1 = 0).foldl (fun (f : Fleet) x => f.take x.2.1 x.2.2) f
  let f := { f with due := due.filter fun x => x.1 ≠ 0, move := f.move - 1 }
  let f := match f.heldDue with
    | some (k, h) => if k ≤ 1 then { f with held := h, heldDue := none } else { f with heldDue := some (k - 1, h) }
    | none => f
  match f.byStep with
  | some (b, mhz, _) => if n < b then f else { f with byStep := none, freq := mhz, openF := max f.openF mhz }
  | none => f

/-- The frequency of a suite's dies under its settings: none while a layout change has not moved them (R337 to R339). -/
def Fleet.runs (f : Fleet) : Option Nat :=
  if f.move ≠ 0 then none else some (if f.mode = 1 then f.openF else f.held.getD f.freq)

/-- Settings take effect at a boundary; a FREQ_SET that comes late is answered with FREQ_LATE and counted (R337, R342,
R380). -/
def State.applyDue (s : State) (i : Nat) (renum : Bool) : State :=
  let f := s.fleetOf i
  let g := f.atBoundary s.stepNo
  let t := s.setFleet i g
  match f.byStep with
  | some (b, mhz, late) =>
    if s.stepNo < b then t
    else
      let t := t.setEnt 0x2101 (i + 1) mhz
      if late || (renum && decide (b < s.stepNo)) then
        (t.incEnt 0x2108 (i + 1) 1).sendLate (s.ent 0x2100 (i + 1)) s.stepNo s.serial
      else t
  | none => t

/-- The CARITH frequency of die `d` in MHz now. -/
def State.carith (s : State) (d : Nat) : Nat := s.ent 0x1110 (10 + d) / 1000
/-- The setpoint of VARR of die `d` in mV (R330): that of the higher of its present frequency and the one of the next
boundary, so that it rises before a frequency does and falls after one has fallen. -/
def State.varr (s : State) (d : Nat) : Nat :=
  Config.varrSetpoint (max (s.carith d) (((s.fleetOf (s.suiteOfDie d)).atBoundary (s.stepNo + 1)).runs.getD 0))

/-- The laggard state of suite `i` at a boundary (R343). -/
def State.boundLaggard (s : State) (i : Nat) : State :=
  let k := s.suiteSkip i
  let power := decide (s.ent 0x2104 (i + 1) * (16 * k.2) < k.1 * 10000)
  let s := s.laggardNow i power
  let f := s.fleetOf i
  if s.ent 0x2100 (i + 1) = 0 then s
  else if f.causes ≠ 0 then
    let now := f.held.getD f.freq
    match f.reported with
    | some r => if now ≤ r ∧ f.heldDue.isNone then s.reportLaggard i f.causes else s.setFleet i { f with clean := 0 }
    | none => (s.reportLaggard i f.causes).raise 0x2106 (i + 1) 0 (f.causes * 2 ^ 24 + s.sustainable i f.causes)
  else if f.reported.isSome ∧ 100 ≤ f.clean + 1 then
    let s := s.setFleet i { f with reported := none, clean := 0, heldDue := if f.held.isSome ∨ f.heldDue.isSome then some (1, none) else none }
    (s.setEnt 0x2106 (i + 1) 0).sendClear (s.ent 0x2100 (i + 1)) s.stepNo s.serial
  else s.setFleet i { f with clean := f.clean + 1 }

/-- The authority's wait before it raises a job to its starting frequency (R344). -/
def State.boundAuthority (s : State) (i : Nat) : State :=
  let f := { s.fleetOf i with reports := [] }
  if f.start = 0 ∨ f.lagging ≠ [] then s.setFleet i f
  else if f.calm + 1 < 1000 then s.setFleet i { f with calm := f.calm + 1 }
  else (s.setFleet i { f with calm := 0, start := 0 }).sendFreq (s.ent 0x2100 (i + 1)) f.start

/-- The frequency of the next boundary under Open mode, from the step just ended (R339, Table 13.5). -/
def State.openNext (s : State) (i : Nat) : Nat :=
  let f := s.fleetOf i
  let ds := suiteDies s.layout i
  let normal := (List.range 5).all (fun d => s.ent 0x2200 (d + 1) = 0) && (List.range 12).all fun j => s.ent 0x3010 (j + 1) = 0
  let k := s.suiteSkip i
  if ds.any fun d => decide (1 ≤ s.ent 0x2200 (d + 1)) then f.freq
  else if k.1 ≠ 0 then max f.freq (f.openF - ((f.openF * k.1 + 16 * k.2 - 1) / (16 * k.2) + 24) / 25 * 25)
  else if !s.ctl.limited && normal && decide (s.ctl.avgMw * 100 ≤ s.ent 0x2000 1 * 95000) then min 2000 (f.openF + 25)
  else f.openF

/-- CARITH switches at a boundary (R337 to R339). -/
def State.boundFreq (s : State) (i : Nat) : State :=
  let f := s.fleetOf i
  let s := match f.runs with
    | some now => each (suiteDies s.layout i) (fun d (s : State) => s.setCarith d now) s
    | none => s
  s.setFleet i { f with openF := if f.mode = 1 then s.openNext i else f.freq }

end Sys2Proof.Machine
end

