-- ==== Sys2Proof/Machine/StackCmds.lean ====
section
/-! DEFINITION. The stack controllers and the Cisterns as commands: rows, scrubbing, bands, refresh (R208, R218 to
R224, R347), and the memory-side operations (R227 to R235). -/

namespace Sys2Proof.Machine

/-- A stack controller as an agent. -/
def stackAgent (j : Nat) : BitVec 16 := agentNo (j / 3) 0x08 (j % 3)
/-- Whether stack `j` is in CRITICAL, its dies in self-refresh (R222). -/
def State.critical (s : State) (j : Nat) : Bool := s.ent 0x3010 (j + 1) = 3
/-- Whether the controller of stack `j` runs. -/
def State.stackUp (s : State) (j : Nat) : Bool := s.dieUp (j / 3)

/-! ### Rows and refresh -/

/-- ROW_CLOSE. -/
def execRowClose (j ch bank : Nat) (s : State) : Host.Outcome State Fault Refusal :=
  act (decide (j < 12) && decide (ch < 32) && decide (bank < 16))
    (fun s => s.setStack j { s.stack j with openRow := tdel (s.stack j).openRow (ch * 16 + bank) }) s

/-- A per-bank refresh of the bank's next 8 rows (Table 8.5); in CRITICAL the dies refresh themselves. -/
def State.refreshBank (s : State) (j k : Nat) : State :=
  if !s.stackUp j || s.critical j then s
  else
    let t := s.stack j
    s.setStack j { t with refresh := tput 0 k ((tget 0 t.refresh k + 8) % 65536) t.refresh }

/-- PER_BANK_REFRESH. -/
def execPerBankRefresh (j ch bank : Nat) (s : State) : Host.Outcome State Fault Refusal :=
  act (decide (j < 12) && decide (ch < 32) && decide (bank < 16)) (fun s => s.refreshBank j (ch * 16 + bank)) s

/-! ### Scrubbing -/

/-- One word read by the patrol: a corrected word is written back only while no transaction for its line is in
progress (R218). -/
def State.patrolWord (s : State) (j pa : Nat) : State :=
  let r := (s.readWord ⟨stackAgent j, 0, none⟩ pa).2
  if (s.lineTxn (pa / 64)).isSome then { r with mem := s.mem, code := s.code } else r

/-- The patrol reads its next granule (R218); a line in the merge buffer is not read from the dies (R231). -/
def State.patrol (s : State) (j : Nat) : State :=
  if !s.stackUp j || s.critical j || (s.stack j).scrubbing || decide (s.ent 0x3015 (j + 1) = 0) then s
  else
    let n := (s.stack j).patrol
    let a := (j + 1) * 2 ^ 36 + 256 * n
    let s := each (List.range 16) (fun m s =>
      if (s.mergeCopy ((a + 16 * m) / 64)).isSome then s else s.patrolWord j (a + 16 * m)) s
    s.setStack j { s.stack j with patrol := (n + 1) % 2 ^ 28 }

/-- PATROL_SCRUB_READ. -/
def execPatrolScrubRead (j : Nat) (s : State) : Host.Outcome State Fault Refusal :=
  act (decide (j < 12)) (fun s => s.patrol j) s

/-- Whether a zero scrub of stack `j` that software asks for is accepted (R219). -/
def State.mayScrub (s : State) (j : Nat) : Bool :=
  s.stackUp j && !(s.stack j).scrubbing &&
  !(s.liveCtxs.any fun c => (s.ctxRec c).segs.any fun g => !g.paged && g.maps fun i => i = j) &&
  !(s.tier.frames.any fun e => e.1 / 524288 = j) && (s.tierState = 0 || s.ent 0x3102 (j + 1) = 0)

/-- A zero scrub begins (R219). -/
def State.beginScrub (s : State) (j : Nat) : State :=
  let s := s.setStack j { s.stack j with scrubbing := true }
  (s.setEnt 0x3016 (j + 1) 1).setRegF (paStack j 0) 4 4 1

/-- ZERO_SCRUB_START. -/
def execZeroScrubStart (j : Nat) (s : State) : Host.Outcome State Fault Refusal :=
  act (decide (j < 12)) (fun s => if s.mayScrub j then s.beginScrub j else s) s

/-- A zero scrub has written every word; in CRITICAL it is held (R222). -/
def State.endScrub (s : State) (j : Nat) : State :=
  if !(s.stack j).scrubbing || s.critical j || !s.stackUp j then s
  else
    let s := s.zeroStack j
    let s := s.setStack j { s.stack j with scrubbing := false }
    ((s.setEnt 0x3016 (j + 1) 0).setEnt 0x3019 (j + 1) 0).setRegF (paStack j 0) 4 4 0

/-- ZERO_SCRUB_DONE. -/
def execZeroScrubDone (j : Nat) (s : State) : Host.Outcome State Fault Refusal :=
  act (decide (j < 12)) (fun s => s.endScrub j) s

/-! ### Bands (R220 to R223) -/

/-- Upper bound of a band in °C. -/
def bandTop (b : Nat) : Nat := if b = 0 then 85 else if b = 1 then 95 else 105
/-- The band of a temperature. -/
def bandOf (t : Nat) : Nat := if t ≤ 85 then 0 else if t ≤ 95 then 1 else if t ≤ 105 then 2 else 3

/-- A stack takes a band. -/
def State.setBand (s : State) (j b : Nat) : State :=
  let old := s.ent 0x3010 (j + 1)
  let s := s.setStack j { s.stack j with critAt := if b = 3 then some s.house else none }
  let s := (s.setEnt 0x3010 (j + 1) b).showStack j
  let s := if old = 3 ∧ b ≠ 3 then s.setStack j { s.stack j with wbBuf := [], waiters := [] } else s
  s.laggardBand (s.suiteOfStack j)

/-- Since when every sample has been at or below a bound: `now` begins such a time. -/
def coolSince (low : Bool) (a : Option Nat) (now : Nat) : Option Nat := if low then some (a.getD now) else none

/-- A temperature sample of stack `j` (R220): a higher band at once; the lowest band whose upper bound less 3 °C no
sample of the last 10 ms has exceeded; CRITICAL is left for HOT at 102 °C. -/
def State.stackTemp (s : State) (j t : Nat) : State :=
  if !s.stackUp j then s
  else
    let s := (s.setEnt 0x3011 (j + 1) (min 255 t)).showStack j
    let k := s.stack j
    let cool := coolSince (decide (t + 3 ≤ bandTop 0)) k.coolAt s.house
    let mild := coolSince (decide (t + 3 ≤ bandTop 1)) k.mildAt s.house
    let s := s.setStack j { k with coolAt := cool, mildAt := mild }
    let long := fun (a : Option Nat) => a.any fun x => decide (x + 10000000 ≤ s.house)
    let b := s.ent 0x3010 (j + 1)
    if b < bandOf t then s.setBand j (bandOf t)
    else if b = 3 then (if t ≤ 102 then s.setBand j 2 else s)
    else if 0 < b ∧ long cool then s.setBand j 0
    else if b = 2 ∧ long mild then s.setBand j 1
    else s

/-- A stack has been in CRITICAL for 50 ms (R347): the contexts that map it or wait for it are killed, the held
operations of other modules are refused, and the stack is closed to them. -/
def State.critTimeout (s : State) (j : Nat) : State :=
  if !s.stackUp j || !s.critical j then s
  else
    let s := match (s.stack j).critAt with | some t => s.advance (t + 50000000) | none => s
    let map := s.liveCtxs.filter fun c => (s.ctxRec c).segs.any fun g => !g.paged && g.maps fun i => i = j
    let held : List Nat := (s.stack j).waiters.filterMap fun x =>
      match s.cmd x.1 x.2 with
      | some c => if c.status.isNone then some c.ctx else none
      | none => none
    let l : List Nat := (map ++ held).eraseDups
    let s := if l = [] then s else s.capture (j / 3) { plainReport 0x28 (stackAgent j) with contexts := l }
    let s : State := each s.pairs (fun e s =>
      match e.2.rx.find? fun x => x.1 = e.2.rxSeq with
      | some x => if regionOf x.2.addr = .stack j && s.opHeld x.2 then s.sendNak e.1 x.2 else s
      | none => s) s
    let mine : List (Packet × Issuer) := (s.pair s.own).waiting.filter fun x => regionOf x.1.addr = .stack j
    let s : State := if s.own = 0xFFFF ∨ mine = [] then s
      else
        let p := s.pair s.own
        let s := s.setPair s.own { p with waiting := p.waiting.filter fun x => !mine.contains x }
        each mine (fun x s => s.remoteFail x.2 x.1.op) s
    s.setEnt 0x4041 (j + 1) 0

/-- STACK_CRITICAL_TIMEOUT. -/
def execStackCriticalTimeout (j : Nat) (s : State) : Host.Outcome State Fault Refusal :=
  act (decide (j < 12)) (fun s => s.critTimeout j) s

/-- SCERR_READ. -/
def execScerrRead (j : Nat) (s : State) : Host.Outcome State Fault Refusal :=
  act (decide (j < 12)) (fun s => if s.stackUp j then s.readClear (paStack j 0x10) else s) s

/-! ### The Cistern -/

/-- MERGE_BUFFER_FLUSH. -/
def execMergeBufferFlush (j line : Nat) (s : State) : Host.Outcome State Fault Refusal :=
  act (decide (j < 12) && memLine line) (fun s => if !s.stackUp j || s.critical j then s else s.mergeFlush j line) s

/-- ADD_I32. -/
def execAddI32 (src : BitVec 16) (pa : Nat) (x : BitVec 128) (psn : Bool) (s : State) :
    Host.Outcome State Fault Refusal :=
  act (decide (pa < 2 ^ 56)) (fun s => s.redTake src pa 0x00 x psn) s
/-- ADD_I64. -/
def execAddI64 (src : BitVec 16) (pa : Nat) (x : BitVec 128) (psn : Bool) (s : State) :
    Host.Outcome State Fault Refusal :=
  act (decide (pa < 2 ^ 56)) (fun s => s.redTake src pa 0x01 x psn) s
/-- MIN_S32. -/
def execMinS32 (src : BitVec 16) (pa : Nat) (x : BitVec 128) (psn : Bool) (s : State) :
    Host.Outcome State Fault Refusal :=
  act (decide (pa < 2 ^ 56)) (fun s => s.redTake src pa 0x10 x psn) s
/-- MIN_S64. -/
def execMinS64 (src : BitVec 16) (pa : Nat) (x : BitVec 128) (psn : Bool) (s : State) :
    Host.Outcome State Fault Refusal :=
  act (decide (pa < 2 ^ 56)) (fun s => s.redTake src pa 0x11 x psn) s
/-- MAX_S32. -/
def execMaxS32 (src : BitVec 16) (pa : Nat) (x : BitVec 128) (psn : Bool) (s : State) :
    Host.Outcome State Fault Refusal :=
  act (decide (pa < 2 ^ 56)) (fun s => s.redTake src pa 0x20 x psn) s
/-- MAX_S64. -/
def execMaxS64 (src : BitVec 16) (pa : Nat) (x : BitVec 128) (psn : Bool) (s : State) :
    Host.Outcome State Fault Refusal :=
  act (decide (pa < 2 ^ 56)) (fun s => s.redTake src pa 0x21 x psn) s
/-- MIN_U32. -/
def execMinU32 (src : BitVec 16) (pa : Nat) (x : BitVec 128) (psn : Bool) (s : State) :
    Host.Outcome State Fault Refusal :=
  act (decide (pa < 2 ^ 56)) (fun s => s.redTake src pa 0x30 x psn) s
/-- MIN_U64. -/
def execMinU64 (src : BitVec 16) (pa : Nat) (x : BitVec 128) (psn : Bool) (s : State) :
    Host.Outcome State Fault Refusal :=
  act (decide (pa < 2 ^ 56)) (fun s => s.redTake src pa 0x31 x psn) s
/-- MAX_U32. -/
def execMaxU32 (src : BitVec 16) (pa : Nat) (x : BitVec 128) (psn : Bool) (s : State) :
    Host.Outcome State Fault Refusal :=
  act (decide (pa < 2 ^ 56)) (fun s => s.redTake src pa 0x40 x psn) s
/-- MAX_U64. -/
def execMaxU64 (src : BitVec 16) (pa : Nat) (x : BitVec 128) (psn : Bool) (s : State) :
    Host.Outcome State Fault Refusal :=
  act (decide (pa < 2 ^ 56)) (fun s => s.redTake src pa 0x41 x psn) s
/-- AND. -/
def execCisAnd (src : BitVec 16) (pa : Nat) (x : BitVec 128) (psn : Bool) (s : State) :
    Host.Outcome State Fault Refusal :=
  act (decide (pa < 2 ^ 56)) (fun s => s.redTake src pa 0x50 x psn) s
/-- OR. -/
def execCisOr (src : BitVec 16) (pa : Nat) (x : BitVec 128) (psn : Bool) (s : State) :
    Host.Outcome State Fault Refusal :=
  act (decide (pa < 2 ^ 56)) (fun s => s.redTake src pa 0x60 x psn) s
/-- XOR. -/
def execCisXor (src : BitVec 16) (pa : Nat) (x : BitVec 128) (psn : Bool) (s : State) :
    Host.Outcome State Fault Refusal :=
  act (decide (pa < 2 ^ 56)) (fun s => s.redTake src pa 0x70 x psn) s
/-- CAS_32. -/
def execCas32 (src : BitVec 16) (pa : Nat) (x : BitVec 128) (psn : Bool) (s : State) :
    Host.Outcome State Fault Refusal :=
  act (decide (pa < 2 ^ 56)) (fun s => s.redTake src pa 0x80 x psn) s
/-- CAS_64. -/
def execCas64 (src : BitVec 16) (pa : Nat) (x : BitVec 128) (psn : Bool) (s : State) :
    Host.Outcome State Fault Refusal :=
  act (decide (pa < 2 ^ 56)) (fun s => s.redTake src pa 0x81 x psn) s
/-- ADD_F32. -/
def execAddF32 (src : BitVec 16) (pa : Nat) (x : BitVec 128) (psn : Bool) (s : State) :
    Host.Outcome State Fault Refusal :=
  act (decide (pa < 2 ^ 56)) (fun s => s.redTake src pa 0x92 x psn) s
/-- ADD_BF16. -/
def execAddBf16 (src : BitVec 16) (pa : Nat) (x : BitVec 128) (psn : Bool) (s : State) :
    Host.Outcome State Fault Refusal :=
  act (decide (pa < 2 ^ 56)) (fun s => s.redTake src pa 0x93 x psn) s
/-- ADD_XP. -/
def execAddXp (src : BitVec 16) (pa : Nat) (x : BitVec 128) (psn : Bool) (s : State) :
    Host.Outcome State Fault Refusal :=
  act (decide (pa < 2 ^ 56)) (fun s => s.redTake src pa 0xA4 x psn) s

end Sys2Proof.Machine
end

