-- ==== Sys2Proof/Machine/TierCmds.lean ====
section
/-! DEFINITION. The tier range as commands: enabling and disabling (R239, R242, R263), fills, evictions and ageing
(R246 to R255), and the Cellar's spares (R262). -/

namespace Sys2Proof.Machine

/-! ### Enabling (R239, R242, R243) -/

/-- Whether a pool entry breaks a limit of R239, or the region of R243 is not in host memory. -/
def State.poolBroken (s : State) : Bool :=
  (List.range 12).any (fun j =>
    decide (524288 < s.ent 0x3102 (j + 1)) || decide (1048576 < s.ent 0x3101 (j + 1) + s.ent 0x3102 (j + 1))) ||
  (let b := s.ent 0x3100 1
   decide (b % 2097152 ≠ 0) || decide (regionOf b ≠ .host) || decide (regionOf (b + 0x65FFFFFF) ≠ .host))

/-- Whether bytes `a` to `b − 1` meet a pool frame of R240. -/
def State.meetsPool (s : State) (a b : Nat) : Bool :=
  (List.range 12).any fun j =>
    let lo := s.poolBase j
    let hi := lo + s.ent 0x3102 (j + 1) * 65536
    decide (a < hi) && decide (lo < b) && decide (lo < hi)

/-- Whether a descriptor in progress names an address in a pool frame. -/
def State.hatchMeets (s : State) (r : HatchRun) : Bool :=
  let n := fld (lget 0#64 r.words 0).toNat 63 32
  let a := (lget 0#64 r.words 1).toNat
  let b := (lget 0#64 r.words 2).toNat
  !r.done && (s.meetsPool a (a + max n 1) || s.meetsPool b (b + max n 1))

/-- Whether an enable must be refused as not quiescent (R242). -/
def State.poolInUse (s : State) : Bool :=
  s.liveCtxs.any (fun c =>
    (s.ctxRec c).segs.any (fun g =>
      !g.paged && s.meetsPool (g.pbase * 4096) ((g.pbase + (g.last - g.vbase) + 1) * 4096)) ||
    ((s.ctxRec c).ptmode = 10 && s.meetsPool (s.ctxRec c).root ((s.ctxRec c).root + 4096))) ||
  s.enabledQueues.any (fun x =>
    let a := s.qf x.1 x.2 0x00 55 6 * 64
    let b := s.qf x.1 x.2 0x08 55 6 * 64
    s.meetsPool a (a + 64 * s.wring x.1 x.2) || s.meetsPool b (b + 32 * s.cring x.1 x.2)) ||
  s.hatches.any (fun h => h.2.any fun r => s.hatchMeets r)

/-- How an enable is answered: accepted, out of range, or not quiescent. -/
inductive TierAnswer where
  | ok
  | range
  | busy
deriving DecidableEq, Repr

/-- 0x3100.02 written 1 (R239, R242). -/
def State.tierStart (s : State) : TierAnswer × State :=
  if s.tierState ≠ 0 then (.ok, s)
  else if s.poolBroken then (.range, s)
  else if s.poolInUse then (.busy, s)
  else (.ok, (s.setEnt 0x3100 2 1).setEnt 0x3100 8 1)

/-- TIER_ENABLE. -/
def execTierEnable (s : State) : Host.Outcome State Fault Refusal :=
  act true (fun s => if s.on then s.tierStart.2 else s) s

/-- The map and the frame table are cleared: the range is ENABLED. -/
def State.tierReady (s : State) : State :=
  if s.tierState ≠ 1 then s
  else
    let b := s.ent 0x3100 1
    let s := { s with
      mem := s.mem.filter fun c => decide (c.1 < b) || decide (b + 0x66000000 ≤ c.1)
      code := s.code.filter fun c => decide (c.1 < b) || decide (b + 0x66000000 ≤ c.1)
      tier := { Tier.reset with cellar := s.tier.cellar, ccode := s.tier.ccode, worn := s.tier.worn } }
    s.setEnt 0x3100 8 2

/-- TIER_ENABLE_DONE. -/
def execTierEnableDone (s : State) : Host.Outcome State Fault Refusal :=
  act true (fun s => s.tierReady) s

/-! ### Disabling (R263) -/

/-- Whether a context has a segment in the aperture. -/
def State.tierMapped (s : State) : Bool :=
  s.liveCtxs.any fun c => (s.ctxRec c).segs.any fun g => !g.paged && regionOf (g.pbase * 4096) = .tier

/-- 0x3100.02 written 0. -/
def State.tierStop (s : State) : TierAnswer × State :=
  if s.tierState ≠ 2 then (.ok, s)
  else if s.tierMapped then (.busy, s)
  else (.ok, (s.setEnt 0x3100 2 0).setEnt 0x3100 8 3)

/-- TIER_DISABLE. -/
def execTierDisable (s : State) : Host.Outcome State Fault Refusal :=
  act true (fun s => if s.on then s.tierStop.2 else s) s

/-- Every dirty quarter is written back and every frame freed. -/
def State.tierEmpty (s : State) : State :=
  if s.tierState ≠ 3 ∨ s.tier.frames.any (fun e => s.frameHeld e.1) then s
  else
    let s := each s.tier.frames (fun e s =>
      let s := s.recall (s.frameAddr e.1) 65536 true
      let s := if s.readOnly then s else s.saveDirty e.2.tile e.1
      ((s.setQd e.1 0).setTile e.2.tile .absent 0).freeFrame e.1) s
    ({ s with tier := { Tier.reset with cellar := s.tier.cellar, ccode := s.tier.ccode, worn := s.tier.worn } } : State).setEnt 0x3100 8 0


/-! ### Fills -/

/-- The TIER_PREFETCH commands that their copy units work on look at their tiles again (R258). -/
def State.pumpPrefetch (s : State) : State :=
  each s.rooms (fun e s =>
    match s.headCmd e.1 2 0x22 with
    | some c => if c.st = .issued then s else s.goPrefetch e.1
    | none => s) s

/-- In-flight commands that hold a tile (R256). -/
def State.holdersOfTile (s : State) (t : Nat) : Nat :=
  (s.wings.flatMap fun e => e.2.cmds.filter fun c => c.pages.contains t).length

/-- A tile is RESIDENT in its frame, clean and of age 0, and the pins that waited for it are set (R246, R255). -/
def State.settleTile (s : State) (t f : Nat) (fr : Frame) : State :=
  let fr := { fr with st := .resident, age := 0, mark := false, holds := s.holdersOfTile t }
  (((s.setQd f 0).setFrame f fr).setTile t .resident f).grantPins.pump.pumpPrefetch

/-- All four quarters of a FILLING tile are written into its frame (R246, R250). -/
def State.fillDone (s : State) (t : Nat) (bad : BitVec 4) : State :=
  let f := (s.tile t).2
  match s.frame f with
  | none => s
  | some fr =>
    if (s.tile t).1 ≠ .filling ∨ s.frameHeld f then s
    else
      let s := each [0, 1, 2, 3] (fun q s => s.fillQuarter t f q (bitOf bad.toNat q)) s
      (s.incEnt 0x3112 3 1).settleTile t f fr


/-! ### Evictions -/

/-- The age by which a frame is chosen (R253). -/
def Frame.effAge (f : Frame) : Nat := if f.mark then 0 else f.age

/-- Whether a frame's tile may be a victim. -/
def State.victimOk (s : State) (n : Nat) (f : Frame) : Bool :=
  f.st = .resident && !f.pin && f.holds = 0 && !(s.readOnly && s.qdOf n ≠ 0)

/-- The frame of the next victim. -/
def State.victim (s : State) : Option (Nat × Frame) :=
  (s.tier.frames.filter fun e => s.victimOk e.1 e.2).foldl (fun (m : Option (Nat × Frame)) e =>
    match m with
    | none => some e
    | some o => if o.2.effAge < e.2.effAge then some e else some o) none

/-- Whether the Dumbwaiter evicts now: since the free frames fell below the low watermark, up to the high one, or while a
fill waits for a frame. -/
def State.evictNow (s : State) : Bool :=
  s.tier.evictOn || (decide (s.tier.waiting ≠ []) && (s.roomiest (List.range 12)).isNone)

/-- The next victim becomes EVICTING (R253, R254); its lookup-buffer entries are invalidated. -/
def State.selectVictim (s : State) : State :=
  if s.tierState ≠ 2 then s
  else
    let s := s.watermarks
    match (if s.evictNow && decide (s.movers < 64) then s.victim else none) with
    | none => s
    | some (n, f) => ((s.setFrame n { f with st := .evicting }).setTile f.tile .evicting n).forgetTile f.tile

/-- VICTIM_SELECT. -/
def execVictimSelect (s : State) : Host.Outcome State Fault Refusal :=
  act true (fun s => s.selectVictim) s

/-- Whether an access translated to a frame is still to be performed: a COPY's read of another module whose answer goes
there (R254). -/
def State.frameAwaited (s : State) (f : Nat) : Bool :=
  s.reads.any fun r => r.dst.any fun d => decide (s.frameAddr f ≤ d) && decide (d < s.frameAddr f + 65536)

/-- A tile's eviction ends: its lines are recalled and its dirty quarters written, and the frame is freed, or kept
for the references that wait (R248, R254). It first waits for the accesses already translated, and for a stack in
CRITICAL. -/
def State.evictDone (s : State) (t : Nat) : State :=
  let f := (s.tile t).2
  match s.frame f with
  | none => s
  | some fr =>
    if (s.tile t).1 ≠ .evicting ∨ s.frameHeld f ∨ s.frameAwaited f then s
    else
      let s := s.recall (s.frameAddr f) 65536 true
      if s.readOnly && s.qdOf f ≠ 0 then
        (((s.setFrame f { fr with st := .resident }).setTile t .resident f).unrefer t).pump.pumpPrefetch
      else
        let s := s.saveDirty t f
        if s.referred t then ((s.unrefer t).incEnt 0x3112 2 1).settleTile t f fr
        else (((s.setTile t .absent 0).freeFrame f).incEnt 0x3112 4 1).pump


/-! ### Ageing, pins and spares -/

/-- A RESIDENT tile's frame after an age tick (R252). -/
def Frame.older (f : Frame) : Frame :=
  if f.st ≠ .resident then f
  else if f.mark then { f with age := 0, mark := false } else { f with age := min 255 (f.age + 1) }

/-- An age tick, once 0x3100.03 step boundaries have passed since the last (R252): it clears the mark of every entry of
the lookup buffers. -/
def State.tickAges (s : State) : State :=
  if s.tierState ≠ 2 ∨ s.tier.bounds < s.ent 0x3100 3 then s
  else
    let s := s.mapFrames Frame.older
    { s with tier := { s.tier with
      marks := s.tier.marks.map fun e => (e.1, e.2.1, false)
      bounds := s.tier.bounds - s.ent 0x3100 3 } }

/-- AGE_TICK. -/
def execAgeTick (s : State) : Host.Outcome State Fault Refusal := act true (fun s => s.tickAges) s

/-- The pins of a context that was destroyed or killed are cleared (R255): those it had then, whatever it is now. -/
def State.clearPins (s : State) (c : Nat) : State :=
  let l := s.tier.pinsOwed.filter fun n => (s.frame n).any fun f => f.pinctx = c
  let s := each l (fun n s =>
    match s.frame n with
    | some f => s.setFrame n { f with pin := false, pinctx := 0 }
    | none => s) s
  let s := { s with tier := { s.tier with pinsOwed := s.tier.pinsOwed.filter fun n => !l.contains n } }
  s.grantPins.pumpPrefetch

/-- CONTEXT_PIN_CLEAR. -/
def execContextPinClear (c : Nat) (s : State) : Host.Outcome State Fault Refusal :=
  act (decide (c < 256)) (fun s => s.clearPins c) s

/-- The spare blocks are all in use (R262): no further page is programmed; with the use passing 90% the Breaker
records CELLAR_SPARES. -/
def State.sparesOut (s : State) : State :=
  let worn := decide (90 ≤ s.ent 0x3130 7)
  let s := (s.setEnt 0x3130 1 1).setEnt 0x3130 7 100
  if worn || !s.on then s else s.capture 4 (plainReport 0x05 (agentNo 4 0x15 0))

/-- CELLAR_SPARES_EXHAUSTED. -/
def execCellarSparesExhausted (s : State) : Host.Outcome State Fault Refusal :=
  act true (fun s => s.sparesOut) s

end Sys2Proof.Machine
end

