-- ==== Sys2Proof/Machine/LatchCmds.lean ====
section
/-! DEFINITION. The dispatcher's own commands: latches (R147 to R150), FENCE (R151) and ABORT (R159, R161). -/

namespace Sys2Proof.Machine

/-- LATCH_WAIT begins: from now on it tests every value of its latch, the present one first. -/
def State.beginWait (s : State) (w q : Nat) : State :=
  match s.begins w q 0x30 with
  | some c =>
    let s := s.putCmd w { c with st := .waiting }
    let l := c.f 1 11 0
    s.showLatch w l (s.latch w l)
  | none => s

/-- The waiting command of queue `q` with opcode `op` that is oldest. -/
def State.waitingCmd (s : State) (w q op : Nat) : Option Cmd :=
  (s.queueCmds w q).find? fun c => c.op == op && decide (c.st = .waiting) && c.status.isNone

/-- A wait whose condition held at some value, and which is committed since (R161), is satisfied: the Shelves of an
acquire are invalidated, and it is done (R149). -/
def State.endWait (s : State) (w q : Nat) : State :=
  if !s.wingUp w then s
  else match (s.queueCmds w q).find? fun c => c.op == 0x30 && decide (c.st = .committed) && c.status.isNone with
    | none => s
    | some c =>
      let rooms := if bitOf (c.wd 1) 18 then (if bitOf (c.wd 1) 19 then List.range 8 else [c.rm]) else []
      (each rooms (fun r s => s.shelfClear (w * 8 + r)) s).doneOne w c

/-- LATCH_SIGNAL begins: it awaits the earlier commands of its queue in the engine queues that AFTER names. An earlier
command whose record is already written has been awaited too (R150): one that failed counts for every later LATCH_SIGNAL
of the queue, until the queue's RESET (DEDUCED). -/
def State.beginSignal (s : State) (w q : Nat) : State :=
  match s.begins w q 0x31 with
  | none => s
  | some c =>
    let named := fun (r e : Nat) => bitOf (c.f 2 23 0) (3 * r + e)
    let l := ((s.queueCmds w q).filter fun d => decide (d.id < c.id) && decide (d.issueNo ≠ 0) &&
      (match engineOf d.op with | some e => named d.rm e | none => false)).map fun d => d.id
    let v := s.wing w
    let bad := v.failed.any fun x => decide (x.1 = q) && bitOf (c.f 2 23 0) x.2
    s.putCmd w { c with st := .waiting, awaiting := l, awaitBad := bad }

/-- The LATCH_SIGNAL whose awaited commands have all written their records is performed, or suppressed under
OKONLY (R150). -/
def State.endSignal (s : State) (w q : Nat) : State :=
  if !s.wingUp w then s
  else match (s.queueCmds w q).find? fun c =>
      c.op == 0x31 && decide (c.st = .waiting) && c.status.isNone && decide (c.awaiting = []) with
    | none => s
    | some c =>
      let amt := BitVec.ofNat 32 (c.f 1 63 32)
      if bitOf (c.wd 1) 19 && c.awaitBad then s.endCmd w c.id stABORTED
      else if bitOf (c.wd 1) 18 then
        let a := 0x60000000 + c.f 1 16 12 * 0x800000 + 0x400000 + c.f 1 11 0 * 16 + (if bitOf (c.wd 1) 17 then 0 else 8)
        let s := s.putCmd w { c with prog := 1, remote := c.remote + 1 }
        let s := s.endCmd w c.id stOK
        s.remoteOp (.cmd w c.id) { basePacket 4 (c.f 1 31 20) a with ackp := true, tagx := amt }
      else
        let t := c.f 1 16 12
        let s := if bitOf (c.wd 1) 17 then s.latchSet t (c.f 1 11 0) amt else s.latchAdd t (c.f 1 11 0) amt
        s.doneOne w c

/-- A FENCE begins to hold the later commands of its queue (R151). -/
def State.beginFence (s : State) (w q : Nat) : State :=
  match s.begins w q 0x38 with
  | some c => s.putCmd w { c with st := .waiting }
  | none => s

/-- Whether an earlier command of the queue of `c` has sent other modules operations that they have still to perform:
its record was written at a narrower SCOPE than FABRIC (R146, R169). -/
def State.looseBefore (s : State) (w : Nat) (c : Cmd) : Bool :=
  (s.wing w).loose.any fun x => decide (x.1 = c.queue) && decide (x.2 < c.id) && s.remoteOpen w x.2

/-- A FENCE whose earlier commands have written their records, and which under scope FABRIC waits for what they have sent
to other modules too (R151, R172), sends reduce lines of narrower scope home (R179),
invalidates the Shelves it names, and is done. -/
def State.endFence (s : State) (w q : Nat) : State :=
  if !s.wingUp w then s
  else match s.waitingCmd w q 0x38 with
    | none => s
    | some c =>
      if (s.queueCmds w q).any (fun d => decide (d.id < c.id)) || (decide (5 ≤ c.f 1 2 0) && s.looseBefore w c) then s
      else
        let s := s.rlineFence w (c.f 1 2 0)
        (each (bitsOf 8 (c.f 1 15 8)) (fun r s => s.shelfClear (w * 8 + r)) s).doneOne w c

/-- An ABORT is performed (R159, Table 5.12). -/
def State.performAbort (s : State) (w q : Nat) : State :=
  if !s.wingUp w then s
  else match (s.queueCmds w q).find? fun c => c.op == 0x3F && decide (c.st = .fetched) && c.status.isNone with
    | none => s
    | some c =>
      let tq := c.f 1 22 16
      let may := s.qf w q 0x10 22 22 = 1 || decide (s.qctx w tq = c.ctx)
      let target := if may then (s.queueCmds w tq).find? fun d => d.id ≠ c.id && d.tag = c.f 1 15 0 else none
      match target with
      | none => s.endCmd w c.id stNOT_FOUND
      | some d =>
        if d.status.isSome || d.st = .committed then
          (s.putCmd w { c with awaiting := [d.id] }).endCmd w c.id stTOO_LATE
        else
          let s := s.stopCmd w d.id stABORTED
          (s.putCmd w { c with prog := 1, awaiting := [d.id] }).endCmd w c.id stOK

/-- LATCH_WAIT. -/
def execLatchWait (w q : Nat) (s : State) : Host.Outcome State Fault Refusal :=
  act (decide (w < 32) && decide (q < 128)) (fun s => s.beginWait w q) s
/-- LATCH_WAIT_SATISFIED. -/
def execLatchWaitSatisfied (w q : Nat) (s : State) : Host.Outcome State Fault Refusal :=
  act (decide (w < 32) && decide (q < 128)) (fun s => s.endWait w q) s
/-- LATCH_SIGNAL. -/
def execLatchSignal (w q : Nat) (s : State) : Host.Outcome State Fault Refusal :=
  act (decide (w < 32) && decide (q < 128)) (fun s => s.beginSignal w q) s
/-- LATCH_SIGNAL_PERFORM. -/
def execLatchSignalPerform (w q : Nat) (s : State) : Host.Outcome State Fault Refusal :=
  act (decide (w < 32) && decide (q < 128)) (fun s => s.endSignal w q) s
/-- FENCE. -/
def execFence (w q : Nat) (s : State) : Host.Outcome State Fault Refusal :=
  act (decide (w < 32) && decide (q < 128)) (fun s => s.beginFence w q) s
/-- FENCE_COMPLETE. -/
def execFenceComplete (w q : Nat) (s : State) : Host.Outcome State Fault Refusal :=
  act (decide (w < 32) && decide (q < 128)) (fun s => s.endFence w q) s
/-- ABORT. -/
def execAbort (w q : Nat) (s : State) : Host.Outcome State Fault Refusal :=
  act (decide (w < 32) && decide (q < 128)) (fun s => s.performAbort w q) s
/-- LATCH_SET_WRITE: a write to LVAL takes aligned 4-byte and 8-byte writes (R147). -/
def execLatchSetWrite (w l size : Nat) (v : BitVec 64) (s : State) : Host.Outcome State Fault Refusal :=
  act (decide (w < 32) && decide (l < 4096) && sizeOk size) (fun s => if size = 4 ∨ size = 8 then s.latchSet w l (v.setWidth 32) else s) s
/-- LATCH_ADD_WRITE: a write to LADD. -/
def execLatchAddWrite (w l size : Nat) (v : BitVec 64) (s : State) : Host.Outcome State Fault Refusal :=
  act (decide (w < 32) && decide (l < 4096) && sizeOk size) (fun s => if size = 4 ∨ size = 8 then s.latchAdd w l (v.setWidth 32) else s) s

end Sys2Proof.Machine
end

