-- ==== Sys2Proof/Machine/XlateCmds.lean ====
section
/-! DEFINITION. Contexts and translation as commands: context states (R269), walks (R275 to R277), fault rings and
answers (R279 to R281), and invalidation (R282, R283). -/

namespace Sys2Proof.Machine

/-! ### Context states -/

/-- How a write to a context's state entry is answered. -/
inductive CtxAnswer where
  | ok
  | range
  | busy
deriving DecidableEq, Repr

/-- FREE to ACTIVE (R268, R269). -/
def State.activate (s : State) (c : Nat) : CtxAnswer × State :=
  if s.ctxState c ≠ 0 then (.range, s)
  else match s.readContext c none with
    | .error e => (.range, s.refuseCtx c e)
    | .ok r => (.ok, (s.setCtx c r).setCtxState c 1)

/-- ACTIVE to KILLED. -/
def State.killCtx (s : State) (c : Nat) : CtxAnswer × State :=
  if s.ctxState c ≠ 1 then (.range, s) else (.ok, s.killContext c stKILLED)

/-- ACTIVE or KILLED to FREE: only without an enabled queue and without a command in flight. Nothing that
translation held of it is left. -/
def State.freeCtx (s : State) (c : Nat) : CtxAnswer × State :=
  if s.ctxState c = 0 then (.range, s)
  else if s.queuesOf c ≠ [] ∨ s.cmdsOf c ≠ [] then (.busy, s)
  else (.ok, (s.forgetCtx c).freeContext c)

/-- CONTEXT_ACTIVATE. -/
def execContextActivate (c : Nat) (s : State) : Host.Outcome State Fault Refusal :=
  act (decide (c < 256)) (fun s => if s.on then (s.activate c).2 else s) s
/-- CONTEXT_KILL. -/
def execContextKill (c : Nat) (s : State) : Host.Outcome State Fault Refusal :=
  act (decide (c < 256)) (fun s => (s.killCtx c).2) s
/-- CONTEXT_FREE. -/
def execContextFree (c : Nat) (s : State) : Host.Outcome State Fault Refusal :=
  act (decide (c < 256)) (fun s => (s.freeCtx c).2) s

/-! ### Walks -/

/-- The distinct (context, page) pairs of a die's walks, oldest first; the first 16 run (R274). -/
def Die.walking (d : Die) : List (Nat × Nat) := ((d.walks.map fun k => (k.ctx, k.page)).eraseDups).take 16

/-- An entry that a walk of one access found enters that access's wing TLB and µTLB (R275). -/
def State.giveEntry (s : State) (e : TlbEntry) (k : Walk) : State :=
  let v := s.wing k.wing
  let s := s.setWing k.wing { v with tlb := wtlbPut e v.tlb }
  let g := k.die * 64 + agentInst k.agent
  let r := s.room g
  s.setRoom g { r with utlb := tlbPut 64 e r.utlb }

/-- The walk of a page by die `d` is over. -/
def State.endWalk (s : State) (d c page : Nat) : State :=
  let v := s.die d
  s.setDie d { v with walks := v.walks.filter fun k => !(k.ctx = c && k.page = page) }

/-- The walk of a page ends for every access that joined it (R274 to R277). -/
def State.walkDone (s : State) (d c page : Nat) : State :=
  let v := s.die d
  let ks := v.walks.filter fun k => k.ctx = c && k.page = page
  match ks with
  | [] => s
  | k :: _ =>
    if !s.dieUp d || !(v.walking.contains (c, page)) then s
    else
      let r := s.walk d c k.va k.access
      if r.1 = .held then s
      else
      let s := (r.2.incEnt 0x8122 (d + 1) 1).endWalk d c page
      match r.1 with
      | .entry e => each ks (fun k s => s.giveEntry e k) s
      | .fault cause level => each ks (fun k s => s.pageFault k cause level) s
      | .held => s
      | .refused pa => s.capture d (accReport 0x21 (agentNo d 0x0A 0) 5 pa (some c))
      | .walker pa => s.capture d (accReport 0x23 (agentNo d 0x0A 0) 5 pa (some c))
      | .poison pa =>
        let s := s.capture d (accReport 0x15 (agentNo d 0x0A 0) 5 pa (some c))
        each ks (fun k s => s.stopCmd k.wing k.cmd stPOISON) s

/-- WALK_COMPLETE. -/
def execWalkComplete (d c page : Nat) (s : State) : Host.Outcome State Fault Refusal :=
  act (decide (d < 4) && decide (c < 256) && decide (page < 2 ^ 52)) (fun s => s.walkDone d c page) s

/-! ### Fault rings and answers -/

/-- FAULT_BUFFER_DRAIN. -/
def execFaultBufferDrain (i : Nat) (s : State) : Host.Outcome State Fault Refusal :=
  act (decide (i < 4)) (fun s => s.drainFaults i (s.faults.length + s.unfiled.length + 1)) s

/-- 0x8110+i.08 written 1 (R279). -/
def State.enableRing (s : State) (i : Nat) : State :=
  if s.ent (0x8110 + i) 8 = 1 then s
  else
    let s := { s with mgmt := { s.mgmt with fpass := s.mgmt.fpass.filter fun x => x ≠ i } }
    let s := ((s.setEnt (0x8110 + i) 5 0).setEnt (0x8110 + i) 6 0).setEnt (0x8110 + i) 8 1
    s.drainFaults i (s.faults.length + s.unfiled.length + 1)

/-- Whether the fault ring of suite `i` lies in host memory (R279). -/
def State.ringOk (s : State) (i : Nat) : Bool :=
  let b := s.ent (0x8110 + i) 1
  decide (regionOf b = .host) && decide (regionOf (b + 32 * 2 ^ s.ent (0x8110 + i) 2 - 1) = .host)

/-- FAULT_RING_ENABLE. -/
def execFaultRingEnable (i : Nat) (s : State) : Host.Outcome State Fault Refusal :=
  act (decide (i < 4)) (fun s => if s.on && s.ringOk i then s.enableRing i else s) s

/-- The pending fault of suite `i` with an identifier. -/
def State.faultOf (s : State) (i : Nat) (fid : BitVec 32) : Option Fault277 :=
  s.faults.find? fun f => f.suite = i && f.fid = fid

/-- An answer that matches no pending fault is counted (R280). -/
def State.strayAnswer (s : State) (i : Nat) : State :=
  let v := s.ent 0x8121 (i + 1)
  s.setEnt 0x8121 (i + 1) (putFld v 63 32 ((fld v 63 32 + 1) % 2 ^ 32))

/-- A pending fault is gone. -/
def State.dropFault (s : State) (f : Fault277) : State :=
  { s with faults := s.faults.filter fun x => !(x.suite = f.suite && x.fid = f.fid) }

/-- RESUME (R280): the fault holds the accesses that wait on it no longer; each repeats its translation from the µTLB
lookup when its engine goes on. -/
def State.resumeFault (s : State) (i : Nat) (fid : BitVec 32) : State :=
  match s.faultOf i fid with
  | none => s.strayAnswer i
  | some f => (s.dropFault f).fileFault i

/-- CANCEL (R280). -/
def State.cancelFault (s : State) (i : Nat) (fid : BitVec 32) : State :=
  match s.faultOf i fid with
  | none => s.strayAnswer i
  | some f => (each f.waits (fun x s => s.stopCmd x.1 x.2 stCANCELLED) (s.dropFault f)).fileFault i

/-- RESUME. -/
def execResume (i : Nat) (fid : BitVec 32) (s : State) : Host.Outcome State Fault Refusal :=
  act (decide (i < 4)) (fun s => if s.on then s.resumeFault i fid else s) s
/-- CANCEL. -/
def execCancel (i : Nat) (fid : BitVec 32) (s : State) : Host.Outcome State Fault Refusal :=
  act (decide (i < 4)) (fun s => if s.on then s.cancelFault i fid else s) s

/-! ### Invalidation -/

/-- Entries of the TLBs and walk caches of running dies for which `p` holds go, with every walk-cache entry (R283). -/
def State.dropPaged (s : State) (p : TlbEntry → Bool) : State :=
  let s := s.dropTlbs (fun d => s.dieUp d) p
  { s with dies := s.dies.map fun d => if s.dieUp d.1 then (d.1, { d.2 with walkc := [] }) else d }

/-- The reduce lines of the dies for which `p` holds go to their homes: what was translated is performed there. -/
def State.sendReduces (s : State) (p : Nat → Bool) : State :=
  each ((List.range 32).filter fun w => p (w / 8) && s.wingUp w) (fun w s => s.rlineFence w 8) s

/-- A host core's SFENCE.VMA is broadcast (R283): its core goes on once every access through what was removed has been
performed. -/
def State.sfence (s : State) (va : Option Nat) : State :=
  if !s.on || decide (s.ent 0x8100 2 ≠ 1) then s
  else
    let s := s.dropPaged fun e => match va with
      | none => true
      | some a => decide (e.va ≤ a) && decide (a < e.va + e.size)
    ((s.sendReduces fun _ => true).defer .fence).endFences

/-- SFENCE_VMA_BROADCAST. -/
def execSfenceVma (va : Option Nat) (s : State) : Host.Outcome State Fault Refusal :=
  act true (fun s => s.sfence va) s
/-- SINVAL_VMA_BROADCAST. -/
def execSinvalVma (va : Option Nat) (s : State) : Host.Outcome State Fault Refusal :=
  act true (fun s => s.sfence va) s

/-- The context that a TRANSLATION_INVALIDATE acts on (R282). -/
def invTarget (c : Cmd) : Nat := if bitOf (c.wd 3) 8 then c.f 3 7 0 else c.ctx

/-- Entries of a context between bytes `a` and `b − 1` of its space go from every die of its suite, with every
walk-cache entry of it. -/
def State.invalidate (s : State) (c a b : Nat) : State :=
  let mine := fun d => decide (s.suiteOfDie d = (s.ctxRec c).suite)
  let s := s.dropTlbs mine fun e => e.meets c a b
  { s with dies := s.dies.map fun d => if mine d.1 then (d.1, { d.2 with walkc := d.2.walkc.filter fun k => k.1 ≠ c }) else d }

/-- TRANSLATION_INVALIDATE begins (R282): entries go, and with PAGES 0 the segments are read again. A context that is
FREE has none. -/
def State.beginInval (s : State) (w q : Nat) : State :=
  match s.begins w q 0x40 with
  | none => s
  | some c =>
    let t := invTarget c
    let wait := fun (s : State) => s.putCmd w { c with st := .waiting }
    if s.ctxState t = 0 then wait s
    else if c.wd 2 ≠ 0 then
      let va := fld (c.wd 1) 56 0
      wait (s.invalidate t va (va + c.wd 2 * 4096))
    else match s.readContext t (some (s.ctxRec t).suite) with
      | .error e => (s.refuseCtx t e).endCmd w c.id stUNSUP
      | .ok r => wait ((s.invalidate t 0 (2 ^ 57)).setCtx t r)

/-- No use of old translations remains, and the reduce lines of the suite's agents are home: the command is done
(R282). -/
def State.endInval (s : State) (w q : Nat) : State :=
  if !s.wingUp w then s
  else match s.waitingCmd w q 0x40 with
    | none => s
    | some c =>
      let t := invTarget c
      if s.translated (fun k => k = t) then s
      else (s.sendReduces fun d => decide (s.suiteOfDie d = (s.ctxRec t).suite)).doneOne w c

/-- TRANSLATION_INVALIDATE. -/
def execTranslationInvalidate (w q : Nat) (s : State) : Host.Outcome State Fault Refusal :=
  act (decide (w < 32) && decide (q < 128)) (fun s => s.beginInval w q) s
/-- INVALIDATE_COMMIT. -/
def execInvalidateCommit (w q : Nat) (s : State) : Host.Outcome State Fault Refusal :=
  act (decide (w < 32) && decide (q < 128)) (fun s => s.endInval w q) s

end Sys2Proof.Machine
end

