-- ==== Sys2Proof/Machine/HostCmds.lean ====
section
/-! DEFINITION. Hatches (R286 to R290), letterboxes (R295 to R299) and the PCIe root port (R186, R300, R426). -/

namespace Sys2Proof.Machine

/-! ### Hatch rings (R287) -/

/-- HATCH[`h`] as it accesses memory. -/
def hatchWho (h access : Nat) : Who := ⟨agentNo 4 0x13 h, access, none⟩
/-- Bits [hi:lo] of register `o` of HATCH[`h`]. -/
def State.hf (s : State) (h o hi lo : Nat) : Nat := s.regF (paHatch h o) hi lo
/-- Whether HATCH[`h`] is enabled. -/
def State.hatchOn (s : State) (h : Nat) : Bool := s.on && s.hf h 0x20 0 0 = 1
/-- Entries of the descriptor ring. -/
def State.hring (s : State) (h : Nat) : Nat := 2 ^ s.hf h 0x08 4 0

/-- ENABLE written 1: accepted, or CFGERR (R287). -/
def State.enableHatch (s : State) (h : Nat) : State :=
  if !s.on || s.hatchOn h then s
  else
    let lg := s.hf h 0x08 4 0
    let a := s.hf h 0x00 55 6 * 64
    if 6 ≤ lg ∧ lg ≤ 16 ∧ regionOf a = .host ∧ regionOf (a + 64 * 2 ^ lg - 1) = .host then
      s.setRegF (paHatch h 0x20) 0 0 1
    else s.setRegF (paHatch h 0x28) 34 34 1

/-- A descriptor ends with a status of Table 11.7. -/
def HatchRun.ends (r : HatchRun) (st : Nat) : HatchRun := { r with done := true, status := BitVec.ofNat 4 st }

/-- ENABLE written 0: fetch stops, and what runs ends ABORTED. -/
def State.disableHatch (s : State) (h : Nat) : State :=
  if !s.hatchOn h then s
  else
    let s := s.setRegF (paHatch h 0x20) 0 0 0
    (s.setHatch h ((s.hatch h).map fun r => if r.done then r else r.ends 1)).dropWaiter (hatchKey h)

/-- RESET written 1 (R287). -/
def State.resetHatch (s : State) (h : Nat) : State :=
  if !s.on || s.hatchOn h || !(s.hatch h).isEmpty then s else s.setRegF (paHatch h 0x28) 32 0 0
/-- RESUME written 1. -/
def State.resumeHatch (s : State) (h : Nat) : State := if s.on then s.setRegF (paHatch h 0x28) 32 32 0 else s
/-- A write of HDB. -/
def State.hatchDoorbell (s : State) (h v : Nat) : State :=
  if !s.on || decide (s.hring h ≤ v % 65536) then s else s.setRegF (paHatch h 0x28) 31 16 (v % 65536)

/-- HATCH_ENABLE. -/
def execHatchEnable (h : Nat) (s : State) : Host.Outcome State Fault Refusal :=
  act (decide (h < 16)) (fun s => s.enableHatch h) s
/-- HATCH_DISABLE. -/
def execHatchDisable (h : Nat) (s : State) : Host.Outcome State Fault Refusal :=
  act (decide (h < 16)) (fun s => s.disableHatch h) s
/-- HATCH_RESET. -/
def execHatchReset (h : Nat) (s : State) : Host.Outcome State Fault Refusal :=
  act (decide (h < 16)) (fun s => s.resetHatch h) s
/-- HATCH_RESUME. -/
def execHatchResume (h : Nat) (s : State) : Host.Outcome State Fault Refusal :=
  act (decide (h < 16)) (fun s => s.resumeHatch h) s
/-- HATCH_DOORBELL. -/
def execHatchDoorbell (h : Nat) (v : BitVec 64) (s : State) : Host.Outcome State Fault Refusal :=
  act (decide (h < 16)) (fun s => s.hatchDoorbell h v.toNat) s

/-! ### Descriptors (R288, Table 11.6) -/

/-- The 64-bit value at byte offset 8 × `i` of a descriptor. -/
def HatchRun.wd (r : HatchRun) (i : Nat) : Nat := (lget 0#64 r.words i).toNat
/-- OP. -/
def HatchRun.op (r : HatchRun) : Nat := fld (r.wd 0) 7 0
/-- LENGTH. -/
def HatchRun.len (r : HatchRun) : Nat := fld (r.wd 0) 63 32
/-- CISOP. -/
def HatchRun.cis (r : HatchRun) : Nat := fld (r.wd 0) 23 16
/-- Source bytes per destination byte: 2 for CAS (R230). -/
def HatchRun.ratio (r : HatchRun) : Nat := if r.op = 2 && cisIsCas r.cis then 2 else 1
/-- Destination bytes. -/
def HatchRun.dlen (r : HatchRun) : Nat := r.len / r.ratio

/-- Whether a descriptor of HATCH[`h`] ends UNSUPPORTED (R288, Table 11.7, R412). -/
def State.badDescriptor (s : State) (h : Nat) (r : HatchRun) : Bool :=
  let w := r.wd 0
  bitOf w 31 || decide (fld w 15 11 ≠ 0) || bitOf w 9 || decide (fld (r.wd 1) 63 56 ≠ 0) ||
  decide (fld (r.wd 2) 63 56 ≠ 0) || decide (fld (r.wd 3) 31 18 ≠ 0) || decide (r.wd 4 ≠ 0) || decide (r.wd 5 ≠ 0) ||
  decide (fld (r.wd 6) 31 8 ≠ 0) || decide (fld (r.wd 6) 6 4 ≠ 0) ||
  decide (2 < r.op) || (decide (r.op = 2) && decide (8 ≤ h)) || (bitOf w 10 && decide (39 < fld w 29 24)) ||
  (decide (r.op = 2) && (!cisOpOk r.cis || (decide (r.cis = 0x93) && decide (s.pkgLevel < 2)))) ||
  decide (r.len = 0) || decide (r.len % 16 ≠ 0) || decide (r.wd 1 % 16 ≠ 0) || decide (r.wd 2 % 16 ≠ 0)

/-- The kind of range an address names, for Table 11.3: 0 host memory, 1 PCIe window, 2 stacks, 3 aperture, 4 none. -/
def hatchRange (pa : Nat) : Nat :=
  match regionOf pa with
  | .host => 0 | .pcie => 1 | .stack _ => 2 | .tier => 3 | _ => 4

/-- Whether Table 11.3 refuses a descriptor's addresses. -/
def badRange (h : Nat) (r : HatchRun) : Bool :=
  let a := r.wd 1
  let b := r.wd 2
  let ka := hatchRange a
  let kb := hatchRange b
  decide (hatchRange (a + r.len - 1) ≠ ka) || decide (hatchRange (b + r.dlen - 1) ≠ kb) ||
  (if h < 8 then !(ka ≤ 1 && (kb = 2 || (kb = 3 && r.op = 1))) else !((ka = 2 || ka = 3) && kb ≤ 1))

/-- What one side of a descriptor can do now. -/
inductive HatchSide where
  | go | wait | range | lost
deriving DecidableEq, Repr

/-- The tiles that bytes `a` to `a + n − 1` of the aperture touch. -/
def tilesIn (a n : Nat) : List Nat :=
  if n = 0 then [] else (List.range (tileOf (a + n - 1) + 1 - tileOf a)).map fun i => tileOf a + i

/-- Whether a run of bytes can be accessed by HATCH[`h`] now (R286, R305, R222, R237, R241, R243, R302). -/
def State.hatchSide (s : State) (h a n : Nat) (wr : Bool) : HatchSide × State :=
  match regionOf a with
  | .stack j =>
    let js := (List.range 12).filter fun k => decide (j ≤ k) && decide ((k + 1) * 2 ^ 36 < a + n)
    if js.any fun k => !s.dieUp (k / 3) then (.lost, s)
    else if (js.any fun k => s.stackRefuses 4 k) || (s.tierState ≠ 0 && s.meetsPool a (a + n)) then (.range, s)
    else if (linesOf a n).any fun l => s.accessHeld 4 l wr then (.wait, s)
    else (.go, s)
  | .tier =>
    if s.tierState ≠ 2 then (.range, s)
    else
      (tilesIn a n).foldl (fun (acc : HatchSide × State) t =>
        let x := acc.2.tierAccess (tierBase + t * 65536) 4 4 0 (hatchKey h) false
        match x.1 with
        | some fa =>
          if (linesOf fa 65536).any fun l => x.2.accessHeld 4 l wr then (.wait, x.2) else (acc.1, x.2)
        | none => (.wait, x.2)) (.go, s)
  | .host =>
    if wr && (s.tierRegion a || s.tierRegion (a + n - 1)) then (.range, s)
    else if (linesOf a n).any fun l => s.accessHeld 4 l wr then (.wait, s)
    else (.go, s)
  | _ => (.go, s)

/-- Runs of physical addresses for a run of bytes of one side, cut at tiles in the aperture. -/
def State.hatchRuns (s : State) (a n : Nat) : List (Nat × Nat) :=
  if regionOf a = .tier then
    (tilesIn a n).map fun t =>
      let lo := max a (tierBase + t * 65536)
      let hi := min (a + n) (tierBase + (t + 1) * 65536)
      (s.frameAddr (s.tile t).2 + (lo - tierBase) % 65536, hi - lo)
  else [(a, n)]

/-- The words of one side read by HATCH[`h`]; a device's data is a free value. -/
def State.hatchRead (s : State) (h a n : Nat) : List (BitVec 128 × Bool) × State :=
  if regionOf a = .pcie then
    (List.range (n / 16)).foldl (fun (acc : List (BitVec 128 × Bool) × State) _ =>
      (acc.1 ++ [(BitVec.ofNat 128 acc.2.freeVal, false)], acc.2.drawFree)) ([], s.pcieAsk a n)
  else
    (s.hatchRuns a n).foldl (fun (acc : List (BitVec 128 × Bool) × State) p =>
      let x := acc.2.loadWords (hatchWho h 0) p.1 (p.2 / 16)
      (acc.1 ++ x.1, x.2)) ([], s)

/-- Words written to one side by HATCH[`h`]. -/
def State.hatchWrite (s : State) (h a : Nat) (ws : List (BitVec 128 × Bool)) (place : Option Nat) : State :=
  if regionOf a = .pcie then s.pcieOut a (ws.flatMap fun x => toBytes 16 x.1.toNat)
  else
    ((s.hatchRuns a (16 * ws.length)).foldl (fun (acc : Nat × State) p =>
      (acc.1 + p.2 / 16, acc.2.storeWords (hatchWho h 1) p.1 (slice ws acc.1 (p.2 / 16)) place)) (0, s)).2

/-- One destination block is moved (R289): its poison. -/
def State.hatchBlock (s : State) (h : Nat) (r : HatchRun) : Bool × State :=
  let d := r.blocks * 65536
  let n := min 65536 (r.dlen - d)
  let x := s.hatchRead h (r.wd 1 + d * r.ratio) (n * r.ratio)
  let bad := x.1.any fun w => w.2
  if r.op = 2 then
    (bad, each x.1.zipIdx (fun w s =>
      (s.redDo (hatchWho h 2) (r.wd 2 + d + 16 * w.2 / r.ratio) r.cis w.1.1 w.1.2).2) x.2)
  else
    (bad, x.2.hatchWrite h (r.wd 2 + d) x.1 (if bitOf (r.wd 0) 10 then some (fld (r.wd 0) 29 24) else none))

/-- The oldest descriptor that has not ended. -/
def State.hatchOldest (s : State) (h : Nat) : Option HatchRun := (s.hatch h).find? fun r => !r.done
/-- The oldest descriptor that has not ended as given. -/
def State.putOldest (s : State) (h : Nat) (r : HatchRun) : State :=
  s.setHatch h ((s.hatch h).map fun x => if x.slot = r.slot && !x.done then r else x)

/-- The oldest descriptor moves block after block until it ends or has to wait. Each write is performed before the next
begins, so that a flag write under HCFG.ORDER follows every earlier write of its ring (R291, R292). -/
def State.hatchMove (s : State) (h : Nat) : Nat → State
  | 0 => s
  | n + 1 =>
    match s.hatchOldest h with
    | none => s
    | some r =>
      let d := r.blocks * 65536
      if r.dlen ≤ d then s.putOldest h { r with done := true }
      else
        let m := min 65536 (r.dlen - d)
        let a := s.hatchSide h (r.wd 1 + d * r.ratio) (m * r.ratio) false
        let b := a.2.hatchSide h (r.wd 2 + d) m true
        let lost := fun (s : State) => (s.putOldest h (r.ends 4)).setRegF (paHatch h 0x28) 33 33 1
        match a.1, b.1 with
        | .range, _ => a.2.putOldest h (r.ends 3)
        | _, .range => b.2.putOldest h (r.ends 3)
        | .lost, _ => lost a.2
        | _, .lost => lost b.2
        | .wait, _ => b.2
        | _, .wait => b.2
        | .go, .go =>
          let x := b.2.hatchBlock h r
          let st := if x.1 then 2#4 else r.status
          (x.2.putOldest h { r with blocks := r.blocks + 1, status := st }).hatchMove h n

/-- Whether a descriptor may be fetched (R287, R289): a halt under HCFG.HALT is near once one has failed. -/
def State.hatchFetches (s : State) (h : Nat) : Bool :=
  s.hatchOn h && s.hf h 0x28 32 32 = 0 && s.hf h 0x28 15 0 ≠ s.hf h 0x28 31 16 && (s.hatch h).length < 4 &&
  !(s.hf h 0x08 8 8 = 1 && (s.hatch h).any fun r => r.done && r.status ≠ 0)

/-- The next descriptor is fetched and checked if its OP is `op`, or none of Table 11.6 for `op` 0. -/
def State.hatchFetch (s : State) (h op : Nat) : State :=
  let i := s.hf h 0x28 15 0
  let a := s.hf h 0x00 55 6 * 64 + 64 * i
  if !s.hatchFetches h || s.accessHeld 4 (a / 64) false then s
  else
    let o := s.peek64 a % 256
    if (if o = 1 ∨ o = 2 then o else 0) ≠ op then s
    else
      let x := s.unitBytes (hatchWho h 0) a 64
      let r : HatchRun := ⟨a, (List.range 8).map fun k => BitVec.ofNat 64 (ofBytes (slice x.1.1 (8 * k) 8)), false, 0, 0⟩
      let r := if x.1.2 || s.badDescriptor h r then r.ends 5
        else if op = 0 then r.ends 0
        else if badRange h r then r.ends 3 else r
      let s := x.2.setRegF (paHatch h 0x28) 15 0 ((i + 1) % x.2.hring h)
      s.setHatch h (s.hatch h ++ [r])

/-- A descriptor with `op` goes on, or the next one is fetched and begins. -/
def State.hatchGo (s : State) (h op : Nat) : State :=
  if !s.on then s
  else
    match s.hatchOldest h with
    | some r => if r.op = op then s.hatchMove h (r.dlen / 65536 + 2) else s
    | none =>
      let s := s.hatchFetch h op
      match s.hatchOldest h with
      | some r => s.hatchMove h (r.dlen / 65536 + 2)
      | none => s

/-- HATCH_NOP. -/
def execHatchNop (h : Nat) (s : State) : Host.Outcome State Fault Refusal :=
  act (decide (h < 16)) (fun s => s.hatchFetch h 0) s
/-- HATCH_COPY. -/
def execHatchCopy (h : Nat) (s : State) : Host.Outcome State Fault Refusal :=
  act (decide (h < 16)) (fun s => s.hatchGo h 1) s
/-- HATCH_REDUCE. -/
def execHatchReduce (h : Nat) (s : State) : Host.Outcome State Fault Refusal :=
  act (decide (h < 16)) (fun s => s.hatchGo h 2) s

/-- The interrupt write of HATCH[`h`]. -/
def State.hatchIrq (s : State) (h : Nat) : State :=
  s.msi 4 (s.hf h 0x10 55 2 * 4) (s.hf h 0x18 31 0)

/-- Whether the completion of a descriptor waits for a hallway that is training: its latch signal, or its completion word
(R302). -/
def State.wordHeld (s : State) (r : HatchRun) : Bool :=
  (bitOf (r.wd 0) 30 && s.hallHeld 4 (fld (r.wd 3) 16 12 / 8)) || s.accessHeld 4 (r.slot / 64) true

/-- The oldest descriptor completes (R289, R290): the latch signal, the completion word, the interrupt, and the
halt. -/
def State.hatchComplete (s : State) (h : Nat) : State :=
  if !s.on then s
  else match s.hatch h with
    | r :: rest =>
      if !r.done || s.wordHeld r then s
      else
        let good := r.status = 0 || r.status = 2
        let w := r.wd 3
        let s := if good && bitOf (r.wd 0) 30 && s.wingUp (fld w 16 12) then
            (if bitOf w 17 then s.latchSet (fld w 16 12) (fld w 11 0) (BitVec.ofNat 32 (fld w 63 32))
             else s.latchAdd (fld w 16 12) (fld w 11 0) (BitVec.ofNat 32 (fld w 63 32)))
          else s
        let word := r.blocks * 2 ^ 32 + 128 + r.status.toNat + s.house * 2 ^ 64
        let s := s.storeWords (hatchWho h 1) (r.slot + 48) [(BitVec.ofNat 128 word, false)] none
        let s := s.setHatch h rest
        let s := if bitOf (r.wd 0) 8 then s.hatchIrq h else s
        if r.status ≠ 0 && s.hf h 0x08 8 8 = 1 && s.hf h 0x28 32 32 = 0 then
          (s.setRegF (paHatch h 0x28) 32 32 1).hatchIrq h
        else s
    | [] => s

/-- HATCH_COMPLETION. -/
def execHatchCompletion (h : Nat) (s : State) : Host.Outcome State Fault Refusal :=
  act (decide (h < 16)) (fun s => s.hatchComplete h) s

/-! ### Letterboxes (R295 to R299) -/

/-- LOCK.OWNER of a letterbox. -/
def State.boxOwner (s : State) (m : Nat) : Nat := s.regF (paBox m 0x40) 15 0
/-- Whether a letterbox holds a message. -/
def State.boxGo (s : State) (m : Nat) : Bool := s.regF (paBox m 0x50) 0 0 = 1
/-- A letterbox back in its reset state (R299). -/
def State.resetBox (s : State) (m : Nat) : State :=
  { s with regs := s.regs.filter fun e => decide (e.1 < paBox m 0) || decide (paBox m 0x1000 ≤ e.1) }

/-- A read of LOCK by an agent: what it returns, and the acquisition (R296). -/
def State.lockRead (s : State) (m agent : Nat) : Nat × State :=
  let o := s.boxOwner m
  if o = 0 then (0, s.setRegF (paBox m 0x40) 15 0 agent) else if o = agent then (0, s) else (o, s)

/-- A write of LOCK by an agent. -/
def State.lockWrite (s : State) (m agent : Nat) : State :=
  if s.boxOwner m = agent && !s.boxGo m then s.setRegF (paBox m 0x40) 15 0 0 else s

/-- LOCK_READ. -/
def execLockRead (m : Nat) (agent : BitVec 16) (s : State) : Host.Outcome State Fault Refusal :=
  act (decide (m < 64)) (fun s =>
    if !s.on then s
    else (s.lockRead m agent.toNat).2.emit (.regRead (paBox m 0x40) (BitVec.ofNat 64 (s.lockRead m agent.toNat).1))) s
/-- LOCK_WRITE. -/
def execLockWrite (m : Nat) (agent : BitVec 16) (s : State) : Host.Outcome State Fault Refusal :=
  act (decide (m < 64)) (fun s => if s.on then s.lockWrite m agent.toNat else s) s

/-- The letterbox's interrupt write at registers `o` and `o + 8`; ADDR 0 means none. -/
def State.boxIrq (s : State) (m o : Nat) : State :=
  let a := s.regF (paBox m o) 55 2 * 4
  if a = 0 then s else s.msi 4 a (s.regF (paBox m (o + 8)) 31 0)

/-- Whether a receiver's domain is asleep: one whose wake is in progress is; otherwise the manual does not give the domains'
sleep, and the model leaves it open. -/
def State.domainSleeps (s : State) (dom : Nat) : Bool × State :=
  if (List.range 64).any fun m => s.regF (paBox m 0x78) 2 0 = dom && s.regF (paBox m 0x50) 2 2 = 1 then (true, s)
  else (decide (s.freeVal % 2 = 1), s.drawFree)

/-- A write of 1 to CTL.GO by an agent (R297): the message is posted, or ERR is set. A domain that sleeps is woken, and
WAKE reads 1 until it runs. -/
def State.boxPost (s : State) (m agent : Nat) : State :=
  if !s.on then s
  else
    let len := s.regF (paBox m 0x48) 4 0
    if s.boxOwner m ≠ agent ∨ s.boxGo m ∨ len < 8 ∨ 16 < len then s.setRegF (paBox m 0x50) 4 4 1
    else
      let s := s.setRegF (paBox m 0x50) 0 0 1
      let s := s.boxIrq m 0x68
      let dom := s.regF (paBox m 0x78) 2 0
      if 1 ≤ dom ∧ dom ≤ 5 then
        let w := s.domainSleeps dom
        w.2.setRegF (paBox m 0x50) 2 2 (b2n w.1)
      else s

/-- A write of 1 to STATUS.GO (R298). -/
def State.boxTake (s : State) (m : Nat) : State :=
  if !s.on || !s.boxGo m then s
  else
    let s := s.setRegF (paBox m 0x50) 0 0 0
    let s := s.setRegF (paBox m 0x40) 15 0 0
    let s := s.setRegF (paBox m 0x50) 3 3 1
    s.boxIrq m 0x58

/-- Whether an agent is a Scullery core. -/
def isScullery (agent : BitVec 16) : Bool := agentDie agent = 4 && agentClass agent = 0x18 && agentInst agent < 4

/-- A wake has ended (R297). -/
def State.domainRuns (s : State) (dom : Nat) : State :=
  each (List.range 64) (fun m s =>
    if s.regF (paBox m 0x78) 2 0 = dom && s.regF (paBox m 0x50) 2 2 = 1 then s.setRegF (paBox m 0x50) 2 2 0 else s) s

/-- GO. -/
def execGo (m : Nat) (agent : BitVec 16) (s : State) : Host.Outcome State Fault Refusal :=
  act (decide (m < 64)) (fun s => s.boxPost m agent.toNat) s
/-- TAKE. -/
def execTake (m : Nat) (s : State) : Host.Outcome State Fault Refusal := act (decide (m < 64)) (fun s => s.boxTake m) s
/-- BREAK. -/
def execBrk (m : Nat) (agent : BitVec 16) (s : State) : Host.Outcome State Fault Refusal :=
  act (decide (m < 64)) (fun s => if s.on && isScullery agent then s.resetBox m else s) s
/-- DOMAIN_WAKE_DONE. -/
def execDomainWakeDone (dom : Nat) (s : State) : Host.Outcome State Fault Refusal :=
  act (decide (dom < 40)) (fun s => if s.on then s.domainRuns dom else s) s

/-! ### The PCIe root port (R186, R300, R426) -/

/-- The root port as it accesses memory. -/
def pcieWho (access : Nat) : Who := ⟨agentNo 4 0x16 0, access, none⟩

/-- What becomes of an inbound request. -/
inductive Inbound where
  | mem | page | irq | wait | ur
deriving DecidableEq, Repr

/-- The target of an inbound request of `n` bytes (Table 11.10, R237, R241, R243, R307, R222, R302). The manual gives the
host cores' interrupt files no address: which addresses of the host die window they are is left open. -/
def State.inbound (s : State) (pa n : Nat) (wr : Bool) : Inbound :=
  let last := pa + n - 1
  match regionOf pa, regionOf last with
  | .stack j, .stack k =>
    if s.stackRefuses 4 j || s.stackRefuses 4 k || (s.poolFrame pa).isSome || (s.poolFrame last).isSome then .ur
    else if (linesOf pa n).any fun l => s.accessHeld 4 l wr then .wait else .mem
  | .host, .host =>
    if wr && (s.tierRegion pa || s.tierRegion last) then .ur
    else if (linesOf pa n).any fun l => s.accessHeld 4 l wr then .wait else .mem
  | .control, .control =>
    if 0x60000000 ≤ pa ∧ last < 0x70000000 then (if s.hallHeld 4 (pageReg pa).die then .wait else .page)
    else if 0x40000000 ≤ pa ∧ last < 0x50000000 ∧ Config.interruptFile pa then .irq else .ur
  | _, _ => .ur

/-- A stack whose die is not UP answers with poison and takes no write. -/
def State.gone (s : State) (pa : Nat) : Bool :=
  match regionOf pa with
  | .stack j => !s.dieUp (j / 3)
  | _ => false

/-- An inbound read (R186, R426): No Snoop reads the home without the caches. -/
def State.pcieRead (s : State) (pa len : Nat) (noSnoop : Bool) : State :=
  if !s.on || decide (len = 0) then s
  else match s.inbound pa len false with
    | .ur => s.emit .pcieUr
    | .wait => s.defer (.pcieRead pa len noSnoop)
    | .irq => s.drawFree.emit (.pcieData (toBytes len s.freeVal) false)
    | .page => s.emit (.pcieData ((List.range len).map fun i =>
        lget 0#8 (toBytes 8 (s.pageRead ((pa + i) / 8 * 8))) ((pa + i) % 8)) false)
    | .mem =>
      if s.gone pa then s.emit (.pcieData (List.replicate len 0#8) true)
      else if noSnoop then
        let x := (linesOf pa len).foldl (fun (acc : (Bytes × Bool) × State) line =>
          let l := acc.2.readLine (pcieWho 0) line
          let lo := max pa (line * 64)
          let hi := min (pa + len) (line * 64 + 64)
          let bad := (List.range 4).any fun m =>
            l.1.poisoned m && decide (lo < line * 64 + 16 * m + 16) && decide (line * 64 + 16 * m < hi)
          ((acc.1.1 ++ slice l.1.bytes (lo - line * 64) (hi - lo), acc.1.2 || bad), l.2)) (([], false), s)
        x.2.emit (.pcieData x.1.1 x.1.2)
      else
        let x := s.unitBytes (pcieWho 0) pa len
        x.2.emit (.pcieData x.1.1 x.1.2)

/-- An inbound write (R186, R204, R426). -/
def State.pcieStore (s : State) (pa : Nat) (bytes : Bytes) (ep : Bool) (tph : Option Nat) : State :=
  if !s.on || bytes.isEmpty then s
  else match s.inbound pa bytes.length true with
    | .ur => s.emit .pcieUr
    | .wait => s.defer (.pcieWrite pa bytes ep tph)
    | x =>
      let s := if ep then (s.capture 4 (accReport 0x16 (pcieWho 1).master 1 pa none)).emit (.aer .poisonedTlp) else s
      if x = .irq then (if ep then s else s.emit (.msi pa (BitVec.ofNat 32 (ofBytes bytes))))
      else if x = .page then (if ep then s else s.pageWrite pa bytes.length (ofBytes bytes))
      else if s.gone pa then s
      else s.unitStore (pcieWho 1) pa bytes ep tph

/-- PCIE_INBOUND_READ. -/
def execPcieInboundRead (pa len : Nat) (noSnoop : Bool) (s : State) : Host.Outcome State Fault Refusal :=
  act (decide (pa < 2 ^ 56)) (fun s => s.pcieRead pa len noSnoop) s
/-- PCIE_INBOUND_WRITE. -/
def execPcieInboundWrite (pa : Nat) (bytes : Bytes) (ep : Bool) (tph : Option Nat) (s : State) :
    Host.Outcome State Fault Refusal :=
  act (decide (pa < 2 ^ 56)) (fun s => s.pcieStore pa bytes ep tph) s

/-- A PCIe error is counted, reported and signalled (R426). -/
def State.pcieErr (s : State) (k : PcieErr) : State :=
  if !s.on then s
  else
    let s := match k with
      | .correctable => s.incEnt 0x5208 1 1
      | .nonFatal => s.incEnt 0x5208 2 1
      | .fatal => s.incEnt 0x5208 3 1
      | .poisonedTlp => s
    let s := s.capture 4 (plainReport (match k with | .correctable => 0x06 | _ => 0x16) (pcieWho 0).master)
    s.emit (.aer k)

/-- PCIE_ERROR. -/
def execPcieError (k : PcieErr) (s : State) : Host.Outcome State Fault Refusal :=
  act true (fun s => s.pcieErr k) s

end Sys2Proof.Machine
end

