-- ==== Sys2Proof/Machine/PowerCmds.lean ====
section
/-! DEFINITION. The Thermostat and its limits (R331 to R333), droop (R334, R336), bands of dies (R345, R346), host
core frequencies (R340), the fleet's messages (R341 to R344, R377), the Hearth (R349 to R352) and sleep (R353, R441). -/

namespace Sys2Proof.Machine

/-- The control machinery as given. -/
def State.setCtl (s : State) (c : Control) : State := { s with ctl := c }
/-- Whether the Scullery's firmware runs. -/
def State.firmware (s : State) : Bool := s.on && s.mgmt.sculleryUp

/-- The RESPONSE to a notice of an operation (R366). -/
def State.ackNotice (s : State) (op : Nat) : State := if s.firmware then s.emit (.acked op) else s

/-! ### Rails and coefficients (R329, R330, R355) -/

/-- The frequency that a cluster asks for may have, at most: the cap of the host die's band (Table 13.5). -/
def State.hostCap (s : State) : Nat :=
  match s.ent 0x2200 5 with
  | 0 => 3200 | 1 => 2800 | 2 => 2000 | _ => 400
/-- The grant of a cluster (R340): the least of its request, the band's cap and the cap of R332, or of R333. -/
def State.grant (s : State) (c : Nat) : Nat :=
  let own := tget 0 s.ctl.hcoreCaps c
  let cap := if s.ctl.missed then 1000 else if own = 0 then 3200 else own
  max 400 (min (s.ent 0x2020 (c + 1)) (min s.hostCap cap) / 50 * 50)

/-- The voltage of a rail in mV (Table 13.1, R330). -/
def State.railMv (s : State) (n : Nat) : Nat :=
  if n < 4 then s.varr n
  else if n < 8 then 750
  else if n < 20 then 1050
  else if n < 24 then Config.vhcSetpoint (s.ent 0x2021 (n - 19))
  else match n with
    | 24 => 750 | 25 => 1050 | 26 => 1800 | _ => 3300

/-- The coefficients in force (R355): nominal until a first fit. -/
def State.coefs (s : State) : List Nat := if s.ctl.steps = [] then Config.nominal else Config.fitted s.ctl.steps

/-- The rails' energies move on by one window of 10 µs. -/
def State.railWindow (s : State) (m : InputMeasure) : State :=
  each (List.range 29) (fun n s =>
    let a := lget 0 m.rails n
    let s := s.setEnt 0x2011 (n + 1) a
    s.setCtl { s.ctl with railE := tput 0 n (tget 0 s.ctl.railE n + s.railMv n * a) s.ctl.railE }) s

/-! ### Power-skip duty (R335, R336) -/

/-- What die `d` has skipped up to now under its present duty. -/
def State.meterSkips (s : State) (d : Nat) : State :=
  if !s.dieUp d then s
  else
    let v := s.die d
    let n := (s.house - v.skipAt) * s.ent 0x1110 (10 + d)
    s.setDie d { v with skips := (v.skips.1 + n * s.duty d, v.skips.2 + n), skipAt := s.house }
/-- What all dies have skipped up to now: a duty is about to change. -/
def State.meterDuty (s : State) : State := each [0, 1, 2, 3] (fun d s => s.meterSkips d) s

/-! ### The Thermostat (R331 to R333) -/

/-- The reduction in mW that brings a value to 2% below its limit, when it is within 1% of it. -/
def excess (x limit : Nat) : Nat := if limit * 99 ≤ x * 100 then x - limit * 98 / 100 else 0

/-- The run rule of R331: whether a window of `mw` may lie above the continuous limit of `cont` now. -/
def State.inputRun (s : State) (mw avg cont : Nat) : Control :=
  let c := s.ctl
  if mw ≤ cont then { c with runAt := none, runOver := decide (cont < avg) && (c.runOver || c.runAt.isSome) }
  else match c.runAt with
    | some t => if t + 10000000 ≤ s.house then { c with runOver := true } else c
    | none => { c with runAt := some s.house, runOver := c.runOver && decide (cont < avg) }

/-- The excess over each limit: continuous, short-term with the run rule, and current (R331, R332). -/
def excesses (m : InputMeasure) (cont amps : Nat) (ended : Bool) : Nat × Nat × Nat :=
  let a := if cont * 99 ≤ m.avgMw * 100 then m.mw - cont * 98 / 100 else 0
  let b := max (excess m.mw 3400000) (if ended then excess m.mw cont else 0)
  (a, b, excess m.ma amps * m.mv / 1000)

/-- The binding limit as 0x2000.05 shows it. -/
def State.binding (s : State) (e : Nat × Nat × Nat) : Nat :=
  let k := max e.1 (max e.2.1 e.2.2)
  if k ≠ 0 then (if e.1 = k then 1 else if e.2.1 = k then 2 else 3)
  else if (List.range 5).any fun d => decide (2 ≤ s.ent 0x2200 (d + 1)) then 4 else 0

/-- The clusters whose grants one more step of R332 lowers. -/
def State.lowerable (s : State) : List Nat := (List.range 4).filter fun c => decide (1000 < s.grant c)
/-- Every grant above 1.0 GHz lowered by one step of 200 MHz, down to 1.0 GHz. -/
def State.lowerGrants (s : State) : State :=
  s.setCtl { s.ctl with hcoreCaps := s.lowerable.foldl (fun t c => tput 0 c (max 1000 (s.grant c - 200)) t) s.ctl.hcoreCaps }
/-- The running dies whose duty can rise. -/
def State.skippable (s : State) : List Nat := [0, 1, 2, 3].filter fun d => s.dieUp d && decide ((s.die d).skip < 15)
/-- One sixteenth more of power-skip duty on every running die. -/
def State.raiseDuty (s : State) : State := each s.skippable (fun d s => s.setDie d { s.die d with skip := (s.die d).skip + 1 }) s

/-- Steps of one action taken while an excess remains and the action has steps left: what is left of the excess, by the
power that each step is predicted to save. -/
def State.shedSteps (left : State → List Nat) (saves : State → Nat → Nat) (act : State → State) : Nat → Nat → State → Nat × State
  | 0, ex, s => (ex, s)
  | n + 1, ex, s =>
    if ex = 0 ∨ left s = [] then (ex, s)
    else State.shedSteps left saves act n (ex - ((left s).map fun x => saves s x).foldl (· + ·) 0) (act s)

/-- What the coefficients predict of the Hearth's present activity, in mW (R332). -/
def State.hearthPower (s : State) : Nat := Config.hearthMw s.coefs (s.rooms.filter fun e => e.2.hearth).length

/-- Shedding in the order of R332: the Hearth target, host core grants, power-skip duty, each as far as the excess needs. -/
def State.shed (s : State) (m : InputMeasure) (ex : Nat) : State :=
  let h := min ex s.hearthPower
  let s := s.setCtl { s.ctl with hearthCut := s.ctl.hearthCut + (if m.mv = 0 then 0 else h * 1000 / m.mv) }
  let c := s.coefs
  let a := State.shedSteps State.lowerable (fun s x => Config.hcoreMw c (s.grant x)) State.lowerGrants 16 (ex - h) s
  (State.shedSteps State.skippable (fun s d => Config.skipMw c (s.carith d)) State.raiseDuty 16 a.1 a.2.meterDuty).2

/-- µJ as whole mJ, never below 0. -/
def milli (x : Int) : Nat := x.toNat / 1000

/-- The readings of the input and of the rails, with their energies moved on by the window (R329). -/
def State.readInput (s : State) (m : InputMeasure) : State :=
  let s := (s.setEnt 0x2001 1 m.mv).setEnt 0x2001 2 m.ma
  let s := (s.setEnt 0x2001 3 (f32Ratio m.mw 1000)).setEnt 0x2001 4 (f32Ratio m.avgMw 1000)
  let s := s.setCtl { s.ctl with stepE := s.ctl.stepE + m.mw }
  (s.setEnt 0x2001 5 (max (s.ent 0x2001 5) (milli (s.ctl.meterE + s.ctl.stepE / 100)))).railWindow m

/-- A period's measurement: the largest excess over a limit, and the state with the readings, the run rule and the
binding limit in it. -/
def State.meterInput (s : State) (m : InputMeasure) : Nat × State :=
  let s := s.readInput m
  let cont := s.ent 0x2000 1 * 1000
  let c := s.inputRun m.mw m.avgMw cont
  let e := excesses m cont (s.ent 0x2000 4 * 1000) c.runOver
  let k := max e.1 (max e.2.1 e.2.2)
  let s := s.meterDuty.setCtl { c with missed := false, avgMw := m.avgMw, limited := c.limited || decide (k ≠ 0) }
  (k, s.setEnt 0x2000 5 (s.binding e))

/-- One 10 µs period of the Thermostat (R332). -/
def State.thermostat (s : State) (m : InputMeasure) : State :=
  if !s.firmware then s
  else
    let r := s.meterInput m
    if r.1 = 0 then r.2 else r.2.shed m r.1

/-- THERMOSTAT_PERIOD. -/
def execThermostatPeriod (m : InputMeasure) (s : State) : Host.Outcome State Fault Refusal :=
  act true (fun s => s.thermostat m) s

/-- Whether every limit is 2% clear. -/
def State.inputClear (s : State) (m : InputMeasure) : Bool :=
  let cont := s.ent 0x2000 1 * 1000
  decide (m.avgMw * 100 ≤ cont * 98) && decide (m.mw * 100 ≤ 3400000 * 98) && decide (m.ma * 100 ≤ s.ent 0x2000 4 * 98000)

/-- One step of one action undone, in reverse order (R332). -/
def State.unshed (s : State) (m : InputMeasure) : State :=
  if !s.firmware || !s.inputClear m then s
  else if [0, 1, 2, 3].any fun d => s.dieUp d && decide ((s.die d).skip ≠ 0) then
    each ([0, 1, 2, 3].filter fun d => s.dieUp d) (fun d s => s.setDie d { s.die d with skip := (s.die d).skip - 1 }) s.meterDuty
  else if s.ctl.hcoreCaps ≠ [] then
    s.setCtl { s.ctl with hcoreCaps := (s.ctl.hcoreCaps.map fun e => (e.1, e.2 + 200)).filter fun e => decide (e.2 < 3200) }
  else s.setCtl { s.ctl with hearthCut := 0 }

/-- THERMOSTAT_UNDO. -/
def execThermostatUndo (m : InputMeasure) (s : State) : Host.Outcome State Fault Refusal :=
  act true (fun s => s.unshed m) s

/-- THERMOSTAT_MISS: 3 periods missed (R333). -/
def execThermostatMiss (s : State) : Host.Outcome State Fault Refusal :=
  act true (fun s => if s.on then s.meterDuty.setCtl { s.ctl with missed := true } else s) s

/-! ### Droop (R334, R336) -/

/-- A droop sensor's reading: below the setpoint by more than the threshold, the wing skips cycles. -/
def State.droop (s : State) (w mv : Nat) : State :=
  let v := s.wing w
  if !s.wingUp w || v.droop || decide (s.varr (w / 8) * (100 - s.ent 0x2403 1) ≤ mv * 100) then s
  else s.setWing w { v with droop := true, droopRun := s.house }

/-- The skips of a droop in progress are counted up to now: at most 4 of every 8 cycles; how many they were is left open. -/
def State.countDroop (s : State) (w : Nat) : State :=
  let v := s.wing w
  if !v.droop then s
  else
    let cycles := (s.house - v.droopRun) * (s.ent 0x1110 (10 + w / 8)) / 1000000
    let n := s.freeVal % (4 * (cycles / 8 + 1) + 1)
    (s.drawFree.setWing w { v with droopRun := s.house, stretch := v.stretch + n }).incEnt 0x2401 (w + 1) n

/-- A droop has ended. -/
def State.droopEnds (s : State) (w : Nat) : State :=
  if !s.wingUp w || !(s.wing w).droop then s
  else
    let s := s.countDroop w
    s.setWing w { s.wing w with droop := false }

/-- DROOP_DETECT. -/
def execDroopDetect (w mv : Nat) (s : State) : Host.Outcome State Fault Refusal :=
  act (decide (w < 32)) (fun s => s.droop w mv) s
/-- DROOP_END. -/
def execDroopEnd (w : Nat) (s : State) : Host.Outcome State Fault Refusal :=
  act (decide (w < 32)) (fun s => s.droopEnds w) s

/-! ### Host core frequencies (R340) -/

/-- HCORE_FREQ_REQUEST. -/
def execHcoreFreqRequest (c mhz : Nat) (s : State) : Host.Outcome State Fault Refusal :=
  act (decide (c < 4)) (fun s => if s.on && decide (400 ≤ mhz) && decide (mhz ≤ 3200) then s.setEnt 0x2020 (c + 1) mhz else s) s
/-- HCORE_GRANT_APPLY. -/
def execHcoreGrantApply (c : Nat) (s : State) : Host.Outcome State Fault Refusal :=
  act (decide (c < 4)) (fun s =>
    if s.on then (s.setEnt 0x2021 (c + 1) (s.grant c)).setEnt 0x1110 (3 + c) (s.grant c * 1000) else s) s

/-! ### Fleet messages (R341 to R344, R377) -/

/-- A FREQ_SET arrives: a manager takes it from the authority that it names and relays it, a worker from its
manager. -/
def State.hearFreq (s : State) (src job mhz b : Nat) : State :=
  if !s.firmware || !(decide (600 ≤ mhz) && decide (mhz ≤ 2000) && decide (mhz % 25 = 0)) then s
  else if s.manager then
    if (List.range 4).any fun i => s.ent 0x2100 (i + 1) = job && job ≠ 0 && s.ent 0x4430 (i + 2) = src && src ≠ 0xFFFF then
      (s.emit (.freqSet 0xFFFF job mhz b)).takeFreq job mhz b
    else s
  else if src = 0xFFFF then s.takeFreq job mhz b
  else s

/-- FREQ_SET. -/
def execFreqSet (src job mhz b : Nat) (s : State) : Host.Outcome State Fault Refusal :=
  act true (fun s => (s.hearFreq src job mhz b).ackNotice 0x20) s
/-- LAGGARD. -/
def execLaggard (job : Nat) (causes : BitVec 3) (mhz step : Nat) (serial : Bytes) (s : State) :
    Host.Outcome State Fault Refusal :=
  act true (fun s =>
    (if s.firmware && s.manager then s.sendLaggard job causes.toNat mhz step serial else s).ackNotice 0x21) s
/-- LAGGARD_CLEAR. -/
def execLaggardClear (job step : Nat) (serial : Bytes) (s : State) : Host.Outcome State Fault Refusal :=
  act true (fun s => (if s.firmware && s.manager then s.sendClear job step serial else s).ackNotice 0x22) s
/-- FREQ_LATE. -/
def execFreqLate (job step : Nat) (serial : Bytes) (s : State) : Host.Outcome State Fault Refusal :=
  act true (fun s => (if s.firmware && s.manager then s.sendLate job step serial else s).ackNotice 0x23) s

/-! ### Bands of dies (R345, R346) -/

/-- The band of a die's temperature, and a band's upper bound (Table 13.5). -/
def dieBandOf (t : Nat) : Nat := if t ≤ 95 then 0 else if t ≤ 100 then 1 else if t ≤ 105 then 2 else 3
/-- Upper bound of a die band in °C. -/
def dieBandTop (b : Nat) : Nat := if b = 0 then 95 else if b = 1 then 100 else 105

/-- A die takes a band; a compute die's suite looks at its causes. -/
def State.setDieBand (s : State) (d b : Nat) : State :=
  let s := s.meterDuty
  let s := s.setDie d { s.die d with critAt := if b = 3 then some s.house else none }
  let s := (if b = 3 then s else s.levelEnds (8 + d)).setEnt 0x2200 (d + 1) b
  if d < 4 then s.laggardBand (s.suiteOfDie d) else s

/-- A die's reading and its band (R345, as R220): a higher band at once; the lowest band whose upper bound less 3 °C no
sample of the last 10 ms has exceeded; CRITICAL is left for HOT at 102 °C. -/
def State.takeTemp (s : State) (d t : Nat) : State :=
  let s := s.setEnt 0x2201 (d + 1) (min 255 t)
  let b := s.ent 0x2200 (d + 1)
  let v := s.die d
  let cool := coolSince (decide (t + 3 ≤ dieBandTop 0)) v.coolAt s.house
  let mild := coolSince (decide (t + 3 ≤ dieBandTop 1)) v.mildAt s.house
  let s := s.setDie d { v with coolAt := cool, mildAt := mild }
  let long := fun (a : Option Nat) => a.any fun x => decide (x + 10000000 ≤ s.house)
  if b < dieBandOf t then s.setDieBand d (dieBandOf t)
  else if b = 3 then (if t ≤ 102 then s.setDieBand d 2 else s)
  else if 0 < b ∧ long cool then s.setDieBand d 0
  else if b = 2 ∧ long mild then s.setDieBand d 1
  else s

/-- A temperature sample of a die (R345, R346). -/
def State.dieTemp (s : State) (d t : Nat) : State :=
  if !s.on then s
  else if 120 ≤ t then (s.takeTemp d t).capture (breakerOf d) (plainReport 0x40 (agentNo d 0x0B 0))
  else s.takeTemp d t

/-- DIE_TEMP_SAMPLE. -/
def execDieTempSample (d t : Nat) (s : State) : Host.Outcome State Fault Refusal :=
  act (decide (d < 5)) (fun s => s.dieTemp d t) s

/-- A compute die has been in CRITICAL for 1 s (Table 13.5). -/
def State.dieCritical (s : State) (d : Nat) : State :=
  match (s.die d).critAt with
  | none => s
  | some t =>
    if !s.on || decide (4 ≤ d) || decide (s.ent 0x2200 (d + 1) ≠ 3) then s
    else
      let s := s.advance (t + 1000000000)
      (s.levelActed (8 + d)).capture d
        { plainReport 0x31 (agentNo d 0x0B 0) with suites := s.levelSuites (8 + d) [s.suiteOfDie d] }

/-- DIE_CRITICAL_TIMEOUT. -/
def execDieCriticalTimeout (d : Nat) (s : State) : Host.Outcome State Fault Refusal :=
  act (decide (d < 5)) (fun s => s.dieCritical d) s

/-! ### The Hearth (R348 to R352) -/

/-- Whether a command of an engine queue only waits for another module's answers. -/
def Cmd.onlyRemote (c : Cmd) : Bool := (c.op = 0x20 || c.op = 0x21) && decide (c.remote ≠ 0) && decide (c.pos = c.tiles)

/-- Whether a room is waiting (R349). -/
def State.roomWaits (s : State) (g : Nat) : Bool :=
  let w := g / 8
  let r := s.room g
  let left := (r.mq ++ r.vq ++ r.cq).filterMap fun id => s.cmd w id
  let barrier := (s.wing w).cmds.any fun c =>
    c.op = 0x30 && c.st = .waiting && c.status.isNone && bitOf (s.regN (paLbar w)) (c.f 1 11 0 / 64) &&
    (c.rm = g % 8 || bitOf (c.wd 1) 19)
  (left.all fun c => c.onlyRemote) && (barrier || left.any fun c => c.onlyRemote)

/-- The rooms of running dies. -/
def State.liveRooms (s : State) : List Nat :=
  ([0, 1, 2, 3].filter fun d => s.dieUp d).flatMap fun d => (List.range 64).map fun r => 64 * d + r

/-- The Hearth's activity in every room as given. -/
def State.setHearth (s : State) (on : Nat → Bool) : State :=
  each s.liveRooms (fun g s =>
    if (s.room g).hearth = on g then s else s.setRoom g { s.room g with hearth := on g }) s

/-- The Hearth begins to ramp down (R352). -/
def State.hearthRamps (s : State) : State := if s.ent 0x2300 7 = 1 then s.setEnt 0x2300 7 2 else s

/-- The Hearth's 1 µs tick (R350 to R352). -/
def State.hearth (s : State) (avg now : Nat) : State :=
  if !s.on then s
  else
    let all := s.liveRooms
    let ws := all.filter fun g => s.roomWaits g
    let share := decide (all ≠ []) && decide (s.ent 0x2300 1 * all.length ≤ ws.length * 100)
    let rise := share && !s.ctl.above
    let s := s.setCtl { s.ctl with above := share }
    let st := s.ent 0x2300 7
    let s := if rise && decide (s.ent 0x2300 6 = 1) && decide (st ≠ 1) then
        let s := s.setCtl { s.ctl with iref := avg, target := avg * s.ent 0x2300 2 / 100, engagedAt := s.house }
        (s.setEnt 0x2300 7 1).incEnt 0x2300 8 1
      else if !share then s.hearthRamps else s
    let aim := s.ctl.target - s.ctl.hearthCut
    if s.ent 0x2300 7 = 0 then s.setHearth fun _ => false
    else if now < aim then s.setHearth fun g => ws.contains g
    else s.setHearth fun g => ws.contains g && (s.room g).hearth && decide (aim ≠ 0)

/-- HEARTH_TICK. -/
def execHearthTick (avg now : Nat) (s : State) : Host.Outcome State Fault Refusal :=
  act true (fun s => s.hearth avg now) s

/-- One interval of the ramp (R352). -/
def State.hearthStep (s : State) : State :=
  if !s.on || decide (s.ent 0x2300 7 ≠ 2) then s
  else
    let c := s.ctl
    let t := c.target - c.iref * s.ent 0x2300 3 / 100
    let s := s.setCtl { c with target := t }
    if t = 0 ∨ c.iref * s.ent 0x2300 3 / 100 = 0 then
      ((s.setCtl { s.ctl with target := 0 }).setEnt 0x2300 7 0).setHearth fun _ => false
    else s

/-- HEARTH_RAMP. -/
def execHearthRamp (s : State) : Host.Outcome State Fault Refusal := act true (fun s => s.hearthStep) s
/-- HEARTH_TIMEOUT. -/
def execHearthTimeout (s : State) : Host.Outcome State Fault Refusal :=
  act true (fun s =>
    if s.on && decide (s.ent 0x2300 7 = 1) then
      (s.advance (s.ctl.engagedAt + s.ent 0x2300 5 * 1000000)).hearthRamps
    else s) s
/-- HEARTH_DISABLE. -/
def execHearthDisable (s : State) : Host.Outcome State Fault Refusal :=
  act true (fun s => if s.on then (s.setEnt 0x2300 6 0).hearthRamps else s) s

/-! ### Sleep (R353, R134, R441) -/

/-- A wing with nothing to do goes to sleep: FLUSH_ALL, and its clocks stop. -/
def State.sleepWing (s : State) (w : Nat) : State :=
  let v := s.wing w
  if !s.wingUp w || decide (v.power ≠ .running) || decide (s.ent 0x2500 1 = 0) || s.porch.wake || !v.cmds.isEmpty ||
     ((List.range 128).any fun q => s.qon w q && decide (s.pendingEntries w q ≠ 0)) then s
  else
    let s := (s.flushOp w 3).drainLanding w
    s.setWing w { s.wing w with power := .sleeping }

/-- WING_IDLE_TIMEOUT. -/
def execWingIdleTimeout (w : Nat) (s : State) : Host.Outcome State Fault Refusal :=
  act (decide (w < 32)) (fun s => s.sleepWing w) s
/-- WING_WAKE. -/
def execWingWake (w : Nat) (s : State) : Host.Outcome State Fault Refusal :=
  act (decide (w < 32)) (fun s => if s.wingUp w then s.wakeWing w else s) s
/-- WING_WAKE_DONE. -/
def execWingWakeDone (w : Nat) (s : State) : Host.Outcome State Fault Refusal :=
  act (decide (w < 32)) (fun s =>
    if s.wingUp w && decide ((s.wing w).power = .waking) then s.setWing w { s.wing w with power := .running } else s) s
/-- WAKE_ASSERT: the pin WAKE# goes low. -/
def execWakeAssert (s : State) : Host.Outcome State Fault Refusal :=
  act true (fun s =>
    let s := { s with porch := { s.porch with wake := true } }
    if s.on then each (List.range 32) (fun w s => if s.wingUp w then s.wakeWing w else s) s else s) s
/-- WAKE_DEASSERT. -/
def execWakeDeassert (s : State) : Host.Outcome State Fault Refusal :=
  act true (fun s => { s with porch := { s.porch with wake := false } }) s

end Sys2Proof.Machine
end

