-- ==== Sys2Proof/Machine/StepCmds.lean ====
section
/-! DEFINITION. Steps (R379 to R384) and the energy ledger (R354 to R358). -/

namespace Sys2Proof.Machine

/-! ### Job slots and energy (R354, R356 to R358) -/

/-- The slot of a job tag, or the lowest free slot. -/
def State.slotOf (s : State) (job : BitVec 16) : Option Nat :=
  match s.ctl.slots.find? fun e => e.2.1 = job with
  | some e => some e.1
  | none => (List.range 256).find? fun k => (s.ctl.slots.find? fun e => e.1 = k).isNone

/-- The sum of job energies over the slots in µJ. -/
def State.jobEnergy (s : State) : Int := (s.ctl.slots.map fun e => e.2.2.1).foldl (· + ·) 0

/-- House energy as 0x6010.02 reads it (R358). -/
def State.houseEnergy (s : State) : Nat := milli (s.ctl.meterE - s.jobEnergy - s.ctl.hearthE)

/-- A slot's entry: the tag and an energy in mJ. -/
def slotWord (job : BitVec 16) (x : Int) : Nat := job.toNat * 2 ^ 48 + milli x % 2 ^ 48

/-- Slot `i` is freed. -/
def State.freeSlot (s : State) (i : Nat) : State := s.setCtl { s.ctl with slots := tdel s.ctl.slots i }

/-- SLOT_FREE. -/
def execSlotFree (i : Nat) (s : State) : Host.Outcome State Fault Refusal :=
  act true (fun s => if s.firmware then s.freeSlot i else s) s

/-- A ledger record (Table 13.9) without its PHASE, as four 64-bit words. -/
def ledgerRec (kind : Nat) (measured : Bool) (suite stretch job step : Nat) (energy : Int) (time : Nat) : List (BitVec 64) :=
  [BitVec.ofNat 64 (kind * 2 ^ 54 + b2n measured * 2 ^ 53 + suite * 2 ^ 48 + min stretch (2 ^ 32 - 1) * 2 ^ 16 + job % 65536),
   BitVec.ofNat 64 step, BitVec.ofInt 64 energy, BitVec.ofNat 64 time]

/-- A record waits for the ring; with 4,096 waiting it is dropped and counted (R357). -/
def State.queueRecord (s : State) (r : List (BitVec 64)) : State :=
  if s.ent 0x6000 7 = 0 then s
  else if 4096 ≤ s.ctl.ledger.length then s.incEnt 0x6000 8 1
  else s.setCtl { s.ctl with ledger := s.ctl.ledger ++ [r] }

/-- c·x of the coefficients and features, in units of 2^-32 nJ (R355). -/
def dot (c x : List Nat) : Nat := ((c.zip x).map fun y => y.1 * y.2).foldl (· + ·) 0
/-- Units of 2^-32 nJ in a µJ. -/
def unitsPerUj : Nat := 1000 * 2 ^ 32
/-- Features summed. -/
def addFeatures (a b : List Nat) : List Nat := (List.range 24).map fun i => lget 0 a i + lget 0 b i
/-- The features of a job: its own classes, and class 16 for the Hearth. -/
def jobFeatures (j : JobShare) : List Nat := (j.act ++ List.replicate 15 0).take 15 ++ [j.hearth]
/-- The feature vector of the whole module in a step. -/
def stepFeatures (m : StepMeasure) : List Nat := (m.jobs.map fun j => jobFeatures j).foldl addFeatures (addFeatures m.house [])

/-- The sum of the squares missed and the sum of the meter energies over the steps that Q looks back on (R356). -/
def State.missSums (s : State) : Nat × Int :=
  ((s.ctl.misses.map fun x => x.2.natAbs ^ 2).foldl (· + ·) 0, (s.ctl.misses.map fun x => x.1 * (unitsPerUj : Int)).foldl (· + ·) 0)

/-- The fit quality Q in percent, as binary32. -/
def State.quality (s : State) : Nat :=
  let y := s.missSums
  if y.2 ≤ 0 then 0 else f32Ratio (100 * isqrt (s.ctl.misses.length * y.1 * 2 ^ 64)) (y.2.toNat * 2 ^ 32)

/-- Whether Q is at or below its threshold. -/
def State.fits (s : State) : Bool :=
  let y := s.missSums
  decide (0 < y.2) &&
  match fFP32.decode (s.ent 0x6010 6) with
  | .fin false m e =>
    let k := 10000 * s.ctl.misses.length * y.1
    if 0 ≤ e then decide (k ≤ (m * 2 ^ e.toNat * y.2.toNat) ^ 2) else decide (k * 2 ^ (2 * (-e).toNat) ≤ (m * y.2.toNat) ^ 2)
  | _ => false

/-- Whether the step just ended is booked MODEL (R356). -/
def State.isModel (s : State) : Bool :=
  decide (s.ctl.upAt + 2000000000 ≤ s.house) && decide (256 ≤ s.ctl.steps.length) && s.fits

/-- The energy of a rail over the step just ended, in 10 pJ. -/
def State.railStep (s : State) (n : Nat) : Nat := tget 0 s.ctl.railE n - tget 0 s.ctl.railB n
/-- The energy of all rails over the step. -/
def State.railSum (s : State) : Nat := ((List.range 29).map fun n => s.railStep n).foldl (· + ·) 0
/-- The rails of a suite: VARR, VFAB and VSTK of its dies. -/
def State.suiteRails (s : State) (i : Nat) : List Nat :=
  (suiteDies s.layout i).flatMap fun d => [d, 4 + d, 8 + 3 * d, 9 + 3 * d, 10 + 3 * d]
/-- A suite's energy in µJ under MEASURED: that of its rails, divided by the step's conversion efficiency (R356). -/
def State.suiteEnergy (s : State) (m : StepMeasure) (i : Nat) : Nat :=
  if s.railSum = 0 then 0 else ((s.suiteRails i).map fun n => s.railStep n).foldl (· + ·) 0 * m.meter.toNat / s.railSum

/-- What a job of a suite and its Hearth activity are booked in µJ (R356, R357): c·a, or their shares of the suite's energy by
busy cycles. The manual gives no rounding; the model rounds down. -/
def State.bookedTo (s : State) (m : StepMeasure) (model : Bool) (j : JobShare) : Nat × Nat :=
  if model then
    (dot s.coefs ((jobFeatures j).take 15) / unitsPerUj, dot s.coefs (List.replicate 15 0 ++ [j.hearth]) / unitsPerUj)
  else
    let all := ((m.jobs.filter fun k => k.suite = j.suite).map fun k => k.busy + k.idle).foldl (· + ·) 0
    if all = 0 then (0, 0)
    else (s.suiteEnergy m j.suite * j.busy / all, s.suiteEnergy m j.suite * j.idle / all)

/-- The stretch events of the step on the wings that ran a job (Table 13.9). -/
def State.jobStretch (s : State) (j : JobShare) : Nat := (j.wings.eraseDups.map fun w => s.ent 0x2400 (w + 1)).foldl (· + ·) 0

/-- The fit takes the step just ended in (R355, R356), and what the coefficients before it missed it by. -/
def State.fitStep (s : State) (m : StepMeasure) : State :=
  let x := stepFeatures m
  let r := m.meter * unitsPerUj - dot s.coefs x
  s.setCtl { s.ctl with steps := (m.meter, x) :: s.ctl.steps, misses := ((m.meter, r) :: s.ctl.misses).take 256 }

/-- A job's energies are added to its slot. -/
def State.addToSlot (s : State) (k : Nat) (job : BitVec 16) (e h : Nat) : State :=
  let old := tget (job, 0, 0) s.ctl.slots k
  s.setCtl { s.ctl with slots := tset k (job, old.2.1 + e, old.2.2 + h) s.ctl.slots, hearthE := s.ctl.hearthE + h }

/-- The energy of the step just ended is booked (R354 to R358): records per job, per Hearth share, and HOUSE last. -/
def State.bookStep (s : State) (m : StepMeasure) : State :=
  let model := s.isModel
  let step := s.stepNo
  let t := s.house
  -- jobs with a slot; the activity of the others is house activity
  let r := m.jobs.foldl (fun (acc : (List (JobShare × Nat × Nat) × Bool) × State) j =>
    match acc.2.slotOf j.job with
    | none => ((acc.1.1, true), acc.2)
    | some k =>
      let e := s.bookedTo m model j
      ((acc.1.1 ++ [(j, e)], acc.1.2), acc.2.addToSlot k j.job e.1 e.2)) (([], false), s)
  let s := r.2
  let jobs := r.1.1
  let s := if r.1.2 then s.incEnt 0x6010 8 1 else s
  let booked : Nat := (jobs.map fun j => j.2.1 + j.2.2).foldl (· + ·) 0
  let s := (s.setEnt 0x6010 4 (b2n !model)).setEnt 0x6010 7
    (if m.meter ≤ 0 then 0 else f32Ratio s.railSum (m.meter.toNat * 100000))
  let s := s.fitStep m
  let s := s.setCtl { s.ctl with meterE := s.ctl.meterE + m.meter, stepE := 0, railB := s.ctl.railE }
  let s := ((s.setEnt 0x6010 5 s.quality).setEnt 0x6010 1 (milli s.ctl.meterE)).setEnt 0x6010 3 (milli s.ctl.hearthE)
  let s := s.setEnt 0x2001 5 (max (s.ent 0x2001 5) (milli s.ctl.meterE))
  let rec_ := fun (kind : Nat) (j : JobShare) (e : Nat) => ledgerRec kind (!model) j.suite (s.jobStretch j) j.job.toNat step e t
  let s := each (jobs.filter fun j => j.1.act.any (fun x => x ≠ 0) || decide (j.1.busy ≠ 0)) (fun j s => s.queueRecord (rec_ 0 j.1 j.2.1)) s
  let s := each (jobs.filter fun j => j.2.2 ≠ 0) (fun j s => s.queueRecord (rec_ 1 j.1 j.2.2)) s
  s.queueRecord (ledgerRec 2 (!model) 7 0 0xFFFF step (m.meter - booked) t)

/-- The stretch counts of the step just ended (R336): droop skips up to now, and the power skips of the duties that the
die had. A wing of a die that is not running has none. -/
def State.closeStretch (s : State) : State :=
  let s := each [0, 1, 2, 3] (fun d s =>
    let s := s.meterSkips d
    s.setDie d { s.die d with skips := (0, 0), skipAt := s.house, lastSkip := (s.die d).skips }) s
  each (List.range 32) (fun w s =>
    if !s.wingUp w then s.setEnt 0x2400 (w + 1) 0
    else
      let s := s.countDroop w
      let k := (s.die (w / 8)).lastSkip.1 / 16000000
      let v := s.wing w
      let s := if v.stretch = 0 then s else s.setWing w { v with stretch := 0 }
      (s.setEnt 0x2400 (w + 1) (satInc 32 v.stretch k)).incEnt 0x2402 (w + 1) k) s

/-! ### Boundaries (R379 to R384) -/

/-- The boundary that has just passed had its pulse, or its pulse is missing (R381). -/
def State.missPulse (s : State) : State :=
  let c := s.ctl
  if c.pulsed then s.setCtl { c with noPulse := 0 }
  else if s.ent 0x4310 8 = 0 ∨ s.ent 0x4310 3 = 0 then s
  else
    let s := (s.incEnt 0x4310 6 1).setCtl { c with noPulse := c.noPulse + 1 }
    if c.noPulse + 1 = 8 then s.setRaise 0x4310 3 2 else s

/-- A step boundary (R383). -/
def State.boundary (s : State) (m : StepMeasure) : State :=
  if !s.on then s
  else
    let s := s.advance s.ctl.nextBound
    let s := s.missPulse.closeStretch.bookStep m
    let c := s.ctl
    let n := if c.renumber then max (s.stepNo + 1) (s.house / c.len) else s.stepNo + 1
    let s := s.setEnt 0x4310 2 (n % 2 ^ 64)
    let s := if c.renumber then s.raise 0x4310 2 2 n else s
    let s := if s.ent 0x4310 9 = 1 ∧ s.firmware then s.emit (.stepPulse s.house) else s
    let len := match c.lenNext with
      | some (l, k) => if k ≤ 1 then l else c.len
      | none => c.len
    let next := match c.lenNext with
      | some (l, k) => if k ≤ 1 then none else some (l, k - 1)
      | none => none
    let s := s.setCtl { s.ctl with renumber := false, prevBound := s.house, nextBound := s.house + len, len := len, lenNext := next, pulsed := c.early, early := false }
    let is := List.range (suiteCount s.layout)
    let s := each is (fun i s => s.boundEpoch i) s
    let s := each is (fun i s => (((s.applyDue i c.renumber).boundLaggard i).boundAuthority i).boundFreq i) s
    let s := if s.tierState = 2 then { s with tier := { s.tier with bounds := s.tier.bounds + 1 } } else s
    s.setCtl { s.ctl with limited := false }

/-- STEP_BOUNDARY. -/
def execStepBoundary (m : StepMeasure) (s : State) : Host.Outcome State Fault Refusal :=
  act true (fun s => s.boundary m) s

/-- A rising edge of STEP_SYNC_IN at house time `t` (R381). -/
def State.syncPulse (s : State) (t high : Nat) : State :=
  if !s.on || decide (s.ent 0x4310 8 = 0) || decide (high < 200) then s
  else
    let s := s.advance t
    let c := s.ctl
    -- the nearest own boundary, the later one on a tie
    let later := decide (2 * t ≥ c.prevBound + c.nextBound)
    if (if later then c.early else c.pulsed) then s.incEnt 0x4310 7 1
    else
      let e : Int := (t : Int) - (if later then c.nextBound else c.prevBound : Nat)
      let s := s.setEnt 0x4310 4 (ofSigned 32 e)
      let s := if s.ent 0x4310 3 = 1 then s else s.setEnt 0x4310 3 1
      let q : Int := c.len / 16
      if 4 * e.natAbs ≤ c.len then
        let move := max (-q) (min q e)
        let next := ((c.nextBound : Int) + move).toNat
        s.setCtl (if later then { c with nextBound := next, early := true } else { c with nextBound := next, pulsed := true, noPulse := 0 })
      else
        let s := (s.incEnt 0x4310 5 1).setCtl { c with nextBound := t, early := true }
        s.raise 0x4310 5 2 (s.ent 0x4310 5)

/-- STEP_SYNC_PULSE. -/
def execStepSyncPulse (t high : Nat) (s : State) : Host.Outcome State Fault Refusal :=
  act true (fun s => s.syncPulse t high) s

/-- A write of the step length (R384). -/
def State.writeStepLen (s : State) (v : Nat) : Answered × State :=
  if v < 100000 ∨ 100000000 < v ∨ v % 1000 ≠ 0 then (.range, s)
  else if ((List.range 4).any fun i => s.ent 0x2100 (i + 1) ≠ 0) || ((List.range 4).any fun i => s.ep i 3 ≠ 0) then (.notQuiescent, s)
  else (.ok, (s.setEnt 0x4310 1 v).setCtl { s.ctl with lenNext := some (v, 2) })

/-- STEP_LENGTH_WRITE. -/
def execStepLengthWrite (v : Nat) (s : State) : Host.Outcome State Fault Refusal :=
  act true (fun s => if s.firmware then (s.writeStepLen v).2 else s) s

/-! ### The ledger ring (R357) -/

/-- A record is stored in its slot of the ledger ring: its second word first, then the first with PHASE. -/
def State.putRecord (s : State) (r : List (BitVec 64)) : State :=
  let a := s.ent 0x6000 1 + 32 * s.ent 0x6000 4
  let w := fun (i : Nat) => (lget 0#64 r i).toNat
  let who : Who := ⟨agentNo 4 0x18 0, 1, none⟩
  (s.storeWords who (a + 16) [(BitVec.ofNat 128 (w 2 + w 3 * 2 ^ 64), false)] none).storeWords who a
    [(BitVec.ofNat 128 (w 0 + b2n s.ctl.lphase * 2 ^ 63 + w 1 * 2 ^ 64), false)] none

/-- The ledger ring moves on past a record, with `rest` still waiting; PHASE turns at the ring's end. -/
def State.ledgerOn (s : State) (tail n : Nat) (rest : List (List (BitVec 64))) : State :=
  let wrap := decide (tail + 1 = n)
  let s := s.setEnt 0x6000 4 (if wrap then 0 else tail + 1)
  s.setCtl { s.ctl with ledger := rest, lphase := if wrap then !s.ctl.lphase else s.ctl.lphase }

/-- The oldest waiting record is written to the ledger ring; a HOUSE record raises the interrupt. -/
def State.writeLedger (s : State) : State :=
  if !s.on then s
  else match s.ctl.ledger with
    | [] => s
    | r :: rest =>
      let n := 2 ^ s.ent 0x6000 2
      let tail := s.ent 0x6000 4
      if s.ent 0x6000 7 = 0 ∨ (tail + 1) % n = s.ent 0x6000 3 % n then s
      else
        let x := (s.putRecord r).ledgerOn tail n rest
        if fld (lget 0#64 r 0).toNat 55 54 = 2 ∧ s.ent 0x6000 5 ≠ 0 then x.msi 4 (s.ent 0x6000 5) (s.ent 0x6000 6) else x

/-- LEDGER_RECORD_WRITE. -/
def execLedgerRecordWrite (s : State) : Host.Outcome State Fault Refusal :=
  act true (fun s => s.writeLedger) s

end Sys2Proof.Machine
end

