-- ==== Sys2Proof/Machine/HallCmds.lean ====
section
/-! DEFINITION. Suite layouts (R18 to R21), hallways and heartbeats (R15, R301, R302), link loss and the last-words log
(R303 to R307). -/

namespace Sys2Proof.Machine

/-! ### Layouts (R20, R21) -/

/-- Whether the accelerator is quiescent (R20). -/
def State.quiescent (s : State) : Bool := s.liveCtxs.isEmpty && s.enabledQueues.isEmpty

/-- Every wing cache, reduce line and Shelf is written back and invalidated. -/
def State.emptyCaches (s : State) : State :=
  let s := each s.rlines (fun e s => each e.2 (fun r s => s.rlineBack e.1 r.line) s) s
  let s := each ((List.range 32).filter fun w => s.wingUp w) (fun w s => (s.flushOp w 3).drainLanding w) s
  each (s.rooms.map fun e => e.1) (fun g s => s.shelfClear g) s

/-- Every dispatcher, queue, latch and TLB at its power-up state; engine queues are empty with them. -/
def State.resetDispatch (s : State) : State :=
  { s with
    wings := []
    rooms := s.rooms.map fun e => (e.1, { e.2 with
      mq := [], vq := [], cq := [], utlb := [], passRun := none, drainRun := none, loadRun := none, ve := { e.2.ve with running := false, load := none } })
    regs := s.regs.filter fun e => !(decide (e.1 < 0x40000000) && decide (e.1 % 0x10000000 < 0x08000000) &&
      decide (0x800000 ≤ e.1 % 0x01000000) && decide (e.1 % 0x01000000 < 0x900000)) }

/-- Every unit at epoch 0 with the power-up modes. -/
def State.resetEpochs (s : State) : State :=
  let s := { s with
    modes := []
    od := s.od.filter fun e => !(decide (0x8038 ≤ e.1 / 256) && decide (e.1 / 256 ≤ 0x803A)) }
  each [0, 1, 2, 3] (fun i s => s.resetEpoch i) s

/-- A write of the layout: refused, or carried out up to the event that ends it. -/
def State.writeLayout (s : State) (v : Nat) : Answered × State :=
  if 2 < v then (.range, s)
  else if s.mgmt.layout then (.busy, s)
  else if !s.quiescent then (.notQuiescent, s)
  else
    let s := (s.emptyCaches.resetDispatch).resetEpochs
    let s := ((s.setEnt 0x8000 1 v).setEnt 0x1100 1 v).incEnt 0x1100 3 1
    let s := each (List.range (suiteCount v)) (fun i s =>
      let s := each [0x2101, 0x2102, 0x2103] (fun x s => s.stageFreq i x) s
      s.setFleet i { s.fleetOf i with move := 2 }) s
    (.ok, { s with mgmt := { s.mgmt with layout := true, layouts := s.mgmt.layouts + 1 } })

/-- LAYOUT_WRITE. -/
def execLayoutWrite (v : Nat) (s : State) : Host.Outcome State Fault Refusal :=
  act true (fun s => if s.firmware then (s.writeLayout v).2 else s) s
/-- LAYOUT_CHANGE_DONE. -/
def execLayoutChangeDone (s : State) : Host.Outcome State Fault Refusal :=
  act true (fun s =>
    if s.on && s.mgmt.layout then
      ({ s with mgmt := { s.mgmt with layout := false } } : State).raise 0x1100 3 0 (s.ent 0x1100 3)
    else s) s

/-! ### Hallways (R15, R302) -/

/-- The die whose Breaker hears that a hallway has retrained: the host die, or the lower-numbered end die of a ring
hallway (DESIGN CHOICE: the manual does not say which end's Breaker records it). -/
def hallBreaker (n : Nat) : Nat := if n < 4 then 4 else (hallEnds n).foldl min 4

/-- A hallway loses training. -/
def State.hallLoses (s : State) (n : Nat) : State :=
  if !s.on || decide (s.hall n ≠ 2) then s else (s.setHall n 1).setEnt (0x5200 + n) 4 s.house

/-- Training returns within 20 ms: one retrain. -/
def State.hallReturns (s : State) (n : Nat) : State :=
  if !s.on || decide (s.hall n ≠ 1) then s
  else ((s.setHall n 2).incEnt (0x5200 + n) 2 1).capture (hallBreaker n) (plainReport 0x04 (agentNo (hallBreaker n) 0x0C n))

/-- The suites with a die at either end of a ring hallway. -/
def State.hallSuites (s : State) (n : Nat) : List Nat := ((hallEnds n).map fun d => s.suiteOfDie d).eraseDups

/-- A ring hallway has been down for 20 ms (R15). -/
def State.ringDown (s : State) (n : Nat) : State :=
  if !s.on || decide (s.hall n ≠ 1) then s
  else
    let s := s.advance (s.ent (0x5200 + n) 4 + 20000000)
    let l := s.levelSuites n (s.hallSuites n)
    let s := (s.setHall n 0).levelActed n
    each (hallEnds n) (fun d s => s.capture d { plainReport 0x30 (agentNo d 0x0C n) with suites := l }) s

/-- RING_HALL_TRAINING_LOSS. -/
def execRingHallTrainingLoss (n : Nat) (s : State) : Host.Outcome State Fault Refusal :=
  act (ringHall n) (fun s => s.hallLoses n) s
/-- A ring hallway that was down has trained: UP between running dies, fenced while an end is not UP. -/
def State.ringUp (s : State) (n : Nat) : State := (s.levelEnds n).setHall n (if (hallEnds n).all fun d => s.dieUp d then 2 else 3)
/-- HOST_HALL_TRAINING_LOSS. -/
def execHostHallTrainingLoss (d : Nat) (s : State) : Host.Outcome State Fault Refusal :=
  act (decide (d < 4)) (fun s => s.hallLoses d) s

/-- The host mesh sends its heartbeat on each host hallway (R301); it arrives where the hallway is trained. -/
def State.heartbeat (s : State) : State :=
  if !s.on then s
  else each [0, 1, 2, 3] (fun d s =>
    let s := s.emit (.hallBeat d)
    if s.hall d = 2 then s.setDie d { s.die d with beatAt := s.house } else s) s

/-- HALL_HEARTBEAT. -/
def execHallHeartbeat (s : State) : Host.Outcome State Fault Refusal := act true (fun s => s.heartbeat) s

/-! ### Link loss (R303 to R307) -/

/-- A compute die declares link loss for a cause that holds (R303). -/
def State.declareLoss (s : State) (d cause : Nat) : State :=
  if !s.on then s
  else if cause = 0 then
    if s.hall d = 1 then (s.advance (s.ent (0x5200 + d) 4 + 20000000)).linkLoss d 0 else s
  else if cause = 1 then
    if s.hall d = 2 then (s.advance ((s.die d).beatAt + 20000000)).linkLoss d 1 else s
  else if cause = 2 then (if (s.die d).notice then s.linkLoss d 2 else s)
  else s


/-- The self-reset of a die that lost its link has ended: DIE_STATE reads RESET. -/
def execDieSelfResetDone (d : Nat) (s : State) : Host.Outcome State Fault Refusal :=
  act (decide (d < 4)) (fun s =>
    if (s.die d).lossAt.isSome && decide (s.dieState d = 2) then s.setEnt 0x1100 (0x12 + 0x10 * d) 1 else s) s

/-- Entries put into the last-words log, which holds 16,896; the rest are counted (R306). -/
def State.logEntries (s : State) (l : List (List (BitVec 64))) : State :=
  let room := 16896 - s.porch.log.length
  let s := if l.length ≤ room then s else s.incEnt 0x5300 2 (l.length - room)
  { s with porch := { s.porch with log := s.porch.log ++ l.take room } }

/-- The link of a reset die returns: its retained records move to the log (Table 11.11). -/
def State.linkBack (s : State) (d : Nat) : State :=
  let v := s.die d
  if !s.on || v.lossAt.isNone || decide (s.dieState d ≠ 1) then s
  else
    let s := (s.logEntries v.retained).setHall d 2
    s.setDie d { v with retained := [], lossAt := none, notice := false, beatAt := s.house }


/-- A carried-over stack is adopted while its die is UP (R307). -/
def State.adopt (s : State) (j : Nat) : Answered × State :=
  if s.dieUp (j / 3) then (.ok, s.setEnt 0x3019 (j + 1) 0) else (.busy, s)

/-- STACK_ADOPT. -/
def execStackAdopt (j : Nat) (s : State) : Host.Outcome State Fault Refusal :=
  act (decide (j < 12)) (fun s => (s.adopt j).2) s
/-- LOG_CLEAR. -/
def execLogClear (s : State) : Host.Outcome State Fault Refusal :=
  act true (fun s => if s.firmware then { s with porch := { s.porch with log := [] } } else s) s

end Sys2Proof.Machine
end

