-- ==== Sys2Proof/Machine/BreakerCmds.lean ====
section
/-! DEFINITION. The Breakers as commands (R413 to R423). -/

namespace Sys2Proof.Machine

/-- Whether Breaker `b` runs. -/
def State.breakerUp (s : State) (b : Nat) : Bool := if b < 4 then s.dieUp b else s.on

/-- The sources of Table 16.2. -/
def knownSource (src : Nat) : Bool :=
  (1 ≤ src && src ≤ 6) || (0x10 ≤ src && src ≤ 0x17) || (0x20 ≤ src && src ≤ 0x2A) || (0x30 ≤ src && src ≤ 0x33) ||
  (0x40 ≤ src && src ≤ 0x42)

/-- An uncorrectable directory entry (R418): no agent holds a line of its set, and each line is poisoned. -/
def State.loseSet (s : State) (line : Nat) : State :=
  each (s.dirs.filter fun e => dirSet e.1 = dirSet line) (fun e s =>
    (s.writeLine e.1 ⟨(s.peek e.1).bits, 0xF⟩).dirDrop e.1) s

/-- An uncorrectable word of a context's latches or queues is rewritten as 0 (R418); a TLB or segment table entry goes with
its context. -/
def State.zeroWord (s : State) (a : Nat) : State :=
  each [a / 16 * 16, a / 16 * 16 + 8] (fun x s =>
    match pageReg x with
    | .lval w l => s.setWing w { s.wing w with latches := tput 0#32 l 0 (s.wing w).latches }
    | _ =>
      if x < 0x40000000 ∧ x % 0x10000000 < 0x08000000 ∧ 0x810000 ≤ x % 0x01000000 ∧ x % 0x01000000 < 0x812000 then s.setReg x 0
      else s) s

/-- A report with the suite that its rule names: the owner of the stack whose directory entry is lost (R418). -/
def State.withSuites (s : State) (r : Report) : Report :=
  if r.src = 0x32 then
    match r.addr with
    | some a => match regionOf a.toNat with
      | .stack j => { r with suites := [s.suiteOfStack j] }
      | _ => r
    | none => r
  else r

/-- A report reaches a Breaker (R415 to R418). -/
def State.report (s : State) (b : Nat) (r : Report) : State :=
  if !s.breakerUp b || !knownSource r.src.toNat then s
  else
    let s := s.capture b (s.withSuites r)
    match r.addr with
    | some a =>
      if r.src = 0x32 ∨ r.src = 0x41 then s.loseSet (a.toNat / 64) else if r.src = 0x29 then s.zeroWord a.toNat else s
    | none => s

/-- BREAKER_REPORT. -/
def execBreakerReport (b : Nat) (r : Report) (s : State) : Host.Outcome State Fault Refusal :=
  act (decide (b < 5)) (fun s => s.report b r) s

/-- The level sources of Breaker `b` whose condition holds, by class (R417, R421), each with its key; their action is taken
only for suites created since the last one (R416). -/
def State.levels (s : State) (b c : Nat) : List (Nat × Report) :=
  if b < 4 ∧ c = 3 then
    ((hallsOf b).filter fun n => s.ringFailed n).map (fun n =>
      (n, { plainReport 0x30 (agentNo b 0x0C n) with suites := s.levelSuites n (s.hallSuites n) })) ++
    (match (s.die b).critAt with
     | some t => if s.ent 0x2200 (b + 1) = 3 ∧ t + 1000000000 ≤ s.house then
         [(8 + b, { plainReport 0x31 (agentNo b 0x0B 0) with suites := s.levelSuites (8 + b) [s.suiteOfDie b] })] else []
     | none => [])
  else if b = 4 ∧ c = 0 ∧ 90 ≤ s.ent 0x3130 7 then [(16, plainReport 0x05 (agentNo 4 0x15 0))]
  else []

/-- The level sources of a class report again. -/
def State.reportLevels (s : State) (b c : Nat) : State :=
  each (s.levels b c) (fun x s => ((if c = 3 then s.levelActed x.1 else s).capture b x.2)) s

/-- One class bit of BSTAT is cleared by a write of 1; a level source reports again at once (R421). -/
def State.clearClass (s : State) (b c : Nat) : State :=
  if bitOf (s.regN (paBreaker b 0)) c then
    let s := s.setRegF (paBreaker b 0) c c 0
    let s := (s.setRegF (paCapture b c) 63 63 0).setReg (paCapture b c + 24) 0
    let s := s.forwardCapture b c
    let s := s.raise 0x5000 (b + 1) 0 (s.ent 0x5000 (b + 1))
    s.reportLevels b c
  else s

/-- BSTAT's class bits written with 1s. -/
def State.clearBstat (s : State) (b m : Nat) : State :=
  if s.breakerUp b then each (bitsOf 5 m) (fun c s => s.clearClass b c) s else s

/-- BSTAT_CLEAR. -/
def execBstatClear (b : Nat) (mask : BitVec 5) (s : State) : Host.Outcome State Fault Refusal :=
  act (decide (b < 5)) (fun s => s.clearBstat b mask.toNat) s
/-- BDROP_READ. -/
def execBdropRead (b : Nat) (s : State) : Host.Outcome State Fault Refusal :=
  act (decide (b < 5)) (fun s => if s.breakerUp b then s.readClear (paBreaker b 8) else s) s

/-- Whether a checker has an array (R423, Table 8.4): by class and instance. -/
def hasArray (cls inst array : Nat) : Bool :=
  match cls with
  | 0x04 => decide (inst < 64)
  | 0x06 => decide (inst < 8) && decide (array < 3)
  | 0x08 => decide (inst < 3) && (array = 0 || array = 2)
  | 0x11 => decide (inst < 8) && decide (array < 3)
  | 0x12 => decide (inst < 8) && (array = 0 || array = 2)
  | 0x14 => decide (inst < 64) && decide (array = 0)
  | 0x17 => decide (inst < 3) && decide (array = 0)
  | _ => false

/-- Whether a value arms its slot, and whether Breaker `b` then refuses it (R423). -/
def badInjection (b v : Nat) : Bool :=
  let t := BitVec.ofNat 16 (fld v 63 48)
  let mode := fld v 43 42
  let array := fld v 45 44
  mode ≠ 0 && fld v 15 0 ≠ 0 &&
  (agentDie t ≠ b || !hasArray (agentClass t) (agentInst t) array || (array = 3 && mode = 3))

/-- A write of INJCTL of slot `k`. -/
def State.writeInj (s : State) (b k v : Nat) : State :=
  if !s.breakerUp b then s
  else if badInjection b v then s.setRegF (paBreaker b 0) 8 8 1
  else
    let pa := paBreaker b (0x100 + 0x20 * k)
    (s.setReg pa (BitVec.ofNat 64 v &&& (bmask 63 48 ||| bmask 45 40 ||| bmask 15 0))).setReg (pa + 0x18) 0

/-- INJCTL_WRITE. -/
def execInjctlWrite (b k : Nat) (v : BitVec 64) (s : State) : Host.Outcome State Fault Refusal :=
  act (decide (b < 5) && decide (k < 8)) (fun s => s.writeInj b k v.toNat) s

/-- The C4 record is cleared, and ALERT# is released (R422). -/
def State.clearC4 (s : State) : State :=
  let s := each [1, 2, 3, 4] (fun k s => s.setEnt 0x5020 k 0) s
  { s with porch := { s.porch with alerts := s.porch.alerts.filter fun a => a ≠ .c4 } }

/-- C4_RECORD_CLEAR. -/
def execC4RecordClear (s : State) : Host.Outcome State Fault Refusal :=
  act true (fun s => if s.firmware then s.clearC4 else s) s

end Sys2Proof.Machine
end

