-- ==== Sys2Proof/Machine/TestCmds.lean ====
section
/-! DEFINITION. Test access (R429 to R432), interconnect tests (R433 to R435) and stack repair (R225, R226, R436). -/

namespace Sys2Proof.Machine

/-! ### Test state (R430, R431) -/

/-- Whether the module is in test state. -/
def State.inTest (s : State) : Bool := s.ent 0xA000 1 = 1

/-- An event sent to every enabled destination, whatever its area mask. -/
def State.raiseAll (s : State) (i k cause value : Nat) : State :=
  let n := s.mgmt.evNumber + 1
  let r : EventRec := ⟨i, k, cause, n, BitVec.ofNat 64 value, s.house, s.stepNo⟩
  let s := { s with mgmt := { s.mgmt with evNumber := n } }
  each ((if s.ent 0x4420 2 = 1 then [0] else []) ++ (if s.ent 0x4420 3 = 1 then [1] else []) ++
    (if s.ent 0x4420 1 ≠ 0 then [2] else [])) (fun d s => s.queueEvent r d) s

/-- The open session that a message names on its path. -/
def State.session (s : State) (path : Path) (n : Nat) : Option Session :=
  s.mgmt.sessions.find? fun x => x.n = n && x.peer = path && x.open_

/-- A request for test state (R430, R431). -/
def State.askTest (s : State) (path : Path) (n : Nat) : Answered × State :=
  if path = .letterbox ∨ s.inTest then (.access, s)
  else match s.session path n with
    | none => (.access, s)
    | some x =>
      if s.ent 0x1010 1 ≠ 4 then (.busy, s)
      else if s.liveCtxs ≠ [] ∨ s.tierState ≠ 0 ∨ ((List.range 4).any fun i => s.ent 0x2100 (i + 1) ≠ 0) = true then (.notQuiescent, s)
      else
        let s := (s.setEnt 0xA000 1 1).setBlob 0xA000 4 ((Config.sha512 x.peerKey).take 32)
        (.ok, s.raiseAll 0xA000 1 5 1)

/-- TEST_STATE_REQUEST. -/
def execTestStateRequest (path : Path) (session : Nat) (s : State) : Host.Outcome State Fault Refusal :=
  act true (fun s => if s.firmware then (s.askTest path session).2 else s) s

/-! ### The test access port (R429, R432) -/

/-- Whether the locked instructions are unlocked. -/
def State.tapOpen (s : State) : Bool := s.inTest && s.ent 0xA000 3 = 1

/-- An instruction is selected; a locked one selects the bypass register. -/
def State.tapSelect (s : State) (code : Nat) (locked : Bool) : State :=
  if s.porch.power = .off then s
  else
    let c := if locked && !s.tapOpen then 0xFF else code
    { s with porch := { s.porch with tap := BitVec.ofNat 8 c } }

/-- BYPASS. -/
def execTapBypass (s : State) : Host.Outcome State Fault Refusal := act true (fun s => s.tapSelect 0xFF false) s
/-- IDCODE: its register reads 0x194126B5. -/
def execTapIdcode (s : State) : Host.Outcome State Fault Refusal :=
  act true (fun s => if s.porch.power = .off then s else (s.tapSelect 0x01 false).emit (.tapData 0x194126B5#32)) s
/-- SAMPLE/PRELOAD: the cells of the boundary-scan register. PRES# is tied low (Table 18.1); the level of the STEP_SYNC
input is open (DESIGN CHOICE: a free value), and its output is low between pulses. -/
def execTapSample (s : State) : Host.Outcome State Fault Refusal :=
  act true (fun s =>
    if s.porch.power = .off then s
    else (s.tapSelect 0x02 false).drawFree.emit (.tapPins s.porch.pwrEn s.porch.perst (!s.porch.alerts.isEmpty) s.porch.wake
      s.porch.mgrSel s.porch.slotId false (decide (s.freeVal % 2 = 1)) false)) s
/-- EXTEST. -/
def execTapExtest (s : State) : Host.Outcome State Fault Refusal := act true (fun s => s.tapSelect 0x03 true) s
/-- CLAMP. -/
def execTapClamp (s : State) : Host.Outcome State Fault Refusal := act true (fun s => s.tapSelect 0x04 true) s
/-- HIGHZ. -/
def execTapHighz (s : State) : Host.Outcome State Fault Refusal := act true (fun s => s.tapSelect 0x05 true) s
/-- DIESEL: its register takes a value when unlocked. -/
def execTapDiesel (v : BitVec 8) (s : State) : Host.Outcome State Fault Refusal :=
  act true (fun s =>
    let s := s.tapSelect 0x10 true
    if s.porch.tap = 0x10 ∧ s.porch.power ≠ .off ∧ s.tapOpen then { s with porch := { s.porch with diesel := v } } else s) s
/-- WSP. -/
def execTapWsp (s : State) : Host.Outcome State Fault Refusal := act true (fun s => s.tapSelect 0x11 true) s
/-- DWR. -/
def execTapDwr (s : State) : Host.Outcome State Fault Refusal := act true (fun s => s.tapSelect 0x12 true) s
/-- TEST_LOGIC_RESET selects IDCODE. -/
def execTapReset (s : State) : Host.Outcome State Fault Refusal := act true (fun s => s.tapSelect 0x01 false) s

/-! ### Interconnect tests (R433 to R435) -/

/-- Kind and number of the link that 0xA100.01 names. -/
def State.testLink (s : State) : Nat × Nat := (s.ent 0xA100 1 / 256, s.ent 0xA100 1 % 256)

/-- Whether a die is RESET and held out of rejoin. -/
def State.heldDie (s : State) (d : Nat) : Bool := s.dieState d = 1 && s.ent 0x9021 (d + 1) = 1

/-- Whether 0xA100.01 and .03 name a link that exists and a loop that it has. -/
def State.linkExists (s : State) : Bool :=
  let l := s.testLink
  (l.1 = 0 && l.2 < 8 && s.ent 0xA100 3 = 0) || (l.1 = 1 && l.2 < 12 && s.ent 0xA100 3 = 0) || (l.1 = 2 && l.2 < 3)

/-- Whether the link under test is out of service. -/
def State.linkOut (s : State) : Bool :=
  let l := s.testLink
  if l.1 = 0 then (if l.2 < 4 then s.heldDie l.2 else (hallEnds l.2).any fun d => s.heldDie d)
  else if l.1 = 1 then s.heldDie (l.2 / 3)
  else s.ent 0x4000 (l.2 + 1) = 0

/-- GO (R433). -/
def State.startTest (s : State) : Answered × State :=
  if s.ent 0xA100 6 = 1 then (.busy, s)
  else if !s.linkExists then (.range, s)
  else if !s.linkOut then (.notQuiescent, s)
  else
    let l := s.testLink
    let s := s.setEnt 0xA100 6 1
    (.ok, if l.1 = 0 then s.setHall l.2 3
      else if l.1 = 1 then s.setStack l.2 { s.stack l.2 with undefined := true } else s)

/-- INTERCONNECT_TEST_GO. -/
def execInterconnectTestGo (s : State) : Host.Outcome State Fault Refusal :=
  act true (fun s => if s.firmware && s.inTest then s.startTest.2 else s) s

/-- Wires of the link under test (R434). -/
def State.testWires (s : State) : Nat :=
  let l := s.testLink
  if l.1 = 0 then (if l.2 < 4 then 1088 else 2176) else if l.1 = 1 then 2560 else 8

/-- Whether a wire's error count fails Table 17.2. -/
def State.wireFails (s : State) (e : Nat) : Bool :=
  if s.testLink.1 = 2 then decide (24 * s.ent 0xA100 4 < 100000 * e) else decide (e ≠ 0)

/-- The test ends with an error count per wire. -/
def State.endTest (s : State) (errs : List Nat) : State :=
  if !s.on || decide (s.ent 0xA100 6 ≠ 1) then s
  else
    let l := (List.range s.testWires).map fun i => min (2 ^ 32 - 1) (lget 0 errs i)
    let n := (l.filter fun e => s.wireFails e).length
    let s := s.setBlob 0xA100 7 (l.flatMap fun e => toBytes 4 e)
    (s.setEnt 0xA100 8 n).setEnt 0xA100 6 (if n = 0 then 2 else 3)

/-- INTERCONNECT_TEST_DONE. -/
def execInterconnectTestDone (errs : List Nat) (s : State) : Host.Outcome State Fault Refusal :=
  act true (fun s => s.endTest errs) s

/-! ### Stack repair (R225, R226, R436) -/

/-- The selected bank: channel × 16 + bank. -/
def State.repairBank (s : State) : Nat := (s.ent 0xA300 2 * 2 + s.ent 0xA300 3) * 16 + s.ent 0xA300 4
/-- The selected stack. -/
def State.repairStack (s : State) : Nat := s.ent 0xA300 1
/-- Repairs of a kind used in the selected bank: 1 spare row, 2 spare column group, 3 soft, 4 hard. -/
def State.repairsUsed (s : State) (kind : Nat) : Nat :=
  ((s.stack s.repairStack).repairs.filter fun r => r.1 = s.repairBank && r.2.1 = kind).length
/-- How many of a kind a bank has (Table 8.7). -/
def repairCount (kind : Nat) : Nat := if kind = 1 then 16 else if kind = 2 then 4 else 1
/-- REMAIN of the selected bank (Table 8.12). -/
def State.repairLeft (s : State) : Nat :=
  (16 - s.repairsUsed 1) + (4 - s.repairsUsed 2) * 256 + (1 - s.repairsUsed 4) * 65536 + (1 - s.repairsUsed 3) * 131072

/-- GO with an action (R436): 0 READ_MAP, else a repair that begins. -/
def State.startRepair (s : State) (action : Nat) : Answered × State :=
  let j := s.repairStack
  if s.ent 0xA300 9 = 1 then (.busy, s)
  else if action = 0 then (.ok, (s.setEnt 0xA300 10 s.repairLeft).setEnt 0xA300 9 0)
  else if !s.stackUp j then (.ok, s.setEnt 0xA300 9 3)
  else if repairCount action ≤ s.repairsUsed action then (.ok, s.setEnt 0xA300 9 2)
  else
    let place := if action = 2 then s.ent 0xA300 7 else s.ent 0xA300 5
    let s := s.setStack j { s.stack j with bankHold := some s.repairBank, repairing := some (action, place) }
    (.ok, s.setEnt 0xA300 9 1)

/-- The word address in stack `j` of a bank's row, column and word (R31, R207). -/
def wordPlace (j bank row col word : Nat) : Nat :=
  let hi := row * 2 ^ 20 + col * 2 ^ 17
  let b := bank % 16 ^^^ fld hi 28 25
  let p := hi + b * 2 ^ 13
  let ch := bank / 16 ^^^ fld p 22 18 ^^^ fld p 32 28
  (j + 1) * 2 ^ 36 + p + ch * 2 ^ 8 + word * 16

/-- The words that a repair replaces. -/
def repairWords (j bank action place : Nat) : List Nat :=
  if action = 2 then (List.range 65536).map fun row => wordPlace j bank row (place / 16 % 8) (place % 16)
  else (List.range 8).flatMap fun col => (List.range 16).map fun w => wordPlace j bank place col w

/-- A repair has ended (R436): what its resource holds at first is left open. -/
def State.endRepair (s : State) (j : Nat) (ok : Bool) : State :=
  let t := s.stack j
  match t.bankHold, t.repairing with
  | some bank, some (action, place) =>
    let s := s.setStack j { t with bankHold := none, repairing := none, repairs := if ok then t.repairs ++ [(bank, action, place)] else t.repairs }
    let s := if ok then each (repairWords j bank action place) (fun pa s =>
        s.drawFree.drawFree.storeWord pa (BitVec.ofNat 128 s.freeVal) (BitVec.ofNat 16 s.drawFree.freeVal)) s else s
    s.setEnt 0xA300 9 (if ok then 0 else 3)
  | _, _ => s

/-- A repair action under test state. -/
def State.repair (s : State) (action : Nat) : State := if s.firmware && s.inTest then (s.startRepair action).2 else s

/-- READ_MAP. -/
def execReadMap (s : State) : Host.Outcome State Fault Refusal := act true (fun s => s.repair 0) s
/-- SPARE_ROW. -/
def execSpareRow (s : State) : Host.Outcome State Fault Refusal := act true (fun s => s.repair 1) s
/-- SPARE_COL. -/
def execSpareCol (s : State) : Host.Outcome State Fault Refusal := act true (fun s => s.repair 2) s
/-- SOFT_PPR. -/
def execSoftPpr (s : State) : Host.Outcome State Fault Refusal := act true (fun s => s.repair 3) s
/-- HARD_PPR. -/
def execHardPpr (s : State) : Host.Outcome State Fault Refusal := act true (fun s => s.repair 4) s

end Sys2Proof.Machine
end

