-- ==== Sys2Proof/Machine/Boot.lean ====
section
/-! DEFINITION. Input power and pins (R391, R439 to R444, R449), the mask ROM (R392 to R398) and the release of the
host (R399, R400). -/

namespace Sys2Proof.Machine

/-- The Porch as given. -/
def State.setPorch (s : State) (p : Porch) : State := { s with porch := p }

/-- The boot status (0x1010.01). -/
def State.status (s : State) : Nat := s.ent 0x1010 1
/-- The boot status as given. -/
def State.setStatus (s : State) (v : Nat) : State := s.setEnt 0x1010 1 v

/-! ### Power (R391, R440 to R444) -/

/-- Power-up starts: the reference oscillator and the first rails (Table 15.1). The alerts of the power-up before
are released; that of a C4 record stays. -/
def State.startUp (s : State) : State :=
  let s := s.setPorch { s.porch with power := .running, boot := .rails, alerts := s.porch.alerts.filter fun a => a = .c4 }
  (s.setStatus 0).setCtl { s.ctl with upAt := s.house }

/-- Everything but the Cellar's contents and the repairs that outlast a power cycle is gone (R391, Table 15.7). -/
def State.powerLost (s : State) (p : Power) : State :=
  let s := (s.cold false).untrained
  { s with porch := { Porch.off with power := p }
           od := s.od.filter fun e => decide (e.1 / 256 = 0x3130) || !persistent e.1 }

/-- POWER_ON: 50 V appears, and pre-charge begins. -/
def execPowerOn (pwrEn : Bool) (s : State) : Host.Outcome State Fault Refusal :=
  act true (fun s =>
    if s.porch.power = .off then
      let s := s.powerLost .precharge
      s.setPorch { s.porch with pwrEn := pwrEn }
    else s) s

/-- The power-on reset is complete: house time starts at 0, and PWR_EN is sampled (Table 18.3). -/
def State.porchRuns (s : State) : State :=
  if s.porch.power ≠ .precharge then s
  else
    let s := { s with house := 0, backlog := [] }
    if s.porch.pwrEn then s.startUp else s.setPorch { s.porch with power := .standby }

/-- PRECHARGE_DONE. -/
def execPrechargeDone (s : State) : Host.Outcome State Fault Refusal := act true (fun s => s.porchRuns) s
/-- PRECHARGE_STOP. -/
def execPrechargeStop (s : State) : Host.Outcome State Fault Refusal :=
  act true (fun s =>
    if s.porch.power = .precharge then s.setPorch { s.porch with power := .prechargeStopped } else s) s
/-- PRECHARGE_RESTART. -/
def execPrechargeRestart (s : State) : Host.Outcome State Fault Refusal :=
  act true (fun s =>
    if s.porch.power = .prechargeStopped then s.setPorch { s.porch with power := .precharge } else s) s

/-- PWR_EN_ASSERT: a level shorter than 1 ms is ignored; in STANDBY it starts power-up while the input voltage is in
range. -/
def execPwrEnAssert (us : Nat) (s : State) : Host.Outcome State Fault Refusal :=
  act true (fun s =>
    if us < 1000 ∨ s.porch.power = .off then s
    else
      let s := s.setPorch { s.porch with pwrEn := true }
      if s.porch.power = .standby ∧ !s.porch.lost then s.startUp else s) s
/-- PWR_EN_DEASSERT: every rail but VPORCH turns off. -/
def execPwrEnDeassert (us : Nat) (s : State) : Host.Outcome State Fault Refusal :=
  act true (fun s =>
    if us < 1000 ∨ s.porch.power = .off then s
    else
      let s := s.setPorch { s.porch with pwrEn := false }
      if s.porch.power = .running then s.railsOff .standby else s) s

/-- The input voltage leaves its range: the rails but VPORCH turn off and ALERT# is asserted (R443). -/
def State.badInput (s : State) : State :=
  if s.porch.power = .running ∨ s.porch.power = .standby then
    let s := (s.railsOff .standby).alert .voltage
    s.setPorch { s.porch with lost := true }
  else s

/-- UNDERVOLTAGE. -/
def execUndervoltage (s : State) : Host.Outcome State Fault Refusal := act true (fun s => s.badInput) s
/-- OVERVOLTAGE. -/
def execOvervoltage (s : State) : Host.Outcome State Fault Refusal := act true (fun s => s.badInput) s
/-- VOLTAGE_RETURN: with PWR_EN asserted the alert is released and power-up starts again. -/
def execVoltageReturn (s : State) : Host.Outcome State Fault Refusal :=
  act true (fun s =>
    if !s.porch.lost then s
    else
      let s := s.setPorch { s.porch with lost := false }
      if s.porch.pwrEn then s.startUp else s) s
/-- POWER_OFF: the Porch stops. -/
def execPowerOff (s : State) : Host.Outcome State Fault Refusal :=
  act true (fun s => if s.porch.power = .off then s else s.powerLost .off) s

/-- PERST_RELEASE: REFCLK has been stable for 100 ms; it starts with the firmware's clocks phase (R449). -/
def execPerstRelease (s : State) : Host.Outcome State Fault Refusal :=
  act true (fun s => if s.firmware then s.setPorch { s.porch with perst := false } else s) s

/-! ### The mask ROM (R392 to R398) -/

/-- Whether the ROM has come to a step and has not gone beyond it. -/
def State.romAt (s : State) (b : BootStep) : Bool := s.on && s.porch.boot = b

/-- The straps as 16 samples give them (R439). -/
def strapsOf (l : List Strap) : Strap :=
  match l with
  | x :: _ => if l.length = 16 ∧ (l.all fun y => decide (y = x)) = true then x else ⟨0, false⟩
  | [] => ⟨0, false⟩

/-- ROM_START. -/
def execRomStart (samples : List Strap) (s : State) : Host.Outcome State Fault Refusal :=
  act true (fun s =>
    if s.romAt .rails then
      let x := strapsOf samples
      (s.setPorch { s.porch with boot := .rom, slotId := x.slot, mgrSel := x.mgr }).setStatus 0
    else s) s

/-- A little-endian field of a block of bytes. -/
def fieldOf (b : Bytes) (o n : Nat) : Nat := ofBytes (padTo n (slice b o n))
/-- Whether every byte of a field is 0. -/
def blankField (b : Bytes) (o n : Nat) : Bool := (slice b o n).all fun x => x = 0

/-- Whether a copy of the Deed passes (R393). -/
def deedOk (b : Bytes) : Bool :=
  fieldOf b 0 4 = 0x44454544 && fieldOf b 4 2 = 1 && decide (fieldOf b 0x50 1 < 4) &&
  Config.ed25519 (Config.vendorKey (fieldOf b 0x50 1)) (slice b 0 0xFC0) (slice b 0xFC0 64)

/-- DEED_READ. -/
def execDeedRead (s : State) : Host.Outcome State Fault Refusal :=
  act true (fun s =>
    if s.romAt .rom then
      match [0, 1, 2].find? fun k => deedOk (Config.deedCopy k) with
      | some k => s.setPorch { s.porch with boot := .deed, deedNo := some k }
      | none => ((s.setPorch { s.porch with boot := .stopped }).setStatus 5).alert .deed
    else s) s

/-- The role and PLCA node ID of the segment (R373, R374), where a worker's slot can be invalid. -/
def State.takeRole (s : State) (beacon : Bool) : State :=
  let n := s.porch.slotId.toNat
  let bad := n = 0 ∨ s.ent 0x4400 3 ≤ n
  let role := if s.porch.mgrSel then (if beacon then 2 else 1) else if bad then 3 else 0
  let s := (s.setEnt 0x4400 1 role).setEnt 0x4400 2 (if role = 1 then 0 else n)
  s.setPorch { s.porch with boot := .role }

/-- IDENTITY_DERIVE: the PUF's key must be IDKEY; the PUF is locked. A worker joins the segment at once. -/
def execIdentityDerive (s : State) : Host.Outcome State Fault Refusal :=
  act true (fun s =>
    if s.romAt .deed then
      let s := s.setPorch { s.porch with pufLocked := true }
      if Config.pufKey = s.idKey then
        let s := s.setPorch { s.porch with boot := .identity }
        if s.porch.mgrSel then s else s.takeRole false
      else ((s.setPorch { s.porch with boot := .stopped }).setStatus 6).alert .puf
    else s) s

/-- An event of the time before the firmware runs. -/
def State.raiseEarly (s : State) (i k cause value : Nat) : State :=
  let up := s.mgmt.sculleryUp
  let s := ({ s with mgmt := { s.mgmt with sculleryUp := true } } : State).raise i k cause value
  { s with mgmt := { s.mgmt with sculleryUp := up } }

/-- ROLE_RESOLVE: a module strapped as manager has listened for 100 ms. -/
def execRoleResolve (beacon : Bool) (s : State) : Host.Outcome State Fault Refusal :=
  act true (fun s =>
    if s.romAt .identity then
      let s := s.takeRole beacon
      if s.ent 0x4400 1 = 2 then s.raiseEarly 0x4400 1 3 2 else s
    else s) s

/-- The lowest missing block; all ones before the first block. -/
def State.missingBlock (s : State) : Nat :=
  if s.porch.imageId.isNone then 0xFFFFFFFF
  else ((List.range s.porch.count).find? fun i => (s.porch.blocks.find? fun e => e.1 = i).isNone).getD s.porch.count

/-- A BOOT_REQUEST is multicast. -/
def State.askImage (s : State) : State :=
  (s.setStatus 1).emit (.bootRequest s.serial s.idKey Config.romVersion (BitVec.ofNat 32 s.missingBlock))

/-- BOOT_REQUEST: while blocks are missing and no rejected image waits for its retry. -/
def execBootRequest (s : State) : Host.Outcome State Fault Refusal :=
  act true (fun s => if s.romAt .role && decide (s.status ≤ 1) then s.askImage else s) s

/-- Every block received so far is dropped. -/
def State.dropImage (s : State) : State :=
  s.setPorch { s.porch with imageId := none, count := 0, blocks := [], image := [] }

/-- LENGTH of an image. -/
def imageLength (b : Bytes) : Nat := fieldOf b 0x10 4
/-- Whether an image carries an owner's countersignature. -/
def imageOwner (b : Bytes) : Bool := bitOf (fieldOf b 6 2) 0
/-- OKEY of an image. -/
def imageOkey (b : Bytes) : Bytes := slice b 0x80 32

/-- The first check of R397 that an image of `count` blocks fails, as 0x1010.02 numbers them; 0 for none. -/
def imageCheck (b : Bytes) (count : Nat) : Nat :=
  let n := imageLength b
  let key := slice b 0x20 32
  if !(fieldOf b 0 4 = 0x57464454 && fieldOf b 4 2 = 1 && decide (fieldOf b 6 2 < 2) &&
       decide (4096 ≤ n) && decide (n ≤ 8388608) && n % 1024 = 0 && decide (count = (512 + n + 1023) / 1024) &&
       blankField b 0x18 8 && blankField b 0xA0 32 && blankField b 0x140 192) then 1
  else if !([0, 1, 2, 3].any fun k => Config.sha512 key = Config.sha512 (Config.vendorKey k)) then 2
  else if !Config.ed25519 key (slice b 0 0xC0) (slice b 0xC0 64) then 3
  else if Config.sha512 (slice b 512 n) ≠ slice b 0x40 64 then 4
  else if imageOwner b then (if Config.ed25519 (imageOkey b) (slice b 0 0x100) (slice b 0x100 64) then 0 else 5)
  else if blankField b 0x80 32 && blankField b 0x100 64 then 0 else 5

/-- The whole image has come: it is checked, and kept or discarded (R397). -/
def State.judgeImage (s : State) : State :=
  let b := s.porch.blocks.flatMap fun e => e.2
  let k := imageCheck b s.porch.count
  if k = 0 then
    (s.dropImage.setPorch { s.dropImage.porch with boot := .accepted, image := b.take (512 + imageLength b) }).setStatus 2
  else (s.dropImage.setEnt 0x1010 2 k).setStatus 7

/-- BOOT_BLOCK: blocks of the first IMAGE_ID are kept. -/
def execBootBlock (imageId : BitVec 64) (num count : Nat) (bytes : Bytes) (s : State) :
    Host.Outcome State Fault Refusal :=
  act true (fun s =>
    if s.romAt .role && s.status = 1 then
      let s := if s.porch.imageId.isNone then s.setPorch { s.porch with imageId := some imageId, count := count } else s
      if s.porch.imageId = some imageId ∧ num < s.porch.count then
        let s := s.setPorch { s.porch with blocks := tset num (padTo 1024 bytes) s.porch.blocks }
        if s.porch.blocks.length = s.porch.count then s.judgeImage else s
      else s
    else s) s

/-- BOOT_TIMEOUT: the ROM starts again from its first request. -/
def execBootTimeout (s : State) : Host.Outcome State Fault Refusal :=
  act true (fun s => if s.romAt .role && s.status = 1 then s.dropImage.askImage else s) s
/-- IMAGE_RETRY: 10 s after a rejection delivery starts again. -/
def execImageRetry (s : State) : Host.Outcome State Fault Refusal :=
  act true (fun s => if s.romAt .role && s.status = 7 then s.dropImage.askImage else s) s

/-! ### The firmware (R398, R399) -/

/-- The level of a die revision (Table 15.9): B0 level 1, B1 level 2. -/
def levelOfRev (r : Nat) : Nat := if r = 0 then 1 else 2

/-- The geometry table of the dies that the Deed names (Table 1.8). -/
def State.buildGeometry (s : State) : State :=
  let s := s.setEnt 0x1100 5 (fieldOf s.deed 0x20 1)
  each [0, 1, 2, 3] (fun d s =>
    let r := fieldOf s.deed (0x21 + d) 1
    ((s.setEnt 0x1100 (0x10 + 0x10 * d) r).setEnt 0x1100 (0x11 + 0x10 * d) (levelOfRev r)).setEnt 0x1100 (0x12 + 0x10 * d) 0) s

/-- What the image and the ROM hand to the firmware shows in the dictionary (R398, R399). -/
def State.handOver (s : State) : State :=
  let b := s.porch.image
  let m1 := Config.sha512 b
  let s := s.setPorch { s.porch with boot := .firmware, m1 := m1 }
  let s := (s.setEnt 0x9000 1 (fieldOf b 8 4)).setEnt 0x9000 2 (fieldOf b 12 4)
  let s := ((s.setBlob 0x9000 3 m1).setBlob 0x9000 4 (imageOkey b)).setBlob 0x7020 1 (Config.aliasCert b)
  if imageOwner b then s.setBlob 0x7010 1 (imageOkey b) else s

/-- The rest of Table 15.1: clocks, hallways, stacks and host memory, the geometry table, READY. Retained records
reach the log as each link trains; worn-out Cellar blocks are reported again (R417). A stack whose contents an
interconnect test left undefined is zero-scrubbed as the die's next rejoin would (R435). DEDUCED: the die is UP again
without a rejoin of its own. -/
def State.bringUp (s : State) : State :=
  let s := each [0, 1, 2, 3, 4, 5, 6, 7] (fun n s => s.setHall n 2) s
  let s := each [0, 1, 2, 3] (fun d s =>
    let r := (s.die d).retained
    (s.logEntries r).setDie d { Die.reset with beatAt := s.house }) s
  let s := each (List.range 12) (fun j s => if (s.stack j).undefined then s.scrubStack j else s) s
  let s := { s with mgmt := { s.mgmt with sculleryUp := true } }
  let t := s.house / 1000000 * 1000000
  let s := s.reportLevels 4 0
  (s.buildGeometry.setCtl { Control.reset s.ctl.upAt t (t + 1000000) with ptpLocked := s.ctl.ptpLocked }).setStatus 4

/-- FIRMWARE_START. -/
def execFirmwareStart (s : State) : Host.Outcome State Fault Refusal :=
  act true (fun s => if s.romAt .accepted then s.handOver.bringUp else s) s

/-- The host image and its load offset in what the boot source delivered (R400). -/
def State.hostImage (s : State) (src : Option Bytes) : Option (Nat × Bytes) :=
  match src with
  | none => none
  | some b =>
    let r : Nat × Bytes := if s.ent 0x9010 1 = 1 then (fieldOf b 8 4, slice b 12 (fieldOf b 4 4)) else (0, b)
    let n := if s.ent 0x9010 1 = 1 then fieldOf b 4 4 else s.ent 0x9010 4
    if (s.ent 0x9010 1 = 1 ∧ fieldOf b 0 4 ≠ 0x42484454) ∨ r.2.length ≠ n ∨ 2 ^ 39 < r.1 + n then none else some r

/-- The Scullery as a unit that writes. -/
def sculleryWho : Who := ⟨agentNo 4 0x18 0, 1, none⟩

/-- The host boot image is loaded and measured and core 0 released, or the source has failed. -/
def State.bootHost (s : State) (src : Option Bytes) : State :=
  if !s.firmware || s.porch.perst || s.porch.released then s
  else match s.hostImage src with
    | none => s.setStatus 8
    | some (o, b) =>
      let s := s.unitStore sculleryWho (0x010000000000 + o) b false none
      (s.setPorch { s.porch with released := true, hostHash := Config.sha512 b }).setStatus 4

/-- HOST_RELEASE. -/
def execHostRelease (src : Option Bytes) (s : State) : Host.Outcome State Fault Refusal :=
  act true (fun s => if s.status = 4 then s.bootHost src else s) s
/-- HOST_BOOT_RETRY. -/
def execHostBootRetry (src : Option Bytes) (s : State) : Host.Outcome State Fault Refusal :=
  act true (fun s => if s.status = 8 then s.bootHost src else s) s

end Sys2Proof.Machine
end

