-- ==== Sys2Proof/Machine/ResetCmds.lean ====
section
/-! DEFINITION. Resets of the module, its dies, suites and rooms, and a die's return (R25, R401, R405 to R410). -/

namespace Sys2Proof.Machine

/-! ### The Scullery and the module (R401, R406) -/

/-- A Scullery restart frees every letterbox that a Scullery core owns (R299). -/
def State.freeSculleryBoxes (s : State) : State :=
  each (List.range 64) (fun m s => if isScullery (BitVec.ofNat 16 (s.boxOwner m)) then s.resetBox m else s) s

/-- The Scullery restarts: sessions end with what is kept for them; every entry keeps its value. -/
def State.sculleryRestart (s : State) : State :=
  let s := s.freeSculleryBoxes.incEnt 0x9000 5 1
  let s := s.meterDuty.setCtl { s.ctl with missed := true }
  let g := s.mgmt
  { s with mgmt := { g with sessions := [], answers := g.answers.filter (fun a => a.sess = 0), segs := g.segs.filter fun x => x.2.1 = 0 } }

/-- The watchdog expires: a restart, or a module reset when the image has changed or this is the third restart
within 10 s. -/
def State.watchdog (s : State) : State :=
  if !s.firmware then s
  else
    let l := s.house :: s.porch.restarts.filter fun t => decide (s.house ≤ t + 10000000000)
    let s := s.setPorch { s.porch with restarts := l }
    if 3 ≤ l.length ∨ Config.sha512 s.porch.image ≠ s.porch.m1 then s.moduleReset else s.sculleryRestart

/-- WATCHDOG_EXPIRY. -/
def execWatchdogExpiry (s : State) : Host.Outcome State Fault Refusal := act true (fun s => s.watchdog) s
/-- MODULE_RESET. -/
def execModuleReset (s : State) : Host.Outcome State Fault Refusal :=
  act true (fun s => if s.on then s.moduleReset else s) s

/-! ### Compute dies (R25, R407) -/

/-- A clock of die `d` stops, or leaves its frequency: a reset of the die (R25); until it rejoins, 0x1110 shows its
clocks as stopped (R23). -/
def State.clockLoss (s : State) (d : Nat) : State :=
  let s := s.forcedReset d
  s.setDie d { s.die d with stopped := true }

/-- Whether a context has an enabled queue on die `d`, or a FLAT segment mapping its stacks. -/
def State.dieInUse (s : State) (d : Nat) : Bool :=
  (s.enabledQueues.any fun x => x.1 / 8 = d) ||
  s.liveCtxs.any fun c => (s.ctxRec c).segs.any fun g => g.maps fun j => j / 3 = d

/-- Lines that the die holds for other homes are written back: reduce lines, wing caches, Landings. -/
def State.dieWritesBack (s : State) (d : Nat) : State :=
  let s := each (s.rlines.filter fun e => decide (e.1 = 32 + d) || (decide (e.1 < 32) && decide (e.1 / 8 = d))) (fun e s =>
    each e.2 (fun r s => s.rlineBack e.1 r.line) s) s
  each ((List.range 8).map fun w => 8 * d + w) (fun w s => (s.flushCache w fun _ => .flush).drainLanding w) s

/-- An orderly drain of die `d` (R407). -/
def State.drainDie (s : State) (d : Nat) : State :=
  let s := each s.rlines (fun e s => each (e.2.filter fun r => lineOnDie d r.line) (fun r s => s.rlineBack e.1 r.line) s) s
  let s := each [0, 1, 2] (fun i s => s.recall ((3 * d + i + 1) * 2 ^ 36) (2 ^ 36) true) s
  let s := s.dieWritesBack d
  let s := each [0, 1, 2] (fun i s => s.flushMerge ((3 * d + i + 1) * 2 ^ 36) (2 ^ 36)) s
  let s := s.fenceHalls d
  let s := (s.dropHomes d).purgeAgents d
  let s := ((s.dropCopies d).loseHatches d).setEnt 0x1100 (0x12 + 0x10 * d) 1
  let s := s.loseDieFrames d true
  s.clearDie d false

/-- A request for an orderly drain of a die. -/
def State.askDrain (s : State) (d : Nat) : Answered × State :=
  if s.dieInUse d then (.notQuiescent, s) else if s.dieUp d then (.ok, s.drainDie d) else (.ok, s)


/-! ### Suites (R405) -/

/-- A request for a suite's forced reset. -/
def State.askSuiteReset (s : State) (i : Nat) : Answered × State :=
  if suiteCount s.layout ≤ i then (.range, s) else (.ok, s.suiteReset i)

/-- A request for an orderly drain of every die of a suite: all of them, or none. Every context of the suite is then
FREE (Table 15.7). -/
def State.askSuiteDrain (s : State) (i : Nat) : Answered × State :=
  if suiteCount s.layout ≤ i then (.range, s)
  else if (suiteDies s.layout i).any fun d => s.dieInUse d then (.notQuiescent, s)
  else
    let s := each ((suiteDies s.layout i).filter fun d => s.dieUp d) (fun d s => s.drainDie d) s
    (.ok, each (s.suiteCtxs i) (fun c s => (s.killContext c stKILLED).freeContext c) s)


/-! ### A die rejoins (R409, R435) -/

/-- Whether an interconnect test runs on a link of die `d`. -/
def State.testOnDie (s : State) (d : Nat) : Bool :=
  let l := s.testLink
  s.ent 0xA100 6 = 1 && ((l.1 = 0 && (hallsOf d).contains l.2) || (l.1 = 1 && l.2 / 3 = d))

/-- Whether a rejoin scrubs stack `j`: after a forced reset (R219), or with contents that a test left undefined
(R435). -/
def State.scrubsOnRejoin (s : State) (j : Nat) : Bool := (s.die (j / 3)).forced || (s.stack j).undefined

/-- A die begins to rejoin (R409): its clocks run, and its stacks are scrubbed where they must be. -/
def State.beginRejoin (s : State) (d : Nat) : State :=
  let s := (s.setDie d { s.die d with stopped := false }).setEnt 0x1100 (0x12 + 0x10 * d) 3
  each [3 * d, 3 * d + 1, 3 * d + 2] (fun j s =>
    if s.scrubsOnRejoin j then
      ((s.setStack j { s.stack j with scrubbing := true }).setEnt 0x3016 (j + 1) 1).showStack j
    else s) s

/-- DIE_REJOIN_START. -/
def execDieRejoinStart (d : Nat) (s : State) : Host.Outcome State Fault Refusal :=
  act (decide (d < 4)) (fun s =>
    if s.firmware && decide (s.dieState d = 1) && (s.die d).lossAt.isNone && decide (s.ent 0x9021 (d + 1) = 0) && !s.testOnDie d then
      s.beginRejoin d
    else s) s

/-- The units of die `d`, as mode epochs number them. -/
def dieUnits (d : Nat) : List Nat := (List.range 8).map (fun w => 8 * d + w) ++ (List.range 64).map fun r => 32 + 64 * d + r

/-- A rejoin ends: hallways to running dies are up, the stacks are scrubbed where they must be, self-tests give
SUSPECT, the units take the suite's epoch, and the die is UP; a level
source of its Breaker that still holds reports again (R417). -/
def State.rejoined (s : State) (d : Nat) (fails : BitVec 64) : State :=
  let s := each (hallsOf d) (fun n s =>
    if (hallEnds n).all (fun e => e = d || s.dieUp e) && !s.ringFailed n then s.setHall n 2 else s) s
  let s := each [3 * d, 3 * d + 1, 3 * d + 2] (fun j s =>
    if (s.stack j).scrubbing then s.scrubStack j else s) s
  let s := s.setEnt 0x1100 (0x13 + 0x10 * d) fails.toNat
  let s := s.setDie d { s.die d with forced := false, beatAt := s.house, skipAt := s.house }
  let s := s.setEnt 0x1100 (0x12 + 0x10 * d) 0
  let s := each (dieUnits d) (fun u s => s.startUnit u) s
  let s := s.setCarith d (s.fleetOf (s.suiteOfDie d)).freq
  let s := s.reportLevels d 3
  (s.incEnt 0x1100 3 1).raise 0x1100 3 0 ((s.ent 0x1100 3 + 1) % 2 ^ 32)

/-- Whether the rejoin of a die can end: a scrub that it needs is held while its stack is in CRITICAL (R222). -/
def State.mayRejoin (s : State) (d : Nat) : Bool :=
  decide (s.dieState d = 3) && !([3 * d, 3 * d + 1, 3 * d + 2].any fun j => (s.stack j).scrubbing && s.critical j)


/-! ### Rooms (R410) -/

/-- Whether a reset of a room is refused BUSY. -/
def State.roomBusy (s : State) (g : Nat) : Bool :=
  let r := s.room g
  !s.dieUp (g / 64) || !r.mq.isEmpty || !r.vq.isEmpty || !r.cq.isEmpty

/-- A room is reset, and its self-test begins; the Larder keeps its contents. -/
def State.resetRoom (s : State) (g : Nat) : State :=
  let s := s.shelfClear g
  let r := s.room g
  s.setRoom g { r with slot0 := .reset, slot1 := .reset, bank0 := .reset, bank1 := .reset, bank2 := .reset, bank3 := .reset, port := [], utlb := [], testing := true }

/-- A request for the reset of rooms: all of them, or none. -/
def State.askRooms (s : State) (gs : List Nat) : Answered × State :=
  if gs.any fun g => s.roomBusy g then (.busy, s) else (.ok, each gs (fun g s => s.resetRoom g) s)

/-- ROOM_RESET. -/
def execRoomReset (g : Nat) (s : State) : Host.Outcome State Fault Refusal :=
  act (decide (g < 256)) (fun s => if s.firmware then (s.askRooms [g]).2 else s) s

/-- A room's self-test ends: SUSPECT is set or cleared, the room takes its suite's applied epoch (R385), and its
engines start what waits. -/
def State.roomTested (s : State) (g : Nat) (pass : Bool) : State :=
  if !(s.room g).testing then s
  else
    let s := s.setRoom g { s.room g with testing := false }
    let k := 0x13 + 0x10 * (g / 64)
    (s.setEnt 0x1100 k (putFld (s.ent 0x1100 k) (g % 64) (g % 64) (b2n !pass))).startUnit (32 + g)

/-- ROOM_SELF_TEST_DONE. -/
def execRoomSelfTestDone (g : Nat) (pass : Bool) (s : State) : Host.Outcome State Fault Refusal :=
  act (decide (g < 256)) (fun s => s.roomTested g pass) s

end Sys2Proof.Machine
end

