-- ==== Sys2Proof/Machine/DictOps.lean ====
section
/-! DEFINITION. What an entry of the object dictionary reads, and what a write to it does (R360 to R363): the checks in
the order of Table 14.8, and the effect of each entry as its own rule gives it. -/

namespace Sys2Proof.Machine

/-! ### Reading (R361, R362) -/

/-- The suite that an entry of 0x1100 belongs to, and its field. -/
def geoSuite (k : Nat) : Nat × Nat := ((k - 0x50) / 16, k % 16)

/-- A suite's fields of the geometry table (Table 1.8); 0 for a suite that the layout does not use. -/
def State.geoField (s : State) (i f : Nat) : Nat :=
  if suiteCount s.layout ≤ i then 0
  else
    let ds := suiteDies s.layout i
    let n := ds.length
    let first := ds.headD 0
    match f with
    | 0 => maskOf ds
    | 1 => 64 * n
    | 2 => 8 * n
    | 3 => 1572864
    | 4 => 131072
    | 5 => 6291456
    | 6 => 3 * n
    | 7 => 3 * first
    | 8 => (3 * first + 1) * 2 ^ 36
    | 9 => (3 * first + 3 * n + 1) * 2 ^ 36 - 1
    | 10 => 128
    | 11 => 4096
    | 12 => 512
    | 13 => s.levelOf i
    | _ => (s.suiteCtxs i).length

/-- Whole milliseconds since a time, where there is one. -/
def State.msSince (s : State) (t : Option Nat) : Nat :=
  match t with
  | some a => min (2 ^ 32 - 1) ((s.house - a) / 1000000)
  | none => 0

/-- A job slot as 0x6100 to 0x6103 show it: its job energy, or its Hearth energy. -/
def State.slotEntry (s : State) (n : Nat) (hearth : Bool) : Nat :=
  match s.ctl.slots.find? fun e => e.1 = n with
  | some e => slotWord e.2.1 (if hearth then e.2.2.2 else e.2.2.1)
  | none => 0

/-- Whether a clock domain is stopped (R23, Table 1.9): only the Porch's runs before the rails are up; a die whose clock has
stopped has CARITH and CFAB stopped until it rejoins. -/
def State.stopped (s : State) (n : Nat) : Bool :=
  if n = 0 then false
  else !s.on ||
    (if 9 ≤ n ∧ n ≤ 12 then (s.die (n - 9)).stopped
     else if 13 ≤ n ∧ n ≤ 16 then (s.die (n - 13)).stopped else false)

/-- What a numeric entry reads: values that the module computes, and the stored value of every other entry. -/
def State.entNow (s : State) (i k : Nat) : Nat :=
  if i = 0x1000 ∧ k = 4 then fieldOf s.deed 0x18 8
  else if i = 0x1000 ∧ k = 5 then Config.romVersion.toNat
  else if i = 0x1100 ∧ k = 2 then suiteCount s.layout
  else if i = 0x1110 ∧ s.stopped (k - 1) then 0
  else if i = 0x1100 ∧ k = 4 then s.pkgLevel
  else if i = 0x1100 ∧ k = 6 then maskOf ([0, 1, 2, 3].filter fun d => s.dieUp d)
  else if i = 0x1100 ∧ 0x50 ≤ k then s.geoField (geoSuite k).1 (geoSuite k).2
  else if i = 0x2010 then s.railMv (k - 1)
  else if i = 0x2012 then tget 0 s.ctl.railE (k - 1) / 100000000
  else if i = 0x2202 then s.msSince (s.die (k - 1)).critAt
  else if i = 0x3012 then s.msSince (s.stack (k - 1)).critAt
  else if i = 0x3103 then s.frameCount (k - 1)
  else if i = 0x3120 then s.charged (k - 1)
  else if i = 0x3121 then s.charged (k + 127)
  else if i = 0x3130 ∧ k = 6 then s.enduranceUsed
  else if i = 0x6110 then f32Ratio (lget 0 s.coefs (k - 1)) (2 ^ 32)
  else if i = 0x5300 ∧ k = 1 then s.porch.log.length
  else if i = 0x6010 ∧ k = 2 then s.houseEnergy
  else if i = 0x6100 then s.slotEntry (k - 1) false
  else if i = 0x6101 then s.slotEntry (k + 127) false
  else if i = 0x6102 then s.slotEntry (k - 1) true
  else if i = 0x6103 then s.slotEntry (k + 127) true
  else if i = 0x7000 ∧ k = 1 then (s.mgmt.sessions.filter fun x => x.open_).length
  else s.ent i k

/-- What a STR or BLOB entry reads. -/
def State.blobNow (s : State) (i k : Nat) : Bytes :=
  if i = 0x1000 ∧ k = 1 then s.serial.takeWhile fun b => b ≠ 0
  else if i = 0x1000 ∧ k = 2 then s.idKey
  else if i = 0x1000 ∧ k = 3 then slice s.deed 0x860 (min 1024 (fieldOf s.deed 0x58 2))
  else if i = 0x4012 then s.linkLocal (k - 1)
  else if i = 0x4400 ∧ k = 8 then s.linkLocal 0x10
  else if i = 0x5300 ∧ k = 5 then s.porch.log.flatMap fun e => e.flatMap fun w => toBytes 8 w.toNat
  else s.blob i k

/-- Whether an entry reads as 0 or as empty: WO entries, and the test area outside test state (R361, R362). -/
def State.readsBlank (s : State) (r : DRow) (i k : Nat) : Bool :=
  decide (r.acc = .wo) || (decide (0xA000 ≤ i) && !s.inTest && !(i = 0xA000 && k ≤ 1))

/-- The value of entry `i.k` as bytes. -/
def State.readEntry (s : State) (r : DRow) (i k : Nat) : Bytes × State :=
  if s.readsBlank r i k then (List.replicate r.ty.size 0#8, s)
  else if r.ty.isBytes then (s.blobNow i k, s)
  else if k = 0 then (toBytes r.ty.size r.d, s)
  else (toBytes r.ty.size (s.entNow i k), s)

/-! ### Checking a write (R361, R362) -/

/-- The code of an answer (Table 14.8). -/
def Answered.code : Answered → Nat
  | .ok => 0 | .access => 2 | .range => 3 | .notQuiescent => 4 | .busy => 8

/-- A context state's answer, and the tier range's: what is busy is not quiescent (R242, R263, R269). -/
def CtxAnswer.answered : CtxAnswer → Answered
  | .ok => .ok | .range => .range | .busy => .notQuiescent
/-- The answer to a write of 0x3100.02. -/
def TierAnswer.answered : TierAnswer → Answered
  | .ok => .ok | .range => .range | .busy => .notQuiescent

/-- Whether a length is one that a STR or BLOB entry takes: within its bounds; keys have 32 bytes or none. -/
def lengthOk (r : DRow) (i k n : Nat) : Bool :=
  decide (n ≤ r.hi) && (!(i = 0x7010 || (i = 0x4010 && k = 1)) || n = 0 || n = 32)

/-- Whether a number lies in the range of its entry. -/
def State.rangeOk (s : State) (r : DRow) (i k v : Nat) : Bool :=
  if i = 0x8010 then decide (-512 ≤ toSigned 32 v) && decide (toSigned 32 v ≤ 511)
  else if i = 0x2101 then decide (r.lo ≤ v) && decide (v ≤ r.hi) && v % 25 = 0
  else if i = 0x6010 ∧ k = 6 then decide (0x3F000000 ≤ v) && decide (v ≤ 0x41200000)
  else if i = 0x3100 ∧ k = 5 then decide (s.ent 0x3100 4 ≤ v)
  else if i = 0x4420 ∧ k = 1 then v = 0 || (decide (16 ≤ v) && decide (v ≤ 63))
  else if i = 0x4420 ∧ k = 4 then v = v % 0x800 / 2 * 2
  else if i = 0x6000 ∧ k = 1 then v % 64 = 0 && (v = 0 || decide (regionOf v = .host))
  else if 0x8110 ≤ i ∧ i ≤ 0x8113 ∧ k = 1 then v % 64 = 0
  else if 0x8110 ≤ i ∧ i ≤ 0x8113 ∧ k = 8 then v = 0 || (v = 1 && s.ringOk (i - 0x8110))
  else if i = 0x8100 ∧ k = 1 then v % 4096 = 0
  else if i = 0x8130 then decide (12 ≤ v % 64) && decide (v % 64 ≤ 30)
  else decide (r.lo ≤ v) && decide (v ≤ r.hi)

/-- Whether some work queue or Hatch is in compatible ordering (R293). -/
def State.compatHeld (s : State) : Bool :=
  s.regs.any (fun e => match regDesc e.1 with
    | some _ => (decide (e.1 < 0x40000000) && decide (e.1 % 0x01000000 / 0x2000 = 0x810000 / 0x2000) && e.1 % 0x40 = 0x30 && bitOf e.2.toNat 49) ||
        (decide (0x43000000 ≤ e.1) && decide (e.1 < 0x43010000) && e.1 % 0x1000 = 0x08 && bitOf e.2.toNat 9)
    | none => false)

/-- Whether the quiescent condition of an RWQ entry holds; 0x4310.01 and 0x8000.01 are judged with their effect. -/
def State.quiet (s : State) (i k : Nat) : Bool :=
  if i = 0x3016 then s.mayScrub (k - 1)
  else if i = 0x3100 ∨ i = 0x3101 ∨ i = 0x3102 then s.tierState = 0
  else if i = 0x6000 then s.ent 0x6000 7 = 0
  else if 0x8110 ≤ i ∧ i ≤ 0x8113 then s.ent i 8 = 0
  else if i = 0x8130 then !s.compatHeld
  else if i = 0x4310 ∨ i = 0x8000 then true
  else s.liveCtxs.isEmpty

/-! ### The effect of a write -/

/-- A number stored in an entry that has no other effect. -/
def State.plain (s : State) (i k v : Nat) : Answered × State := (.ok, s.setEnt i k v)

/-- A fleet job is set or cleared: what was known of the former job is gone (R341). -/
def State.setJob (s : State) (i v : Nat) : State :=
  if s.ent 0x2100 (i + 1) = v then s
  else
    let f := s.fleetOf i
    let s := s.setFleet i { f with due := f.due.filter (fun x => x.2.1 ≠ 0x2101 || v = 0), byStep := none, start := 0, reported := none, clean := 0, held := none, heldDue := none, reports := [], lagging := [], calm := 0 }
    (s.setEnt 0x2100 (i + 1) v).setEnt 0x2106 (i + 1) 0

/-- Writes to power, fleet and Hearth settings (R337, R341, R352). -/
def State.writePower (s : State) (i k v : Nat) : Answered × State :=
  match i with
  | 0x2100 => (.ok, s.setJob (k - 1) v)
  | 0x2101 => if s.ent 0x2100 k ≠ 0 then (.range, s) else (.ok, (s.setEnt i k v).stageFreq (k - 1) i)
  | 0x2102 => (.ok, (s.setEnt i k v).stageFreq (k - 1) i)
  | 0x2103 => (.ok, (s.setEnt i k v).stageFreq (k - 1) i)
  | 0x2300 =>
    let s := s.setEnt i k v
    (.ok, if k = 6 ∧ v = 0 then s.hearthRamps else s)
  | _ => s.plain i k v

/-- Writes to stack and tier entries (R219, R242, R263, R307). -/
def State.writeStack (s : State) (i k v : Nat) : Answered × State :=
  match i with
  | 0x3016 => (.ok, if v = 1 then s.beginScrub (k - 1) else s)
  | 0x3019 => if v = 0 then s.adopt (k - 1) else s.plain i k v
  | 0x3100 =>
    if k = 2 then
      let r := if v = 1 then s.tierStart else s.tierStop
      (r.1.answered, r.2)
    else s.plain i k v
  | _ => s.plain i k v

/-- Writes to fabric, step and event entries (R310, R328, R384). -/
def State.writeFabric (s : State) (i k v : Nat) : Answered × State :=
  match i with
  | 0x4000 => (.ok, s.portMode (k - 1) v)
  | 0x4300 =>
    let s := s.setEnt i k v
    (.ok, if k = 3 then (if v = 0 then s.setEnt i 1 0 else if s.ent i 1 = 0 then s.setEnt i 1 1 else s) else s)
  | 0x4310 =>
    if k = 1 then s.writeStepLen v
    else
      let s := s.setEnt i k v
      (.ok, if k = 8 ∧ v = 0 then s.setEnt i 3 0 else s)
  | _ => s.plain i k v

/-- Writes to fault and ledger entries (R306, R357, R358, R421, R422). -/
def State.writeFaults (s : State) (i k v : Nat) : Answered × State :=
  match i with
  | 0x5000 => (.ok, s.clearBstat (k - 1) (v % 32))
  | 0x5020 => (.ok, if v = 1 then s.clearC4 else s)
  | 0x5300 => (.ok, if v = 1 then { s with porch := { s.porch with log := [] } } else s)
  | 0x6000 =>
    if k = 7 ∧ v = 1 ∧ s.ent 0x6000 7 = 0 then (.ok, ((s.setEnt i 7 1).setEnt i 4 0).setCtl { s.ctl with lphase := true })
    else s.plain i k v
  | 0x6100 => (.ok, s.freeSlot (k - 1))
  | 0x6101 => (.ok, s.freeSlot (k + 127))
  | _ => s.plain i k v

/-- A write of a context's state (R269). -/
def State.writeCtxState (s : State) (c v : Nat) : Answered × State :=
  let r := if v = 0 then s.freeCtx c else if v = 1 then s.activate c else s.killCtx c
  (r.1.answered, r.2)

/-- Writes to layout, epoch, context and fault ring entries (R20, R269, R279, R280, R386, R387). -/
def State.writeSuite (s : State) (i k v : Nat) : Answered × State :=
  match i with
  | 0x8000 => s.writeLayout v
  | 0x8101 => s.writeCtxState (k - 1) v
  | 0x8102 => s.writeCtxState (k + 127) v
  | 0x8130 => s.plain i k (fld v 63 63 * 2 ^ 63 + fld v 55 12 * 2 ^ 12 + fld v 5 0)
  | _ =>
    if 0x8030 ≤ i ∧ i ≤ 0x8033 then
      if k = 4 then s.stageEpoch (i - 0x8030) v
      else if k = 5 then s.commitEpoch (i - 0x8030) v
      else s.cancelEpoch (i - 0x8030) v
    else if 0x8110 ≤ i ∧ i ≤ 0x8113 then
      if k = 7 then
        let fid := BitVec.ofNat 32 v
        (.ok, if fld v 63 62 = 1 then s.resumeFault (i - 0x8110) fid
          else if fld v 63 62 = 2 then s.cancelFault (i - 0x8110) fid else s)
      else if k = 8 ∧ v = 1 then (.ok, s.enableRing (i - 0x8110))
      else s.plain i k v
    else s.plain i k v

/-- Writes to the reset entries (R405 to R407, R410). -/
def State.writeReset (s : State) (i k v : Nat) : Answered × State :=
  match i with
  | 0x9000 => (.ok, if v = 1 then s.moduleReset else s)
  | 0x9020 =>
    if k ≤ 4 then (if v = 1 then (.ok, s.forcedReset (k - 1)) else s.askDrain (k - 1))
    else if v = 1 then s.askSuiteReset (k - 5) else s.askSuiteDrain (k - 5)
  | 0x9022 => s.askRooms ((bitsOf 64 v).map fun r => 64 * (k - 1) + r)
  | _ => s.plain i k v

/-- Writes to the test area (R430, R433, R436), on a path and session. -/
def State.writeTest (s : State) (path : Path) (sess i k v : Nat) : Answered × State :=
  match i with
  | 0xA000 =>
    if k = 2 then (if v = 1 then s.askTest path sess else (.ok, s)) else s.plain i k v
  | 0xA100 =>
    if k = 5 then (if v = 1 then s.startTest else (.ok, s))
    else if s.ent 0xA100 6 = 1 then (.busy, s) else s.plain i k v
  | _ =>
    if k = 8 then (if v = 1 then s.startRepair (s.ent 0xA300 6) else (.ok, s)) else s.plain i k v

/-- What a write that has passed its checks does, or how its unit refuses it. -/
def State.applyEntry (s : State) (path : Path) (sess i k v : Nat) : Answered × State :=
  match i / 0x1000 with
  | 2 => s.writePower i k v
  | 3 => s.writeStack i k v
  | 4 => s.writeFabric i k v
  | 5 => s.writeFaults i k v
  | 6 => s.writeFaults i k v
  | 8 => s.writeSuite i k v
  | 9 => s.writeReset i k v
  | 10 => s.writeTest path sess i k v
  | _ => s.plain i k v

/-- A write of bytes of type `ity` to entry `i.k`: its status (Table 14.8), and the state after it; refused, it
leaves no more than the reason of a refused activation. -/
def State.writeEntry (s : State) (path : Path) (sess i k ity : Nat) (bytes : Bytes) : Nat × State :=
  match dictEntry i k with
  | none => (1, s)
  | some r =>
    if 0xA000 ≤ i ∧ !s.inTest ∧ !(i = 0xA000 ∧ (k = 1 ∨ k = 2)) then (6, s)
    else if r.acc = .ro ∨ r.acc = .const then (2, s)
    else if ity ≠ r.ty.code then (5, s)
    else if r.ty.isBytes then
      if lengthOk r i k bytes.length then (0, s.setBlob i k bytes) else (5, s)
    else if bytes.length ≠ r.ty.size then (5, s)
    else
      let v := ofBytes bytes
      if !s.rangeOk r i k v then (3, s)
      else if r.acc = .rwq ∧ !s.quiet i k then (4, s)
      else
        let a := s.applyEntry path sess i k v
        (a.1.code, if a.1 = .ok then a.2 else if i = 0x8101 ∨ i = 0x8102 then s.keepReason a.2 else s)

end Sys2Proof.Machine
end

