-- ==== Sys2Proof/Machine/MsgCmds.lean ====
section
/-! DEFINITION. Dictionary messages on their three paths (R363, R365 to R372), the segment (R373 to R376) and events
(R378). -/

namespace Sys2Proof.Machine

/-! ### Bytes of a message (Tables 14.3 and 14.6) -/

/-- Zeros up to a multiple of 8 bytes. -/
def pad8 (b : Bytes) : Bytes := b ++ List.replicate ((8 - b.length % 8) % 8) 0#8

/-- One item. -/
def itemBytes (i k ity len status flags : Nat) (v : Bytes) : Bytes :=
  toBytes 2 i ++ toBytes 1 k ++ toBytes 1 ity ++ toBytes 2 len ++ toBytes 1 status ++ toBytes 1 flags ++ pad8 v

/-- The largest message of a path (Table 14.4). -/
def pathMax : Path → Nat
  | .letterbox => 64
  | _ => 1232

/-- Bytes of the tag that a message of a session ends with. -/
def tagBytes (session : Nat) : Nat := if session = 0 then 0 else 32

/-! ### Letterboxes as a path (R372) -/

/-- The Scullery core that writes letterboxes. -/
def sculleryAgent : Nat := (agentNo 4 0x18 0).toNat

/-- The Scullery wins letterbox `m`'s lock, writes a message and sets GO; nothing where the lock is held. -/
def State.postBox (s : State) (m : Nat) (b : Bytes) : Option State :=
  if s.boxOwner m ≠ 0 then none
  else
    let s := (s.lockRead m sculleryAgent).2
    let ws := chunks 8 8 b
    let s := each (List.range ws.length) (fun i s => s.setReg (paBox m (8 * i)) (BitVec.ofNat 64 (ofBytes (lget [] ws i)))) s
    let s := s.setRegF (paBox m 0x48) 4 0 (max 8 ((b.length + 3) / 4))
    some (s.boxPost m sculleryAgent)

/-- A message for letterbox `m`: posted, or kept until the lock is won. -/
def State.sendBox (s : State) (m : Nat) (b : Bytes) : State :=
  match s.postBox m b with
  | some s => s
  | none => { s with mgmt := { s.mgmt with replies := s.mgmt.replies ++ [(m, b)] } }

/-- Every reply that waits is tried again, oldest first. -/
def State.pumpReplies (s : State) : State :=
  let l := s.mgmt.replies
  each l (fun x s => s.sendBox x.1 x.2) { s with mgmt := { s.mgmt with replies := [] } }

/-- The oldest pending event for the host is tried. -/
def State.pumpHostEvent (s : State) : State :=
  match tget [] s.mgmt.events 2 with
  | [] => s
  | r :: rest =>
    let m := s.ent 0x4420 1
    if m < 16 then s
    else match s.postBox m (msgBytes 2 0x08 s.mgmt.sendSeq 0 0 0 0 (eventBytes r)) with
      | none => s
      | some s => { s with mgmt := { s.mgmt with sendSeq := s.mgmt.sendSeq + 1, events := tset 2 rest s.mgmt.events } }

/-- REPLY_LOCK_RETRY. -/
def execReplyLockRetry (s : State) : Host.Outcome State Fault Refusal :=
  act true (fun s => if s.firmware then s.pumpReplies.pumpHostEvent else s) s

/-! ### Answers (R366, R370, R371) -/

/-- The last 64 answers of a path and session, with one more. -/
def keepAnswer (a : Answer) (l : List Answer) : List Answer :=
  let mine := (l.filter fun x => x.who = a.who && x.sess = a.sess).take 63
  a :: mine ++ l.filter fun x => !(x.who = a.who && x.sess = a.sess)

/-- The key of a session. -/
def State.sessionKey (s : State) (n : Nat) : Bytes :=
  match s.mgmt.sessions.find? fun x => x.n = n with
  | some x => x.key
  | none => []

/-- A RESPONSE goes the way its request came. -/
def State.sendResponse (s : State) (p : Path) (b : Bytes) : State :=
  match p with
  | .gloing m => s.sendModule m b
  | p => s.emit (.response p b)

/-- The RESPONSE to a message. -/
def State.respond (s : State) (m : DictMsg) (op status : Nat) (body : Bytes) : State :=
  let b := msgBytes 1 op m.seq m.session 0 (if m.path = .letterbox then m.reply else 0) status body
  match m.path with
  | .letterbox => if 16 ≤ m.reply ∧ m.reply ≤ 63 then s.sendBox m.reply b else s
  | p =>
    let b := if m.session = 0 then b else b ++ Config.hmac512t (s.sessionKey m.session) b
    ({ s with mgmt := { s.mgmt with answers := keepAnswer ⟨p, m.session, m.seq, b⟩ s.mgmt.answers } } : State).sendResponse p b

/-! ### READ, WRITE and their segments (R363, R367, R368) -/

/-- One item of a READ: its status, its bytes, and the state after a measured value was drawn. -/
def State.readItem (s : State) (x : DictItem) : (Nat × Bytes) × State :=
  match dictEntry x.index x.sub with
  | none => ((1, itemBytes x.index x.sub 0 0 1 0 []), s)
  | some r =>
    let v := s.readEntry r x.index x.sub
    ((0, itemBytes x.index x.sub r.ty.code v.1.length 0 0 v.1), v.2)

/-- The first status that is not OK. -/
def firstFail (l : List Nat) : Nat := (l.find? fun x => x ≠ 0).getD 0

/-- READ: status and body of the answer. -/
def State.doRead (s : State) (m : DictMsg) : (Nat × Bytes) × State :=
  let r := m.items.foldl (fun (acc : List (Nat × Bytes) × State) x =>
    let v := acc.2.readItem x
    (acc.1 ++ [v.1], v.2)) ([], s)
  let body := r.1.flatMap fun x => x.2
  if pathMax m.path < 16 + body.length + tagBytes m.session then ((0x0B, []), r.2)
  else ((firstFail (r.1.map fun x => x.1), body), r.2)

/-- The statuses of a WRITE's items, each checked against what the earlier ones leave, and the state that they leave
together. -/
def State.checkItems (s : State) (m : DictMsg) : List Nat × State :=
  m.items.foldl (fun (acc : List Nat × State) x =>
    let r := acc.2.writeEntry m.path m.session x.index x.sub x.ity.toNat x.value
    (acc.1 ++ [r.1], r.2)) ([], s)

/-- WRITE: wholly applied, or not at all; a refused activation leaves its reason (R268). -/
def State.doWrite (s : State) (m : DictMsg) : (Nat × Bytes) × State :=
  let r := s.checkItems m
  let st := firstFail r.1
  let body := (m.items.zip r.1).flatMap fun x => itemBytes x.1.index x.1.sub x.1.ity.toNat 0 x.2 0 []
  ((st, body), if st = 0 then r.2 else s.keepReason r.2)

/-- Bytes of data that a segment on a path holds at most. -/
def segMax (m : DictMsg) : Nat := pathMax m.path - 32 - tagBytes m.session

/-- READ_SEG: the bytes from OFFSET on. -/
def State.doReadSeg (s : State) (m : DictMsg) (x : DictItem) : (Nat × Bytes) × State :=
  match dictEntry x.index x.sub with
  | none => ((1, itemBytes x.index x.sub 0 0 1 0 []), s)
  | some r =>
    if !r.ty.isBytes then ((5, itemBytes x.index x.sub r.ty.code 0 5 0 []), s)
    else
      let v := slice (s.readEntry r x.index x.sub).1 m.offset (min x.len (segMax m))
      ((0, itemBytes x.index x.sub r.ty.code v.length 0 0 (toBytes 8 m.offset ++ v)), s)

/-- The segments collected on a path and session. -/
def State.seg (s : State) (m : DictMsg) : Bytes :=
  match s.mgmt.segs.find? fun e => e.1 = m.path && e.2.1 = m.session with
  | some e => e.2.2
  | none => []
/-- The segments collected on a path and session as given. -/
def State.setSeg (s : State) (m : DictMsg) (b : Bytes) : State :=
  let l := s.mgmt.segs.filter fun e => !(e.1 = m.path && e.2.1 = m.session)
  { s with mgmt := { s.mgmt with segs := if b = [] then l else (m.path, m.session, b) :: l } }

/-- WRITE_SEG: a segment is appended, and a final one writes the value. -/
def State.doWriteSeg (s : State) (m : DictMsg) (x : DictItem) : (Nat × Bytes) × State :=
  let old := s.seg m
  let answer := fun st => (st, itemBytes x.index x.sub x.ity.toNat 0 st 0 [])
  if m.offset ≠ old.length then (answer 3, s.setSeg m [])
  else
    let b := old ++ x.value
    if bitOf x.flags.toNat 0 then
      let r := (s.setSeg m []).writeEntry m.path m.session x.index x.sub x.ity.toNat b
      (answer r.1, r.2)
    else (answer 0, s.setSeg m b)

/-- Whether the body of a REQUEST has the form of its operation. -/
def bodyOk (op : Nat) (m : DictMsg) : Bool :=
  match op with
  | 1 => m.items.all fun x => x.len = 0
  | 2 => m.items.all fun x => x.len = x.value.length
  | 3 => m.items.length = 1
  | _ => m.items.length = 1 && m.items.all fun x => x.len = x.value.length && decide (x.len ≤ segMax m)

/-- A REQUEST is performed by this module: status and body of the answer. -/
def State.perform (s : State) (op : Nat) (m : DictMsg) : (Nat × Bytes) × State :=
  match op, m.items with
  | 1, _ => s.doRead m
  | 2, _ => s.doWrite m
  | 3, x :: _ => s.doReadSeg m x
  | _, x :: _ => s.doWriteSeg m x
  | _, [] => ((9, []), s)

/-! ### Relays (R376) -/

/-- State of node `n` of the segment: 0 ABSENT, 1 PRESENT, 2 LOST. -/
def State.nodeState (s : State) (n : Nat) : Nat := fld (s.ent 0x4404 (n + 1)) 63 62
/-- The nodes that are PRESENT. -/
def State.presentNodes (s : State) : List Nat := (List.range 64).filter fun n => s.nodeState n = 1

/-- A message is sent on and awaits answers. -/
def State.relay (s : State) (op : Nat) (m : DictMsg) (nodes : List Nat) (all : Bool) (worst : Nat) : State :=
  let s := { s with mgmt := { s.mgmt with outgoing := s.mgmt.outgoing ++ [(⟨m.seq, 1, Sent.relay op m nodes all worst⟩ : Outgoing)] } }
  s.emit (.relayed (if all then none else nodes.head?) op m)

/-- Whether a message with this SEQ from the same requester is being relayed. -/
def State.relaying (s : State) (m : DictMsg) : Bool :=
  s.mgmt.outgoing.any fun o => match o.what with
    | .relay _ k _ _ _ => o.seq = m.seq && k.path = m.path && k.session = m.session
    | _ => false

/-- A well-formed and permitted REQUEST goes where its TARGET says. -/
def State.route (s : State) (op : Nat) (m : DictMsg) : State :=
  if m.target = 0 ∨ m.target = 0x100 + s.ent 0x4400 2 then
    let r := s.perform op m
    if r.2.firmware then r.2.respond m op r.1.1 r.1.2 else r.2
  else if s.relaying m then s
  else if !s.manager then s.respond m op 0x0A []
  else if m.target = 0xFFFF then
    let r := s.perform op m
    let l := r.2.presentNodes
    if l = [] then r.2.respond m op r.1.1 [] else r.2.relay op m l true r.1.1
  else if 0x100 ≤ m.target ∧ m.target < 0x140 ∧ s.nodeState (m.target - 0x100) = 1 then
    s.relay op m [m.target - 0x100] false 0
  else s.respond m op 0x0A []

/-! ### A REQUEST arrives -/

/-- What may be read without a session (R370). -/
def openItem (x : DictItem) : Bool :=
  (decide (0x1000 ≤ x.index) && decide (x.index < 0x2000)) || (decide (0x4000 ≤ x.index) && decide (x.index < 0x5000))

/-- A REQUEST that its session's checks have let through. -/
def State.answerMsg (s : State) (op : Nat) (m : DictMsg) : State :=
  if m.ver ≠ 1 ∨ m.kind ≠ 0 ∨ !m.formOk ∨ !bodyOk op m ∨ (m.path = .letterbox ∧ m.session ≠ 0) then
    if m.kind = 1 then s else s.respond m op 9 []
  else if m.path ≠ .letterbox ∧ m.session = 0 ∧ !(op = 1 ∧ m.items.all openItem) then s.respond m op 7 []
  else s.route op m

/-- The ROM's answer on the field network: READs of 0x1000 and 0x1010, and BUSY to the rest (R392). -/
def State.romAnswer (s : State) (op : Nat) (m : DictMsg) : State :=
  if !s.on || !(s.porch.boot = .identity || s.porch.boot = .role || s.porch.boot = .accepted) then s
  else if m.ver = 1 ∧ m.kind = 0 ∧ m.formOk ∧ bodyOk op m ∧ op = 1 ∧ m.session = 0 ∧ (m.items.all fun x => x.index = 0x1000 || x.index = 0x1010) then
    let r := s.doRead m
    r.2.respond m op r.1.1 r.1.2
  else if m.kind = 1 then s else s.respond m op 8 []

/-- The answer kept for a repeat. -/
def State.kept (s : State) (m : DictMsg) : Option Answer :=
  s.mgmt.answers.find? fun a => a.who = m.path && a.sess = m.session && a.seq = m.seq

/-- A REQUEST of the field network or of Gloing meets the checks of its session (R370, R371). -/
def State.checkSession (s : State) (op : Nat) (m : DictMsg) : State :=
  if m.session = 0 then
    match s.kept m with
    | some a => s.sendResponse m.path a.bytes
    | none => s.answerMsg op m
  else match s.session m.path m.session with
    | none => s
    | some x =>
      if m.tag ≠ Config.hmac512t x.key m.raw then s
      else
        let put := fun (s : State) (h : Nat) => ({ s with mgmt := { s.mgmt with
          sessions := s.mgmt.sessions.map fun (y : Session) => if y.n = x.n then { y with high := h, last := s.house } else y } } : State)
        match s.kept m with
        | some a => (put s x.high).sendResponse m.path a.bytes
        | none => if m.seq < x.high then s else (put s (m.seq + 1)).answerMsg op m

/-- A REQUEST arrives. -/
def State.request (s : State) (op : Nat) (m : DictMsg) : State :=
  match m.path with
  | .letterbox => if s.firmware then s.answerMsg op m else s
  | .field _ =>
    if !s.firmware then s.romAnswer op m
    else if s.ent 0x4400 1 = 3 then s
    else s.checkSession op m
  | .gloing _ => if s.firmware then s.checkSession op m else s

/-- READ. -/
def execRead (m : DictMsg) (s : State) : Host.Outcome State Fault Refusal := act true (fun s => s.request 1 m) s
/-- WRITE. -/
def execWrite (m : DictMsg) (s : State) : Host.Outcome State Fault Refusal := act true (fun s => s.request 2 m) s
/-- READ_SEG. -/
def execReadSeg (m : DictMsg) (s : State) : Host.Outcome State Fault Refusal := act true (fun s => s.request 3 m) s
/-- WRITE_SEG. -/
def execWriteSeg (m : DictMsg) (s : State) : Host.Outcome State Fault Refusal := act true (fun s => s.request 4 m) s

/-! ### Retries and RESPONSEs (R371, R376) -/

/-- Event record `r` is no longer pending for destination `d`. -/
def State.dropEvent (s : State) (d : Nat) (r : EventRec) : State :=
  { s with mgmt := { s.mgmt with events := tset d ((tget [] s.mgmt.events d).erase r) s.mgmt.events } }

/-- What the module sent, and awaits no longer. -/
def State.dropSent (s : State) (o : Outgoing) : State :=
  { s with mgmt := { s.mgmt with outgoing := s.mgmt.outgoing.erase o } }
/-- What the module sent, changed. -/
def State.putSent (s : State) (o o' : Outgoing) : State :=
  { s with mgmt := { s.mgmt with outgoing := s.mgmt.outgoing.map fun x => if x = o then o' else x } }

/-- Sent again with the same SEQ, up to 5 times in all; then given up. -/
def State.retry (s : State) (o : Outgoing) : State :=
  match o.what with
  | .event d r => if o.tries < 5 then (s.putSent o { o with tries := o.tries + 1 }).sendEvent o.seq d r else (s.dropSent o).dropEvent d r
  | .relay op m nodes all worst =>
    if o.tries < 5 then
      each (nodes.filter fun n => !all || s.nodeState n = 1) (fun n s => s.emit (.relayed (some n) op m)) (s.putSent o { o with tries := o.tries + 1 })
    else (s.dropSent o).respond m op (if worst = 0 then 0x0A else worst) []

/-- Whether something sent went to every node. -/
def Sent.toAll : Sent → Bool
  | .relay _ _ _ all _ => all
  | _ => false

/-- REQUEST_RETRY. -/
def execRequestRetry (seq : Nat) (s : State) : Host.Outcome State Fault Refusal :=
  act true (fun s =>
    if s.firmware then each (s.mgmt.outgoing.filter fun o => o.seq = seq && !o.what.toAll) (fun o s => s.retry o) s else s) s
/-- RELAY_RETRY. -/
def execRelayRetry (seq : Nat) (s : State) : Host.Outcome State Fault Refusal :=
  act true (fun s =>
    if s.firmware then each (s.mgmt.outgoing.filter fun o => o.seq = seq && o.what.toAll) (fun o s => s.retry o) s else s) s

/-- Whether a RESPONSE of node `node` answers what was sent: a relayed message to it, an event to the manager (node 0),
an event to the rack controller. -/
def Sent.answeredBy (w : Sent) (node : Nat) : Bool :=
  match w with
  | .event d _ => (d = 0) = (node = 0)
  | .relay _ _ nodes _ _ => nodes.contains node

/-- A RESPONSE arrives. -/
def State.takeResponse (s : State) (seq node status : Nat) (body : Bytes) : State :=
  if !s.firmware then s
  else match s.mgmt.outgoing.find? fun o => o.seq = seq && o.what.answeredBy node with
    | none => s
    | some o =>
      match o.what with
      | .event d r => (s.dropSent o).dropEvent d r
      | .relay op m nodes all worst =>
        if all then
          let l := nodes.filter fun n => n ≠ node
          let w := if worst = 0 then status else worst
          if l = [] then (s.dropSent o).respond m op w [] else s.putSent o { o with what := .relay op m l true w }
        else (s.dropSent o).respond m op status body

/-- RESPONSE. -/
def execResponse (seq node status : Nat) (body : Bytes) (s : State) : Host.Outcome State Fault Refusal :=
  act true (fun s => s.takeResponse seq node status body) s

/-! ### Events and heartbeats (R375, R378) -/

/-- EVENT: a manager forwards its workers' events to the rack controller. -/
def execEvent (_src : Nat) (r : EventRec) (s : State) : Host.Outcome State Fault Refusal :=
  act true (fun s =>
    let s := if s.firmware && s.manager && (s.eventDests r.index).contains 1 then s.queueEvent r 1 else s
    s.ackNotice 0x08) s

/-- A heartbeat is heard: the manager records the node, a worker its manager. -/
def State.hearHeartbeat (s : State) (role node : Nat) : State :=
  if !s.firmware then s
  else if s.manager then
    if node < 64 ∧ role ≠ 1 then s.setEnt 0x4404 (node + 1) (2 ^ 62 + s.house % 2 ^ 62) else s
  else if role = 1 then { s with mgmt := { s.mgmt with mgrSeen := some s.house, mgrLost := false } }
  else s

/-- HEARTBEAT. -/
def execHeartbeat (role node _step : Nat) (_serial : Bytes) (s : State) : Host.Outcome State Fault Refusal :=
  act true (fun s => s.hearHeartbeat role node) s

/-- HEARTBEAT_TRANSMIT: the manager multicasts, and a worker that knows its manager sends to it. -/
def execHeartbeatTransmit (s : State) : Host.Outcome State Fault Refusal :=
  act true (fun s =>
    if !s.firmware then s
    else if s.manager then s.emit (.heartbeat 0xFFFF s.stepNo)
    else if s.ent 0x4400 1 ≠ 3 ∧ s.mgmt.mgrSeen.isSome then s.emit (.heartbeat 0 s.stepNo) else s) s

/-- A worker unheard for 300 ms is LOST. -/
def State.loseNode (s : State) (n : Nat) : State :=
  if !s.firmware || !s.manager || decide (s.nodeState n ≠ 1) then s
  else
    let t := s.ent 0x4404 (n + 1) % 2 ^ 62
    let s := s.advance (t + 300000000)
    let s := s.setEnt 0x4404 (n + 1) (2 ^ 63 + t)
    s.raise 0x4404 (n + 1) 4 (2 ^ 63 + t)

/-- NODE_LOST_TIMEOUT. -/
def execNodeLostTimeout (n : Nat) (s : State) : Host.Outcome State Fault Refusal :=
  act true (fun s => s.loseNode n) s

/-- A worker has not heard its manager for 300 ms: an event to its host. -/
def State.loseManager (s : State) : State :=
  match s.mgmt.mgrSeen with
  | none => s
  | some t =>
    if !s.firmware || s.manager || s.mgmt.mgrLost then s
    else
      let s := s.advance (t + 300000000)
      let n := s.mgmt.evNumber + 1
      let s := { s with mgmt := { s.mgmt with mgrLost := true, evNumber := n } }
      if (s.eventDests 0x4400).contains 2 then s.queueEvent ⟨0x4400, 1, 4, n, BitVec.ofNat 64 (s.ent 0x4400 1), s.house, s.stepNo⟩ 2
      else s

/-- MANAGER_LOST_TIMEOUT. -/
def execManagerLostTimeout (s : State) : Host.Outcome State Fault Refusal :=
  act true (fun s => s.loseManager) s

/-- PLCA_BEACON_TIMEOUT. -/
def execPlcaBeaconTimeout (s : State) : Host.Outcome State Fault Refusal :=
  act true (fun s => if s.on then s.setEnt 0x4400 7 0 else s) s
/-- PLCA_BEACON_RECEIVE. -/
def execPlcaBeaconReceive (s : State) : Host.Outcome State Fault Refusal :=
  act true (fun s => if s.on then s.setEnt 0x4400 7 1 else s) s

end Sys2Proof.Machine
end

