-- ==== Sys2Proof/Machine/RegCmds.lean ====
section
/-! DEFINITION. Control space as it is written and read (R7, R8, R29, R128, R191, R224, R287, R295, R317, R413), the
object-dictionary mirror (R30, R364), and the accesses of host cores (R27, R178, R285, R425). -/

namespace Sys2Proof.Machine

/-! ### One write of a register by its access codes (R7, R8) -/

/-- Bits that a write of `size` bytes at `pa` covers in the register it falls into, and the value in place. -/
def coverOf (pa size v : Nat) : Nat × Nat :=
  let sh := 8 * (pa % 8)
  ((2 ^ (8 * size) - 1) * 2 ^ sh, v % 2 ^ (8 * size) * 2 ^ sh)

/-- Register `pa` after a write covering bits `m` with `v`: RW bits set, W1C bits cleared, every other bit as it was. -/
def State.codeWrite (s : State) (pa m v : Nat) : State :=
  match regDesc pa with
  | none => s
  | some d =>
    let m := BitVec.ofNat 64 m
    let v := BitVec.ofNat 64 v
    s.setReg pa (((s.reg pa &&& ~~~(d.rw &&& m)) ||| (v &&& d.rw &&& m)) &&& ~~~(v &&& d.w1c &&& m))

/-- The register's value with the covered bits replaced. -/
def State.covered (s : State) (pa m v : Nat) : Nat := (s.reg pa &&& ~~~BitVec.ofNat 64 m).toNat + v

/-- A write to register `o` of queue `q` of wing `w` (R128 to R131). -/
def State.writeQueueReg (s : State) (w q o m v : Nat) : State :=
  let pa := paQueue w q o
  match o with
  | 0x10 =>
    let s := if s.qon w q then s else s.codeWrite pa (m &&& (2 ^ 64 - 1 - 2 ^ 18)) v
    if bitOf m 18 then s.orderQueue w q (bitOf v 18) else s
  | 0x28 =>
    let s := if bitOf v 1 then s.resumeQueue w q else s
    let s := if bitOf v 2 then s.resetQueue w q else s
    if bitOf v 0 then s.enableQueue w q else if bitOf m 0 then s.disableQueue (w, q) else s
  | 0x30 => s.codeWrite pa m v
  | _ => if s.qon w q then s else s.codeWrite pa m v

/-- A write to register `o` of the wing cache of wing `w` (R191 to R193). -/
def State.writeCacheReg (s : State) (w o m v : Nat) : State :=
  let pa := paCache w o
  match o with
  | 0x00 => s.wccfg w (s.covered pa m v)
  | 0x08 =>
    let s := s.codeWrite pa (m &&& (2 ^ 32 - 1)) v
    if fld v 47 32 = 0 then s else s.enableWays w (fld v 47 32)
  | 0x10 => s.wcop w (v % 4)
  | _ => s

/-- A write to register `o` of stack controller `j` (R224). -/
def State.writeStackReg (s : State) (j o m v : Nat) : State :=
  let s := s.codeWrite (paStack j o) m v
  if o = 8 then s.setEnt 0x3017 (j + 1) (s.regF (paStack j 8) 4 0) else s

/-- A write to register `o` of Breaker `b` (R420, R421, R423). -/
def State.writeBreakerReg (s : State) (b o m v : Nat) : State :=
  let pa := paBreaker b o
  if o = 0 then (s.codeWrite pa (m &&& 0x100) v).clearBstat b (v % 32)
  else if 0x100 ≤ o ∧ o < 0x200 ∧ o % 0x20 = 0 then s.writeInj b ((o - 0x100) / 0x20) (s.covered pa m v)
  else s.codeWrite pa m v

/-- A write to register `o` of HATCH[`h`] (R287). -/
def State.writeHatchReg (s : State) (h o m v : Nat) : State :=
  let pa := paHatch h o
  match o with
  | 0x00 => if s.hatchOn h then s else s.codeWrite pa m v
  | 0x08 => if s.hatchOn h then s else s.codeWrite pa m v
  | 0x20 =>
    let s := if bitOf v 1 then s.resumeHatch h else s
    let s := if bitOf v 2 then s.resetHatch h else s
    if bitOf v 0 then s.enableHatch h else if bitOf m 0 then s.disableHatch h else s
  | 0x30 => if bitOf m 0 then s.hatchDoorbell h v else s
  | _ => s.codeWrite pa m v

/-- A write to register `o` of ATOMIC[`k`] (R317). DESIGN CHOICE: GO, whose clearing the manual does not give, is never
kept: writing 1 starts the operation, and it reads 0. -/
def State.writeAtomicReg (s : State) (k o m v : Nat) : State :=
  let s := s.codeWrite (paAtomic k o) m v
  if o = 0x18 ∧ bitOf v 0 then s.goAtomic k else s

/-- A write of `size` bytes at offset `o` of letterbox `b` by an agent (R295 to R299). -/
def State.writeBoxReg (s : State) (b o size : Nat) (agent : BitVec 16) (v : Nat) : State :=
  let own := s.boxOwner b = agent.toNat && agent ≠ 0 && !s.boxGo b
  if o < 0x40 then
    if size = 4 ∧ o % 4 = 0 ∧ own then
      let c := coverOf o 4 v
      s.codeWrite (paBox b (o / 8 * 8)) c.1 c.2
    else s
  else if size ≠ 8 ∨ o % 8 ≠ 0 then s
  else
    let all := 2 ^ 64 - 1
    match o with
    | 0x40 => s.lockWrite b agent.toNat
    | 0x48 =>
      let s := if own then s.codeWrite (paBox b o) all v else s
      if bitOf v 8 then s.boxPost b agent.toNat else s
    | 0x50 =>
      let s := s.codeWrite (paBox b o) all v
      let s := if bitOf v 0 then s.boxTake b else s
      if bitOf v 5 && isScullery agent then s.resetBox b else s
    | 0x58 => if own then s.codeWrite (paBox b o) all v else s
    | 0x60 => s.codeWrite (paBox b o) all v
    | _ => if s.boxOwner b = 0 ∧ 16 ≤ b then s.codeWrite (paBox b o) all v else s

/-! ### The mirror (R30, R364) -/

/-- Whether an address lies in the mirror. -/
def inMirror (pa : Nat) : Bool := decide (0x80000000 ≤ pa) && decide (pa < 0x88000000)
/-- Index and subindex of a mirror slot. -/
def mirrorSlot (pa : Nat) : Nat × Nat := ((pa - 0x80000000) / 0x800, (pa - 0x80000000) % 0x800 / 8)

/-- What a mirror slot reads: a number, the length of a STR or BLOB entry, or 0 where there is no entry. -/
def State.mirrorRead (s : State) (pa : Nat) : BitVec 64 × State :=
  let x := mirrorSlot pa
  match dictEntry x.1 x.2 with
  | none => (0, s)
  | some r =>
    let v := s.readEntry r x.1 x.2
    (BitVec.ofNat 64 (if r.ty.isBytes then v.1.length else ofBytes v.1), v.2)

/-- MIRROR_LOAD answered by a running Scullery. -/
def State.mirrorLoad (s : State) (pa : Nat) : State :=
  if s.firmware && inMirror pa then
    let v := s.mirrorRead pa
    v.2.emit (.regRead pa v.1)
  else s

/-- A refused mirror store is recorded. -/
def State.mirrorRefuse (s : State) (i k status : Nat) : State :=
  s.setEnt 0x4410 1 (i * 2 ^ 48 + k * 2 ^ 40 + status * 2 ^ 32)

/-- MIRROR_STORE checked and performed by a running Scullery. -/
def State.mirrorStore (s : State) (pa size v : Nat) : State :=
  if s.firmware && inMirror pa then
    let x := mirrorSlot pa
    match dictEntry x.1 x.2 with
    | none => s
    | some r =>
      if size ≠ 8 ∨ pa % 8 ≠ 0 ∨ r.ty.isBytes then s.mirrorRefuse x.1 x.2 5
      else if 2 ^ (8 * r.ty.size) ≤ v then s.mirrorRefuse x.1 x.2 3
      else
        let a := s.writeEntry .letterbox 0 x.1 x.2 r.ty.code (toBytes r.ty.size v)
        if a.1 = 0 then a.2 else a.2.mirrorRefuse x.1 x.2 a.1
  else s

/-- No answer within 1 ms: the load returns all ones, the store is dropped, and the timeout is counted. -/
def State.mirrorLate (s : State) (pa : Nat) (load : Bool) : State :=
  if s.on && inMirror pa then
    let s := s.incEnt 0x4410 2 1
    if load then s.emit (.regRead pa (BitVec.allOnes 64)) else s
  else s

/-- MIRROR_LOAD. -/
def execMirrorLoad (pa : Nat) (s : State) : Host.Outcome State Fault Refusal :=
  act (decide (pa < 2 ^ 56)) (fun s => s.mirrorLoad pa) s
/-- MIRROR_STORE. -/
def execMirrorStore (pa size : Nat) (v : BitVec 64) (s : State) : Host.Outcome State Fault Refusal :=
  act (decide (pa < 2 ^ 56) && coreSize size) (fun s => s.mirrorStore pa size v.toNat) s
/-- MIRROR_TIMEOUT. -/
def execMirrorTimeout (pa : Nat) (load : Bool) (s : State) : Host.Outcome State Fault Refusal :=
  act (decide (pa < 2 ^ 56)) (fun s => s.mirrorLate pa load) s

/-! ### Control space as a whole (R29) -/

/-- Whether an address of control space lies in a listed range (Tables 1.11 and 1.12). -/
def listed (pa : Nat) : Bool :=
  (decide (pa < 0x40000000) && decide (pa % 0x10000000 < 0x0E000000)) || (decide (0x40000000 ≤ pa) && decide (pa < 0x50040000)) ||
  (decide (0x60000000 ≤ pa) && decide (pa < 0x70000000)) || inMirror pa

/-- Whether the configuration space of PCIe devices lies at an address (Table 11.10). -/
def inEcam (pa : Nat) : Bool := decide (0x4C000000 ≤ pa) && decide (pa < 0x50000000)

/-- A write to a register of compute die `pa / 0x10000000` (Table 1.12). -/
def State.writeDieReg (s : State) (pa m v : Nat) : State :=
  let d := pa / 0x10000000
  let o := pa % 0x10000000
  let w := 8 * d + o / 0x01000000
  let x := o % 0x01000000
  if !s.dieUp d then s
  else if o < 0x08000000 then
    if 0x810000 ≤ x ∧ x < 0x812000 then s.writeQueueReg w ((x - 0x810000) / 0x40) (x % 0x40) m v
    else if 0x900000 ≤ x ∧ x < 0x9000C0 then s.writeCacheReg w (x - 0x900000) m v
    else s.codeWrite pa m v
  else if o < 0x0B000000 then s.writeStackReg (3 * d + (o / 0x01000000 - 8)) x m v
  else if 0x0C000000 ≤ o ∧ o < 0x0D000000 then s.writeBreakerReg d x m v
  else s

/-- A write of `size` bytes to control space by an agent. -/
def State.regStore (s : State) (agent : BitVec 16) (pa size v : Nat) : State :=
  if !s.on || decide (regionOf pa ≠ .control) then s
  else if 0x60000000 ≤ pa ∧ pa < 0x70000000 then s.pageWrite pa size v
  else if inMirror pa then s.mirrorStore pa size v
  else if 0x50000000 ≤ pa ∧ pa < 0x50040000 then s.writeBoxReg ((pa - 0x50000000) / 0x1000) (pa % 0x1000) size agent v
  else if (size ≠ 4 ∧ size ≠ 8) ∨ pa % size ≠ 0 then s
  else if inEcam pa then s.emit (.cfgWrite pa (toBytes size v))
  else
    let c := coverOf pa size v
    let base := pa / 8 * 8
    if base < 0x40000000 then s.writeDieReg base c.1 c.2
    else if 0x43000000 ≤ base ∧ base < 0x43010000 then s.writeHatchReg ((base - 0x43000000) / 0x1000) (base % 0x1000) c.1 c.2
    else if 0x45000000 ≤ base ∧ base < 0x45001000 then s.writeAtomicReg ((base - 0x45000000) / 0x40) (base % 0x40) c.1 c.2
    else if 0x46000000 ≤ base ∧ base < 0x46001000 then s.writeBreakerReg 4 (base - 0x46000000) c.1 c.2
    else s


/-- Whether an agent's access to control space waits for a hallway that is training: to a die's registers, to the latch or
doorbell page of a wing, or to the host die (R284, R302). -/
def State.controlHeld (s : State) (agent : BitVec 16) (pa : Nat) : Bool :=
  s.hallHeld (agentDie agent) (if pa < 0x40000000 then pa / 0x10000000
    else if 0x60000000 ≤ pa ∧ pa < 0x70000000 then (pageReg pa).die else 4)

/-- A write of an agent to control space, which waits for a hallway that is training on its way (R302). -/
def State.regAsk (s : State) (agent : BitVec 16) (pa size v : Nat) : State :=
  if s.on && decide (regionOf pa = .control) && s.controlHeld agent pa then s.defer (.write agent pa size v)
  else s.regStore agent pa size v

/-- REGISTER_WRITE. -/
def execRegisterWrite (agent : BitVec 16) (pa size : Nat) (v : BitVec 64) (s : State) : Host.Outcome State Fault Refusal :=
  act (decide (pa < 2 ^ 56) && coreSize size) (fun s => s.regAsk agent pa size v.toNat) s

/-! ### Reading control space -/

/-- What a register reads: its bits, and the fields that show state held elsewhere. -/
def State.regNow (s : State) (pa : Nat) : Nat :=
  let v := s.regN pa
  let o := pa % 0x10000000
  let x := pa % 0x01000000
  if pa < 0x40000000 ∧ o < 0x08000000 ∧ 0x810000 ≤ x ∧ x < 0x812000 ∧ x % 0x40 = 0x30 then
    putFld v 63 56 (s.wingEpoch (8 * (pa / 0x10000000) + o / 0x01000000))
  else if pa < 0x40000000 ∧ 0x08000000 ≤ o ∧ o < 0x0B000000 ∧ x = 0 then
    putFld v 63 32 (s.msSince (s.stack (3 * (pa / 0x10000000) + (o / 0x01000000 - 8))).critAt)
  else v

/-- Eight bytes of the last-words log (R306). -/
def State.logWord (s : State) (i : Nat) : Nat := (lget 0#64 (lget [] s.porch.log (i / 8)) (i % 8)).toNat

/-- What an agent reads in letterbox `b` (R295, R296). -/
def State.readBoxReg (s : State) (b o size : Nat) (agent : BitVec 16) : Nat × State :=
  if o < 0x40 then (if size = 4 ∧ o % 4 = 0 then (fld (s.regN (paBox b (o / 8 * 8))) (8 * (o % 8) + 31) (8 * (o % 8)), s) else (0, s))
  else if size ≠ 8 ∨ o % 8 ≠ 0 then (0, s)
  else if o = 0x40 then s.lockRead b agent.toNat
  else if o = 0x48 then (s.regN (paBox b o) + (if s.boxGo b then 0x100 else 0), s)
  else if o = 0x50 then
    let w := s.boxOwner b
    (s.regN (paBox b o) + w * 2 ^ 16 + (if w = 0 then 0 else 2), s)
  else (s.regN (paBox b o), s)

/-- What an agent's load of 4 or 8 bytes of control space gives, and what the read does (R7). -/
def State.regLoad (s : State) (agent : BitVec 16) (pa size : Nat) : Nat × State :=
  let cut := fun (v : Nat) => v / 2 ^ (8 * (pa % 8)) % 2 ^ (8 * size)
  let base := pa / 8 * 8
  if 0x60000000 ≤ pa ∧ pa < 0x70000000 then (cut (s.pageRead base), s)
  else if 0x50000000 ≤ pa ∧ pa < 0x50040000 then s.readBoxReg ((pa - 0x50000000) / 0x1000) (pa % 0x1000) size agent
  else if inEcam pa then (s.freeVal % 2 ^ (8 * size), s.drawFree.emit (.cfgRead pa size))
  else if 0x44000000 ≤ pa ∧ pa < 0x45000000 then (cut (s.logWord ((base - 0x44000000) / 8)), s)
  else if pa < 0x40000000 ∧ !s.dieUp (pa / 0x10000000) then (s.freeVal % 2 ^ (8 * size), s.drawFree)
  else match regDesc base with
    | none => (0, s)
    | some d =>
      let m := BitVec.ofNat 64 (coverOf pa size 0).1
      (cut (s.regNow base), s.setReg base (s.reg base &&& ~~~(d.rc &&& m)))

/-! ### Host cores (R178, R285, R425) -/

/-- The caching agent that serves host core `core`: its last-level cache slice. -/
def sliceOfCore (core : Nat) : Nat := 32 + core / 12
/-- Host core `core` as it accesses memory. -/
def coreWho (core access : Nat) : Who := ⟨agentNo 4 0x10 core, access, none⟩

/-- Masked bytes stored by a core into a line; reservations of other cores on it end. -/
def State.sliceWrite (s : State) (core line : Nat) (mask : BitVec 64) (l : LineData) : State :=
  let s := s.cacheWrite (sliceOfCore core) (coreWho core 1) line mask l false
  { s with resv := s.resv.filter fun e => decide (e.2 / 64 ≠ line) || decide (e.1 = core) }

/-- Where a host core's access of `n` bytes goes: memory as runs of bytes, one for each tile in the aperture. -/
inductive CoreTgt where
  | mem (runs : List (Nat × Nat)) | poison | wait | control | pcie | remote | fault
deriving DecidableEq, Repr

/-- The target of a host core's access (Table 11.1, R27, R222, R237, R241, R243, R302, R303, R307). -/
def State.coreTarget (s : State) (core pa n : Nat) (wr : Bool) : CoreTgt × State :=
  match regionOf pa, regionOf (pa + n - 1) with
  | .stack j, .stack k =>
    if !s.dieUp (j / 3) || !s.dieUp (k / 3) then (.poison, s)
    else if s.stackRefuses 4 j || s.stackRefuses 4 k || (s.poolFrame pa).isSome || (s.poolFrame (pa + n - 1)).isSome then
      (.fault, s)
    else if (linesOf pa n).any fun l => s.accessHeld 4 l wr then (.wait, s)
    else (.mem [(pa, n)], s)
  | .host, .host =>
    if wr && (s.tierRegion pa || s.tierRegion (pa + n - 1)) then (.fault, s)
    else if (linesOf pa n).any fun l => s.accessHeld 4 l wr then (.wait, s)
    else (.mem [(pa, n)], s)
  | .tier, .tier =>
    if s.tierState ≠ 2 then (.fault, s)
    else
      let x := (tilesIn pa n).foldl (fun (acc : Bool × State) t =>
        let a := acc.2.tierAccess (tierBase + t * 65536) 4 4 0 (coreKey core) false
        (acc.1 && a.1.isSome, a.2)) (true, s)
      let runs := x.2.hatchRuns pa n
      if !x.1 || runs.any fun r => (linesOf r.1 r.2).any fun l => x.2.accessHeld 4 l wr then (.wait, x.2) else (.mem runs, x.2)
  | .control, .control =>
    (if (n = 4 ∨ n = 8) ∧ pa % n = 0 ∧ listed pa then
       (if s.controlHeld (coreWho core 0).master pa then .wait else .control)
     else .fault, s)
  | .pcie, .pcie => (if pa % n = 0 then .pcie else .fault, s)
  | .remote, _ => (.remote, s)
  | _, _ => (.fault, s)

/-- A load that meets poison takes an access fault, and BREAKER[4] captures HOST_POISON (R425). -/
def State.corePoison (s : State) (core pa : Nat) : State :=
  (s.capture 4 (accReport 0x17 (coreWho core 0).master 0 pa none)).answer core .accessFault

/-- Bytes read by a core through its slice, and whether a word touched is poison. -/
def State.coreBytes (s : State) (core pa n : Nat) : (Bytes × Bool) × State :=
  (linesOf pa n).foldl (fun (acc : (Bytes × Bool) × State) line =>
    let x := acc.2.cacheRead (sliceOfCore core) (coreWho core 0) line true
    let lo := max pa (line * 64)
    let hi := min (pa + n) (line * 64 + 64)
    let bad := (List.range 4).any fun m =>
      x.1.poisoned m && decide (lo < line * 64 + 16 * m + 16) && decide (line * 64 + 16 * m < hi)
    ((acc.1.1 ++ slice x.1.bytes (lo - line * 64) (hi - lo), acc.1.2 || bad), x.2)) (([], false), s)

/-- Bytes stored by a core through its slice. -/
def State.coreStoreBytes (s : State) (core pa : Nat) (bs : Bytes) : State :=
  each (linesOf pa bs.length) (fun line s =>
    let x := sliceOf pa bs line
    s.sliceWrite core line x.1 ⟨BitVec.ofNat 512 x.2, 0⟩) s

/-- Bytes read by a core from runs. -/
def State.coreRuns (s : State) (core : Nat) (runs : List (Nat × Nat)) : (Bytes × Bool) × State :=
  runs.foldl (fun (acc : (Bytes × Bool) × State) r =>
    let x := acc.2.coreBytes core r.1 r.2
    ((acc.1.1 ++ x.1.1, acc.1.2 || x.1.2), x.2)) (([], false), s)

/-- Bytes stored by a core to runs. -/
def State.coreStoreRuns (s : State) (core : Nat) (runs : List (Nat × Nat)) (bs : Bytes) : State :=
  (runs.foldl (fun (acc : Nat × State) r =>
    (acc.1 + r.2, acc.2.coreStoreBytes core r.1 (slice bs acc.1 r.2))) (0, s)).2

/-- The sizes and alignment of AMOs and LR/SC. -/
def atomicForm (pa n : Nat) : Bool := (n = 4 || n = 8) && pa % n = 0

/-- A load or LR of a host core. -/
def State.coreLoad (s : State) (core : Nat) (kind : LoadKind) (pa n : Nat) : State :=
  if !s.on then s
  else if kind = .lr && !atomicForm pa n then s.answer core .accessFault
  else
    let t := s.coreTarget core pa n false
    match t.1, kind with
    | .mem runs, _ =>
      let a := (runs.headD (0, 0)).1
      let s := if kind = .lr then t.2.cacheOwn (sliceOfCore core) (coreWho core 0) (a / 64) else t.2
      let r := s.coreRuns core runs
      if r.1.2 then r.2.corePoison core a
      else
        let s := r.2.answer core (.value (BitVec.ofNat 64 (ofBytes r.1.1)))
        if kind = .lr then { s.answer core (.value (BitVec.ofInt 64 (toSigned (8 * n) (ofBytes r.1.1)))) with
          resv := tset core a s.resv } else s
    | .poison, _ => t.2.corePoison core pa
    | .wait, _ => (t.2.answer core .waiting).defer (.load core kind pa n)
    | .control, .load =>
      if inMirror pa then
        if t.2.firmware then
          let v := t.2.mirrorRead (pa / 8 * 8)
          v.2.answer core (.value (BitVec.ofNat 64 (v.1.toNat / 2 ^ (8 * (pa % 8)) % 2 ^ (8 * n))))
        else (t.2.incEnt 0x4410 2 1).answer core (.value (BitVec.allOnes 64))
      else
        let v := t.2.regLoad (coreWho core 0).master pa n
        v.2.answer core (.value (BitVec.ofNat 64 v.1))
    | .pcie, .load => (t.2.drawFree.pcieAsk pa n).answer core (.value (BitVec.ofNat 64 (t.2.freeVal % 2 ^ (8 * n))))
    | .remote, .load => t.2.coreRemoteLoad core pa n
    | _, _ => t.2.answer core .accessFault

/-- The new value of an AMO on `n`-byte operands: old value, register value. -/
def amoNew (kind : StoreKind) (n old x : Nat) : Nat :=
  let o := toSigned (8 * n) old
  let y := toSigned (8 * n) x
  match kind with
  | .amoAdd => (old + x) % 2 ^ (8 * n)
  | .amoXor => old ^^^ x
  | .amoAnd => old &&& x
  | .amoOr => old ||| x
  | .amoMin => if o ≤ y then old else x
  | .amoMax => if o ≤ y then x else old
  | .amoMinu => min old x
  | .amoMaxu => max old x
  | _ => x

/-- A store conditional: it succeeds while the core's reservation on the line stands and its slice holds the line. -/
def State.coreCond (s : State) (core pa n x : Nat) : State :=
  let line := pa / 64
  let ok := (s.resv.any fun e => e.1 = core && e.2 / 64 = line) && (s.held (sliceOfCore core) line).isSome
  let s := { s with resv := s.resv.filter fun e => e.1 ≠ core }
  if ok then
    let r := s.coreBytes core pa n
    if r.1.2 then r.2.answer core .accessFault
    else (r.2.coreStoreBytes core pa (toBytes n x)).answer core (.value 0)
  else s.answer core (.value 1)

/-- A store, SC or AMO of a host core at a memory address. -/
def State.coreModify (s : State) (core : Nat) (kind : StoreKind) (runs : List (Nat × Nat)) (n x : Nat) : State :=
  let pa := (runs.headD (0, 0)).1
  match kind with
  | .store => (s.coreStoreRuns core runs (toBytes n x)).answer core .none
  | .sc => s.coreCond core pa n x
  | _ =>
    let r := (s.cacheOwn (sliceOfCore core) (coreWho core 3) (pa / 64)).coreBytes core pa n
    if r.1.2 then r.2.answer core .accessFault
    else
      let old := ofBytes r.1.1
      (r.2.coreStoreBytes core pa (toBytes n (amoNew kind n old x))).answer core
        (.value (BitVec.ofInt 64 (toSigned (8 * n) old)))

/-- A store, SC or AMO of a host core. -/
def State.coreStore (s : State) (core : Nat) (kind : StoreKind) (pa n v : Nat) : State :=
  let x := v % 2 ^ (8 * n)
  if !s.on then s
  else if kind ≠ .store && !atomicForm pa n then s.answer core .accessFault
  else
    let t := s.coreTarget core pa n true
    match t.1, kind with
    | .mem runs, _ => t.2.coreModify core kind runs n x
    | .poison, .store => t.2.answer core .none
    | .poison, _ => t.2.answer core .accessFault
    | .wait, _ => (t.2.answer core .waiting).defer (.store core kind pa n v)
    | .control, .store =>
      if inMirror pa && !t.2.firmware then (t.2.incEnt 0x4410 2 1).answer core .none
      else (t.2.regStore (coreWho core 1).master pa n x).answer core .none
    | .pcie, .store => (t.2.pcieOut pa (toBytes n x)).answer core .none
    | .remote, .store => t.2.coreRemoteStore core pa n x
    | _, _ => t.2.answer core .accessFault

/-- HOST_CORE_LOAD. -/
def execHostCoreLoad (core : Nat) (kind : LoadKind) (pa size : Nat) (s : State) : Host.Outcome State Fault Refusal :=
  act (decide (core < 96) && decide (pa < 2 ^ 56) && coreSize size) (fun s => s.coreLoad core kind pa size) s
/-- HOST_CORE_STORE. -/
def execHostCoreStore (core : Nat) (kind : StoreKind) (pa size : Nat) (v : BitVec 64) (s : State) :
    Host.Outcome State Fault Refusal :=
  act (decide (core < 96) && decide (pa < 2 ^ 56) && coreSize size) (fun s => s.coreStore core kind pa size v.toNat) s

end Sys2Proof.Machine
end

