-- ==== Sys2Proof/Machine/HeldCmds.lean ====
section
/-! DEFINITION. Work that waits for a stack that is held, a hallway that is training, or a tile (R222, R257, R302, R436), and
the events that let it go on. -/

namespace Sys2Proof.Machine

/-- Work that waited is tried again as it was when it arrived; it waits again where it still must. Operations of another
module then go on as those of port 0 (DESIGN CHOICE: the manual does not say which port's agent number they carry). -/
def State.doLater (s : State) (x : Later) : State :=
  match x with
  | .req line r => s.homeTake line r
  | .msi src pa v => s.msiStore src pa v
  | .load core kind pa n => s.coreLoad core kind pa n
  | .store core kind pa n v => s.coreStore core kind pa n v
  | .pcieRead pa len noSnoop => s.pcieRead pa len noSnoop
  | .pcieWrite pa bytes ep tph => s.pcieStore pa bytes ep tph
  | .write agent pa size v => s.regAsk agent pa size v
  | .remote m => if m = s.own then s.drainOwn ((s.pair m).waiting.length + 1) else s.drainRx 0 m ((s.pair m).rx.length + 1)
  | .fence => s.defer .fence

/-- Everything that waits is tried again in the order of its arrival (R222, R302). -/
def State.rerun (s : State) : State := each s.later (fun x s => s.doLater x) { s with later := [] }

/-- STACK_TEMP_SAMPLE. -/
def execStackTempSample (j t : Nat) (s : State) : Host.Outcome State Fault Refusal :=
  act (decide (j < 12)) (fun s => (s.stackTemp j t).rerun) s
/-- REPAIR_DONE. -/
def execRepairDone (ok : Bool) (s : State) : Host.Outcome State Fault Refusal :=
  act true (fun s => (each (List.range 12) (fun j s => s.endRepair j ok) s).rerun) s
/-- RING_HALL_RETRAIN_DONE. -/
def execRingHallRetrainDone (n : Nat) (s : State) : Host.Outcome State Fault Refusal :=
  act (ringHall n) (fun s => (s.hallReturns n).rerun) s
/-- RING_HALL_DOWN. -/
def execRingHallDown (n : Nat) (s : State) : Host.Outcome State Fault Refusal :=
  act (ringHall n) (fun s => (s.ringDown n).rerun) s
/-- RING_HALL_UP: a ring hallway that was down has trained again. -/
def execRingHallUp (n : Nat) (s : State) : Host.Outcome State Fault Refusal :=
  act (ringHall n) (fun s => (if s.on && decide (s.hall n = 0) then s.ringUp n else s).rerun) s
/-- HOST_HALL_RETRAIN_DONE. -/
def execHostHallRetrainDone (d : Nat) (s : State) : Host.Outcome State Fault Refusal :=
  act (decide (d < 4)) (fun s => (s.hallReturns d).rerun) s
/-- LINK_LOSS_DECLARE. -/
def execLinkLossDeclare (d : Nat) (cause : BitVec 2) (s : State) : Host.Outcome State Fault Refusal :=
  act (decide (d < 4)) (fun s => (s.declareLoss d cause.toNat).rerun) s
/-- LINK_RETURN. -/
def execLinkReturn (d : Nat) (s : State) : Host.Outcome State Fault Refusal :=
  act (decide (d < 4)) (fun s => (s.linkBack d).rerun) s
/-- DIE_REJOIN_DONE. -/
def execDieRejoinDone (d : Nat) (fails : BitVec 64) (s : State) : Host.Outcome State Fault Refusal :=
  act (decide (d < 4)) (fun s => (if s.firmware && s.mayRejoin d then s.rejoined d fails else s).rerun) s
/-- DIE_RESET. -/
def execDieReset (d : Nat) (s : State) : Host.Outcome State Fault Refusal :=
  act (decide (d < 4)) (fun s => (if s.firmware then s.forcedReset d else s).rerun) s
/-- CLOCK_LOSS. -/
def execClockLoss (d : Nat) (s : State) : Host.Outcome State Fault Refusal :=
  act (decide (d < 4)) (fun s => (if s.firmware then s.clockLoss d else s).rerun) s
/-- SUITE_RESET. -/
def execSuiteReset (i : Nat) (s : State) : Host.Outcome State Fault Refusal :=
  act (decide (i < 4)) (fun s => (if s.firmware then (s.askSuiteReset i).2 else s).rerun) s
/-- DIE_DRAIN. -/
def execDieDrain (d : Nat) (s : State) : Host.Outcome State Fault Refusal :=
  act (decide (d < 4)) (fun s => (if s.firmware then (s.askDrain d).2 else s).rerun) s
/-- SUITE_DRAIN. -/
def execSuiteDrain (i : Nat) (s : State) : Host.Outcome State Fault Refusal :=
  act (decide (i < 4)) (fun s => (if s.firmware then (s.askSuiteDrain i).2 else s).rerun) s
/-- FILL_COMPLETE. -/
def execFillComplete (t : Nat) (bad : BitVec 4) (s : State) : Host.Outcome State Fault Refusal :=
  act (decide (t < 402653184)) (fun s => (s.fillDone t bad).rerun) s
/-- EVICTION_COMPLETE. -/
def execEvictionComplete (t : Nat) (s : State) : Host.Outcome State Fault Refusal :=
  act (decide (t < 402653184)) (fun s => (s.evictDone t).rerun) s
/-- TIER_DISABLE_DONE. -/
def execTierDisableDone (s : State) : Host.Outcome State Fault Refusal :=
  act true (fun s => (s.tierEmpty).rerun) s

end Sys2Proof.Machine
end

