-- ==== Sys2Proof/Machine/IdCmds.lean ====
section
/-! DEFINITION. Attestation (R403) and field-protocol sessions (R404). -/

namespace Sys2Proof.Machine

/-! ### SPDM (R403) -/

/-- The content of a measurement block (Table 15.5). -/
def State.measurement (s : State) (i : Nat) : Bytes :=
  match i with
  | 1 => Config.romHash
  | 2 => s.porch.m1
  | 3 => Config.sha512 (s.blob 0x9000 4)
  | 4 => padTo 64 s.porch.hostHash
  | 5 => toBytes 4 (s.ent 0x9000 1) ++ toBytes 4 (s.ent 0x9000 2)
  | _ => [5, 0x10, 0x20, 0x30, 0x40].flatMap (fun k => toBytes 1 (s.ent 0x1100 k)) ++ toBytes 1 (s.entNow 0x1100 4) ++
         toBytes 1 s.layout

/-- Measurement block `i` as the answer carries it: its index, its length and its content. -/
def State.measureBlock (s : State) (i : Nat) : Bytes :=
  let b := s.measurement i
  toBytes 1 i ++ toBytes 2 b.length ++ b

/-- The certificate chain of slot 0. -/
def State.certChain (s : State) : Bytes := Config.vendorCert ++ s.blobNow 0x1000 3 ++ s.blob 0x7020 1

/-- An SPDM error answer. -/
def State.spdmError (s : State) (code : Nat) : State := s.emit (.spdm 0x7F#8 (toBytes 1 code))

/-- GET_MEASUREMENTS: `which` is 0 for the number of blocks, 0xFF for all, or an index; a requested signature is the
alias key's over the request and the blocks. -/
def State.spdmMeasure (s : State) (signed : Bool) (which : Nat) (req : Bytes) : State :=
  if 6 < which ∧ which ≠ 0xFF then s.spdmError 1
  else
    let b := if which = 0 then toBytes 1 6 else if which = 0xFF then (List.range 6).flatMap (fun i => s.measureBlock (i + 1))
      else s.measureBlock which
    s.emit (.spdm 0x60#8 (b ++ if signed then Config.aliasSign (req ++ b) else []))

/-- An SPDM request is answered. -/
def State.spdm (s : State) (code : BitVec 8) (param1 : Nat) (body : Bytes) : State :=
  if !s.firmware then s
  else match code.toNat with
    | 0x84 => s.emit (.spdm 0x04#8 (toBytes 2 0x1200 ++ toBytes 2 0x1300))
    | 0xE1 => s.emit (.spdm 0x61#8 (toBytes 4 0x16))
    | 0xE3 => s.emit (.spdm 0x63#8 (toBytes 4 0x200 ++ toBytes 4 4 ++ toBytes 4 8))
    | 0x81 => s.emit (.spdm 0x01#8 (Config.sha512 s.certChain))
    | 0x82 => if param1 % 16 = 0 then s.emit (.spdm 0x02#8 s.certChain) else s.spdmError 1
    | 0x83 =>
      if param1 % 16 = 0 then
        let h := Config.sha512 s.certChain
        let n := toBytes 32 s.freeVal
        (s.drawFree).emit (.spdm 0x03#8 (h ++ n ++ Config.aliasSign (body ++ h ++ n)))
      else s.spdmError 1
    | 0xE0 => s.spdmMeasure (bitOf param1 0) (lget 0#8 body 0).toNat body
    | _ => s.spdmError 7

/-- SPDM_REQUEST. -/
def execSpdmRequest (code param1 : BitVec 8) (body : Bytes) (s : State) : Host.Outcome State Fault Refusal :=
  act true (fun s => s.spdm code param1.toNat body) s

/-! ### Sessions (R404) -/

/-- Whether a requester key is held in 0x7010.01 to .08. -/
def State.keyHeld (s : State) (key : Bytes) : Bool :=
  decide (key ≠ []) && (List.range 8).any fun k => s.blob 0x7010 (k + 1) = key

/-- The sessions as given. -/
def State.setSessions (s : State) (l : List Session) : State := { s with mgmt := { s.mgmt with sessions := l } }

/-- The least session number that is not in use. -/
def State.freeSession (s : State) : Nat :=
  (((List.range 17).map fun i => i + 1).find? fun n => !s.mgmt.sessions.any fun x => x.n = n).getD 1

/-- SESSION_OPEN: answered with SESSION_ACCEPT, or AUTH_REQUIRED. -/
def State.openSession (s : State) (path : Path) (key eph nonce : Bytes) : State :=
  if !s.firmware || decide (path = .letterbox) then s
  else if !s.keyHeld key || decide (16 ≤ s.mgmt.sessions.length) then s.emit (.sessionRefused path 7)
  else
    let n := s.freeSession
    let mine := Config.sessionEph s.free
    let no := Config.sessionNonce s.free
    let first := key ++ eph ++ nonce ++ toBytes 2 n ++ mine ++ no
    let sig := Config.aliasSign first
    let x : Session := ⟨n, path, key, Config.x25519 s.free eph, first ++ sig, [], false, 0, s.house⟩
    ((s.drawFree).setSessions (s.mgmt.sessions ++ [x])).emit (.sessionAccept path n mine no sig)

/-- A session ends, with what is kept for it. -/
def State.endSession (s : State) (x : Session) : State :=
  let g := s.mgmt
  ({ s with mgmt := { g with
      sessions := g.sessions.filter fun y => decide (y.n ≠ x.n)
      answers := g.answers.filter fun a => decide (a.sess ≠ x.n)
      segs := g.segs.filter fun e => decide (e.2.1 ≠ x.n) } } : State).emit (.sessionEnded x.n)

/-- SESSION_FINISH: a good signature opens the session with its key, a bad one ends it. -/
def State.finishSession (s : State) (n : Nat) (sig : Bytes) : State :=
  match s.mgmt.sessions.find? fun x => x.n = n && !x.open_ with
  | none => s
  | some x =>
    if Config.ed25519 x.peerKey x.script sig then
      let t := x.script ++ sig
      let label : Bytes := [0x54#8, 0x44#8, 0x4E#8, 0x2D#8, 0x53#8, 0x45#8, 0x53#8, 0x53#8]
      let key := (Config.hmac512 x.secret (label ++ Config.sha512 t)).take 32
      s.setSessions (s.mgmt.sessions.map fun (y : Session) =>
        if y.n = n then { y with script := t, key := key, open_ := true, last := s.house } else y)
    else (s.endSession x).emit (.sessionRefused x.peer 7)

/-- SESSION_CLOSE. -/
def State.closeSession (s : State) (n : Nat) : State :=
  match s.mgmt.sessions.find? fun x => x.n = n with
  | some x => s.endSession x
  | none => s

/-- SESSION_TIMEOUT: 60 s have passed without a message. -/
def State.lateSession (s : State) (n : Nat) : State :=
  match s.mgmt.sessions.find? fun x => x.n = n with
  | some x => (s.advance (x.last + 60000000000)).endSession x
  | none => s

/-- SESSION_OPEN. -/
def execSessionOpen (path : Path) (key eph nonce : Bytes) (s : State) : Host.Outcome State Fault Refusal :=
  act true (fun s => s.openSession path key eph nonce) s
/-- SESSION_FINISH. -/
def execSessionFinish (n : Nat) (sig : Bytes) (s : State) : Host.Outcome State Fault Refusal :=
  act true (fun s => if s.firmware then s.finishSession n sig else s) s
/-- SESSION_CLOSE. -/
def execSessionClose (n : Nat) (s : State) : Host.Outcome State Fault Refusal :=
  act true (fun s => if s.firmware then s.closeSession n else s) s
/-- SESSION_TIMEOUT. -/
def execSessionTimeout (n : Nat) (s : State) : Host.Outcome State Fault Refusal :=
  act true (fun s => if s.firmware then s.lateSession n else s) s

end Sys2Proof.Machine
end

