-- ==== Sys2Proof/Machine/Operands.lean ====
section
/-! DEFINITION. Vector instructions as words (R102, R103), the check of a program (R97), and the operand forms of
the vector engine (R93, R95, R104, R105). -/

namespace Sys2Proof

open Sys2Proof.Machine

/-! ### Fields of form V -/

/-- ES of a memory form. -/
def VForm.es (x : VForm) : Nat := fld x.lane.toNat 5 4
/-- AM of a memory form. -/
def VForm.am (x : VForm) : Nat := fld x.lane.toNat 3 2
/-- POST of a memory form. -/
def VForm.post (x : VForm) : Bool := bitOf x.lane.toNat 1
/-- ORD of a memory form. -/
def VForm.ord (x : VForm) : Nat := fld x.c.toNat 4 3
/-- SCOPE of a memory form. -/
def VForm.scope (x : VForm) : Nat := fld x.c.toNat 2 0

/-- The signed immediate of form V. -/
def VForm.simm (x : VForm) : Int := toSigned 18 x.imm.toNat

/-- The rounding mode of RM. -/
def VForm.mode (x : VForm) : RMode := if x.rm = 1#2 then .rtz else .rne
/-- The format of TYPE in the F slot. -/
def VForm.fmt (x : VForm) : FFmt := (fmtOf x.ty.toNat).getD fFP32

end Sys2Proof

namespace Sys2Proof.Machine

/-! ### Layouts (Table 4.4) -/

/-- An instruction of form V with its opcode. -/
def encodeV (op : BitVec 8) (x : VForm) : BitVec 64 :=
  op ++ x.pg ++ BitVec.ofBool x.pn ++ x.d ++ x.a ++ x.b ++ x.c ++ x.ty ++ x.rm ++ x.bsel ++ x.lane ++ x.imm

/-- An instruction of form J with its opcode. -/
def encodeJ (op : BitVec 8) (x : JForm) : BitVec 64 :=
  op ++ x.pg ++ BitVec.ofBool x.pn ++ x.d ++ 0#15 ++ x.imm

/-- The opcode of an instruction. -/
def opcodeOf (w : BitVec 64) : BitVec 8 := w.extractLsb' 56 8

/-- The fields of form V. -/
def decodeV (w : BitVec 64) : VForm where
  pg := w.extractLsb' 53 3
  pn := w.getLsbD 52
  d := w.extractLsb' 47 5
  a := w.extractLsb' 42 5
  b := w.extractLsb' 37 5
  c := w.extractLsb' 32 5
  ty := w.extractLsb' 28 4
  rm := w.extractLsb' 26 2
  bsel := w.extractLsb' 24 2
  lane := w.extractLsb' 18 6
  imm := w.extractLsb' 0 18

/-- The fields of form J. -/
def decodeJ (w : BitVec 64) : JForm where
  pg := w.extractLsb' 53 3
  pn := w.getLsbD 52
  d := w.extractLsb' 47 5
  imm := w.extractLsb' 0 32

/-! ### What each opcode may hold (Tables 4.4, 4.5, 4.10, 4.12) -/

/-- What a register field names: nothing (it must be 0), a vector, scalar or predicate register, a predicate that
is written, an even scalar pair that is written or read, a source format, or a scope. -/
inductive Kind where
  | zero | v | s | p | pw | pairW | pairR | code | scope
deriving DecidableEq, Repr

/-- Whether a field value is one that a kind allows. -/
def Kind.ok (k : Kind) (x : Nat) : Bool :=
  match k with
  | .zero => decide (x = 0)
  | .v => true
  | .s => decide (x < 16)
  | .p => decide (x < 8)
  | .pw => decide (1 ≤ x ∧ x < 8)
  | .pairW => decide (x ≠ 0 ∧ x % 2 = 0 ∧ x < 16)
  | .pairR => decide (x % 2 = 0 ∧ x < 16)
  | .code => [0, 1, 2, 3, 4, 5, 8, 9, 0xA].contains x
  | .scope => decide (x < 6)

/-- The fields of an opcode: D, A, B and C, the types, whether RM may be 1, whether B (and a vector C) may be
broadcast, whether LANE names a lane, the bits of IMM in use, and whether PG governs. -/
structure OpRow where
  d    : Kind
  a    : Kind
  b    : Kind
  c    : Kind
  ty   : List Nat
  rm   : Bool
  bc   : Bool
  lane : Bool
  imm  : Nat
  pg   : Bool
deriving DecidableEq, Repr

/-- A row with TYPE 0 and nothing else in use but registers. -/
def plainRow (d a b c : Kind) : OpRow := ⟨d, a, b, c, [0], false, false, false, 0, false⟩
/-- The formats of the F slot. -/
def fTypes : List Nat := [8, 9, 0xA]

/-- The row of an opcode of form V other than LDL, STL, LDM and STM. DESIGN CHOICE: FABS and FNEG, for which R105 names no
TYPE, take those of the F slot. -/
def opRow (op : Nat) : Option OpRow :=
  match op with
  | 0x00 => some (plainRow .zero .zero .zero .zero)
  | 0x01 => some (plainRow .zero .zero .zero .zero)
  | 0x02 => some (plainRow .zero .zero .zero .zero)
  | 0x03 => some { plainRow .zero .s .zero .zero with imm := 0xFFF }
  | 0x04 => some { plainRow .zero .s .s .zero with ty := List.range 7, imm := 0x3FFFF }
  | 0x05 => some (plainRow .zero .zero .zero .scope)
  | 0x06 => some (plainRow .s .zero .zero .zero)
  | 0x07 => some (plainRow .zero .zero .zero .zero)
  | 0x08 => some (plainRow .s .s .s .zero)
  | 0x09 => some { plainRow .s .s .zero .zero with imm := 0x3FFFF }
  | 0x0A => some (plainRow .s .s .s .zero)
  | 0x0B => some (plainRow .s .s .s .zero)
  | 0x0C => some (plainRow .s .s .s .zero)
  | 0x0D => some (plainRow .s .s .s .zero)
  | 0x0E => some (plainRow .s .s .s .zero)
  | 0x0F => some { plainRow .s .s .s .zero with ty := [0, 1, 2], imm := 0x3FFFF }
  | 0x13 => some { plainRow .s .s .zero .zero with imm := 0x3FFFF }
  | 0x14 => some { plainRow .s .s .zero .zero with imm := 0x3FFFF }
  | 0x20 => some ⟨.v, .v, .v, .zero, fTypes, true, true, false, 0, true⟩
  | 0x21 => some ⟨.v, .v, .v, .zero, fTypes, true, true, false, 0, true⟩
  | 0x22 => some ⟨.v, .v, .v, .zero, fTypes, true, true, false, 0, true⟩
  | 0x23 => some ⟨.v, .v, .v, .v, fTypes, true, true, false, 0, true⟩
  | 0x24 => some ⟨.v, .v, .v, .v, fTypes, true, true, false, 0, true⟩
  | 0x25 => some ⟨.v, .v, .v, .v, fTypes, true, true, false, 0, true⟩
  | 0x28 => some ⟨.v, .v, .v, .zero, fTypes, false, true, false, 0, true⟩
  | 0x29 => some ⟨.v, .v, .v, .zero, fTypes, false, true, false, 0, true⟩
  | 0x2A => some ⟨.pw, .v, .v, .zero, fTypes, false, true, false, 7, true⟩
  | 0x2B => some ⟨.v, .v, .v, .zero, [0], false, true, false, 0, true⟩
  | 0x2C => some ⟨.v, .v, .zero, .zero, fTypes, false, false, false, 0, true⟩
  | 0x2D => some ⟨.v, .v, .zero, .zero, fTypes, false, false, false, 0, true⟩
  | 0x2E => some ⟨.v, .v, .zero, .code, [0, 1, 2, 3, 4, 5, 8, 9, 0xA], true, false, false, 0, true⟩
  | 0x2F => some ⟨.v, .v, .zero, .zero, [0xA], true, false, false, 0, true⟩
  | 0x30 => some ⟨.v, .v, .zero, .zero, [0xA], true, false, false, 0, true⟩
  | 0x31 => some ⟨.v, .v, .v, .zero, [0], false, true, false, 0, true⟩
  | 0x32 => some ⟨.v, .v, .v, .zero, [0], false, true, false, 0, true⟩
  | 0x33 => some ⟨.v, .v, .v, .zero, [0], false, true, false, 0, true⟩
  | 0x34 => some ⟨.v, .v, .v, .zero, [0], false, true, false, 0, true⟩
  | 0x35 => some ⟨.v, .v, .v, .zero, [0], false, true, false, 0, true⟩
  | 0x36 => some ⟨.v, .v, .v, .zero, [0], false, true, false, 0, true⟩
  | 0x37 => some ⟨.v, .v, .v, .zero, [0], false, true, false, 0, true⟩
  | 0x38 => some ⟨.v, .v, .v, .zero, [0], false, true, false, 0, true⟩
  | 0x39 => some ⟨.pw, .v, .v, .zero, [0], false, true, false, 7, true⟩
  | 0x3A => some { plainRow .v .s .zero .zero with pg := true }
  | 0x3B => some { plainRow .s .v .zero .zero with lane := true }
  | 0x3C => some { plainRow .v .s .zero .zero with lane := true }
  | 0x3D => some { plainRow .v .v .v .zero with pg := true }
  | 0x40 => some (plainRow .pw .p .p .zero)
  | 0x41 => some (plainRow .pw .p .p .zero)
  | 0x42 => some (plainRow .pw .p .p .zero)
  | 0x43 => some (plainRow .pw .p .zero .zero)
  | 0x44 => some (plainRow .pw .s .zero .zero)
  | 0x45 => some (plainRow .s .p .zero .zero)
  | 0x48 => some ⟨.v, .v, .zero, .zero, [0xA], false, false, false, 0, true⟩
  | 0x49 => some ⟨.v, .v, .zero, .zero, [0xA], false, false, false, 0, true⟩
  | 0x4A => some ⟨.v, .v, .zero, .zero, [0xA], false, false, false, 0, true⟩
  | 0x4B => some ⟨.v, .v, .zero, .zero, [0xA], false, false, false, 0, true⟩
  | 0x50 => some ⟨.s, .v, .zero, .zero, [0xA], true, false, false, 0, true⟩
  | 0x51 => some ⟨.s, .v, .zero, .zero, [0xA], false, false, false, 0, true⟩
  | 0x52 => some ⟨.s, .v, .zero, .zero, [0xA], false, false, false, 0, true⟩
  | 0x53 => some ⟨.pairW, .v, .zero, .zero, [0xA], false, false, false, 0x3FF, true⟩
  | 0x54 => some ⟨.s, .pairR, .zero, .zero, [0, 1, 8, 9, 0xA], false, false, false, 0x3FF, false⟩
  | 0x64 => some (plainRow .v .zero .zero .zero)
  | _ => none

/-- Whether the fields of a form V instruction are ones its row allows (R97, R102, R105, R106). -/
def OpRow.ok (r : OpRow) (op : Nat) (x : VForm) : Bool :=
  let bk := if r.bc && x.bsel = 1#2 then Kind.s else r.b
  let ck := if r.bc && x.bsel = 1#2 && r.c = .v then Kind.s else r.c
  let rm := r.rm && (op ≠ 0x2E || fTypes.contains x.ty.toNat)
  (r.pg || (x.pg = 0#3 && !x.pn)) && r.d.ok x.d.toNat && r.a.ok x.a.toNat && bk.ok x.b.toNat && ck.ok x.c.toNat &&
  r.ty.contains x.ty.toNat && (x.rm = 0#2 || (rm && x.rm = 1#2)) &&
  (x.bsel = 0#2 || (r.bc && x.bsel ≠ 3#2)) && (x.lane = 0#6 || r.lane || (r.bc && x.bsel = 2#2)) &&
  decide (x.imm.toNat &&& r.imm = x.imm.toNat) && (op ≠ 0x39 || decide (x.imm.toNat < 6))

/-- The pairs of ES and TYPE of Table 4.10. -/
def elemPairs : List (Nat × Nat) := [(0, 0xA), (1, 0xA), (1, 8), (1, 9), (2, 0xA), (2, 0), (2, 1), (2, 5)]
/-- Whether the fields of LDL, STL, LDM or STM are ones that Tables 4.5 and 4.10 allow. -/
def memOk (op : Nat) (x : VForm) : Bool :=
  let load := op = 0x60 || op = 0x62
  let ords := if op = 0x62 then [0, 1, 2] else if op = 0x63 then [0, 1] else [0]
  let bk := if x.am = 1 then Kind.s else if x.am = 2 then Kind.v else Kind.zero
  let rounds := !load && x.es = 1 && (x.ty = 8#4 || x.ty = 9#4)
  x.bsel = 0#2 && Kind.s.ok x.a.toNat && bk.ok x.b.toNat && (load || x.am ≠ 3) && !bitOf x.lane.toNat 0 &&
  ords.contains x.ord && (x.scope = 0 || (op = 0x63 && x.ord = 1 && x.scope < 6)) &&
  elemPairs.contains (x.es, x.ty.toNat) && (x.rm = 0#2 || (rounds && x.rm = 1#2))

/-- Whether a word is an instruction of Table 4.12 with allowed fields in a suite of a level (R97, R412). -/
def wordOk (level : Nat) (w : BitVec 64) : Bool :=
  let op := (opcodeOf w).toNat
  if op = 0x10 ∨ op = 0x11 then
    let x := decodeJ w
    decide (encodeJ (opcodeOf w) x = w) && x.pg = 0#3 && !x.pn && decide (x.d.toNat < 16)
  else if op = 0x12 then decide (encodeJ (opcodeOf w) (decodeJ w) = w)
  else if op = 0x60 ∨ op = 0x61 ∨ op = 0x62 ∨ op = 0x63 then memOk op (decodeV w)
  else match opRow op with
    | some r => r.ok op (decodeV w) && (op ≠ 0x3D || decide (2 ≤ level))
    | none => false

/-! ### The check of a program (R97) -/

/-- The loops of a program: place of the LOOP and place of its body's last instruction. -/
def loopsOf (ws : List (BitVec 64)) : List (Nat × Nat) :=
  (ws.zipIdx.filter fun x => opcodeOf x.1 = 0x03#8).map fun x => (x.2, x.2 + fld (decodeV x.1).imm.toNat 11 0)
/-- The loops whose body holds place `i`. -/
def loopsAt (ls : List (Nat × Nat)) (i : Nat) : List (Nat × Nat) := ls.filter fun l => decide (l.1 < i) && decide (i ≤ l.2)

/-- Whether a program passes the checks of R97, items 2 to 8. -/
def programOk (level : Nat) (ws : List (BitVec 64)) : Bool :=
  let n := ws.length
  let ls := loopsOf ws
  ws.all (wordOk level) &&
  ls.all (fun l => decide (l.2 < n) && (loopsAt ls l.1).all (fun o => decide (l.2 ≤ o.2)) &&
    decide ((loopsAt ls l.1).length < 4)) &&
  ws.zipIdx.all fun x =>
    if opcodeOf x.1 = 0x04#8 then
      let t := (x.2 : Int) + (decodeV x.1).simm
      decide (0 ≤ t) && decide (t < n) &&
      (match (loopsAt ls x.2).foldl (fun (m : Option (Nat × Nat)) l => match m with
          | none => some l
          | some o => if o.1 < l.1 then some l else some o) none with
       | some l => decide ((l.1 : Int) < t) && decide (t ≤ l.2)
       | none => (loopsAt ls t.toNat).isEmpty)
    else true

/-! ### Registers (Table 4.1) -/

/-- Lane `i` of 64 lanes. -/
def laneAt (v : BitVec 2048) (i : Nat) : Nat := v.toNat / 2 ^ (32 * i) % 2 ^ 32
/-- The 64 lanes of vector register `r`, each with its poison bit. -/
def VEngine.vreg (e : VEngine) (r : Nat) : List (Nat × Bool) :=
  let v := tget 0#2048 e.v r
  let p := tget 0#64 e.vp r
  (List.range 64).map fun i => (laneAt v i, bitOf p.toNat i)
/-- 64 lanes as a register's bits. -/
def ofVLanes (l : List (Nat × Bool)) : BitVec 2048 :=
  BitVec.ofNat 2048 (l.foldr (fun x a => x.1 % 2 ^ 32 + 2 ^ 32 * a) 0)
/-- The poison bits of 64 lanes. -/
def poisonOf (l : List (Nat × Bool)) : BitVec 64 := BitVec.ofNat 64 (l.foldr (fun x a => b2n x.2 + 2 * a) 0)
/-- Vector register `r` holding 64 lanes. -/
def VEngine.setV (e : VEngine) (r : Nat) (l : List (Nat × Bool)) : VEngine :=
  { e with v := tput 0#2048 r (ofVLanes l) e.v, vp := tput 0#64 r (poisonOf l) e.vp }
/-- Scalar register `r`; s0 reads 0. -/
def VEngine.sreg (e : VEngine) (r : Nat) : BitVec 64 := if r = 0 then 0 else tget 0#64 e.s r
/-- Whether scalar register `r` is poisoned. -/
def VEngine.sbad (e : VEngine) (r : Nat) : Bool := r ≠ 0 && bitOf e.sp.toNat r
/-- Scalar register `r` holding `x`; a write to s0 is discarded. -/
def VEngine.setS (e : VEngine) (r : Nat) (x : BitVec 64) (bad : Bool) : VEngine :=
  if r = 0 then e
  else { e with s := tput 0#64 r x e.s, sp := BitVec.ofNat 16 (putFld e.sp.toNat r r (b2n bad)) }
/-- Predicate register `r`; p0 reads all true. -/
def VEngine.preg (e : VEngine) (r : Nat) : BitVec 64 := if r = 0 then BitVec.allOnes 64 else tget 0#64 e.p r
/-- Predicate register `r` holding `x`; p0 is not written. -/
def VEngine.setP (e : VEngine) (r : Nat) (x : BitVec 64) : VEngine :=
  if r = 0 then e else { e with p := tput 0#64 r x e.p }
/-- The active lanes under PG and PN (R104). -/
def VEngine.active (e : VEngine) (pg : BitVec 3) (pn : Bool) : BitVec 64 :=
  if pn then ~~~(e.preg pg.toNat) else e.preg pg.toNat

/-- A B or C source under BSEL: the vector register, a scalar's low half, or one lane of the vector register. -/
def VEngine.source (e : VEngine) (x : VForm) (r : BitVec 5) : List (Nat × Bool) :=
  match x.bsel.toNat with
  | 1 => List.replicate 64 ((e.sreg r.toNat).toNat % 2 ^ 32, e.sbad r.toNat)
  | 2 => List.replicate 64 (lget (0, false) (e.vreg r.toNat) x.lane.toNat)
  | _ => e.vreg r.toNat

/-- An operation on elements applied to lanes: on the whole lane, or on both halves under a packed TYPE
(R105). -/
def onElems (f : FFmt) (g : Nat → Nat → Nat → Nat × Nat) (a b c : Nat) : Nat × Nat :=
  if f.width = 16 then
    let l := g (a % 65536) (b % 65536) (c % 65536)
    let h := g (a / 65536) (b / 65536) (c / 65536)
    (l.1 % 65536 + 65536 * (h.1 % 65536), l.2 ||| h.2)
  else g a b c

/-- A lane-wise operation: active lanes take `g` of their sources, with the poison of any of them; other lanes
keep their values and raise no flag (R95, R104). Answers the destination's lanes and the flags. -/
def laneOp (act : BitVec 64) (old a b c : List (Nat × Bool)) (g : Nat → Nat → Nat → Nat × Nat) :
    List (Nat × Bool) × Nat :=
  let r := (List.range 64).map fun i =>
    if bitOf act.toNat i then
      let x := lget (0, false) a i
      let y := lget (0, false) b i
      let z := lget (0, false) c i
      let o := g x.1 y.1 z.1
      ((o.1, x.2 || y.2 || z.2), o.2)
    else (lget (0, false) old i, 0)
  (r.map fun x => x.1, (r.map fun x => x.2).foldl (fun m x => m ||| x) 0)

/-- No third source. -/
def noLanes : List (Nat × Bool) := []

/-- One vector source. -/
def VEngine.un (e : VEngine) (x : VForm) (g : Nat → Nat × Nat) : VEngine × Nat :=
  let r := laneOp (e.active x.pg x.pn) (e.vreg x.d.toNat) (e.vreg x.a.toNat) noLanes noLanes fun a _ _ => g a
  (e.setV x.d.toNat r.1, r.2)
/-- Two sources, B under BSEL. -/
def VEngine.bin (e : VEngine) (x : VForm) (g : Nat → Nat → Nat × Nat) : VEngine × Nat :=
  let r := laneOp (e.active x.pg x.pn) (e.vreg x.d.toNat) (e.vreg x.a.toNat) (e.source x x.b) noLanes fun a b _ => g a b
  (e.setV x.d.toNat r.1, r.2)
/-- Three sources, B and C under BSEL. -/
def VEngine.tri (e : VEngine) (x : VForm) (g : Nat → Nat → Nat → Nat × Nat) : VEngine × Nat :=
  let r := laneOp (e.active x.pg x.pn) (e.vreg x.d.toNat) (e.vreg x.a.toNat) (e.source x x.b) (e.source x x.c) g
  (e.setV x.d.toNat r.1, r.2)
/-- A comparison: active lanes of a predicate register take `g` (R106). -/
def VEngine.comp (e : VEngine) (x : VForm) (g : Nat → Nat → Bool × Nat) : VEngine × Nat :=
  let act := e.active x.pg x.pn
  let a := e.vreg x.a.toNat
  let b := e.source x x.b
  let r := (List.range 64).map fun i => if bitOf act.toNat i then g (lget (0, false) a i).1 (lget (0, false) b i).1
    else (bitOf (e.preg x.d.toNat).toNat i, 0)
  (e.setP x.d.toNat (BitVec.ofNat 64 (r.foldr (fun y m => b2n y.1 + 2 * m) 0)), (r.map fun y => y.2).foldl (fun m y => m ||| y) 0)
/-- A scalar operation on sA and sB: the result takes the poison of both. -/
def VEngine.sbin (e : VEngine) (x : VForm) (v : BitVec 64) : VEngine :=
  e.setS x.d.toNat v (e.sbad x.a.toNat || e.sbad x.b.toNat)

/-! ### Element conversion on load and store (Table 4.10) -/

/-- Bytes of an element under ES. -/
def esBytes (es : Nat) : Nat := if es = 0 then 4 else if es = 1 then 2 else 1

/-- A loaded element widened into a lane, with its flags. -/
def widen (es ty raw : Nat) : Nat × Nat :=
  if es = 0 ∨ ty = 0xA then (raw, 0)
  else
    let r := fFP32.ofVal .rne (decodeElem ty raw)
    (r.1, if codeSNaN ty raw then xNV else 0)

/-- A lane narrowed to a stored element, with its flags. -/
def narrow (es ty : Nat) (rm : RMode) (lane : Nat) : Nat × Nat :=
  if es = 0 then (lane, 0)
  else if ty = 0xA then (lane % 2 ^ (8 * esBytes es), 0)
  else
    let r := convTo ty rm (fFP32.decode lane)
    (r.1, r.2 ||| (if fFP32.isSNaN lane then xNV else 0))

end Sys2Proof.Machine
end

