-- ==== Sys2Proof/Machine/Program.lean ====
section
/-! DEFINITION. The running program of a room's vector engine (R94 to R101, R124): its start and end, its flags, its
loops, its accesses to the Larder and to memory (R116 to R120). -/

namespace Sys2Proof.Machine

/-! ### Start and end -/

/-- Room `g` with its vector engine as given. -/
def State.setVe (s : State) (g : Nat) (e : VEngine) : State := s.setRoom g { s.room g with ve := e }
/-- The vector engine of room `g`. -/
def State.ve (s : State) (g : Nat) : VEngine := (s.room g).ve
/-- The command whose program the vector engine of room `g` runs. -/
def State.vcmd (s : State) (g : Nat) : Option Cmd := if (s.ve g).running then s.cmd (g / 8) (s.ve g).cmd else none
/-- The command of the running program changed by `f`. -/
def State.onVcmd (s : State) (g : Nat) (f : Cmd → Cmd) : State :=
  match s.vcmd g with
  | some c => s.putCmd (g / 8) (f c)
  | none => s

/-- Whether the program of room `g` issues the instruction `w` next. -/
def State.issues (s : State) (g : Nat) (w : BitVec 64) : Bool :=
  s.roomUp g && (s.ve g).running && (s.ve g).load.isNone && decide ((s.ve g).prog[(s.ve g).pc]? = some w)

/-- The vector engine as an issuer of an access. -/
def vectorWho (g access ctx : Nat) : Who := ⟨roomAgent 2 g, access, some ctx⟩

/-- The instructions in `n` × 8 bytes. -/
def wordsOfBytes (bs : Bytes) : List (BitVec 64) := (chunks 8 bs.length bs).map fun b => BitVec.ofNat 64 (ofBytes b)

/-- The engine's state at the start of a command's program (R94). -/
def startEngine (c : Cmd) (ws : List (BitVec 64)) : VEngine :=
  let args := (List.range 6).foldl (fun t i => tput 0#64 (i + 1) (BitVec.ofNat 64 (c.wd (i + 2))) t) []
  { VEngine.reset with running := true, cmd := c.id, prog := ws, s := args }

/-- VECTOR reads and checks its program, and starts it (R94 to R97). A program that reads poisoned does not
start. -/
def State.startVector (s : State) (g : Nat) : State :=
  match s.headCmd g 1 0x10 with
  | none => s
  | some c =>
    if (s.ve g).running then s
    else
      let n := c.f 1 44 32
      let p := c.f 1 20 0
      if larderSize < p + 8 * n then s.endCmd (g / 8) c.id stUNSUP
      else
        let r := s.larderRead g (vectorWho g 4 c.ctx) p (8 * n)
        let ws := wordsOfBytes (r.1.map fun b => b.1)
        if r.1.any fun b => b.2 then r.2.endCmd (g / 8) c.id stPOISON
        else if !programOk (s.levelOf (s.suiteOfDie (g / 64))) ws then r.2.endCmd (g / 8) c.id stUNSUP
        else (r.2.setVe g (startEngine c ws)).putCmd (g / 8) { c with st := .running }

/-- Flags are raised: they stick in the accumulator, and in the record whatever CLRFLG clears (R111, R112). -/
def State.raiseFlags (s : State) (g fl : Nat) : State :=
  if fl = 0 then s
  else
    let e := s.ve g
    let s := s.setVe g { e with flags := e.flags ||| BitVec.ofNat 16 fl }
    s.onVcmd g fun c => { c with num := c.num ||| BitVec.ofNat 8 (fl / 256), vfl := c.vfl ||| BitVec.ofNat 8 fl }

/-- PS of Table 4.9. -/
def flPS : Nat := 32

/-- The program ends under R98: OK, or POISON with PS raised (R99 to R101). -/
def State.endProgram (s : State) (g : Nat) : State :=
  match s.vcmd g with
  | none => s
  | some c =>
    let bad := bitOf c.vfl.toNat 5
    let s := s.putCmd (g / 8) { c with prog := (s.ve g).marks.toNat + 1, dirty := if bad then c.dirty else none }
    s.endCmd (g / 8) c.id (if bad then stPOISON else stOK)

/-- The program ends early at its instruction (R95, R120). -/
def State.stopProgram (s : State) (g : Nat) (st : BitVec 5) : State := s.endCmd (g / 8) (s.ve g).cmd st

/-! ### Order of instructions (R124) -/

/-- The place that follows place `p`, through the ends of the loops whose bodies end there. -/
def nextPlace (p : Nat) : List LoopFrame → Nat × List LoopFrame
  | [] => (p + 1, [])
  | l :: t =>
    if p = l.last then (if 1 < l.left then (l.first, { l with left := l.left - 1 } :: t) else nextPlace p t)
    else (p + 1, l :: t)

/-- The program goes on at place `p`, and ends past its last instruction (R98). -/
def State.goTo (s : State) (g p : Nat) (loops : List LoopFrame) : State :=
  let s := s.setVe g { s.ve g with pc := p, loops := loops, load := none }
  if (s.ve g).prog.length ≤ p then s.endProgram g else s

/-- The program goes on after the instruction at place `p`. -/
def State.after (s : State) (g p : Nat) : State :=
  let n := nextPlace p (s.ve g).loops
  s.goTo g n.1 n.2

/-- The program goes on after its present instruction. -/
def State.stepOn (s : State) (g : Nat) : State := s.after g (s.ve g).pc

/-- An instruction that changes registers and raises flags. -/
def State.vpure (s : State) (g : Nat) (w : BitVec 64) (f : VEngine → VEngine × Nat) : State :=
  if s.issues g w then
    let r := f (s.ve g)
    ((s.setVe g r.1).raiseFlags g r.2).stepOn g
  else s

/-! ### Addresses (R103, R116) -/

/-- A lane of a memory form: its number, its address, whether its index is poisoned. -/
structure LaneAddr where
  i   : Nat
  a   : Nat
  bad : Bool
deriving DecidableEq, Repr

/-- The base address of a memory form. -/
def VEngine.base (e : VEngine) (x : VForm) : Int :=
  ((e.sreg x.a.toNat).toNat : Int) + (if x.post then 0 else x.simm)

/-- The active lanes of a memory form with their addresses (Table 4.5). -/
def VEngine.laneAddrs (e : VEngine) (x : VForm) : List LaneAddr :=
  let n := esBytes x.es
  let b := e.base x
  let ix := e.vreg x.b.toNat
  (bitsOf 64 (e.active x.pg x.pn).toNat).map fun i =>
    match x.am with
    | 0 => ⟨i, ofSigned 64 (b + (i * n : Nat)), false⟩
    | 1 => ⟨i, ofSigned 64 (b + (i : Int) * (e.sreg x.b.toNat).toInt), false⟩
    | 2 => ⟨i, ofSigned 64 (b + ((lget (0, false) ix i).1 : Int)), (lget (0, false) ix i).2⟩
    | _ => ⟨i, ofSigned 64 b, false⟩

/-- Whether the address calculation of a memory form reads a poisoned scalar (R95). DESIGN CHOICE: R95 speaks of scalars
only, so a poisoned index lane under AM 2 ends nothing: its value forms the lane's address, and what the lane loads or
stores is poisoned. -/
def VEngine.badAddr (e : VEngine) (x : VForm) : Bool :=
  e.sbad x.a.toNat || (x.am = 1 && e.sbad x.b.toNat)

/-- A contained fault of the vector engine; Larder cases are counted (R120). -/
def State.vfault (s : State) (g src a access : Nat) (larder : Bool) : State :=
  match s.vcmd g with
  | none => s
  | some c =>
    let s := if larder then s.incEnt (0x5220 + g / 64) (g % 64 + 1) 1 else s
    let r := accReport src (roomAgent 2 g) access a (some c.ctx)
    s.capture (g / 64) (if larder then { r with room := true } else { r with addr := none })

/-- The first fault of Larder accesses of `n` bytes at given addresses: its source and address. -/
def larderFault (n : Nat) (l : List Nat) : Option (Nat × Nat) :=
  l.findSome? fun a => if a % n ≠ 0 then some (0x25, a) else if larderSize < a + n then some (0x24, a) else none

/-! ### Loads -/

/-- Loaded elements written into the active lanes of vD (R104, R119). -/
def VEngine.loadInto (e : VEngine) (x : VForm) (ls : List LaneAddr) (t : Tab (List (Byte × Bool))) (larder : Bool) :
    VEngine × Nat :=
  let n := esBytes x.es
  let got := ls.map fun l =>
    let bs := bytesAt t ⟨larder, l.a⟩ n
    (l.i, widen x.es x.ty.toNat (ofBytes (bs.map fun b => b.1)), l.bad || bs.any fun b => b.2)
  let lanes := (e.vreg x.d.toNat).zipIdx.map fun o =>
    match got.find? fun y => y.1 = o.2 with
    | some y => (y.2.1.1, y.2.2)
    | none => o.1
  (e.setV x.d.toNat lanes, (got.map fun y => y.2.1.2).foldl (fun m y => m ||| y) 0)

/-- sA after the access under POST. -/
def VEngine.postInc (e : VEngine) (x : VForm) : VEngine :=
  if x.post then e.setS x.a.toNat (BitVec.ofInt 64 (((e.sreg x.a.toNat).toNat : Int) + x.simm)) (e.sbad x.a.toNat) else e

/-- An engine for the vector engine's accesses. -/
def vectorUnit (g : Nat) (c : Cmd) (access : Nat) (shelf keep : Bool) : Engine := ⟨g, 2, access, c, shelf, keep⟩

/-- The accesses of `n` bytes of the Larder at each lane. -/
def laneKeys (n : Nat) (ls : List LaneAddr) : List Nat := (ls.flatMap fun l => (Loc.mk true l.a).keys n).eraseDups

/-- The accesses of `n` bytes of memory at each lane, by their first bytes. -/
def laneFirsts (n : Nat) (ls : List LaneAddr) : List Nat := ls.flatMap fun l => (Loc.mk false l.a).firsts n

/-- Accesses to the Larder need no translation. -/
def larderSpots (keys : List Nat) : List Spot := keys.map fun k => ⟨k, 0, .mem 0⟩

/-- LDL (R116). -/
def State.loadLarder (s : State) (g : Nat) (x : VForm) (c : Cmd) : State :=
  let e := s.ve g
  let ls := e.laneAddrs x
  let n := esBytes x.es
  if e.badAddr x then s.stopProgram g stPOISON
  else match larderFault n (ls.map fun l => l.a) with
    | some f => s.vfault g f.1 f.2 0 true
    | none =>
      let t := s.readAll (vectorUnit g c 0 false false) (larderSpots (laneKeys n ls))
      let r := (t.2.ve g).loadInto x ls t.1 true
      ((t.2.setVe g (r.1.postInc x)).raiseFlags g r.2).stepOn g

/-- The data of an LDM is there, or its lines are asked for (R117, R120, R124). `fill` is what the waiting load may
still do to the Shelf; none when the load issues now, and completes at once only on Shelf hits. -/
def State.loadMemory (s : State) (g : Nat) (x : VForm) (c : Cmd) (fill : Option Bool) : State :=
  let e := s.ve g
  let ls := e.laneAddrs x
  let n := esBytes x.es
  let shelf := x.ord = 0 && fill.getD true
  if e.badAddr x then s.stopProgram g stPOISON
  else if ls.any fun l => l.a % n ≠ 0 then s.vfault g 0x25 0 0 false
  else
    let q := vectorUnit g c 0 shelf true
    let r := s.plan q (laneFirsts n ls) false true
    match r.1 with
    | .kill k pa => r.2.raiseC2 q k pa
    | .wait => r.2.setVe g { r.2.ve g with load := some ⟨fill.getD true⟩ }
    | .ready l =>
      if l.any (fun p => match p.tgt with | .remote _ => true | _ => false) then r.2.stopProgram g stREMOTE
      else if fill.isNone && !(shelf && l.all fun p => (r.2.shelfLine g (p.pa / 64)).isSome) then
        r.2.setVe g { r.2.ve g with load := some ⟨true⟩ }
      else
        let t := r.2.readAll q l
        let dev := !l.isEmpty && l.all fun p => match p.tgt with | .pcie _ => true | _ => false
        let s := if x.ord = 1 && !dev then t.2.shelfClear g else t.2
        let y := (s.ve g).loadInto x ls t.1 false
        ((s.setVe g (y.1.postInc x)).raiseFlags g y.2).stepOn g

/-! ### Stores -/

/-- Pieces of bytes joined where one ends at the start of the next. -/
def joinRuns (l : List (Nat × List (Byte × Bool))) : List (Nat × List (Byte × Bool)) :=
  (l.foldl (fun (acc : List (Nat × List (Byte × Bool))) p =>
    match acc with
    | (a, bs) :: t => if p.1 = a + bs.length then (a, bs ++ p.2) :: t else p :: acc
    | [] => [p]) []).reverse

/-- The stored pieces of the active lanes with the flags of narrowing, PS among them (R95, R119). -/
def VEngine.storePieces (e : VEngine) (x : VForm) (ls : List LaneAddr) : List (Nat × List (Byte × Bool)) × Nat :=
  let n := esBytes x.es
  let v := e.vreg x.d.toNat
  let ps := ls.map fun l =>
    let y := lget (0, false) v l.i
    let o := narrow x.es x.ty.toNat x.mode y.1
    let bad := y.2 || l.bad
    ((l.a, (toBytes n o.1).map fun b => (b, bad)), o.2 ||| (if bad then flPS else 0))
  (ps.map fun p => p.1, (ps.map fun p => p.2).foldl (fun m f => m ||| f) 0)

/-- Lanes that store to one address take an order that the manual leaves open: lanes rotated by a free value. -/
def State.storeOrder (s : State) (ls : List LaneAddr) : List LaneAddr × State :=
  if (ls.map fun l => l.a).eraseDups.length = ls.length then (ls, s)
  else
    let k := s.freeVal % ls.length
    (ls.drop k ++ ls.take k, s.drawFree)

/-- STL (R116). -/
def State.storeLarder (s : State) (g : Nat) (x : VForm) (c : Cmd) : State :=
  let e := s.ve g
  let ls := e.laneAddrs x
  let n := esBytes x.es
  if e.badAddr x then s.stopProgram g stPOISON
  else match larderFault n (ls.map fun l => l.a) with
    | some f => s.vfault g f.1 f.2 1 true
    | none =>
      let o := s.storeOrder ls
      let p := e.storePieces x o.1
      let s := each (joinRuns p.1) (fun r s => s.larderWrite g (vectorWho g 1 c.ctx) r.1 r.2) o.2
      ((s.setVe g ((s.ve g).postInc x)).raiseFlags g p.2).stepOn g

/-- The dirty extent grows over bytes `lo` to `hi` − 1 (R99). -/
def growDirty (lo hi : Nat) : Option Dirty → Option Dirty
  | none => some ⟨false, lo, hi⟩
  | some d => some ⟨false, min d.lo lo, max d.hi hi⟩

/-- STM (R118, R120). A store that waits for a translation or a tile does not issue. -/
def State.storeMemory (s : State) (g : Nat) (x : VForm) (c : Cmd) : State :=
  let e := s.ve g
  let ls := e.laneAddrs x
  let n := esBytes x.es
  if e.badAddr x then s.stopProgram g stPOISON
  else if ls.any fun l => l.a % n ≠ 0 then s.vfault g 0x25 0 1 false
  else
    let q := vectorUnit g c 1 false false
    let r := s.plan q (laneFirsts n ls) false true
    match r.1 with
    | .kill k pa => r.2.raiseC2 q k pa
    | .wait => r.2
    | .ready l =>
      if l.any (fun p => match p.tgt with | .remote _ => true | _ => false) then r.2.stopProgram g stREMOTE
      else
        let f := r.2.flagsReady q (l.filterMap fun y => r.2.flagWrite q y)
        if !f.1 then f.2
        else
        let s := if x.ord = 1 then f.2.rlineFence (g / 8) x.scope else f.2
        let o := s.storeOrder ls
        let p := e.storePieces x o.1
        let s := each (joinRuns p.1) (fun r s => s.writeRun q 1 .keep l ⟨false, r.1⟩ r.2) o.2
        let s := each ls (fun y s => s.onVcmd g fun c => { c with dirty := growDirty y.a (y.a + n) c.dirty }) s
        ((s.setVe g ((s.ve g).postInc x)).raiseFlags g p.2).stepOn g

/-- An access of the running program, once its instruction issues. -/
def State.vaccess (s : State) (g : Nat) (w : BitVec 64) (f : Cmd → State → State) : State :=
  if s.issues g w then
    match s.vcmd g with
    | some c => f c s
    | none => s
  else s

/-- SLDL (R116). -/
def State.loadScalar (s : State) (g : Nat) (x : VForm) (c : Cmd) : State :=
  let e := s.ve g
  let a := ofSigned 64 (((e.sreg x.a.toNat).toNat : Int) + x.simm)
  if e.sbad x.a.toNat then s.stopProgram g stPOISON
  else match larderFault 8 [a] with
    | some f => s.vfault g f.1 f.2 0 true
    | none =>
      let r := s.larderRead g (vectorWho g 0 c.ctx) a 8
      let v := BitVec.ofNat 64 (ofBytes (r.1.map fun b => b.1))
      (r.2.setVe g ((r.2.ve g).setS x.d.toNat v (r.1.any fun b => b.2))).stepOn g

/-- SSTL (R116). -/
def State.storeScalar (s : State) (g : Nat) (x : VForm) (c : Cmd) : State :=
  let e := s.ve g
  let a := ofSigned 64 (((e.sreg x.a.toNat).toNat : Int) + x.simm)
  if e.sbad x.a.toNat then s.stopProgram g stPOISON
  else match larderFault 8 [a] with
    | some f => s.vfault g f.1 f.2 1 true
    | none =>
      let bad := e.sbad x.d.toNat
      let bs := (toBytes 8 (e.sreg x.d.toNat).toNat).map fun b => (b, bad)
      let s := s.larderWrite g (vectorWho g 1 c.ctx) a bs
      (s.raiseFlags g (if bad then flPS else 0)).stepOn g

/-- RECV takes the oldest row of the drain port, its words decoded (R121, R456); on an empty port it waits. -/
def State.recvRow (s : State) (g : Nat) (x : VForm) (c : Cmd) : State :=
  match (s.room g).port with
  | [] => s
  | r :: t =>
    let d := (List.range 16).foldl (fun (a : List (BitVec 128 × Bool) × State) m =>
      let w := BitVec.ofNat 128 (r.lanes.toNat / 2 ^ (128 * m))
      let y := a.2.roomLoad g (vectorWho g 0 c.ctx) true (0x400000 + r.slot * 0x100 + m * 16) w (tget 0#16 r.code m)
      (a.1 ++ [y.1], y.2)) ([], s)
    let lanes := (List.range 64).map fun i =>
      let w := lget (0#128, false) d.1 (i / 4)
      (w.1.toNat / 2 ^ (32 * (i % 4)) % 2 ^ 32, w.2 || bitOf r.bad.toNat i)
    let s := d.2.setRoom g { d.2.room g with port := t }
    (s.setVe g ((s.ve g).setV x.d.toNat lanes)).stepOn g

/-! ### Control -/

/-- MARK (R99): the stores before it are performed. -/
def State.markProgram (s : State) (g : Nat) (_ : Cmd) : State :=
  let e := s.ve g
  let s := s.setVe g { e with marks := e.marks + 1 }
  (s.onVcmd g fun c => { c with prog := (e.marks + 1).toNat, dirty := none }).stepOn g

/-- LOOP (R124). -/
def State.loopProgram (s : State) (g : Nat) (x : VForm) : State :=
  let e := s.ve g
  let n := fld x.imm.toNat 11 0
  let k := (e.sreg x.a.toNat).toNat
  if e.sbad x.a.toNat then s.stopProgram g stPOISON
  else if k = 0 ∨ n = 0 then s.after g (e.pc + n)
  else s.goTo g (e.pc + 1) (⟨e.pc + 1, e.pc + n, k⟩ :: e.loops)

/-- The condition of BR (Table 4.7). -/
def brTaken (ty : Nat) (a b : BitVec 64) : Bool :=
  match ty with
  | 0 => true
  | 1 => decide (a = b)
  | 2 => decide (a ≠ b)
  | 3 => decide (a.toInt < b.toInt)
  | 4 => decide (b.toInt ≤ a.toInt)
  | 5 => decide (a.toNat < b.toNat)
  | _ => decide (b.toNat ≤ a.toNat)

/-- BR (R95, R106). DESIGN CHOICE: TYPE 0 reads A and B as the other types do, so a poisoned one ends the program; the
manual does not say whether "always" uses them. -/
def State.branch (s : State) (g : Nat) (x : VForm) : State :=
  let e := s.ve g
  if e.sbad x.a.toNat ∨ e.sbad x.b.toNat then s.stopProgram g stPOISON
  else if brTaken x.ty.toNat (e.sreg x.a.toNat) (e.sreg x.b.toNat) then s.goTo g ((e.pc : Int) + x.simm).toNat e.loops
  else s.stepOn g

/-! ### Reductions and the exact window (R113 to R115) -/

/-- Neighbours combined, one level of the tree. -/
def pairUp (f : Nat → Nat → Nat × Nat) : List Nat → List Nat × Nat
  | a :: b :: t =>
    let r := f a b
    let x := pairUp f t
    (r.1 :: x.1, r.2 ||| x.2)
  | l => (l, 0)

/-- `n` levels of the tree. -/
def treeOf (f : Nat → Nat → Nat × Nat) : Nat → List Nat → Nat × Nat
  | 0, l => (l.headD 0, 0)
  | n + 1, l =>
    let r := pairUp f l
    let x := treeOf f n r.1
    (x.1, r.2 ||| x.2)

/-- A reduction of the lanes of vA; an inactive lane enters as `unit` (R113, R95). -/
def VEngine.reduce (e : VEngine) (x : VForm) (unit : Nat) (f : Nat → Nat → Nat × Nat) : VEngine × Nat :=
  let act := (e.active x.pg x.pn).toNat
  let v := e.vreg x.a.toNat
  let r := treeOf f 6 (v.zipIdx.map fun y => if bitOf act y.2 then y.1.1 else unit)
  let bad := v.zipIdx.any fun y => bitOf act y.2 && y.1.2
  (e.setS x.d.toNat (BitVec.ofNat 64 (r.1 % 2 ^ 32)) bad, r.2 ||| (if bad then flPS else 0))

/-- The exact partial in a pair of scalar registers. -/
def VEngine.pair (e : VEngine) (r : Nat) : BitVec 128 := e.sreg (r + 1) ++ e.sreg r
/-- Whether a register of a pair is poisoned. -/
def VEngine.pairBad (e : VEngine) (r : Nat) : Bool := e.sbad r || e.sbad (r + 1)

/-- VSUMX (R57, R114). DESIGN CHOICE: a signalling NaN lane raises NR alone, since R57 makes of a NaN lane a NaR result
and the manual does not say whether the sum is an arithmetic operation that raises NV. -/
def VEngine.sumExact (e : VEngine) (x : VForm) : VEngine × Nat :=
  let w := toSigned 10 (x.imm.toNat % 1024)
  let v := e.vreg x.a.toNat
  let on := (bitsOf 64 (e.active x.pg x.pn).toNat).map fun i => lget (0, false) v i
  let vals := on.map fun y => (fFP32.decode y.1).int?
  let qs := (vals.filterMap fun y => y).map fun y => windowQ w y.1 y.2
  let fl := qs.foldl (fun m q => m ||| q.2) 0#8
  let old := e.pair x.d.toNat
  let bad := e.pairBad x.d.toNat || on.any fun y => y.2
  let r : BitVec 128 × BitVec 8 :=
    if old = narCode ∨ vals.any (fun y => y.isNone) then (narCode, nfNR)
    else
      let c := clampP (old.toInt + (qs.map fun q => q.1).foldl (· + ·) 0)
      (partialBits c.1, if c.2 then nfOV else 0#8)
  let e := (e.setS x.d.toNat (r.1.extractLsb' 0 64) bad).setS (x.d.toNat + 1) (r.1.extractLsb' 64 64) bad
  (e, (fl ||| r.2).toNat * 256 + (if bad then flPS else 0))

/-- XCVT (R115). -/
def VEngine.convExact (e : VEngine) (x : VForm) : VEngine × Nat :=
  let w := toSigned 10 (x.imm.toNat % 1024)
  let p := e.pair x.a.toNat
  let bad := e.pairBad x.a.toNat
  let r := convOut x.fmt w (if p = narCode then .nar else .val p.toInt)
  (e.setS x.d.toNat (BitVec.ofNat 64 r.1) bad, r.2.toNat * 256 + (if bad then flPS else 0))

/-- The condition of an ICMP (Table 4.7). -/
def icmp (cond a b : Nat) : Bool :=
  match cond with
  | 0 => decide (a = b)
  | 1 => decide (a ≠ b)
  | 2 => slt 32 a b
  | 3 => !slt 32 a b
  | 4 => decide (a < b)
  | _ => decide (b ≤ a)

end Sys2Proof.Machine
end

