-- ==== Sys2Proof/Machine/VectorCmds.lean ====
section
/-! DEFINITION. The VECTOR command and the instructions of the vector engine (Table 4.12). An instruction acts when the
program of its room has come to it. -/

namespace Sys2Proof.Machine

/-! ### The command -/

/-- VECTOR (R96). -/
def execVector (g : Nat) (s : State) : Host.Outcome State Fault Refusal :=
  act (decide (g < 256)) (fun s => s.startVector g) s

/-! ### Control (slot C and S) -/

/-- NOP_INSTRUCTION. -/
def execVnop (g : Nat) (x : VForm) (s : State) : Host.Outcome State Fault Refusal :=
  act (decide (g < 256)) (fun s => s.vpure g (encodeV 0x00#8 x) fun e => (e, 0)) s

/-- HALT (R98). -/
def execHalt (g : Nat) (x : VForm) (s : State) : Host.Outcome State Fault Refusal :=
  act (decide (g < 256)) (fun s => s.vaccess g (encodeV 0x01#8 x) fun _ s => s.endProgram g) s

/-- MARK (R99). -/
def execMark (g : Nat) (x : VForm) (s : State) : Host.Outcome State Fault Refusal :=
  act (decide (g < 256)) (fun s => s.vaccess g (encodeV 0x02#8 x) fun c s => s.markProgram g c) s

/-- LOOP (R124). -/
def execLoop (g : Nat) (x : VForm) (s : State) : Host.Outcome State Fault Refusal :=
  act (decide (g < 256)) (fun s => s.vaccess g (encodeV 0x03#8 x) fun _ s => s.loopProgram g x) s

/-- BR (R106). -/
def execBr (g : Nat) (x : VForm) (s : State) : Host.Outcome State Fault Refusal :=
  act (decide (g < 256)) (fun s => s.vaccess g (encodeV 0x04#8 x) fun _ s => s.branch g x) s

/-- VFENCE (R118, R179). -/
def execVfence (g : Nat) (x : VForm) (s : State) : Host.Outcome State Fault Refusal :=
  act (decide (g < 256)) (fun s => s.vaccess g (encodeV 0x05#8 x) fun _ s => (s.rlineFence (g / 8) x.c.toNat).stepOn g) s

/-- RDFLG (R111). -/
def execRdflg (g : Nat) (x : VForm) (s : State) : Host.Outcome State Fault Refusal :=
  act (decide (g < 256)) (fun s => s.vpure g (encodeV 0x06#8 x) fun e => (e.setS x.d.toNat (e.flags.setWidth 64) false, 0)) s

/-- CLRFLG (R111). -/
def execClrflg (g : Nat) (x : VForm) (s : State) : Host.Outcome State Fault Refusal :=
  act (decide (g < 256)) (fun s => s.vpure g (encodeV 0x07#8 x) fun e => ({ e with flags := 0#16 }, 0)) s

/-! ### Scalars -/

/-- SADD. -/
def execSadd (g : Nat) (x : VForm) (s : State) : Host.Outcome State Fault Refusal :=
  act (decide (g < 256)) (fun s => s.vpure g (encodeV 0x08#8 x) fun e => (e.sbin x (e.sreg x.a.toNat + e.sreg x.b.toNat), 0)) s

/-- SSUB. -/
def execSsub (g : Nat) (x : VForm) (s : State) : Host.Outcome State Fault Refusal :=
  act (decide (g < 256)) (fun s => s.vpure g (encodeV 0x0A#8 x) fun e => (e.sbin x (e.sreg x.a.toNat - e.sreg x.b.toNat), 0)) s

/-- SADDI. -/
def execSaddi (g : Nat) (x : VForm) (s : State) : Host.Outcome State Fault Refusal :=
  act (decide (g < 256)) (fun s => s.vpure g (encodeV 0x09#8 x) fun e => (e.setS x.d.toNat (e.sreg x.a.toNat + x.imm.signExtend 64) (e.sbad x.a.toNat), 0)) s

/-- SMUL. -/
def execSmul (g : Nat) (x : VForm) (s : State) : Host.Outcome State Fault Refusal :=
  act (decide (g < 256)) (fun s => s.vpure g (encodeV 0x0B#8 x) fun e => (e.sbin x (e.sreg x.a.toNat * e.sreg x.b.toNat), 0)) s

/-- SAND. -/
def execSand (g : Nat) (x : VForm) (s : State) : Host.Outcome State Fault Refusal :=
  act (decide (g < 256)) (fun s => s.vpure g (encodeV 0x0C#8 x) fun e => (e.sbin x (e.sreg x.a.toNat &&& e.sreg x.b.toNat), 0)) s

/-- SOR. -/
def execSor (g : Nat) (x : VForm) (s : State) : Host.Outcome State Fault Refusal :=
  act (decide (g < 256)) (fun s => s.vpure g (encodeV 0x0D#8 x) fun e => (e.sbin x (e.sreg x.a.toNat ||| e.sreg x.b.toNat), 0)) s

/-- SXOR. -/
def execSxor (g : Nat) (x : VForm) (s : State) : Host.Outcome State Fault Refusal :=
  act (decide (g < 256)) (fun s => s.vpure g (encodeV 0x0E#8 x) fun e => (e.sbin x (e.sreg x.a.toNat ^^^ e.sreg x.b.toNat), 0)) s

/-- A scalar shifted by an amount under the TYPE of SSH. -/
def shiftScalar (ty : Nat) (a : BitVec 64) (n : Nat) : BitVec 64 :=
  if ty = 0 then a <<< n else if ty = 1 then a >>> n else a.sshiftRight n

/-- SSH. -/
def execSsh (g : Nat) (x : VForm) (s : State) : Host.Outcome State Fault Refusal :=
  act (decide (g < 256)) (fun s => s.vpure g (encodeV 0x0F#8 x) fun e => (e.sbin x (shiftScalar x.ty.toNat (e.sreg x.a.toNat) ((e.sreg x.b.toNat + x.imm.signExtend 64).toNat % 64)), 0)) s

/-- SMOVI. -/
def execSmovi (g : Nat) (x : JForm) (s : State) : Host.Outcome State Fault Refusal :=
  act (decide (g < 256)) (fun s => s.vpure g (encodeJ 0x10#8 x) fun e => (e.setS x.d.toNat (x.imm.signExtend 64) false, 0)) s

/-- SMOVH: the low half of sD stays. -/
def execSmovh (g : Nat) (x : JForm) (s : State) : Host.Outcome State Fault Refusal :=
  act (decide (g < 256)) (fun s => s.vpure g (encodeJ 0x11#8 x) fun e => (e.setS x.d.toNat (x.imm ++ (e.sreg x.d.toNat).extractLsb' 0 32) (e.sbad x.d.toNat), 0)) s

/-- VMOVI's lanes. -/
def VEngine.moveImm (e : VEngine) (x : JForm) : VEngine :=
  let act := (e.active x.pg x.pn).toNat
  e.setV x.d.toNat ((e.vreg x.d.toNat).zipIdx.map fun y => if bitOf act y.2 then (x.imm.toNat, false) else y.1)

/-- VMOVI. -/
def execVmovi (g : Nat) (x : JForm) (s : State) : Host.Outcome State Fault Refusal :=
  act (decide (g < 256)) (fun s => s.vpure g (encodeJ 0x12#8 x) fun e => (e.moveImm x, 0)) s

/-! ### Larder scalars -/

/-- SLDL (R116). -/
def execSldl (g : Nat) (x : VForm) (s : State) : Host.Outcome State Fault Refusal :=
  act (decide (g < 256)) (fun s => s.vaccess g (encodeV 0x13#8 x) fun c s => s.loadScalar g x c) s

/-- SSTL (R116). -/
def execSstl (g : Nat) (x : VForm) (s : State) : Host.Outcome State Fault Refusal :=
  act (decide (g < 256)) (fun s => s.vaccess g (encodeV 0x14#8 x) fun c s => s.storeScalar g x c) s

/-! ### Floating point (slots F and A) -/

/-- FADD (R59, R60). -/
def execFadd (g : Nat) (x : VForm) (s : State) : Host.Outcome State Fault Refusal :=
  act (decide (g < 256)) (fun s => s.vpure g (encodeV 0x20#8 x) fun e => e.bin x fun a b => onElems x.fmt (fun a b _ => x.fmt.add x.mode a b) a b 0) s

/-- FSUB. -/
def execFsub (g : Nat) (x : VForm) (s : State) : Host.Outcome State Fault Refusal :=
  act (decide (g < 256)) (fun s => s.vpure g (encodeV 0x21#8 x) fun e => e.bin x fun a b => onElems x.fmt (fun a b _ => x.fmt.sub x.mode a b) a b 0) s

/-- FMUL. -/
def execFmul (g : Nat) (x : VForm) (s : State) : Host.Outcome State Fault Refusal :=
  act (decide (g < 256)) (fun s => s.vpure g (encodeV 0x22#8 x) fun e => e.bin x fun a b => onElems x.fmt (fun a b _ => x.fmt.mul x.mode a b) a b 0) s

/-- FMA: A × B + C. -/
def execFma (g : Nat) (x : VForm) (s : State) : Host.Outcome State Fault Refusal :=
  act (decide (g < 256)) (fun s => s.vpure g (encodeV 0x23#8 x) fun e => e.tri x (onElems x.fmt (x.fmt.fma x.mode false false))) s

/-- FMS: A × B − C. -/
def execFms (g : Nat) (x : VForm) (s : State) : Host.Outcome State Fault Refusal :=
  act (decide (g < 256)) (fun s => s.vpure g (encodeV 0x24#8 x) fun e => e.tri x (onElems x.fmt (x.fmt.fma x.mode false true))) s

/-- FNMA: −(A × B) + C. -/
def execFnma (g : Nat) (x : VForm) (s : State) : Host.Outcome State Fault Refusal :=
  act (decide (g < 256)) (fun s => s.vpure g (encodeV 0x25#8 x) fun e => e.tri x (onElems x.fmt (x.fmt.fma x.mode true false))) s

/-- FMIN (R106). -/
def execFmin (g : Nat) (x : VForm) (s : State) : Host.Outcome State Fault Refusal :=
  act (decide (g < 256)) (fun s => s.vpure g (encodeV 0x28#8 x) fun e => e.bin x fun a b => onElems x.fmt (fun a b _ => x.fmt.minmax false a b) a b 0) s

/-- FMAX (R106). -/
def execFmax (g : Nat) (x : VForm) (s : State) : Host.Outcome State Fault Refusal :=
  act (decide (g < 256)) (fun s => s.vpure g (encodeV 0x29#8 x) fun e => e.bin x fun a b => onElems x.fmt (fun a b _ => x.fmt.minmax true a b) a b 0) s

/-- FCMP of a lane: both elements of a packed lane must meet the condition (R106). -/
def cmpLane (f : FFmt) (cond a b : Nat) : Bool × Nat :=
  if f.width = 16 then
    let l := f.cmp cond (a % 65536) (b % 65536)
    let h := f.cmp cond (a / 65536) (b / 65536)
    (l.1 && h.1, l.2 ||| h.2)
  else f.cmp cond a b

/-- FCMP (R106). -/
def execFcmp (g : Nat) (x : VForm) (s : State) : Host.Outcome State Fault Refusal :=
  act (decide (g < 256)) (fun s => s.vpure g (encodeV 0x2A#8 x) fun e => e.comp x (cmpLane x.fmt (x.imm.toNat % 8))) s

/-- SEL writes every lane: vA where active, B where not, with the poison of the source taken (R104). -/
def VEngine.select (e : VEngine) (x : VForm) : VEngine :=
  let act := (e.active x.pg x.pn).toNat
  let b := e.source x x.b
  e.setV x.d.toNat ((e.vreg x.a.toNat).zipIdx.map fun y => if bitOf act y.2 then y.1 else lget (0, false) b y.2)

/-- SEL (R104). -/
def execSel (g : Nat) (x : VForm) (s : State) : Host.Outcome State Fault Refusal :=
  act (decide (g < 256)) (fun s => s.vpure g (encodeV 0x2B#8 x) fun e => (e.select x, 0)) s

/-- A value with its sign bit changed by `g`; a NaN gives the canonical NaN (R108). -/
def signOp (f : FFmt) (g : Bool → Bool) (a : Nat) : Nat × Nat :=
  if f.isNaN a then (f.nanCode, 0)
  else (a % 2 ^ (f.width - 1) + f.sbit (g (bitOf a (f.width - 1))), 0)

/-- FABS (R108). -/
def execFabs (g : Nat) (x : VForm) (s : State) : Host.Outcome State Fault Refusal :=
  act (decide (g < 256)) (fun s => s.vpure g (encodeV 0x2C#8 x) fun e => e.un x fun a => onElems x.fmt (fun a _ _ => signOp x.fmt (fun _ => false) a) a 0 0) s

/-- FNEG (R108). -/
def execFneg (g : Nat) (x : VForm) (s : State) : Host.Outcome State Fault Refusal :=
  act (decide (g < 256)) (fun s => s.vpure g (encodeV 0x2D#8 x) fun e => e.un x fun a => onElems x.fmt (fun a _ _ => signOp x.fmt (fun n => !n) a) a 0 0) s

/-- CVT (R107). -/
def execCvt (g : Nat) (x : VForm) (s : State) : Host.Outcome State Fault Refusal :=
  act (decide (g < 256)) (fun s => s.vpure g (encodeV 0x2E#8 x) fun e => e.un x fun a => cvtLane (x.c.toNat % 16) x.ty.toNat x.mode a) s

/-- FCVTI of a lane (R107). -/
def toInt32 (rm : RMode) (a : Nat) : Nat × Nat :=
  let r := toIntSat 32 rm (fFP32.decode a)
  (ofSigned 32 r.1, r.2)

/-- ICVTF of a lane (R107). -/
def ofInt32 (rm : RMode) (a : Nat) : Nat × Nat :=
  let v := toSigned 32 a
  fFP32.ofVal rm (.fin (decide (v < 0)) v.natAbs 0)

/-- FCVTI. -/
def execFcvti (g : Nat) (x : VForm) (s : State) : Host.Outcome State Fault Refusal :=
  act (decide (g < 256)) (fun s => s.vpure g (encodeV 0x2F#8 x) fun e => e.un x (toInt32 x.mode)) s

/-- ICVTF. -/
def execIcvtf (g : Nat) (x : VForm) (s : State) : Host.Outcome State Fault Refusal :=
  act (decide (g < 256)) (fun s => s.vpure g (encodeV 0x30#8 x) fun e => e.un x (ofInt32 x.mode)) s

/-! ### Integers and lane moves -/

/-- IADD. -/
def execIadd (g : Nat) (x : VForm) (s : State) : Host.Outcome State Fault Refusal :=
  act (decide (g < 256)) (fun s => s.vpure g (encodeV 0x31#8 x) fun e => e.bin x fun a b => ((a + b) % 2 ^ 32, 0)) s

/-- ISUB. -/
def execIsub (g : Nat) (x : VForm) (s : State) : Host.Outcome State Fault Refusal :=
  act (decide (g < 256)) (fun s => s.vpure g (encodeV 0x32#8 x) fun e => e.bin x fun a b => ((a + 2 ^ 32 - b) % 2 ^ 32, 0)) s

/-- AND. -/
def execVand (g : Nat) (x : VForm) (s : State) : Host.Outcome State Fault Refusal :=
  act (decide (g < 256)) (fun s => s.vpure g (encodeV 0x33#8 x) fun e => e.bin x fun a b => (a &&& b, 0)) s

/-- OR. -/
def execVor (g : Nat) (x : VForm) (s : State) : Host.Outcome State Fault Refusal :=
  act (decide (g < 256)) (fun s => s.vpure g (encodeV 0x34#8 x) fun e => e.bin x fun a b => (a ||| b, 0)) s

/-- XOR. -/
def execVxor (g : Nat) (x : VForm) (s : State) : Host.Outcome State Fault Refusal :=
  act (decide (g < 256)) (fun s => s.vpure g (encodeV 0x35#8 x) fun e => e.bin x fun a b => (a ^^^ b, 0)) s

/-- SHL. -/
def execShl (g : Nat) (x : VForm) (s : State) : Host.Outcome State Fault Refusal :=
  act (decide (g < 256)) (fun s => s.vpure g (encodeV 0x36#8 x) fun e => e.bin x fun a b => (a * 2 ^ (b % 32) % 2 ^ 32, 0)) s

/-- SHR. -/
def execShr (g : Nat) (x : VForm) (s : State) : Host.Outcome State Fault Refusal :=
  act (decide (g < 256)) (fun s => s.vpure g (encodeV 0x37#8 x) fun e => e.bin x fun a b => (a / 2 ^ (b % 32), 0)) s

/-- SRA. -/
def execSra (g : Nat) (x : VForm) (s : State) : Host.Outcome State Fault Refusal :=
  act (decide (g < 256)) (fun s => s.vpure g (encodeV 0x38#8 x) fun e => e.bin x fun a b => (((BitVec.ofNat 32 a).sshiftRight (b % 32)).toNat, 0)) s

/-- ICMP. -/
def execIcmp (g : Nat) (x : VForm) (s : State) : Host.Outcome State Fault Refusal :=
  act (decide (g < 256)) (fun s => s.vpure g (encodeV 0x39#8 x) fun e => e.comp x fun a b => (icmp (x.imm.toNat % 8) a b, 0)) s

/-- sA[31:0] written into the lanes of vD that `on` names. -/
def VEngine.spread (e : VEngine) (x : VForm) (on : Nat) : VEngine :=
  let v := ((e.sreg x.a.toNat).toNat % 2 ^ 32, e.sbad x.a.toNat)
  e.setV x.d.toNat ((e.vreg x.d.toNat).zipIdx.map fun y => if bitOf on y.2 then v else y.1)

/-- VPERM's lanes. -/
def VEngine.permute (e : VEngine) (x : VForm) : VEngine :=
  let act := (e.active x.pg x.pn).toNat
  let a := e.vreg x.a.toNat
  let b := e.vreg x.b.toNat
  e.setV x.d.toNat ((e.vreg x.d.toNat).zipIdx.map fun y =>
    if bitOf act y.2 then
      let i := lget (0, false) b y.2
      let v := lget (0, false) a (i.1 % 64)
      (v.1, v.2 || i.2)
    else y.1)

/-- VSPLAT. -/
def execVsplat (g : Nat) (x : VForm) (s : State) : Host.Outcome State Fault Refusal :=
  act (decide (g < 256)) (fun s => s.vpure g (encodeV 0x3A#8 x) fun e => (e.spread x (e.active x.pg x.pn).toNat, 0)) s

/-- VEXT's lane. -/
def VEngine.extract (e : VEngine) (x : VForm) : VEngine :=
  let v := lget (0, false) (e.vreg x.a.toNat) x.lane.toNat
  e.setS x.d.toNat (BitVec.ofNat 64 v.1) v.2

/-- VEXT. -/
def execVext (g : Nat) (x : VForm) (s : State) : Host.Outcome State Fault Refusal :=
  act (decide (g < 256)) (fun s => s.vpure g (encodeV 0x3B#8 x) fun e => (e.extract x, 0)) s

/-- VINS. -/
def execVins (g : Nat) (x : VForm) (s : State) : Host.Outcome State Fault Refusal :=
  act (decide (g < 256)) (fun s => s.vpure g (encodeV 0x3C#8 x) fun e => (e.spread x (2 ^ x.lane.toNat), 0)) s

/-- VPERM (level 2, R412). -/
def execVperm (g : Nat) (x : VForm) (s : State) : Host.Outcome State Fault Refusal :=
  act (decide (g < 256)) (fun s => s.vpure g (encodeV 0x3D#8 x) fun e => (e.permute x, 0)) s

/-! ### Predicates -/

/-- PAND. -/
def execPand (g : Nat) (x : VForm) (s : State) : Host.Outcome State Fault Refusal :=
  act (decide (g < 256)) (fun s => s.vpure g (encodeV 0x40#8 x) fun e => (e.setP x.d.toNat (e.preg x.a.toNat &&& e.preg x.b.toNat), 0)) s

/-- POR. -/
def execPor (g : Nat) (x : VForm) (s : State) : Host.Outcome State Fault Refusal :=
  act (decide (g < 256)) (fun s => s.vpure g (encodeV 0x41#8 x) fun e => (e.setP x.d.toNat (e.preg x.a.toNat ||| e.preg x.b.toNat), 0)) s

/-- PXOR. -/
def execPxor (g : Nat) (x : VForm) (s : State) : Host.Outcome State Fault Refusal :=
  act (decide (g < 256)) (fun s => s.vpure g (encodeV 0x42#8 x) fun e => (e.setP x.d.toNat (e.preg x.a.toNat ^^^ e.preg x.b.toNat), 0)) s

/-- PNOT. -/
def execPnot (g : Nat) (x : VForm) (s : State) : Host.Outcome State Fault Refusal :=
  act (decide (g < 256)) (fun s => s.vpure g (encodeV 0x43#8 x) fun e => (e.setP x.d.toNat (~~~(e.preg x.a.toNat)), 0)) s

/-- PFIRST. -/
def execPfirst (g : Nat) (x : VForm) (s : State) : Host.Outcome State Fault Refusal :=
  act (decide (g < 256)) (fun s => s.vpure g (encodeV 0x44#8 x) fun e => (e.setP x.d.toNat (BitVec.ofNat 64 (2 ^ min 64 (e.sreg x.a.toNat).toNat - 1)), 0)) s

/-- PCNT. -/
def execPcnt (g : Nat) (x : VForm) (s : State) : Host.Outcome State Fault Refusal :=
  act (decide (g < 256)) (fun s => s.vpure g (encodeV 0x45#8 x) fun e => (e.setS x.d.toNat (BitVec.ofNat 64 (popCount 64 (e.preg x.a.toNat).toNat)) false, 0)) s

/-! ### Special functions, reductions and the exact window -/

/-- EXP2 (R109). -/
def execExp2 (g : Nat) (x : VForm) (s : State) : Host.Outcome State Fault Refusal :=
  act (decide (g < 256)) (fun s => s.vpure g (encodeV 0x48#8 x) fun e => e.un x sfExp2) s

/-- LOG2 (R109). -/
def execLog2 (g : Nat) (x : VForm) (s : State) : Host.Outcome State Fault Refusal :=
  act (decide (g < 256)) (fun s => s.vpure g (encodeV 0x49#8 x) fun e => e.un x sfLog2) s

/-- RCP (R109). -/
def execRcp (g : Nat) (x : VForm) (s : State) : Host.Outcome State Fault Refusal :=
  act (decide (g < 256)) (fun s => s.vpure g (encodeV 0x4A#8 x) fun e => e.un x sfRcp) s

/-- RSQRT (R109). -/
def execRsqrt (g : Nat) (x : VForm) (s : State) : Host.Outcome State Fault Refusal :=
  act (decide (g < 256)) (fun s => s.vpure g (encodeV 0x4B#8 x) fun e => e.un x sfRsqrt) s

/-- RSUM (R113). -/
def execRsum (g : Nat) (x : VForm) (s : State) : Host.Outcome State Fault Refusal :=
  act (decide (g < 256)) (fun s => s.vpure g (encodeV 0x50#8 x) fun e => e.reduce x 0x80000000 (fFP32.add x.mode)) s

/-- RMIN (R113). -/
def execRmin (g : Nat) (x : VForm) (s : State) : Host.Outcome State Fault Refusal :=
  act (decide (g < 256)) (fun s => s.vpure g (encodeV 0x51#8 x) fun e => e.reduce x fFP32.infCode (fFP32.minmax false)) s

/-- RMAX (R113). -/
def execRmax (g : Nat) (x : VForm) (s : State) : Host.Outcome State Fault Refusal :=
  act (decide (g < 256)) (fun s => s.vpure g (encodeV 0x52#8 x) fun e => e.reduce x (fFP32.inf true) (fFP32.minmax true)) s

/-- VSUMX (R114). -/
def execVsumx (g : Nat) (x : VForm) (s : State) : Host.Outcome State Fault Refusal :=
  act (decide (g < 256)) (fun s => s.vpure g (encodeV 0x53#8 x) fun e => e.sumExact x) s

/-- XCVT (R115). -/
def execXcvt (g : Nat) (x : VForm) (s : State) : Host.Outcome State Fault Refusal :=
  act (decide (g < 256)) (fun s => s.vpure g (encodeV 0x54#8 x) fun e => e.convExact x) s

/-! ### Larder, memory and the drain port -/

/-- LDL (R116). -/
def execLdl (g : Nat) (x : VForm) (s : State) : Host.Outcome State Fault Refusal :=
  act (decide (g < 256)) (fun s => s.vaccess g (encodeV 0x60#8 x) fun c s => s.loadLarder g x c) s

/-- STL (R116). -/
def execStl (g : Nat) (x : VForm) (s : State) : Host.Outcome State Fault Refusal :=
  act (decide (g < 256)) (fun s => s.vaccess g (encodeV 0x61#8 x) fun c s => s.storeLarder g x c) s

/-- LDM (R117). -/
def execLdm (g : Nat) (x : VForm) (s : State) : Host.Outcome State Fault Refusal :=
  act (decide (g < 256)) (fun s => s.vaccess g (encodeV 0x62#8 x) fun c s => s.loadMemory g x c none) s

/-- LOAD_DATA_RETURN: the data of the LDM that the program waits in (R124). -/
def execLoadDataReturn (g : Nat) (s : State) : Host.Outcome State Fault Refusal :=
  act (decide (g < 256)) (fun s =>
    match (s.ve g).load, s.vcmd g, (s.ve g).prog[(s.ve g).pc]? with
    | some l, some c, some w => if s.roomUp g then s.loadMemory g (decodeV w) c (some l.fill) else s
    | _, _, _ => s) s

/-- STM (R118). -/
def execStm (g : Nat) (x : VForm) (s : State) : Host.Outcome State Fault Refusal :=
  act (decide (g < 256)) (fun s => s.vaccess g (encodeV 0x63#8 x) fun c s => s.storeMemory g x c) s

/-- RECV (R121). -/
def execRecv (g : Nat) (x : VForm) (s : State) : Host.Outcome State Fault Refusal :=
  act (decide (g < 256)) (fun s => s.vaccess g (encodeV 0x64#8 x) fun c s => s.recvRow g x c) s

end Sys2Proof.Machine
end

