-- ==== Sys2Proof/Machine/Dispatch.lean ====
section
/-! DEFINITION. One arm per command: the meaning that it calls. -/

namespace Sys2Proof.Machine

/-- The effect of a command on everything but the queue of waiting commands. -/
def exec (i : Instr) (s : State) : Host.Outcome State Fault Refusal :=
  match i with
  | .powerOn pwrEn => Sys2Proof.Machine.execPowerOn pwrEn s
  | .prechargeDone => Sys2Proof.Machine.execPrechargeDone s
  | .prechargeRestart => Sys2Proof.Machine.execPrechargeRestart s
  | .pwrEnAssert us => Sys2Proof.Machine.execPwrEnAssert us s
  | .pwrEnDeassert us => Sys2Proof.Machine.execPwrEnDeassert us s
  | .undervoltage => Sys2Proof.Machine.execUndervoltage s
  | .overvoltage => Sys2Proof.Machine.execOvervoltage s
  | .voltageReturn => Sys2Proof.Machine.execVoltageReturn s
  | .romStart samples => Sys2Proof.Machine.execRomStart samples s
  | .deedRead => Sys2Proof.Machine.execDeedRead s
  | .identityDerive => Sys2Proof.Machine.execIdentityDerive s
  | .roleResolve beacon => Sys2Proof.Machine.execRoleResolve beacon s
  | .bootRequest => Sys2Proof.Machine.execBootRequest s
  | .bootBlock imageId num count bytes => Sys2Proof.Machine.execBootBlock imageId num count bytes s
  | .bootTimeout => Sys2Proof.Machine.execBootTimeout s
  | .imageRetry => Sys2Proof.Machine.execImageRetry s
  | .firmwareStart => Sys2Proof.Machine.execFirmwareStart s
  | .hostRelease src => Sys2Proof.Machine.execHostRelease src s
  | .hostBootRetry src => Sys2Proof.Machine.execHostBootRetry src s
  | .perstRelease => Sys2Proof.Machine.execPerstRelease s
  | .watchdogExpiry => Sys2Proof.Machine.execWatchdogExpiry s
  | .moduleReset => Sys2Proof.Machine.execModuleReset s
  | .dieReset d => Sys2Proof.Machine.execDieReset d s
  | .dieDrain d => Sys2Proof.Machine.execDieDrain d s
  | .suiteReset su => Sys2Proof.Machine.execSuiteReset su s
  | .suiteDrain su => Sys2Proof.Machine.execSuiteDrain su s
  | .dieRejoinStart d => Sys2Proof.Machine.execDieRejoinStart d s
  | .dieRejoinDone d fails => Sys2Proof.Machine.execDieRejoinDone d fails s
  | .roomReset g => Sys2Proof.Machine.execRoomReset g s
  | .roomSelfTestDone g pass => Sys2Proof.Machine.execRoomSelfTestDone g pass s
  | .clockLoss d => Sys2Proof.Machine.execClockLoss d s
  | .layoutWrite v => Sys2Proof.Machine.execLayoutWrite v s
  | .layoutChangeDone => Sys2Proof.Machine.execLayoutChangeDone s
  | .ringHallTrainingLoss n => Sys2Proof.Machine.execRingHallTrainingLoss n s
  | .ringHallRetrainDone n => Sys2Proof.Machine.execRingHallRetrainDone n s
  | .ringHallDown n => Sys2Proof.Machine.execRingHallDown n s
  | .hostHallTrainingLoss d => Sys2Proof.Machine.execHostHallTrainingLoss d s
  | .hostHallRetrainDone d => Sys2Proof.Machine.execHostHallRetrainDone d s
  | .hallHeartbeat => Sys2Proof.Machine.execHallHeartbeat s
  | .linkLossDeclare d cause => Sys2Proof.Machine.execLinkLossDeclare d cause s
  | .dieSelfResetDone d => Sys2Proof.Machine.execDieSelfResetDone d s
  | .linkReturn d => Sys2Proof.Machine.execLinkReturn d s
  | .stackAdopt j => Sys2Proof.Machine.execStackAdopt j s
  | .logClear => Sys2Proof.Machine.execLogClear s
  | .registerWrite agent pa size v => Sys2Proof.Machine.execRegisterWrite agent pa size v s
  | .mirrorLoad pa => Sys2Proof.Machine.execMirrorLoad pa s
  | .mirrorStore pa size v => Sys2Proof.Machine.execMirrorStore pa size v s
  | .mirrorTimeout pa load => Sys2Proof.Machine.execMirrorTimeout pa load s
  | .hostCoreLoad core kind pa size => Sys2Proof.Machine.execHostCoreLoad core kind pa size s
  | .hostCoreStore core kind pa size v => Sys2Proof.Machine.execHostCoreStore core kind pa size v s
  | .wqDoorbell w q size v => Sys2Proof.Machine.execWqDoorbell w q size v s
  | .cqDoorbell w q size v => Sys2Proof.Machine.execCqDoorbell w q size v s
  | .queueEnable w q => Sys2Proof.Machine.execQueueEnable w q s
  | .queueDisable w q => Sys2Proof.Machine.execQueueDisable w q s
  | .queueReset w q => Sys2Proof.Machine.execQueueReset w q s
  | .queueResume w q => Sys2Proof.Machine.execQueueResume w q s
  | .queueOrderWrite w q compat => Sys2Proof.Machine.execQueueOrderWrite w q compat s
  | .commandFetch w => Sys2Proof.Machine.execCommandFetch w s
  | .commandIssue w q => Sys2Proof.Machine.execCommandIssue w q s
  | .nop w q => Sys2Proof.Machine.execNop w q s
  | .loadStationary g => Sys2Proof.Machine.execLoadStationary g s
  | .loadComplete g => Sys2Proof.Machine.execLoadComplete g s
  | .matmul g => Sys2Proof.Machine.execMatmul g s
  | .streamDataArrival g => Sys2Proof.Machine.execStreamDataArrival g s
  | .passVerdict g hits => Sys2Proof.Machine.execPassVerdict g hits s
  | .passCommit g => Sys2Proof.Machine.execPassCommit g s
  | .drain g => Sys2Proof.Machine.execDrain g s
  | .drainGroupWritten g => Sys2Proof.Machine.execDrainGroupWritten g s
  | .tierDeadlineExpiry g e => Sys2Proof.Machine.execTierDeadlineExpiry g e s
  | .vector g => Sys2Proof.Machine.execVector g s
  | .vnop g f => Sys2Proof.Machine.execVnop g f s
  | .halt g f => Sys2Proof.Machine.execHalt g f s
  | .mark g f => Sys2Proof.Machine.execMark g f s
  | .loop g f => Sys2Proof.Machine.execLoop g f s
  | .br g f => Sys2Proof.Machine.execBr g f s
  | .vfence g f => Sys2Proof.Machine.execVfence g f s
  | .rdflg g f => Sys2Proof.Machine.execRdflg g f s
  | .clrflg g f => Sys2Proof.Machine.execClrflg g f s
  | .sadd g f => Sys2Proof.Machine.execSadd g f s
  | .ssub g f => Sys2Proof.Machine.execSsub g f s
  | .saddi g f => Sys2Proof.Machine.execSaddi g f s
  | .smul g f => Sys2Proof.Machine.execSmul g f s
  | .sand g f => Sys2Proof.Machine.execSand g f s
  | .sor g f => Sys2Proof.Machine.execSor g f s
  | .sxor g f => Sys2Proof.Machine.execSxor g f s
  | .ssh g f => Sys2Proof.Machine.execSsh g f s
  | .smovi g f => Sys2Proof.Machine.execSmovi g f s
  | .smovh g f => Sys2Proof.Machine.execSmovh g f s
  | .vmovi g f => Sys2Proof.Machine.execVmovi g f s
  | .sldl g f => Sys2Proof.Machine.execSldl g f s
  | .sstl g f => Sys2Proof.Machine.execSstl g f s
  | .fadd g f => Sys2Proof.Machine.execFadd g f s
  | .fsub g f => Sys2Proof.Machine.execFsub g f s
  | .fmul g f => Sys2Proof.Machine.execFmul g f s
  | .fma g f => Sys2Proof.Machine.execFma g f s
  | .fms g f => Sys2Proof.Machine.execFms g f s
  | .fnma g f => Sys2Proof.Machine.execFnma g f s
  | .fmin g f => Sys2Proof.Machine.execFmin g f s
  | .fmax g f => Sys2Proof.Machine.execFmax g f s
  | .fcmp g f => Sys2Proof.Machine.execFcmp g f s
  | .sel g f => Sys2Proof.Machine.execSel g f s
  | .fabs g f => Sys2Proof.Machine.execFabs g f s
  | .fneg g f => Sys2Proof.Machine.execFneg g f s
  | .cvt g f => Sys2Proof.Machine.execCvt g f s
  | .fcvti g f => Sys2Proof.Machine.execFcvti g f s
  | .icvtf g f => Sys2Proof.Machine.execIcvtf g f s
  | .iadd g f => Sys2Proof.Machine.execIadd g f s
  | .isub g f => Sys2Proof.Machine.execIsub g f s
  | .vand g f => Sys2Proof.Machine.execVand g f s
  | .vor g f => Sys2Proof.Machine.execVor g f s
  | .vxor g f => Sys2Proof.Machine.execVxor g f s
  | .shl g f => Sys2Proof.Machine.execShl g f s
  | .shr g f => Sys2Proof.Machine.execShr g f s
  | .sra g f => Sys2Proof.Machine.execSra g f s
  | .icmp g f => Sys2Proof.Machine.execIcmp g f s
  | .vsplat g f => Sys2Proof.Machine.execVsplat g f s
  | .vext g f => Sys2Proof.Machine.execVext g f s
  | .vins g f => Sys2Proof.Machine.execVins g f s
  | .vperm g f => Sys2Proof.Machine.execVperm g f s
  | .pand g f => Sys2Proof.Machine.execPand g f s
  | .por g f => Sys2Proof.Machine.execPor g f s
  | .pxor g f => Sys2Proof.Machine.execPxor g f s
  | .pnot g f => Sys2Proof.Machine.execPnot g f s
  | .pfirst g f => Sys2Proof.Machine.execPfirst g f s
  | .pcnt g f => Sys2Proof.Machine.execPcnt g f s
  | .exp2 g f => Sys2Proof.Machine.execExp2 g f s
  | .log2 g f => Sys2Proof.Machine.execLog2 g f s
  | .rcp g f => Sys2Proof.Machine.execRcp g f s
  | .rsqrt g f => Sys2Proof.Machine.execRsqrt g f s
  | .rsum g f => Sys2Proof.Machine.execRsum g f s
  | .rmin g f => Sys2Proof.Machine.execRmin g f s
  | .rmax g f => Sys2Proof.Machine.execRmax g f s
  | .vsumx g f => Sys2Proof.Machine.execVsumx g f s
  | .xcvt g f => Sys2Proof.Machine.execXcvt g f s
  | .ldl g f => Sys2Proof.Machine.execLdl g f s
  | .stl g f => Sys2Proof.Machine.execStl g f s
  | .ldm g f => Sys2Proof.Machine.execLdm g f s
  | .loadDataReturn g => Sys2Proof.Machine.execLoadDataReturn g s
  | .stm g f => Sys2Proof.Machine.execStm g f s
  | .recv g f => Sys2Proof.Machine.execRecv g f s
  | .copy g => Sys2Proof.Machine.execCopy g s
  | .writeReduce g => Sys2Proof.Machine.execWriteReduce g s
  | .tierPrefetch g => Sys2Proof.Machine.execTierPrefetch g s
  | .tierRelease g => Sys2Proof.Machine.execTierRelease g s
  | .tierReleaseTileDone g => Sys2Proof.Machine.execTierReleaseTileDone g s
  | .latchWait w q => Sys2Proof.Machine.execLatchWait w q s
  | .latchWaitSatisfied w q => Sys2Proof.Machine.execLatchWaitSatisfied w q s
  | .latchSignal w q => Sys2Proof.Machine.execLatchSignal w q s
  | .latchSignalPerform w q => Sys2Proof.Machine.execLatchSignalPerform w q s
  | .fence w q => Sys2Proof.Machine.execFence w q s
  | .fenceComplete w q => Sys2Proof.Machine.execFenceComplete w q s
  | .abort w q => Sys2Proof.Machine.execAbort w q s
  | .translationInvalidate w q => Sys2Proof.Machine.execTranslationInvalidate w q s
  | .invalidateCommit w q => Sys2Proof.Machine.execInvalidateCommit w q s
  | .completionRecordWrite w q tag => Sys2Proof.Machine.execCompletionRecordWrite w q tag s
  | .latchSetWrite w l size v => Sys2Proof.Machine.execLatchSetWrite w l size v s
  | .latchAddWrite w l size v => Sys2Proof.Machine.execLatchAddWrite w l size v s
  | .reduceLineWriteback holder line => Sys2Proof.Machine.execReduceLineWriteback holder line s
  | .reduceLineTimeout holder line => Sys2Proof.Machine.execReduceLineTimeout holder line s
  | .wccfgWrite w v => Sys2Proof.Machine.execWccfgWrite w v s
  | .clean w => Sys2Proof.Machine.execClean w s
  | .flush w => Sys2Proof.Machine.execFlush w s
  | .flushAll w => Sys2Proof.Machine.execFlushAll w s
  | .wcopDone w => Sys2Proof.Machine.execWcopDone w s
  | .wayReenable w mask => Sys2Proof.Machine.execWayReenable w mask s
  | .wclandRead w => Sys2Proof.Machine.execWclandRead w s
  | .trackerTimeout g k => Sys2Proof.Machine.execTrackerTimeout g k s
  | .landingWbSend w => Sys2Proof.Machine.execLandingWbSend w s
  | .holdExpiry a line => Sys2Proof.Machine.execHoldExpiry a line s
  | .rds a line => Sys2Proof.Machine.execRds a line s
  | .rdx a line => Sys2Proof.Machine.execRdx a line s
  | .upg a line => Sys2Proof.Machine.execUpg a line s
  | .wro a line => Sys2Proof.Machine.execWro a line s
  | .rdo src line => Sys2Proof.Machine.execRdo src line s
  | .wrf src line l place => Sys2Proof.Machine.execWrf src line l place s
  | .wrp src line mask l => Sys2Proof.Machine.execWrp src line mask l s
  | .wb a line l => Sys2Proof.Machine.execWb a line l s
  | .red src pa op x psn => Sys2Proof.Machine.execRed src pa op x psn s
  | .snps a line => Sys2Proof.Machine.execSnps a line s
  | .snpi a line => Sys2Proof.Machine.execSnpi a line s
  | .push a line l => Sys2Proof.Machine.execPush a line l s
  | .ack a line => Sys2Proof.Machine.execAck a line s
  | .ackd a line l => Sys2Proof.Machine.execAckd a line l s
  | .nh a line => Sys2Proof.Machine.execNh a line s
  | .nhw a line => Sys2Proof.Machine.execNhw a line s
  | .gnts a line l => Sys2Proof.Machine.execGnts a line l s
  | .gnte a line l => Sys2Proof.Machine.execGnte a line l s
  | .gntm a line l => Sys2Proof.Machine.execGntm a line l s
  | .gnto a line => Sys2Proof.Machine.execGnto a line s
  | .data src line l => Sys2Proof.Machine.execData src line l s
  | .cmp src line => Sys2Proof.Machine.execCmp src line s
  | .landingAckReceive a line => Sys2Proof.Machine.execLandingAckReceive a line s
  | .rowClose j ch bank => Sys2Proof.Machine.execRowClose j ch bank s
  | .patrolScrubRead j => Sys2Proof.Machine.execPatrolScrubRead j s
  | .zeroScrubStart j => Sys2Proof.Machine.execZeroScrubStart j s
  | .zeroScrubDone j => Sys2Proof.Machine.execZeroScrubDone j s
  | .stackTempSample j t => Sys2Proof.Machine.execStackTempSample j t s
  | .perBankRefresh j ch bank => Sys2Proof.Machine.execPerBankRefresh j ch bank s
  | .stackCriticalTimeout j => Sys2Proof.Machine.execStackCriticalTimeout j s
  | .scerrRead j => Sys2Proof.Machine.execScerrRead j s
  | .mergeBufferFlush j line => Sys2Proof.Machine.execMergeBufferFlush j line s
  | .addI32 src pa x psn => Sys2Proof.Machine.execAddI32 src pa x psn s
  | .addI64 src pa x psn => Sys2Proof.Machine.execAddI64 src pa x psn s
  | .minS32 src pa x psn => Sys2Proof.Machine.execMinS32 src pa x psn s
  | .minS64 src pa x psn => Sys2Proof.Machine.execMinS64 src pa x psn s
  | .maxS32 src pa x psn => Sys2Proof.Machine.execMaxS32 src pa x psn s
  | .maxS64 src pa x psn => Sys2Proof.Machine.execMaxS64 src pa x psn s
  | .minU32 src pa x psn => Sys2Proof.Machine.execMinU32 src pa x psn s
  | .minU64 src pa x psn => Sys2Proof.Machine.execMinU64 src pa x psn s
  | .maxU32 src pa x psn => Sys2Proof.Machine.execMaxU32 src pa x psn s
  | .maxU64 src pa x psn => Sys2Proof.Machine.execMaxU64 src pa x psn s
  | .cisAnd src pa x psn => Sys2Proof.Machine.execCisAnd src pa x psn s
  | .cisOr src pa x psn => Sys2Proof.Machine.execCisOr src pa x psn s
  | .cisXor src pa x psn => Sys2Proof.Machine.execCisXor src pa x psn s
  | .cas32 src pa x psn => Sys2Proof.Machine.execCas32 src pa x psn s
  | .cas64 src pa x psn => Sys2Proof.Machine.execCas64 src pa x psn s
  | .addF32 src pa x psn => Sys2Proof.Machine.execAddF32 src pa x psn s
  | .addBf16 src pa x psn => Sys2Proof.Machine.execAddBf16 src pa x psn s
  | .addXp src pa x psn => Sys2Proof.Machine.execAddXp src pa x psn s
  | .readMap => Sys2Proof.Machine.execReadMap s
  | .spareRow => Sys2Proof.Machine.execSpareRow s
  | .spareCol => Sys2Proof.Machine.execSpareCol s
  | .softPpr => Sys2Proof.Machine.execSoftPpr s
  | .hardPpr => Sys2Proof.Machine.execHardPpr s
  | .repairDone ok => Sys2Proof.Machine.execRepairDone ok s
  | .tierEnable => Sys2Proof.Machine.execTierEnable s
  | .tierEnableDone => Sys2Proof.Machine.execTierEnableDone s
  | .tierDisable => Sys2Proof.Machine.execTierDisable s
  | .tierDisableDone => Sys2Proof.Machine.execTierDisableDone s
  | .fillComplete t bad => Sys2Proof.Machine.execFillComplete t bad s
  | .victimSelect => Sys2Proof.Machine.execVictimSelect s
  | .evictionComplete t => Sys2Proof.Machine.execEvictionComplete t s
  | .ageTick => Sys2Proof.Machine.execAgeTick s
  | .contextPinClear c => Sys2Proof.Machine.execContextPinClear c s
  | .cellarSparesExhausted => Sys2Proof.Machine.execCellarSparesExhausted s
  | .contextActivate c => Sys2Proof.Machine.execContextActivate c s
  | .contextKill c => Sys2Proof.Machine.execContextKill c s
  | .contextFree c => Sys2Proof.Machine.execContextFree c s
  | .walkComplete d c page => Sys2Proof.Machine.execWalkComplete d c page s
  | .faultBufferDrain su => Sys2Proof.Machine.execFaultBufferDrain su s
  | .faultRingEnable su => Sys2Proof.Machine.execFaultRingEnable su s
  | .resume su fid => Sys2Proof.Machine.execResume su fid s
  | .cancel su fid => Sys2Proof.Machine.execCancel su fid s
  | .sfenceVma va => Sys2Proof.Machine.execSfenceVma va s
  | .sinvalVma va => Sys2Proof.Machine.execSinvalVma va s
  | .hatchEnable h => Sys2Proof.Machine.execHatchEnable h s
  | .hatchDisable h => Sys2Proof.Machine.execHatchDisable h s
  | .hatchReset h => Sys2Proof.Machine.execHatchReset h s
  | .hatchResume h => Sys2Proof.Machine.execHatchResume h s
  | .hatchDoorbell h v => Sys2Proof.Machine.execHatchDoorbell h v s
  | .hatchNop h => Sys2Proof.Machine.execHatchNop h s
  | .hatchCopy h => Sys2Proof.Machine.execHatchCopy h s
  | .hatchReduce h => Sys2Proof.Machine.execHatchReduce h s
  | .hatchCompletion h => Sys2Proof.Machine.execHatchCompletion h s
  | .lockRead m agent => Sys2Proof.Machine.execLockRead m agent s
  | .lockWrite m agent => Sys2Proof.Machine.execLockWrite m agent s
  | .go m agent => Sys2Proof.Machine.execGo m agent s
  | .take m => Sys2Proof.Machine.execTake m s
  | .brk m agent => Sys2Proof.Machine.execBrk m agent s
  | .domainWakeDone dom => Sys2Proof.Machine.execDomainWakeDone dom s
  | .pcieInboundRead pa len noSnoop => Sys2Proof.Machine.execPcieInboundRead pa len noSnoop s
  | .pcieInboundWrite pa bytes ep tph => Sys2Proof.Machine.execPcieInboundWrite pa bytes ep tph s
  | .pcieError kind => Sys2Proof.Machine.execPcieError kind s
  | .portModeWrite p v => Sys2Proof.Machine.execPortModeWrite p v s
  | .autoModeSwitch p => Sys2Proof.Machine.execAutoModeSwitch p s
  | .portUp p => Sys2Proof.Machine.execPortUp p s
  | .laneLockLoss p => Sys2Proof.Machine.execLaneLockLoss p s
  | .writePacket p k => Sys2Proof.Machine.execWritePacket p k s
  | .readPacket p k => Sys2Proof.Machine.execReadPacket p k s
  | .readResponse p k => Sys2Proof.Machine.execReadResponse p k s
  | .writeReducePacket p k => Sys2Proof.Machine.execWriteReducePacket p k s
  | .signalPacket p k => Sys2Proof.Machine.execSignalPacket p k s
  | .atomicPacket p k => Sys2Proof.Machine.execAtomicPacket p k s
  | .atomicResponse p k => Sys2Proof.Machine.execAtomicResponse p k s
  | .managementPacket p k => Sys2Proof.Machine.execManagementPacket p k s
  | .ackPacket p k ce => Sys2Proof.Machine.execAckPacket p k ce s
  | .nakPacket p k => Sys2Proof.Machine.execNakPacket p k s
  | .hello p k => Sys2Proof.Machine.execHello p k s
  | .remoteOpIssue m => Sys2Proof.Machine.execRemoteOpIssue m s
  | .ackSend m => Sys2Proof.Machine.execAckSend m s
  | .retransmitTimeout m seq => Sys2Proof.Machine.execRetransmitTimeout m seq s
  | .pairProgressTimeout m => Sys2Proof.Machine.execPairProgressTimeout m s
  | .windowRestore m => Sys2Proof.Machine.execWindowRestore m s
  | .pairReestablish m => Sys2Proof.Machine.execPairReestablish m s
  | .pairOpen m keyHash gen nonce sig => Sys2Proof.Machine.execPairOpen m keyHash gen nonce sig s
  | .pairAccept m gen nonces sig => Sys2Proof.Machine.execPairAccept m gen nonces sig s
  | .atomicGo k => Sys2Proof.Machine.execAtomicGo k s
  | .hostRemoteLoad core pa size => Sys2Proof.Machine.execHostRemoteLoad core pa size s
  | .hostRemoteStore core pa size v => Sys2Proof.Machine.execHostRemoteStore core pa size v s
  | .lldpTransmit p => Sys2Proof.Machine.execLldpTransmit p s
  | .lldpReceive p nb => Sys2Proof.Machine.execLldpReceive p nb s
  | .helloTransmit => Sys2Proof.Machine.execHelloTransmit s
  | .assign num epoch nonce time sig => Sys2Proof.Machine.execAssign num epoch nonce time sig s
  | .member epoch changes time sig => Sys2Proof.Machine.execMember epoch changes time sig s
  | .ptpMessage m locked => Sys2Proof.Machine.execPtpMessage m locked s
  | .thermostatPeriod m => Sys2Proof.Machine.execThermostatPeriod m s
  | .thermostatUndo m => Sys2Proof.Machine.execThermostatUndo m s
  | .thermostatMiss => Sys2Proof.Machine.execThermostatMiss s
  | .droopDetect w mv => Sys2Proof.Machine.execDroopDetect w mv s
  | .droopEnd w => Sys2Proof.Machine.execDroopEnd w s
  | .stepBoundary m => Sys2Proof.Machine.execStepBoundary m s
  | .stepSyncPulse t high => Sys2Proof.Machine.execStepSyncPulse t high s
  | .stepLengthWrite v => Sys2Proof.Machine.execStepLengthWrite v s
  | .hcoreFreqRequest c mhz => Sys2Proof.Machine.execHcoreFreqRequest c mhz s
  | .hcoreGrantApply c => Sys2Proof.Machine.execHcoreGrantApply c s
  | .freqSet src job mhz b => Sys2Proof.Machine.execFreqSet src job mhz b s
  | .laggard job causes mhz step serial => Sys2Proof.Machine.execLaggard job causes mhz step serial s
  | .laggardClear job step serial => Sys2Proof.Machine.execLaggardClear job step serial s
  | .freqLate job step serial => Sys2Proof.Machine.execFreqLate job step serial s
  | .dieTempSample d t => Sys2Proof.Machine.execDieTempSample d t s
  | .dieCriticalTimeout d => Sys2Proof.Machine.execDieCriticalTimeout d s
  | .hearthTick avg now => Sys2Proof.Machine.execHearthTick avg now s
  | .hearthRamp => Sys2Proof.Machine.execHearthRamp s
  | .hearthTimeout => Sys2Proof.Machine.execHearthTimeout s
  | .hearthDisable => Sys2Proof.Machine.execHearthDisable s
  | .wingIdleTimeout w => Sys2Proof.Machine.execWingIdleTimeout w s
  | .wingWake w => Sys2Proof.Machine.execWingWake w s
  | .wingWakeDone w => Sys2Proof.Machine.execWingWakeDone w s
  | .wakeAssert => Sys2Proof.Machine.execWakeAssert s
  | .ledgerRecordWrite => Sys2Proof.Machine.execLedgerRecordWrite s
  | .slotFree ix => Sys2Proof.Machine.execSlotFree ix s
  | .read m => Sys2Proof.Machine.execRead m s
  | .write m => Sys2Proof.Machine.execWrite m s
  | .readSeg m => Sys2Proof.Machine.execReadSeg m s
  | .writeSeg m => Sys2Proof.Machine.execWriteSeg m s
  | .event src rec => Sys2Proof.Machine.execEvent src rec s
  | .heartbeat role node step serial => Sys2Proof.Machine.execHeartbeat role node step serial s
  | .heartbeatTransmit => Sys2Proof.Machine.execHeartbeatTransmit s
  | .nodeLostTimeout n => Sys2Proof.Machine.execNodeLostTimeout n s
  | .managerLostTimeout => Sys2Proof.Machine.execManagerLostTimeout s
  | .plcaBeaconTimeout => Sys2Proof.Machine.execPlcaBeaconTimeout s
  | .requestRetry seq => Sys2Proof.Machine.execRequestRetry seq s
  | .relayRetry seq => Sys2Proof.Machine.execRelayRetry seq s
  | .replyLockRetry => Sys2Proof.Machine.execReplyLockRetry s
  | .stage su e => Sys2Proof.Machine.execStage su e s
  | .epochAck su unit => Sys2Proof.Machine.execEpochAck su unit s
  | .commit su v => Sys2Proof.Machine.execCommit su v s
  | .epochCancel su v => Sys2Proof.Machine.execEpochCancel su v s
  | .spdmRequest code param1 body => Sys2Proof.Machine.execSpdmRequest code param1 body s
  | .sessionOpen path key eph nonce => Sys2Proof.Machine.execSessionOpen path key eph nonce s
  | .sessionFinish n sig => Sys2Proof.Machine.execSessionFinish n sig s
  | .sessionClose n => Sys2Proof.Machine.execSessionClose n s
  | .sessionTimeout n => Sys2Proof.Machine.execSessionTimeout n s
  | .breakerReport b r => Sys2Proof.Machine.execBreakerReport b r s
  | .bstatClear b mask => Sys2Proof.Machine.execBstatClear b mask s
  | .bdropRead b => Sys2Proof.Machine.execBdropRead b s
  | .injctlWrite b k v => Sys2Proof.Machine.execInjctlWrite b k v s
  | .c4RecordClear => Sys2Proof.Machine.execC4RecordClear s
  | .testStateRequest path session => Sys2Proof.Machine.execTestStateRequest path session s
  | .tapBypass => Sys2Proof.Machine.execTapBypass s
  | .tapIdcode => Sys2Proof.Machine.execTapIdcode s
  | .tapSample => Sys2Proof.Machine.execTapSample s
  | .tapExtest => Sys2Proof.Machine.execTapExtest s
  | .tapClamp => Sys2Proof.Machine.execTapClamp s
  | .tapHighz => Sys2Proof.Machine.execTapHighz s
  | .tapDiesel v => Sys2Proof.Machine.execTapDiesel v s
  | .tapWsp => Sys2Proof.Machine.execTapWsp s
  | .tapDwr => Sys2Proof.Machine.execTapDwr s
  | .interconnectTestGo => Sys2Proof.Machine.execInterconnectTestGo s
  | .interconnectTestDone errs => Sys2Proof.Machine.execInterconnectTestDone errs s
  | .powerOff => Sys2Proof.Machine.execPowerOff s
  | .prechargeStop => Sys2Proof.Machine.execPrechargeStop s
  | .wakeDeassert => Sys2Proof.Machine.execWakeDeassert s
  | .tapReset => Sys2Proof.Machine.execTapReset s
  | .response seq node status body => Sys2Proof.Machine.execResponse seq node status body s
  | .plcaBeaconReceive => Sys2Proof.Machine.execPlcaBeaconReceive s
  | .ringHallUp n => Sys2Proof.Machine.execRingHallUp n s

end Sys2Proof.Machine
end

