-- ==== Sys2Proof/Safety.lean ====
section
/-! DEFINITION. What counts as a safe state and a safe run of the block. -/

namespace Sys2Proof.Machine

/-- No class action is owed: every C2, C3 and C4 report that a command raised has had its action taken
(R415) before the next command is taken. -/
def State.Settled (s : State) : Prop := s.todo = []

/-- A command completes from a state: it answers a next state. -/
def Completes (i : Instr) (s : State) : Prop := ∃ t, exec i s = .next t

/-- What a command with effect `x` on state `s` answers: the next state `x`, the class actions that its reports ask for
taken, and the queue of commands as it was. -/
def State.gives (s x : State) : Host.Outcome State Fault Refusal := .next { x.settle with pending := s.pending }

/-- What a vector instruction leaves that changes the registers of room `g`'s vector engine to `e`, raises flags `fl`,
and lets the program go on. -/
def State.goesOn (s : State) (g : Nat) (e : VEngine) (fl : Nat) : State := ((s.setVe g e).raiseFlags g fl).stepOn g

/-- The commands of wing `w` in `t` are those in `s`, but for the state of waits on latch `l`. -/
def State.OnlyWaits (s : State) (w l : Nat) (t : State) : Prop :=
  (t.wing w).cmds.map (fun c => { c with st := CmdState.fetched }) = (s.wing w).cmds.map (fun c => { c with st := CmdState.fetched }) ∧
  ∀ c ∈ (s.wing w).cmds, (c.op ≠ 0x30 ∨ c.f 1 11 0 ≠ l) → c ∈ (t.wing w).cmds

end Sys2Proof.Machine
end

