-- ==== Sys2Proof/Certificates/Slice0/Obligations.lean ====
section
/-! DEFINITION. The statements for the provers. `s.gives x` is the answer of a command whose effect on `s` is `x`
(Sys2Proof/Safety.lean). -/

open Sys2Proof Sys2Proof.Machine

/-! ### Power, boot and resets (chapter 15, R439 to R449) -/

/-- R391, R440 to R444: the power-up sequence of the Porch and what each power event leaves. -/
def Obligations.PowerEvents : Prop :=
  ∀ s : State, s.Settled →
    (∀ b, s.porch.power = .off → ∃ t, exec (.powerOn b) s = .next t ∧ t.porch.power = .precharge ∧ t.porch.pwrEn = b ∧
      t.mem = [] ∧ t.regs = [] ∧ t.tier.cellar = s.tier.cellar) ∧
    (s.porch.power = .precharge → exec .prechargeStop s = .next { s with porch := { s.porch with power := .prechargeStopped } }) ∧
    (s.porch.power = .prechargeStopped → exec .prechargeRestart s = .next { s with porch := { s.porch with power := .precharge } }) ∧
    (s.porch.power = .precharge → s.porch.pwrEn = false →
      exec .prechargeDone s = .next { s with house := 0, backlog := [], porch := { s.porch with power := .standby } }) ∧
    (s.porch.power = .precharge → s.porch.pwrEn = true → ∃ t, exec .prechargeDone s = .next t ∧ t.house = 0 ∧
      t.porch.power = .running ∧ t.porch.boot = .rails ∧ t.status = 0) ∧
    (∀ us, us < 1000 → exec (.pwrEnAssert us) s = .next s ∧ exec (.pwrEnDeassert us) s = .next s) ∧
    (∀ us, 1000 ≤ us → s.porch.power = .standby → s.porch.lost = false → ∃ t, exec (.pwrEnAssert us) s = .next t ∧
      t.porch.power = .running ∧ t.porch.pwrEn = true ∧ t.porch.boot = .rails ∧ t.mem = s.mem) ∧
    (∀ us, 1000 ≤ us → s.porch.power = .running → ∃ t, exec (.pwrEnDeassert us) s = .next t ∧ t.porch.power = .standby ∧
      t.porch.pwrEn = false ∧ t.mem = [] ∧ t.tier.cellar = s.tier.cellar) ∧
    (s.porch.power = .running → ∀ c : Instr, c = .undervoltage ∨ c = .overvoltage → ∃ t, exec c s = .next t ∧
      t.porch.power = .standby ∧ Alert.voltage ∈ t.porch.alerts ∧ t.porch.lost = true) ∧
    (s.porch.lost = true → s.porch.pwrEn = true → ∃ t, exec .voltageReturn s = .next t ∧ t.porch.power = .running ∧
      t.porch.lost = false ∧ ¬ Alert.voltage ∈ t.porch.alerts) ∧
    (s.porch.power ≠ .off → ∃ t, exec .powerOff s = .next t ∧ t.porch.power = .off ∧ t.mem = []) ∧
    (s.firmware = true → exec .perstRelease s = .next { s with porch := { s.porch with perst := false } })

/-- R392 to R397, R439: the mask ROM from the straps to the last block of an image. R398 to R400: the firmware takes over, measures what it runs and releases the host. -/
def Obligations.PowerUpAndBoot : Prop :=
  (∀ s : State, s.Settled →
    (∀ l, s.romAt .rails = true → exec (.romStart l) s = .next
      (({ s with porch := { s.porch with boot := .rom, slotId := (strapsOf l).slot, mgrSel := (strapsOf l).mgr } } : State).setStatus 0)) ∧
    (s.romAt .rom = true → ∃ t, exec .deedRead s = .next t ∧
      (∀ k, [0, 1, 2].find? (fun k => deedOk (Config.deedCopy k)) = some k →
        t = { s with porch := { s.porch with boot := .deed, deedNo := some k } }) ∧
      ((∀ k, k < 3 → deedOk (Config.deedCopy k) = false) →
        t.status = 5 ∧ t.porch.boot = .stopped ∧ Alert.deed ∈ t.porch.alerts)) ∧
    (s.romAt .deed = true → s.porch.mgrSel = true → ∃ t, exec .identityDerive s = .next t ∧
      (Config.pufKey = s.idKey → t = { s with porch := { s.porch with boot := .identity, pufLocked := true } }) ∧
      (Config.pufKey ≠ s.idKey → t.status = 6 ∧ t.porch.boot = .stopped ∧ Alert.puf ∈ t.porch.alerts)) ∧
    (s.romAt .identity = true → s.porch.mgrSel = true → exec (.roleResolve false) s = .next
      { (s.setEnt 0x4400 1 1).setEnt 0x4400 2 0 with porch := { s.porch with boot := .role } }) ∧
    (s.romAt .role = true → s.status ≤ 1 → exec .bootRequest s = .next
      ((s.setStatus 1).emit (.bootRequest s.serial s.idKey Config.romVersion (BitVec.ofNat 32 s.missingBlock)))) ∧
    (∀ id num count bytes, s.romAt .role = true → s.status = 1 → s.porch.imageId = some id → num < s.porch.count →
      (tset num (padTo 1024 bytes) s.porch.blocks).length ≠ s.porch.count → exec (.bootBlock id num count bytes) s = .next
        { s with porch := { s.porch with blocks := tset num (padTo 1024 bytes) s.porch.blocks } }) ∧
    (∀ id num count bytes, s.romAt .role = true → s.status = 1 → s.porch.imageId = some id → num < s.porch.count →
      (tset num (padTo 1024 bytes) s.porch.blocks).length = s.porch.count →
      ∃ t, exec (.bootBlock id num count bytes) s = .next t ∧ t.porch.blocks = [] ∧
        (imageCheck ((tset num (padTo 1024 bytes) s.porch.blocks).flatMap fun e => e.2) s.porch.count = 0 →
          t.status = 2 ∧ t.porch.boot = .accepted) ∧
        (imageCheck ((tset num (padTo 1024 bytes) s.porch.blocks).flatMap fun e => e.2) s.porch.count ≠ 0 →
          t.status = 7 ∧ t.porch.boot = .role)) ∧
    (s.romAt .role = true → s.status = 1 → ∃ t, exec .bootTimeout s = .next t ∧ t.porch.imageId = none ∧ t.porch.blocks = [] ∧
      t.status = 1) ∧
    (s.romAt .role = true → s.status = 7 → ∃ t, exec .imageRetry s = .next t ∧ t.porch.imageId = none ∧ t.porch.blocks = [] ∧
      t.status = 1)) ∧
  (∀ s : State, s.Settled →
    (s.romAt .accepted = true → ∃ t, exec .firmwareStart s = .next t ∧ t.status = 4 ∧ t.porch.boot = .firmware ∧
      t.porch.m1 = Config.sha512 s.porch.image ∧ t.firmware = true) ∧
    (∀ src o b, s.status = 4 → s.firmware = true → s.porch.perst = false → s.porch.released = false →
      s.hostImage src = some (o, b) → exec (.hostRelease src) s = s.gives
        (({ s.unitStore sculleryWho (0x010000000000 + o) b false none with
            porch := { (s.unitStore sculleryWho (0x010000000000 + o) b false none).porch with
              released := true, hostHash := Config.sha512 b } } : State).setStatus 4)) ∧
    (∀ src o b, s.status = 8 → s.firmware = true → s.porch.perst = false → s.porch.released = false →
      s.hostImage src = some (o, b) → exec (.hostBootRetry src) s = s.gives
        (({ s.unitStore sculleryWho (0x010000000000 + o) b false none with
            porch := { (s.unitStore sculleryWho (0x010000000000 + o) b false none).porch with
              released := true, hostHash := Config.sha512 b } } : State).setStatus 4)) ∧
    (∀ src, s.status = 4 → s.firmware = true → s.porch.perst = false → s.porch.released = false →
      s.hostImage src = none → exec (.hostRelease src) s = .next (s.setStatus 8)))

/-- R401, R405 to R407, R25: the resets of the Scullery, of dies and of suites. R405, R407: what a forced die reset, a module reset and a drain leave of a die and of the stacks' marks. -/
def Obligations.Resets : Prop :=
  (∀ s : State, s.firmware = true →
    (s.porch.restarts.filter (fun t => decide (s.house ≤ t + 10000000000)) = [] → Config.sha512 s.porch.image = s.porch.m1 →
      s.Settled → ∃ t, exec .watchdogExpiry s = .next t ∧ t.mgmt.sessions = [] ∧ t.porch.restarts = [s.house] ∧
        t.ctl.missed = true ∧ t.mem = s.mem) ∧
    exec .moduleReset s = s.gives s.moduleReset ∧
    (∀ d, d < 4 → exec (.dieReset d) s = s.gives (s.forcedReset d).rerun ∧
      exec (.clockLoss d) s = s.gives (s.clockLoss d).rerun ∧ ((s.clockLoss d).die d).stopped = true) ∧
    (∀ d, d < 4 → s.dieInUse d = false → s.dieUp d = true → exec (.dieDrain d) s = s.gives (s.drainDie d).rerun) ∧
    (∀ d, d < 4 → s.dieInUse d = true → exec (.dieDrain d) s = s.gives s.rerun) ∧
    (∀ i, i < 4 → i < suiteCount s.layout → exec (.suiteReset i) s = s.gives (s.suiteReset i).rerun) ∧
    (∀ i, i < 4 → i < suiteCount s.layout → (∀ d ∈ suiteDies s.layout i, s.dieInUse d = false) →
      exec (.suiteDrain i) s = s.gives (s.askSuiteDrain i).2.rerun ∧ (s.askSuiteDrain i).1 = .ok) ∧
    (∀ i, i < suiteCount s.layout → (∃ d ∈ suiteDies s.layout i, s.dieInUse d = true) →
      s.askSuiteDrain i = (.notQuiescent, s)) ∧
    (s.later = [] → s.rerun = s)) ∧
  ((∀ (s : State) (d : Nat), d < 4 → s.dieState d = 0 → (s.forcedReset d).dieState d = 1 ∧ ((s.forcedReset d).die d).forced = true) ∧
  (∀ (s : State) (d : Nat), d < 4 → (s.drainDie d).dieState d = 1 ∧ ((s.drainDie d).die d).forced = (s.die d).forced) ∧
  (∀ (s : State) (d : Nat), d < 4 → s.dieState d = 0 → ∀ t ∈ [s.forcedReset d, s.drainDie d],
    (∀ w, w / 8 = d → t.wing w = Wing.reset) ∧ (∀ g, g / 64 = d → t.room g = Room.reset) ∧
    (t.die d).retained = (s.die d).retained ∧ ((t.epoch (t.suiteOfDie d)).acked.all fun u => unitDie u ≠ d) = true) ∧
  (∀ s : State, (s.moduleReset).status = 0 ∧ (s.moduleReset).porch.boot = .rails ∧
    (∀ j, j < 12 → (s.moduleReset).ent 0x3019 (j + 1) = 1) ∧ (∀ d, d < 4 → (s.moduleReset).dieState d = 1)))

/-- R409, R410: dies rejoin and rooms are reset and tested. R20, R21: a layout is written and its change ends. -/
def Obligations.RoomsAndLayout : Prop :=
  (∀ s : State, s.Settled → s.firmware = true →
    (∀ d, d < 4 → s.dieState d = 1 → (s.die d).lossAt = none → s.ent 0x9021 (d + 1) = 0 → s.testOnDie d = false →
      exec (.dieRejoinStart d) s = .next (s.beginRejoin d) ∧ (s.beginRejoin d).dieState d = 3 ∧
      ((s.beginRejoin d).die d).stopped = false ∧
      ∀ j, j / 3 = d → ((s.beginRejoin d).stack j).scrubbing = ((s.die d).forced || (s.stack j).undefined || (s.stack j).scrubbing)) ∧
    (∀ d fails, d < 4 → s.dieState d = 3 → (∀ j, j / 3 = d → (s.stack j).scrubbing = true → s.critical j = false) →
      exec (.dieRejoinDone d fails) s = s.gives (s.rejoined d fails).rerun) ∧
    (∀ d fails, d < 4 → (∃ j, j / 3 = d ∧ (s.stack j).scrubbing = true ∧ s.critical j = true) →
      exec (.dieRejoinDone d fails) s = s.gives s.rerun) ∧
    (∀ g, g < 256 → s.roomBusy g = false → ∃ t, exec (.roomReset g) s = .next t ∧ (t.room g).testing = true ∧
      (t.room g).slot0 = .reset ∧ (t.room g).slot1 = .reset ∧ (t.room g).bank0 = .reset ∧ (t.room g).bank1 = .reset ∧
      (t.room g).bank2 = .reset ∧ (t.room g).bank3 = .reset ∧ (t.room g).port = [] ∧ (t.room g).utlb = [] ∧
      (t.room g).shelf = [] ∧ (t.room g).larder = (s.room g).larder ∧ t.mem = s.mem) ∧
    (∀ g, g < 256 → s.roomBusy g = true → exec (.roomReset g) s = .next s) ∧
    (∀ g pass, g < 256 → (s.room g).testing = true → exec (.roomSelfTestDone g pass) s = s.gives
      (((s.setRoom g { s.room g with testing := false }).setEnt 0x1100 (0x13 + 0x10 * (g / 64))
        (putFld ((s.setRoom g { s.room g with testing := false }).ent 0x1100 (0x13 + 0x10 * (g / 64))) (g % 64) (g % 64) (b2n !pass))).startUnit (32 + g)))) ∧
  (∀ s : State, s.Settled →
    (∀ v, v ≤ 2 → s.firmware = true → s.mgmt.layout = false → s.quiescent = true → ∃ t, exec (.layoutWrite v) s = .next t ∧
      t.layout = v ∧ t.ent 0x8000 1 = v ∧ t.mgmt.layout = true ∧ t.wings = [] ∧ t.modes = []) ∧
    (∀ v, s.firmware = true → (2 < v ∨ s.mgmt.layout = true ∨ s.quiescent = false) → exec (.layoutWrite v) s = .next s) ∧
    (s.on = true → s.mgmt.layout = true → exec .layoutChangeDone s = s.gives
      (({ s with mgmt := { s.mgmt with layout := false } } : State).raise 0x1100 3 0 (s.ent 0x1100 3))))

/-! ### Layouts, hallways and link loss (R15, R20, R21, R301 to R307) -/

/-- R15, R301, R302: hallways lose and regain training, and heartbeats are sent. R303, R304, R306, R307: link loss is declared, the die resets itself, its records reach the log. -/
def Obligations.HallwaysAndLinks : Prop :=
  (∀ s : State, s.Settled → s.on = true →
    (∀ n, ringHall n = true → s.hall n = 2 → exec (.ringHallTrainingLoss n) s = .next ((s.setHall n 1).setEnt (0x5200 + n) 4 s.house)) ∧
    (∀ d, d < 4 → s.hall d = 2 → exec (.hostHallTrainingLoss d) s = .next ((s.setHall d 1).setEnt (0x5200 + d) 4 s.house)) ∧
    (∀ n, ringHall n = true → s.hall n = 1 → exec (.ringHallRetrainDone n) s = s.gives (s.hallReturns n).rerun) ∧
    (∀ d, d < 4 → s.hall d = 1 → exec (.hostHallRetrainDone d) s = s.gives (s.hallReturns d).rerun) ∧
    (∀ n, n < 8 → s.hall n = 1 → (s.hallReturns n).hall n = 2 ∧ (s.hallReturns n).ent (0x5200 + n) 2 = (s.ent (0x5200 + n) 2 + 1) % 2 ^ 32) ∧
    (∀ n, ringHall n = true → s.hall n = 1 → exec (.ringHallDown n) s = s.gives (s.ringDown n).rerun ∧ (s.ringDown n).hall n = 0) ∧
    (∀ n, ringHall n = true → s.hall n = 0 → exec (.ringHallUp n) s = s.gives (s.ringUp n).rerun ∧
      (s.ringUp n).hall n = (if (hallEnds n).all fun d => s.dieUp d then 2 else 3)) ∧
    (∀ n d, s.ringFailed n = true → (s.fenceHalls d).hall n = 0) ∧
    (∃ t, exec .hallHeartbeat s = .next t ∧ (∀ d, d < 4 → Out.hallBeat d ∈ t.out ∧ (s.hall d = 2 → (t.die d).beatAt = s.house)) ∧
      t.mem = s.mem ∧ t.od = s.od)) ∧
  (∀ (s : State) (d : Nat), s.Settled → s.on = true → d < 4 →
    (s.hall d = 1 → exec (.linkLossDeclare d 0#2) s = s.gives ((s.advance (s.ent (0x5200 + d) 4 + 20000000)).linkLoss d 0).rerun) ∧
    (s.hall d = 2 → exec (.linkLossDeclare d 1#2) s = s.gives ((s.advance ((s.die d).beatAt + 20000000)).linkLoss d 1).rerun) ∧
    ((s.die d).notice = true → exec (.linkLossDeclare d 2#2) s = s.gives (s.linkLoss d 2).rerun) ∧
    (s.dieState d = 0 → (s.linkLoss d 0).dieState d = 2 ∧ (s.linkLoss d 0).hall d = 0 ∧
      ∀ i, i < 3 → (s.linkLoss d 0).ent 0x3019 (3 * d + i + 1) = 1) ∧
    ((s.die d).lossAt.isSome = true → s.dieState d = 2 → exec (.dieSelfResetDone d) s = .next (s.setEnt 0x1100 (0x12 + 0x10 * d) 1)) ∧
    ((s.die d).lossAt.isSome = true → s.dieState d = 1 → s.porch.log.length + (s.die d).retained.length ≤ 16896 →
      exec (.linkReturn d) s = s.gives (s.linkBack d).rerun ∧ (s.linkBack d).porch.log = s.porch.log ++ (s.die d).retained ∧
        ((s.linkBack d).die d).retained = [] ∧ ((s.linkBack d).die d).lossAt = none ∧ (s.linkBack d).hall d = 2 ∧
        (s.linkBack d).mem = s.mem) ∧
    (∀ j, j < 12 → s.dieUp (j / 3) = true → exec (.stackAdopt j) s = .next (s.setEnt 0x3019 (j + 1) 0)) ∧
    (s.firmware = true → exec .logClear s = .next { s with porch := { s.porch with log := [] } }))

/-! ### Registers, the mirror and host cores (R7, R8, R29, R30, R285, R364, R425) -/

/-- R7, R8: a write by access codes sets RW bits, clears W1C bits written with 1, and leaves every other bit and every
other register. R7, R29, R128, R284, R302: a register write is performed unless a hallway on its way is training, when it waits; on a
queue's base register it completes while the queue is disabled, and is ignored while the queue is enabled. R30, R364: the mirror reads numbers zero-extended and lengths, reads 0 where there is no entry, and records refused
stores. -/
def Obligations.Registers : Prop :=
  (∀ (s : State) (pa : Nat) (d : RegDesc) (m v : Nat), regDesc pa = some d → m < 2 ^ 64 → v < 2 ^ 64 →
    (∀ i, i < 64 → ((s.codeWrite pa m v).reg pa).getLsbD i =
      (if d.w1c.getLsbD i && m.testBit i && v.testBit i then false
       else if d.rw.getLsbD i && m.testBit i then v.testBit i
       else (s.reg pa).getLsbD i)) ∧
    (∀ q, q ≠ pa → (s.codeWrite pa m v).reg q = s.reg q) ∧
    (s.codeWrite pa m v).mem = s.mem ∧ (s.codeWrite pa m v).od = s.od) ∧
  ((∀ (s : State) (agent : BitVec 16) (pa n : Nat) (v : BitVec 64), s.Settled → pa < 2 ^ 56 → coreSize n = true →
    (s.on = true → regionOf pa = .control → s.controlHeld agent pa = false →
      exec (.registerWrite agent pa n v) s = s.gives (s.regStore agent pa n v.toNat)) ∧
    (s.on = true → regionOf pa = .control → s.controlHeld agent pa = true →
      exec (.registerWrite agent pa n v) s = .next { s with later := s.later ++ [.write agent pa n v.toNat] }) ∧
    (s.on = false ∨ regionOf pa ≠ .control → exec (.registerWrite agent pa n v) s = .next s)) ∧
  (∀ (s : State) (agent : BitVec 16) (w q : Nat) (v : BitVec 64), s.Settled → w < 32 → q < 128 → s.wingUp w = true →
    s.controlHeld agent (paQueue w q 0) = false →
    (s.qon w q = false → exec (.registerWrite agent (paQueue w q 0) 8 v) s =
      .next (s.setReg (paQueue w q 0) (v &&& bmask 55 6))) ∧
    (s.qon w q = true → exec (.registerWrite agent (paQueue w q 0) 8 v) s = .next s))) ∧
  (∀ s : State, s.Settled →
    (∀ pa, s.firmware = true → inMirror pa = true → exec (.mirrorLoad pa) s = s.gives
      ((s.mirrorRead pa).2.emit (.regRead pa (s.mirrorRead pa).1))) ∧
    (∀ pa, dictEntry (mirrorSlot pa).1 (mirrorSlot pa).2 = none → s.mirrorRead pa = (0, s)) ∧
    (∀ pa size v, coreSize size = true → s.firmware = true → inMirror pa = true →
      dictEntry (mirrorSlot pa).1 (mirrorSlot pa).2 = none → exec (.mirrorStore pa size v) s = .next s) ∧
    (∀ pa size v r, coreSize size = true → s.firmware = true → inMirror pa = true →
      dictEntry (mirrorSlot pa).1 (mirrorSlot pa).2 = some r → (size ≠ 8 ∨ pa % 8 ≠ 0 ∨ r.ty.isBytes = true) →
      exec (.mirrorStore pa size v) s = .next
        (s.setEnt 0x4410 1 ((mirrorSlot pa).1 * 2 ^ 48 + (mirrorSlot pa).2 * 2 ^ 40 + 5 * 2 ^ 32))) ∧
    (∀ pa v r, s.firmware = true → inMirror pa = true → pa % 8 = 0 →
      dictEntry (mirrorSlot pa).1 (mirrorSlot pa).2 = some r → r.ty.isBytes = false → 2 ^ (8 * r.ty.size) ≤ v.toNat →
      exec (.mirrorStore pa 8 v) s = .next
        (s.setEnt 0x4410 1 ((mirrorSlot pa).1 * 2 ^ 48 + (mirrorSlot pa).2 * 2 ^ 40 + 3 * 2 ^ 32))) ∧
    (∀ pa v r, s.firmware = true → inMirror pa = true → pa % 8 = 0 →
      dictEntry (mirrorSlot pa).1 (mirrorSlot pa).2 = some r → r.ty.isBytes = false → v.toNat < 2 ^ (8 * r.ty.size) →
      (s.writeEntry .letterbox 0 (mirrorSlot pa).1 (mirrorSlot pa).2 r.ty.code (toBytes r.ty.size v.toNat)).1 = 0 →
      exec (.mirrorStore pa 8 v) s = s.gives
        (s.writeEntry .letterbox 0 (mirrorSlot pa).1 (mirrorSlot pa).2 r.ty.code (toBytes r.ty.size v.toNat)).2) ∧
    (∀ pa, s.on = true → inMirror pa = true →
      exec (.mirrorTimeout pa true) s = .next ((s.incEnt 0x4410 2 1).emit (.regRead pa (BitVec.allOnes 64))) ∧
      exec (.mirrorTimeout pa false) s = .next (s.incEnt 0x4410 2 1)))

/-- R27, R29, R178, R285, R425: a host core's load and store of memory through its slice, the refusals of Table 11.1 and
of reserved ranges, and a load that meets poison. -/
def Obligations.HostCores : Prop :=
  ∀ (s : State) (core pa n : Nat), s.Settled → s.on = true → core < 96 → pa < 2 ^ 56 → coreSize n = true →
    (∀ runs s', s.coreTarget core pa n false = (.mem runs, s') → ((s'.coreRuns core runs).1.2 = false) →
      exec (.hostCoreLoad core .load pa n) s = s.gives ((s'.coreRuns core runs).2.answer core
        (.value (BitVec.ofNat 64 (ofBytes (s'.coreRuns core runs).1.1))))) ∧
    (∀ runs s', s.coreTarget core pa n false = (.mem runs, s') → ((s'.coreRuns core runs).1.2 = true) →
      exec (.hostCoreLoad core .load pa n) s = s.gives ((s'.coreRuns core runs).2.corePoison core (runs.headD (0, 0)).1)) ∧
    (∀ v runs s', s.coreTarget core pa n true = (.mem runs, s') →
      exec (.hostCoreStore core .store pa n v) s = s.gives
        ((s'.coreStoreRuns core runs (toBytes n (v.toNat % 2 ^ (8 * n)))).answer core .none)) ∧
    (regionOf pa = .reserved → exec (.hostCoreLoad core .load pa n) s = .next (s.answer core .accessFault) ∧
      ∀ v, exec (.hostCoreStore core .store pa n v) s = .next (s.answer core .accessFault)) ∧
    (regionOf pa = .control → regionOf (pa + n - 1) = .control → (n < 4 ∨ pa % n ≠ 0 ∨ listed pa = false) →
      exec (.hostCoreLoad core .load pa n) s = .next (s.answer core .accessFault)) ∧
    (regionOf pa = .control → regionOf (pa + n - 1) = .control → ∀ k v, k ≠ StoreKind.store → atomicForm pa n = true →
      exec (.hostCoreStore core k pa n v) s = .next (s.answer core .accessFault))

/-! ### Work queues, records and latches (R126 to R161) -/

/-- R129 to R133, R156: the doorbells and the control writes of a work queue. -/
def Obligations.QueueControl : Prop :=
  ∀ (s : State) (w q : Nat), s.Settled → w < 32 → q < 128 → s.wingUp w = true →
    (∀ v : BitVec 64, s.qon w q = true → v.toNat % 2 ^ 16 < s.wring w q → exec (.wqDoorbell w q 8 v) s = .next
      ((s.wakeWing w).setQf w q 0x38 47 32 (v.toNat % 2 ^ 16))) ∧
    (∀ v : BitVec 64, s.qon w q = true → v.toNat % 2 ^ 16 < s.cring w q → exec (.cqDoorbell w q 8 v) s = .next
      ((s.wakeWing w).setQf w q 0x30 31 16 (v.toNat % 2 ^ 16))) ∧
    (∀ n (v : BitVec 64), sizeOk n = true → s.qon w q = true → (n ≠ 8 ∨ s.wring w q ≤ v.toNat % 2 ^ 16) →
      exec (.wqDoorbell w q n v) s = .next ((s.wakeWing w).setQf w q 0x30 50 50 1)) ∧
    (∀ n (v : BitVec 64), sizeOk n = true → s.qon w q = true → (n ≠ 8 ∨ s.cring w q ≤ v.toNat % 2 ^ 16) →
      exec (.cqDoorbell w q n v) s = .next ((s.wakeWing w).setQf w q 0x30 50 50 1)) ∧
    (∀ n (v : BitVec 64), sizeOk n = true → s.qon w q = false → exec (.wqDoorbell w q n v) s = .next (s.wakeWing w) ∧
      exec (.cqDoorbell w q n v) s = .next (s.wakeWing w)) ∧
    (s.qon w q = false → s.mayEnable w q = true → exec (.queueEnable w q) s = .next (s.setQf w q 0x28 0 0 1)) ∧
    (s.qon w q = false → s.mayEnable w q = false → exec (.queueEnable w q) s = .next (s.setQf w q 0x30 52 52 1)) ∧
    (s.qon w q = true → exec (.queueEnable w q) s = .next s) ∧
    exec (.queueDisable w q) s = .next (s.setQf w q 0x28 0 0 0) ∧
    exec (.queueResume w q) s = .next (s.setQf w q 0x30 48 48 0) ∧
    (s.qon w q = false → s.inflight w q = 0 → ∃ t, exec (.queueReset w q) s = .next t ∧ t.qf w q 0x30 47 32 = 0 ∧
      t.qf w q 0x30 31 16 = 0 ∧ t.qf w q 0x30 15 0 = 0 ∧ t.qhalted w q = false ∧ t.qf w q 0x38 47 32 = 0 ∧ t.phaseOf w q = 1 ∧
      t.mem = s.mem ∧ t.od = s.od ∧ ∀ pa, pa ≠ paQueue w q 0x30 → pa ≠ paQueue w q 0x38 → t.reg pa = s.reg pa) ∧
    ((s.qon w q = true ∨ s.inflight w q ≠ 0) → exec (.queueReset w q) s = .next s) ∧
    (∀ b, s.qon w q = true → exec (.queueOrderWrite w q b) s = .next (s.setQf w q 0x10 18 18 (b2n b))) ∧
    (∀ b, s.qon w q = false → ∃ t, exec (.queueOrderWrite w q b) s = .next t ∧ t.qf w q 0x10 18 18 = b2n b ∧
      t.qf w q 0x30 49 49 = b2n b ∧ t.mem = s.mem ∧ t.od = s.od)

/-- R135, R139, R142 to R144: a command is fetched from the ring and issued to its engine, held, or refused. -/
def Obligations.FetchAndIssue : Prop :=
  ∀ (s : State) (w : Nat), s.Settled → w < 32 → s.wingUp w = true → (s.wing w).power = .running →
    (∀ q n ab, s.fetchChoice w = some (q, n, ab) → exec (.commandFetch w) s = s.gives
      ((s.setWing w { s.wing w with rr := q }).fetchN w q ab n)) ∧
    (s.fetchChoice w = none → exec (.commandFetch w) s = .next s) ∧
    (∀ q n ab, s.fetchable w q = some (n, ab) → 0 < n ∧ n ≤ 8 ∧ n ≤ s.pendingEntries w q ∧ n ≤ s.recordRoom w q ∧
      (s.qhalted w q = true → s.qf w q 0x10 21 21 ≠ 0)) ∧
    (∀ q c e, q < 128 → s.qhalted w q = false → s.oldest w q = some c → engineOf c.op = some e →
      (max (epochStands (s.wingEpoch w) c.epoch) (epochStands (s.roomEpoch (c.room w)) c.epoch) = 2 →
        exec (.commandIssue w q) s = s.gives (s.endCmd w c.id stUNSUP)) ∧
      (max (epochStands (s.wingEpoch w) c.epoch) (epochStands (s.roomEpoch (c.room w)) c.epoch) = 1 →
        c.id ∈ (s.wing w).held → exec (.commandIssue w q) s = .next s) ∧
      (epochStands (s.wingEpoch w) c.epoch = 0 → epochStands (s.roomEpoch (c.room w)) c.epoch = 0 →
        (s.room (c.room w)).testing = false → ((s.room (c.room w)).eq e).length < 32 → s.wingEpoch w = c.epoch →
        (c.order = true ↔ s.qf w q 0x30 49 49 = 1) →
        ∃ t d, exec (.commandIssue w q) s = .next t ∧ t.cmd w c.id = some d ∧ d.st = .issued ∧
          d.issueNo = (s.wing w).issueNo ∧ d.bWin = (s.unitModes w).win ∧ d.bHead = (s.unitModes w).head ∧ d.bOrd = c.order ∧
          (t.room (c.room w)).eq e = (s.room (c.room w)).eq e ++ [c.id] ∧ t.mem = s.mem ∧ t.regs = s.regs))

/-- R136, R143, R147 to R151, R159: the dispatcher's own commands begin and end. R147, R149: writes to a latch's SET and ADD registers; a latch value is shown to the waits that test it. -/
def Obligations.DispatcherCommands : Prop :=
  (∀ (s : State) (w q : Nat) (c : Cmd), s.Settled → w < 32 → q < 128 → s.wingUp w = true →
    (s.begins w q 0x00 = some c → exec (.nop w q) s = s.gives ((s.putCmd w { c with prog := 1 }).endCmd w c.id stOK)) ∧
    (s.begins w q 0x30 = some c → exec (.latchWait w q) s = .next
      ((s.putCmd w { c with st := .waiting }).showLatch w (c.f 1 11 0)
        ((s.putCmd w { c with st := .waiting }).latch w (c.f 1 11 0)))) ∧
    ((s.queueCmds w q).find? (fun d => d.op == 0x30 && decide (d.st = .committed) && d.status.isNone) = some c →
      (bitOf (c.wd 1) 18 = false → exec (.latchWaitSatisfied w q) s = s.gives (s.doneOne w c)) ∧
      (bitOf (c.wd 1) 18 = true → bitOf (c.wd 1) 19 = false →
        exec (.latchWaitSatisfied w q) s = s.gives ((s.shelfClear (w * 8 + c.rm)).doneOne w c)) ∧
      (bitOf (c.wd 1) 18 = true → bitOf (c.wd 1) 19 = true → exec (.latchWaitSatisfied w q) s = s.gives
        ((each (List.range 8) (fun r s => s.shelfClear (w * 8 + r)) s).doneOne w c))) ∧
    (s.begins w q 0x31 = some c → ∃ t d, exec (.latchSignal w q) s = .next t ∧ t.cmd w c.id = some d ∧ d.st = .waiting ∧
      (∀ x, x ∈ d.awaiting ↔ ∃ k ∈ s.queueCmds w q, k.id = x ∧ k.id < c.id ∧ k.issueNo ≠ 0 ∧
        ∃ e, engineOf k.op = some e ∧ bitOf (c.f 2 23 0) (3 * k.rm + e) = true) ∧
      d.awaitBad = (s.wing w).failed.any (fun x => decide (x.1 = q) && bitOf (c.f 2 23 0) x.2) ∧
      t.mem = s.mem ∧ t.regs = s.regs ∧ t.od = s.od) ∧
    ((s.queueCmds w q).find? (fun d => d.op == 0x31 && decide (d.st = .waiting) && d.status.isNone && decide (d.awaiting = [])) = some c →
      (bitOf (c.wd 1) 19 && c.awaitBad) = false → bitOf (c.wd 1) 18 = false →
      exec (.latchSignalPerform w q) s = s.gives
        ((if bitOf (c.wd 1) 17 then s.latchSet (c.f 1 16 12) (c.f 1 11 0) (BitVec.ofNat 32 (c.f 1 63 32))
          else s.latchAdd (c.f 1 16 12) (c.f 1 11 0) (BitVec.ofNat 32 (c.f 1 63 32))).doneOne w c)) ∧
    ((s.queueCmds w q).find? (fun d => d.op == 0x31 && decide (d.st = .waiting) && d.status.isNone && decide (d.awaiting = [])) = some c →
      (bitOf (c.wd 1) 19 && c.awaitBad) = false → bitOf (c.wd 1) 18 = true →
      exec (.latchSignalPerform w q) s = s.gives
        (((s.putCmd w { c with prog := 1, remote := c.remote + 1 }).endCmd w c.id stOK).remoteOp (.cmd w c.id)
          { basePacket 4 (c.f 1 31 20) (0x60000000 + c.f 1 16 12 * 0x800000 + 0x400000 + c.f 1 11 0 * 16 +
              (if bitOf (c.wd 1) 17 then 0 else 8)) with ackp := true, tagx := BitVec.ofNat 32 (c.f 1 63 32) })) ∧
    ((s.queueCmds w q).find? (fun d => d.op == 0x31 && decide (d.st = .waiting) && d.status.isNone && decide (d.awaiting = [])) = some c →
      (bitOf (c.wd 1) 19 && c.awaitBad) = true →
      exec (.latchSignalPerform w q) s = s.gives (s.endCmd w c.id stABORTED)) ∧
    (s.begins w q 0x38 = some c → exec (.fence w q) s = .next (s.putCmd w { c with st := .waiting })) ∧
    (s.waitingCmd w q 0x38 = some c → (∀ d ∈ s.queueCmds w q, c.id ≤ d.id) → (c.f 1 2 0 < 5 ∨ s.looseBefore w c = false) →
      exec (.fenceComplete w q) s = s.gives
        ((each (bitsOf 8 (c.f 1 15 8)) (fun r s => s.shelfClear (w * 8 + r)) (s.rlineFence w (c.f 1 2 0))).doneOne w c)) ∧
    (s.waitingCmd w q 0x38 = some c → ((∃ d ∈ s.queueCmds w q, d.id < c.id) ∨ (5 ≤ c.f 1 2 0 ∧ s.looseBefore w c = true)) →
      exec (.fenceComplete w q) s = .next s) ∧
    ((s.queueCmds w q).find? (fun d => d.op == 0x3F && decide (d.st = .fetched) && d.status.isNone) = some c →
      (s.qf w q 0x10 22 22 = 1 ∨ s.qctx w (c.f 1 22 16) = c.ctx) → ∀ d, (s.queueCmds w (c.f 1 22 16)).find? (fun d => decide (d.id ≠ c.id) && decide (d.tag = c.f 1 15 0)) = some d →
      (d.status.isSome = true ∨ d.st = .committed →
        exec (.abort w q) s = s.gives ((s.putCmd w { c with awaiting := [d.id] }).endCmd w c.id stTOO_LATE)) ∧
      (d.status = none → d.st ≠ .committed → exec (.abort w q) s = s.gives
        (((s.stopCmd w d.id stABORTED).putCmd w { c with prog := 1, awaiting := [d.id] }).endCmd w c.id stOK))) ∧
    ((s.queueCmds w q).find? (fun d => d.op == 0x3F && decide (d.st = .fetched) && d.status.isNone) = some c →
      ((s.qf w q 0x10 22 22 ≠ 1 ∧ s.qctx w (c.f 1 22 16) ≠ c.ctx) ∨
        ∀ d ∈ s.queueCmds w (c.f 1 22 16), d.id = c.id ∨ d.tag ≠ c.f 1 15 0) →
      exec (.abort w q) s = s.gives (s.endCmd w c.id stNOT_FOUND))) ∧
  (∀ (s : State) (w l n : Nat) (v : BitVec 64), s.Settled → w < 32 → l < 4096 → s.wingUp w = true → n = 4 ∨ n = 8 →
    (∃ t, exec (.latchSetWrite w l n v) s = .next t ∧ t.latch w l = v.setWidth 32 ∧
      (∀ k, k ≠ l → t.latch w k = s.latch w k) ∧ s.OnlyWaits w l t ∧ t.mem = s.mem ∧ t.regs = s.regs ∧ t.od = s.od) ∧
    (∃ t, exec (.latchAddWrite w l n v) s = .next t ∧ t.latch w l = s.latch w l + v.setWidth 32 ∧
      (∀ k, k ≠ l → t.latch w k = s.latch w k) ∧ s.OnlyWaits w l t ∧ t.mem = s.mem ∧ t.regs = s.regs ∧ t.od = s.od) ∧
    (∀ c ∈ (s.wing w).cmds, c.op = 0x30 → c.status = none → c.st = .waiting → c.f 1 11 0 = l → c.satisfied (v.setWidth 32) = true →
      ∃ t, exec (.latchSetWrite w l n v) s = .next t ∧ (t.wing w).seen.any (fun e => decide (e.1 = c.id)) = true ∧
        ((s.wing w).seen.any (fun e => decide (e.1 = c.id)) = false → (∀ d ∈ (s.wing w).cmds, d.id = c.id → d = c) →
          ∃ d, t.cmd w c.id = some d ∧ d.st = .committed)))

/-- R152 to R154, R156: the completion record of a finished command, its place in the ring and its interrupt. -/
def Obligations.CompletionRecords : Prop :=
  ∀ (s : State) (w q : Nat) (tag : BitVec 16) (c : Cmd), s.Settled → w < 32 → q < 128 → s.wingUp w = true →
    (s.queueCmds w q).find? (fun c => decide (c.tag = tag.toNat) && s.recordReady w c) = some c →
    s.accessHeld (w / 8) (s.cslot w q / 64) true = false →
    (s.hallCut (w / 8) (homeDie (s.cslot w q / 64)) = true →
      exec (.completionRecordWrite w q tag) s = s.gives ((s.nextSlot w q).leaveFlight w c (c.status.getD stOK))) ∧
    (s.hallCut (w / 8) (homeDie (s.cslot w q / 64)) = false → ∀ m s', s.target (s.cslot w q) (w / 8) (s.suiteOfDie (w / 8)) c.ctx (cmdKey w c.id) true true = (.mem m, s') →
      exec (.completionRecordWrite w q tag) s = s.gives (s'.writeRecord w c (c.status.getD stOK))) ∧
    (s.hallCut (w / 8) (homeDie (s.cslot w q / 64)) = false → ∀ src s', s.target (s.cslot w q) (w / 8) (s.suiteOfDie (w / 8)) c.ctx (cmdKey w c.id) true true = (.kill src, s') →
      exec (.completionRecordWrite w q tag) s = s.gives
        (((s'.capture (w / 8) (accReport src (dispatcherAgent w) 1 (s.cslot w q) (some c.ctx))).nextSlot w q).leaveFlight w c (c.status.getD stOK))) ∧
    (s.qf w q 0x30 47 32 + 1 < s.cring w q → s.nextSlot w q = s.setQf w q 0x30 47 32 (s.qf w q 0x30 47 32 + 1)) ∧
    (s.cring w q ≤ s.qf w q 0x30 47 32 + 1 → (s.nextSlot w q).qf w q 0x30 47 32 = 0 ∧
      (s.nextSlot w q).phaseOf w q = 1 - s.phaseOf w q)

/-! ### Contexts and translation (R265 to R283) -/

/-- R265, R268, R269: a context becomes ACTIVE, is killed, and becomes FREE. R160, R269: what the kill of an ACTIVE context leaves: its state, no queue of it enabled, no fault or translation of
it held. -/
def Obligations.Contexts : Prop :=
  (∀ (s : State) (c : Nat), s.Settled → c < 256 →
    (∀ r, s.on = true → s.ctxState c = 0 → s.readContext c none = .ok r →
      exec (.contextActivate c) s = .next ((s.setCtx c r).setCtxState c 1)) ∧
    (∀ e, s.on = true → s.ctxState c = 0 → s.readContext c none = .error e →
      exec (.contextActivate c) s = .next (s.setEnt 0x8100 3 (e.1 * 2 ^ 24 + c * 2 ^ 16 + e.2 * 2 ^ 8))) ∧
    (s.ctxState c = 1 → exec (.contextKill c) s = s.gives (s.killContext c stKILLED)) ∧
    (s.ctxState c ≠ 0 → s.queuesOf c = [] → s.cmdsOf c = [] → ∃ t, exec (.contextFree c) s = .next t ∧ t.ctxState c = 0 ∧
      t.ctxRec c = Context.reset ∧ (∀ f ∈ t.faults, f.ctx ≠ c) ∧ (∀ w ∈ t.wings, ∀ e ∈ w.2.tlb, e.ctx ≠ c) ∧
      (∀ r ∈ t.rooms, ∀ e ∈ r.2.utlb, e.ctx ≠ c) ∧ t.mem = s.mem ∧ t.regs = s.regs) ∧
    (s.ctxState c ≠ 0 → (s.queuesOf c ≠ [] ∨ s.cmdsOf c ≠ []) → exec (.contextFree c) s = .next s)) ∧
  (∀ (s : State) (c : Nat), c < 256 → s.ctxState c = 1 →
    (s.killContext c stKILLED).ctxState c = 2 ∧
    (∀ f ∈ (s.killContext c stKILLED).faults, f.ctx ≠ c) ∧
    (∀ r ∈ (s.killContext c stKILLED).rooms, ∀ p ∈ r.2.port, p.ctx ≠ c))

/-- R272 to R277: a walk ends for the accesses that joined it. R272, R273: the cause of a page fault by the PTE, its level and the access. -/
def Obligations.Walks : Prop :=
  (∀ (s : State) (d c page : Nat) (k : Walk) (ks : List Walk), s.Settled → d < 4 → c < 256 → page < 2 ^ 52 → s.dieUp d = true →
    (s.die d).walks.filter (fun k => k.ctx = c && k.page = page) = k :: ks → (c, page) ∈ (s.die d).walking →
    exec (.walkComplete d c page) s = s.gives
      (match (s.walk d c k.va k.access).1 with
       | .entry e => each (k :: ks) (fun k s => s.giveEntry e k) (((s.walk d c k.va k.access).2.incEnt 0x8122 (d + 1) 1).endWalk d c page)
       | .fault cause level => each (k :: ks) (fun k s => s.pageFault k cause level)
          (((s.walk d c k.va k.access).2.incEnt 0x8122 (d + 1) 1).endWalk d c page)
       | .held => s
       | .refused pa => (((s.walk d c k.va k.access).2.incEnt 0x8122 (d + 1) 1).endWalk d c page).capture d
          (accReport 0x21 (agentNo d 0x0A 0) 5 pa (some c))
       | .walker pa => (((s.walk d c k.va k.access).2.incEnt 0x8122 (d + 1) 1).endWalk d c page).capture d
          (accReport 0x23 (agentNo d 0x0A 0) 5 pa (some c))
       | .poison pa => each (k :: ks) (fun k s => s.stopCmd k.wing k.cmd stPOISON)
          ((((s.walk d c k.va k.access).2.incEnt 0x8122 (d + 1) 1).endWalk d c page).capture d
            (accReport 0x15 (agentNo d 0x0A 0) 5 pa (some c))))) ∧
  (∀ p level access : Nat,
    (bitOf p 0 = false → pteFault p level access = some 0) ∧
    (bitOf p 0 = true → fld p 60 54 ≠ 0 → pteFault p level access = some 5) ∧
    (bitOf p 0 = true → fld p 60 54 = 0 → bitOf p 2 = true → bitOf p 1 = false → pteFault p level access = some 5) ∧
    (bitOf p 0 = true → fld p 60 54 = 0 → bitOf p 2 = false → bitOf p 1 = false → bitOf p 3 = false → level = 0 →
      pteFault p level access = some 5) ∧
    (bitOf p 0 = true → fld p 60 54 = 0 → bitOf p 1 = true → bitOf p 63 = false → level < 3 → ptePpn p % 2 ^ (9 * level) = 0 →
      (access = 1 ∨ access = 2 → bitOf p 2 = false → pteFault p level access = some 2) ∧
      (access ≠ 1 → access ≠ 2 → bitOf p 6 = false → pteFault p level access = some 3) ∧
      (access = 1 ∨ access = 2 → bitOf p 2 = true → bitOf p 6 = true → bitOf p 7 = false → pteFault p level access = some 4) ∧
      (bitOf p 2 = true → bitOf p 6 = true → bitOf p 7 = true → pteFault p level access = none)))

/-- R278 to R280: fault rings and the host's answers. R282, R283: invalidation of translations by a command and by a host core's fence. -/
def Obligations.FaultsAndInvalidation : Prop :=
  (∀ (s : State) (i : Nat), s.Settled → i < 4 →
    exec (.faultBufferDrain i) s = s.gives (s.drainFaults i (s.faults.length + s.unfiled.length + 1)) ∧
    ((∀ f ∈ s.faults, f.suite = i → f.inRing = true) → exec (.faultBufferDrain i) s = .next s) ∧
    (s.ringOpen i = false → exec (.faultBufferDrain i) s = .next s) ∧
    (s.on = true → s.ringOk i = true → s.ent (0x8110 + i) 8 ≠ 1 → (∀ f ∈ s.faults, f.suite = i → f.inRing = true) →
      ∃ t, exec (.faultRingEnable i) s = .next t ∧ t.ent (0x8110 + i) 5 = 0 ∧ t.ent (0x8110 + i) 6 = 0 ∧
        t.ent (0x8110 + i) 8 = 1 ∧ t.faults = s.faults ∧ t.mem = s.mem) ∧
    (s.on = true → (s.ent (0x8110 + i) 8 = 1 ∨ s.ringOk i = false) → exec (.faultRingEnable i) s = .next s) ∧
    (∀ fid f, s.on = true → s.faultOf i fid = some f → exec (.resume i fid) s = s.gives ((s.dropFault f).fileFault i) ∧
      ((∀ u ∈ s.unfiled, (s.ctxRec u.1.ctx).suite ≠ i) → exec (.resume i fid) s = .next (s.dropFault f))) ∧
    (∀ fid f, s.on = true → s.faultOf i fid = some f → exec (.cancel i fid) s = s.gives
        ((each f.waits (fun x s => s.stopCmd x.1 x.2 stCANCELLED) (s.dropFault f)).fileFault i)) ∧
    (∀ k cause level, s.bufferFull (s.ctxRec k.ctx).suite = true → s.ringOpen (s.ctxRec k.ctx).suite = false →
      (∀ f ∈ s.faults, f.ctx ≠ k.ctx ∨ f.page ≠ k.page) → (s.pageFault k cause level).faults = s.faults ∧
        (s.pageFault k cause level).unfiled = s.unfiled ++ [(k, cause, level)] ∧ (s.pageFault k cause level).mem = s.mem ∧
        (s.pageFault k cause level).od = s.od) ∧
    (∀ fid, s.on = true → s.faultOf i fid = none → exec (.resume i fid) s = s.gives (s.strayAnswer i) ∧
      exec (.cancel i fid) s = s.gives (s.strayAnswer i))) ∧
  (∀ (s : State), s.Settled →
    (∀ w q c, w < 32 → q < 128 → s.begins w q 0x40 = some c → s.ctxState (invTarget c) ≠ 0 → c.wd 2 ≠ 0 →
      exec (.translationInvalidate w q) s = .next
        ((s.invalidate (invTarget c) (fld (c.wd 1) 56 0) (fld (c.wd 1) 56 0 + c.wd 2 * 4096)).putCmd w { c with st := .waiting })) ∧
    (∀ w q c r, w < 32 → q < 128 → s.begins w q 0x40 = some c → s.ctxState (invTarget c) ≠ 0 → c.wd 2 = 0 →
      s.readContext (invTarget c) (some (s.ctxRec (invTarget c)).suite) = .ok r →
      exec (.translationInvalidate w q) s = .next
        (((s.invalidate (invTarget c) 0 (2 ^ 57)).setCtx (invTarget c) r).putCmd w { c with st := .waiting })) ∧
    (∀ w q c, w < 32 → q < 128 → s.begins w q 0x40 = some c → s.ctxState (invTarget c) = 0 →
      exec (.translationInvalidate w q) s = .next (s.putCmd w { c with st := .waiting })) ∧
    (∀ w q c e, w < 32 → q < 128 → s.begins w q 0x40 = some c → s.ctxState (invTarget c) ≠ 0 → c.wd 2 = 0 →
      s.readContext (invTarget c) (some (s.ctxRec (invTarget c)).suite) = .error e →
      exec (.translationInvalidate w q) s = s.gives ((s.refuseCtx (invTarget c) e).endCmd w c.id stUNSUP)) ∧
    (∀ w q c, w < 32 → q < 128 → s.wingUp w = true → s.waitingCmd w q 0x40 = some c →
      (s.translated (fun k => decide (k = invTarget c)) = false → exec (.invalidateCommit w q) s = s.gives
        ((s.sendReduces fun d => decide (s.suiteOfDie d = (s.ctxRec (invTarget c)).suite)).doneOne w c)) ∧
      (s.translated (fun k => decide (k = invTarget c)) = true → exec (.invalidateCommit w q) s = .next s)) ∧
    (∀ c a b, ∀ w ∈ (s.invalidate c a b).wings, s.suiteOfDie (w.1 / 8) = (s.ctxRec c).suite → ∀ e ∈ w.2.tlb, e.meets c a b = false) ∧
    (∀ c a b, ∀ r ∈ (s.invalidate c a b).rooms, s.suiteOfDie (r.1 / 64) = (s.ctxRec c).suite → ∀ e ∈ r.2.utlb, e.meets c a b = false) ∧
    (∀ va, s.on = true → s.ent 0x8100 2 = 1 → exec (.sfenceVma va) s = exec (.sinvalVma va) s ∧
      exec (.sfenceVma va) s = s.gives ((((s.dropPaged fun e => match va with
        | none => true
        | some a => decide (e.va ≤ a) && decide (a < e.va + e.size)).sendReduces fun _ => true).defer .fence).endFences)) ∧
    (∀ va, s.on = false ∨ s.ent 0x8100 2 ≠ 1 → exec (.sfenceVma va) s = .next s) ∧
    (∀ p, ∀ w ∈ (s.dropPaged p).wings, s.dieUp (w.1 / 8) = true → ∀ e ∈ w.2.tlb, p e = false))

/-! ### The room array (chapters 2, 3; R64 to R92) -/

/-- R69, R89, R91, R138: LOAD_STATIONARY reads its block, and its slot becomes valid. -/
def Obligations.ArrayLoads : Prop :=
  ∀ (s : State) (g : Nat), s.Settled → g < 256 →
    (∀ c, s.headCmd g 0 2 = some c → (s.room g).loadRun = none →
      ((loadPlaces c).any fun x => x.1.past x.2) = true → exec (.loadStationary g) s = s.gives (s.endCmd (g / 8) c.id stUNSUP)) ∧
    (∀ c l s', s.headCmd g 0 2 = some c → (s.room g).loadRun = none → ((loadPlaces c).any fun x => x.1.past x.2) = false →
      s.ready (streamUnit g c (bitOf (c.wd 5) 22)) ((loadPlaces c).flatMap fun x => x.1.firsts x.2) false = (.go l, s') →
      ((loadPlaces c).any fun x => anyBad (s'.readAll (streamUnit g c (bitOf (c.wd 5) 22)) l).1 x.1 x.2) = true →
      exec (.loadStationary g) s = s.gives
        ((s'.readAll (streamUnit g c (bitOf (c.wd 5) 22)) l).2.endCmd (g / 8) c.id stPOISON)) ∧
    (∀ c l s', s.headCmd g 0 2 = some c → (s.room g).loadRun = none → ((loadPlaces c).any fun x => x.1.past x.2) = false →
      s.ready (streamUnit g c (bitOf (c.wd 5) 22)) ((loadPlaces c).flatMap fun x => x.1.firsts x.2) false = (.go l, s') →
      ∀ t u, s'.readAll (streamUnit g c (bitOf (c.wd 5) 22)) l = (t, u) →
      ((loadPlaces c).any fun x => anyBad t x.1 x.2) = false → exec (.loadStationary g) s = s.gives
        ((u.putCmd (g / 8) { u.cmdNow g c with st := .running }).setRoom g
          { u.room g with loadRun := some ⟨c.id, c.f 5 0 0, false, loadedSlot c t⟩ })) ∧
    (∀ l c, s.roomUp g = true → (s.room g).loadRun = some l → s.cmd (g / 8) l.cmd = some c →
      exec (.loadComplete g) s = s.gives
        ((s.setRoom g ({ s.room g with loadRun := none }.setSlot l.slotNo l.slot)).putCmd (g / 8) { c with prog := 1 }
          |>.endCmd (g / 8) l.cmd stOK))

/-- R46 to R49, R67, R68, R70, R78, R79: MATMUL begins under its window, streams what has arrived, and commits its passes. -/
def Obligations.Matmul : Prop :=
  ∀ (s : State) (g : Nat), s.Settled → g < 256 →
    (∀ c st, s.headCmd g 0 1 = some c → (s.room g).passRun = none → s.matmulStop g c = some st →
      exec (.matmul g) s = s.gives (s.endCmd (g / 8) c.id st)) ∧
    (∀ c, s.headCmd g 0 1 = some c → (s.room g).passRun = none → s.matmulStop g c = none → c.deadline = none →
      (c.fixedW ≠ none ∨ c.fresh = false) → exec (.matmul g) s = s.gives
        ((s.putCmd (g / 8) { c with st := .running, win := some (s.passWin g c 0) }).beginPass g
          { c with st := .running, win := some (s.passWin g c 0) } 0)) ∧
    (∀ c l s' t u d, s.headCmd g 0 1 = some c → (s.room g).passRun = none → s.matmulStop g c = none → c.deadline = none →
      c.fixedW = none → c.fresh = true →
      s.ready (streamUnit g { c with st := .running } (bitOf (c.wd 5) 36))
        ((List.range c.passes).flatMap fun p => scaleKeys c p) false = (.go l, s') →
      s'.readAll (streamUnit g c (bitOf (c.wd 5) 36)) l = (t, u) →
      d = { u.cmdNow g c with
              st := .running
              win := some (autoWindow (u.cmdNow g c) ((u.room g).slot ((u.cmdNow g c).f 5 16 16)) t)
              num := (u.cmdNow g c).num ||| nfAU } →
      exec (.matmul g) s = s.gives ((u.putCmd (g / 8) d).beginPass g d 0)) ∧
    (∀ c (w : Int), c.fixedW = some w → s.passWin g c 0 = w) ∧
    (∀ c p, c.fixedW = none → c.fresh = false → s.passWin g c p = ((s.room g).bank (c.bankOf p)).w) ∧
    (∀ c run, s.headCmd g 0 1 = some c → (s.room g).passRun = some run → run.held = true →
      exec (.streamDataArrival g) s = s.gives (s.streamPass g c run)) ∧
    (∀ c run, s.headCmd g 0 1 = some c → (s.room g).passRun = some run → run.held = false →
      exec (.streamDataArrival g) s = .next s) ∧
    (∀ c run, s.roomUp g = true → (s.room g).passRun = some run → run.stage = .judged → s.cmd (g / 8) run.cmd = some c →
      s.armedOn g 0 = false → s.armedOn g 1 = false → ((s.room g).bank (c.bankOf run.pass)).code = [] →
      run.pass + 1 = c.passes → exec (.passCommit g) s = s.gives
        (((s.setRoom g ({ s.room g with passRun := none }.setBank (c.bankOf run.pass)
            (commitBank ((s.room g).bank (c.bankOf run.pass)) c.fresh (fmtClass c.wfmt)
              ((s.room g).slot (c.f 5 16 16)).kc run))).putCmd (g / 8) { c with prog := c.prog + 1 }).endCmd (g / 8) c.id stOK)) ∧
    (∀ c run, s.roomUp g = true → (s.room g).passRun = some run → run.stage = .judged → s.cmd (g / 8) run.cmd = some c →
      s.armedOn g 0 = false → s.armedOn g 1 = false → ((s.room g).bank (c.bankOf run.pass)).code = [] →
      run.pass + 1 ≠ c.passes → exec (.passCommit g) s = s.gives
        (((s.setRoom g ({ s.room g with passRun := none }.setBank (c.bankOf run.pass)
            (commitBank ((s.room g).bank (c.bankOf run.pass)) c.fresh (fmtClass c.wfmt)
              ((s.room g).slot (c.f 5 16 16)).kc run))).putCmd (g / 8) { c with prog := c.prog + 1 }).beginPass g
                { c with prog := c.prog + 1 } (run.pass + 1)))

/-- R67, R68: what a commit leaves in its bank: each output of the pass is added to its accumulator, or replaces it
under FRESH, and no other position changes unless FRESH clears it. -/
def Obligations.CommitAdds : Prop :=
  ∀ (b : Bank) (cls kc : Nat) (run : PassRun), (∀ r ∈ run.buf, r.length ≤ 64) →
    (∀ n j x, (lget [] run.buf n)[j]? = some x →
      tget 0 (commitBank b false cls kc run).acc (64 * n + j) = tget 0 b.acc (64 * n + j) + x ∧
      tget 0 (commitBank b true cls kc run).acc (64 * n + j) = x) ∧
    (∀ n j, j < 64 → (lget [] run.buf n)[j]? = none →
      tget 0 (commitBank b false cls kc run).acc (64 * n + j) = tget 0 b.acc (64 * n + j) ∧
      tget 0 (commitBank b true cls kc run).acc (64 * n + j) = 0) ∧
    (commitBank b false cls kc run).count = b.count + kc ∧ (commitBank b true cls kc run).count = kc ∧
    (commitBank b true cls kc run).w = run.win ∧ (commitBank b false cls kc run).w = b.w

/-- R84 to R88: the verdict on a pass: it passes, runs a second time, is corrected, or ends ARRAY_CHECK. R71, R89 to R91, R121, R194: DRAIN begins on a bank that holds a chain, writes its groups, and the tracker of an engine
runs out. -/
def Obligations.VerdictsAndDrains : Prop :=
  ((∀ (s : State) (g : Nat) (hits : List Upset) (run : PassRun) (c : Cmd), s.Settled → g < 256 → s.roomUp g = true →
    (s.room g).passRun = some run → run.held = false → run.buf ≠ [] → run.stage = .streaming → s.cmd (g / 8) run.cmd = some c →
    run.exec = 0 → run.skipCol = true → run.skipRow = true →
    (run.counted = false → exec (.passVerdict g hits) s = .next ((s.incEnt (0x521C + g / 64) (g % 64 + 1) 1).setPass g
      (some { run with buf := upsetBuf run.buf hits, counted := true, stage := .judged }))) ∧
    (run.counted = true → exec (.passVerdict g hits) s = .next (s.setPass g
      (some { run with buf := upsetBuf run.buf hits, stage := .judged })))) ∧
  ∀ (s : State) (g : Nat) (hits : List Upset) (run : PassRun) (c : Cmd), s.Settled → g < 256 → s.roomUp g = true →
    (s.room g).passRun = some run → run.held = false → run.buf ≠ [] → run.stage = .streaming → s.cmd (g / 8) run.cmd = some c →
    s.arrayInj g = none → run.skipCol = false → run.skipRow = false →
    (run.exec = 0 → mismatches (fmtClass c.wfmt) { run with buf := upsetBuf run.buf hits } = ([], []) →
      exec (.passVerdict g hits) s = .next (s.setPass g (some { run with buf := upsetBuf run.buf hits, stage := .judged }))) ∧
    (run.exec = 0 → ∀ rs cs, mismatches (fmtClass c.wfmt) { run with buf := upsetBuf run.buf hits } = (rs, cs) → (rs, cs) ≠ ([], []) →
      exec (.passVerdict g hits) s = s.gives
        ((s.setEnt (0x5218 + g / 64) (g % 64 + 1) (checkRecord rs cs false run.pass)).streamPass g c
          { run with exec := 1, buf := [], stage := .streaming })) ∧
    (run.exec = 1 → mismatches (fmtClass c.wfmt) { run with buf := upsetBuf run.buf hits } = ([], []) →
      exec (.passVerdict g hits) s = s.gives
        (((s.incEnt (0x5210 + g / 64) (g % 64 + 1) 1).capture (g / 64)
          { plainReport 0x03 (roomAgent 4 g) with access := 7#3, contexts := [c.ctx] }).setPass g
            (some { run with buf := upsetBuf run.buf hits, stage := .judged }))) ∧
    (run.exec = 1 → ∀ rs cs, mismatches (fmtClass c.wfmt) { run with buf := upsetBuf run.buf hits } = (rs, cs) → (rs, cs) ≠ ([], []) →
      exec (.passVerdict g hits) s = s.gives
        (((((s.setEnt (0x5218 + g / 64) (g % 64 + 1) (checkRecord rs cs true run.pass)).incEnt (0x5214 + g / 64) (g % 64 + 1) 1).setEnt
            0x1100 (0x13 + 0x10 * (g / 64)) (s.ent 0x1100 (0x13 + 0x10 * (g / 64)) ||| 2 ^ (g % 64))).capture (g / 64)
          { plainReport 0x14 (roomAgent 4 g) with access := 7#3, contexts := [c.ctx] }).endCmd (g / 8) c.id stARRAY_CHECK))) ∧
  (∀ (s : State) (g : Nat), s.Settled → g < 256 →
    (∀ c, s.headCmd g 0 3 = some c → (s.room g).drainRun = none → ((s.room g).bank (c.f 4 1 0)).chain = false →
      exec (.drain g) s = s.gives (s.endCmd (g / 8) c.id stUNSUP)) ∧
    (∀ c, s.headCmd g 0 3 = some c → (s.room g).drainRun = none → ((s.room g).bank (c.f 4 1 0)).chain = true →
      (((s.room g).bank (c.f 4 1 0)).cls = 2 → c.region.2.2.1 + c.region.2.2.2 ≤ 32) →
      (c.toVec = true ∨
        ((locOf (c.wd 1) 0).past (if c.tfmt = 0xC then 16 * (64 * (c.region.2.1 - 1) + c.region.2.2.2)
            else (c.region.2.2.2 - 1) * c.f 3 31 0 + c.region.2.1 * fmtBits c.tfmt / 8) = false ∧
         (c.mx = true → (locOf (c.wd 2) 0).past ((c.region.2.2.2 - 1) * c.f 3 44 32 + c.region.2.1 / 32) = false))) → ∃ t, exec (.drain g) s = .next t ∧
        (t.room g).drainRun = some ⟨c.id, 0, false⟩ ∧
        t.cmd (g / 8) c.id = some { c with st := .running, win := some ((s.room g).bank (c.f 4 1 0)).w } ∧ t.mem = s.mem) ∧
    (∀ d c, s.roomUp g = true → (s.room g).drainRun = some d → s.cmd (g / 8) d.cmd = some c → c.toVec = true →
      exec (.drainGroupWritten g) s = s.gives
        ((s.drainToPort g c ((s.room g).bank (c.f 4 1 0)).w 32).endDrain g c)) ∧
    (∀ d c l s' t u, s.roomUp g = true → (s.room g).drainRun = some d → s.cmd (g / 8) d.cmd = some c → c.toVec = false →
      s.ready ⟨g, 4, 1, c, false, false⟩ ((groupItems c ((s.room g).bank (c.f 4 1 0)).w (32 * c.prog)
        (s.drainRows g c (32 * c.prog) (min 32 (c.region.2.1 - 32 * c.prog))).1).1.flatMap fun x => x.1.firsts x.2.length) false = (.go l, s') →
      s'.drainRows g c (32 * c.prog) (min 32 (c.region.2.1 - 32 * c.prog)) = (t, u) →
      exec (.drainGroupWritten g) s = s.gives
        ((each (groupItems c ((s.room g).bank (c.f 4 1 0)).w (32 * c.prog) t).1
            (fun x s => s.writeRun ⟨g, 4, 1, c, false, false⟩ 0 (if bitOf (c.wd 4) 35 then .keep else .stream) l x.1 x.2) u).groupDone g c d
          (groupItems c ((s.room g).bank (c.f 4 1 0)).w (32 * c.prog) t).2 (t.any fun r => r.any fun e => e.2.1))) ∧
    (∀ k, k < 3 → s.roomUp g = true → exec (.trackerTimeout g k) s = .next
      (s.setRoom g ((s.room g).setTrk k { (s.room g).trk k with run := 0, streaming := false }))))

/-- R73: a T256 tile's 65,536 bytes each hold one place (r, c), and R34: elements are packed least significant bit first. R40 to R42, R44, R50, R51, R55: sums in the window and exact partials: commutative, clamped at MAXP, NaR stays, and a
value leaves as the format's NaN when it is NaR. -/
def Obligations.TilesAndWindows : Prop :=
  ((∀ r c, r < 256 → c < 256 → tileOff r c < 65536) ∧
  (∀ r c r' c', r < 256 → c < 256 → r' < 256 → c' < 256 → tileOff r c = tileOff r' c' → r = r' ∧ c = c') ∧
  (∀ (w : Nat) (l : List Nat) (i : Nat), 0 < w → i < l.length →
    elemAt (fun o => lget 0#8 (packElems w l) o) w i = lget 0 l i % 2 ^ w)) ∧
  ((∀ a b : BitVec 128, xpAdd a b = xpAdd b a) ∧
  (∀ a : BitVec 128, xpAdd a narCode = (narCode, nfNR)) ∧
  (∀ a b : BitVec 128, a ≠ narCode → b ≠ narCode → -maxP ≤ a.toInt + b.toInt → a.toInt + b.toInt ≤ maxP →
    xpAdd a b = (BitVec.ofInt 128 (a.toInt + b.toInt), 0#8)) ∧
  (∀ a b : BitVec 128, a ≠ narCode → b ≠ narCode → maxP < a.toInt + b.toInt → xpAdd a b = (BitVec.ofInt 128 maxP, nfOV)) ∧
  (∀ q : Int, -maxP ≤ (clampP q).1 ∧ (clampP q).1 ≤ maxP ∧ ((clampP q).2 = true ↔ (clampP q).1 ≠ q)) ∧
  (∀ w m e : Int, 0 ≤ e + 127 - w → (windowQ w m e).1 = (clampP (m * 2 ^ (e + 127 - w).toNat)).1 ∧ (windowQ w m e).2 &&& nfTR = 0#8) ∧
  (∀ (f : FFmt) (w : Int), convOut f w .nar = (f.nanCode, nfNR) ∧ convOut f w (.val 0) = (0, 0#8)))

/-! ### The copy unit (R141, R256 to R259, R316) -/

/-- R141, R227, R256, R258, R259: COPY, WRITE_REDUCE, TIER_PREFETCH and TIER_RELEASE at their engine. -/
def Obligations.CopyUnit : Prop :=
  ∀ (s : State) (g : Nat) (c : Cmd), s.Settled → g < 256 →
    (s.headCmd g 2 0x20 = some c → c.pos = 0 → (copyOver c = true ∨ s.bothAway c = true) →
      exec (.copy g) s = s.gives (s.endCmd (g / 8) c.id stUNSUP)) ∧
    (s.headCmd g 2 0x20 = some c → (c.pos ≠ 0 ∨ (copyOver c = false ∧ s.bothAway c = false)) →
      (c.deadline = none ∨ c.st ≠ .issued) →
      exec (.copy g) s = s.gives (s.copyTiles g c.id (c.tiles + 1))) ∧
    (s.headCmd g 2 0x21 = some c → c.pos = 0 → (locOf (c.wd 1) 0).past (c.f 3 31 0) = true →
      exec (.writeReduce g) s = s.gives (s.endCmd (g / 8) c.id stUNSUP)) ∧
    (s.headCmd g 2 0x21 = some c → (locOf (c.wd 1) 0).past (c.f 3 31 0) = false →
      exec (.writeReduce g) s = s.gives (s.reduceChunks g c.id (c.tiles + 1))) ∧
    (s.headCmd g 2 0x22 = some c → c.deadline = none → exec (.tierPrefetch g) s = s.gives
      ((s.putCmd (g / 8) { c with st := .running }).prefetchFrom g c (c.f 2 31 0 - c.pos) c.pos true)) ∧
    (s.headCmd g 2 0x23 = some c → c.busy = false → exec (.tierRelease g) s = s.gives
      ((s.putCmd (g / 8) { c with st := .running }).releaseFrom g c (c.f 2 31 0 - c.pos) c.pos)) ∧
    (∀ t s', s.headCmd g 2 0x23 = some c → c.busy = true → s.tileAt g c c.pos = (.tile t, s') →
      exec (.tierReleaseTileDone g) s = s.gives
        (((s.ageOut t).putCmd (g / 8) { c with busy := false, prog := c.pos + 1, pos := c.pos + 1 }).pump.releaseFrom g
          { c with busy := false, prog := c.pos + 1, pos := c.pos + 1 } (c.f 2 31 0 - (c.pos + 1)) (c.pos + 1))) ∧
    (∀ d, s.roomUp g = true → s.engineHead g 0 = some c → c.deadline = some d → c.op = 1 → c.st = .issued →
      exec (.tierDeadlineExpiry g 0) s = s.gives ((s.advance d).goMatmul g)) ∧
    (∀ d, s.roomUp g = true → s.engineHead g 0 = some c → c.deadline = some d → c.op = 2 → c.st = .issued →
      exec (.tierDeadlineExpiry g 0) s = s.gives ((s.advance d).startLoad g)) ∧
    (∀ d, s.roomUp g = true → s.engineHead g 2 = some c → c.deadline = some d → c.op = 0x20 → c.st = .issued →
      exec (.tierDeadlineExpiry g 2) s = s.gives ((s.advance d).goCopy g)) ∧
    (∀ d, s.roomUp g = true → s.engineHead g 2 = some c → c.deadline = some d → c.op = 0x22 →
      exec (.tierDeadlineExpiry g 2) s = s.gives ((s.advance d).goPrefetch g))

/-- R316: the parts of a run of bytes cross no 4 KiB boundary of either place, and together they are the run. -/
def Obligations.CopyParts : Prop :=
  ∀ (a b f : Nat) (p : Piece),
    (∀ q ∈ splitPiece a b f p, (a + q.src) % 4096 + q.n ≤ 4096 ∧ (b + q.dst) % 4096 + q.n ≤ 4096) ∧
    (2 * p.n / 4096 + 4 ≤ f → ((splitPiece a b f p).map fun q => q.n).sum = p.n) ∧
    (∀ q ∈ splitPiece a b f p, p.src ≤ q.src ∧ q.src + q.n ≤ p.src + p.n ∧ q.src + p.dst = q.dst + p.src)

/-! ### The vector engine (chapter 4) -/

/-- R98, R106, R111: the instructions of the C and S slots that compute: NOP, the flag accumulator, scalar arithmetic, and the immediates. R104 to R106, R412: the integer instructions, comparisons, selection and lane moves. -/
def Obligations.VectorIntegers : Prop :=
  (∀ (s : State) (g : Nat) (e : VEngine), s.Settled → g < 256 → s.ve g = e →
    (∀ x, s.issues g (encodeV 0x00#8 x) = true → exec (.vnop g x) s = s.gives (s.goesOn g e 0)) ∧
    (∀ x, s.issues g (encodeV 0x06#8 x) = true → exec (.rdflg g x) s =
      s.gives (s.goesOn g (e.setS x.d.toNat (e.flags.setWidth 64) false) 0)) ∧
    (∀ x, s.issues g (encodeV 0x07#8 x) = true → exec (.clrflg g x) s = s.gives (s.goesOn g { e with flags := 0#16 } 0)) ∧
    (∀ x, s.issues g (encodeV 0x08#8 x) = true → exec (.sadd g x) s =
      s.gives (s.goesOn g (e.setS x.d.toNat (e.sreg x.a.toNat + e.sreg x.b.toNat) (e.sbad x.a.toNat || e.sbad x.b.toNat)) 0)) ∧
    (∀ x, s.issues g (encodeV 0x0A#8 x) = true → exec (.ssub g x) s =
      s.gives (s.goesOn g (e.setS x.d.toNat (e.sreg x.a.toNat - e.sreg x.b.toNat) (e.sbad x.a.toNat || e.sbad x.b.toNat)) 0)) ∧
    (∀ x, s.issues g (encodeV 0x09#8 x) = true → exec (.saddi g x) s =
      s.gives (s.goesOn g (e.setS x.d.toNat (e.sreg x.a.toNat + x.imm.signExtend 64) (e.sbad x.a.toNat)) 0)) ∧
    (∀ x, s.issues g (encodeV 0x0B#8 x) = true → exec (.smul g x) s =
      s.gives (s.goesOn g (e.setS x.d.toNat (e.sreg x.a.toNat * e.sreg x.b.toNat) (e.sbad x.a.toNat || e.sbad x.b.toNat)) 0)) ∧
    (∀ x, s.issues g (encodeV 0x0C#8 x) = true → exec (.sand g x) s =
      s.gives (s.goesOn g (e.setS x.d.toNat (e.sreg x.a.toNat &&& e.sreg x.b.toNat) (e.sbad x.a.toNat || e.sbad x.b.toNat)) 0)) ∧
    (∀ x, s.issues g (encodeV 0x0D#8 x) = true → exec (.sor g x) s =
      s.gives (s.goesOn g (e.setS x.d.toNat (e.sreg x.a.toNat ||| e.sreg x.b.toNat) (e.sbad x.a.toNat || e.sbad x.b.toNat)) 0)) ∧
    (∀ x, s.issues g (encodeV 0x0E#8 x) = true → exec (.sxor g x) s =
      s.gives (s.goesOn g (e.setS x.d.toNat (e.sreg x.a.toNat ^^^ e.sreg x.b.toNat) (e.sbad x.a.toNat || e.sbad x.b.toNat)) 0)) ∧
    (∀ x, s.issues g (encodeV 0x0F#8 x) = true → exec (.ssh g x) s =
      s.gives (s.goesOn g (e.setS x.d.toNat (shiftScalar x.ty.toNat (e.sreg x.a.toNat) ((e.sreg x.b.toNat + x.imm.signExtend 64).toNat % 64)) (e.sbad x.a.toNat || e.sbad x.b.toNat)) 0)) ∧
    (∀ x, s.issues g (encodeJ 0x10#8 x) = true → exec (.smovi g x) s =
      s.gives (s.goesOn g (e.setS x.d.toNat (x.imm.signExtend 64) false) 0)) ∧
    (∀ x, s.issues g (encodeJ 0x11#8 x) = true → exec (.smovh g x) s =
      s.gives (s.goesOn g (e.setS x.d.toNat (x.imm ++ (e.sreg x.d.toNat).extractLsb' 0 32) (e.sbad x.d.toNat)) 0)) ∧
    (∀ x, s.issues g (encodeJ 0x12#8 x) = true → exec (.vmovi g x) s = s.gives (s.goesOn g (e.moveImm x) 0))) ∧
  (∀ (s : State) (g : Nat) (e : VEngine), s.Settled → g < 256 → s.ve g = e →
    (∀ x, s.issues g (encodeV 0x31#8 x) = true → exec (.iadd g x) s =
      s.gives (s.goesOn g (e.bin x (fun a b => ((a + b) % 2 ^ 32, 0))).1 (e.bin x (fun a b => ((a + b) % 2 ^ 32, 0))).2)) ∧
    (∀ x, s.issues g (encodeV 0x32#8 x) = true → exec (.isub g x) s =
      s.gives (s.goesOn g (e.bin x (fun a b => ((a + 2 ^ 32 - b) % 2 ^ 32, 0))).1 (e.bin x (fun a b => ((a + 2 ^ 32 - b) % 2 ^ 32, 0))).2)) ∧
    (∀ x, s.issues g (encodeV 0x33#8 x) = true → exec (.vand g x) s =
      s.gives (s.goesOn g (e.bin x (fun a b => (a &&& b, 0))).1 (e.bin x (fun a b => (a &&& b, 0))).2)) ∧
    (∀ x, s.issues g (encodeV 0x34#8 x) = true → exec (.vor g x) s =
      s.gives (s.goesOn g (e.bin x (fun a b => (a ||| b, 0))).1 (e.bin x (fun a b => (a ||| b, 0))).2)) ∧
    (∀ x, s.issues g (encodeV 0x35#8 x) = true → exec (.vxor g x) s =
      s.gives (s.goesOn g (e.bin x (fun a b => (a ^^^ b, 0))).1 (e.bin x (fun a b => (a ^^^ b, 0))).2)) ∧
    (∀ x, s.issues g (encodeV 0x36#8 x) = true → exec (.shl g x) s =
      s.gives (s.goesOn g (e.bin x (fun a b => (a * 2 ^ (b % 32) % 2 ^ 32, 0))).1 (e.bin x (fun a b => (a * 2 ^ (b % 32) % 2 ^ 32, 0))).2)) ∧
    (∀ x, s.issues g (encodeV 0x37#8 x) = true → exec (.shr g x) s =
      s.gives (s.goesOn g (e.bin x (fun a b => (a / 2 ^ (b % 32), 0))).1 (e.bin x (fun a b => (a / 2 ^ (b % 32), 0))).2)) ∧
    (∀ x, s.issues g (encodeV 0x38#8 x) = true → exec (.sra g x) s =
      s.gives (s.goesOn g (e.bin x (fun a b => (((BitVec.ofNat 32 a).sshiftRight (b % 32)).toNat, 0))).1 (e.bin x (fun a b => (((BitVec.ofNat 32 a).sshiftRight (b % 32)).toNat, 0))).2)) ∧
    (∀ x, s.issues g (encodeV 0x39#8 x) = true → exec (.icmp g x) s =
      s.gives (s.goesOn g (e.comp x (fun a b => (icmp (x.imm.toNat % 8) a b, 0))).1 (e.comp x (fun a b => (icmp (x.imm.toNat % 8) a b, 0))).2)) ∧
    (∀ x, s.issues g (encodeV 0x2B#8 x) = true → exec (.sel g x) s = s.gives (s.goesOn g (e.select x) 0)) ∧
    (∀ x, s.issues g (encodeV 0x3A#8 x) = true → exec (.vsplat g x) s =
      s.gives (s.goesOn g (e.spread x (e.active x.pg x.pn).toNat) 0)) ∧
    (∀ x, s.issues g (encodeV 0x3B#8 x) = true → exec (.vext g x) s = s.gives (s.goesOn g (e.extract x) 0)) ∧
    (∀ x, s.issues g (encodeV 0x3C#8 x) = true → exec (.vins g x) s = s.gives (s.goesOn g (e.spread x (2 ^ x.lane.toNat)) 0)) ∧
    (∀ x, s.issues g (encodeV 0x3D#8 x) = true → exec (.vperm g x) s = s.gives (s.goesOn g (e.permute x) 0)))

/-- R59, R60, R105 to R107: the floating-point instructions act on their lanes under their TYPE and RM. R104, R109, R113 to R115: predicates, special functions, reductions and the exact window. -/
def Obligations.VectorFloats : Prop :=
  (∀ (s : State) (g : Nat) (e : VEngine), s.Settled → g < 256 → s.ve g = e →
    (∀ x, s.issues g (encodeV 0x20#8 x) = true → exec (.fadd g x) s =
      s.gives (s.goesOn g (e.bin x (fun a b => onElems x.fmt (fun a b _ => x.fmt.add x.mode a b) a b 0)).1 (e.bin x (fun a b => onElems x.fmt (fun a b _ => x.fmt.add x.mode a b) a b 0)).2)) ∧
    (∀ x, s.issues g (encodeV 0x21#8 x) = true → exec (.fsub g x) s =
      s.gives (s.goesOn g (e.bin x (fun a b => onElems x.fmt (fun a b _ => x.fmt.sub x.mode a b) a b 0)).1 (e.bin x (fun a b => onElems x.fmt (fun a b _ => x.fmt.sub x.mode a b) a b 0)).2)) ∧
    (∀ x, s.issues g (encodeV 0x22#8 x) = true → exec (.fmul g x) s =
      s.gives (s.goesOn g (e.bin x (fun a b => onElems x.fmt (fun a b _ => x.fmt.mul x.mode a b) a b 0)).1 (e.bin x (fun a b => onElems x.fmt (fun a b _ => x.fmt.mul x.mode a b) a b 0)).2)) ∧
    (∀ x, s.issues g (encodeV 0x23#8 x) = true → exec (.fma g x) s =
      s.gives (s.goesOn g (e.tri x (onElems x.fmt (x.fmt.fma x.mode false false))).1 (e.tri x (onElems x.fmt (x.fmt.fma x.mode false false))).2)) ∧
    (∀ x, s.issues g (encodeV 0x24#8 x) = true → exec (.fms g x) s =
      s.gives (s.goesOn g (e.tri x (onElems x.fmt (x.fmt.fma x.mode false true))).1 (e.tri x (onElems x.fmt (x.fmt.fma x.mode false true))).2)) ∧
    (∀ x, s.issues g (encodeV 0x25#8 x) = true → exec (.fnma g x) s =
      s.gives (s.goesOn g (e.tri x (onElems x.fmt (x.fmt.fma x.mode true false))).1 (e.tri x (onElems x.fmt (x.fmt.fma x.mode true false))).2)) ∧
    (∀ x, s.issues g (encodeV 0x28#8 x) = true → exec (.fmin g x) s =
      s.gives (s.goesOn g (e.bin x (fun a b => onElems x.fmt (fun a b _ => x.fmt.minmax false a b) a b 0)).1 (e.bin x (fun a b => onElems x.fmt (fun a b _ => x.fmt.minmax false a b) a b 0)).2)) ∧
    (∀ x, s.issues g (encodeV 0x29#8 x) = true → exec (.fmax g x) s =
      s.gives (s.goesOn g (e.bin x (fun a b => onElems x.fmt (fun a b _ => x.fmt.minmax true a b) a b 0)).1 (e.bin x (fun a b => onElems x.fmt (fun a b _ => x.fmt.minmax true a b) a b 0)).2)) ∧
    (∀ x, s.issues g (encodeV 0x2A#8 x) = true → exec (.fcmp g x) s =
      s.gives (s.goesOn g (e.comp x (cmpLane x.fmt (x.imm.toNat % 8))).1 (e.comp x (cmpLane x.fmt (x.imm.toNat % 8))).2)) ∧
    (∀ x, s.issues g (encodeV 0x2E#8 x) = true → exec (.cvt g x) s =
      s.gives (s.goesOn g (e.un x (fun a => cvtLane (x.c.toNat % 16) x.ty.toNat x.mode a)).1 (e.un x (fun a => cvtLane (x.c.toNat % 16) x.ty.toNat x.mode a)).2)) ∧
    (∀ x, s.issues g (encodeV 0x2F#8 x) = true → exec (.fcvti g x) s =
      s.gives (s.goesOn g (e.un x (toInt32 x.mode)).1 (e.un x (toInt32 x.mode)).2)) ∧
    (∀ x, s.issues g (encodeV 0x30#8 x) = true → exec (.icvtf g x) s =
      s.gives (s.goesOn g (e.un x (ofInt32 x.mode)).1 (e.un x (ofInt32 x.mode)).2))) ∧
  (∀ (s : State) (g : Nat) (e : VEngine), s.Settled → g < 256 → s.ve g = e →
    (∀ x, s.issues g (encodeV 0x40#8 x) = true → exec (.pand g x) s =
      s.gives (s.goesOn g (e.setP x.d.toNat (e.preg x.a.toNat &&& e.preg x.b.toNat)) 0)) ∧
    (∀ x, s.issues g (encodeV 0x41#8 x) = true → exec (.por g x) s =
      s.gives (s.goesOn g (e.setP x.d.toNat (e.preg x.a.toNat ||| e.preg x.b.toNat)) 0)) ∧
    (∀ x, s.issues g (encodeV 0x42#8 x) = true → exec (.pxor g x) s =
      s.gives (s.goesOn g (e.setP x.d.toNat (e.preg x.a.toNat ^^^ e.preg x.b.toNat)) 0)) ∧
    (∀ x, s.issues g (encodeV 0x43#8 x) = true → exec (.pnot g x) s =
      s.gives (s.goesOn g (e.setP x.d.toNat (~~~(e.preg x.a.toNat))) 0)) ∧
    (∀ x, s.issues g (encodeV 0x44#8 x) = true → exec (.pfirst g x) s =
      s.gives (s.goesOn g (e.setP x.d.toNat (BitVec.ofNat 64 (2 ^ min 64 (e.sreg x.a.toNat).toNat - 1))) 0)) ∧
    (∀ x, s.issues g (encodeV 0x45#8 x) = true → exec (.pcnt g x) s =
      s.gives (s.goesOn g (e.setS x.d.toNat (BitVec.ofNat 64 (popCount 64 (e.preg x.a.toNat).toNat)) false) 0)) ∧
    (∀ x, s.issues g (encodeV 0x48#8 x) = true → exec (.exp2 g x) s = s.gives (s.goesOn g (e.un x sfExp2).1 (e.un x sfExp2).2)) ∧
    (∀ x, s.issues g (encodeV 0x49#8 x) = true → exec (.log2 g x) s = s.gives (s.goesOn g (e.un x sfLog2).1 (e.un x sfLog2).2)) ∧
    (∀ x, s.issues g (encodeV 0x4A#8 x) = true → exec (.rcp g x) s = s.gives (s.goesOn g (e.un x sfRcp).1 (e.un x sfRcp).2)) ∧
    (∀ x, s.issues g (encodeV 0x4B#8 x) = true → exec (.rsqrt g x) s =
      s.gives (s.goesOn g (e.un x sfRsqrt).1 (e.un x sfRsqrt).2)) ∧
    (∀ x, s.issues g (encodeV 0x50#8 x) = true → exec (.rsum g x) s =
      s.gives (s.goesOn g (e.reduce x 0x80000000 (fFP32.add x.mode)).1 (e.reduce x 0x80000000 (fFP32.add x.mode)).2)) ∧
    (∀ x, s.issues g (encodeV 0x51#8 x) = true → exec (.rmin g x) s =
      s.gives (s.goesOn g (e.reduce x fFP32.infCode (fFP32.minmax false)).1 (e.reduce x fFP32.infCode (fFP32.minmax false)).2)) ∧
    (∀ x, s.issues g (encodeV 0x52#8 x) = true → exec (.rmax g x) s =
      s.gives (s.goesOn g (e.reduce x (fFP32.inf true) (fFP32.minmax true)).1 (e.reduce x (fFP32.inf true) (fFP32.minmax true)).2)) ∧
    (∀ x, s.issues g (encodeV 0x53#8 x) = true → exec (.vsumx g x) s = s.gives (s.goesOn g (e.sumExact x).1 (e.sumExact x).2)) ∧
    (∀ x, s.issues g (encodeV 0x54#8 x) = true → exec (.xcvt g x) s = s.gives (s.goesOn g (e.convExact x).1 (e.convExact x).2)))

/-- R93 to R101, R106, R111, R124: VECTOR starts its program; MARK, LOOP, BR, VFENCE and HALT steer it. -/
def Obligations.VectorControl : Prop :=
  ∀ (s : State) (g : Nat) (c : Cmd), s.Settled → g < 256 →
    (s.headCmd g 1 0x10 = some c → (s.ve g).running = false → larderSize < c.f 1 20 0 + 8 * c.f 1 44 32 →
      exec (.vector g) s = s.gives (s.endCmd (g / 8) c.id stUNSUP)) ∧
    (∀ bs s', s.headCmd g 1 0x10 = some c → (s.ve g).running = false → c.f 1 20 0 + 8 * c.f 1 44 32 ≤ larderSize →
      s.larderRead g (vectorWho g 4 c.ctx) (c.f 1 20 0) (8 * c.f 1 44 32) = (bs, s') →
      (bs.any (fun b => b.2) = true → exec (.vector g) s = s.gives (s'.endCmd (g / 8) c.id stPOISON)) ∧
      (bs.any (fun b => b.2) = false →
        programOk (s.levelOf (s.suiteOfDie (g / 64))) (wordsOfBytes (bs.map fun b => b.1)) = false →
        exec (.vector g) s = s.gives (s'.endCmd (g / 8) c.id stUNSUP)) ∧
      (bs.any (fun b => b.2) = false →
        programOk (s.levelOf (s.suiteOfDie (g / 64))) (wordsOfBytes (bs.map fun b => b.1)) = true →
        exec (.vector g) s = s.gives ((s'.setVe g (startEngine c (wordsOfBytes (bs.map fun b => b.1)))).putCmd (g / 8)
          { c with st := .running }))) ∧
    (∀ x, s.issues g (encodeV 0x01#8 x) = true → s.vcmd g = some c → bitOf c.vfl.toNat 5 = false →
      exec (.halt g x) s = s.gives
        ((s.putCmd (g / 8) { c with prog := (s.ve g).marks.toNat + 1, dirty := none }).endCmd (g / 8) c.id stOK)) ∧
    (∀ x, s.issues g (encodeV 0x01#8 x) = true → s.vcmd g = some c → bitOf c.vfl.toNat 5 = true →
      exec (.halt g x) s = s.gives
        ((s.putCmd (g / 8) { c with prog := (s.ve g).marks.toNat + 1 }).endCmd (g / 8) c.id stPOISON)) ∧
    (∀ x, s.issues g (encodeV 0x02#8 x) = true → s.vcmd g = some c → exec (.mark g x) s = s.gives
      (((s.setVe g { s.ve g with marks := (s.ve g).marks + 1 }).onVcmd g fun c =>
        { c with prog := ((s.ve g).marks + 1).toNat, dirty := none }).stepOn g)) ∧
    (∀ x, s.issues g (encodeV 0x03#8 x) = true → s.vcmd g = some c → (s.ve g).sbad x.a.toNat = false →
      ((s.ve g).sreg x.a.toNat).toNat ≠ 0 → fld x.imm.toNat 11 0 ≠ 0 → exec (.loop g x) s = s.gives
        (s.goTo g ((s.ve g).pc + 1)
          (⟨(s.ve g).pc + 1, (s.ve g).pc + fld x.imm.toNat 11 0, ((s.ve g).sreg x.a.toNat).toNat⟩ :: (s.ve g).loops))) ∧
    (∀ x, s.issues g (encodeV 0x03#8 x) = true → s.vcmd g = some c → (s.ve g).sbad x.a.toNat = false →
      ((s.ve g).sreg x.a.toNat).toNat = 0 → exec (.loop g x) s = s.gives (s.after g ((s.ve g).pc + fld x.imm.toNat 11 0))) ∧
    (∀ x, s.issues g (encodeV 0x04#8 x) = true → s.vcmd g = some c → (s.ve g).sbad x.a.toNat = false →
      (s.ve g).sbad x.b.toNat = false →
      (brTaken x.ty.toNat ((s.ve g).sreg x.a.toNat) ((s.ve g).sreg x.b.toNat) = true →
        exec (.br g x) s = s.gives (s.goTo g (((s.ve g).pc : Int) + x.simm).toNat (s.ve g).loops)) ∧
      (brTaken x.ty.toNat ((s.ve g).sreg x.a.toNat) ((s.ve g).sreg x.b.toNat) = false →
        exec (.br g x) s = s.gives (s.stepOn g))) ∧
    (∀ x, s.issues g (encodeV 0x03#8 x) = true → s.vcmd g = some c → (s.ve g).sbad x.a.toNat = true →
      exec (.loop g x) s = s.gives (s.endCmd (g / 8) (s.ve g).cmd stPOISON)) ∧
    (∀ x, s.issues g (encodeV 0x05#8 x) = true → s.vcmd g = some c →
      exec (.vfence g x) s = s.gives ((s.rlineFence (g / 8) x.c.toNat).stepOn g))

/-- R95, R103, R116 to R122: the instructions that reach the Larder, memory and the drain port. -/
def Obligations.VectorAccesses : Prop :=
  ∀ (s : State) (g : Nat) (c : Cmd) (x : VForm), s.Settled → g < 256 → s.vcmd g = some c →
    (s.issues g (encodeV 0x13#8 x) = true → (s.ve g).sbad x.a.toNat = false →
      ∀ a, a = ofSigned 64 ((((s.ve g).sreg x.a.toNat).toNat : Int) + x.simm) → a % 8 = 0 → a + 8 ≤ larderSize →
      ∀ bs s', s.larderRead g (vectorWho g 0 c.ctx) a 8 = (bs, s') → exec (.sldl g x) s = s.gives
        ((s'.setVe g ((s'.ve g).setS x.d.toNat (BitVec.ofNat 64 (ofBytes (bs.map fun b => b.1))) (bs.any fun b => b.2))).stepOn g)) ∧
    (s.issues g (encodeV 0x14#8 x) = true → (s.ve g).sbad x.a.toNat = false →
      ∀ a, a = ofSigned 64 ((((s.ve g).sreg x.a.toNat).toNat : Int) + x.simm) → a % 8 = 0 → a + 8 ≤ larderSize →
      exec (.sstl g x) s = s.gives (((s.larderWrite g (vectorWho g 1 c.ctx) a
        ((toBytes 8 ((s.ve g).sreg x.d.toNat).toNat).map fun b => (b, (s.ve g).sbad x.d.toNat))).raiseFlags g
          (if (s.ve g).sbad x.d.toNat then flPS else 0)).stepOn g)) ∧
    (s.issues g (encodeV 0x60#8 x) = true → (s.ve g).badAddr x = false →
      larderFault (esBytes x.es) (((s.ve g).laneAddrs x).map fun l => l.a) = none →
      ∀ t s', s.readAll (vectorUnit g c 0 false false) (larderSpots (laneKeys (esBytes x.es) ((s.ve g).laneAddrs x))) = (t, s') →
      exec (.ldl g x) s = s.gives (s'.goesOn g (((s'.ve g).loadInto x ((s.ve g).laneAddrs x) t true).1.postInc x)
        ((s'.ve g).loadInto x ((s.ve g).laneAddrs x) t true).2)) ∧
    (s.issues g (encodeV 0x60#8 x) = true → (s.ve g).badAddr x = true →
      exec (.ldl g x) s = s.gives (s.endCmd (g / 8) (s.ve g).cmd stPOISON)) ∧
    (∀ f, s.issues g (encodeV 0x60#8 x) = true → (s.ve g).badAddr x = false →
      larderFault (esBytes x.es) (((s.ve g).laneAddrs x).map fun l => l.a) = some f → exec (.ldl g x) s = s.gives
        ((s.incEnt (0x5220 + g / 64) (g % 64 + 1) 1).capture (g / 64)
          { accReport f.1 (roomAgent 2 g) 0 f.2 (some c.ctx) with room := true })) ∧
    (s.issues g (encodeV 0x61#8 x) = true → (s.ve g).badAddr x = false →
      larderFault (esBytes x.es) (((s.ve g).laneAddrs x).map fun l => l.a) = none →
      ∀ ls s', s.storeOrder ((s.ve g).laneAddrs x) = (ls, s') → exec (.stl g x) s = s.gives
        ((each (joinRuns ((s.ve g).storePieces x ls).1) (fun r s => s.larderWrite g (vectorWho g 1 c.ctx) r.1 r.2) s').goesOn g
          (((each (joinRuns ((s.ve g).storePieces x ls).1) (fun r s => s.larderWrite g (vectorWho g 1 c.ctx) r.1 r.2) s').ve g).postInc x)
          ((s.ve g).storePieces x ls).2)) ∧
    (s.issues g (encodeV 0x62#8 x) = true → exec (.ldm g x) s = s.gives (s.loadMemory g x c none)) ∧
    (∀ l w, s.roomUp g = true → (s.ve g).load = some l → (s.ve g).prog[(s.ve g).pc]? = some w →
      exec (.loadDataReturn g) s = s.gives (s.loadMemory g (decodeV w) c (some l.fill))) ∧
    (∀ fill l s', (s.ve g).badAddr x = false → (((s.ve g).laneAddrs x).any fun l => l.a % esBytes x.es ≠ 0) = false → x.ord ≠ 1 →
      s.plan (vectorUnit g c 0 (x.ord = 0 && fill) true) (laneFirsts (esBytes x.es) ((s.ve g).laneAddrs x)) false true = (.ready l, s') →
      (l.any fun p => match p.tgt with | .remote _ => true | _ => false) = false →
      ∀ t u, s'.readAll (vectorUnit g c 0 (x.ord = 0 && fill) true) l = (t, u) → s.loadMemory g x c (some fill) =
        u.goesOn g (((u.ve g).loadInto x ((s.ve g).laneAddrs x) t false).1.postInc x)
          ((u.ve g).loadInto x ((s.ve g).laneAddrs x) t false).2) ∧
    (s.issues g (encodeV 0x63#8 x) = true → exec (.stm g x) s = s.gives (s.storeMemory g x c)) ∧
    (∀ l s' ls o t, (s.ve g).badAddr x = false → (((s.ve g).laneAddrs x).any fun l => l.a % esBytes x.es ≠ 0) = false →
      s.plan (vectorUnit g c 1 false false) (laneFirsts (esBytes x.es) ((s.ve g).laneAddrs x)) false true = (.ready l, s') →
      (l.any fun p => match p.tgt with | .remote _ => true | _ => false) = false → c.bOrd = false →
      (if x.ord = 1 then s'.rlineFence (g / 8) x.scope else s').storeOrder ((s.ve g).laneAddrs x) = (ls, o) →
      t = each ((s.ve g).laneAddrs x)
        (fun y s => s.onVcmd g fun c => { c with dirty := growDirty y.a (y.a + esBytes x.es) c.dirty })
        (each (joinRuns ((s.ve g).storePieces x ls).1)
          (fun r s => s.writeRun (vectorUnit g c 1 false false) 1 .keep l ⟨false, r.1⟩ r.2) o) →
      s.storeMemory g x c = t.goesOn g ((t.ve g).postInc x) ((s.ve g).storePieces x ls).2) ∧
    (∀ l s', (s.ve g).badAddr x = false → (((s.ve g).laneAddrs x).any fun l => l.a % esBytes x.es ≠ 0) = false →
      s.plan (vectorUnit g c 1 false false) (laneFirsts (esBytes x.es) ((s.ve g).laneAddrs x)) false true = (.ready l, s') →
      (l.any fun p => match p.tgt with | .remote _ => true | _ => false) = true →
      s.storeMemory g x c = s'.endCmd (g / 8) (s'.ve g).cmd stREMOTE) ∧
    (∀ r t, s.issues g (encodeV 0x64#8 x) = true → (s.room g).port = r :: t → r.code = [] → s.armedOn g 1 = false →
      ∃ u : State, exec (.recv g x) s = s.gives (u.stepOn g) ∧ (u.room g).port = t ∧ u.mem = s.mem ∧ (u.ve g).pc = (s.ve g).pc ∧
        ∀ i, i < 64 → ((u.ve g).vreg x.d.toNat)[i]? = some (laneAt r.lanes i, r.bad.getLsbD i)) ∧
    (s.issues g (encodeV 0x64#8 x) = true → (s.room g).port = [] → exec (.recv g x) s = .next s)

/-- R93, R95, R104: registers of the vector engine: s0 and p0 are constant, a write is read back, and a lane operation
changes the active lanes of its destination only. -/
def Obligations.VectorRegisters : Prop :=
  ∀ (e : VEngine) (x : VForm),
    (e.sreg 0 = 0 ∧ e.sbad 0 = false ∧ e.preg 0 = BitVec.allOnes 64 ∧ (∀ v b, e.setS 0 v b = e) ∧ ∀ v, e.setP 0 v = e) ∧
    (∀ r v b, 0 < r → r < 16 → (e.setS r v b).sreg r = v ∧ (e.setS r v b).sbad r = b ∧
      ∀ q, q ≠ r → (e.setS r v b).sreg q = e.sreg q ∧ (e.setS r v b).sbad q = e.sbad q) ∧
    (∀ r v, 0 < r → (e.setP r v).preg r = v ∧ ∀ q, q ≠ r → (e.setP r v).preg q = e.preg q) ∧
    (∀ (f : Nat → Nat → Nat × Nat) (i : Nat), i < 64 →
      ((e.bin x f).1.vreg x.d.toNat)[i]? = some
        (if (e.active x.pg x.pn).getLsbD i then
          ((f (lget (0, false) (e.vreg x.a.toNat) i).1 (lget (0, false) (e.source x x.b) i).1).1 % 2 ^ 32,
            (lget (0, false) (e.vreg x.a.toNat) i).2 || (lget (0, false) (e.source x x.b) i).2)
         else lget (0, false) (e.vreg x.d.toNat) i)) ∧
    (∀ (f : Nat → Nat × Nat) (i : Nat), i < 64 →
      ((e.un x f).1.vreg x.d.toNat)[i]? = some
        (if (e.active x.pg x.pn).getLsbD i then
          ((f (lget (0, false) (e.vreg x.a.toNat) i).1).1 % 2 ^ 32, (lget (0, false) (e.vreg x.a.toNat) i).2)
         else lget (0, false) (e.vreg x.d.toNat) i)) ∧
    (∀ (f : Nat → Nat → Nat → Nat × Nat) (i : Nat), i < 64 →
      ((e.tri x f).1.vreg x.d.toNat)[i]? = some
        (if (e.active x.pg x.pn).getLsbD i then
          ((f (lget (0, false) (e.vreg x.a.toNat) i).1 (lget (0, false) (e.source x x.b) i).1
              (lget (0, false) (e.source x x.c) i).1).1 % 2 ^ 32,
            (lget (0, false) (e.vreg x.a.toNat) i).2 || (lget (0, false) (e.source x x.b) i).2 ||
              (lget (0, false) (e.source x x.c) i).2)
         else lget (0, false) (e.vreg x.d.toNat) i)) ∧
    (∀ (f : Nat → Nat → Nat × Nat) (r : Nat), r ≠ x.d.toNat → (e.bin x f).1.vreg r = e.vreg r) ∧
    (∀ f : Nat → Nat → Nat × Nat, (e.bin x f).1.s = e.s ∧ (e.bin x f).1.p = e.p ∧ (e.bin x f).1.flags = e.flags ∧
      (e.bin x f).1.pc = e.pc)

/-- R102, Tables 4.3 and 4.4: form V and form J keep every field of an instruction: what is encoded is decoded, and every
word is some instruction of form V. -/
def Obligations.VectorEncoding : Prop :=
  (∀ (op : BitVec 8) (x : VForm), opcodeOf (encodeV op x) = op ∧ decodeV (encodeV op x) = x) ∧
  (∀ (op : BitVec 8) (x : JForm), opcodeOf (encodeJ op x) = op ∧ decodeJ (encodeJ op x) = x) ∧
  (∀ w : BitVec 64, encodeV (opcodeOf w) (decodeV w) = w) ∧
  (∀ w : BitVec 64, encodeJ (opcodeOf w) (decodeJ w) = w ↔ w.extractLsb' 32 15 = 0#15)

/-- R33, R59, R60, R106: sums of FP32, FP16 and BF16 do not depend on the order of their operands, a NaN gives the
canonical NaN, and a value less itself is plus zero. -/
def Obligations.FloatArithmetic : Prop :=
  ∀ (f : FFmt) (rm : RMode) (x y : Nat),
    f.add rm x y = f.add rm y x ∧ f.mul rm x y = f.mul rm y x ∧
    (f.isNaN x = true → (f.add rm x y).1 = f.nanCode ∧ (f.sub rm x y).1 = f.nanCode ∧ (f.mul rm x y).1 = f.nanCode ∧
      (f.minmax true x y).1 = f.nanCode ∧ (f.minmax false x y).1 = f.nanCode) ∧
    (∀ n m e, f.decode x = .fin n m e → f.sub rm x x = (0, 0)) ∧
    (∀ n, f.decode x = .inf n → f.sub rm x x = (f.nanCode, xNV)) ∧
    (f.decode x = .inf true ∨ f.decode x = .inf false → ∀ n e, f.decode y = .fin n 0 e → f.mul rm x y = (f.nanCode, xNV))

/-- R108: FABS and FNEG clear and invert the sign bit of their elements, and a NaN operand gives the canonical NaN without
raising a flag. -/
def Obligations.SignOperations : Prop :=
  (∀ f ∈ [fFP32, fBF16, fFP16], ∀ x, x < 2 ^ f.width →
    (f.isNaN x = true → signOp f (fun _ => false) x = (f.nanCode, 0) ∧ signOp f (fun n => !n) x = (f.nanCode, 0)) ∧
    (f.isNaN x = false → signOp f (fun _ => false) x = (x % 2 ^ (f.width - 1), 0) ∧
      signOp f (fun n => !n) x = ((x + 2 ^ (f.width - 1)) % 2 ^ f.width, 0))) ∧
  (fFP32.nanCode = 0x7FC00000 ∧ fBF16.nanCode = 0x7FC0 ∧ fFP16.nanCode = 0x7E00) ∧
  (∀ (s : State) (g : Nat) (e : VEngine), s.Settled → g < 256 → s.ve g = e →
    (∀ x, s.issues g (encodeV 0x2C#8 x) = true → exec (.fabs g x) s =
      s.gives (s.goesOn g (e.un x (fun a => onElems x.fmt (fun a _ _ => signOp x.fmt (fun _ => false) a) a 0 0)).1 (e.un x (fun a => onElems x.fmt (fun a _ _ => signOp x.fmt (fun _ => false) a) a 0 0)).2)) ∧
    (∀ x, s.issues g (encodeV 0x2D#8 x) = true → exec (.fneg g x) s =
      s.gives (s.goesOn g (e.un x (fun a => onElems x.fmt (fun a _ _ => signOp x.fmt (fun n => !n) a) a 0 0)).1 (e.un x (fun a => onElems x.fmt (fun a _ _ => signOp x.fmt (fun n => !n) a) a 0 0)).2)))

/-! ### Reduce lines, wing caches and coherence (R179, R187 to R205) -/

/-- R179, R187 to R195: reduce lines go home as one full-line write; a wing cache's registers, operations and Landing. R14, R19, R200, R201, R219, R222, R227, R241, R243, R302, R307: a request that reaches its home is refused as its stack, its
frame, its suite or the tier region asks, waits for a hallway or for a stack in CRITICAL, queues behind its line, or starts; one to a lost home
is answered with poison. -/
def Obligations.CachesAndHomes : Prop :=
  (∀ s : State, s.Settled →
    (∀ h line r x, h < 36 → (s.rlinesOf h).find? (fun r => decide (r.line = line)) = some r →
      x = s.rlineRead h ⟨holderAgent h, 1, none⟩ r →
      exec (.reduceLineWriteback h line) s = s.gives
        ((x.2.setRlines h ((x.2.rlinesOf h).filter fun r => decide (r.line ≠ line))).unitWrite ⟨holderAgent h, 1, none⟩ line fullMask
          x.1 none) ∧
      exec (.reduceLineTimeout h line) s = s.gives ((s.advance (r.time + 64000)).rlineBack h line)) ∧
    (∀ h line, h < 36 → (s.rlinesOf h).find? (fun r => decide (r.line = line)) = none →
      exec (.reduceLineWriteback h line) s = .next s ∧ exec (.reduceLineTimeout h line) s = .next s) ∧
    (∀ w v, w < 32 → s.wingUp w = true → 12 < popCount 16 (fld v.toNat 47 32) →
      exec (.wccfgWrite w v) s = .next (s.setRegF (paCache w 8) 16 16 1)) ∧
    (∀ w v, w < 32 → s.wingUp w = true → popCount 16 (fld v.toNat 47 32) ≤ 12 → exec (.wccfgWrite w v) s = s.gives
      ((s.setReg (paCache w 0) (BitVec.ofNat 64 (fld v.toNat 48 16 * 2 ^ 16 + max 16 (min 256 (fld v.toNat 8 0))))).retryFills w)) ∧
    (∀ w, w < 32 → s.wingUp w = true → (s.cache w).op = 0 → ∀ u : Nat → State,
      (∀ op, u op = (s.setCache w { s.cache w with op := op }).setRegF (paCache w 0x10) 2 2 1) →
      exec (.clean w) s = s.gives ((u 1).flushCache w fun _ => .clean) ∧
      exec (.flush w) s = s.gives ((u 2).flushCache w fun n => if bitOf (s.regF (paCache w 0) 47 32) n then .none else .flush) ∧
      exec (.flushAll w) s = s.gives (((u 3).flushCache w fun _ => .flush).setRegF (paCache w 0) 47 32 0)) ∧
    (∀ w c, w < 32 → s.wingUp w = true → (s.cache w).op ≠ 0 → c = .clean w ∨ c = .flush w ∨ c = .flushAll w → exec c s = .next s) ∧
    (∀ w, w < 32 → s.wingUp w = true → exec (.wcopDone w) s = .next
      ((s.setCache w { s.cache w with op := 0 }).setRegF (paCache w 0x10) 2 2 0)) ∧
    (∀ w m u, w < 32 → s.wingUp w = true → u = (s.setRegF (paCache w 8) 47 32
        (s.regF (paCache w 8) 47 32 &&& (65535 - m.toNat))).setEnt (0x5230 + w / 8) (w % 8 + 1)
          (s.regF (paCache w 8) 47 32 &&& (65535 - m.toNat)) →
      exec (.wayReenable w m) s = s.gives (u.retryFills w) ∧
      (∀ n, n < 16 → bitOf (u.regF (paCache w 8) 47 32) n = (bitOf (s.regF (paCache w 8) 47 32) n && !m.getLsbD n)) ∧
      u.ent (0x5230 + w / 8) (w % 8 + 1) = u.regF (paCache w 8) 47 32 ∧ u.caches = s.caches ∧ u.mem = s.mem) ∧
    (∀ w d, w < 32 → s.wingUp w = true → regDesc (paCache w 0x18) = some d → exec (.wclandRead w) s = .next
      ((s.emit (.regRead (paCache w 0x18) (s.reg (paCache w 0x18)))).setReg (paCache w 0x18) (s.reg (paCache w 0x18) &&& ~~~d.rc))) ∧
    (∀ w e x, w < 32 → s.wingUp w = true → (s.cache w).landing.find? (fun e => !e.sent) = some e → x = s.readLanded w e.line e.l →
      exec (.landingWbSend w) s = s.gives (s.landSendLine w e) ∧ (s.landSendLine w e).net = x.2.net ++ [.wb w e.line x.1] ∧
      ((s.landSendLine w e).cache w).landing.length = (x.2.cache w).landing.length) ∧
    (∀ w, w < 32 → (s.cache w).landing.find? (fun e => !e.sent) = none → exec (.landingWbSend w) s = .next s) ∧
    (∀ a line c t, a < 40 → memLine line = true → s.held a line = some c → c.hold = some t →
      exec (.holdExpiry a line) s = s.gives (((s.advance (t + s.holdNs a)).endHold a line).retryFills a)) ∧
    (∀ a line, a < 40 → memLine line = true → (s.held a line).bind (fun c => c.hold) = none →
      exec (.holdExpiry a line) s = s.gives ((s.endHold a line).retryFills a))) ∧
  (∀ (s : State) (line : Nat) (c : Instr) (r : HomeReq) (m : BitVec 16), s.Settled → memLine line = true → m = (reqWho r).master →
    ((∃ a, a < 40 ∧ s.cacheUp a = true ∧ s.net.any (fun m => decide (m.path = (cacheAgent a, true, homeAgent (line * 64)))) = false ∧
        (c = .rds a line ∧ r = .rds a ∨ c = .rdx a line ∧ r = .rdx a ∨ c = .upg a line ∧ r = .upg a ∨ c = .wro a line ∧ r = .wro a)) ∨
      (∃ src, c = .rdo src line ∧ r = .rdo src) ∨ (∃ src l p, c = .wrf src line l p ∧ r = .wrf src l p) ∨
      (∃ src m l, c = .wrp src line m l ∧ r = .wrp src m l) ∨
      (∃ src pa op x psn, pa < 2 ^ 56 ∧ pa / 64 = line ∧ line < 0x00D000000000 / 64 ∧ cisOpOk op.toNat = true ∧ c = .red src pa op x psn ∧
        r = .red src pa op x psn)) →
    (∀ home, home = (match regionOf (line * 64) with
        | .stack j => s.dieUp (j / 3) && !s.hallCut (agentDie m) (j / 3)
        | _ => s.on) →
      (home = false → exec c s = .next { s with net := s.net ++ lostAnswer line r }) ∧
      (∀ src, home = true → s.homeRefuses line r = some src → exec c s = if agentDie m < 4 then s.gives
          (s.capture (agentDie m) (accReport src m (reqWho r).access (line * 64) (s.unitCtx m))) else .next s) ∧
      (∀ wait, wait = (s.hallHeld (agentDie m) (homeDie line) || (s.needsDies line r && s.stackHeld line)) →
        home = true → s.homeRefuses line r = none →
        exec c s = if wait then .next { s with later := s.later ++ [.req line r] }
          else if s.homeBusy line then .next { s with lineQ := s.lineQ ++ [(line, r)] }
          else s.gives (s.beginReq line r))) ∧
    (∀ j, regionOf (line * 64) = .stack j → ¬(agentDie m = 4 ∧ agentClass m = 0x14) →
      (s.stackShut j = true → s.homeRefuses line r = some 0x21) ∧
      (s.stackShut j = false → (s.poolFrame (line * 64)).isSome = true →
        s.homeRefuses line r = if outsideAperture (agentClass m) then some 0x21 else none) ∧
      (s.stackShut j = false → s.poolFrame (line * 64) = none →
        s.homeRefuses line r = if agentDie m < 4 ∧ s.suiteOfDie (agentDie m) ≠ s.suiteOfStack j then some 0x21 else none)) ∧
    (regionOf (line * 64) = .host → ¬(agentDie m = 4 ∧ agentClass m = 0x14) →
      s.homeRefuses line r = if r.writes && s.tierRegion (line * 64) then some 0x20 else none))

/-- R14, R196, R198, R201, R203 to R205, R302: a coherence message arrives where it goes if it is in flight, the first of its path, and no
hallway of that path is training; otherwise nothing changes. A snoop waits for a grant on its way and for a hold; a grant of a line
that its agent has, or has an empty way for, installs it and begins its hold. R195, R196, R198, R201: what a wing cache answers to a snoop of a line, and what it keeps: a sent WB is its answer, a line that waits in
the Landing is given up, a dirty line is returned, a clean one only loses its state. -/
def Obligations.Coherence : Prop :=
  (∀ (s : State) (a line : Nat) (src : BitVec 16) (l : LineData), s.Settled → a < 40 → memLine line = true →
    (∀ p ∈ [(Instr.snps a line, Msg.snps a line, (s.unsend (.snps a line)).takeSnoop a line false false),
        (.snpi a line, .snpi a line, (s.unsend (.snpi a line)).takeSnoop a line true false),
        (.push a line l, .push a line l, (s.unsend (.push a line l)).takePush a line l),
        (.ack a line, .ack a line, (s.unsend (.ack a line)).answered line a none true),
        (.ackd a line l, .ackd a line l, (s.unsend (.ackd a line l)).answered line a (some l) true),
        (.nh a line, .nh a line, (s.unsend (.nh a line)).answered line a none false),
        (.nhw a line, .nhw a line, s.unsend (.nhw a line)),
        (.gnts a line l, .gnts a line l, (s.unsend (.gnts a line l)).takeGrant a line (.gnts a line l) false),
        (.gnte a line l, .gnte a line l, (s.unsend (.gnte a line l)).takeGrant a line (.gnte a line l) false),
        (.gntm a line l, .gntm a line l, (s.unsend (.gntm a line l)).takeGrant a line (.gntm a line l) false),
        (.gnto a line, .gnto a line, (s.unsend (.gnto a line)).takeGrant a line (.gnto a line) false),
        (.data src line l, .data src line l, s.unsend (.data src line l)), (.cmp src line, .cmp src line, s.unsend (.cmp src line)),
        (.wb a line l, .wb a line l, s.takeWb a line l),
        (.landingAckReceive a line, .landAck a line, ((s.unsend (.landAck a line)).unland a line).retryFills a)],
      (p.2.1 ∈ s.net → s.firstOnPath p.2.1 = p.2.1 → s.hallHeld (agentDie p.2.1.path.1) (homeDie line) = false →
        exec p.1 s = s.gives p.2.2) ∧
      (p.2.1 ∉ s.net ∨ s.firstOnPath p.2.1 ≠ p.2.1 ∨ s.hallHeld (agentDie p.2.1.path.1) (homeDie line) = true →
        exec p.1 s = .next s)) ∧
    (∀ inv, s.cacheUp a = false → s.takeSnoop a line inv false = { s with net := s.net ++ [.nh a line] }) ∧
    (∀ inv, s.cacheUp a = true → (∃ c, s.held a line = some c ∧ s.inHold a c = true) ∨
        (s.net ++ (s.cache a).fills).any (fun m => m.grants a line) = true →
      s.takeSnoop a line inv false = s.setCache a { s.cache a with snoops := (s.cache a).snoops ++ [(line, inv)] }) ∧
    (∀ m st d c, s.grantOf m = some (st, d) → s.cacheUp a = true → s.held a line = some c →
      s.takeGrant a line m false = s.install a line st d true ∧
      (s.install a line st d true).held a line = some { c with st := st, l := d, hold := some s.house }) ∧
    (∀ m st d n, s.grantOf m = some (st, d) → m ≠ .gnto a line → s.cacheUp a = true → s.held a line = none →
      s.anyEligible a = true → s.emptyWay a line = some n →
      s.takeGrant a line m false = s.install a line st d true ∧
      (s.install a line st d true).held a line = some ⟨st, n, some s.house, d⟩)) ∧
  (∀ (s : State) (a line : Nat), a < 32 →
    (∀ inv e, s.landed a line = some e → e.sent = true → s.snoop a line inv = (.nhw, s)) ∧
    (∀ inv e, s.landed a line = some e → e.sent = false → s.snoop a line inv =
      (.ackd (s.readLanded a line e.l).1, (s.readLanded a line e.l).2.unland a line)) ∧
    (s.landed a line = none →
      (∀ inv, s.held a line = none → s.snoop a line inv = (.nh, s)) ∧
      (∀ c, s.held a line = some c → c.st ≠ .m → (s.snoop a line true).1 = .ack ∧ (s.snoop a line true).2.held a line = none) ∧
      (∀ c, s.held a line = some c → c.st ≠ .m → (s.snoop a line false).1 = .ack ∧
        (s.snoop a line false).2.held a line = some { c with st := .s }) ∧
      (∀ c inv l, s.held a line = some c → c.st ≠ .m → l ≠ line → (s.snoop a line inv).2.held a l = s.held a l) ∧
      (∀ c inv, s.held a line = some c → c.st = .m →
        (s.snoop a line inv).1 = .ackd (s.readArrays a ⟨cacheAgent a, 0, none⟩ line c.l).1.1)))

/-! ### Memory, the common code and the Cistern (chapter 8) -/

/-- R5, R31, R207: bytes stored in a memory are read back in order, no other byte changes, and the canonical form is kept by
every operation of a home. -/
def Obligations.MemoryForm : Prop :=
  (∀ (m : List Host.Cell) (a : Nat) (bs : Bytes), cellsGet (cellsPut a bs m) a bs.length = bs) ∧
  (∀ (m : List Host.Cell) (a b : Nat) (bs : Bytes), b < a ∨ a + bs.length ≤ b →
    tget 0#8 (cellsPut a bs m) b = tget 0#8 m b) ∧
  (∀ (s : State) (pa : Nat) (x : BitVec 128) (b : Bool), Memory.wf s.mem = true → Memory.wf (s.putWord pa x b).mem = true ∧
    (s.putWord pa x b).wordAt pa = x ∧ ∀ q, q < pa ∨ pa + 16 ≤ q → (s.putWord pa x b).byte q = s.byte q) ∧
  (∀ (s : State) (line : Nat) (l : LineData), Memory.wf s.mem = true → Memory.wf (s.writeLine line l).mem = true ∧
    (∀ m, m < 4 → (s.writeLine line l).wordAt (line * 64 + 16 * m) = l.word m) ∧
    ∀ q, q < line * 64 ∨ line * 64 + 64 ≤ q → (s.writeLine line l).byte q = s.byte q) ∧
  (∀ (s : State) (j : Nat), Memory.wf s.mem = true → Memory.wf (s.zeroStack j).mem = true) ∧
  (∀ (s : State) (d pa v : Nat), Memory.wf s.mem = true → Memory.wf (s.msi d pa v).mem = true)

/-- R213, R214: the common code corrects any error of one symbol, detects any error of two, and keeps a poisoned word
poisoned or uncorrectable under one more. Symbol `k` of the word: 0 to 31 data, 32 to 35 check bits. -/
def Obligations.CommonCode : Prop :=
  ∀ err : Nat → Nat → BitVec 128 × BitVec 16,
    (∀ k d, err k d = if k < 32 then (BitVec.ofNat 128 (d * 16 ^ k), 0#16) else (0#128, BitVec.ofNat 16 (d * 16 ^ (k - 32)))) →
    (∀ x y : BitVec 128, encodeCheck (x ^^^ y) = encodeCheck x ^^^ encodeCheck y) ∧
    (∀ (x : BitVec 128) (k d : Nat), k < 36 → 0 < d → d < 16 →
      decodeWord (x ^^^ (err k d).1) (encodeCheck (err k d).1 ^^^ (err k d).2) = .corrected x) ∧
    (∀ (x : BitVec 128) (j k d e : Nat), j < k → k < 36 → 0 < d → d < 16 → 0 < e → e < 16 →
      decodeWord (x ^^^ (err j d).1 ^^^ (err k e).1)
        (encodeCheck ((err j d).1 ^^^ (err k e).1) ^^^ (err j d).2 ^^^ (err k e).2) = .uncorrectable) ∧
    (∀ x : BitVec 128, decodeWord x 0#16 = .clean ∧ decodeWord x poisonMask = .poison) ∧
    (∀ (x : BitVec 128) (k d : Nat), k < 36 → 0 < d → d < 16 →
      decodeWord x (poisonMask ^^^ encodeCheck (err k d).1 ^^^ (err k d).2) = .uncorrectable)

/-- R227 to R230, R234: the Cistern's operations lane by lane, and the word of a line that one changes. R227, R228, Table 8.8: each memory-side operation reaches the home of its line as a RED with its CISOP code. -/
def Obligations.Cistern : Prop :=
  (∀ (half : Nat) (d x : BitVec 128),
    (∀ i, i < 4 → laneOf 32 (cisApply 0x00 half d x).1 i = (laneOf 32 d i + laneOf 32 x i) % 2 ^ 32) ∧
    (∀ i, i < 2 → laneOf 64 (cisApply 0x01 half d x).1 i = (laneOf 64 d i + laneOf 64 x i) % 2 ^ 64) ∧
    (∀ i, i < 4 → toSigned 32 (laneOf 32 (cisApply 0x10 half d x).1 i) = min (toSigned 32 (laneOf 32 d i)) (toSigned 32 (laneOf 32 x i))) ∧
    (∀ i, i < 2 → toSigned 64 (laneOf 64 (cisApply 0x21 half d x).1 i) = max (toSigned 64 (laneOf 64 d i)) (toSigned 64 (laneOf 64 x i))) ∧
    (∀ i, i < 4 → laneOf 32 (cisApply 0x30 half d x).1 i = min (laneOf 32 d i) (laneOf 32 x i)) ∧
    (∀ i, i < 2 → laneOf 64 (cisApply 0x41 half d x).1 i = max (laneOf 64 d i) (laneOf 64 x i)) ∧
    ((cisApply 0x50 half d x).1 = d &&& x ∧ (cisApply 0x60 half d x).1 = d ||| x ∧ (cisApply 0x70 half d x).1 = d ^^^ x) ∧
    (∀ h, h < 2 → laneOf 64 (cisApply 0x81 (8 * h) d x).1 h = (if laneOf 64 d h = laneOf 64 x 0 then laneOf 64 x 1 else laneOf 64 d h) ∧
      laneOf 64 (cisApply 0x81 (8 * h) d x).1 (1 - h) = laneOf 64 d (1 - h)) ∧
    (∀ i, i < 2 → laneOf 32 (cisApply 0x80 0 d x).1 i =
        (if laneOf 32 d i = laneOf 32 x (2 * i) then laneOf 32 x (2 * i + 1) else laneOf 32 d i) ∧
      laneOf 32 (cisApply 0x80 0 d x).1 (i + 2) = laneOf 32 d (i + 2)) ∧
    (cisApply 0xA4 half d x).1 = (xpAdd d x).1 ∧
    (∀ (op pa : Nat) (l : LineData) (psn : Bool) (m : Nat), m < 4 →
      ((cisLine op pa l x psn).1.word m = if m = pa / 16 % 4 then (cisApply op (pa % 16 / 8 * 8) (l.word m) x).1 else l.word m) ∧
      (cisLine op pa l x psn).1.poisoned m = (l.poisoned m || (decide (m = pa / 16 % 4) && psn)))) ∧
  (∀ (s : State) (src : BitVec 16) (pa j : Nat) (x : BitVec 128) (psn : Bool), pa < 2 ^ 56 → regionOf pa = .stack j →
    ∀ p ∈ [(Instr.addI32 src pa x psn, 0x00#8), (.addI64 src pa x psn, 0x01#8), (.minS32 src pa x psn, 0x10#8),
        (.minS64 src pa x psn, 0x11#8), (.maxS32 src pa x psn, 0x20#8), (.maxS64 src pa x psn, 0x21#8),
        (.minU32 src pa x psn, 0x30#8), (.minU64 src pa x psn, 0x31#8), (.maxU32 src pa x psn, 0x40#8),
        (.maxU64 src pa x psn, 0x41#8), (.cisAnd src pa x psn, 0x50#8), (.cisOr src pa x psn, 0x60#8),
        (.cisXor src pa x psn, 0x70#8), (.cas32 src pa x psn, 0x80#8), (.cas64 src pa x psn, 0x81#8),
        (.addF32 src pa x psn, 0x92#8), (.addBf16 src pa x psn, 0x93#8), (.addXp src pa x psn, 0xA4#8)],
      exec p.1 s = s.gives (s.homeTake (pa / 64) (.red src pa p.2 x psn)) ∧ exec p.1 s = exec (.red src pa p.2 x psn) s)

/-- R208, R218 to R224, R231, R347: the stack controllers: rows, refresh, patrol and zero scrubs, bands, error counts and the
merge buffer. -/
def Obligations.StackControllers : Prop :=
  ∀ (s : State) (j : Nat), s.Settled → j < 12 →
    (∀ ch b, ch < 32 → b < 16 → exec (.rowClose j ch b) s = .next
      (s.setStack j { s.stack j with openRow := tdel (s.stack j).openRow (ch * 16 + b) })) ∧
    (∀ ch b, ch < 32 → b < 16 → s.stackUp j = true → s.critical j = false → exec (.perBankRefresh j ch b) s = .next
      (s.setStack j { s.stack j with
        refresh := tput 0 (ch * 16 + b) ((tget 0 (s.stack j).refresh (ch * 16 + b) + 8) % 65536) (s.stack j).refresh })) ∧
    (s.stackUp j = true → s.critical j = false → (s.stack j).scrubbing = false → s.ent 0x3015 (j + 1) ≠ 0 →
      exec (.patrolScrubRead j) s = s.gives (s.patrol j)) ∧
    (s.ent 0x3015 (j + 1) = 0 → exec (.patrolScrubRead j) s = .next s) ∧
    (s.mayScrub j = true → exec (.zeroScrubStart j) s = .next (s.beginScrub j)) ∧
    (s.mayScrub j = false → exec (.zeroScrubStart j) s = .next s) ∧
    ((s.stack j).scrubbing = true → s.critical j = false → s.stackUp j = true → ∃ t, exec (.zeroScrubDone j) s = .next t ∧
      (∀ a, (j + 1) * 2 ^ 36 ≤ a → a < (j + 2) * 2 ^ 36 → t.byte a = 0#8 ∧ tget 0#16 t.code a = 0#16) ∧
      (∀ a, a < (j + 1) * 2 ^ 36 ∨ (j + 2) * 2 ^ 36 ≤ a → t.byte a = s.byte a) ∧
      (t.stack j).scrubbing = false ∧ t.ent 0x3016 (j + 1) = 0 ∧ t.ent 0x3019 (j + 1) = 0) ∧
    (∀ x k t, s.stackUp j = true → k = (s.setEnt 0x3011 (j + 1) (min 255 x)).showStack j →
      t = k.setStack j { k.stack j with
        coolAt := coolSince (decide (x + 3 ≤ 85)) (s.stack j).coolAt s.house
        mildAt := coolSince (decide (x + 3 ≤ 95)) (s.stack j).mildAt s.house } →
      (s.ent 0x3010 (j + 1) < bandOf x → exec (.stackTempSample j x) s = s.gives (t.setBand j (bandOf x)).rerun) ∧
      (s.ent 0x3010 (j + 1) = 3 → x ≤ 102 → exec (.stackTempSample j x) s = s.gives (t.setBand j 2).rerun) ∧
      (∀ b, b = s.ent 0x3010 (j + 1) → b = 1 ∨ b = 2 → bandOf x ≤ b → exec (.stackTempSample j x) s = s.gives (State.rerun
        (if (coolSince (decide (x + 3 ≤ 85)) (s.stack j).coolAt s.house).any (fun n => decide (n + 10000000 ≤ s.house)) = true
          then t.setBand j 0
         else if b = 2 ∧ (coolSince (decide (x + 3 ≤ 95)) (s.stack j).mildAt s.house).any (fun n => decide (n + 10000000 ≤ s.house)) = true
          then t.setBand j 1
         else t))) ∧
      (s.ent 0x3010 (j + 1) = 0 → bandOf x = 0 → exec (.stackTempSample j x) s = s.gives t.rerun)) ∧
    (s.stackUp j = true → s.critical j = false → exec (.stackCriticalTimeout j) s = .next s) ∧
    (s.stackUp j = true → s.critical j = true → exec (.stackCriticalTimeout j) s = s.gives (s.critTimeout j) ∧
      (s.critTimeout j).ent 0x4041 (j + 1) = 0) ∧
    (∀ d, s.stackUp j = true → regDesc (paStack j 0x10) = some d → exec (.scerrRead j) s = .next
      ((s.emit (.regRead (paStack j 0x10) (s.reg (paStack j 0x10)))).setReg (paStack j 0x10) (s.reg (paStack j 0x10) &&& ~~~d.rc))) ∧
    (∀ line l x, memLine line = true → s.stackUp j = true → s.critical j = false → s.mergeCopy line = some l →
      x = s.mergeRead ⟨homeAgent (line * 64), 1, none⟩ line l → exec (.mergeBufferFlush j line) s = s.gives
        ((x.2.setStack j { x.2.stack j with
          merge := (x.2.stack j).merge.filter fun e => decide (e.1 ≠ line)
          mcode := (x.2.stack j).mcode.filter fun e => decide (e.1 / 64 ≠ line) }).writeLine line x.1))

/-! ### The tier range and the Cellar (R236 to R263) -/

/-- R239, R242 to R244, R263: the tier range is enabled and disabled. R246 to R255: fills and evictions end, the low and high watermarks begin and end evicting, victims are chosen, frames age, and
the pins that a context that ended still owes go. -/
def Obligations.Tiers : Prop :=
  (∀ s : State, s.Settled →
    (s.on = true → s.tierState = 0 → s.poolBroken = false → s.poolInUse = false →
      exec .tierEnable s = .next ((s.setEnt 0x3100 2 1).setEnt 0x3100 8 1)) ∧
    (s.on = true → s.tierState = 0 → (s.poolBroken = true ∨ s.poolInUse = true) → exec .tierEnable s = .next s) ∧
    (s.tierState = 1 → ∃ t, exec .tierEnableDone s = .next t ∧ t.tierState = 2 ∧ t.tier.frames = [] ∧
      (∀ a, s.ent 0x3100 1 ≤ a → a < s.ent 0x3100 1 + 0x66000000 → t.byte a = 0#8) ∧ t.tier.cellar = s.tier.cellar ∧
      (∀ a, a < s.ent 0x3100 1 ∨ s.ent 0x3100 1 + 0x66000000 ≤ a → t.byte a = s.byte a)) ∧
    (s.on = true → s.tierState = 2 → s.tierMapped = false →
      exec .tierDisable s = .next ((s.setEnt 0x3100 2 0).setEnt 0x3100 8 3)) ∧
    (s.on = true → s.tierState = 2 → s.tierMapped = true → exec .tierDisable s = .next s) ∧
    (s.tierState = 3 → (∀ e ∈ s.tier.frames, s.frameHeld e.1 = false) → exec .tierDisableDone s = s.gives s.tierEmpty.rerun ∧
      s.tierEmpty.tierState = 0 ∧ s.tierEmpty.tier.frames = []) ∧
    (s.tierState = 3 → s.tier.frames = [] → s.later = [] → ∃ t, exec .tierDisableDone s = .next t ∧ t.tierState = 0 ∧
      t.tier.frames = [] ∧ t.tier.cellar = s.tier.cellar ∧ t.mem = s.mem) ∧
    (∀ t, t = (s.setEnt 0x3130 1 1).setEnt 0x3130 7 100 →
      (90 ≤ s.ent 0x3130 7 ∨ s.on = false → exec .cellarSparesExhausted s = .next t) ∧
      (s.ent 0x3130 7 < 90 → s.on = true → exec .cellarSparesExhausted s =
        s.gives (t.capture 4 (plainReport 0x05 (agentNo 4 0x15 0)))))) ∧
  (∀ s : State, s.Settled →
    (∀ t bad f, t < 402653184 → s.frame (s.tile t).2 = some f → (s.tile t).1 = .filling → s.frameHeld (s.tile t).2 = false →
      exec (.fillComplete t bad) s = s.gives
        (((each [0, 1, 2, 3] (fun q s => s.fillQuarter t (s.tile t).2 q (bitOf bad.toNat q)) s).incEnt 0x3112 3 1).settleTile t
          (s.tile t).2 f).rerun) ∧
    (s.freeFrames < s.ent 0x3100 4 → s.watermarks.tier.evictOn = true) ∧
    (s.ent 0x3100 4 ≤ s.freeFrames → s.watermarks.tier.evictOn = (s.tier.evictOn && decide (s.freeFrames < s.ent 0x3100 5))) ∧
    (∀ n f, s.tierState = 2 → s.watermarks.evictNow = true → s.movers < 64 → s.victim = some (n, f) → ∃ t,
      exec .victimSelect s = .next t ∧ t.tile f.tile = (.evicting, n) ∧ t.frame n = some { f with st := .evicting } ∧
      (∀ m ∈ t.tier.marks, m.2.1 ≠ f.tile) ∧ t.regs = s.regs ∧ t.tier.cellar = s.tier.cellar) ∧
    (s.tierState = 2 → s.watermarks.evictNow = false → exec .victimSelect s = .next s.watermarks) ∧
    (∀ n f, s.victim = some (n, f) → f.st = .resident ∧ f.pin = false ∧ f.holds = 0 ∧
      ∀ e ∈ s.tier.frames, s.victimOk e.1 e.2 = true → e.2.effAge ≤ f.effAge) ∧
    (∀ t f, t < 402653184 → s.frame (s.tile t).2 = some f → (s.tile t).1 = .evicting →
      exec (.evictionComplete t) s = if s.frameHeld (s.tile t).2 ∨ s.frameAwaited (s.tile t).2 then s.gives s.rerun
        else s.gives (s.evictDone t).rerun) ∧
    (s.tierState = 2 → s.ent 0x3100 3 ≤ s.tier.bounds → exec .ageTick s = .next
      { s.mapFrames Frame.older with tier := { (s.mapFrames Frame.older).tier with
        marks := s.tier.marks.map fun e => (e.1, e.2.1, false)
        bounds := s.tier.bounds - s.ent 0x3100 3 } }) ∧
    (s.tierState ≠ 2 ∨ s.tier.bounds < s.ent 0x3100 3 → exec .ageTick s = .next s) ∧
    (∀ f : Frame, (f.st ≠ .resident → f.older = f) ∧ (f.st = .resident → f.mark = true → f.older = { f with age := 0, mark := false }) ∧
      (f.st = .resident → f.mark = false → f.older = { f with age := min 255 (f.age + 1) })) ∧
    (∀ c, c < 256 → s.tier.pinsDue = [] → s.rooms = [] → ∃ t, exec (.contextPinClear c) s = .next t ∧
      ((∀ e ∈ s.tier.frames, e.2.pin = true → e.2.pinctx = c → s.frame e.1 = some e.2 ∧ e.1 ∈ s.tier.pinsOwed) →
        ∀ e ∈ t.tier.frames, e.2.pin = true → e.2.pinctx ≠ c) ∧
      (∀ n, n ∉ s.tier.pinsOwed → t.frame n = s.frame n) ∧ t.regs = s.regs))

/-! ### Hatches, letterboxes and PCIe (R286 to R300, R426) -/

/-- R287: the control and doorbell registers of a Hatch. R288 to R290: a Hatch fetches a descriptor, moves its blocks, and completes it. -/
def Obligations.Hatches : Prop :=
  (∀ (s : State) (h : Nat), s.Settled → h < 16 → s.on = true →
    (∀ lg a, s.hatchOn h = false → s.hf h 0x08 4 0 = lg → s.hf h 0x00 55 6 * 64 = a → 6 ≤ lg → lg ≤ 16 → regionOf a = .host →
      regionOf (a + 64 * 2 ^ lg - 1) = .host → exec (.hatchEnable h) s = .next (s.setRegF (paHatch h 0x20) 0 0 1)) ∧
    (s.hatchOn h = false → (s.hf h 0x08 4 0 < 6 ∨ 16 < s.hf h 0x08 4 0 ∨ regionOf (s.hf h 0x00 55 6 * 64) ≠ .host) →
      exec (.hatchEnable h) s = .next (s.setRegF (paHatch h 0x28) 34 34 1)) ∧
    (s.hatchOn h = true → exec (.hatchEnable h) s = .next s) ∧
    (s.hatchOn h = true → ∃ t, exec (.hatchDisable h) s = .next t ∧ t.hatchOn h = false ∧ (∀ r ∈ t.hatch h, r.done = true) ∧
      t.mem = s.mem) ∧
    (s.hatchOn h = false → s.hatch h = [] → exec (.hatchReset h) s = .next (s.setRegF (paHatch h 0x28) 32 0 0)) ∧
    (s.hatchOn h = false → s.hatch h ≠ [] → exec (.hatchReset h) s = .next s) ∧
    exec (.hatchResume h) s = .next (s.setRegF (paHatch h 0x28) 32 32 0) ∧
    (∀ v : BitVec 64, v.toNat % 65536 < s.hring h →
      exec (.hatchDoorbell h v) s = .next (s.setRegF (paHatch h 0x28) 31 16 (v.toNat % 65536))) ∧
    (∀ v : BitVec 64, s.hring h ≤ v.toNat % 65536 → exec (.hatchDoorbell h v) s = .next s)) ∧
  (∀ (s : State) (h : Nat), s.Settled → h < 16 → s.on = true →
    (∀ bs b s' r, s.hatchFetches h = true → s.accessHeld 4 ((s.hf h 0x00 55 6 * 64 + 64 * s.hf h 0x28 15 0) / 64) false = false →
      (let a := s.hf h 0x00 55 6 * 64 + 64 * s.hf h 0x28 15 0
       s.peek64 a % 256 = 0 ∧ s.unitBytes (hatchWho h 0) a 64 = ((bs, b), s') ∧
       r = (⟨a, (List.range 8).map fun k => BitVec.ofNat 64 (ofBytes (slice bs (8 * k) 8)), false, 0, 0⟩ : HatchRun)) →
      exec (.hatchNop h) s = s.gives
        ((s'.setRegF (paHatch h 0x28) 15 0 ((s.hf h 0x28 15 0 + 1) % s'.hring h)).setHatch h
          (s'.hatch h ++ [if b || s.badDescriptor h r then r.ends 5 else r.ends 0]))) ∧
    (∀ r, s.hatchOldest h = some r → r.op = 1 → exec (.hatchCopy h) s = s.gives (s.hatchMove h (r.dlen / 65536 + 2))) ∧
    (∀ r, s.hatchOldest h = some r → r.op = 2 → exec (.hatchReduce h) s = s.gives (s.hatchMove h (r.dlen / 65536 + 2))) ∧
    (s.hatchOldest h = none → s.hatchFetches h = false → exec (.hatchCopy h) s = .next s ∧ exec (.hatchReduce h) s = .next s) ∧
    (∀ r, s.hatchOldest h = some r → (s.hatchSide h (r.wd 1 + r.blocks * 65536 * r.ratio) (min 65536 (r.dlen - r.blocks * 65536) * r.ratio) false).1 = .range →
      r.blocks * 65536 < r.dlen → ∀ n, s.hatchMove h (n + 1) = (s.hatchSide h (r.wd 1 + r.blocks * 65536 * r.ratio)
        (min 65536 (r.dlen - r.blocks * 65536) * r.ratio) false).2.putOldest h (r.ends 3)) ∧
    (∀ r rest, s.hatch h = r :: rest → r.done = true → s.wordHeld r = false → r.status = 0#4 → bitOf (r.wd 0) 30 = false → bitOf (r.wd 0) 8 = false →
      exec (.hatchCompletion h) s = s.gives ((s.storeWords (hatchWho h 1) (r.slot + 48)
        [(BitVec.ofNat 128 (r.blocks * 2 ^ 32 + 128 + s.house * 2 ^ 64), false)] none).setHatch h rest)) ∧
    (∀ r rest, s.hatch h = r :: rest → (r.done = false ∨ s.wordHeld r = true) → exec (.hatchCompletion h) s = .next s))

/-- R296 to R299: a letterbox is locked, posted, taken, released, broken, and its domain woken. R186, R204, R243, R300, R426: what the PCIe root port reads, writes and reports. -/
def Obligations.HostBus : Prop :=
  (∀ (s : State) (m : Nat) (agent : BitVec 16), s.Settled → m < 64 → s.on = true →
    (s.boxOwner m = 0 → exec (.lockRead m agent) s = .next ((s.setRegF (paBox m 0x40) 15 0 agent.toNat).emit (.regRead (paBox m 0x40) 0))) ∧
    (s.boxOwner m ≠ 0 → s.boxOwner m ≠ agent.toNat → exec (.lockRead m agent) s = .next
      (s.emit (.regRead (paBox m 0x40) (BitVec.ofNat 64 (s.boxOwner m))))) ∧
    (s.boxOwner m = agent.toNat → s.boxGo m = false → exec (.lockWrite m agent) s = .next (s.setRegF (paBox m 0x40) 15 0 0)) ∧
    ((s.boxOwner m ≠ agent.toNat ∨ s.boxGo m = true) → exec (.lockWrite m agent) s = .next s) ∧
    ((s.boxOwner m ≠ agent.toNat ∨ s.boxGo m = true ∨ s.regF (paBox m 0x48) 4 0 < 8 ∨ 16 < s.regF (paBox m 0x48) 4 0) →
      exec (.go m agent) s = .next (s.setRegF (paBox m 0x50) 4 4 1)) ∧
    (s.boxOwner m = agent.toNat → s.boxGo m = false → 8 ≤ s.regF (paBox m 0x48) 4 0 → s.regF (paBox m 0x48) 4 0 ≤ 16 →
      s.regF (paBox m 0x68) 55 2 = 0 → (s.regF (paBox m 0x78) 2 0 = 0 ∨ 5 < s.regF (paBox m 0x78) 2 0) →
      exec (.go m agent) s = .next (s.setRegF (paBox m 0x50) 0 0 1)) ∧
    (∀ dom w, s.boxOwner m = agent.toNat → s.boxGo m = false → 8 ≤ s.regF (paBox m 0x48) 4 0 → s.regF (paBox m 0x48) 4 0 ≤ 16 →
      s.regF (paBox m 0x68) 55 2 = 0 → s.regF (paBox m 0x78) 2 0 = dom → 1 ≤ dom → dom ≤ 5 →
      w = (s.setRegF (paBox m 0x50) 0 0 1).domainSleeps dom →
      exec (.go m agent) s = .next (w.2.setRegF (paBox m 0x50) 2 2 (b2n w.1)) ∧
      ((∃ k, k < 64 ∧ s.regF (paBox k 0x78) 2 0 = dom ∧ s.regF (paBox k 0x50) 2 2 = 1) → w.1 = true)) ∧
    (s.boxGo m = true → s.regF (paBox m 0x58) 55 2 = 0 → exec (.take m) s = .next
      (((s.setRegF (paBox m 0x50) 0 0 0).setRegF (paBox m 0x40) 15 0 0).setRegF (paBox m 0x50) 3 3 1)) ∧
    (s.boxGo m = false → exec (.take m) s = .next s) ∧
    (isScullery agent = true → exec (.brk m agent) s = .next (s.resetBox m) ∧
      ∀ o, o < 0x1000 → (s.resetBox m).reg (paBox m o) = regReset (paBox m o)) ∧
    (isScullery agent = false → exec (.brk m agent) s = .next s) ∧
    (∀ dom, dom < 40 → ∃ t, exec (.domainWakeDone dom) s = .next t ∧
      (∀ k, k < 64 → t.regF (paBox k 0x78) 2 0 = dom → t.regF (paBox k 0x50) 2 2 = 0) ∧ t.mem = s.mem ∧ t.od = s.od)) ∧
  (∀ (s : State) (pa : Nat), s.Settled → pa < 2 ^ 56 → s.on = true →
    (∀ n b, 0 < n → s.inbound pa n false = .ur → exec (.pcieInboundRead pa n b) s = .next (s.emit .pcieUr)) ∧
    (∀ n x s', 0 < n → s.inbound pa n false = .mem → s.gone pa = false → s.unitBytes (pcieWho 0) pa n = (x, s') →
      exec (.pcieInboundRead pa n false) s = s.gives (s'.emit (.pcieData x.1 x.2))) ∧
    (∀ n b, 0 < n → s.inbound pa n false = .mem → s.gone pa = true →
      exec (.pcieInboundRead pa n b) s = .next (s.emit (.pcieData (List.replicate n 0#8) true))) ∧
    (∀ bs ep tph, bs ≠ [] → s.inbound pa bs.length true = .ur → exec (.pcieInboundWrite pa bs ep tph) s = .next (s.emit .pcieUr)) ∧
    (∀ bs tph, bs ≠ [] → s.inbound pa bs.length true = .mem → s.gone pa = false →
      exec (.pcieInboundWrite pa bs false tph) s = s.gives (s.unitStore (pcieWho 1) pa bs false tph)) ∧
    (∀ bs tph, bs ≠ [] → s.inbound pa bs.length true = .mem → s.gone pa = false →
      exec (.pcieInboundWrite pa bs true tph) s = s.gives
        (((s.capture 4 (accReport 0x16 (pcieWho 1).master 1 pa none)).emit (.aer .poisonedTlp)).unitStore (pcieWho 1) pa bs true tph)) ∧
    (∀ n b, 0 < n → s.inbound pa n false = .wait →
      exec (.pcieInboundRead pa n b) s = .next { s with later := s.later ++ [.pcieRead pa n b] }) ∧
    (∀ bs ep tph, bs ≠ [] → s.inbound pa bs.length true = .wait →
      exec (.pcieInboundWrite pa bs ep tph) s = .next { s with later := s.later ++ [.pcieWrite pa bs ep tph] }) ∧
    (∀ bs tph, bs ≠ [] → s.inbound pa bs.length true = .page →
      exec (.pcieInboundWrite pa bs false tph) s = s.gives (s.pageWrite pa bs.length (ofBytes bs))) ∧
    exec (.pcieError .correctable) s = s.gives (((s.incEnt 0x5208 1 1).capture 4 (plainReport 0x06 (pcieWho 0).master)).emit (.aer .correctable)) ∧
    exec (.pcieError .fatal) s = s.gives (((s.incEnt 0x5208 3 1).capture 4 (plainReport 0x16 (pcieWho 0).master)).emit (.aer .fatal)) ∧
    (∀ n, regionOf pa = .host → regionOf (pa + n - 1) = .host → s.tierRegion pa = true → s.inbound pa n true = .ur))

/-! ### Test access, interconnect tests and repair (R225, R226, R429 to R436) -/

/-- R429 to R432: test state and the test access port. R225, R226, R433 to R436: interconnect tests and stack repair. -/
def Obligations.PackageTest : Prop :=
  (∀ s : State, s.Settled →
    (∀ path n x, s.firmware = true → path ≠ .letterbox → s.inTest = false → s.session path n = some x → s.ent 0x1010 1 = 4 →
      s.liveCtxs = [] → s.tierState = 0 → (∀ i, i < 4 → s.ent 0x2100 (i + 1) = 0) → exec (.testStateRequest path n) s = s.gives
        (((s.setEnt 0xA000 1 1).setBlob 0xA000 4 ((Config.sha512 x.peerKey).take 32)).raiseAll 0xA000 1 5 1)) ∧
    (∀ path n, s.firmware = true → (path = .letterbox ∨ s.inTest = true ∨ s.session path n = none) →
      exec (.testStateRequest path n) s = .next s) ∧
    (s.porch.power ≠ .off →
      exec .tapBypass s = .next { s with porch := { s.porch with tap := 0xFF#8 } } ∧
      exec .tapReset s = .next { s with porch := { s.porch with tap := 0x01#8 } } ∧
      exec .tapIdcode s = .next (({ s with porch := { s.porch with tap := 0x01#8 } } : State).emit (.tapData 0x194126B5#32)) ∧
      exec .tapSample s = .next (({ s.drawFree with porch := { s.porch with tap := 0x02#8 } } : State).emit
        (.tapPins s.porch.pwrEn s.porch.perst (!s.porch.alerts.isEmpty) s.porch.wake s.porch.mgrSel s.porch.slotId false
          (decide (s.freeVal % 2 = 1)) false))) ∧
    (s.porch.power ≠ .off → s.tapOpen = false →
      ∀ c ∈ [Instr.tapExtest, .tapClamp, .tapHighz, .tapWsp, .tapDwr, .tapDiesel 1#8], exec c s =
        .next { s with porch := { s.porch with tap := 0xFF#8 } }) ∧
    (s.porch.power ≠ .off → s.tapOpen = true →
      ∀ p ∈ [(Instr.tapExtest, 0x03#8), (.tapClamp, 0x04#8), (.tapHighz, 0x05#8), (.tapWsp, 0x11#8), (.tapDwr, 0x12#8)],
        exec p.1 s = .next { s with porch := { s.porch with tap := p.2 } }) ∧
    (∀ v, s.porch.power ≠ .off → s.tapOpen = true →
      exec (.tapDiesel v) s = .next { s with porch := { s.porch with tap := 0x10#8, diesel := v } })) ∧
  (∀ s : State, s.Settled →
    (s.firmware = true → s.inTest = true → s.ent 0xA100 6 ≠ 1 → s.linkExists = true → s.linkOut = true → s.testLink.1 = 0 →
      exec .interconnectTestGo s = .next ((s.setEnt 0xA100 6 1).setHall s.testLink.2 3)) ∧
    (s.firmware = true → s.inTest = true → s.ent 0xA100 6 ≠ 1 → s.linkExists = true → s.linkOut = true → s.testLink.1 = 1 →
      exec .interconnectTestGo s = .next ((s.setEnt 0xA100 6 1).setStack s.testLink.2 { s.stack s.testLink.2 with undefined := true })) ∧
    (s.firmware = true → s.inTest = true → (s.ent 0xA100 6 = 1 ∨ s.linkExists = false ∨ s.linkOut = false) →
      exec .interconnectTestGo s = .next s) ∧
    (s.on = true → s.ent 0xA100 6 = 1 → s.testLink.1 ≠ 2 → exec (.interconnectTestDone []) s = .next
      (((s.setBlob 0xA100 7 (List.replicate (4 * s.testWires) 0#8)).setEnt 0xA100 8 0).setEnt 0xA100 6 2)) ∧
    (∀ l, s.on = true → s.ent 0xA100 6 = 1 → ∃ t, exec (.interconnectTestDone l) s = .next t ∧
      (t.ent 0xA100 6 = 2 ↔ ∀ i, i < s.testWires → s.wireFails (min (2 ^ 32 - 1) (lget 0 l i)) = false)) ∧
    (s.firmware = true → s.inTest = true → s.ent 0xA300 9 ≠ 1 →
      exec .readMap s = .next ((s.setEnt 0xA300 10 s.repairLeft).setEnt 0xA300 9 0)) ∧
    (s.firmware = true → s.inTest = true → s.ent 0xA300 9 ≠ 1 → s.stackUp s.repairStack = true →
      ∀ p ∈ [(Instr.spareRow, 1, 16, 5), (.spareCol, 2, 4, 7), (.softPpr, 3, 1, 5), (.hardPpr, 4, 1, 5)],
        (s.repairsUsed p.2.1 < p.2.2.1 → exec p.1 s = .next
          ((s.setStack s.repairStack { s.stack s.repairStack with
              bankHold := some s.repairBank, repairing := some (p.2.1, s.ent 0xA300 p.2.2.2) }).setEnt 0xA300 9 1)) ∧
        (p.2.2.1 ≤ s.repairsUsed p.2.1 → exec p.1 s = .next (s.setEnt 0xA300 9 2))) ∧
    (∀ j bank x ok, j < 12 → (∀ k, k < 12 → k ≠ j → (s.stack k).bankHold = none) → (s.stack j).bankHold = some bank →
      (s.stack j).repairing = some x → s.later = [] →
      ∃ t, exec (.repairDone ok) s = .next t ∧ (t.stack j).bankHold = none ∧ (t.stack j).repairing = none ∧
        t.ent 0xA300 9 = (if ok then 0 else 3) ∧
        (t.stack j).repairs = (if ok then (s.stack j).repairs ++ [(bank, x.1, x.2)] else (s.stack j).repairs) ∧
        (ok = false → t.mem = s.mem ∧ t.code = s.code)) ∧
    ((∀ k, k < 12 → (s.stack k).bankHold = none) → ∀ ok, exec (.repairDone ok) s = s.gives s.rerun) ∧
    (s.inTest = false → ∀ c ∈ [Instr.readMap, .spareRow, .spareCol, .softPpr, .hardPpr, .interconnectTestGo], exec c s = .next s))

/-! ### The Gloing fabric (R308 to R328) -/

/-- R310, R321, R323, R324: a port's mode and state, its neighbour, and the HELLOs that go out. -/
def Obligations.GloingPorts : Prop :=
  ∀ (s : State) (p : Nat), s.Settled → p < 3 →
    (s.on = true → ∃ t, exec (.portModeWrite p 0) s = .next t ∧ t.ent 0x4000 (p + 1) = 0 ∧ t.ent 0x4001 (p + 1) = 0 ∧
      t.mem = s.mem ∧ t.regs = s.regs) ∧
    (∀ v, s.on = true → (v = 1 ∨ v = 2 ∨ v = 3) → s.portUp p = false → ∃ t, exec (.portModeWrite p v) s = .next t ∧
      t.ent 0x4000 (p + 1) = v ∧ t.ent 0x4001 (p + 1) = 1 ∧ (s.ent 0x4420 3 ≠ 1 → t.pairs = s.pairs) ∧ t.regs = s.regs) ∧
    (∀ v, 3 < v → exec (.portModeWrite p v) s = .next s) ∧
    (s.on = true → s.ent 0x4000 (p + 1) = 3 → s.portUp p = false → ∃ t, exec (.autoModeSwitch p) s = .next t ∧
      (t.mgmt.autoCompat.contains p = !s.mgmt.autoCompat.contains p) ∧ t.od = s.od ∧ t.pairs = s.pairs) ∧
    (s.ent 0x4000 (p + 1) ≠ 3 → exec (.autoModeSwitch p) s = .next s) ∧
    (s.on = true → s.portUp p = false → s.ent 0x4000 (p + 1) ≠ 0 → ∃ t, exec (.portUp p) s = .next t ∧ (s.ent 0x4420 3 ≠ 1 → t.pairs = s.pairs) ∧
      t.ent 0x4001 (p + 1) = (if s.ent 0x4000 (p + 1) = 2 ∨ (3 ≤ s.ent 0x4000 (p + 1) ∧ s.mgmt.autoCompat.contains p = true) then 3 else 2)) ∧
    (s.ent 0x4000 (p + 1) = 0 → exec (.portUp p) s = .next s) ∧
    (s.portUp p = true → exec (.laneLockLoss p) s = s.gives (((s.setPort p 1).dropPtp p).movePackets p)) ∧
    (s.portUp p = false → exec (.laneLockLoss p) s = .next s) ∧
    (s.portUp p = true → exec (.lldpTransmit p) s = .next (s.emit (.lldp p (macOf s.idKey p)
      ([0x67#8, 0x6C#8, 0x6F#8, 0x69#8, 0x6E#8, 0x67#8] ++ [BitVec.ofNat 8 (48 + p)]) 4 s.serial (s.linkLocal p)))) ∧
    (s.portUp p = false → exec (.lldpTransmit p) s = .next s) ∧
    (∀ nb, s.portUp p = true → s.blob 0x4011 (p + 1) ≠ nb →
      exec (.lldpReceive p nb) s = .next ((s.setBlob 0x4011 (p + 1) nb).raise 0x4011 (p + 1) 0 nb.length)) ∧
    (∀ nb, s.blob 0x4011 (p + 1) = nb → exec (.lldpReceive p nb) s = .next s) ∧
    (s.on = true → ∃ t, exec .helloTransmit s = .next t ∧ t.mgmt.nonce = BitVec.ofNat 128 s.freeVal ∧ t.free = s.free + 1 ∧
      (s.portUp p = true → .hello p (if s.ent 0x4001 (p + 1) = 3 then s.blob 0x4010 3 else []) t.helloMsg ∈ t.out) ∧
      t.helloMsg.num = s.own ∧ t.helloMsg.time = s.house ∧ t.helloMsg.key = s.idKey ∧ t.helloMsg.serial = s.serial ∧
      t.helloMsg.nonce = t.mgmt.nonce ∧ t.helloMsg.sig = Config.idSign (helloBytes t.helloMsg) ∧ t.mem = s.mem ∧ t.regs = s.regs ∧
      t.od = s.od)

/-- R312 to R315, R319: a sequenced packet is discarded, or kept for its turn in SEQ order; its words pass the port's checker, and the next
one of its sequence is performed, waits for its target, or is refused. R313, R319, R320, R324: acknowledgements, refusals and HELLOs arrive. -/
def Obligations.GloingPackets : Prop :=
  (∀ (s : State) (p m : Nat) (k : Packet), s.Settled → p < 3 → k.wf = true → s.portUp p = true → m = k.src →
    (∀ o ∈ ([(0, Instr.writePacket), (1, Instr.readPacket), (2, Instr.readResponse), (3, Instr.writeReducePacket),
        (4, Instr.signalPacket), (5, Instr.atomicPacket), (6, Instr.atomicResponse), (7, Instr.managementPacket)] :
        List (Nat × (Nat → Packet → Instr))),
      (s.discards k = true → exec (o.2 p k) s = .next (s.incEnt 0x4005 (p + 1) 1)) ∧
      (s.discards k = false → k.op.toNat ≠ o.1 → exec (o.2 p k) s = .next s) ∧
      (s.discards k = false → k.op.toNat = o.1 → (s.pair m).rxBad = true → exec (o.2 p k) s = .next (s.incEnt 0x4005 (p + 1) 1)) ∧
      (∀ old used x, s.discards k = false → k.op.toNat = o.1 → (s.pair m).rxBad = false →
        (old = true ↔ (k.seq ≠ (s.pair m).rxSeq ∧ seqBefore k.seq (s.pair m).rxSeq = true) ∨
          (s.pair m).rx.any (fun e => decide (e.1 = k.seq)) = true) →
        used = (s.pairs.flatMap fun e => e.2.rx).foldl (fun n e => n + linkBytes e.2) 0 → x = s.arrive p k →
        exec (o.2 p k) s =
          if old = true then .next (s.setPair m { s.pair m with ackDue := true })
          else if k.seq ≠ (s.pair m).rxSeq ∧ 6 * 2 ^ 20 < used + linkBytes k then .next (s.incEnt 0x4005 (p + 1) 1)
          else s.gives ((x.2.setPair m
            { x.2.pair m with rx := (x.2.pair m).rx ++ [(k.seq, x.1)], ackDue := true }).drainRx p m ((x.2.pair m).rx.length + 1)))) ∧
    ((∀ x ∈ k.words, x.2 = 0#16 ∨ x.2 = poisonMask) → (∀ a, s.injSlot 4 (portAgent p) 0 1 a = none) → s.arrive p k = (k, s)) ∧
    ((s.pair m).rxBad = false → (s.pair m).rx.find? (fun e => decide (e.1 = (s.pair m).rxSeq)) = some (k.seq, k) → ∀ n,
      s.drainRx p m (n + 1) = if s.refusesRemote k = false ∧ s.opHeld k = true then s.deferRemote m
        else ((s.setPair m { s.pair m with rx := (s.pair m).rx.filter fun e => decide (e.1 ≠ k.seq) }).takeOp p m k).drainRx p m n) ∧
    (k.op ∈ [0#4, 1#4, 3#4, 4#4, 5#4] → s.refusesRemote k = true → s.takeOp p m k = s.sendNak m k) ∧
    (packetAligned k = false → s.refusesRemote k = true) ∧
    (k.op = 7#4 → s.takeOp p m k = (s.emit (.scullery k)).setPair m { s.pair m with rxSeq := ((s.pair m).rxSeq + 1) % 2 ^ 32, performed := ((s.pair m).performed + 1) % 2 ^ 32, flags := (s.pair m).flags ||| 0#8, ackDue := true }) ∧
    (∀ w l, k.op = 4#4 → k.addr = 0x60000000 + 0x800000 * w + 0x400000 + 16 * l + 8 → w < 32 → l < 4096 →
      s.performOp p k = (⟨0, []⟩, s.latchAdd w l (BitVec.ofNat 32 k.tagx.toNat))) ∧
    (∀ x rest, k.op = 0#4 → (∃ j, regionOf k.addr = .stack j) → k.short = true → k.words = (x, 0#16) :: rest →
      s.performOp p k = (⟨0, []⟩, s.unitStore ⟨portAgent p, 1, none⟩ k.addr (toBytes 8 x.toNat) false none)) ∧
    (k.op = 0#4 → (∃ j, regionOf k.addr = .stack j) → k.short = false →
      s.performOp p k = (⟨0, []⟩, s.storeWords ⟨portAgent p, 1, none⟩ k.addr (packetData k) (if k.place then some k.ptarget else none))) ∧
    (k.hcrc ≠ headerCrc k ∨ k.ver ≠ 1#4 ∨ 11 ≤ k.op.toNat ∨ s.own = 0xFFFF ∨ k.dst ≠ s.own ∨ (s.pair m).up = false ∨
      k.gen ≠ (s.pair m).gen ↔ s.discards k = true)) ∧
  (∀ (s : State) (p m : Nat) (k : Packet), s.Settled → p < 3 → k.wf = true → s.portUp p = true → m = k.src →
    (∀ ce, s.discards k = true → exec (.ackPacket p k ce) s = .next (s.incEnt 0x4005 (p + 1) 1)) ∧
    (∀ ce x d rest, k.op = 8#4 → s.discards k = false → x = s.arrive p k → packetData x.1 = (d, false) :: rest →
      exec (.ackPacket p k ce) s = s.gives (x.2.acked m k.seq d.toNat ce)) ∧
    (∀ ce x d rest, k.op = 8#4 → s.discards k = false → x = s.arrive p k → packetData x.1 = (d, true) :: rest →
      exec (.ackPacket p k ce) s = s.gives x.2) ∧
    (∀ seq w ce, (s.pair m).tx = [] → s.acked m seq w ce = s.setPair m { s.pair m with halved := (s.pair m).halved || ce }) ∧
    (∀ seq w ce o, (s.pair m).tx = [o] → seqBefore (fld w 95 64) o.pkt.seq = false → o.pkt.ackp = true →
      (o.pkt.op ≠ 3#4 → s.acked m seq w ce =
        (s.setPair m { s.pair m with tx := [], halved := (s.pair m).halved || ce }).remoteDone o.issuer) ∧
      (o.pkt.op = 3#4 → fld w 103 96 = 0 → s.acked m seq w ce =
        ((s.setPair m { s.pair m with tx := [], halved := (s.pair m).halved || ce }).remoteFlags o.issuer 0).remoteDone o.issuer)) ∧
    (∀ seq w ce o, (s.pair m).tx = [o] → seqBefore (fld w 95 64) o.pkt.seq = true → seqBefore o.pkt.seq seq = true →
      s.acked m seq w ce = s.setPair m
        { s.pair m with tx := [{ o with port := none }], halved := (s.pair m).halved || ce }) ∧
    (s.discards k = true → exec (.nakPacket p k) s = .next (s.incEnt 0x4005 (p + 1) 1)) ∧
    (k.op = 9#4 → s.discards k = false → k.cisop.toNat ≤ 2 →
      exec (.nakPacket p k) s = s.gives ((s.incEnt 0x4006 (2 + k.cisop.toNat) 1).failPair m)) ∧
    (∀ h, (k.hcrc ≠ headerCrc k ∨ k.ver ≠ 1#4 ∨ 11 ≤ k.op.toNat) → exec (.hello p ⟨k, h⟩) s = .next (s.incEnt 0x4005 (p + 1) 1)) ∧
    (∀ h x, k.op = 10#4 → k.hcrc = headerCrc k → k.ver = 1#4 → x = s.arrive p k →
      (Config.ed25519 h.key (helloBytes h) h.sig = false ∨ x.2.timely h.time = false → exec (.hello p ⟨k, h⟩) s = s.gives x.2) ∧
      (Config.ed25519 h.key (helloBytes h) h.sig = true → x.2.timely h.time = true →
        (k.unnum = true ∨ x.2.member m = false ∨ x.2.modKey m ≠ h.key → exec (.hello p ⟨k, h⟩) s = s.gives (x.2.emit (.scullery x.1))) ∧
        (k.unnum = false → x.2.member m = true → x.2.modKey m = h.key → exec (.hello p ⟨k, h⟩) s = s.gives
          ((x.2.emit (.scullery x.1)).setModWord m (x.2.modWord m ||| 2 ^ (59 + p)))))))

/-- R318 to R320, R324, R327: operations are accepted into their sequences and sent, sent again, and given up with their pair; a pair is
opened by an exchange of nonces that both modules sign. -/
def Obligations.GloingPairs : Prop :=
  ∀ (s : State) (m : Nat) (sent : Nat → Packet → Out), s.Settled → m < 4096 →
    (∀ q k, sent q k = if s.ent 0x4001 (q + 1) = 3 then .frame q (s.frameOf q (some (s.modKey k.dst)) k) k else .packet (some q) k) →
    (s.bestPort = none → exec (.remoteOpIssue m) s = .next s ∧ exec (.ackSend m) s = .next s) ∧
    (∀ k i rest q, (s.pair m).waiting = (k, i) :: rest → s.bestPort = some q → (s.pair m).up = true → s.own ≠ 0xFFFF → m ≠ s.own →
      (s.pair m).tx = [] → linkBytes k ≤ s.pairWindow m →
      unacked (s.pairs.flatMap fun e => e.2.tx) + linkBytes k ≤ 12 * 2 ^ 20 →
      (sendIsAll k i = false → exec (.remoteOpIssue m) s = s.gives (s.acceptOp m k i rest q).endFences) ∧
      (sendIsAll k i = true → exec (.remoteOpIssue m) s = s.gives ((s.acceptOp m k i rest q).remoteDone i).endFences) ∧
      (∃ j, (s.acceptOp m k i rest q).out = sent q j :: s.out ∧ j.hcrc = headerCrc j ∧
        j = { k with seq := (s.pair m).nextSeq, gen := (s.pair m).gen, src := s.own, hcrc := j.hcrc } ∧
        ((s.acceptOp m k i rest q).pair m).waiting = rest ∧
        ((s.acceptOp m k i rest q).pair m).nextSeq = ((s.pair m).nextSeq + 1) % 2 ^ 32 ∧
        ((s.acceptOp m k i rest q).pair m).tx = [⟨j, some q, 0, i, false⟩])) ∧
    (∀ q, s.bestPort = some q → (s.pair m).ackDue = true → (s.pair m).up = true → ∃ t j w, exec (.ackSend m) s = .next t ∧
      t.out = sent q j :: s.out ∧ j.op = 8#4 ∧ j.dst = m ∧ j.src = s.own ∧ j.gen = (s.pair m).gen ∧ j.cisop = (s.pair m).flags ∧
      j.words = [(w, 0#16)] ∧ fld w.toNat 95 64 = ((s.pair m).performed + 2 ^ 32 - 1) % 2 ^ 32 ∧
      ((s.pair m).rx = [] → j.seq = (s.pair m).rxSeq % 2 ^ 32) ∧
      (∀ i, i < 64 → bitOf w.toNat i = (s.pair m).rx.any fun e => decide (e.1 = (j.seq + i) % 2 ^ 32)) ∧
      t.pair m = { s.pair m with ackDue := false, flags := 0 } ∧ t.mem = s.mem) ∧
    ((s.pair m).ackDue = false → exec (.ackSend m) s = .next s) ∧
    (∀ seq o q, (s.pair m).tx.find? (fun o => decide (o.pkt.seq = seq) && o.port.isSome) = some o → s.bestPort = some q → s.own ≠ 0xFFFF →
      (o.tries < 7 → ∃ t, exec (.retransmitTimeout m seq) s = .next t ∧ t.out = sent q (sealPacket o.pkt) :: s.out ∧
        t.od = (s.incEnt 0x4003 (q + 1) 1).od ∧ t.mem = s.mem ∧ t.regs = s.regs ∧
        ∀ x ∈ (t.pair m).tx, x.pkt.seq = seq → x.port = some q) ∧
      (7 ≤ o.tries → exec (.retransmitTimeout m seq) s = s.gives ((s.retransmit m o).failPair m))) ∧
    (m ≠ s.own → (s.pair m).tx ≠ [] ∨ ((s.pair m).up = false ∧ (s.pair m).waiting ≠ []) →
      exec (.pairProgressTimeout m) s = s.gives (s.failPair m)) ∧
    ((s.pair m).tx = [] → (s.pair m).waiting = [] → exec (.pairProgressTimeout m) s = .next s) ∧
    ((s.pair m).up = false → (s.pair m).opening = false → (s.pair m).waiting = [] → s.failPair m = s) ∧
    ((s.pair m).up = true → (s.pair m).tx = [] → s.reads = [] → s.later.contains .fence = false →
      s.failPair m = (s.incEnt 0x4007 1 1).setPair m { s.pair m with up := false, opening := false, failed := true }) ∧
    exec (.windowRestore m) s = .next (s.setPair m { s.pair m with halved := false }) ∧
    ((s.pair m).failed = true → (s.pair m).opening = false → s.member m = true → s.own ≠ 0xFFFF →
      (∀ x ∈ (s.pair m).owed, s.cmd x.1 x.2 = none) →
      exec (.pairReestablish m) s = s.gives ((s.setPair m { s.pair m with owed := [] }).openPair m)) ∧
    (∀ x n, n = BitVec.ofNat 128 s.freeVal → x = ((s.pair m).gen + 1) % 2 ^ 16 →
      (s.openPair m).out = .pairOpen m s.own (Config.sha512 s.idKey) x n
        (Config.idSign (pairOpenBytes s.own (Config.sha512 s.idKey) x n)) :: s.out ∧
      (s.openPair m).pair m = { s.pair m with failed := false, opening := true, nonce := n } ∧ (s.openPair m).free = s.free + 1) ∧
    ((s.pair m).failed = false ∨ (∃ x ∈ (s.pair m).owed, (s.cmd x.1 x.2).isSome = true) → exec (.pairReestablish m) s = .next s) ∧
    (∀ h g n sig, s.member m = false ∨ h ≠ Config.sha512 (s.modKey m) → exec (.pairOpen m h g n sig) s = .next s) ∧
    (∀ h g n sig, s.on = true → s.own ≠ 0xFFFF → s.member m = true → (s.pair m).tx = [] → s.ent 0x4420 3 ≠ 1 → h = Config.sha512 (s.modKey m) →
      ∃ t, exec (.pairOpen m h g n sig) s = .next t ∧
        (Config.ed25519 (s.modKey m) (pairOpenBytes m h g n) sig = false → t = s) ∧
        (Config.ed25519 (s.modKey m) (pairOpenBytes m h g n) sig = true →
          (∀ ns, ns = toBytes 16 n.toNat ++ toBytes 16 (BitVec.ofNat 128 s.freeVal).toNat →
            .pairAccept m g ns (Config.idSign (pairAcceptBytes g ns)) ∈ t.out) ∧
          t.pair m = { Pair.reset with up := true, gen := g, waiting := (s.pair m).waiting, key := s.modKey m, owed := (s.pair m).owed })) ∧
    (∀ g n sig, ((s.pair m).opening = false ∨ g ≠ ((s.pair m).gen + 1) % 2 ^ 16 ∨ n.take 16 ≠ toBytes 16 (s.pair m).nonce.toNat) →
      exec (.pairAccept m g n sig) s = .next s) ∧
    (∀ g n sig, s.on = true → (s.pair m).opening = true → s.member m = true → g = ((s.pair m).gen + 1) % 2 ^ 16 →
      n.take 16 = toBytes 16 (s.pair m).nonce.toNat → exec (.pairAccept m g n sig) s = s.gives
        (if Config.ed25519 (s.modKey m) (pairAcceptBytes g n) sig = true then s.startPair m g else s))

/-- R316, R317, R325, R326, R328: accesses to other modules, the module's number and its members, and PTP. -/
def Obligations.RemoteAccess : Prop :=
  ∀ s : State, s.Settled → s.on = true →
    (∀ k, k < 64 → s.regF (paAtomic k 0x18) 1 1 = 1 → exec (.atomicGo k) s = .next s) ∧
    (∀ k, k < 64 → s.regF (paAtomic k 0x18) 1 1 = 0 → (regionOf (s.regF (paAtomic k 0) 55 4 * 16) ≠ .remote ∨
      cisOpOk (s.regF (paAtomic k 0x18) 15 8) = false) → exec (.atomicGo k) s = .next (s.setReg (paAtomic k 0x20) 3)) ∧
    (∀ k, k < 64 → s.regF (paAtomic k 0x18) 1 1 = 0 → regionOf (s.regF (paAtomic k 0) 55 4 * 16) = .remote →
      cisOpOk (s.regF (paAtomic k 0x18) 15 8) = true → s.own = 0xFFFF → ∃ t, exec (.atomicGo k) s = .next t ∧
      t.regF (paAtomic k 0x20) 3 0 = 2 ∧ t.regF (paAtomic k 0x18) 1 1 = 0) ∧
    (∀ core pa size, core < 96 → pa < 2 ^ 56 → sizeOk size = true →
      ((regionOf pa ≠ .remote ∨ (size ≠ 4 ∧ size ≠ 8) ∨ pa % size ≠ 0 ∨ remotePermitted (remoteAddr pa) = false ∨ s.own = 0xFFFF) →
        exec (.hostRemoteLoad core pa size) s = .next (s.answer core .accessFault)) ∧
      (regionOf pa = .remote → (size = 4 ∨ size = 8) → pa % size = 0 → remotePermitted (remoteAddr pa) = true →
        s.own ≠ 0xFFFF → remoteModule pa ≠ s.own → (s.pair (remoteModule pa)).up = true → s.mgmt.readId < 2 ^ 23 →
        ∃ t j, exec (.hostRemoteLoad core pa size) s = .next t ∧ t.reads = s.reads ++
            [⟨s.mgmt.readId, remoteModule pa, .core core, pa, size, none, (0, 0#128)⟩] ∧
          (t.pair (remoteModule pa)).waiting = (s.pair (remoteModule pa)).waiting ++ [(j, .core core)] ∧ j.op = 1#4 ∧
          j.addr = remoteAddr pa / 16 * 16 ∧ j.dst = remoteModule pa ∧ fld j.tagx.toNat 31 23 = 1 ∧
          tget .none t.cores core = .waiting)) ∧
    (∀ core pa size v, core < 96 → pa < 2 ^ 56 → sizeOk size = true →
      ((regionOf pa ≠ .remote ∨ size ≠ 8 ∨ pa % 8 ≠ 0 ∨ pageReg (remoteAddr pa) = .none) →
        exec (.hostRemoteStore core pa size v) s = .next (s.answer core .accessFault)) ∧
      (regionOf pa = .remote → size = 8 → pa % 8 = 0 → pageReg (remoteAddr pa) ≠ .none →
        s.own ≠ 0xFFFF → remoteModule pa ≠ s.own → (s.pair (remoteModule pa)).up = true →
        ∃ t j, exec (.hostRemoteStore core pa size v) s = .next t ∧
          (t.pair (remoteModule pa)).waiting = (s.pair (remoteModule pa)).waiting ++ [(j, .core core)] ∧ j.op = 0#4 ∧
          j.short = true ∧ j.addr = remoteAddr pa ∧ j.words = [(v.setWidth 128, 0#16)])) ∧
    (∀ num ep nonce time sig, num < 4096 → s.blob 0x4010 1 ≠ [] → nonce = s.mgmt.nonce → s.timely time = true →
      ∃ t, exec (.assign num ep nonce time sig) s = .next t ∧ t.mem = s.mem ∧ t.regs = s.regs ∧
        (Config.ed25519 (s.blob 0x4010 1) (assignBytes num ep nonce time) sig = true →
          t.own = num ∧ t.ent 0x4010 4 = ep) ∧
        (Config.ed25519 (s.blob 0x4010 1) (assignBytes num ep nonce time) sig = false →
          t = s)) ∧
    (∀ num ep nonce time sig, (nonce ≠ s.mgmt.nonce ∨ 4096 ≤ num ∨ s.timely time = false ∨ s.blob 0x4010 1 = []) →
      exec (.assign num ep nonce time sig) s = .next s) ∧
    (∀ ep cs time sig, s.blob 0x4010 1 ≠ [] → s.timely time = true →
      exec (.member ep cs time sig) s = s.gives
        (if Config.ed25519 (s.blob 0x4010 1) (memberBytes ep cs time) sig = true then
          (each cs (fun c s => s.applyChange c) s).setEnt 0x4010 4 ep else s)) ∧
    (∀ ep cs time sig, (s.blob 0x4010 1 = [] ∨ s.timely time = false) → exec (.member ep cs time sig) s = .next s) ∧
    (∀ c : MemberChange, c.num < 4096 → c.join = true → (s.applyChange c).member c.num = true ∧
      (s.applyChange c).modKey c.num = c.key) ∧
    (∀ c : MemberChange, c.num = s.own → c.num < 4096 → c.join = false →
      (∀ e ∈ s.pairs, e.2.tx = [] ∧ e.2.waiting = []) → s.reads = [] → s.ent 0x4420 3 ≠ 1 → (s.applyChange c).own = 0xFFFF ∧
      ∀ e ∈ (s.applyChange c).pairs, ((s.applyChange c).pair e.1).up = false) ∧
    (∀ p dom off l, p < 3 → (s.portUp p = false ∨ s.ent 0x4300 3 = 0 ∨ dom ≠ s.ent 0x4300 4 ∨ (∃ q, s.mgmt.ptpPort = some q ∧ q ≠ p)) →
      exec (.ptpMessage ⟨p, dom, off⟩ l) s = .next s) ∧
    (∀ p off, p < 3 → s.portUp p = true → s.ent 0x4300 3 ≠ 0 → (s.mgmt.ptpPort = none ∨ s.mgmt.ptpPort = some p) →
      (∃ t, exec (.ptpMessage ⟨p, s.ent 0x4300 4, off⟩ false) s = .next t ∧ t.ent 0x4300 1 = 2 ∧ t.mgmt.ptpPort = some p ∧ t.house = s.house) ∧
      (s.ctl.ptpLocked = false → 0 ≤ off → s.house + off.toNat < 2 ^ 64 →
        ∃ t, exec (.ptpMessage ⟨p, s.ent 0x4300 4, off⟩ true) s = .next t ∧
        t.house = s.house + off.toNat ∧ t.ctl.ptpLocked = true ∧ t.ctl.renumber = true ∧ t.ent 0x4300 1 = 3) ∧
      (s.ctl.ptpLocked = false → off < 0 → ∃ t, exec (.ptpMessage ⟨p, s.ent 0x4300 4, off⟩ true) s = .next t ∧
        t.house = s.house ∧ t.ctl = s.ctl ∧ t.ent 0x4300 1 = 4) ∧
      (s.ctl.ptpLocked = true → s.house + (s.house - s.ctl.slewAt) / 10000 < 2 ^ 64 →
        ∃ t, exec (.ptpMessage ⟨p, s.ent 0x4300 4, off⟩ true) s = .next t ∧
        t.house = s.house + min off.toNat ((s.house - s.ctl.slewAt) / 10000) ∧ t.ctl.slewAt = t.house ∧ t.ent 0x4300 1 = 3))

/-! ### Power, heat, steps and the ledger (R329 to R358, R379 to R384) -/

/-- R331 to R336: the Thermostat meters, sheds and undoes, and a droop skips cycles until it ends. -/
def Obligations.ThermostatAndDroop : Prop :=
  ∀ s : State, s.Settled →
    (∀ m, s.firmware = false → exec (.thermostatPeriod m) s = .next s ∧ exec (.thermostatUndo m) s = .next s) ∧
    (∀ m, s.firmware = true → (s.meterInput m).1 = 0 → ∃ t, exec (.thermostatPeriod m) s = .next t ∧
      t.ent 0x2001 1 = m.mv ∧ t.ent 0x2001 2 = m.ma ∧ t.ctl.missed = false ∧ t.ctl.hcoreCaps = s.ctl.hcoreCaps ∧
      t.ctl.hearthCut = s.ctl.hearthCut ∧ (∀ d, (t.die d).skip = (s.die d).skip) ∧
      (∀ n, n < 29 → tget 0 t.ctl.railE n = tget 0 s.ctl.railE n + s.railMv n * lget 0 m.rails n) ∧ t.mem = s.mem ∧ t.regs = s.regs) ∧
    (∀ m, s.firmware = true → (s.meterInput m).1 ≠ 0 →
      exec (.thermostatPeriod m) s = s.gives ((s.meterInput m).2.shed m (s.meterInput m).1)) ∧
    (∀ m ex, ex ≤ s.hearthPower → m.mv ≠ 0 →
      (s.shed m ex).ctl.hearthCut = s.ctl.hearthCut + ex * 1000 / m.mv ∧ (s.shed m ex).ctl.hcoreCaps = s.ctl.hcoreCaps ∧
      ∀ d, ((s.shed m ex).die d).skip = (s.die d).skip) ∧
    (∀ c, (c ∈ s.lowerable → tget 0 s.lowerGrants.ctl.hcoreCaps c = max 1000 (s.grant c - 200)) ∧
      (c ∉ s.lowerable → tget 0 s.lowerGrants.ctl.hcoreCaps c = tget 0 s.ctl.hcoreCaps c)) ∧
    (∀ d, (d ∈ s.skippable → (s.raiseDuty.die d).skip = (s.die d).skip + 1) ∧ (d ∉ s.skippable → s.raiseDuty.die d = s.die d)) ∧
    (∀ m, s.inputClear m = false → exec (.thermostatUndo m) s = .next s) ∧
    (∀ m d, s.firmware = true → s.inputClear m = true → d < 4 → s.dieUp d = true → (s.die d).skip ≠ 0 → ∃ t,
      exec (.thermostatUndo m) s = .next t ∧ (t.die d).skip = (s.die d).skip - 1 ∧ t.ctl = s.ctl ∧ t.od = s.od) ∧
    (∀ m, s.firmware = true → s.inputClear m = true → (∀ d, d < 4 → s.dieUp d = true → (s.die d).skip = 0) →
      (s.ctl.hcoreCaps ≠ [] → exec (.thermostatUndo m) s = .next (s.setCtl { s.ctl with
        hcoreCaps := (s.ctl.hcoreCaps.map fun e => (e.1, e.2 + 200)).filter fun e => decide (e.2 < 3200) })) ∧
      (s.ctl.hcoreCaps = [] → exec (.thermostatUndo m) s = .next (s.setCtl { s.ctl with hearthCut := 0 }))) ∧
    (s.on = true → exec .thermostatMiss s = .next (s.meterDuty.setCtl { s.ctl with missed := true }) ∧
      ∀ d, (s.meterDuty.die d).skip = (s.die d).skip) ∧
    (∀ d, s.ctl.missed = true → s.ent 0x2200 (d + 1) < 3 → s.duty d = 8) ∧
    (∀ d, s.ent 0x2200 (d + 1) = 3 → s.duty d = 16) ∧
    (∀ w mv, w < 32 → s.wingUp w = true → (s.wing w).droop = false → exec (.droopDetect w mv) s = .next
      (if mv * 100 < s.varr (w / 8) * (100 - s.ent 0x2403 1) then
        s.setWing w { s.wing w with droop := true, droopRun := s.house } else s)) ∧
    (∀ w mv, w < 32 → (s.wingUp w = false ∨ (s.wing w).droop = true) → exec (.droopDetect w mv) s = .next s) ∧
    (∀ w, w < 32 → s.wingUp w = true → (s.wing w).droop = true → ∃ t n, exec (.droopEnd w) s = .next t ∧
      n ≤ 4 * ((s.house - (s.wing w).droopRun) * s.ent 0x1110 (10 + w / 8) / 1000000 / 8 + 1) ∧
      t.wing w = { s.wing w with droop := false, droopRun := s.house, stretch := (s.wing w).stretch + n } ∧
      t.od = (s.incEnt 0x2401 (w + 1) n).od ∧ t.mem = s.mem ∧ t.regs = s.regs) ∧
    (∀ w, w < 32 → (s.wing w).droop = false → exec (.droopEnd w) s = .next s)

/-- R379, R380, R383, R384: a step boundary falls at its time, opens the next step, and sets the boundary after it. -/
def Obligations.StepBoundaries : Prop :=
  ∀ (s : State) (m : StepMeasure), s.Settled →
    (s.on = false → exec (.stepBoundary m) s = .next s) ∧
    (s.on = true → ∃ t, exec (.stepBoundary m) s = .next t ∧
      t.house = (if s.house < s.ctl.nextBound then s.ctl.nextBound % 2 ^ 64 else s.house) ∧
      t.stepNo = (if s.ctl.renumber = true then max (s.stepNo + 1) (t.house / s.ctl.len) else s.stepNo + 1) % 2 ^ 64 ∧
      t.ctl.prevBound = t.house ∧ t.ctl.nextBound = t.house + t.ctl.len ∧ t.ctl.renumber = false ∧ t.ctl.early = false ∧
      (s.ctl.lenNext = none → t.ctl.len = s.ctl.len) ∧ (∀ l, s.ctl.lenNext = some (l, 1) → t.ctl.len = l) ∧
      (∀ l, s.ctl.lenNext = some (l, 2) → t.ctl.len = s.ctl.len ∧ t.ctl.lenNext = some (l, 1)) ∧
      t.ctl.meterE = s.ctl.meterE + m.meter ∧ t.ctl.limited = false ∧ t.tier.bounds = s.tier.bounds + (if s.tierState = 2 then 1 else 0) ∧
      (∀ w, w < 32 → s.wingUp w = false → t.ent 0x2400 (w + 1) = 0) ∧ t.mem = s.mem)

/-- R358, R381, R384, R357: pulses, the step length, ledger slots, and records written to the ledger ring. -/
def Obligations.StepsAndLedger : Prop :=
  ∀ s : State, s.Settled →
    (∀ t h, (s.on = false ∨ s.ent 0x4310 8 = 0 ∨ h < 200) → exec (.stepSyncPulse t h) s = .next s) ∧
    (∀ t h, s.on = true → s.ent 0x4310 8 ≠ 0 → 200 ≤ h → s.ctl.prevBound + s.ctl.nextBound ≤ 2 * t → s.ctl.early = true →
      exec (.stepSyncPulse t h) s = .next ((s.advance t).incEnt 0x4310 7 1)) ∧
    (∀ t h, s.on = true → s.ent 0x4310 8 ≠ 0 → 200 ≤ h → s.ctl.prevBound + s.ctl.nextBound ≤ 2 * t → s.ctl.early = false →
      4 * ((t : Int) - s.ctl.nextBound).natAbs ≤ s.ctl.len → ∃ u, exec (.stepSyncPulse t h) s = .next u ∧ u.ent 0x4310 3 = 1 ∧
      u.ent 0x4310 4 = ofSigned 32 ((t : Int) - s.ctl.nextBound) ∧ u.ctl.early = true ∧
      u.ctl.nextBound = ((s.ctl.nextBound : Int) +
        max (-((s.ctl.len / 16 : Nat) : Int)) (min ((s.ctl.len / 16 : Nat) : Int) ((t : Int) - s.ctl.nextBound))).toNat ∧
      u.stepNo = s.stepNo) ∧
    (∀ t h, s.on = true → s.ent 0x4310 8 ≠ 0 → 200 ≤ h → s.ctl.prevBound + s.ctl.nextBound ≤ 2 * t → s.ctl.early = false →
      s.ctl.len < 4 * ((t : Int) - s.ctl.nextBound).natAbs → ∃ u, exec (.stepSyncPulse t h) s = .next u ∧
      u.ctl.nextBound = t ∧ u.ctl.early = true ∧ u.ctl.len = s.ctl.len) ∧
    (∀ v, s.firmware = true → (v < 100000 ∨ 100000000 < v ∨ v % 1000 ≠ 0) →
      exec (.stepLengthWrite v) s = .next s ∧ (s.writeStepLen v).1 = .range) ∧
    (∀ v, s.firmware = true → 100000 ≤ v → v ≤ 100000000 → v % 1000 = 0 →
      (∀ i, i < 4 → s.ent 0x2100 (i + 1) = 0 ∧ s.ep i 3 = 0) →
      exec (.stepLengthWrite v) s = .next ((s.setEnt 0x4310 1 v).setCtl { s.ctl with lenNext := some (v, 2) })) ∧
    (∀ v i, i < 4 → (s.ent 0x2100 (i + 1) ≠ 0 ∨ s.ep i 3 ≠ 0) → exec (.stepLengthWrite v) s = .next s) ∧
    (∀ i, s.firmware = true → ∃ t, exec (.slotFree i) s = .next t ∧ (∀ e ∈ t.ctl.slots, e.1 ≠ i) ∧
      (∀ e ∈ s.ctl.slots, e.1 ≠ i → e ∈ t.ctl.slots) ∧ t.ctl.meterE = s.ctl.meterE ∧ t.mem = s.mem ∧ t.od = s.od) ∧
    (s.ctl.ledger = [] → exec .ledgerRecordWrite s = .next s) ∧
    (s.ent 0x6000 7 = 0 → exec .ledgerRecordWrite s = .next s) ∧
    (∀ r rest, s.on = true → s.ctl.ledger = r :: rest → s.ent 0x6000 7 ≠ 0 →
      (s.ent 0x6000 4 + 1) % 2 ^ s.ent 0x6000 2 ≠ s.ent 0x6000 3 % 2 ^ s.ent 0x6000 2 →
      ((s.ent 0x6000 5 = 0 ∨ fld (lget 0#64 r 0).toNat 55 54 ≠ 2) →
        exec .ledgerRecordWrite s = s.gives ((s.putRecord r).ledgerOn (s.ent 0x6000 4) (2 ^ s.ent 0x6000 2) rest)) ∧
      (s.ent 0x6000 5 ≠ 0 → fld (lget 0#64 r 0).toNat 55 54 = 2 → exec .ledgerRecordWrite s =
        s.gives (((s.putRecord r).ledgerOn (s.ent 0x6000 4) (2 ^ s.ent 0x6000 2) rest).msi 4 (s.ent 0x6000 5) (s.ent 0x6000 6)))) ∧
    (∀ tail n rest, tail + 1 ≠ n → (s.ledgerOn tail n rest).ent 0x6000 4 = tail + 1 ∧ (s.ledgerOn tail n rest).ctl.lphase = s.ctl.lphase) ∧
    (∀ tail n rest, tail + 1 = n → (s.ledgerOn tail n rest).ent 0x6000 4 = 0 ∧ (s.ledgerOn tail n rest).ctl.lphase = !s.ctl.lphase)

/-- R340 to R344, R366: host core frequencies, and the messages of a fleet job. -/
def Obligations.FleetFrequencies : Prop :=
  ∀ s : State, s.Settled →
    (∀ c mhz, c < 4 → s.on = true → 400 ≤ mhz → mhz ≤ 3200 →
      exec (.hcoreFreqRequest c mhz) s = .next (s.setEnt 0x2020 (c + 1) mhz)) ∧
    (∀ c mhz, c < 4 → (mhz < 400 ∨ 3200 < mhz) → exec (.hcoreFreqRequest c mhz) s = .next s) ∧
    (∀ c, c < 4 → s.on = true → ∃ t, exec (.hcoreGrantApply c) s = .next t ∧ t.ent 0x2021 (c + 1) = s.grant c ∧
      t.ent 0x1110 (3 + c) = s.grant c * 1000 ∧ t.mem = s.mem ∧ t.regs = s.regs) ∧
    (∀ c, 400 ≤ s.grant c ∧ s.grant c ≤ 3200 ∧ s.grant c % 50 = 0 ∧
      (400 ≤ s.ent 0x2020 (c + 1) → s.grant c ≤ s.ent 0x2020 (c + 1)) ∧ s.grant c ≤ s.hostCap ∧
      (s.ctl.missed = true → s.grant c ≤ 1000) ∧
      (s.ctl.missed = false → 400 ≤ tget 0 s.ctl.hcoreCaps c → s.grant c ≤ tget 0 s.ctl.hcoreCaps c)) ∧
    (∀ src job mhz b, s.firmware = true → (mhz < 600 ∨ 2000 < mhz ∨ mhz % 25 ≠ 0) →
      exec (.freqSet src job mhz b) s = .next (s.emit (.acked 0x20))) ∧
    (∀ job mhz b, s.firmware = true → 600 ≤ mhz → mhz ≤ 2000 → mhz % 25 = 0 → s.manager = false →
      exec (.freqSet 0xFFFF job mhz b) s = .next ((s.takeFreq job mhz b).emit (.acked 0x20))) ∧
    (∀ src job mhz b, s.firmware = true → s.manager = false → src ≠ 0xFFFF →
      exec (.freqSet src job mhz b) s = .next (s.emit (.acked 0x20))) ∧
    (∀ job mhz b i, i ∈ s.jobSuites job → ((s.takeFreq job mhz b).fleetOf i).byStep =
      some (if s.stepNo + 1 < b then (b, mhz, false) else (s.stepNo + 2, mhz, true))) ∧
    (∀ job mhz b i, i ∉ s.jobSuites job → (s.takeFreq job mhz b).fleetOf i = s.fleetOf i) ∧
    (∀ job c mhz st ser, s.firmware = true →
      (s.manager = true → exec (.laggard job c mhz st ser) s = s.gives ((s.sendLaggard job c.toNat mhz st ser).ackNotice 0x21) ∧
        exec (.laggardClear job st ser) s = s.gives ((s.sendClear job st ser).ackNotice 0x22) ∧
        exec (.freqLate job st ser) s = s.gives ((s.sendLate job st ser).ackNotice 0x23)) ∧
      (s.manager = false → exec (.laggard job c mhz st ser) s = .next (s.emit (.acked 0x21)) ∧
        exec (.laggardClear job st ser) s = .next (s.emit (.acked 0x22)) ∧
        exec (.freqLate job st ser) s = .next (s.emit (.acked 0x23)))) ∧
    (∀ i k, (s.fleetOf i).freq = 2000 → k ≠ 0 → s.suiteSkip i = (8 * k, k) → s.sustainable i 1 = 1000) ∧
    (∀ (f : Fleet) n b mhz l, f.byStep = some (b, mhz, l) →
      (b ≤ n → (f.atBoundary n).freq = mhz ∧ (f.atBoundary n).byStep = none) ∧ (n < b → (f.atBoundary n).byStep = f.byStep)) ∧
    (∀ (f : Fleet) n v, f.due = [(1, 0x2101, v)] → f.byStep = none → (f.atBoundary n).freq = v ∧ (f.atBoundary n).due = []) ∧
    (∀ (f : Fleet) n x, f.due = [(2, x)] → f.byStep = none → (f.atBoundary n).freq = f.freq ∧ (f.atBoundary n).mode = f.mode ∧
      (f.atBoundary n).due = [(1, x)]) ∧
    (∀ i c, 600 ≤ s.sustainable i c)

/-- R345, R346, R350 to R353: a die's band, the Hearth, and wings that sleep and wake. -/
def Obligations.BandsHearthAndSleep : Prop :=
  ∀ s : State, s.Settled →
    (∀ d t, d < 5 → s.on = false → exec (.dieTempSample d t) s = .next s) ∧
    (∀ d t, d < 5 → s.on = true → t < 120 → s.ent 0x2200 (d + 1) < dieBandOf t → ∃ u, exec (.dieTempSample d t) s = .next u ∧
      u.ent 0x2200 (d + 1) = dieBandOf t ∧ u.ent 0x2201 (d + 1) = t ∧ (u.die d).coolAt = none ∧ u.mem = s.mem ∧ u.regs = s.regs) ∧
    (∀ d t, d < 5 → s.on = true → s.ent 0x2200 (d + 1) = 3 → 102 < t → t ≤ 105 →
      exec (.dieTempSample d t) s = .next ((s.setEnt 0x2201 (d + 1) t).setDie d { s.die d with coolAt := none, mildAt := none })) ∧
    (∀ d t, d < 5 → s.on = true → 120 ≤ t → exec (.dieTempSample d t) s =
      s.gives ((s.takeTemp d t).capture (breakerOf d) (plainReport 0x40 (agentNo d 0x0B 0)))) ∧
    (∀ d, d < 5 → (s.die d).critAt = none → exec (.dieCriticalTimeout d) s = .next s) ∧
    (∀ d a, d < 4 → s.on = true → (s.die d).critAt = some a → s.ent 0x2200 (d + 1) = 3 → ∃ r, r.src = 0x31#8 ∧
      r.suites = (if tget 0 s.mgmt.acted (8 + d) = s.mgmt.layouts + 1 then [] else [s.suiteOfDie d]) ∧
      exec (.dieCriticalTimeout d) s = s.gives (((s.advance (a + 1000000000)).levelActed (8 + d)).capture d r)) ∧
    (∀ avg now, s.on = true → s.ent 0x2300 6 = 1 → s.ent 0x2300 7 ≠ 1 → s.ctl.above = false → s.liveRooms ≠ [] →
      s.ent 0x2300 1 * s.liveRooms.length ≤ (s.liveRooms.filter fun g => s.roomWaits g).length * 100 →
      ∃ t, exec (.hearthTick avg now) s = .next t ∧ t.ent 0x2300 7 = 1 ∧ t.ctl.iref = avg ∧
        t.ctl.target = avg * s.ent 0x2300 2 / 100 ∧ t.ctl.engagedAt = s.house) ∧
    (∀ avg now, s.on = true → s.ent 0x2300 7 = 1 →
      (s.liveRooms.filter fun g => s.roomWaits g).length * 100 < s.ent 0x2300 1 * s.liveRooms.length →
      ∃ t, exec (.hearthTick avg now) s = .next t ∧ t.ent 0x2300 7 = 2) ∧
    (∀ avg now, ∃ t, exec (.hearthTick avg now) s = .next t ∧ t.mem = s.mem ∧ t.regs = s.regs ∧ t.wings = s.wings ∧
      ∀ g, { t.room g with hearth := false } = { s.room g with hearth := false }) ∧
    (s.on = true → s.ent 0x2300 7 = 2 → 0 < s.ctl.iref * s.ent 0x2300 3 / 100 →
      s.ctl.iref * s.ent 0x2300 3 / 100 < s.ctl.target → exec .hearthRamp s = .next
        (s.setCtl { s.ctl with target := s.ctl.target - s.ctl.iref * s.ent 0x2300 3 / 100 })) ∧
    (s.on = true → s.ent 0x2300 7 = 2 → (s.ctl.target ≤ s.ctl.iref * s.ent 0x2300 3 / 100 ∨
      s.ctl.iref * s.ent 0x2300 3 / 100 = 0) → ∃ t, exec .hearthRamp s = .next t ∧
      t.ctl.target = 0 ∧ t.ent 0x2300 7 = 0 ∧ ∀ g ∈ s.liveRooms, (t.room g).hearth = false) ∧
    (s.ent 0x2300 7 ≠ 2 → exec .hearthRamp s = .next s) ∧
    (s.on = true → s.ent 0x2300 7 = 1 → exec .hearthTimeout s = .next
      ((s.advance (s.ctl.engagedAt + s.ent 0x2300 5 * 1000000)).setEnt 0x2300 7 2)) ∧
    (s.ent 0x2300 7 ≠ 1 → exec .hearthTimeout s = .next s) ∧
    (s.on = true → s.ent 0x2300 7 = 1 → exec .hearthDisable s = .next ((s.setEnt 0x2300 6 0).setEnt 0x2300 7 2)) ∧
    (s.on = true → s.ent 0x2300 7 ≠ 1 → exec .hearthDisable s = .next (s.setEnt 0x2300 6 0)) ∧
    (∀ w, w < 32 → (s.ent 0x2500 1 = 0 ∨ (s.wing w).cmds ≠ [] ∨ s.porch.wake = true) → exec (.wingIdleTimeout w) s = .next s) ∧
    (∀ w, w < 32 → s.wingUp w = true → (s.wing w).power = .running → s.ent 0x2500 1 ≠ 0 → s.porch.wake = false →
      (s.wing w).cmds = [] → (∀ q, q < 128 → s.qon w q = true → s.pendingEntries w q = 0) → ∀ t, t = (s.flushOp w 3).drainLanding w →
      exec (.wingIdleTimeout w) s = s.gives (t.setWing w { t.wing w with power := .sleeping })) ∧
    (∀ w, s.flushOp w 3 = (s.flushCache w fun _ => .flush).setRegF (paCache w 0) 47 32 0) ∧
    (∀ w, w < 32 → s.wingUp w = true → (s.wing w).power = .sleeping →
      exec (.wingWake w) s = .next (s.setWing w { s.wing w with power := .waking })) ∧
    (∀ w, w < 32 → (s.wing w).power ≠ .sleeping → exec (.wingWake w) s = .next s) ∧
    (∀ w, w < 32 → s.wingUp w = true → (s.wing w).power = .waking →
      exec (.wingWakeDone w) s = .next (s.setWing w { s.wing w with power := .running })) ∧
    (∀ w, w < 32 → (s.wing w).power ≠ .waking → exec (.wingWakeDone w) s = .next s) ∧
    (∃ t, exec .wakeAssert s = .next t ∧ t.porch.wake = true ∧ t.mem = s.mem ∧ t.regs = s.regs ∧
      ∀ w, w < 32 → s.wingUp w = true → (s.wing w).power = .sleeping → (t.wing w).power = .waking) ∧
    exec .wakeDeassert s = .next { s with porch := { s.porch with wake := false } }

/-! ### The object dictionary, the segment, epochs, sessions and the Breaker -/

/-- R63: a default window outside -512 to 511 and a headroom outside 4 to 24 are refused OUT_OF_RANGE and change nothing,
whether the write comes as an item of its own or in a WRITE through a letterbox. -/
def Obligations.WindowRange : Prop :=
  ∀ (s : State) (path : Path) (sess k : Nat), 1 ≤ k → k ≤ 4 →
    (∀ b : Bytes, b.length = 4 → (toSigned 32 (ofBytes b) < -512 ∨ 511 < toSigned 32 (ofBytes b)) →
      s.writeEntry path sess 0x8010 k 6 b = (3, s)) ∧
    (∀ b : Bytes, b.length = 1 → (ofBytes b < 4 ∨ 24 < ofBytes b) → s.writeEntry path sess 0x8011 k 2 b = (3, s)) ∧
    (∀ (m : DictMsg) (x : DictItem), s.Settled → s.firmware = true → m.path = .letterbox → m.ver = 1#4 → m.kind = 0#4 →
      m.formOk = true → m.session = 0 → m.target = 0 → m.items = [x] → x.sub = k → x.len = x.value.length →
      (x.index = 0x8010 ∧ x.ity = 6#8 ∧ x.len = 4 ∧ (toSigned 32 (ofBytes x.value) < -512 ∨ 511 < toSigned 32 (ofBytes x.value)) ∨
        x.index = 0x8011 ∧ x.ity = 2#8 ∧ x.len = 1 ∧ (ofBytes x.value < 4 ∨ 24 < ofBytes x.value)) →
      exec (.write m) s = s.gives (s.respond m 2 3 (itemBytes x.index k x.ity.toNat 0 3 0 [])))

/-- R361, R362, R367 to R369: how an item of a WRITE is checked, and that a refused item, and a WRITE with one, change
nothing but the reason of a refused activation (R268). -/
def Obligations.DictionaryItems : Prop :=
  ∀ (s : State) (path : Path) (sess i k ity : Nat) (b : Bytes),
    (dictEntry i k = none → s.writeEntry path sess i k ity b = (1, s)) ∧
    (∀ r, dictEntry i k = some r →
      (0xA000 ≤ i → s.inTest = false → i ≠ 0xA000 → s.writeEntry path sess i k ity b = (6, s)) ∧
      (i < 0xA000 → (r.acc = .ro ∨ r.acc = .const) → s.writeEntry path sess i k ity b = (2, s)) ∧
      (i < 0xA000 → r.acc ≠ .ro → r.acc ≠ .const →
        (ity ≠ r.ty.code → s.writeEntry path sess i k ity b = (5, s)) ∧
        (ity = r.ty.code → r.ty.isBytes = false → b.length ≠ r.ty.size → s.writeEntry path sess i k ity b = (5, s)) ∧
        (ity = r.ty.code → r.ty.isBytes = false → b.length = r.ty.size → s.rangeOk r i k (ofBytes b) = false →
          s.writeEntry path sess i k ity b = (3, s)) ∧
        (ity = r.ty.code → r.ty.isBytes = false → b.length = r.ty.size → s.rangeOk r i k (ofBytes b) = true → r.acc = .rwq →
          s.quiet i k = false → s.writeEntry path sess i k ity b = (4, s)) ∧
        (ity = r.ty.code → r.ty.isBytes = true → lengthOk r i k b.length = true →
          s.writeEntry path sess i k ity b = (0, s.setBlob i k b)))) ∧
    ((s.writeEntry path sess i k ity b).1 ≠ 0 → i ≠ 0x8101 → i ≠ 0x8102 → (s.writeEntry path sess i k ity b).2 = s) ∧
    ((s.writeEntry path sess i k ity b).1 ≠ 0 →
      (s.writeEntry path sess i k ity b).2 = s ∨ ∃ n, (s.writeEntry path sess i k ity b).2 = s.setEnt 0x8100 3 n) ∧
    (∀ m : DictMsg, (s.doWrite m).1.1 ≠ 0 → (s.doWrite m).2 = s ∨ ∃ n, (s.doWrite m).2 = s.setEnt 0x8100 3 n) ∧
    (∀ m : DictMsg, (s.checkItems m).1.length = m.items.length) ∧
    (∀ (m : DictMsg) (x : DictItem), m.offset ≠ (s.seg m).length → (s.doWriteSeg m x).1.1 = 3 ∧ (s.doWriteSeg m x).2 = s.setSeg m []) ∧
    (∀ (m : DictMsg) (x : DictItem), m.offset = (s.seg m).length → bitOf x.flags.toNat 0 = false →
      (s.doWriteSeg m x).1.1 = 0 ∧ (s.doWriteSeg m x).2 = s.setSeg m (s.seg m ++ x.value))

/-- R363, R366, R367, R370 to R372: REQUESTs are answered, and those that are ill-formed or not allowed are refused. -/
def Obligations.DictionaryRequests : Prop :=
  ∀ (s : State) (m : DictMsg), s.Settled → s.firmware = true →
    (∀ o ∈ ([(1, Instr.read), (2, Instr.write), (3, Instr.readSeg), (4, Instr.writeSeg)] : List (Nat × (DictMsg → Instr))),
      (m.path = .letterbox → m.ver = 1#4 → m.kind = 0#4 → m.formOk = true → bodyOk o.1 m = true → m.session = 0 →
        m.target = 0 → (s.perform o.1 m).2.firmware = true →
        exec (o.2 m) s = s.gives ((s.perform o.1 m).2.respond m o.1 (s.perform o.1 m).1.1 (s.perform o.1 m).1.2)) ∧
      (m.path = .letterbox → (m.ver ≠ 1#4 ∨ m.formOk = false ∨ bodyOk o.1 m = false ∨ m.session ≠ 0) → m.kind ≠ 1#4 →
        exec (o.2 m) s = s.gives (s.respond m o.1 9 [])) ∧
      (m.path = .letterbox → m.kind = 1#4 → exec (o.2 m) s = .next s) ∧
      (∀ g, m.path = .gloing g → m.ver = 1#4 → m.kind = 0#4 → m.formOk = true → bodyOk o.1 m = true → m.session = 0 →
        s.kept m = none → ¬ (o.1 = 1 ∧ m.items.all openItem = true) → exec (o.2 m) s = s.gives (s.respond m o.1 7 [])) ∧
      (∀ g a, m.path = .gloing g → m.session = 0 → s.kept m = some a → exec (o.2 m) s = .next (s.sendModule g a.bytes)) ∧
      (∀ n a, m.path = .field n → s.ent 0x4400 1 ≠ 3 → m.session = 0 → s.kept m = some a →
        exec (o.2 m) s = .next (s.emit (.response m.path a.bytes))) ∧
      (∀ g x, m.path = .gloing g → m.session ≠ 0 → s.session m.path m.session = some x → m.tag ≠ Config.hmac512t x.key m.raw →
        exec (o.2 m) s = .next s) ∧
      (∀ g, m.path = .gloing g → m.session ≠ 0 → s.session m.path m.session = none → exec (o.2 m) s = .next s)) ∧
    (∀ x, m.items = [x] → dictEntry x.index x.sub = none → pathMax m.path ≥ 24 + tagBytes m.session →
      (s.perform 1 m).1.1 = 1 ∧ (s.perform 1 m).2 = s) ∧
    (∀ g b, s.own ≠ 0xFFFF → g ≠ 0xFFFF → g ≠ s.own → (s.pair g).up = true → ∃ k,
      ((s.sendModule g b).pair g).waiting = (s.pair g).waiting ++ [(k, .scullery)] ∧ k.op = 7#4 ∧ k.dst = g ∧ k.src = s.own ∧
      k.words.length = (b.length + 15) / 16 ∧ (s.sendModule g b).out = s.out) ∧
    (∀ op st body, m.path = .letterbox → (m.reply < 16 ∨ 63 < m.reply) → s.respond m op st body = s) ∧
    (m.items = [] → (s.perform 1 m).1 = (0, []) ∨ pathMax m.path < 16 + tagBytes m.session)

/-- R371, R375, R376, R378, R372: the segment's heartbeats, nodes, events, retries and answers. -/
def Obligations.SegmentNode : Prop :=
  ∀ s : State, s.Settled → s.firmware = true →
    (∀ role node st ser, s.manager = true → node < 64 → role ≠ 1 → exec (.heartbeat role node st ser) s =
      .next (s.setEnt 0x4404 (node + 1) (2 ^ 62 + s.house % 2 ^ 62))) ∧
    (∀ node st ser, s.manager = false → exec (.heartbeat 1 node st ser) s =
      .next { s with mgmt := { s.mgmt with mgrSeen := some s.house, mgrLost := false } }) ∧
    (∀ role node st ser, s.manager = false → role ≠ 1 → exec (.heartbeat role node st ser) s = .next s) ∧
    (s.manager = true → exec .heartbeatTransmit s = .next (s.emit (.heartbeat 0xFFFF s.stepNo))) ∧
    (s.manager = false → s.mgmt.mgrSeen = none → exec .heartbeatTransmit s = .next s) ∧
    (∀ n, n < 64 → s.manager = true → s.nodeState n = 1 → ∃ t, exec (.nodeLostTimeout n) s = .next t ∧ t.nodeState n = 2 ∧
      t.mem = s.mem ∧ t.regs = s.regs ∧ t.house = max s.house ((s.ent 0x4404 (n + 1) % 2 ^ 62 + 300000000) % 2 ^ 64)) ∧
    (∀ n, s.nodeState n ≠ 1 → exec (.nodeLostTimeout n) s = .next s) ∧
    (∀ a, s.manager = false → s.mgmt.mgrSeen = some a → s.mgmt.mgrLost = false → ∃ t, exec .managerLostTimeout s = .next t ∧
      t.mgmt.mgrLost = true ∧ t.mgmt.evNumber = s.mgmt.evNumber + 1 ∧ t.mem = s.mem) ∧
    (s.mgmt.mgrSeen = none → exec .managerLostTimeout s = .next s) ∧
    exec .plcaBeaconTimeout s = .next (s.setEnt 0x4400 7 0) ∧ exec .plcaBeaconReceive s = .next (s.setEnt 0x4400 7 1) ∧
    (∀ src r, (s.manager = false ∨ (s.eventDests r.index).contains 1 = false) → exec (.event src r) s = .next (s.emit (.acked 8))) ∧
    (∀ src r, s.manager = true → (s.eventDests r.index).contains 1 = true →
      exec (.event src r) s = .next ((s.queueEvent r 1).emit (.acked 8))) ∧
    (∀ seq d r, s.mgmt.outgoing = [⟨seq, 1, .event d r⟩] → exec (.requestRetry seq) s =
      .next ((s.putSent ⟨seq, 1, .event d r⟩ ⟨seq, 2, .event d r⟩).sendEvent seq d r)) ∧
    (∀ seq d r, d ≠ 1 → s.sendEvent seq d r = s.emit (.event d r)) ∧
    (∀ seq d r n, 5 ≤ n → s.mgmt.outgoing = [⟨seq, n, .event d r⟩] → ∃ t, exec (.requestRetry seq) s = .next t ∧
      t.mgmt.outgoing = [] ∧ t.out = s.out ∧ t.od = s.od ∧ t.mem = s.mem) ∧
    (∀ seq, (∀ o ∈ s.mgmt.outgoing, o.seq ≠ seq) → exec (.requestRetry seq) s = .next s ∧ exec (.relayRetry seq) s = .next s) ∧
    (∀ seq op m l w n, 5 ≤ n → s.mgmt.outgoing = [⟨seq, n, .relay op m l true w⟩] → exec (.relayRetry seq) s = s.gives
      ((s.dropSent ⟨seq, n, .relay op m l true w⟩).respond m op (if w = 0 then 0x0A else w) [])) ∧
    (∀ seq d r node st body, s.mgmt.outgoing = [⟨seq, 1, .event d r⟩] → ((d = 0) ↔ (node = 0)) →
      ∃ t, exec (.response seq node st body) s = .next t ∧ t.mgmt.outgoing = [] ∧
        tget [] t.mgmt.events d = (tget [] s.mgmt.events d).erase r ∧ t.od = s.od) ∧
    (∀ seq op m l a w node st body, s.mgmt.outgoing = [⟨seq, 1, .relay op m l a w⟩] → l.contains node = true →
      (a = false → exec (.response seq node st body) s = s.gives
        ((s.dropSent ⟨seq, 1, .relay op m l a w⟩).respond m op st body)) ∧
      (a = true → (∀ x ∈ l, x = node) → exec (.response seq node st body) s = s.gives
        ((s.dropSent ⟨seq, 1, .relay op m l a w⟩).respond m op (if w = 0 then st else w) []))) ∧
    (∀ seq node st body, s.mgmt.outgoing = [] → exec (.response seq node st body) s = .next s) ∧
    exec .replyLockRetry s = s.gives s.pumpReplies.pumpHostEvent

/-- R385 to R388: a mode epoch is staged, acknowledged, committed and cancelled. -/
def Obligations.ModeEpochs : Prop :=
  ∀ (s : State) (i : Nat), s.Settled → i < 4 → i < suiteCount s.layout →
    (∀ e, s.ep i 3 = 0 → e = (s.ep i 1 + 1) % 256 → ∃ t, exec (.stage i e) s = .next t ∧ t.ep i 2 = e ∧ t.ep i 7 = 0 ∧
      t.ep i 3 = (if s.suiteUnits i = [] then 2 else 1) ∧ (t.epoch i).win = toSigned 32 (s.ent 0x8010 (i + 1)) ∧
      (t.epoch i).head = s.ent 0x8011 (i + 1) ∧ (t.epoch i).acked = [] ∧ t.ep i 1 = s.ep i 1 ∧ t.mem = s.mem ∧ t.regs = s.regs) ∧
    (∀ e, s.ep i 3 ≠ 0 → exec (.stage i e) s = .next s ∧ (s.stageEpoch i e).1 = .busy) ∧
    (∀ e, s.ep i 3 = 0 → e ≠ (s.ep i 1 + 1) % 256 → exec (.stage i e) s = .next s ∧ (s.stageEpoch i e).1 = .range) ∧
    (∀ u, u < 288 → (s.ep i 3 = 1 ∨ s.ep i 3 = 3) → u ∈ s.suiteUnits i → u ∉ (s.epoch i).acked → s.ent (0x5200 + unitDie u) 1 = 2 →
      ∃ t, exec (.epochAck i u) s = .next t ∧ (t.epoch i).acked = u :: (s.epoch i).acked ∧
        t.ep i 7 = (s.epoch i).acked.length + 1 ∧ t.ep i 3 =
          (if s.ep i 3 = 1 ∧ (s.suiteUnits i).all (fun x => (u :: (s.epoch i).acked).contains x) = true then 2 else s.ep i 3) ∧
        t.mem = s.mem ∧ t.regs = s.regs) ∧
    (∀ u, u < 288 → (u ∉ s.suiteUnits i ∨ u ∈ (s.epoch i).acked ∨ s.ep i 3 = 0 ∨ s.ep i 3 = 2) → exec (.epochAck i u) s = .next s) ∧
    (∀ v : BitVec 64, (s.ep i 3 = 1 ∨ s.ep i 3 = 2) → v.toNat % 256 = s.ep i 2 → ∃ t, exec (.commit i v) s = .next t ∧
      t.ep i 3 = 3 ∧ (t.epoch i).step = v.toNat / 256 ∧ (t.epoch i).earliest = s.house + 20000 ∧ t.ep i 1 = s.ep i 1 ∧
      t.mem = s.mem ∧ t.regs = s.regs) ∧
    (∀ v : BitVec 64, (s.ep i 3 ≠ 1 ∧ s.ep i 3 ≠ 2 ∨ v.toNat % 256 ≠ s.ep i 2) → exec (.commit i v) s = .next s ∧
      (s.commitEpoch i v.toNat).1 = .range) ∧
    (∀ v, v ≠ 0 → (s.ep i 3 = 1 ∨ s.ep i 3 = 2) → exec (.epochCancel i v) s = .next ((s.setEpoch i .reset).setEp i 3 0)) ∧
    (∀ v, v ≠ 0 → s.ep i 3 = 3 → exec (.epochCancel i v) s = .next s ∧ (s.cancelEpoch i v).1 = .busy) ∧
    (exec (.epochCancel i 0) s = .next s ∧ (s.cancelEpoch i 0).1 = .ok) ∧
    (∀ v, s.ep i 3 = 0 → exec (.epochCancel i v) s = .next s ∧ (s.cancelEpoch i v).1 = .ok)

/-- R403, R404: SPDM requests and field-protocol sessions. The SPDM codes and bit values are the model's presumption
(log entry 27), and that a bad FINISH ends the session is its choice (log entry 29). -/
def Obligations.IdentitySessions : Prop :=
  ∀ s : State, s.Settled → s.firmware = true →
    (∀ p b, exec (.spdmRequest 0x84#8 p b) s = .next (s.emit (.spdm 0x04#8 (toBytes 2 0x1200 ++ toBytes 2 0x1300)))) ∧
    (∀ p b, exec (.spdmRequest 0x81#8 p b) s = .next (s.emit (.spdm 0x01#8 (Config.sha512 s.certChain)))) ∧
    (∀ p b, p.toNat % 16 = 0 → exec (.spdmRequest 0x82#8 p b) s = .next (s.emit (.spdm 0x02#8 s.certChain))) ∧
    (∀ p b, p.toNat % 16 ≠ 0 → exec (.spdmRequest 0x82#8 p b) s = .next (s.spdmError 1)) ∧
    (∀ p b, p.toNat % 2 = 0 → lget 0#8 b 0 = 0#8 → exec (.spdmRequest 0xE0#8 p b) s = .next (s.emit (.spdm 0x60#8 (toBytes 1 6)))) ∧
    (∀ path key e n, path ≠ .letterbox → (s.keyHeld key = false ∨ 16 ≤ s.mgmt.sessions.length) →
      exec (.sessionOpen path key e n) s = .next (s.emit (.sessionRefused path 7))) ∧
    (∀ path key e n, path ≠ .letterbox → s.keyHeld key = true → s.mgmt.sessions.length < 16 → ∃ t x,
      exec (.sessionOpen path key e n) s = .next t ∧ t.mgmt.sessions = s.mgmt.sessions ++ [x] ∧ x.n = s.freeSession ∧
      x.peer = path ∧ x.peerKey = key ∧ x.secret = Config.x25519 s.free e ∧ x.open_ = false ∧ x.last = s.house ∧
      t.free = s.free + 1 ∧ t.od = s.od ∧ t.mem = s.mem) ∧
    (s.mgmt.sessions.length < 16 → 1 ≤ s.freeSession ∧ s.freeSession ≤ 17 ∧ ∀ x ∈ s.mgmt.sessions, x.n ≠ s.freeSession) ∧
    (∀ n sig x, s.mgmt.sessions.find? (fun x => decide (x.n = n) && !x.open_) = some x →
      ∃ t, exec (.sessionFinish n sig) s = .next t ∧
        (Config.ed25519 x.peerKey x.script sig = false → t = (s.endSession x).emit (.sessionRefused x.peer 7)) ∧
        (Config.ed25519 x.peerKey x.script sig = true →
          (∀ y ∈ t.mgmt.sessions, y.n = n → y.open_ = true ∧ y.script = x.script ++ sig ∧ y.last = s.house) ∧
          t.mgmt.sessions.length = s.mgmt.sessions.length ∧ t.od = s.od)) ∧
    (∀ n x, s.mgmt.sessions.find? (fun x => decide (x.n = n)) = some x →
      exec (.sessionClose n) s = .next (s.endSession x) ∧
      exec (.sessionTimeout n) s = .next ((s.advance (x.last + 60000000000)).endSession x)) ∧
    (∀ n sig, (∀ x ∈ s.mgmt.sessions, x.n ≠ n) → exec (.sessionFinish n sig) s = .next s ∧ exec (.sessionClose n) s = .next s ∧
      exec (.sessionTimeout n) s = .next s) ∧
    (∀ x, (∀ y ∈ (s.endSession x).mgmt.sessions, y.n ≠ x.n) ∧ (∀ a ∈ (s.endSession x).mgmt.answers, a.sess ≠ x.n) ∧
      (∀ e ∈ (s.endSession x).mgmt.segs, e.2.1 ≠ x.n) ∧ (s.endSession x).od = s.od)

/-- R413 to R423: a Breaker captures the first report of a class and counts the others, and is cleared, read and armed. -/
def Obligations.BreakerCaptures : Prop :=
  ∀ (s : State) (b : Nat), s.Settled → b < 5 →
    (∀ r, s.breakerUp b = true → knownSource r.src.toNat = true → (r.addr = none ∨ (r.src ≠ 0x32#8 ∧ r.src ≠ 0x41#8 ∧ r.src ≠ 0x29#8)) →
      exec (.breakerReport b r) s = s.gives (s.capture b r)) ∧
    (∀ r a, s.breakerUp b = true → r.addr = some a →
      (r.src = 0x29#8 → exec (.breakerReport b r) s = s.gives ((s.capture b r).zeroWord a.toNat)) ∧
      (r.src = 0x41#8 → exec (.breakerReport b r) s = s.gives ((s.capture b r).loseSet (a.toNat / 64))) ∧
      (∀ j, r.src = 0x32#8 → regionOf a.toNat = .stack j → exec (.breakerReport b r) s =
        s.gives ((s.capture b { r with suites := [s.suiteOfStack j] }).loseSet (a.toNat / 64)))) ∧
    (∀ r, (s.breakerUp b = false ∨ knownSource r.src.toNat = false) → exec (.breakerReport b r) s = .next s) ∧
    (∀ r, bitOf (s.regN (paBreaker b 0)) (srcClass r.src.toNat) = false → tget 0 s.backlog b < 64 →
      s.regN (paBreaker b (0x200 + 0x10 * srcClass r.src.toNat)) = 0 →
      (s.capture b r).reg (paCapture b (srcClass r.src.toNat)) = BitVec.ofNat 64 (capA r) ∧
      (s.capture b r).reg (paCapture b (srcClass r.src.toNat) + 8) = BitVec.ofNat 64 (capM r) ∧
      (s.capture b r).reg (paCapture b (srcClass r.src.toNat) + 16) = BitVec.ofNat 64 s.house ∧
      (s.capture b r).reg (paCapture b (srcClass r.src.toNat) + 24) = 0 ∧
      bitOf ((s.capture b r).regN (paBreaker b 0)) (srcClass r.src.toNat) = true ∧
      (s.capture b r).todo = s.todo ++ (if 2 ≤ srcClass r.src.toNat then [(b, r)] else []) ∧ (s.capture b r).mem = s.mem) ∧
    (∀ r, bitOf (s.regN (paBreaker b 0)) (srcClass r.src.toNat) = true → (tget 0 s.backlog b < 64 ∨ srcClass r.src.toNat ≠ 0) →
      (s.capture b r).reg (paCapture b (srcClass r.src.toNat)) = s.reg (paCapture b (srcClass r.src.toNat)) ∧
      (s.capture b r).reg (paCapture b (srcClass r.src.toNat) + 24) =
        BitVec.ofNat 64 (satInc 32 (s.regN (paCapture b (srcClass r.src.toNat) + 24)) 1)) ∧
    (∀ m, s.breakerUp b = true → exec (.bstatClear b m) s = s.gives (s.clearBstat b m.toNat)) ∧
    (∀ m, s.breakerUp b = false → exec (.bstatClear b m) s = .next s ∧ exec (.bdropRead b) s = .next s) ∧
    (∀ c, (c = 1 ∨ c = 2 ∨ c = 4) → bitOf (s.regN (paBreaker b 0)) c = true →
      bitOf ((s.clearClass b c).regN (paBreaker b 0)) c = false ∧ (s.clearClass b c).regF (paCapture b c) 63 63 = 0 ∧
      (s.clearClass b c).reg (paCapture b c + 24) = 0 ∧ (s.clearClass b c).mem = s.mem) ∧
    (∀ c, bitOf (s.regN (paBreaker b 0)) c = false → s.clearClass b c = s) ∧
    (∀ n, b < 4 → s.levels b 3 = [(n, { plainReport 0x30 (agentNo b 0x0C n) with suites := s.levelSuites n (s.hallSuites n) })] →
      s.reportLevels b 3 = (s.levelActed n).capture b { plainReport 0x30 (agentNo b 0x0C n) with suites := s.levelSuites n (s.hallSuites n) }) ∧
    (s.breakerUp b = true → ∃ t, exec (.bdropRead b) s = .next t ∧ t.regF (paBreaker b 8) 31 0 = 0 ∧
      t.out = .regRead (paBreaker b 8) (s.reg (paBreaker b 8)) :: s.out ∧ t.mem = s.mem ∧ t.od = s.od) ∧
    (∀ k v, k < 8 → s.breakerUp b = true → badInjection b v.toNat = true →
      exec (.injctlWrite b k v) s = .next (s.setRegF (paBreaker b 0) 8 8 1)) ∧
    (∀ k v, k < 8 → s.breakerUp b = true → badInjection b v.toNat = false → ∃ t, exec (.injctlWrite b k v) s = .next t ∧
      t.regF (paBreaker b (0x100 + 0x20 * k)) 63 48 = fld v.toNat 63 48 ∧
      t.regF (paBreaker b (0x100 + 0x20 * k)) 45 40 = fld v.toNat 45 40 ∧
      t.regF (paBreaker b (0x100 + 0x20 * k)) 15 0 = fld v.toNat 15 0 ∧ t.mem = s.mem ∧ t.od = s.od) ∧
    (s.firmware = true → ∃ t, exec .c4RecordClear s = .next t ∧ (∀ k, 1 ≤ k → k ≤ 4 → t.ent 0x5020 k = 0) ∧
      .c4 ∉ t.porch.alerts ∧ t.mem = s.mem ∧ t.regs = s.regs) ∧
    (s.firmware = false → exec .c4RecordClear s = .next s)

/-! ### The block as a whole -/

/-- A step runs the command at the front of the queue with the queue's rest. On an empty queue the block idles and house time
moves on by one nanosecond: that is the model's own choice (log entry 2). -/
def Obligations.StepTakesFront : Prop :=
  (∀ (s : State) (c : Instr) (rest : List Instr), s.pending = c :: rest → step s = exec c { s with pending := rest }) ∧
  (∀ s : State, s.pending = [] → step s = .next s.tick ∧ s.tick.house = (s.house + 1) % 2 ^ 64 ∧ s.tick.mem = s.mem ∧
    s.tick.regs = s.regs ∧ s.tick.od = s.od ∧ s.tick.pending = [])

/-- Every command that names units the module has answers a next state, keeps the queue of waiting commands, and leaves no
class action owed; every other faults by name. -/
def Obligations.EveryCommandAnswers : Prop :=
  ∀ (i : Instr) (s : State),
    (i.wf = true → ∃ t, exec i s = .next t ∧ t.pending = s.pending ∧ t.Settled) ∧
    (i.wf = false → exec i s = .fault .noSuchUnit)

/-- That no class action is owed is kept by every step (R415), and a step never lengthens the queue. -/
def Obligations.NothingOwed : Prop :=
  ∀ s t : State, s.Settled → step s = .next t → t.Settled ∧ t.pending = s.pending.tail

/-- A queue of commands that each name units the module has is wholly performed, one command a step, and then is empty. -/
def Obligations.QueueDrains : Prop :=
  ∀ s : State, s.Settled → (∀ i ∈ s.pending, i.wf = true) →
    (∃ t : State, Host.Core.run core s.pending.length s = .next t ∧ t.pending = [] ∧ t.Settled) ∧
    (∀ n, n ≤ s.pending.length → ∃ t : State, Host.Core.run core n s = .next t ∧ t.pending = s.pending.drop n)

/-- The state after reset is the module at boot status READY: every register and every dictionary entry but the boot status, the
step number, the role and the hallway states at its power-up default, the dies up, and nothing in any queue. That reset is the end of
a power-up, and that unlisted memory reads 0, are the model's own choices (log entries 6 and 9). -/
def Obligations.ResetState : Prop :=
  State.reset.Settled ∧ State.reset.pending = [] ∧ State.reset.on = true ∧ State.reset.ent 0x1010 1 = 4 ∧
  State.reset.layout = 0 ∧ (∀ d, d < 4 → State.reset.dieUp d = true) ∧ (∀ n, n < 8 → State.reset.ent (0x5200 + n) 1 = 2) ∧
  State.reset.stepNo = State.reset.house / 1000000 ∧
  (∀ i k, dictKey i k ∉ State.reset.od.map Prod.fst → State.reset.ent i k = dictDefault i k) ∧
  (∀ i k, State.reset.blob i k = dictBytes i k) ∧ (∀ pa, State.reset.reg pa = regReset pa) ∧
  Memory.wf State.reset.mem = true ∧ (∀ a, State.reset.byte a = 0#8) ∧
  (∀ w, (State.reset.wing w).cmds = [] ∧ (State.reset.wing w).held = []) ∧
  (∀ w l, State.reset.latch w l = 0) ∧ (∀ m, (State.reset.pair m).up = false) ∧
  State.reset.ctl.slots = [] ∧ State.reset.mgmt.sessions = [] ∧ State.reset.out = []
end

