-- ==== Sys2Proof/Laws/State.lean ====
section
/-! SUPPORT. What each update of a part of the state leaves alone: one lemma per update and field, true by unfolding. -/

namespace Sys2Proof.Machine

variable (s : State)

@[simp] theorem State.setRoom_pending (g : Nat) (r : Room) : (s.setRoom g r).pending = s.pending := by cases s; rfl
@[simp] theorem State.setRoom_house (g : Nat) (r : Room) : (s.setRoom g r).house = s.house := by cases s; rfl
@[simp] theorem State.setRoom_free (g : Nat) (r : Room) : (s.setRoom g r).free = s.free := by cases s; rfl
@[simp] theorem State.setRoom_porch (g : Nat) (r : Room) : (s.setRoom g r).porch = s.porch := by cases s; rfl
@[simp] theorem State.setRoom_regs (g : Nat) (r : Room) : (s.setRoom g r).regs = s.regs := by cases s; rfl
@[simp] theorem State.setRoom_od (g : Nat) (r : Room) : (s.setRoom g r).od = s.od := by cases s; rfl
@[simp] theorem State.setRoom_blobs (g : Nat) (r : Room) : (s.setRoom g r).blobs = s.blobs := by cases s; rfl
@[simp] theorem State.setRoom_mem (g : Nat) (r : Room) : (s.setRoom g r).mem = s.mem := by cases s; rfl
@[simp] theorem State.setRoom_code (g : Nat) (r : Room) : (s.setRoom g r).code = s.code := by cases s; rfl
@[simp] theorem State.setRoom_wings (g : Nat) (r : Room) : (s.setRoom g r).wings = s.wings := by cases s; rfl
@[simp] theorem State.setRoom_dies (g : Nat) (r : Room) : (s.setRoom g r).dies = s.dies := by cases s; rfl
@[simp] theorem State.setRoom_caches (g : Nat) (r : Room) : (s.setRoom g r).caches = s.caches := by cases s; rfl
@[simp] theorem State.setRoom_dirs (g : Nat) (r : Room) : (s.setRoom g r).dirs = s.dirs := by cases s; rfl
@[simp] theorem State.setRoom_dirAge (g : Nat) (r : Room) : (s.setRoom g r).dirAge = s.dirAge := by cases s; rfl
@[simp] theorem State.setRoom_txns (g : Nat) (r : Room) : (s.setRoom g r).txns = s.txns := by cases s; rfl
@[simp] theorem State.setRoom_lineQ (g : Nat) (r : Room) : (s.setRoom g r).lineQ = s.lineQ := by cases s; rfl
@[simp] theorem State.setRoom_net (g : Nat) (r : Room) : (s.setRoom g r).net = s.net := by cases s; rfl
@[simp] theorem State.setRoom_rlines (g : Nat) (r : Room) : (s.setRoom g r).rlines = s.rlines := by cases s; rfl
@[simp] theorem State.setRoom_later (g : Nat) (r : Room) : (s.setRoom g r).later = s.later := by cases s; rfl
@[simp] theorem State.setRoom_stk (g : Nat) (r : Room) : (s.setRoom g r).stk = s.stk := by cases s; rfl
@[simp] theorem State.setRoom_tier (g : Nat) (r : Room) : (s.setRoom g r).tier = s.tier := by cases s; rfl
@[simp] theorem State.setRoom_ctxs (g : Nat) (r : Room) : (s.setRoom g r).ctxs = s.ctxs := by cases s; rfl
@[simp] theorem State.setRoom_faults (g : Nat) (r : Room) : (s.setRoom g r).faults = s.faults := by cases s; rfl
@[simp] theorem State.setRoom_unfiled (g : Nat) (r : Room) : (s.setRoom g r).unfiled = s.unfiled := by cases s; rfl
@[simp] theorem State.setRoom_hatches (g : Nat) (r : Room) : (s.setRoom g r).hatches = s.hatches := by cases s; rfl
@[simp] theorem State.setRoom_pairs (g : Nat) (r : Room) : (s.setRoom g r).pairs = s.pairs := by cases s; rfl
@[simp] theorem State.setRoom_reads (g : Nat) (r : Room) : (s.setRoom g r).reads = s.reads := by cases s; rfl
@[simp] theorem State.setRoom_backlog (g : Nat) (r : Room) : (s.setRoom g r).backlog = s.backlog := by cases s; rfl
@[simp] theorem State.setRoom_epochs (g : Nat) (r : Room) : (s.setRoom g r).epochs = s.epochs := by cases s; rfl
@[simp] theorem State.setRoom_modes (g : Nat) (r : Room) : (s.setRoom g r).modes = s.modes := by cases s; rfl
@[simp] theorem State.setRoom_fleet (g : Nat) (r : Room) : (s.setRoom g r).fleet = s.fleet := by cases s; rfl
@[simp] theorem State.setRoom_ctl (g : Nat) (r : Room) : (s.setRoom g r).ctl = s.ctl := by cases s; rfl
@[simp] theorem State.setRoom_mgmt (g : Nat) (r : Room) : (s.setRoom g r).mgmt = s.mgmt := by cases s; rfl
@[simp] theorem State.setRoom_cores (g : Nat) (r : Room) : (s.setRoom g r).cores = s.cores := by cases s; rfl
@[simp] theorem State.setRoom_resv (g : Nat) (r : Room) : (s.setRoom g r).resv = s.resv := by cases s; rfl
@[simp] theorem State.setRoom_todo (g : Nat) (r : Room) : (s.setRoom g r).todo = s.todo := by cases s; rfl
@[simp] theorem State.setRoom_out (g : Nat) (r : Room) : (s.setRoom g r).out = s.out := by cases s; rfl

@[simp] theorem State.setWing_pending (w : Nat) (v : Wing) : (s.setWing w v).pending = s.pending := by cases s; rfl
@[simp] theorem State.setWing_house (w : Nat) (v : Wing) : (s.setWing w v).house = s.house := by cases s; rfl
@[simp] theorem State.setWing_free (w : Nat) (v : Wing) : (s.setWing w v).free = s.free := by cases s; rfl
@[simp] theorem State.setWing_porch (w : Nat) (v : Wing) : (s.setWing w v).porch = s.porch := by cases s; rfl
@[simp] theorem State.setWing_regs (w : Nat) (v : Wing) : (s.setWing w v).regs = s.regs := by cases s; rfl
@[simp] theorem State.setWing_od (w : Nat) (v : Wing) : (s.setWing w v).od = s.od := by cases s; rfl
@[simp] theorem State.setWing_blobs (w : Nat) (v : Wing) : (s.setWing w v).blobs = s.blobs := by cases s; rfl
@[simp] theorem State.setWing_mem (w : Nat) (v : Wing) : (s.setWing w v).mem = s.mem := by cases s; rfl
@[simp] theorem State.setWing_code (w : Nat) (v : Wing) : (s.setWing w v).code = s.code := by cases s; rfl
@[simp] theorem State.setWing_rooms (w : Nat) (v : Wing) : (s.setWing w v).rooms = s.rooms := by cases s; rfl
@[simp] theorem State.setWing_dies (w : Nat) (v : Wing) : (s.setWing w v).dies = s.dies := by cases s; rfl
@[simp] theorem State.setWing_caches (w : Nat) (v : Wing) : (s.setWing w v).caches = s.caches := by cases s; rfl
@[simp] theorem State.setWing_dirs (w : Nat) (v : Wing) : (s.setWing w v).dirs = s.dirs := by cases s; rfl
@[simp] theorem State.setWing_dirAge (w : Nat) (v : Wing) : (s.setWing w v).dirAge = s.dirAge := by cases s; rfl
@[simp] theorem State.setWing_txns (w : Nat) (v : Wing) : (s.setWing w v).txns = s.txns := by cases s; rfl
@[simp] theorem State.setWing_lineQ (w : Nat) (v : Wing) : (s.setWing w v).lineQ = s.lineQ := by cases s; rfl
@[simp] theorem State.setWing_net (w : Nat) (v : Wing) : (s.setWing w v).net = s.net := by cases s; rfl
@[simp] theorem State.setWing_rlines (w : Nat) (v : Wing) : (s.setWing w v).rlines = s.rlines := by cases s; rfl
@[simp] theorem State.setWing_later (w : Nat) (v : Wing) : (s.setWing w v).later = s.later := by cases s; rfl
@[simp] theorem State.setWing_stk (w : Nat) (v : Wing) : (s.setWing w v).stk = s.stk := by cases s; rfl
@[simp] theorem State.setWing_tier (w : Nat) (v : Wing) : (s.setWing w v).tier = s.tier := by cases s; rfl
@[simp] theorem State.setWing_ctxs (w : Nat) (v : Wing) : (s.setWing w v).ctxs = s.ctxs := by cases s; rfl
@[simp] theorem State.setWing_faults (w : Nat) (v : Wing) : (s.setWing w v).faults = s.faults := by cases s; rfl
@[simp] theorem State.setWing_unfiled (w : Nat) (v : Wing) : (s.setWing w v).unfiled = s.unfiled := by cases s; rfl
@[simp] theorem State.setWing_hatches (w : Nat) (v : Wing) : (s.setWing w v).hatches = s.hatches := by cases s; rfl
@[simp] theorem State.setWing_pairs (w : Nat) (v : Wing) : (s.setWing w v).pairs = s.pairs := by cases s; rfl
@[simp] theorem State.setWing_reads (w : Nat) (v : Wing) : (s.setWing w v).reads = s.reads := by cases s; rfl
@[simp] theorem State.setWing_backlog (w : Nat) (v : Wing) : (s.setWing w v).backlog = s.backlog := by cases s; rfl
@[simp] theorem State.setWing_epochs (w : Nat) (v : Wing) : (s.setWing w v).epochs = s.epochs := by cases s; rfl
@[simp] theorem State.setWing_modes (w : Nat) (v : Wing) : (s.setWing w v).modes = s.modes := by cases s; rfl
@[simp] theorem State.setWing_fleet (w : Nat) (v : Wing) : (s.setWing w v).fleet = s.fleet := by cases s; rfl
@[simp] theorem State.setWing_ctl (w : Nat) (v : Wing) : (s.setWing w v).ctl = s.ctl := by cases s; rfl
@[simp] theorem State.setWing_mgmt (w : Nat) (v : Wing) : (s.setWing w v).mgmt = s.mgmt := by cases s; rfl
@[simp] theorem State.setWing_cores (w : Nat) (v : Wing) : (s.setWing w v).cores = s.cores := by cases s; rfl
@[simp] theorem State.setWing_resv (w : Nat) (v : Wing) : (s.setWing w v).resv = s.resv := by cases s; rfl
@[simp] theorem State.setWing_todo (w : Nat) (v : Wing) : (s.setWing w v).todo = s.todo := by cases s; rfl
@[simp] theorem State.setWing_out (w : Nat) (v : Wing) : (s.setWing w v).out = s.out := by cases s; rfl

@[simp] theorem State.setDie_pending (d : Nat) (v : Die) : (s.setDie d v).pending = s.pending := by cases s; rfl
@[simp] theorem State.setDie_house (d : Nat) (v : Die) : (s.setDie d v).house = s.house := by cases s; rfl
@[simp] theorem State.setDie_free (d : Nat) (v : Die) : (s.setDie d v).free = s.free := by cases s; rfl
@[simp] theorem State.setDie_porch (d : Nat) (v : Die) : (s.setDie d v).porch = s.porch := by cases s; rfl
@[simp] theorem State.setDie_regs (d : Nat) (v : Die) : (s.setDie d v).regs = s.regs := by cases s; rfl
@[simp] theorem State.setDie_od (d : Nat) (v : Die) : (s.setDie d v).od = s.od := by cases s; rfl
@[simp] theorem State.setDie_blobs (d : Nat) (v : Die) : (s.setDie d v).blobs = s.blobs := by cases s; rfl
@[simp] theorem State.setDie_mem (d : Nat) (v : Die) : (s.setDie d v).mem = s.mem := by cases s; rfl
@[simp] theorem State.setDie_code (d : Nat) (v : Die) : (s.setDie d v).code = s.code := by cases s; rfl
@[simp] theorem State.setDie_rooms (d : Nat) (v : Die) : (s.setDie d v).rooms = s.rooms := by cases s; rfl
@[simp] theorem State.setDie_wings (d : Nat) (v : Die) : (s.setDie d v).wings = s.wings := by cases s; rfl
@[simp] theorem State.setDie_caches (d : Nat) (v : Die) : (s.setDie d v).caches = s.caches := by cases s; rfl
@[simp] theorem State.setDie_dirs (d : Nat) (v : Die) : (s.setDie d v).dirs = s.dirs := by cases s; rfl
@[simp] theorem State.setDie_dirAge (d : Nat) (v : Die) : (s.setDie d v).dirAge = s.dirAge := by cases s; rfl
@[simp] theorem State.setDie_txns (d : Nat) (v : Die) : (s.setDie d v).txns = s.txns := by cases s; rfl
@[simp] theorem State.setDie_lineQ (d : Nat) (v : Die) : (s.setDie d v).lineQ = s.lineQ := by cases s; rfl
@[simp] theorem State.setDie_net (d : Nat) (v : Die) : (s.setDie d v).net = s.net := by cases s; rfl
@[simp] theorem State.setDie_rlines (d : Nat) (v : Die) : (s.setDie d v).rlines = s.rlines := by cases s; rfl
@[simp] theorem State.setDie_later (d : Nat) (v : Die) : (s.setDie d v).later = s.later := by cases s; rfl
@[simp] theorem State.setDie_stk (d : Nat) (v : Die) : (s.setDie d v).stk = s.stk := by cases s; rfl
@[simp] theorem State.setDie_tier (d : Nat) (v : Die) : (s.setDie d v).tier = s.tier := by cases s; rfl
@[simp] theorem State.setDie_ctxs (d : Nat) (v : Die) : (s.setDie d v).ctxs = s.ctxs := by cases s; rfl
@[simp] theorem State.setDie_faults (d : Nat) (v : Die) : (s.setDie d v).faults = s.faults := by cases s; rfl
@[simp] theorem State.setDie_unfiled (d : Nat) (v : Die) : (s.setDie d v).unfiled = s.unfiled := by cases s; rfl
@[simp] theorem State.setDie_hatches (d : Nat) (v : Die) : (s.setDie d v).hatches = s.hatches := by cases s; rfl
@[simp] theorem State.setDie_pairs (d : Nat) (v : Die) : (s.setDie d v).pairs = s.pairs := by cases s; rfl
@[simp] theorem State.setDie_reads (d : Nat) (v : Die) : (s.setDie d v).reads = s.reads := by cases s; rfl
@[simp] theorem State.setDie_backlog (d : Nat) (v : Die) : (s.setDie d v).backlog = s.backlog := by cases s; rfl
@[simp] theorem State.setDie_epochs (d : Nat) (v : Die) : (s.setDie d v).epochs = s.epochs := by cases s; rfl
@[simp] theorem State.setDie_modes (d : Nat) (v : Die) : (s.setDie d v).modes = s.modes := by cases s; rfl
@[simp] theorem State.setDie_fleet (d : Nat) (v : Die) : (s.setDie d v).fleet = s.fleet := by cases s; rfl
@[simp] theorem State.setDie_ctl (d : Nat) (v : Die) : (s.setDie d v).ctl = s.ctl := by cases s; rfl
@[simp] theorem State.setDie_mgmt (d : Nat) (v : Die) : (s.setDie d v).mgmt = s.mgmt := by cases s; rfl
@[simp] theorem State.setDie_cores (d : Nat) (v : Die) : (s.setDie d v).cores = s.cores := by cases s; rfl
@[simp] theorem State.setDie_resv (d : Nat) (v : Die) : (s.setDie d v).resv = s.resv := by cases s; rfl
@[simp] theorem State.setDie_todo (d : Nat) (v : Die) : (s.setDie d v).todo = s.todo := by cases s; rfl
@[simp] theorem State.setDie_out (d : Nat) (v : Die) : (s.setDie d v).out = s.out := by cases s; rfl

@[simp] theorem State.setCache_pending (a : Nat) (v : Cache) : (s.setCache a v).pending = s.pending := by cases s; rfl
@[simp] theorem State.setCache_house (a : Nat) (v : Cache) : (s.setCache a v).house = s.house := by cases s; rfl
@[simp] theorem State.setCache_free (a : Nat) (v : Cache) : (s.setCache a v).free = s.free := by cases s; rfl
@[simp] theorem State.setCache_porch (a : Nat) (v : Cache) : (s.setCache a v).porch = s.porch := by cases s; rfl
@[simp] theorem State.setCache_regs (a : Nat) (v : Cache) : (s.setCache a v).regs = s.regs := by cases s; rfl
@[simp] theorem State.setCache_od (a : Nat) (v : Cache) : (s.setCache a v).od = s.od := by cases s; rfl
@[simp] theorem State.setCache_blobs (a : Nat) (v : Cache) : (s.setCache a v).blobs = s.blobs := by cases s; rfl
@[simp] theorem State.setCache_mem (a : Nat) (v : Cache) : (s.setCache a v).mem = s.mem := by cases s; rfl
@[simp] theorem State.setCache_code (a : Nat) (v : Cache) : (s.setCache a v).code = s.code := by cases s; rfl
@[simp] theorem State.setCache_rooms (a : Nat) (v : Cache) : (s.setCache a v).rooms = s.rooms := by cases s; rfl
@[simp] theorem State.setCache_wings (a : Nat) (v : Cache) : (s.setCache a v).wings = s.wings := by cases s; rfl
@[simp] theorem State.setCache_dies (a : Nat) (v : Cache) : (s.setCache a v).dies = s.dies := by cases s; rfl
@[simp] theorem State.setCache_dirs (a : Nat) (v : Cache) : (s.setCache a v).dirs = s.dirs := by cases s; rfl
@[simp] theorem State.setCache_dirAge (a : Nat) (v : Cache) : (s.setCache a v).dirAge = s.dirAge := by cases s; rfl
@[simp] theorem State.setCache_txns (a : Nat) (v : Cache) : (s.setCache a v).txns = s.txns := by cases s; rfl
@[simp] theorem State.setCache_lineQ (a : Nat) (v : Cache) : (s.setCache a v).lineQ = s.lineQ := by cases s; rfl
@[simp] theorem State.setCache_net (a : Nat) (v : Cache) : (s.setCache a v).net = s.net := by cases s; rfl
@[simp] theorem State.setCache_rlines (a : Nat) (v : Cache) : (s.setCache a v).rlines = s.rlines := by cases s; rfl
@[simp] theorem State.setCache_later (a : Nat) (v : Cache) : (s.setCache a v).later = s.later := by cases s; rfl
@[simp] theorem State.setCache_stk (a : Nat) (v : Cache) : (s.setCache a v).stk = s.stk := by cases s; rfl
@[simp] theorem State.setCache_tier (a : Nat) (v : Cache) : (s.setCache a v).tier = s.tier := by cases s; rfl
@[simp] theorem State.setCache_ctxs (a : Nat) (v : Cache) : (s.setCache a v).ctxs = s.ctxs := by cases s; rfl
@[simp] theorem State.setCache_faults (a : Nat) (v : Cache) : (s.setCache a v).faults = s.faults := by cases s; rfl
@[simp] theorem State.setCache_unfiled (a : Nat) (v : Cache) : (s.setCache a v).unfiled = s.unfiled := by cases s; rfl
@[simp] theorem State.setCache_hatches (a : Nat) (v : Cache) : (s.setCache a v).hatches = s.hatches := by cases s; rfl
@[simp] theorem State.setCache_pairs (a : Nat) (v : Cache) : (s.setCache a v).pairs = s.pairs := by cases s; rfl
@[simp] theorem State.setCache_reads (a : Nat) (v : Cache) : (s.setCache a v).reads = s.reads := by cases s; rfl
@[simp] theorem State.setCache_backlog (a : Nat) (v : Cache) : (s.setCache a v).backlog = s.backlog := by cases s; rfl
@[simp] theorem State.setCache_epochs (a : Nat) (v : Cache) : (s.setCache a v).epochs = s.epochs := by cases s; rfl
@[simp] theorem State.setCache_modes (a : Nat) (v : Cache) : (s.setCache a v).modes = s.modes := by cases s; rfl
@[simp] theorem State.setCache_fleet (a : Nat) (v : Cache) : (s.setCache a v).fleet = s.fleet := by cases s; rfl
@[simp] theorem State.setCache_ctl (a : Nat) (v : Cache) : (s.setCache a v).ctl = s.ctl := by cases s; rfl
@[simp] theorem State.setCache_mgmt (a : Nat) (v : Cache) : (s.setCache a v).mgmt = s.mgmt := by cases s; rfl
@[simp] theorem State.setCache_cores (a : Nat) (v : Cache) : (s.setCache a v).cores = s.cores := by cases s; rfl
@[simp] theorem State.setCache_resv (a : Nat) (v : Cache) : (s.setCache a v).resv = s.resv := by cases s; rfl
@[simp] theorem State.setCache_todo (a : Nat) (v : Cache) : (s.setCache a v).todo = s.todo := by cases s; rfl
@[simp] theorem State.setCache_out (a : Nat) (v : Cache) : (s.setCache a v).out = s.out := by cases s; rfl

@[simp] theorem State.setStack_pending (j : Nat) (v : Stack) : (s.setStack j v).pending = s.pending := by cases s; rfl
@[simp] theorem State.setStack_house (j : Nat) (v : Stack) : (s.setStack j v).house = s.house := by cases s; rfl
@[simp] theorem State.setStack_free (j : Nat) (v : Stack) : (s.setStack j v).free = s.free := by cases s; rfl
@[simp] theorem State.setStack_porch (j : Nat) (v : Stack) : (s.setStack j v).porch = s.porch := by cases s; rfl
@[simp] theorem State.setStack_regs (j : Nat) (v : Stack) : (s.setStack j v).regs = s.regs := by cases s; rfl
@[simp] theorem State.setStack_od (j : Nat) (v : Stack) : (s.setStack j v).od = s.od := by cases s; rfl
@[simp] theorem State.setStack_blobs (j : Nat) (v : Stack) : (s.setStack j v).blobs = s.blobs := by cases s; rfl
@[simp] theorem State.setStack_mem (j : Nat) (v : Stack) : (s.setStack j v).mem = s.mem := by cases s; rfl
@[simp] theorem State.setStack_code (j : Nat) (v : Stack) : (s.setStack j v).code = s.code := by cases s; rfl
@[simp] theorem State.setStack_rooms (j : Nat) (v : Stack) : (s.setStack j v).rooms = s.rooms := by cases s; rfl
@[simp] theorem State.setStack_wings (j : Nat) (v : Stack) : (s.setStack j v).wings = s.wings := by cases s; rfl
@[simp] theorem State.setStack_dies (j : Nat) (v : Stack) : (s.setStack j v).dies = s.dies := by cases s; rfl
@[simp] theorem State.setStack_caches (j : Nat) (v : Stack) : (s.setStack j v).caches = s.caches := by cases s; rfl
@[simp] theorem State.setStack_dirs (j : Nat) (v : Stack) : (s.setStack j v).dirs = s.dirs := by cases s; rfl
@[simp] theorem State.setStack_dirAge (j : Nat) (v : Stack) : (s.setStack j v).dirAge = s.dirAge := by cases s; rfl
@[simp] theorem State.setStack_txns (j : Nat) (v : Stack) : (s.setStack j v).txns = s.txns := by cases s; rfl
@[simp] theorem State.setStack_lineQ (j : Nat) (v : Stack) : (s.setStack j v).lineQ = s.lineQ := by cases s; rfl
@[simp] theorem State.setStack_net (j : Nat) (v : Stack) : (s.setStack j v).net = s.net := by cases s; rfl
@[simp] theorem State.setStack_rlines (j : Nat) (v : Stack) : (s.setStack j v).rlines = s.rlines := by cases s; rfl
@[simp] theorem State.setStack_later (j : Nat) (v : Stack) : (s.setStack j v).later = s.later := by cases s; rfl
@[simp] theorem State.setStack_tier (j : Nat) (v : Stack) : (s.setStack j v).tier = s.tier := by cases s; rfl
@[simp] theorem State.setStack_ctxs (j : Nat) (v : Stack) : (s.setStack j v).ctxs = s.ctxs := by cases s; rfl
@[simp] theorem State.setStack_faults (j : Nat) (v : Stack) : (s.setStack j v).faults = s.faults := by cases s; rfl
@[simp] theorem State.setStack_unfiled (j : Nat) (v : Stack) : (s.setStack j v).unfiled = s.unfiled := by cases s; rfl
@[simp] theorem State.setStack_hatches (j : Nat) (v : Stack) : (s.setStack j v).hatches = s.hatches := by cases s; rfl
@[simp] theorem State.setStack_pairs (j : Nat) (v : Stack) : (s.setStack j v).pairs = s.pairs := by cases s; rfl
@[simp] theorem State.setStack_reads (j : Nat) (v : Stack) : (s.setStack j v).reads = s.reads := by cases s; rfl
@[simp] theorem State.setStack_backlog (j : Nat) (v : Stack) : (s.setStack j v).backlog = s.backlog := by cases s; rfl
@[simp] theorem State.setStack_epochs (j : Nat) (v : Stack) : (s.setStack j v).epochs = s.epochs := by cases s; rfl
@[simp] theorem State.setStack_modes (j : Nat) (v : Stack) : (s.setStack j v).modes = s.modes := by cases s; rfl
@[simp] theorem State.setStack_fleet (j : Nat) (v : Stack) : (s.setStack j v).fleet = s.fleet := by cases s; rfl
@[simp] theorem State.setStack_ctl (j : Nat) (v : Stack) : (s.setStack j v).ctl = s.ctl := by cases s; rfl
@[simp] theorem State.setStack_mgmt (j : Nat) (v : Stack) : (s.setStack j v).mgmt = s.mgmt := by cases s; rfl
@[simp] theorem State.setStack_cores (j : Nat) (v : Stack) : (s.setStack j v).cores = s.cores := by cases s; rfl
@[simp] theorem State.setStack_resv (j : Nat) (v : Stack) : (s.setStack j v).resv = s.resv := by cases s; rfl
@[simp] theorem State.setStack_todo (j : Nat) (v : Stack) : (s.setStack j v).todo = s.todo := by cases s; rfl
@[simp] theorem State.setStack_out (j : Nat) (v : Stack) : (s.setStack j v).out = s.out := by cases s; rfl

@[simp] theorem State.setCtx_pending (c : Nat) (v : Context) : (s.setCtx c v).pending = s.pending := by cases s; rfl
@[simp] theorem State.setCtx_house (c : Nat) (v : Context) : (s.setCtx c v).house = s.house := by cases s; rfl
@[simp] theorem State.setCtx_free (c : Nat) (v : Context) : (s.setCtx c v).free = s.free := by cases s; rfl
@[simp] theorem State.setCtx_porch (c : Nat) (v : Context) : (s.setCtx c v).porch = s.porch := by cases s; rfl
@[simp] theorem State.setCtx_regs (c : Nat) (v : Context) : (s.setCtx c v).regs = s.regs := by cases s; rfl
@[simp] theorem State.setCtx_od (c : Nat) (v : Context) : (s.setCtx c v).od = s.od := by cases s; rfl
@[simp] theorem State.setCtx_blobs (c : Nat) (v : Context) : (s.setCtx c v).blobs = s.blobs := by cases s; rfl
@[simp] theorem State.setCtx_mem (c : Nat) (v : Context) : (s.setCtx c v).mem = s.mem := by cases s; rfl
@[simp] theorem State.setCtx_code (c : Nat) (v : Context) : (s.setCtx c v).code = s.code := by cases s; rfl
@[simp] theorem State.setCtx_rooms (c : Nat) (v : Context) : (s.setCtx c v).rooms = s.rooms := by cases s; rfl
@[simp] theorem State.setCtx_wings (c : Nat) (v : Context) : (s.setCtx c v).wings = s.wings := by cases s; rfl
@[simp] theorem State.setCtx_dies (c : Nat) (v : Context) : (s.setCtx c v).dies = s.dies := by cases s; rfl
@[simp] theorem State.setCtx_caches (c : Nat) (v : Context) : (s.setCtx c v).caches = s.caches := by cases s; rfl
@[simp] theorem State.setCtx_dirs (c : Nat) (v : Context) : (s.setCtx c v).dirs = s.dirs := by cases s; rfl
@[simp] theorem State.setCtx_dirAge (c : Nat) (v : Context) : (s.setCtx c v).dirAge = s.dirAge := by cases s; rfl
@[simp] theorem State.setCtx_txns (c : Nat) (v : Context) : (s.setCtx c v).txns = s.txns := by cases s; rfl
@[simp] theorem State.setCtx_lineQ (c : Nat) (v : Context) : (s.setCtx c v).lineQ = s.lineQ := by cases s; rfl
@[simp] theorem State.setCtx_net (c : Nat) (v : Context) : (s.setCtx c v).net = s.net := by cases s; rfl
@[simp] theorem State.setCtx_rlines (c : Nat) (v : Context) : (s.setCtx c v).rlines = s.rlines := by cases s; rfl
@[simp] theorem State.setCtx_later (c : Nat) (v : Context) : (s.setCtx c v).later = s.later := by cases s; rfl
@[simp] theorem State.setCtx_stk (c : Nat) (v : Context) : (s.setCtx c v).stk = s.stk := by cases s; rfl
@[simp] theorem State.setCtx_tier (c : Nat) (v : Context) : (s.setCtx c v).tier = s.tier := by cases s; rfl
@[simp] theorem State.setCtx_faults (c : Nat) (v : Context) : (s.setCtx c v).faults = s.faults := by cases s; rfl
@[simp] theorem State.setCtx_unfiled (c : Nat) (v : Context) : (s.setCtx c v).unfiled = s.unfiled := by cases s; rfl
@[simp] theorem State.setCtx_hatches (c : Nat) (v : Context) : (s.setCtx c v).hatches = s.hatches := by cases s; rfl
@[simp] theorem State.setCtx_pairs (c : Nat) (v : Context) : (s.setCtx c v).pairs = s.pairs := by cases s; rfl
@[simp] theorem State.setCtx_reads (c : Nat) (v : Context) : (s.setCtx c v).reads = s.reads := by cases s; rfl
@[simp] theorem State.setCtx_backlog (c : Nat) (v : Context) : (s.setCtx c v).backlog = s.backlog := by cases s; rfl
@[simp] theorem State.setCtx_epochs (c : Nat) (v : Context) : (s.setCtx c v).epochs = s.epochs := by cases s; rfl
@[simp] theorem State.setCtx_modes (c : Nat) (v : Context) : (s.setCtx c v).modes = s.modes := by cases s; rfl
@[simp] theorem State.setCtx_fleet (c : Nat) (v : Context) : (s.setCtx c v).fleet = s.fleet := by cases s; rfl
@[simp] theorem State.setCtx_ctl (c : Nat) (v : Context) : (s.setCtx c v).ctl = s.ctl := by cases s; rfl
@[simp] theorem State.setCtx_mgmt (c : Nat) (v : Context) : (s.setCtx c v).mgmt = s.mgmt := by cases s; rfl
@[simp] theorem State.setCtx_cores (c : Nat) (v : Context) : (s.setCtx c v).cores = s.cores := by cases s; rfl
@[simp] theorem State.setCtx_resv (c : Nat) (v : Context) : (s.setCtx c v).resv = s.resv := by cases s; rfl
@[simp] theorem State.setCtx_todo (c : Nat) (v : Context) : (s.setCtx c v).todo = s.todo := by cases s; rfl
@[simp] theorem State.setCtx_out (c : Nat) (v : Context) : (s.setCtx c v).out = s.out := by cases s; rfl

@[simp] theorem State.setPair_pending (m : Nat) (v : Pair) : (s.setPair m v).pending = s.pending := by cases s; rfl
@[simp] theorem State.setPair_house (m : Nat) (v : Pair) : (s.setPair m v).house = s.house := by cases s; rfl
@[simp] theorem State.setPair_free (m : Nat) (v : Pair) : (s.setPair m v).free = s.free := by cases s; rfl
@[simp] theorem State.setPair_porch (m : Nat) (v : Pair) : (s.setPair m v).porch = s.porch := by cases s; rfl
@[simp] theorem State.setPair_regs (m : Nat) (v : Pair) : (s.setPair m v).regs = s.regs := by cases s; rfl
@[simp] theorem State.setPair_od (m : Nat) (v : Pair) : (s.setPair m v).od = s.od := by cases s; rfl
@[simp] theorem State.setPair_blobs (m : Nat) (v : Pair) : (s.setPair m v).blobs = s.blobs := by cases s; rfl
@[simp] theorem State.setPair_mem (m : Nat) (v : Pair) : (s.setPair m v).mem = s.mem := by cases s; rfl
@[simp] theorem State.setPair_code (m : Nat) (v : Pair) : (s.setPair m v).code = s.code := by cases s; rfl
@[simp] theorem State.setPair_rooms (m : Nat) (v : Pair) : (s.setPair m v).rooms = s.rooms := by cases s; rfl
@[simp] theorem State.setPair_wings (m : Nat) (v : Pair) : (s.setPair m v).wings = s.wings := by cases s; rfl
@[simp] theorem State.setPair_dies (m : Nat) (v : Pair) : (s.setPair m v).dies = s.dies := by cases s; rfl
@[simp] theorem State.setPair_caches (m : Nat) (v : Pair) : (s.setPair m v).caches = s.caches := by cases s; rfl
@[simp] theorem State.setPair_dirs (m : Nat) (v : Pair) : (s.setPair m v).dirs = s.dirs := by cases s; rfl
@[simp] theorem State.setPair_dirAge (m : Nat) (v : Pair) : (s.setPair m v).dirAge = s.dirAge := by cases s; rfl
@[simp] theorem State.setPair_txns (m : Nat) (v : Pair) : (s.setPair m v).txns = s.txns := by cases s; rfl
@[simp] theorem State.setPair_lineQ (m : Nat) (v : Pair) : (s.setPair m v).lineQ = s.lineQ := by cases s; rfl
@[simp] theorem State.setPair_net (m : Nat) (v : Pair) : (s.setPair m v).net = s.net := by cases s; rfl
@[simp] theorem State.setPair_rlines (m : Nat) (v : Pair) : (s.setPair m v).rlines = s.rlines := by cases s; rfl
@[simp] theorem State.setPair_later (m : Nat) (v : Pair) : (s.setPair m v).later = s.later := by cases s; rfl
@[simp] theorem State.setPair_stk (m : Nat) (v : Pair) : (s.setPair m v).stk = s.stk := by cases s; rfl
@[simp] theorem State.setPair_tier (m : Nat) (v : Pair) : (s.setPair m v).tier = s.tier := by cases s; rfl
@[simp] theorem State.setPair_ctxs (m : Nat) (v : Pair) : (s.setPair m v).ctxs = s.ctxs := by cases s; rfl
@[simp] theorem State.setPair_faults (m : Nat) (v : Pair) : (s.setPair m v).faults = s.faults := by cases s; rfl
@[simp] theorem State.setPair_unfiled (m : Nat) (v : Pair) : (s.setPair m v).unfiled = s.unfiled := by cases s; rfl
@[simp] theorem State.setPair_hatches (m : Nat) (v : Pair) : (s.setPair m v).hatches = s.hatches := by cases s; rfl
@[simp] theorem State.setPair_reads (m : Nat) (v : Pair) : (s.setPair m v).reads = s.reads := by cases s; rfl
@[simp] theorem State.setPair_backlog (m : Nat) (v : Pair) : (s.setPair m v).backlog = s.backlog := by cases s; rfl
@[simp] theorem State.setPair_epochs (m : Nat) (v : Pair) : (s.setPair m v).epochs = s.epochs := by cases s; rfl
@[simp] theorem State.setPair_modes (m : Nat) (v : Pair) : (s.setPair m v).modes = s.modes := by cases s; rfl
@[simp] theorem State.setPair_fleet (m : Nat) (v : Pair) : (s.setPair m v).fleet = s.fleet := by cases s; rfl
@[simp] theorem State.setPair_ctl (m : Nat) (v : Pair) : (s.setPair m v).ctl = s.ctl := by cases s; rfl
@[simp] theorem State.setPair_mgmt (m : Nat) (v : Pair) : (s.setPair m v).mgmt = s.mgmt := by cases s; rfl
@[simp] theorem State.setPair_cores (m : Nat) (v : Pair) : (s.setPair m v).cores = s.cores := by cases s; rfl
@[simp] theorem State.setPair_resv (m : Nat) (v : Pair) : (s.setPair m v).resv = s.resv := by cases s; rfl
@[simp] theorem State.setPair_todo (m : Nat) (v : Pair) : (s.setPair m v).todo = s.todo := by cases s; rfl
@[simp] theorem State.setPair_out (m : Nat) (v : Pair) : (s.setPair m v).out = s.out := by cases s; rfl

@[simp] theorem State.setHatch_pending (h : Nat) (v : List HatchRun) : (s.setHatch h v).pending = s.pending := by cases s; rfl
@[simp] theorem State.setHatch_house (h : Nat) (v : List HatchRun) : (s.setHatch h v).house = s.house := by cases s; rfl
@[simp] theorem State.setHatch_free (h : Nat) (v : List HatchRun) : (s.setHatch h v).free = s.free := by cases s; rfl
@[simp] theorem State.setHatch_porch (h : Nat) (v : List HatchRun) : (s.setHatch h v).porch = s.porch := by cases s; rfl
@[simp] theorem State.setHatch_regs (h : Nat) (v : List HatchRun) : (s.setHatch h v).regs = s.regs := by cases s; rfl
@[simp] theorem State.setHatch_od (h : Nat) (v : List HatchRun) : (s.setHatch h v).od = s.od := by cases s; rfl
@[simp] theorem State.setHatch_blobs (h : Nat) (v : List HatchRun) : (s.setHatch h v).blobs = s.blobs := by cases s; rfl
@[simp] theorem State.setHatch_mem (h : Nat) (v : List HatchRun) : (s.setHatch h v).mem = s.mem := by cases s; rfl
@[simp] theorem State.setHatch_code (h : Nat) (v : List HatchRun) : (s.setHatch h v).code = s.code := by cases s; rfl
@[simp] theorem State.setHatch_rooms (h : Nat) (v : List HatchRun) : (s.setHatch h v).rooms = s.rooms := by cases s; rfl
@[simp] theorem State.setHatch_wings (h : Nat) (v : List HatchRun) : (s.setHatch h v).wings = s.wings := by cases s; rfl
@[simp] theorem State.setHatch_dies (h : Nat) (v : List HatchRun) : (s.setHatch h v).dies = s.dies := by cases s; rfl
@[simp] theorem State.setHatch_caches (h : Nat) (v : List HatchRun) : (s.setHatch h v).caches = s.caches := by cases s; rfl
@[simp] theorem State.setHatch_dirs (h : Nat) (v : List HatchRun) : (s.setHatch h v).dirs = s.dirs := by cases s; rfl
@[simp] theorem State.setHatch_dirAge (h : Nat) (v : List HatchRun) : (s.setHatch h v).dirAge = s.dirAge := by cases s; rfl
@[simp] theorem State.setHatch_txns (h : Nat) (v : List HatchRun) : (s.setHatch h v).txns = s.txns := by cases s; rfl
@[simp] theorem State.setHatch_lineQ (h : Nat) (v : List HatchRun) : (s.setHatch h v).lineQ = s.lineQ := by cases s; rfl
@[simp] theorem State.setHatch_net (h : Nat) (v : List HatchRun) : (s.setHatch h v).net = s.net := by cases s; rfl
@[simp] theorem State.setHatch_rlines (h : Nat) (v : List HatchRun) : (s.setHatch h v).rlines = s.rlines := by cases s; rfl
@[simp] theorem State.setHatch_later (h : Nat) (v : List HatchRun) : (s.setHatch h v).later = s.later := by cases s; rfl
@[simp] theorem State.setHatch_stk (h : Nat) (v : List HatchRun) : (s.setHatch h v).stk = s.stk := by cases s; rfl
@[simp] theorem State.setHatch_tier (h : Nat) (v : List HatchRun) : (s.setHatch h v).tier = s.tier := by cases s; rfl
@[simp] theorem State.setHatch_ctxs (h : Nat) (v : List HatchRun) : (s.setHatch h v).ctxs = s.ctxs := by cases s; rfl
@[simp] theorem State.setHatch_faults (h : Nat) (v : List HatchRun) : (s.setHatch h v).faults = s.faults := by cases s; rfl
@[simp] theorem State.setHatch_unfiled (h : Nat) (v : List HatchRun) : (s.setHatch h v).unfiled = s.unfiled := by cases s; rfl
@[simp] theorem State.setHatch_pairs (h : Nat) (v : List HatchRun) : (s.setHatch h v).pairs = s.pairs := by cases s; rfl
@[simp] theorem State.setHatch_reads (h : Nat) (v : List HatchRun) : (s.setHatch h v).reads = s.reads := by cases s; rfl
@[simp] theorem State.setHatch_backlog (h : Nat) (v : List HatchRun) : (s.setHatch h v).backlog = s.backlog := by cases s; rfl
@[simp] theorem State.setHatch_epochs (h : Nat) (v : List HatchRun) : (s.setHatch h v).epochs = s.epochs := by cases s; rfl
@[simp] theorem State.setHatch_modes (h : Nat) (v : List HatchRun) : (s.setHatch h v).modes = s.modes := by cases s; rfl
@[simp] theorem State.setHatch_fleet (h : Nat) (v : List HatchRun) : (s.setHatch h v).fleet = s.fleet := by cases s; rfl
@[simp] theorem State.setHatch_ctl (h : Nat) (v : List HatchRun) : (s.setHatch h v).ctl = s.ctl := by cases s; rfl
@[simp] theorem State.setHatch_mgmt (h : Nat) (v : List HatchRun) : (s.setHatch h v).mgmt = s.mgmt := by cases s; rfl
@[simp] theorem State.setHatch_cores (h : Nat) (v : List HatchRun) : (s.setHatch h v).cores = s.cores := by cases s; rfl
@[simp] theorem State.setHatch_resv (h : Nat) (v : List HatchRun) : (s.setHatch h v).resv = s.resv := by cases s; rfl
@[simp] theorem State.setHatch_todo (h : Nat) (v : List HatchRun) : (s.setHatch h v).todo = s.todo := by cases s; rfl
@[simp] theorem State.setHatch_out (h : Nat) (v : List HatchRun) : (s.setHatch h v).out = s.out := by cases s; rfl

@[simp] theorem State.setEpoch_pending (i : Nat) (v : Epoch) : (s.setEpoch i v).pending = s.pending := by cases s; rfl
@[simp] theorem State.setEpoch_house (i : Nat) (v : Epoch) : (s.setEpoch i v).house = s.house := by cases s; rfl
@[simp] theorem State.setEpoch_free (i : Nat) (v : Epoch) : (s.setEpoch i v).free = s.free := by cases s; rfl
@[simp] theorem State.setEpoch_porch (i : Nat) (v : Epoch) : (s.setEpoch i v).porch = s.porch := by cases s; rfl
@[simp] theorem State.setEpoch_regs (i : Nat) (v : Epoch) : (s.setEpoch i v).regs = s.regs := by cases s; rfl
@[simp] theorem State.setEpoch_od (i : Nat) (v : Epoch) : (s.setEpoch i v).od = s.od := by cases s; rfl
@[simp] theorem State.setEpoch_blobs (i : Nat) (v : Epoch) : (s.setEpoch i v).blobs = s.blobs := by cases s; rfl
@[simp] theorem State.setEpoch_mem (i : Nat) (v : Epoch) : (s.setEpoch i v).mem = s.mem := by cases s; rfl
@[simp] theorem State.setEpoch_code (i : Nat) (v : Epoch) : (s.setEpoch i v).code = s.code := by cases s; rfl
@[simp] theorem State.setEpoch_rooms (i : Nat) (v : Epoch) : (s.setEpoch i v).rooms = s.rooms := by cases s; rfl
@[simp] theorem State.setEpoch_wings (i : Nat) (v : Epoch) : (s.setEpoch i v).wings = s.wings := by cases s; rfl
@[simp] theorem State.setEpoch_dies (i : Nat) (v : Epoch) : (s.setEpoch i v).dies = s.dies := by cases s; rfl
@[simp] theorem State.setEpoch_caches (i : Nat) (v : Epoch) : (s.setEpoch i v).caches = s.caches := by cases s; rfl
@[simp] theorem State.setEpoch_dirs (i : Nat) (v : Epoch) : (s.setEpoch i v).dirs = s.dirs := by cases s; rfl
@[simp] theorem State.setEpoch_dirAge (i : Nat) (v : Epoch) : (s.setEpoch i v).dirAge = s.dirAge := by cases s; rfl
@[simp] theorem State.setEpoch_txns (i : Nat) (v : Epoch) : (s.setEpoch i v).txns = s.txns := by cases s; rfl
@[simp] theorem State.setEpoch_lineQ (i : Nat) (v : Epoch) : (s.setEpoch i v).lineQ = s.lineQ := by cases s; rfl
@[simp] theorem State.setEpoch_net (i : Nat) (v : Epoch) : (s.setEpoch i v).net = s.net := by cases s; rfl
@[simp] theorem State.setEpoch_rlines (i : Nat) (v : Epoch) : (s.setEpoch i v).rlines = s.rlines := by cases s; rfl
@[simp] theorem State.setEpoch_later (i : Nat) (v : Epoch) : (s.setEpoch i v).later = s.later := by cases s; rfl
@[simp] theorem State.setEpoch_stk (i : Nat) (v : Epoch) : (s.setEpoch i v).stk = s.stk := by cases s; rfl
@[simp] theorem State.setEpoch_tier (i : Nat) (v : Epoch) : (s.setEpoch i v).tier = s.tier := by cases s; rfl
@[simp] theorem State.setEpoch_ctxs (i : Nat) (v : Epoch) : (s.setEpoch i v).ctxs = s.ctxs := by cases s; rfl
@[simp] theorem State.setEpoch_faults (i : Nat) (v : Epoch) : (s.setEpoch i v).faults = s.faults := by cases s; rfl
@[simp] theorem State.setEpoch_unfiled (i : Nat) (v : Epoch) : (s.setEpoch i v).unfiled = s.unfiled := by cases s; rfl
@[simp] theorem State.setEpoch_hatches (i : Nat) (v : Epoch) : (s.setEpoch i v).hatches = s.hatches := by cases s; rfl
@[simp] theorem State.setEpoch_pairs (i : Nat) (v : Epoch) : (s.setEpoch i v).pairs = s.pairs := by cases s; rfl
@[simp] theorem State.setEpoch_reads (i : Nat) (v : Epoch) : (s.setEpoch i v).reads = s.reads := by cases s; rfl
@[simp] theorem State.setEpoch_backlog (i : Nat) (v : Epoch) : (s.setEpoch i v).backlog = s.backlog := by cases s; rfl
@[simp] theorem State.setEpoch_modes (i : Nat) (v : Epoch) : (s.setEpoch i v).modes = s.modes := by cases s; rfl
@[simp] theorem State.setEpoch_fleet (i : Nat) (v : Epoch) : (s.setEpoch i v).fleet = s.fleet := by cases s; rfl
@[simp] theorem State.setEpoch_ctl (i : Nat) (v : Epoch) : (s.setEpoch i v).ctl = s.ctl := by cases s; rfl
@[simp] theorem State.setEpoch_mgmt (i : Nat) (v : Epoch) : (s.setEpoch i v).mgmt = s.mgmt := by cases s; rfl
@[simp] theorem State.setEpoch_cores (i : Nat) (v : Epoch) : (s.setEpoch i v).cores = s.cores := by cases s; rfl
@[simp] theorem State.setEpoch_resv (i : Nat) (v : Epoch) : (s.setEpoch i v).resv = s.resv := by cases s; rfl
@[simp] theorem State.setEpoch_todo (i : Nat) (v : Epoch) : (s.setEpoch i v).todo = s.todo := by cases s; rfl
@[simp] theorem State.setEpoch_out (i : Nat) (v : Epoch) : (s.setEpoch i v).out = s.out := by cases s; rfl

@[simp] theorem State.setModes_pending (u : Nat) (v : UnitModes) : (s.setModes u v).pending = s.pending := by cases s; rfl
@[simp] theorem State.setModes_house (u : Nat) (v : UnitModes) : (s.setModes u v).house = s.house := by cases s; rfl
@[simp] theorem State.setModes_free (u : Nat) (v : UnitModes) : (s.setModes u v).free = s.free := by cases s; rfl
@[simp] theorem State.setModes_porch (u : Nat) (v : UnitModes) : (s.setModes u v).porch = s.porch := by cases s; rfl
@[simp] theorem State.setModes_regs (u : Nat) (v : UnitModes) : (s.setModes u v).regs = s.regs := by cases s; rfl
@[simp] theorem State.setModes_od (u : Nat) (v : UnitModes) : (s.setModes u v).od = s.od := by cases s; rfl
@[simp] theorem State.setModes_blobs (u : Nat) (v : UnitModes) : (s.setModes u v).blobs = s.blobs := by cases s; rfl
@[simp] theorem State.setModes_mem (u : Nat) (v : UnitModes) : (s.setModes u v).mem = s.mem := by cases s; rfl
@[simp] theorem State.setModes_code (u : Nat) (v : UnitModes) : (s.setModes u v).code = s.code := by cases s; rfl
@[simp] theorem State.setModes_rooms (u : Nat) (v : UnitModes) : (s.setModes u v).rooms = s.rooms := by cases s; rfl
@[simp] theorem State.setModes_wings (u : Nat) (v : UnitModes) : (s.setModes u v).wings = s.wings := by cases s; rfl
@[simp] theorem State.setModes_dies (u : Nat) (v : UnitModes) : (s.setModes u v).dies = s.dies := by cases s; rfl
@[simp] theorem State.setModes_caches (u : Nat) (v : UnitModes) : (s.setModes u v).caches = s.caches := by cases s; rfl
@[simp] theorem State.setModes_dirs (u : Nat) (v : UnitModes) : (s.setModes u v).dirs = s.dirs := by cases s; rfl
@[simp] theorem State.setModes_dirAge (u : Nat) (v : UnitModes) : (s.setModes u v).dirAge = s.dirAge := by cases s; rfl
@[simp] theorem State.setModes_txns (u : Nat) (v : UnitModes) : (s.setModes u v).txns = s.txns := by cases s; rfl
@[simp] theorem State.setModes_lineQ (u : Nat) (v : UnitModes) : (s.setModes u v).lineQ = s.lineQ := by cases s; rfl
@[simp] theorem State.setModes_net (u : Nat) (v : UnitModes) : (s.setModes u v).net = s.net := by cases s; rfl
@[simp] theorem State.setModes_rlines (u : Nat) (v : UnitModes) : (s.setModes u v).rlines = s.rlines := by cases s; rfl
@[simp] theorem State.setModes_later (u : Nat) (v : UnitModes) : (s.setModes u v).later = s.later := by cases s; rfl
@[simp] theorem State.setModes_stk (u : Nat) (v : UnitModes) : (s.setModes u v).stk = s.stk := by cases s; rfl
@[simp] theorem State.setModes_tier (u : Nat) (v : UnitModes) : (s.setModes u v).tier = s.tier := by cases s; rfl
@[simp] theorem State.setModes_ctxs (u : Nat) (v : UnitModes) : (s.setModes u v).ctxs = s.ctxs := by cases s; rfl
@[simp] theorem State.setModes_faults (u : Nat) (v : UnitModes) : (s.setModes u v).faults = s.faults := by cases s; rfl
@[simp] theorem State.setModes_unfiled (u : Nat) (v : UnitModes) : (s.setModes u v).unfiled = s.unfiled := by cases s; rfl
@[simp] theorem State.setModes_hatches (u : Nat) (v : UnitModes) : (s.setModes u v).hatches = s.hatches := by cases s; rfl
@[simp] theorem State.setModes_pairs (u : Nat) (v : UnitModes) : (s.setModes u v).pairs = s.pairs := by cases s; rfl
@[simp] theorem State.setModes_reads (u : Nat) (v : UnitModes) : (s.setModes u v).reads = s.reads := by cases s; rfl
@[simp] theorem State.setModes_backlog (u : Nat) (v : UnitModes) : (s.setModes u v).backlog = s.backlog := by cases s; rfl
@[simp] theorem State.setModes_epochs (u : Nat) (v : UnitModes) : (s.setModes u v).epochs = s.epochs := by cases s; rfl
@[simp] theorem State.setModes_fleet (u : Nat) (v : UnitModes) : (s.setModes u v).fleet = s.fleet := by cases s; rfl
@[simp] theorem State.setModes_ctl (u : Nat) (v : UnitModes) : (s.setModes u v).ctl = s.ctl := by cases s; rfl
@[simp] theorem State.setModes_mgmt (u : Nat) (v : UnitModes) : (s.setModes u v).mgmt = s.mgmt := by cases s; rfl
@[simp] theorem State.setModes_cores (u : Nat) (v : UnitModes) : (s.setModes u v).cores = s.cores := by cases s; rfl
@[simp] theorem State.setModes_resv (u : Nat) (v : UnitModes) : (s.setModes u v).resv = s.resv := by cases s; rfl
@[simp] theorem State.setModes_todo (u : Nat) (v : UnitModes) : (s.setModes u v).todo = s.todo := by cases s; rfl
@[simp] theorem State.setModes_out (u : Nat) (v : UnitModes) : (s.setModes u v).out = s.out := by cases s; rfl

@[simp] theorem State.setFleet_pending (i : Nat) (v : Fleet) : (s.setFleet i v).pending = s.pending := by cases s; rfl
@[simp] theorem State.setFleet_house (i : Nat) (v : Fleet) : (s.setFleet i v).house = s.house := by cases s; rfl
@[simp] theorem State.setFleet_free (i : Nat) (v : Fleet) : (s.setFleet i v).free = s.free := by cases s; rfl
@[simp] theorem State.setFleet_porch (i : Nat) (v : Fleet) : (s.setFleet i v).porch = s.porch := by cases s; rfl
@[simp] theorem State.setFleet_regs (i : Nat) (v : Fleet) : (s.setFleet i v).regs = s.regs := by cases s; rfl
@[simp] theorem State.setFleet_od (i : Nat) (v : Fleet) : (s.setFleet i v).od = s.od := by cases s; rfl
@[simp] theorem State.setFleet_blobs (i : Nat) (v : Fleet) : (s.setFleet i v).blobs = s.blobs := by cases s; rfl
@[simp] theorem State.setFleet_mem (i : Nat) (v : Fleet) : (s.setFleet i v).mem = s.mem := by cases s; rfl
@[simp] theorem State.setFleet_code (i : Nat) (v : Fleet) : (s.setFleet i v).code = s.code := by cases s; rfl
@[simp] theorem State.setFleet_rooms (i : Nat) (v : Fleet) : (s.setFleet i v).rooms = s.rooms := by cases s; rfl
@[simp] theorem State.setFleet_wings (i : Nat) (v : Fleet) : (s.setFleet i v).wings = s.wings := by cases s; rfl
@[simp] theorem State.setFleet_dies (i : Nat) (v : Fleet) : (s.setFleet i v).dies = s.dies := by cases s; rfl
@[simp] theorem State.setFleet_caches (i : Nat) (v : Fleet) : (s.setFleet i v).caches = s.caches := by cases s; rfl
@[simp] theorem State.setFleet_dirs (i : Nat) (v : Fleet) : (s.setFleet i v).dirs = s.dirs := by cases s; rfl
@[simp] theorem State.setFleet_dirAge (i : Nat) (v : Fleet) : (s.setFleet i v).dirAge = s.dirAge := by cases s; rfl
@[simp] theorem State.setFleet_txns (i : Nat) (v : Fleet) : (s.setFleet i v).txns = s.txns := by cases s; rfl
@[simp] theorem State.setFleet_lineQ (i : Nat) (v : Fleet) : (s.setFleet i v).lineQ = s.lineQ := by cases s; rfl
@[simp] theorem State.setFleet_net (i : Nat) (v : Fleet) : (s.setFleet i v).net = s.net := by cases s; rfl
@[simp] theorem State.setFleet_rlines (i : Nat) (v : Fleet) : (s.setFleet i v).rlines = s.rlines := by cases s; rfl
@[simp] theorem State.setFleet_later (i : Nat) (v : Fleet) : (s.setFleet i v).later = s.later := by cases s; rfl
@[simp] theorem State.setFleet_stk (i : Nat) (v : Fleet) : (s.setFleet i v).stk = s.stk := by cases s; rfl
@[simp] theorem State.setFleet_tier (i : Nat) (v : Fleet) : (s.setFleet i v).tier = s.tier := by cases s; rfl
@[simp] theorem State.setFleet_ctxs (i : Nat) (v : Fleet) : (s.setFleet i v).ctxs = s.ctxs := by cases s; rfl
@[simp] theorem State.setFleet_faults (i : Nat) (v : Fleet) : (s.setFleet i v).faults = s.faults := by cases s; rfl
@[simp] theorem State.setFleet_unfiled (i : Nat) (v : Fleet) : (s.setFleet i v).unfiled = s.unfiled := by cases s; rfl
@[simp] theorem State.setFleet_hatches (i : Nat) (v : Fleet) : (s.setFleet i v).hatches = s.hatches := by cases s; rfl
@[simp] theorem State.setFleet_pairs (i : Nat) (v : Fleet) : (s.setFleet i v).pairs = s.pairs := by cases s; rfl
@[simp] theorem State.setFleet_reads (i : Nat) (v : Fleet) : (s.setFleet i v).reads = s.reads := by cases s; rfl
@[simp] theorem State.setFleet_backlog (i : Nat) (v : Fleet) : (s.setFleet i v).backlog = s.backlog := by cases s; rfl
@[simp] theorem State.setFleet_epochs (i : Nat) (v : Fleet) : (s.setFleet i v).epochs = s.epochs := by cases s; rfl
@[simp] theorem State.setFleet_modes (i : Nat) (v : Fleet) : (s.setFleet i v).modes = s.modes := by cases s; rfl
@[simp] theorem State.setFleet_ctl (i : Nat) (v : Fleet) : (s.setFleet i v).ctl = s.ctl := by cases s; rfl
@[simp] theorem State.setFleet_mgmt (i : Nat) (v : Fleet) : (s.setFleet i v).mgmt = s.mgmt := by cases s; rfl
@[simp] theorem State.setFleet_cores (i : Nat) (v : Fleet) : (s.setFleet i v).cores = s.cores := by cases s; rfl
@[simp] theorem State.setFleet_resv (i : Nat) (v : Fleet) : (s.setFleet i v).resv = s.resv := by cases s; rfl
@[simp] theorem State.setFleet_todo (i : Nat) (v : Fleet) : (s.setFleet i v).todo = s.todo := by cases s; rfl
@[simp] theorem State.setFleet_out (i : Nat) (v : Fleet) : (s.setFleet i v).out = s.out := by cases s; rfl

@[simp] theorem State.setReg_pending (pa : Nat) (v : BitVec 64) : (s.setReg pa v).pending = s.pending := by cases s; rfl
@[simp] theorem State.setReg_house (pa : Nat) (v : BitVec 64) : (s.setReg pa v).house = s.house := by cases s; rfl
@[simp] theorem State.setReg_free (pa : Nat) (v : BitVec 64) : (s.setReg pa v).free = s.free := by cases s; rfl
@[simp] theorem State.setReg_porch (pa : Nat) (v : BitVec 64) : (s.setReg pa v).porch = s.porch := by cases s; rfl
@[simp] theorem State.setReg_od (pa : Nat) (v : BitVec 64) : (s.setReg pa v).od = s.od := by cases s; rfl
@[simp] theorem State.setReg_blobs (pa : Nat) (v : BitVec 64) : (s.setReg pa v).blobs = s.blobs := by cases s; rfl
@[simp] theorem State.setReg_mem (pa : Nat) (v : BitVec 64) : (s.setReg pa v).mem = s.mem := by cases s; rfl
@[simp] theorem State.setReg_code (pa : Nat) (v : BitVec 64) : (s.setReg pa v).code = s.code := by cases s; rfl
@[simp] theorem State.setReg_rooms (pa : Nat) (v : BitVec 64) : (s.setReg pa v).rooms = s.rooms := by cases s; rfl
@[simp] theorem State.setReg_wings (pa : Nat) (v : BitVec 64) : (s.setReg pa v).wings = s.wings := by cases s; rfl
@[simp] theorem State.setReg_dies (pa : Nat) (v : BitVec 64) : (s.setReg pa v).dies = s.dies := by cases s; rfl
@[simp] theorem State.setReg_caches (pa : Nat) (v : BitVec 64) : (s.setReg pa v).caches = s.caches := by cases s; rfl
@[simp] theorem State.setReg_dirs (pa : Nat) (v : BitVec 64) : (s.setReg pa v).dirs = s.dirs := by cases s; rfl
@[simp] theorem State.setReg_dirAge (pa : Nat) (v : BitVec 64) : (s.setReg pa v).dirAge = s.dirAge := by cases s; rfl
@[simp] theorem State.setReg_txns (pa : Nat) (v : BitVec 64) : (s.setReg pa v).txns = s.txns := by cases s; rfl
@[simp] theorem State.setReg_lineQ (pa : Nat) (v : BitVec 64) : (s.setReg pa v).lineQ = s.lineQ := by cases s; rfl
@[simp] theorem State.setReg_net (pa : Nat) (v : BitVec 64) : (s.setReg pa v).net = s.net := by cases s; rfl
@[simp] theorem State.setReg_rlines (pa : Nat) (v : BitVec 64) : (s.setReg pa v).rlines = s.rlines := by cases s; rfl
@[simp] theorem State.setReg_later (pa : Nat) (v : BitVec 64) : (s.setReg pa v).later = s.later := by cases s; rfl
@[simp] theorem State.setReg_stk (pa : Nat) (v : BitVec 64) : (s.setReg pa v).stk = s.stk := by cases s; rfl
@[simp] theorem State.setReg_tier (pa : Nat) (v : BitVec 64) : (s.setReg pa v).tier = s.tier := by cases s; rfl
@[simp] theorem State.setReg_ctxs (pa : Nat) (v : BitVec 64) : (s.setReg pa v).ctxs = s.ctxs := by cases s; rfl
@[simp] theorem State.setReg_faults (pa : Nat) (v : BitVec 64) : (s.setReg pa v).faults = s.faults := by cases s; rfl
@[simp] theorem State.setReg_unfiled (pa : Nat) (v : BitVec 64) : (s.setReg pa v).unfiled = s.unfiled := by cases s; rfl
@[simp] theorem State.setReg_hatches (pa : Nat) (v : BitVec 64) : (s.setReg pa v).hatches = s.hatches := by cases s; rfl
@[simp] theorem State.setReg_pairs (pa : Nat) (v : BitVec 64) : (s.setReg pa v).pairs = s.pairs := by cases s; rfl
@[simp] theorem State.setReg_reads (pa : Nat) (v : BitVec 64) : (s.setReg pa v).reads = s.reads := by cases s; rfl
@[simp] theorem State.setReg_backlog (pa : Nat) (v : BitVec 64) : (s.setReg pa v).backlog = s.backlog := by cases s; rfl
@[simp] theorem State.setReg_epochs (pa : Nat) (v : BitVec 64) : (s.setReg pa v).epochs = s.epochs := by cases s; rfl
@[simp] theorem State.setReg_modes (pa : Nat) (v : BitVec 64) : (s.setReg pa v).modes = s.modes := by cases s; rfl
@[simp] theorem State.setReg_fleet (pa : Nat) (v : BitVec 64) : (s.setReg pa v).fleet = s.fleet := by cases s; rfl
@[simp] theorem State.setReg_ctl (pa : Nat) (v : BitVec 64) : (s.setReg pa v).ctl = s.ctl := by cases s; rfl
@[simp] theorem State.setReg_mgmt (pa : Nat) (v : BitVec 64) : (s.setReg pa v).mgmt = s.mgmt := by cases s; rfl
@[simp] theorem State.setReg_cores (pa : Nat) (v : BitVec 64) : (s.setReg pa v).cores = s.cores := by cases s; rfl
@[simp] theorem State.setReg_resv (pa : Nat) (v : BitVec 64) : (s.setReg pa v).resv = s.resv := by cases s; rfl
@[simp] theorem State.setReg_todo (pa : Nat) (v : BitVec 64) : (s.setReg pa v).todo = s.todo := by cases s; rfl
@[simp] theorem State.setReg_out (pa : Nat) (v : BitVec 64) : (s.setReg pa v).out = s.out := by cases s; rfl

@[simp] theorem State.setRegF_pending (pa hi lo v : Nat) : (s.setRegF pa hi lo v).pending = s.pending := by cases s; rfl
@[simp] theorem State.setRegF_house (pa hi lo v : Nat) : (s.setRegF pa hi lo v).house = s.house := by cases s; rfl
@[simp] theorem State.setRegF_free (pa hi lo v : Nat) : (s.setRegF pa hi lo v).free = s.free := by cases s; rfl
@[simp] theorem State.setRegF_porch (pa hi lo v : Nat) : (s.setRegF pa hi lo v).porch = s.porch := by cases s; rfl
@[simp] theorem State.setRegF_od (pa hi lo v : Nat) : (s.setRegF pa hi lo v).od = s.od := by cases s; rfl
@[simp] theorem State.setRegF_blobs (pa hi lo v : Nat) : (s.setRegF pa hi lo v).blobs = s.blobs := by cases s; rfl
@[simp] theorem State.setRegF_mem (pa hi lo v : Nat) : (s.setRegF pa hi lo v).mem = s.mem := by cases s; rfl
@[simp] theorem State.setRegF_code (pa hi lo v : Nat) : (s.setRegF pa hi lo v).code = s.code := by cases s; rfl
@[simp] theorem State.setRegF_rooms (pa hi lo v : Nat) : (s.setRegF pa hi lo v).rooms = s.rooms := by cases s; rfl
@[simp] theorem State.setRegF_wings (pa hi lo v : Nat) : (s.setRegF pa hi lo v).wings = s.wings := by cases s; rfl
@[simp] theorem State.setRegF_dies (pa hi lo v : Nat) : (s.setRegF pa hi lo v).dies = s.dies := by cases s; rfl
@[simp] theorem State.setRegF_caches (pa hi lo v : Nat) : (s.setRegF pa hi lo v).caches = s.caches := by cases s; rfl
@[simp] theorem State.setRegF_dirs (pa hi lo v : Nat) : (s.setRegF pa hi lo v).dirs = s.dirs := by cases s; rfl
@[simp] theorem State.setRegF_dirAge (pa hi lo v : Nat) : (s.setRegF pa hi lo v).dirAge = s.dirAge := by cases s; rfl
@[simp] theorem State.setRegF_txns (pa hi lo v : Nat) : (s.setRegF pa hi lo v).txns = s.txns := by cases s; rfl
@[simp] theorem State.setRegF_lineQ (pa hi lo v : Nat) : (s.setRegF pa hi lo v).lineQ = s.lineQ := by cases s; rfl
@[simp] theorem State.setRegF_net (pa hi lo v : Nat) : (s.setRegF pa hi lo v).net = s.net := by cases s; rfl
@[simp] theorem State.setRegF_rlines (pa hi lo v : Nat) : (s.setRegF pa hi lo v).rlines = s.rlines := by cases s; rfl
@[simp] theorem State.setRegF_later (pa hi lo v : Nat) : (s.setRegF pa hi lo v).later = s.later := by cases s; rfl
@[simp] theorem State.setRegF_stk (pa hi lo v : Nat) : (s.setRegF pa hi lo v).stk = s.stk := by cases s; rfl
@[simp] theorem State.setRegF_tier (pa hi lo v : Nat) : (s.setRegF pa hi lo v).tier = s.tier := by cases s; rfl
@[simp] theorem State.setRegF_ctxs (pa hi lo v : Nat) : (s.setRegF pa hi lo v).ctxs = s.ctxs := by cases s; rfl
@[simp] theorem State.setRegF_faults (pa hi lo v : Nat) : (s.setRegF pa hi lo v).faults = s.faults := by cases s; rfl
@[simp] theorem State.setRegF_unfiled (pa hi lo v : Nat) : (s.setRegF pa hi lo v).unfiled = s.unfiled := by cases s; rfl
@[simp] theorem State.setRegF_hatches (pa hi lo v : Nat) : (s.setRegF pa hi lo v).hatches = s.hatches := by cases s; rfl
@[simp] theorem State.setRegF_pairs (pa hi lo v : Nat) : (s.setRegF pa hi lo v).pairs = s.pairs := by cases s; rfl
@[simp] theorem State.setRegF_reads (pa hi lo v : Nat) : (s.setRegF pa hi lo v).reads = s.reads := by cases s; rfl
@[simp] theorem State.setRegF_backlog (pa hi lo v : Nat) : (s.setRegF pa hi lo v).backlog = s.backlog := by cases s; rfl
@[simp] theorem State.setRegF_epochs (pa hi lo v : Nat) : (s.setRegF pa hi lo v).epochs = s.epochs := by cases s; rfl
@[simp] theorem State.setRegF_modes (pa hi lo v : Nat) : (s.setRegF pa hi lo v).modes = s.modes := by cases s; rfl
@[simp] theorem State.setRegF_fleet (pa hi lo v : Nat) : (s.setRegF pa hi lo v).fleet = s.fleet := by cases s; rfl
@[simp] theorem State.setRegF_ctl (pa hi lo v : Nat) : (s.setRegF pa hi lo v).ctl = s.ctl := by cases s; rfl
@[simp] theorem State.setRegF_mgmt (pa hi lo v : Nat) : (s.setRegF pa hi lo v).mgmt = s.mgmt := by cases s; rfl
@[simp] theorem State.setRegF_cores (pa hi lo v : Nat) : (s.setRegF pa hi lo v).cores = s.cores := by cases s; rfl
@[simp] theorem State.setRegF_resv (pa hi lo v : Nat) : (s.setRegF pa hi lo v).resv = s.resv := by cases s; rfl
@[simp] theorem State.setRegF_todo (pa hi lo v : Nat) : (s.setRegF pa hi lo v).todo = s.todo := by cases s; rfl
@[simp] theorem State.setRegF_out (pa hi lo v : Nat) : (s.setRegF pa hi lo v).out = s.out := by cases s; rfl

@[simp] theorem State.setEnt_pending (i k v : Nat) : (s.setEnt i k v).pending = s.pending := by cases s; rfl
@[simp] theorem State.setEnt_house (i k v : Nat) : (s.setEnt i k v).house = s.house := by cases s; rfl
@[simp] theorem State.setEnt_free (i k v : Nat) : (s.setEnt i k v).free = s.free := by cases s; rfl
@[simp] theorem State.setEnt_porch (i k v : Nat) : (s.setEnt i k v).porch = s.porch := by cases s; rfl
@[simp] theorem State.setEnt_regs (i k v : Nat) : (s.setEnt i k v).regs = s.regs := by cases s; rfl
@[simp] theorem State.setEnt_blobs (i k v : Nat) : (s.setEnt i k v).blobs = s.blobs := by cases s; rfl
@[simp] theorem State.setEnt_mem (i k v : Nat) : (s.setEnt i k v).mem = s.mem := by cases s; rfl
@[simp] theorem State.setEnt_code (i k v : Nat) : (s.setEnt i k v).code = s.code := by cases s; rfl
@[simp] theorem State.setEnt_rooms (i k v : Nat) : (s.setEnt i k v).rooms = s.rooms := by cases s; rfl
@[simp] theorem State.setEnt_wings (i k v : Nat) : (s.setEnt i k v).wings = s.wings := by cases s; rfl
@[simp] theorem State.setEnt_dies (i k v : Nat) : (s.setEnt i k v).dies = s.dies := by cases s; rfl
@[simp] theorem State.setEnt_caches (i k v : Nat) : (s.setEnt i k v).caches = s.caches := by cases s; rfl
@[simp] theorem State.setEnt_dirs (i k v : Nat) : (s.setEnt i k v).dirs = s.dirs := by cases s; rfl
@[simp] theorem State.setEnt_dirAge (i k v : Nat) : (s.setEnt i k v).dirAge = s.dirAge := by cases s; rfl
@[simp] theorem State.setEnt_txns (i k v : Nat) : (s.setEnt i k v).txns = s.txns := by cases s; rfl
@[simp] theorem State.setEnt_lineQ (i k v : Nat) : (s.setEnt i k v).lineQ = s.lineQ := by cases s; rfl
@[simp] theorem State.setEnt_net (i k v : Nat) : (s.setEnt i k v).net = s.net := by cases s; rfl
@[simp] theorem State.setEnt_rlines (i k v : Nat) : (s.setEnt i k v).rlines = s.rlines := by cases s; rfl
@[simp] theorem State.setEnt_later (i k v : Nat) : (s.setEnt i k v).later = s.later := by cases s; rfl
@[simp] theorem State.setEnt_stk (i k v : Nat) : (s.setEnt i k v).stk = s.stk := by cases s; rfl
@[simp] theorem State.setEnt_tier (i k v : Nat) : (s.setEnt i k v).tier = s.tier := by cases s; rfl
@[simp] theorem State.setEnt_ctxs (i k v : Nat) : (s.setEnt i k v).ctxs = s.ctxs := by cases s; rfl
@[simp] theorem State.setEnt_faults (i k v : Nat) : (s.setEnt i k v).faults = s.faults := by cases s; rfl
@[simp] theorem State.setEnt_unfiled (i k v : Nat) : (s.setEnt i k v).unfiled = s.unfiled := by cases s; rfl
@[simp] theorem State.setEnt_hatches (i k v : Nat) : (s.setEnt i k v).hatches = s.hatches := by cases s; rfl
@[simp] theorem State.setEnt_pairs (i k v : Nat) : (s.setEnt i k v).pairs = s.pairs := by cases s; rfl
@[simp] theorem State.setEnt_reads (i k v : Nat) : (s.setEnt i k v).reads = s.reads := by cases s; rfl
@[simp] theorem State.setEnt_backlog (i k v : Nat) : (s.setEnt i k v).backlog = s.backlog := by cases s; rfl
@[simp] theorem State.setEnt_epochs (i k v : Nat) : (s.setEnt i k v).epochs = s.epochs := by cases s; rfl
@[simp] theorem State.setEnt_modes (i k v : Nat) : (s.setEnt i k v).modes = s.modes := by cases s; rfl
@[simp] theorem State.setEnt_fleet (i k v : Nat) : (s.setEnt i k v).fleet = s.fleet := by cases s; rfl
@[simp] theorem State.setEnt_ctl (i k v : Nat) : (s.setEnt i k v).ctl = s.ctl := by cases s; rfl
@[simp] theorem State.setEnt_mgmt (i k v : Nat) : (s.setEnt i k v).mgmt = s.mgmt := by cases s; rfl
@[simp] theorem State.setEnt_cores (i k v : Nat) : (s.setEnt i k v).cores = s.cores := by cases s; rfl
@[simp] theorem State.setEnt_resv (i k v : Nat) : (s.setEnt i k v).resv = s.resv := by cases s; rfl
@[simp] theorem State.setEnt_todo (i k v : Nat) : (s.setEnt i k v).todo = s.todo := by cases s; rfl
@[simp] theorem State.setEnt_out (i k v : Nat) : (s.setEnt i k v).out = s.out := by cases s; rfl

@[simp] theorem State.setBlob_pending (i k : Nat) (v : Bytes) : (s.setBlob i k v).pending = s.pending := by cases s; rfl
@[simp] theorem State.setBlob_house (i k : Nat) (v : Bytes) : (s.setBlob i k v).house = s.house := by cases s; rfl
@[simp] theorem State.setBlob_free (i k : Nat) (v : Bytes) : (s.setBlob i k v).free = s.free := by cases s; rfl
@[simp] theorem State.setBlob_porch (i k : Nat) (v : Bytes) : (s.setBlob i k v).porch = s.porch := by cases s; rfl
@[simp] theorem State.setBlob_regs (i k : Nat) (v : Bytes) : (s.setBlob i k v).regs = s.regs := by cases s; rfl
@[simp] theorem State.setBlob_od (i k : Nat) (v : Bytes) : (s.setBlob i k v).od = s.od := by cases s; rfl
@[simp] theorem State.setBlob_mem (i k : Nat) (v : Bytes) : (s.setBlob i k v).mem = s.mem := by cases s; rfl
@[simp] theorem State.setBlob_code (i k : Nat) (v : Bytes) : (s.setBlob i k v).code = s.code := by cases s; rfl
@[simp] theorem State.setBlob_rooms (i k : Nat) (v : Bytes) : (s.setBlob i k v).rooms = s.rooms := by cases s; rfl
@[simp] theorem State.setBlob_wings (i k : Nat) (v : Bytes) : (s.setBlob i k v).wings = s.wings := by cases s; rfl
@[simp] theorem State.setBlob_dies (i k : Nat) (v : Bytes) : (s.setBlob i k v).dies = s.dies := by cases s; rfl
@[simp] theorem State.setBlob_caches (i k : Nat) (v : Bytes) : (s.setBlob i k v).caches = s.caches := by cases s; rfl
@[simp] theorem State.setBlob_dirs (i k : Nat) (v : Bytes) : (s.setBlob i k v).dirs = s.dirs := by cases s; rfl
@[simp] theorem State.setBlob_dirAge (i k : Nat) (v : Bytes) : (s.setBlob i k v).dirAge = s.dirAge := by cases s; rfl
@[simp] theorem State.setBlob_txns (i k : Nat) (v : Bytes) : (s.setBlob i k v).txns = s.txns := by cases s; rfl
@[simp] theorem State.setBlob_lineQ (i k : Nat) (v : Bytes) : (s.setBlob i k v).lineQ = s.lineQ := by cases s; rfl
@[simp] theorem State.setBlob_net (i k : Nat) (v : Bytes) : (s.setBlob i k v).net = s.net := by cases s; rfl
@[simp] theorem State.setBlob_rlines (i k : Nat) (v : Bytes) : (s.setBlob i k v).rlines = s.rlines := by cases s; rfl
@[simp] theorem State.setBlob_later (i k : Nat) (v : Bytes) : (s.setBlob i k v).later = s.later := by cases s; rfl
@[simp] theorem State.setBlob_stk (i k : Nat) (v : Bytes) : (s.setBlob i k v).stk = s.stk := by cases s; rfl
@[simp] theorem State.setBlob_tier (i k : Nat) (v : Bytes) : (s.setBlob i k v).tier = s.tier := by cases s; rfl
@[simp] theorem State.setBlob_ctxs (i k : Nat) (v : Bytes) : (s.setBlob i k v).ctxs = s.ctxs := by cases s; rfl
@[simp] theorem State.setBlob_faults (i k : Nat) (v : Bytes) : (s.setBlob i k v).faults = s.faults := by cases s; rfl
@[simp] theorem State.setBlob_unfiled (i k : Nat) (v : Bytes) : (s.setBlob i k v).unfiled = s.unfiled := by cases s; rfl
@[simp] theorem State.setBlob_hatches (i k : Nat) (v : Bytes) : (s.setBlob i k v).hatches = s.hatches := by cases s; rfl
@[simp] theorem State.setBlob_pairs (i k : Nat) (v : Bytes) : (s.setBlob i k v).pairs = s.pairs := by cases s; rfl
@[simp] theorem State.setBlob_reads (i k : Nat) (v : Bytes) : (s.setBlob i k v).reads = s.reads := by cases s; rfl
@[simp] theorem State.setBlob_backlog (i k : Nat) (v : Bytes) : (s.setBlob i k v).backlog = s.backlog := by cases s; rfl
@[simp] theorem State.setBlob_epochs (i k : Nat) (v : Bytes) : (s.setBlob i k v).epochs = s.epochs := by cases s; rfl
@[simp] theorem State.setBlob_modes (i k : Nat) (v : Bytes) : (s.setBlob i k v).modes = s.modes := by cases s; rfl
@[simp] theorem State.setBlob_fleet (i k : Nat) (v : Bytes) : (s.setBlob i k v).fleet = s.fleet := by cases s; rfl
@[simp] theorem State.setBlob_ctl (i k : Nat) (v : Bytes) : (s.setBlob i k v).ctl = s.ctl := by cases s; rfl
@[simp] theorem State.setBlob_mgmt (i k : Nat) (v : Bytes) : (s.setBlob i k v).mgmt = s.mgmt := by cases s; rfl
@[simp] theorem State.setBlob_cores (i k : Nat) (v : Bytes) : (s.setBlob i k v).cores = s.cores := by cases s; rfl
@[simp] theorem State.setBlob_resv (i k : Nat) (v : Bytes) : (s.setBlob i k v).resv = s.resv := by cases s; rfl
@[simp] theorem State.setBlob_todo (i k : Nat) (v : Bytes) : (s.setBlob i k v).todo = s.todo := by cases s; rfl
@[simp] theorem State.setBlob_out (i k : Nat) (v : Bytes) : (s.setBlob i k v).out = s.out := by cases s; rfl

@[simp] theorem State.drawFree_pending : (s.drawFree).pending = s.pending := by cases s; rfl
@[simp] theorem State.drawFree_house : (s.drawFree).house = s.house := by cases s; rfl
@[simp] theorem State.drawFree_porch : (s.drawFree).porch = s.porch := by cases s; rfl
@[simp] theorem State.drawFree_regs : (s.drawFree).regs = s.regs := by cases s; rfl
@[simp] theorem State.drawFree_od : (s.drawFree).od = s.od := by cases s; rfl
@[simp] theorem State.drawFree_blobs : (s.drawFree).blobs = s.blobs := by cases s; rfl
@[simp] theorem State.drawFree_mem : (s.drawFree).mem = s.mem := by cases s; rfl
@[simp] theorem State.drawFree_code : (s.drawFree).code = s.code := by cases s; rfl
@[simp] theorem State.drawFree_rooms : (s.drawFree).rooms = s.rooms := by cases s; rfl
@[simp] theorem State.drawFree_wings : (s.drawFree).wings = s.wings := by cases s; rfl
@[simp] theorem State.drawFree_dies : (s.drawFree).dies = s.dies := by cases s; rfl
@[simp] theorem State.drawFree_caches : (s.drawFree).caches = s.caches := by cases s; rfl
@[simp] theorem State.drawFree_dirs : (s.drawFree).dirs = s.dirs := by cases s; rfl
@[simp] theorem State.drawFree_dirAge : (s.drawFree).dirAge = s.dirAge := by cases s; rfl
@[simp] theorem State.drawFree_txns : (s.drawFree).txns = s.txns := by cases s; rfl
@[simp] theorem State.drawFree_lineQ : (s.drawFree).lineQ = s.lineQ := by cases s; rfl
@[simp] theorem State.drawFree_net : (s.drawFree).net = s.net := by cases s; rfl
@[simp] theorem State.drawFree_rlines : (s.drawFree).rlines = s.rlines := by cases s; rfl
@[simp] theorem State.drawFree_later : (s.drawFree).later = s.later := by cases s; rfl
@[simp] theorem State.drawFree_stk : (s.drawFree).stk = s.stk := by cases s; rfl
@[simp] theorem State.drawFree_tier : (s.drawFree).tier = s.tier := by cases s; rfl
@[simp] theorem State.drawFree_ctxs : (s.drawFree).ctxs = s.ctxs := by cases s; rfl
@[simp] theorem State.drawFree_faults : (s.drawFree).faults = s.faults := by cases s; rfl
@[simp] theorem State.drawFree_unfiled : (s.drawFree).unfiled = s.unfiled := by cases s; rfl
@[simp] theorem State.drawFree_hatches : (s.drawFree).hatches = s.hatches := by cases s; rfl
@[simp] theorem State.drawFree_pairs : (s.drawFree).pairs = s.pairs := by cases s; rfl
@[simp] theorem State.drawFree_reads : (s.drawFree).reads = s.reads := by cases s; rfl
@[simp] theorem State.drawFree_backlog : (s.drawFree).backlog = s.backlog := by cases s; rfl
@[simp] theorem State.drawFree_epochs : (s.drawFree).epochs = s.epochs := by cases s; rfl
@[simp] theorem State.drawFree_modes : (s.drawFree).modes = s.modes := by cases s; rfl
@[simp] theorem State.drawFree_fleet : (s.drawFree).fleet = s.fleet := by cases s; rfl
@[simp] theorem State.drawFree_ctl : (s.drawFree).ctl = s.ctl := by cases s; rfl
@[simp] theorem State.drawFree_mgmt : (s.drawFree).mgmt = s.mgmt := by cases s; rfl
@[simp] theorem State.drawFree_cores : (s.drawFree).cores = s.cores := by cases s; rfl
@[simp] theorem State.drawFree_resv : (s.drawFree).resv = s.resv := by cases s; rfl
@[simp] theorem State.drawFree_todo : (s.drawFree).todo = s.todo := by cases s; rfl
@[simp] theorem State.drawFree_out : (s.drawFree).out = s.out := by cases s; rfl

@[simp] theorem State.emit_pending (o : Out) : (s.emit o).pending = s.pending := by cases s; rfl
@[simp] theorem State.emit_house (o : Out) : (s.emit o).house = s.house := by cases s; rfl
@[simp] theorem State.emit_free (o : Out) : (s.emit o).free = s.free := by cases s; rfl
@[simp] theorem State.emit_porch (o : Out) : (s.emit o).porch = s.porch := by cases s; rfl
@[simp] theorem State.emit_regs (o : Out) : (s.emit o).regs = s.regs := by cases s; rfl
@[simp] theorem State.emit_od (o : Out) : (s.emit o).od = s.od := by cases s; rfl
@[simp] theorem State.emit_blobs (o : Out) : (s.emit o).blobs = s.blobs := by cases s; rfl
@[simp] theorem State.emit_mem (o : Out) : (s.emit o).mem = s.mem := by cases s; rfl
@[simp] theorem State.emit_code (o : Out) : (s.emit o).code = s.code := by cases s; rfl
@[simp] theorem State.emit_rooms (o : Out) : (s.emit o).rooms = s.rooms := by cases s; rfl
@[simp] theorem State.emit_wings (o : Out) : (s.emit o).wings = s.wings := by cases s; rfl
@[simp] theorem State.emit_dies (o : Out) : (s.emit o).dies = s.dies := by cases s; rfl
@[simp] theorem State.emit_caches (o : Out) : (s.emit o).caches = s.caches := by cases s; rfl
@[simp] theorem State.emit_dirs (o : Out) : (s.emit o).dirs = s.dirs := by cases s; rfl
@[simp] theorem State.emit_dirAge (o : Out) : (s.emit o).dirAge = s.dirAge := by cases s; rfl
@[simp] theorem State.emit_txns (o : Out) : (s.emit o).txns = s.txns := by cases s; rfl
@[simp] theorem State.emit_lineQ (o : Out) : (s.emit o).lineQ = s.lineQ := by cases s; rfl
@[simp] theorem State.emit_net (o : Out) : (s.emit o).net = s.net := by cases s; rfl
@[simp] theorem State.emit_rlines (o : Out) : (s.emit o).rlines = s.rlines := by cases s; rfl
@[simp] theorem State.emit_later (o : Out) : (s.emit o).later = s.later := by cases s; rfl
@[simp] theorem State.emit_stk (o : Out) : (s.emit o).stk = s.stk := by cases s; rfl
@[simp] theorem State.emit_tier (o : Out) : (s.emit o).tier = s.tier := by cases s; rfl
@[simp] theorem State.emit_ctxs (o : Out) : (s.emit o).ctxs = s.ctxs := by cases s; rfl
@[simp] theorem State.emit_faults (o : Out) : (s.emit o).faults = s.faults := by cases s; rfl
@[simp] theorem State.emit_unfiled (o : Out) : (s.emit o).unfiled = s.unfiled := by cases s; rfl
@[simp] theorem State.emit_hatches (o : Out) : (s.emit o).hatches = s.hatches := by cases s; rfl
@[simp] theorem State.emit_pairs (o : Out) : (s.emit o).pairs = s.pairs := by cases s; rfl
@[simp] theorem State.emit_reads (o : Out) : (s.emit o).reads = s.reads := by cases s; rfl
@[simp] theorem State.emit_backlog (o : Out) : (s.emit o).backlog = s.backlog := by cases s; rfl
@[simp] theorem State.emit_epochs (o : Out) : (s.emit o).epochs = s.epochs := by cases s; rfl
@[simp] theorem State.emit_modes (o : Out) : (s.emit o).modes = s.modes := by cases s; rfl
@[simp] theorem State.emit_fleet (o : Out) : (s.emit o).fleet = s.fleet := by cases s; rfl
@[simp] theorem State.emit_ctl (o : Out) : (s.emit o).ctl = s.ctl := by cases s; rfl
@[simp] theorem State.emit_mgmt (o : Out) : (s.emit o).mgmt = s.mgmt := by cases s; rfl
@[simp] theorem State.emit_cores (o : Out) : (s.emit o).cores = s.cores := by cases s; rfl
@[simp] theorem State.emit_resv (o : Out) : (s.emit o).resv = s.resv := by cases s; rfl
@[simp] theorem State.emit_todo (o : Out) : (s.emit o).todo = s.todo := by cases s; rfl

@[simp] theorem State.setQf_pending (w q o hi lo v : Nat) : (s.setQf w q o hi lo v).pending = s.pending := by cases s; rfl
@[simp] theorem State.setQf_house (w q o hi lo v : Nat) : (s.setQf w q o hi lo v).house = s.house := by cases s; rfl
@[simp] theorem State.setQf_free (w q o hi lo v : Nat) : (s.setQf w q o hi lo v).free = s.free := by cases s; rfl
@[simp] theorem State.setQf_porch (w q o hi lo v : Nat) : (s.setQf w q o hi lo v).porch = s.porch := by cases s; rfl
@[simp] theorem State.setQf_od (w q o hi lo v : Nat) : (s.setQf w q o hi lo v).od = s.od := by cases s; rfl
@[simp] theorem State.setQf_blobs (w q o hi lo v : Nat) : (s.setQf w q o hi lo v).blobs = s.blobs := by cases s; rfl
@[simp] theorem State.setQf_mem (w q o hi lo v : Nat) : (s.setQf w q o hi lo v).mem = s.mem := by cases s; rfl
@[simp] theorem State.setQf_code (w q o hi lo v : Nat) : (s.setQf w q o hi lo v).code = s.code := by cases s; rfl
@[simp] theorem State.setQf_rooms (w q o hi lo v : Nat) : (s.setQf w q o hi lo v).rooms = s.rooms := by cases s; rfl
@[simp] theorem State.setQf_wings (w q o hi lo v : Nat) : (s.setQf w q o hi lo v).wings = s.wings := by cases s; rfl
@[simp] theorem State.setQf_dies (w q o hi lo v : Nat) : (s.setQf w q o hi lo v).dies = s.dies := by cases s; rfl
@[simp] theorem State.setQf_caches (w q o hi lo v : Nat) : (s.setQf w q o hi lo v).caches = s.caches := by cases s; rfl
@[simp] theorem State.setQf_dirs (w q o hi lo v : Nat) : (s.setQf w q o hi lo v).dirs = s.dirs := by cases s; rfl
@[simp] theorem State.setQf_dirAge (w q o hi lo v : Nat) : (s.setQf w q o hi lo v).dirAge = s.dirAge := by cases s; rfl
@[simp] theorem State.setQf_txns (w q o hi lo v : Nat) : (s.setQf w q o hi lo v).txns = s.txns := by cases s; rfl
@[simp] theorem State.setQf_lineQ (w q o hi lo v : Nat) : (s.setQf w q o hi lo v).lineQ = s.lineQ := by cases s; rfl
@[simp] theorem State.setQf_net (w q o hi lo v : Nat) : (s.setQf w q o hi lo v).net = s.net := by cases s; rfl
@[simp] theorem State.setQf_rlines (w q o hi lo v : Nat) : (s.setQf w q o hi lo v).rlines = s.rlines := by cases s; rfl
@[simp] theorem State.setQf_later (w q o hi lo v : Nat) : (s.setQf w q o hi lo v).later = s.later := by cases s; rfl
@[simp] theorem State.setQf_stk (w q o hi lo v : Nat) : (s.setQf w q o hi lo v).stk = s.stk := by cases s; rfl
@[simp] theorem State.setQf_tier (w q o hi lo v : Nat) : (s.setQf w q o hi lo v).tier = s.tier := by cases s; rfl
@[simp] theorem State.setQf_ctxs (w q o hi lo v : Nat) : (s.setQf w q o hi lo v).ctxs = s.ctxs := by cases s; rfl
@[simp] theorem State.setQf_faults (w q o hi lo v : Nat) : (s.setQf w q o hi lo v).faults = s.faults := by cases s; rfl
@[simp] theorem State.setQf_unfiled (w q o hi lo v : Nat) : (s.setQf w q o hi lo v).unfiled = s.unfiled := by cases s; rfl
@[simp] theorem State.setQf_hatches (w q o hi lo v : Nat) : (s.setQf w q o hi lo v).hatches = s.hatches := by cases s; rfl
@[simp] theorem State.setQf_pairs (w q o hi lo v : Nat) : (s.setQf w q o hi lo v).pairs = s.pairs := by cases s; rfl
@[simp] theorem State.setQf_reads (w q o hi lo v : Nat) : (s.setQf w q o hi lo v).reads = s.reads := by cases s; rfl
@[simp] theorem State.setQf_backlog (w q o hi lo v : Nat) : (s.setQf w q o hi lo v).backlog = s.backlog := by cases s; rfl
@[simp] theorem State.setQf_epochs (w q o hi lo v : Nat) : (s.setQf w q o hi lo v).epochs = s.epochs := by cases s; rfl
@[simp] theorem State.setQf_modes (w q o hi lo v : Nat) : (s.setQf w q o hi lo v).modes = s.modes := by cases s; rfl
@[simp] theorem State.setQf_fleet (w q o hi lo v : Nat) : (s.setQf w q o hi lo v).fleet = s.fleet := by cases s; rfl
@[simp] theorem State.setQf_ctl (w q o hi lo v : Nat) : (s.setQf w q o hi lo v).ctl = s.ctl := by cases s; rfl
@[simp] theorem State.setQf_mgmt (w q o hi lo v : Nat) : (s.setQf w q o hi lo v).mgmt = s.mgmt := by cases s; rfl
@[simp] theorem State.setQf_cores (w q o hi lo v : Nat) : (s.setQf w q o hi lo v).cores = s.cores := by cases s; rfl
@[simp] theorem State.setQf_resv (w q o hi lo v : Nat) : (s.setQf w q o hi lo v).resv = s.resv := by cases s; rfl
@[simp] theorem State.setQf_todo (w q o hi lo v : Nat) : (s.setQf w q o hi lo v).todo = s.todo := by cases s; rfl
@[simp] theorem State.setQf_out (w q o hi lo v : Nat) : (s.setQf w q o hi lo v).out = s.out := by cases s; rfl

@[simp] theorem State.setVe_pending (g : Nat) (e : VEngine) : (s.setVe g e).pending = s.pending := by cases s; rfl
@[simp] theorem State.setVe_house (g : Nat) (e : VEngine) : (s.setVe g e).house = s.house := by cases s; rfl
@[simp] theorem State.setVe_free (g : Nat) (e : VEngine) : (s.setVe g e).free = s.free := by cases s; rfl
@[simp] theorem State.setVe_porch (g : Nat) (e : VEngine) : (s.setVe g e).porch = s.porch := by cases s; rfl
@[simp] theorem State.setVe_regs (g : Nat) (e : VEngine) : (s.setVe g e).regs = s.regs := by cases s; rfl
@[simp] theorem State.setVe_od (g : Nat) (e : VEngine) : (s.setVe g e).od = s.od := by cases s; rfl
@[simp] theorem State.setVe_blobs (g : Nat) (e : VEngine) : (s.setVe g e).blobs = s.blobs := by cases s; rfl
@[simp] theorem State.setVe_mem (g : Nat) (e : VEngine) : (s.setVe g e).mem = s.mem := by cases s; rfl
@[simp] theorem State.setVe_code (g : Nat) (e : VEngine) : (s.setVe g e).code = s.code := by cases s; rfl
@[simp] theorem State.setVe_wings (g : Nat) (e : VEngine) : (s.setVe g e).wings = s.wings := by cases s; rfl
@[simp] theorem State.setVe_dies (g : Nat) (e : VEngine) : (s.setVe g e).dies = s.dies := by cases s; rfl
@[simp] theorem State.setVe_caches (g : Nat) (e : VEngine) : (s.setVe g e).caches = s.caches := by cases s; rfl
@[simp] theorem State.setVe_dirs (g : Nat) (e : VEngine) : (s.setVe g e).dirs = s.dirs := by cases s; rfl
@[simp] theorem State.setVe_dirAge (g : Nat) (e : VEngine) : (s.setVe g e).dirAge = s.dirAge := by cases s; rfl
@[simp] theorem State.setVe_txns (g : Nat) (e : VEngine) : (s.setVe g e).txns = s.txns := by cases s; rfl
@[simp] theorem State.setVe_lineQ (g : Nat) (e : VEngine) : (s.setVe g e).lineQ = s.lineQ := by cases s; rfl
@[simp] theorem State.setVe_net (g : Nat) (e : VEngine) : (s.setVe g e).net = s.net := by cases s; rfl
@[simp] theorem State.setVe_rlines (g : Nat) (e : VEngine) : (s.setVe g e).rlines = s.rlines := by cases s; rfl
@[simp] theorem State.setVe_later (g : Nat) (e : VEngine) : (s.setVe g e).later = s.later := by cases s; rfl
@[simp] theorem State.setVe_stk (g : Nat) (e : VEngine) : (s.setVe g e).stk = s.stk := by cases s; rfl
@[simp] theorem State.setVe_tier (g : Nat) (e : VEngine) : (s.setVe g e).tier = s.tier := by cases s; rfl
@[simp] theorem State.setVe_ctxs (g : Nat) (e : VEngine) : (s.setVe g e).ctxs = s.ctxs := by cases s; rfl
@[simp] theorem State.setVe_faults (g : Nat) (e : VEngine) : (s.setVe g e).faults = s.faults := by cases s; rfl
@[simp] theorem State.setVe_unfiled (g : Nat) (e : VEngine) : (s.setVe g e).unfiled = s.unfiled := by cases s; rfl
@[simp] theorem State.setVe_hatches (g : Nat) (e : VEngine) : (s.setVe g e).hatches = s.hatches := by cases s; rfl
@[simp] theorem State.setVe_pairs (g : Nat) (e : VEngine) : (s.setVe g e).pairs = s.pairs := by cases s; rfl
@[simp] theorem State.setVe_reads (g : Nat) (e : VEngine) : (s.setVe g e).reads = s.reads := by cases s; rfl
@[simp] theorem State.setVe_backlog (g : Nat) (e : VEngine) : (s.setVe g e).backlog = s.backlog := by cases s; rfl
@[simp] theorem State.setVe_epochs (g : Nat) (e : VEngine) : (s.setVe g e).epochs = s.epochs := by cases s; rfl
@[simp] theorem State.setVe_modes (g : Nat) (e : VEngine) : (s.setVe g e).modes = s.modes := by cases s; rfl
@[simp] theorem State.setVe_fleet (g : Nat) (e : VEngine) : (s.setVe g e).fleet = s.fleet := by cases s; rfl
@[simp] theorem State.setVe_ctl (g : Nat) (e : VEngine) : (s.setVe g e).ctl = s.ctl := by cases s; rfl
@[simp] theorem State.setVe_mgmt (g : Nat) (e : VEngine) : (s.setVe g e).mgmt = s.mgmt := by cases s; rfl
@[simp] theorem State.setVe_cores (g : Nat) (e : VEngine) : (s.setVe g e).cores = s.cores := by cases s; rfl
@[simp] theorem State.setVe_resv (g : Nat) (e : VEngine) : (s.setVe g e).resv = s.resv := by cases s; rfl
@[simp] theorem State.setVe_todo (g : Nat) (e : VEngine) : (s.setVe g e).todo = s.todo := by cases s; rfl
@[simp] theorem State.setVe_out (g : Nat) (e : VEngine) : (s.setVe g e).out = s.out := by cases s; rfl

@[simp] theorem State.setPorch_pending (p : Porch) : (s.setPorch p).pending = s.pending := by cases s; rfl
@[simp] theorem State.setPorch_house (p : Porch) : (s.setPorch p).house = s.house := by cases s; rfl
@[simp] theorem State.setPorch_free (p : Porch) : (s.setPorch p).free = s.free := by cases s; rfl
@[simp] theorem State.setPorch_regs (p : Porch) : (s.setPorch p).regs = s.regs := by cases s; rfl
@[simp] theorem State.setPorch_od (p : Porch) : (s.setPorch p).od = s.od := by cases s; rfl
@[simp] theorem State.setPorch_blobs (p : Porch) : (s.setPorch p).blobs = s.blobs := by cases s; rfl
@[simp] theorem State.setPorch_mem (p : Porch) : (s.setPorch p).mem = s.mem := by cases s; rfl
@[simp] theorem State.setPorch_code (p : Porch) : (s.setPorch p).code = s.code := by cases s; rfl
@[simp] theorem State.setPorch_rooms (p : Porch) : (s.setPorch p).rooms = s.rooms := by cases s; rfl
@[simp] theorem State.setPorch_wings (p : Porch) : (s.setPorch p).wings = s.wings := by cases s; rfl
@[simp] theorem State.setPorch_dies (p : Porch) : (s.setPorch p).dies = s.dies := by cases s; rfl
@[simp] theorem State.setPorch_caches (p : Porch) : (s.setPorch p).caches = s.caches := by cases s; rfl
@[simp] theorem State.setPorch_dirs (p : Porch) : (s.setPorch p).dirs = s.dirs := by cases s; rfl
@[simp] theorem State.setPorch_dirAge (p : Porch) : (s.setPorch p).dirAge = s.dirAge := by cases s; rfl
@[simp] theorem State.setPorch_txns (p : Porch) : (s.setPorch p).txns = s.txns := by cases s; rfl
@[simp] theorem State.setPorch_lineQ (p : Porch) : (s.setPorch p).lineQ = s.lineQ := by cases s; rfl
@[simp] theorem State.setPorch_net (p : Porch) : (s.setPorch p).net = s.net := by cases s; rfl
@[simp] theorem State.setPorch_rlines (p : Porch) : (s.setPorch p).rlines = s.rlines := by cases s; rfl
@[simp] theorem State.setPorch_later (p : Porch) : (s.setPorch p).later = s.later := by cases s; rfl
@[simp] theorem State.setPorch_stk (p : Porch) : (s.setPorch p).stk = s.stk := by cases s; rfl
@[simp] theorem State.setPorch_tier (p : Porch) : (s.setPorch p).tier = s.tier := by cases s; rfl
@[simp] theorem State.setPorch_ctxs (p : Porch) : (s.setPorch p).ctxs = s.ctxs := by cases s; rfl
@[simp] theorem State.setPorch_faults (p : Porch) : (s.setPorch p).faults = s.faults := by cases s; rfl
@[simp] theorem State.setPorch_unfiled (p : Porch) : (s.setPorch p).unfiled = s.unfiled := by cases s; rfl
@[simp] theorem State.setPorch_hatches (p : Porch) : (s.setPorch p).hatches = s.hatches := by cases s; rfl
@[simp] theorem State.setPorch_pairs (p : Porch) : (s.setPorch p).pairs = s.pairs := by cases s; rfl
@[simp] theorem State.setPorch_reads (p : Porch) : (s.setPorch p).reads = s.reads := by cases s; rfl
@[simp] theorem State.setPorch_backlog (p : Porch) : (s.setPorch p).backlog = s.backlog := by cases s; rfl
@[simp] theorem State.setPorch_epochs (p : Porch) : (s.setPorch p).epochs = s.epochs := by cases s; rfl
@[simp] theorem State.setPorch_modes (p : Porch) : (s.setPorch p).modes = s.modes := by cases s; rfl
@[simp] theorem State.setPorch_fleet (p : Porch) : (s.setPorch p).fleet = s.fleet := by cases s; rfl
@[simp] theorem State.setPorch_ctl (p : Porch) : (s.setPorch p).ctl = s.ctl := by cases s; rfl
@[simp] theorem State.setPorch_mgmt (p : Porch) : (s.setPorch p).mgmt = s.mgmt := by cases s; rfl
@[simp] theorem State.setPorch_cores (p : Porch) : (s.setPorch p).cores = s.cores := by cases s; rfl
@[simp] theorem State.setPorch_resv (p : Porch) : (s.setPorch p).resv = s.resv := by cases s; rfl
@[simp] theorem State.setPorch_todo (p : Porch) : (s.setPorch p).todo = s.todo := by cases s; rfl
@[simp] theorem State.setPorch_out (p : Porch) : (s.setPorch p).out = s.out := by cases s; rfl

@[simp] theorem State.setCtl_pending (c : Control) : (s.setCtl c).pending = s.pending := by cases s; rfl
@[simp] theorem State.setCtl_house (c : Control) : (s.setCtl c).house = s.house := by cases s; rfl
@[simp] theorem State.setCtl_free (c : Control) : (s.setCtl c).free = s.free := by cases s; rfl
@[simp] theorem State.setCtl_porch (c : Control) : (s.setCtl c).porch = s.porch := by cases s; rfl
@[simp] theorem State.setCtl_regs (c : Control) : (s.setCtl c).regs = s.regs := by cases s; rfl
@[simp] theorem State.setCtl_od (c : Control) : (s.setCtl c).od = s.od := by cases s; rfl
@[simp] theorem State.setCtl_blobs (c : Control) : (s.setCtl c).blobs = s.blobs := by cases s; rfl
@[simp] theorem State.setCtl_mem (c : Control) : (s.setCtl c).mem = s.mem := by cases s; rfl
@[simp] theorem State.setCtl_code (c : Control) : (s.setCtl c).code = s.code := by cases s; rfl
@[simp] theorem State.setCtl_rooms (c : Control) : (s.setCtl c).rooms = s.rooms := by cases s; rfl
@[simp] theorem State.setCtl_wings (c : Control) : (s.setCtl c).wings = s.wings := by cases s; rfl
@[simp] theorem State.setCtl_dies (c : Control) : (s.setCtl c).dies = s.dies := by cases s; rfl
@[simp] theorem State.setCtl_caches (c : Control) : (s.setCtl c).caches = s.caches := by cases s; rfl
@[simp] theorem State.setCtl_dirs (c : Control) : (s.setCtl c).dirs = s.dirs := by cases s; rfl
@[simp] theorem State.setCtl_dirAge (c : Control) : (s.setCtl c).dirAge = s.dirAge := by cases s; rfl
@[simp] theorem State.setCtl_txns (c : Control) : (s.setCtl c).txns = s.txns := by cases s; rfl
@[simp] theorem State.setCtl_lineQ (c : Control) : (s.setCtl c).lineQ = s.lineQ := by cases s; rfl
@[simp] theorem State.setCtl_net (c : Control) : (s.setCtl c).net = s.net := by cases s; rfl
@[simp] theorem State.setCtl_rlines (c : Control) : (s.setCtl c).rlines = s.rlines := by cases s; rfl
@[simp] theorem State.setCtl_later (c : Control) : (s.setCtl c).later = s.later := by cases s; rfl
@[simp] theorem State.setCtl_stk (c : Control) : (s.setCtl c).stk = s.stk := by cases s; rfl
@[simp] theorem State.setCtl_tier (c : Control) : (s.setCtl c).tier = s.tier := by cases s; rfl
@[simp] theorem State.setCtl_ctxs (c : Control) : (s.setCtl c).ctxs = s.ctxs := by cases s; rfl
@[simp] theorem State.setCtl_faults (c : Control) : (s.setCtl c).faults = s.faults := by cases s; rfl
@[simp] theorem State.setCtl_unfiled (c : Control) : (s.setCtl c).unfiled = s.unfiled := by cases s; rfl
@[simp] theorem State.setCtl_hatches (c : Control) : (s.setCtl c).hatches = s.hatches := by cases s; rfl
@[simp] theorem State.setCtl_pairs (c : Control) : (s.setCtl c).pairs = s.pairs := by cases s; rfl
@[simp] theorem State.setCtl_reads (c : Control) : (s.setCtl c).reads = s.reads := by cases s; rfl
@[simp] theorem State.setCtl_backlog (c : Control) : (s.setCtl c).backlog = s.backlog := by cases s; rfl
@[simp] theorem State.setCtl_epochs (c : Control) : (s.setCtl c).epochs = s.epochs := by cases s; rfl
@[simp] theorem State.setCtl_modes (c : Control) : (s.setCtl c).modes = s.modes := by cases s; rfl
@[simp] theorem State.setCtl_fleet (c : Control) : (s.setCtl c).fleet = s.fleet := by cases s; rfl
@[simp] theorem State.setCtl_mgmt (c : Control) : (s.setCtl c).mgmt = s.mgmt := by cases s; rfl
@[simp] theorem State.setCtl_cores (c : Control) : (s.setCtl c).cores = s.cores := by cases s; rfl
@[simp] theorem State.setCtl_resv (c : Control) : (s.setCtl c).resv = s.resv := by cases s; rfl
@[simp] theorem State.setCtl_todo (c : Control) : (s.setCtl c).todo = s.todo := by cases s; rfl
@[simp] theorem State.setCtl_out (c : Control) : (s.setCtl c).out = s.out := by cases s; rfl

@[simp] theorem State.answer_pending (core : Nat) (a : CoreAnswer) : (s.answer core a).pending = s.pending := by cases s; rfl
@[simp] theorem State.answer_house (core : Nat) (a : CoreAnswer) : (s.answer core a).house = s.house := by cases s; rfl
@[simp] theorem State.answer_free (core : Nat) (a : CoreAnswer) : (s.answer core a).free = s.free := by cases s; rfl
@[simp] theorem State.answer_porch (core : Nat) (a : CoreAnswer) : (s.answer core a).porch = s.porch := by cases s; rfl
@[simp] theorem State.answer_regs (core : Nat) (a : CoreAnswer) : (s.answer core a).regs = s.regs := by cases s; rfl
@[simp] theorem State.answer_od (core : Nat) (a : CoreAnswer) : (s.answer core a).od = s.od := by cases s; rfl
@[simp] theorem State.answer_blobs (core : Nat) (a : CoreAnswer) : (s.answer core a).blobs = s.blobs := by cases s; rfl
@[simp] theorem State.answer_mem (core : Nat) (a : CoreAnswer) : (s.answer core a).mem = s.mem := by cases s; rfl
@[simp] theorem State.answer_code (core : Nat) (a : CoreAnswer) : (s.answer core a).code = s.code := by cases s; rfl
@[simp] theorem State.answer_rooms (core : Nat) (a : CoreAnswer) : (s.answer core a).rooms = s.rooms := by cases s; rfl
@[simp] theorem State.answer_wings (core : Nat) (a : CoreAnswer) : (s.answer core a).wings = s.wings := by cases s; rfl
@[simp] theorem State.answer_dies (core : Nat) (a : CoreAnswer) : (s.answer core a).dies = s.dies := by cases s; rfl
@[simp] theorem State.answer_caches (core : Nat) (a : CoreAnswer) : (s.answer core a).caches = s.caches := by cases s; rfl
@[simp] theorem State.answer_dirs (core : Nat) (a : CoreAnswer) : (s.answer core a).dirs = s.dirs := by cases s; rfl
@[simp] theorem State.answer_dirAge (core : Nat) (a : CoreAnswer) : (s.answer core a).dirAge = s.dirAge := by cases s; rfl
@[simp] theorem State.answer_txns (core : Nat) (a : CoreAnswer) : (s.answer core a).txns = s.txns := by cases s; rfl
@[simp] theorem State.answer_lineQ (core : Nat) (a : CoreAnswer) : (s.answer core a).lineQ = s.lineQ := by cases s; rfl
@[simp] theorem State.answer_net (core : Nat) (a : CoreAnswer) : (s.answer core a).net = s.net := by cases s; rfl
@[simp] theorem State.answer_rlines (core : Nat) (a : CoreAnswer) : (s.answer core a).rlines = s.rlines := by cases s; rfl
@[simp] theorem State.answer_later (core : Nat) (a : CoreAnswer) : (s.answer core a).later = s.later := by cases s; rfl
@[simp] theorem State.answer_stk (core : Nat) (a : CoreAnswer) : (s.answer core a).stk = s.stk := by cases s; rfl
@[simp] theorem State.answer_tier (core : Nat) (a : CoreAnswer) : (s.answer core a).tier = s.tier := by cases s; rfl
@[simp] theorem State.answer_ctxs (core : Nat) (a : CoreAnswer) : (s.answer core a).ctxs = s.ctxs := by cases s; rfl
@[simp] theorem State.answer_faults (core : Nat) (a : CoreAnswer) : (s.answer core a).faults = s.faults := by cases s; rfl
@[simp] theorem State.answer_unfiled (core : Nat) (a : CoreAnswer) : (s.answer core a).unfiled = s.unfiled := by cases s; rfl
@[simp] theorem State.answer_hatches (core : Nat) (a : CoreAnswer) : (s.answer core a).hatches = s.hatches := by cases s; rfl
@[simp] theorem State.answer_pairs (core : Nat) (a : CoreAnswer) : (s.answer core a).pairs = s.pairs := by cases s; rfl
@[simp] theorem State.answer_reads (core : Nat) (a : CoreAnswer) : (s.answer core a).reads = s.reads := by cases s; rfl
@[simp] theorem State.answer_backlog (core : Nat) (a : CoreAnswer) : (s.answer core a).backlog = s.backlog := by cases s; rfl
@[simp] theorem State.answer_epochs (core : Nat) (a : CoreAnswer) : (s.answer core a).epochs = s.epochs := by cases s; rfl
@[simp] theorem State.answer_modes (core : Nat) (a : CoreAnswer) : (s.answer core a).modes = s.modes := by cases s; rfl
@[simp] theorem State.answer_fleet (core : Nat) (a : CoreAnswer) : (s.answer core a).fleet = s.fleet := by cases s; rfl
@[simp] theorem State.answer_ctl (core : Nat) (a : CoreAnswer) : (s.answer core a).ctl = s.ctl := by cases s; rfl
@[simp] theorem State.answer_mgmt (core : Nat) (a : CoreAnswer) : (s.answer core a).mgmt = s.mgmt := by cases s; rfl
@[simp] theorem State.answer_resv (core : Nat) (a : CoreAnswer) : (s.answer core a).resv = s.resv := by cases s; rfl
@[simp] theorem State.answer_todo (core : Nat) (a : CoreAnswer) : (s.answer core a).todo = s.todo := by cases s; rfl
@[simp] theorem State.answer_out (core : Nat) (a : CoreAnswer) : (s.answer core a).out = s.out := by cases s; rfl

@[simp] theorem State.setSessions_pending (l : List Session) : (s.setSessions l).pending = s.pending := by cases s; rfl
@[simp] theorem State.setSessions_house (l : List Session) : (s.setSessions l).house = s.house := by cases s; rfl
@[simp] theorem State.setSessions_free (l : List Session) : (s.setSessions l).free = s.free := by cases s; rfl
@[simp] theorem State.setSessions_porch (l : List Session) : (s.setSessions l).porch = s.porch := by cases s; rfl
@[simp] theorem State.setSessions_regs (l : List Session) : (s.setSessions l).regs = s.regs := by cases s; rfl
@[simp] theorem State.setSessions_od (l : List Session) : (s.setSessions l).od = s.od := by cases s; rfl
@[simp] theorem State.setSessions_blobs (l : List Session) : (s.setSessions l).blobs = s.blobs := by cases s; rfl
@[simp] theorem State.setSessions_mem (l : List Session) : (s.setSessions l).mem = s.mem := by cases s; rfl
@[simp] theorem State.setSessions_code (l : List Session) : (s.setSessions l).code = s.code := by cases s; rfl
@[simp] theorem State.setSessions_rooms (l : List Session) : (s.setSessions l).rooms = s.rooms := by cases s; rfl
@[simp] theorem State.setSessions_wings (l : List Session) : (s.setSessions l).wings = s.wings := by cases s; rfl
@[simp] theorem State.setSessions_dies (l : List Session) : (s.setSessions l).dies = s.dies := by cases s; rfl
@[simp] theorem State.setSessions_caches (l : List Session) : (s.setSessions l).caches = s.caches := by cases s; rfl
@[simp] theorem State.setSessions_dirs (l : List Session) : (s.setSessions l).dirs = s.dirs := by cases s; rfl
@[simp] theorem State.setSessions_dirAge (l : List Session) : (s.setSessions l).dirAge = s.dirAge := by cases s; rfl
@[simp] theorem State.setSessions_txns (l : List Session) : (s.setSessions l).txns = s.txns := by cases s; rfl
@[simp] theorem State.setSessions_lineQ (l : List Session) : (s.setSessions l).lineQ = s.lineQ := by cases s; rfl
@[simp] theorem State.setSessions_net (l : List Session) : (s.setSessions l).net = s.net := by cases s; rfl
@[simp] theorem State.setSessions_rlines (l : List Session) : (s.setSessions l).rlines = s.rlines := by cases s; rfl
@[simp] theorem State.setSessions_later (l : List Session) : (s.setSessions l).later = s.later := by cases s; rfl
@[simp] theorem State.setSessions_stk (l : List Session) : (s.setSessions l).stk = s.stk := by cases s; rfl
@[simp] theorem State.setSessions_tier (l : List Session) : (s.setSessions l).tier = s.tier := by cases s; rfl
@[simp] theorem State.setSessions_ctxs (l : List Session) : (s.setSessions l).ctxs = s.ctxs := by cases s; rfl
@[simp] theorem State.setSessions_faults (l : List Session) : (s.setSessions l).faults = s.faults := by cases s; rfl
@[simp] theorem State.setSessions_unfiled (l : List Session) : (s.setSessions l).unfiled = s.unfiled := by cases s; rfl
@[simp] theorem State.setSessions_hatches (l : List Session) : (s.setSessions l).hatches = s.hatches := by cases s; rfl
@[simp] theorem State.setSessions_pairs (l : List Session) : (s.setSessions l).pairs = s.pairs := by cases s; rfl
@[simp] theorem State.setSessions_reads (l : List Session) : (s.setSessions l).reads = s.reads := by cases s; rfl
@[simp] theorem State.setSessions_backlog (l : List Session) : (s.setSessions l).backlog = s.backlog := by cases s; rfl
@[simp] theorem State.setSessions_epochs (l : List Session) : (s.setSessions l).epochs = s.epochs := by cases s; rfl
@[simp] theorem State.setSessions_modes (l : List Session) : (s.setSessions l).modes = s.modes := by cases s; rfl
@[simp] theorem State.setSessions_fleet (l : List Session) : (s.setSessions l).fleet = s.fleet := by cases s; rfl
@[simp] theorem State.setSessions_ctl (l : List Session) : (s.setSessions l).ctl = s.ctl := by cases s; rfl
@[simp] theorem State.setSessions_cores (l : List Session) : (s.setSessions l).cores = s.cores := by cases s; rfl
@[simp] theorem State.setSessions_resv (l : List Session) : (s.setSessions l).resv = s.resv := by cases s; rfl
@[simp] theorem State.setSessions_todo (l : List Session) : (s.setSessions l).todo = s.todo := by cases s; rfl
@[simp] theorem State.setSessions_out (l : List Session) : (s.setSessions l).out = s.out := by cases s; rfl

@[simp] theorem State.loseResv_pending (line : Nat) : (s.loseResv line).pending = s.pending := by cases s; rfl
@[simp] theorem State.loseResv_house (line : Nat) : (s.loseResv line).house = s.house := by cases s; rfl
@[simp] theorem State.loseResv_free (line : Nat) : (s.loseResv line).free = s.free := by cases s; rfl
@[simp] theorem State.loseResv_porch (line : Nat) : (s.loseResv line).porch = s.porch := by cases s; rfl
@[simp] theorem State.loseResv_regs (line : Nat) : (s.loseResv line).regs = s.regs := by cases s; rfl
@[simp] theorem State.loseResv_od (line : Nat) : (s.loseResv line).od = s.od := by cases s; rfl
@[simp] theorem State.loseResv_blobs (line : Nat) : (s.loseResv line).blobs = s.blobs := by cases s; rfl
@[simp] theorem State.loseResv_mem (line : Nat) : (s.loseResv line).mem = s.mem := by cases s; rfl
@[simp] theorem State.loseResv_code (line : Nat) : (s.loseResv line).code = s.code := by cases s; rfl
@[simp] theorem State.loseResv_rooms (line : Nat) : (s.loseResv line).rooms = s.rooms := by cases s; rfl
@[simp] theorem State.loseResv_wings (line : Nat) : (s.loseResv line).wings = s.wings := by cases s; rfl
@[simp] theorem State.loseResv_dies (line : Nat) : (s.loseResv line).dies = s.dies := by cases s; rfl
@[simp] theorem State.loseResv_caches (line : Nat) : (s.loseResv line).caches = s.caches := by cases s; rfl
@[simp] theorem State.loseResv_dirs (line : Nat) : (s.loseResv line).dirs = s.dirs := by cases s; rfl
@[simp] theorem State.loseResv_dirAge (line : Nat) : (s.loseResv line).dirAge = s.dirAge := by cases s; rfl
@[simp] theorem State.loseResv_txns (line : Nat) : (s.loseResv line).txns = s.txns := by cases s; rfl
@[simp] theorem State.loseResv_lineQ (line : Nat) : (s.loseResv line).lineQ = s.lineQ := by cases s; rfl
@[simp] theorem State.loseResv_net (line : Nat) : (s.loseResv line).net = s.net := by cases s; rfl
@[simp] theorem State.loseResv_rlines (line : Nat) : (s.loseResv line).rlines = s.rlines := by cases s; rfl
@[simp] theorem State.loseResv_later (line : Nat) : (s.loseResv line).later = s.later := by cases s; rfl
@[simp] theorem State.loseResv_stk (line : Nat) : (s.loseResv line).stk = s.stk := by cases s; rfl
@[simp] theorem State.loseResv_tier (line : Nat) : (s.loseResv line).tier = s.tier := by cases s; rfl
@[simp] theorem State.loseResv_ctxs (line : Nat) : (s.loseResv line).ctxs = s.ctxs := by cases s; rfl
@[simp] theorem State.loseResv_faults (line : Nat) : (s.loseResv line).faults = s.faults := by cases s; rfl
@[simp] theorem State.loseResv_unfiled (line : Nat) : (s.loseResv line).unfiled = s.unfiled := by cases s; rfl
@[simp] theorem State.loseResv_hatches (line : Nat) : (s.loseResv line).hatches = s.hatches := by cases s; rfl
@[simp] theorem State.loseResv_pairs (line : Nat) : (s.loseResv line).pairs = s.pairs := by cases s; rfl
@[simp] theorem State.loseResv_reads (line : Nat) : (s.loseResv line).reads = s.reads := by cases s; rfl
@[simp] theorem State.loseResv_backlog (line : Nat) : (s.loseResv line).backlog = s.backlog := by cases s; rfl
@[simp] theorem State.loseResv_epochs (line : Nat) : (s.loseResv line).epochs = s.epochs := by cases s; rfl
@[simp] theorem State.loseResv_modes (line : Nat) : (s.loseResv line).modes = s.modes := by cases s; rfl
@[simp] theorem State.loseResv_fleet (line : Nat) : (s.loseResv line).fleet = s.fleet := by cases s; rfl
@[simp] theorem State.loseResv_ctl (line : Nat) : (s.loseResv line).ctl = s.ctl := by cases s; rfl
@[simp] theorem State.loseResv_mgmt (line : Nat) : (s.loseResv line).mgmt = s.mgmt := by cases s; rfl
@[simp] theorem State.loseResv_cores (line : Nat) : (s.loseResv line).cores = s.cores := by cases s; rfl
@[simp] theorem State.loseResv_todo (line : Nat) : (s.loseResv line).todo = s.todo := by cases s; rfl
@[simp] theorem State.loseResv_out (line : Nat) : (s.loseResv line).out = s.out := by cases s; rfl

@[simp] theorem State.storeWord_pending (pa : Nat) (x : BitVec 128) (δ : BitVec 16) : (s.storeWord pa x δ).pending = s.pending := by cases s; rfl
@[simp] theorem State.storeWord_house (pa : Nat) (x : BitVec 128) (δ : BitVec 16) : (s.storeWord pa x δ).house = s.house := by cases s; rfl
@[simp] theorem State.storeWord_free (pa : Nat) (x : BitVec 128) (δ : BitVec 16) : (s.storeWord pa x δ).free = s.free := by cases s; rfl
@[simp] theorem State.storeWord_porch (pa : Nat) (x : BitVec 128) (δ : BitVec 16) : (s.storeWord pa x δ).porch = s.porch := by cases s; rfl
@[simp] theorem State.storeWord_regs (pa : Nat) (x : BitVec 128) (δ : BitVec 16) : (s.storeWord pa x δ).regs = s.regs := by cases s; rfl
@[simp] theorem State.storeWord_od (pa : Nat) (x : BitVec 128) (δ : BitVec 16) : (s.storeWord pa x δ).od = s.od := by cases s; rfl
@[simp] theorem State.storeWord_blobs (pa : Nat) (x : BitVec 128) (δ : BitVec 16) : (s.storeWord pa x δ).blobs = s.blobs := by cases s; rfl
@[simp] theorem State.storeWord_rooms (pa : Nat) (x : BitVec 128) (δ : BitVec 16) : (s.storeWord pa x δ).rooms = s.rooms := by cases s; rfl
@[simp] theorem State.storeWord_wings (pa : Nat) (x : BitVec 128) (δ : BitVec 16) : (s.storeWord pa x δ).wings = s.wings := by cases s; rfl
@[simp] theorem State.storeWord_dies (pa : Nat) (x : BitVec 128) (δ : BitVec 16) : (s.storeWord pa x δ).dies = s.dies := by cases s; rfl
@[simp] theorem State.storeWord_caches (pa : Nat) (x : BitVec 128) (δ : BitVec 16) : (s.storeWord pa x δ).caches = s.caches := by cases s; rfl
@[simp] theorem State.storeWord_dirs (pa : Nat) (x : BitVec 128) (δ : BitVec 16) : (s.storeWord pa x δ).dirs = s.dirs := by cases s; rfl
@[simp] theorem State.storeWord_dirAge (pa : Nat) (x : BitVec 128) (δ : BitVec 16) : (s.storeWord pa x δ).dirAge = s.dirAge := by cases s; rfl
@[simp] theorem State.storeWord_txns (pa : Nat) (x : BitVec 128) (δ : BitVec 16) : (s.storeWord pa x δ).txns = s.txns := by cases s; rfl
@[simp] theorem State.storeWord_lineQ (pa : Nat) (x : BitVec 128) (δ : BitVec 16) : (s.storeWord pa x δ).lineQ = s.lineQ := by cases s; rfl
@[simp] theorem State.storeWord_net (pa : Nat) (x : BitVec 128) (δ : BitVec 16) : (s.storeWord pa x δ).net = s.net := by cases s; rfl
@[simp] theorem State.storeWord_rlines (pa : Nat) (x : BitVec 128) (δ : BitVec 16) : (s.storeWord pa x δ).rlines = s.rlines := by cases s; rfl
@[simp] theorem State.storeWord_later (pa : Nat) (x : BitVec 128) (δ : BitVec 16) : (s.storeWord pa x δ).later = s.later := by cases s; rfl
@[simp] theorem State.storeWord_stk (pa : Nat) (x : BitVec 128) (δ : BitVec 16) : (s.storeWord pa x δ).stk = s.stk := by cases s; rfl
@[simp] theorem State.storeWord_tier (pa : Nat) (x : BitVec 128) (δ : BitVec 16) : (s.storeWord pa x δ).tier = s.tier := by cases s; rfl
@[simp] theorem State.storeWord_ctxs (pa : Nat) (x : BitVec 128) (δ : BitVec 16) : (s.storeWord pa x δ).ctxs = s.ctxs := by cases s; rfl
@[simp] theorem State.storeWord_faults (pa : Nat) (x : BitVec 128) (δ : BitVec 16) : (s.storeWord pa x δ).faults = s.faults := by cases s; rfl
@[simp] theorem State.storeWord_unfiled (pa : Nat) (x : BitVec 128) (δ : BitVec 16) : (s.storeWord pa x δ).unfiled = s.unfiled := by cases s; rfl
@[simp] theorem State.storeWord_hatches (pa : Nat) (x : BitVec 128) (δ : BitVec 16) : (s.storeWord pa x δ).hatches = s.hatches := by cases s; rfl
@[simp] theorem State.storeWord_pairs (pa : Nat) (x : BitVec 128) (δ : BitVec 16) : (s.storeWord pa x δ).pairs = s.pairs := by cases s; rfl
@[simp] theorem State.storeWord_reads (pa : Nat) (x : BitVec 128) (δ : BitVec 16) : (s.storeWord pa x δ).reads = s.reads := by cases s; rfl
@[simp] theorem State.storeWord_backlog (pa : Nat) (x : BitVec 128) (δ : BitVec 16) : (s.storeWord pa x δ).backlog = s.backlog := by cases s; rfl
@[simp] theorem State.storeWord_epochs (pa : Nat) (x : BitVec 128) (δ : BitVec 16) : (s.storeWord pa x δ).epochs = s.epochs := by cases s; rfl
@[simp] theorem State.storeWord_modes (pa : Nat) (x : BitVec 128) (δ : BitVec 16) : (s.storeWord pa x δ).modes = s.modes := by cases s; rfl
@[simp] theorem State.storeWord_fleet (pa : Nat) (x : BitVec 128) (δ : BitVec 16) : (s.storeWord pa x δ).fleet = s.fleet := by cases s; rfl
@[simp] theorem State.storeWord_ctl (pa : Nat) (x : BitVec 128) (δ : BitVec 16) : (s.storeWord pa x δ).ctl = s.ctl := by cases s; rfl
@[simp] theorem State.storeWord_mgmt (pa : Nat) (x : BitVec 128) (δ : BitVec 16) : (s.storeWord pa x δ).mgmt = s.mgmt := by cases s; rfl
@[simp] theorem State.storeWord_cores (pa : Nat) (x : BitVec 128) (δ : BitVec 16) : (s.storeWord pa x δ).cores = s.cores := by cases s; rfl
@[simp] theorem State.storeWord_resv (pa : Nat) (x : BitVec 128) (δ : BitVec 16) : (s.storeWord pa x δ).resv = s.resv := by cases s; rfl
@[simp] theorem State.storeWord_todo (pa : Nat) (x : BitVec 128) (δ : BitVec 16) : (s.storeWord pa x δ).todo = s.todo := by cases s; rfl
@[simp] theorem State.storeWord_out (pa : Nat) (x : BitVec 128) (δ : BitVec 16) : (s.storeWord pa x δ).out = s.out := by cases s; rfl

@[simp] theorem State.dirDrop_pending (line : Nat) : (s.dirDrop line).pending = s.pending := by cases s; rfl
@[simp] theorem State.dirDrop_house (line : Nat) : (s.dirDrop line).house = s.house := by cases s; rfl
@[simp] theorem State.dirDrop_free (line : Nat) : (s.dirDrop line).free = s.free := by cases s; rfl
@[simp] theorem State.dirDrop_porch (line : Nat) : (s.dirDrop line).porch = s.porch := by cases s; rfl
@[simp] theorem State.dirDrop_regs (line : Nat) : (s.dirDrop line).regs = s.regs := by cases s; rfl
@[simp] theorem State.dirDrop_od (line : Nat) : (s.dirDrop line).od = s.od := by cases s; rfl
@[simp] theorem State.dirDrop_blobs (line : Nat) : (s.dirDrop line).blobs = s.blobs := by cases s; rfl
@[simp] theorem State.dirDrop_mem (line : Nat) : (s.dirDrop line).mem = s.mem := by cases s; rfl
@[simp] theorem State.dirDrop_code (line : Nat) : (s.dirDrop line).code = s.code := by cases s; rfl
@[simp] theorem State.dirDrop_rooms (line : Nat) : (s.dirDrop line).rooms = s.rooms := by cases s; rfl
@[simp] theorem State.dirDrop_wings (line : Nat) : (s.dirDrop line).wings = s.wings := by cases s; rfl
@[simp] theorem State.dirDrop_dies (line : Nat) : (s.dirDrop line).dies = s.dies := by cases s; rfl
@[simp] theorem State.dirDrop_caches (line : Nat) : (s.dirDrop line).caches = s.caches := by cases s; rfl
@[simp] theorem State.dirDrop_dirAge (line : Nat) : (s.dirDrop line).dirAge = s.dirAge := by cases s; rfl
@[simp] theorem State.dirDrop_txns (line : Nat) : (s.dirDrop line).txns = s.txns := by cases s; rfl
@[simp] theorem State.dirDrop_lineQ (line : Nat) : (s.dirDrop line).lineQ = s.lineQ := by cases s; rfl
@[simp] theorem State.dirDrop_net (line : Nat) : (s.dirDrop line).net = s.net := by cases s; rfl
@[simp] theorem State.dirDrop_rlines (line : Nat) : (s.dirDrop line).rlines = s.rlines := by cases s; rfl
@[simp] theorem State.dirDrop_later (line : Nat) : (s.dirDrop line).later = s.later := by cases s; rfl
@[simp] theorem State.dirDrop_stk (line : Nat) : (s.dirDrop line).stk = s.stk := by cases s; rfl
@[simp] theorem State.dirDrop_tier (line : Nat) : (s.dirDrop line).tier = s.tier := by cases s; rfl
@[simp] theorem State.dirDrop_ctxs (line : Nat) : (s.dirDrop line).ctxs = s.ctxs := by cases s; rfl
@[simp] theorem State.dirDrop_faults (line : Nat) : (s.dirDrop line).faults = s.faults := by cases s; rfl
@[simp] theorem State.dirDrop_unfiled (line : Nat) : (s.dirDrop line).unfiled = s.unfiled := by cases s; rfl
@[simp] theorem State.dirDrop_hatches (line : Nat) : (s.dirDrop line).hatches = s.hatches := by cases s; rfl
@[simp] theorem State.dirDrop_pairs (line : Nat) : (s.dirDrop line).pairs = s.pairs := by cases s; rfl
@[simp] theorem State.dirDrop_reads (line : Nat) : (s.dirDrop line).reads = s.reads := by cases s; rfl
@[simp] theorem State.dirDrop_backlog (line : Nat) : (s.dirDrop line).backlog = s.backlog := by cases s; rfl
@[simp] theorem State.dirDrop_epochs (line : Nat) : (s.dirDrop line).epochs = s.epochs := by cases s; rfl
@[simp] theorem State.dirDrop_modes (line : Nat) : (s.dirDrop line).modes = s.modes := by cases s; rfl
@[simp] theorem State.dirDrop_fleet (line : Nat) : (s.dirDrop line).fleet = s.fleet := by cases s; rfl
@[simp] theorem State.dirDrop_ctl (line : Nat) : (s.dirDrop line).ctl = s.ctl := by cases s; rfl
@[simp] theorem State.dirDrop_mgmt (line : Nat) : (s.dirDrop line).mgmt = s.mgmt := by cases s; rfl
@[simp] theorem State.dirDrop_cores (line : Nat) : (s.dirDrop line).cores = s.cores := by cases s; rfl
@[simp] theorem State.dirDrop_resv (line : Nat) : (s.dirDrop line).resv = s.resv := by cases s; rfl
@[simp] theorem State.dirDrop_todo (line : Nat) : (s.dirDrop line).todo = s.todo := by cases s; rfl
@[simp] theorem State.dirDrop_out (line : Nat) : (s.dirDrop line).out = s.out := by cases s; rfl

end Sys2Proof.Machine
end

