-- ==== Sys2Proof/Laws/Act.lean ====
section
/-! SUPPORT. What a command answers (`act`), once for every command: it answers a next state exactly where its operands
name units that exist, it keeps the queue, and it leaves no class action owed. -/

namespace Sys2Proof.Machine

/-- With no class action owed there is nothing to settle. -/
theorem State.settle_of_no_todo {s : State} (h : s.todo = []) : s.settle = s := by
  simp [State.settle, State.settleN, h]

/-- Whatever was owed, nothing is owed after the bounded rounds of class actions. -/
theorem State.settleN_todo (n : Nat) : ∀ s : State, (s.settleN n).todo = [] := by
  induction n with
  | zero => intro s; simp [State.settleN]
  | succ n ih =>
    intro s
    unfold State.settleN
    split
    · assumption
    · exact ih _

/-- Nothing is owed after settling. -/
@[simp] theorem State.settle_todo (s : State) : s.settle.todo = [] := State.settleN_todo 4 s

/-- A state whose queue is replaced by its own queue. -/
theorem State.with_own_pending {s : State} {p : List Instr} (h : s.pending = p) : { s with pending := p } = s := by
  subst h; rfl

/-- A command with units that exist answers its settled effect, with the queue as it was. -/
theorem act_true (f : State → State) (s : State) :
    act true f s = .next { (f s).settle with pending := s.pending } := rfl

/-- A command that names a unit the module does not have faults. -/
theorem act_false (f : State → State) (s : State) : act false f s = .fault .noSuchUnit := rfl

/-- A command whose effect asks for no class action and leaves the queue answers its effect. -/
theorem act_of_quiet {ok : Bool} {f : State → State} {s t : State} (hok : ok = true) (ht : f s = t)
    (htodo : t.todo = []) (hp : t.pending = s.pending) : act ok f s = .next t := by
  subst hok ht
  rw [act_true, State.settle_of_no_todo htodo, State.with_own_pending hp]

/-- Everything a next state of a command says about its queue and about class actions. -/
theorem act_next {ok : Bool} {f : State → State} {s t : State} (h : act ok f s = .next t) :
    ok = true ∧ t = { (f s).settle with pending := s.pending } ∧ t.pending = s.pending ∧ t.todo = [] := by
  cases ok with
  | false => simp [act] at h
  | true =>
    rw [act_true] at h
    injection h with h
    subst h
    exact ⟨rfl, rfl, rfl, State.settle_todo _⟩

end Sys2Proof.Machine
end

