-- ==== Sys2Proof/Laws/Exec.lean ====
section
/-! SUPPORT. What `exec` runs for each command, one lemma a command, so that no later proof unfolds the dispatch; and
once for all of them, when a command answers (`act_answers`). -/

namespace Sys2Proof.Machine

/-- A command answers a next state exactly where its units exist, keeps the queue, and leaves no class action owed. -/
theorem act_answers (ok : Bool) (f : State → State) (s : State) :
    (ok = true → ∃ t, act ok f s = .next t ∧ t.pending = s.pending ∧ t.todo = []) ∧
    (ok = false → act ok f s = .fault .noSuchUnit) := by
  constructor
  · intro h; rw [h]; exact ⟨_, rfl, rfl, State.settle_todo _⟩
  · intro h; rw [h]; rfl

@[simp] theorem exec_powerOn (pwrEn : Bool) (s : State) : exec (.powerOn pwrEn) s = execPowerOn pwrEn s := rfl
@[simp] theorem exec_prechargeDone (s : State) : exec .prechargeDone s = execPrechargeDone s := rfl
@[simp] theorem exec_prechargeRestart (s : State) : exec .prechargeRestart s = execPrechargeRestart s := rfl
@[simp] theorem exec_pwrEnAssert (us : Nat) (s : State) : exec (.pwrEnAssert us) s = execPwrEnAssert us s := rfl
@[simp] theorem exec_pwrEnDeassert (us : Nat) (s : State) : exec (.pwrEnDeassert us) s = execPwrEnDeassert us s := rfl
@[simp] theorem exec_undervoltage (s : State) : exec .undervoltage s = execUndervoltage s := rfl
@[simp] theorem exec_overvoltage (s : State) : exec .overvoltage s = execOvervoltage s := rfl
@[simp] theorem exec_voltageReturn (s : State) : exec .voltageReturn s = execVoltageReturn s := rfl
@[simp] theorem exec_romStart (samples : List Strap) (s : State) : exec (.romStart samples) s = execRomStart samples s := rfl
@[simp] theorem exec_deedRead (s : State) : exec .deedRead s = execDeedRead s := rfl
@[simp] theorem exec_identityDerive (s : State) : exec .identityDerive s = execIdentityDerive s := rfl
@[simp] theorem exec_roleResolve (beacon : Bool) (s : State) : exec (.roleResolve beacon) s = execRoleResolve beacon s := rfl
@[simp] theorem exec_bootRequest (s : State) : exec .bootRequest s = execBootRequest s := rfl
@[simp] theorem exec_bootBlock (imageId : BitVec 64) (num : Nat) (count : Nat) (bytes : Bytes) (s : State) : exec (.bootBlock imageId num count bytes) s = execBootBlock imageId num count bytes s := rfl
@[simp] theorem exec_bootTimeout (s : State) : exec .bootTimeout s = execBootTimeout s := rfl
@[simp] theorem exec_imageRetry (s : State) : exec .imageRetry s = execImageRetry s := rfl
@[simp] theorem exec_firmwareStart (s : State) : exec .firmwareStart s = execFirmwareStart s := rfl
@[simp] theorem exec_hostRelease (src : Option Bytes) (s : State) : exec (.hostRelease src) s = execHostRelease src s := rfl
@[simp] theorem exec_hostBootRetry (src : Option Bytes) (s : State) : exec (.hostBootRetry src) s = execHostBootRetry src s := rfl
@[simp] theorem exec_perstRelease (s : State) : exec .perstRelease s = execPerstRelease s := rfl
@[simp] theorem exec_watchdogExpiry (s : State) : exec .watchdogExpiry s = execWatchdogExpiry s := rfl
@[simp] theorem exec_moduleReset (s : State) : exec .moduleReset s = execModuleReset s := rfl
@[simp] theorem exec_dieReset (d : Nat) (s : State) : exec (.dieReset d) s = execDieReset d s := rfl
@[simp] theorem exec_dieDrain (d : Nat) (s : State) : exec (.dieDrain d) s = execDieDrain d s := rfl
@[simp] theorem exec_suiteReset (s : Nat) (st : State) : exec (.suiteReset s) st = execSuiteReset s st := rfl
@[simp] theorem exec_suiteDrain (s : Nat) (st : State) : exec (.suiteDrain s) st = execSuiteDrain s st := rfl
@[simp] theorem exec_dieRejoinStart (d : Nat) (s : State) : exec (.dieRejoinStart d) s = execDieRejoinStart d s := rfl
@[simp] theorem exec_dieRejoinDone (d : Nat) (fails : BitVec 64) (s : State) : exec (.dieRejoinDone d fails) s = execDieRejoinDone d fails s := rfl
@[simp] theorem exec_roomReset (g : Nat) (s : State) : exec (.roomReset g) s = execRoomReset g s := rfl
@[simp] theorem exec_roomSelfTestDone (g : Nat) (pass : Bool) (s : State) : exec (.roomSelfTestDone g pass) s = execRoomSelfTestDone g pass s := rfl
@[simp] theorem exec_clockLoss (d : Nat) (s : State) : exec (.clockLoss d) s = execClockLoss d s := rfl
@[simp] theorem exec_layoutWrite (v : Nat) (s : State) : exec (.layoutWrite v) s = execLayoutWrite v s := rfl
@[simp] theorem exec_layoutChangeDone (s : State) : exec .layoutChangeDone s = execLayoutChangeDone s := rfl
@[simp] theorem exec_ringHallTrainingLoss (n : Nat) (s : State) : exec (.ringHallTrainingLoss n) s = execRingHallTrainingLoss n s := rfl
@[simp] theorem exec_ringHallRetrainDone (n : Nat) (s : State) : exec (.ringHallRetrainDone n) s = execRingHallRetrainDone n s := rfl
@[simp] theorem exec_ringHallDown (n : Nat) (s : State) : exec (.ringHallDown n) s = execRingHallDown n s := rfl
@[simp] theorem exec_hostHallTrainingLoss (d : Nat) (s : State) : exec (.hostHallTrainingLoss d) s = execHostHallTrainingLoss d s := rfl
@[simp] theorem exec_hostHallRetrainDone (d : Nat) (s : State) : exec (.hostHallRetrainDone d) s = execHostHallRetrainDone d s := rfl
@[simp] theorem exec_hallHeartbeat (s : State) : exec .hallHeartbeat s = execHallHeartbeat s := rfl
@[simp] theorem exec_linkLossDeclare (d : Nat) (cause : BitVec 2) (s : State) : exec (.linkLossDeclare d cause) s = execLinkLossDeclare d cause s := rfl
@[simp] theorem exec_dieSelfResetDone (d : Nat) (s : State) : exec (.dieSelfResetDone d) s = execDieSelfResetDone d s := rfl
@[simp] theorem exec_linkReturn (d : Nat) (s : State) : exec (.linkReturn d) s = execLinkReturn d s := rfl
@[simp] theorem exec_stackAdopt (j : Nat) (s : State) : exec (.stackAdopt j) s = execStackAdopt j s := rfl
@[simp] theorem exec_logClear (s : State) : exec .logClear s = execLogClear s := rfl
@[simp] theorem exec_registerWrite (agent : BitVec 16) (pa : Nat) (size : Nat) (v : BitVec 64) (s : State) : exec (.registerWrite agent pa size v) s = execRegisterWrite agent pa size v s := rfl
@[simp] theorem exec_mirrorLoad (pa : Nat) (s : State) : exec (.mirrorLoad pa) s = execMirrorLoad pa s := rfl
@[simp] theorem exec_mirrorStore (pa : Nat) (size : Nat) (v : BitVec 64) (s : State) : exec (.mirrorStore pa size v) s = execMirrorStore pa size v s := rfl
@[simp] theorem exec_mirrorTimeout (pa : Nat) (load : Bool) (s : State) : exec (.mirrorTimeout pa load) s = execMirrorTimeout pa load s := rfl
@[simp] theorem exec_hostCoreLoad (core : Nat) (kind : LoadKind) (pa : Nat) (size : Nat) (s : State) : exec (.hostCoreLoad core kind pa size) s = execHostCoreLoad core kind pa size s := rfl
@[simp] theorem exec_hostCoreStore (core : Nat) (kind : StoreKind) (pa : Nat) (size : Nat) (v : BitVec 64) (s : State) : exec (.hostCoreStore core kind pa size v) s = execHostCoreStore core kind pa size v s := rfl
@[simp] theorem exec_wqDoorbell (w : Nat) (q : Nat) (size : Nat) (v : BitVec 64) (s : State) : exec (.wqDoorbell w q size v) s = execWqDoorbell w q size v s := rfl
@[simp] theorem exec_cqDoorbell (w : Nat) (q : Nat) (size : Nat) (v : BitVec 64) (s : State) : exec (.cqDoorbell w q size v) s = execCqDoorbell w q size v s := rfl
@[simp] theorem exec_queueEnable (w : Nat) (q : Nat) (s : State) : exec (.queueEnable w q) s = execQueueEnable w q s := rfl
@[simp] theorem exec_queueDisable (w : Nat) (q : Nat) (s : State) : exec (.queueDisable w q) s = execQueueDisable w q s := rfl
@[simp] theorem exec_queueReset (w : Nat) (q : Nat) (s : State) : exec (.queueReset w q) s = execQueueReset w q s := rfl
@[simp] theorem exec_queueResume (w : Nat) (q : Nat) (s : State) : exec (.queueResume w q) s = execQueueResume w q s := rfl
@[simp] theorem exec_queueOrderWrite (w : Nat) (q : Nat) (compat : Bool) (s : State) : exec (.queueOrderWrite w q compat) s = execQueueOrderWrite w q compat s := rfl
@[simp] theorem exec_commandFetch (w : Nat) (s : State) : exec (.commandFetch w) s = execCommandFetch w s := rfl
@[simp] theorem exec_commandIssue (w : Nat) (q : Nat) (s : State) : exec (.commandIssue w q) s = execCommandIssue w q s := rfl
@[simp] theorem exec_nop (w : Nat) (q : Nat) (s : State) : exec (.nop w q) s = execNop w q s := rfl
@[simp] theorem exec_loadStationary (g : Nat) (s : State) : exec (.loadStationary g) s = execLoadStationary g s := rfl
@[simp] theorem exec_loadComplete (g : Nat) (s : State) : exec (.loadComplete g) s = execLoadComplete g s := rfl
@[simp] theorem exec_matmul (g : Nat) (s : State) : exec (.matmul g) s = execMatmul g s := rfl
@[simp] theorem exec_streamDataArrival (g : Nat) (s : State) : exec (.streamDataArrival g) s = execStreamDataArrival g s := rfl
@[simp] theorem exec_passVerdict (g : Nat) (hits : List Upset) (s : State) : exec (.passVerdict g hits) s = execPassVerdict g hits s := rfl
@[simp] theorem exec_passCommit (g : Nat) (s : State) : exec (.passCommit g) s = execPassCommit g s := rfl
@[simp] theorem exec_drain (g : Nat) (s : State) : exec (.drain g) s = execDrain g s := rfl
@[simp] theorem exec_drainGroupWritten (g : Nat) (s : State) : exec (.drainGroupWritten g) s = execDrainGroupWritten g s := rfl
@[simp] theorem exec_tierDeadlineExpiry (g : Nat) (e : Nat) (s : State) : exec (.tierDeadlineExpiry g e) s = execTierDeadlineExpiry g e s := rfl
@[simp] theorem exec_vector (g : Nat) (s : State) : exec (.vector g) s = execVector g s := rfl
@[simp] theorem exec_vnop (g : Nat) (f : VForm) (s : State) : exec (.vnop g f) s = execVnop g f s := rfl
@[simp] theorem exec_halt (g : Nat) (f : VForm) (s : State) : exec (.halt g f) s = execHalt g f s := rfl
@[simp] theorem exec_mark (g : Nat) (f : VForm) (s : State) : exec (.mark g f) s = execMark g f s := rfl
@[simp] theorem exec_loop (g : Nat) (f : VForm) (s : State) : exec (.loop g f) s = execLoop g f s := rfl
@[simp] theorem exec_br (g : Nat) (f : VForm) (s : State) : exec (.br g f) s = execBr g f s := rfl
@[simp] theorem exec_vfence (g : Nat) (f : VForm) (s : State) : exec (.vfence g f) s = execVfence g f s := rfl
@[simp] theorem exec_rdflg (g : Nat) (f : VForm) (s : State) : exec (.rdflg g f) s = execRdflg g f s := rfl
@[simp] theorem exec_clrflg (g : Nat) (f : VForm) (s : State) : exec (.clrflg g f) s = execClrflg g f s := rfl
@[simp] theorem exec_sadd (g : Nat) (f : VForm) (s : State) : exec (.sadd g f) s = execSadd g f s := rfl
@[simp] theorem exec_ssub (g : Nat) (f : VForm) (s : State) : exec (.ssub g f) s = execSsub g f s := rfl
@[simp] theorem exec_saddi (g : Nat) (f : VForm) (s : State) : exec (.saddi g f) s = execSaddi g f s := rfl
@[simp] theorem exec_smul (g : Nat) (f : VForm) (s : State) : exec (.smul g f) s = execSmul g f s := rfl
@[simp] theorem exec_sand (g : Nat) (f : VForm) (s : State) : exec (.sand g f) s = execSand g f s := rfl
@[simp] theorem exec_sor (g : Nat) (f : VForm) (s : State) : exec (.sor g f) s = execSor g f s := rfl
@[simp] theorem exec_sxor (g : Nat) (f : VForm) (s : State) : exec (.sxor g f) s = execSxor g f s := rfl
@[simp] theorem exec_ssh (g : Nat) (f : VForm) (s : State) : exec (.ssh g f) s = execSsh g f s := rfl
@[simp] theorem exec_smovi (g : Nat) (f : JForm) (s : State) : exec (.smovi g f) s = execSmovi g f s := rfl
@[simp] theorem exec_smovh (g : Nat) (f : JForm) (s : State) : exec (.smovh g f) s = execSmovh g f s := rfl
@[simp] theorem exec_vmovi (g : Nat) (f : JForm) (s : State) : exec (.vmovi g f) s = execVmovi g f s := rfl
@[simp] theorem exec_sldl (g : Nat) (f : VForm) (s : State) : exec (.sldl g f) s = execSldl g f s := rfl
@[simp] theorem exec_sstl (g : Nat) (f : VForm) (s : State) : exec (.sstl g f) s = execSstl g f s := rfl
@[simp] theorem exec_fadd (g : Nat) (f : VForm) (s : State) : exec (.fadd g f) s = execFadd g f s := rfl
@[simp] theorem exec_fsub (g : Nat) (f : VForm) (s : State) : exec (.fsub g f) s = execFsub g f s := rfl
@[simp] theorem exec_fmul (g : Nat) (f : VForm) (s : State) : exec (.fmul g f) s = execFmul g f s := rfl
@[simp] theorem exec_fma (g : Nat) (f : VForm) (s : State) : exec (.fma g f) s = execFma g f s := rfl
@[simp] theorem exec_fms (g : Nat) (f : VForm) (s : State) : exec (.fms g f) s = execFms g f s := rfl
@[simp] theorem exec_fnma (g : Nat) (f : VForm) (s : State) : exec (.fnma g f) s = execFnma g f s := rfl
@[simp] theorem exec_fmin (g : Nat) (f : VForm) (s : State) : exec (.fmin g f) s = execFmin g f s := rfl
@[simp] theorem exec_fmax (g : Nat) (f : VForm) (s : State) : exec (.fmax g f) s = execFmax g f s := rfl
@[simp] theorem exec_fcmp (g : Nat) (f : VForm) (s : State) : exec (.fcmp g f) s = execFcmp g f s := rfl
@[simp] theorem exec_sel (g : Nat) (f : VForm) (s : State) : exec (.sel g f) s = execSel g f s := rfl
@[simp] theorem exec_fabs (g : Nat) (f : VForm) (s : State) : exec (.fabs g f) s = execFabs g f s := rfl
@[simp] theorem exec_fneg (g : Nat) (f : VForm) (s : State) : exec (.fneg g f) s = execFneg g f s := rfl
@[simp] theorem exec_cvt (g : Nat) (f : VForm) (s : State) : exec (.cvt g f) s = execCvt g f s := rfl
@[simp] theorem exec_fcvti (g : Nat) (f : VForm) (s : State) : exec (.fcvti g f) s = execFcvti g f s := rfl
@[simp] theorem exec_icvtf (g : Nat) (f : VForm) (s : State) : exec (.icvtf g f) s = execIcvtf g f s := rfl
@[simp] theorem exec_iadd (g : Nat) (f : VForm) (s : State) : exec (.iadd g f) s = execIadd g f s := rfl
@[simp] theorem exec_isub (g : Nat) (f : VForm) (s : State) : exec (.isub g f) s = execIsub g f s := rfl
@[simp] theorem exec_vand (g : Nat) (f : VForm) (s : State) : exec (.vand g f) s = execVand g f s := rfl
@[simp] theorem exec_vor (g : Nat) (f : VForm) (s : State) : exec (.vor g f) s = execVor g f s := rfl
@[simp] theorem exec_vxor (g : Nat) (f : VForm) (s : State) : exec (.vxor g f) s = execVxor g f s := rfl
@[simp] theorem exec_shl (g : Nat) (f : VForm) (s : State) : exec (.shl g f) s = execShl g f s := rfl
@[simp] theorem exec_shr (g : Nat) (f : VForm) (s : State) : exec (.shr g f) s = execShr g f s := rfl
@[simp] theorem exec_sra (g : Nat) (f : VForm) (s : State) : exec (.sra g f) s = execSra g f s := rfl
@[simp] theorem exec_icmp (g : Nat) (f : VForm) (s : State) : exec (.icmp g f) s = execIcmp g f s := rfl
@[simp] theorem exec_vsplat (g : Nat) (f : VForm) (s : State) : exec (.vsplat g f) s = execVsplat g f s := rfl
@[simp] theorem exec_vext (g : Nat) (f : VForm) (s : State) : exec (.vext g f) s = execVext g f s := rfl
@[simp] theorem exec_vins (g : Nat) (f : VForm) (s : State) : exec (.vins g f) s = execVins g f s := rfl
@[simp] theorem exec_vperm (g : Nat) (f : VForm) (s : State) : exec (.vperm g f) s = execVperm g f s := rfl
@[simp] theorem exec_pand (g : Nat) (f : VForm) (s : State) : exec (.pand g f) s = execPand g f s := rfl
@[simp] theorem exec_por (g : Nat) (f : VForm) (s : State) : exec (.por g f) s = execPor g f s := rfl
@[simp] theorem exec_pxor (g : Nat) (f : VForm) (s : State) : exec (.pxor g f) s = execPxor g f s := rfl
@[simp] theorem exec_pnot (g : Nat) (f : VForm) (s : State) : exec (.pnot g f) s = execPnot g f s := rfl
@[simp] theorem exec_pfirst (g : Nat) (f : VForm) (s : State) : exec (.pfirst g f) s = execPfirst g f s := rfl
@[simp] theorem exec_pcnt (g : Nat) (f : VForm) (s : State) : exec (.pcnt g f) s = execPcnt g f s := rfl
@[simp] theorem exec_exp2 (g : Nat) (f : VForm) (s : State) : exec (.exp2 g f) s = execExp2 g f s := rfl
@[simp] theorem exec_log2 (g : Nat) (f : VForm) (s : State) : exec (.log2 g f) s = execLog2 g f s := rfl
@[simp] theorem exec_rcp (g : Nat) (f : VForm) (s : State) : exec (.rcp g f) s = execRcp g f s := rfl
@[simp] theorem exec_rsqrt (g : Nat) (f : VForm) (s : State) : exec (.rsqrt g f) s = execRsqrt g f s := rfl
@[simp] theorem exec_rsum (g : Nat) (f : VForm) (s : State) : exec (.rsum g f) s = execRsum g f s := rfl
@[simp] theorem exec_rmin (g : Nat) (f : VForm) (s : State) : exec (.rmin g f) s = execRmin g f s := rfl
@[simp] theorem exec_rmax (g : Nat) (f : VForm) (s : State) : exec (.rmax g f) s = execRmax g f s := rfl
@[simp] theorem exec_vsumx (g : Nat) (f : VForm) (s : State) : exec (.vsumx g f) s = execVsumx g f s := rfl
@[simp] theorem exec_xcvt (g : Nat) (f : VForm) (s : State) : exec (.xcvt g f) s = execXcvt g f s := rfl
@[simp] theorem exec_ldl (g : Nat) (f : VForm) (s : State) : exec (.ldl g f) s = execLdl g f s := rfl
@[simp] theorem exec_stl (g : Nat) (f : VForm) (s : State) : exec (.stl g f) s = execStl g f s := rfl
@[simp] theorem exec_ldm (g : Nat) (f : VForm) (s : State) : exec (.ldm g f) s = execLdm g f s := rfl
@[simp] theorem exec_loadDataReturn (g : Nat) (s : State) : exec (.loadDataReturn g) s = execLoadDataReturn g s := rfl
@[simp] theorem exec_stm (g : Nat) (f : VForm) (s : State) : exec (.stm g f) s = execStm g f s := rfl
@[simp] theorem exec_recv (g : Nat) (f : VForm) (s : State) : exec (.recv g f) s = execRecv g f s := rfl
@[simp] theorem exec_copy (g : Nat) (s : State) : exec (.copy g) s = execCopy g s := rfl
@[simp] theorem exec_writeReduce (g : Nat) (s : State) : exec (.writeReduce g) s = execWriteReduce g s := rfl
@[simp] theorem exec_tierPrefetch (g : Nat) (s : State) : exec (.tierPrefetch g) s = execTierPrefetch g s := rfl
@[simp] theorem exec_tierRelease (g : Nat) (s : State) : exec (.tierRelease g) s = execTierRelease g s := rfl
@[simp] theorem exec_tierReleaseTileDone (g : Nat) (s : State) : exec (.tierReleaseTileDone g) s = execTierReleaseTileDone g s := rfl
@[simp] theorem exec_latchWait (w : Nat) (q : Nat) (s : State) : exec (.latchWait w q) s = execLatchWait w q s := rfl
@[simp] theorem exec_latchWaitSatisfied (w : Nat) (q : Nat) (s : State) : exec (.latchWaitSatisfied w q) s = execLatchWaitSatisfied w q s := rfl
@[simp] theorem exec_latchSignal (w : Nat) (q : Nat) (s : State) : exec (.latchSignal w q) s = execLatchSignal w q s := rfl
@[simp] theorem exec_latchSignalPerform (w : Nat) (q : Nat) (s : State) : exec (.latchSignalPerform w q) s = execLatchSignalPerform w q s := rfl
@[simp] theorem exec_fence (w : Nat) (q : Nat) (s : State) : exec (.fence w q) s = execFence w q s := rfl
@[simp] theorem exec_fenceComplete (w : Nat) (q : Nat) (s : State) : exec (.fenceComplete w q) s = execFenceComplete w q s := rfl
@[simp] theorem exec_abort (w : Nat) (q : Nat) (s : State) : exec (.abort w q) s = execAbort w q s := rfl
@[simp] theorem exec_translationInvalidate (w : Nat) (q : Nat) (s : State) : exec (.translationInvalidate w q) s = execTranslationInvalidate w q s := rfl
@[simp] theorem exec_invalidateCommit (w : Nat) (q : Nat) (s : State) : exec (.invalidateCommit w q) s = execInvalidateCommit w q s := rfl
@[simp] theorem exec_completionRecordWrite (w : Nat) (q : Nat) (tag : BitVec 16) (s : State) : exec (.completionRecordWrite w q tag) s = execCompletionRecordWrite w q tag s := rfl
@[simp] theorem exec_latchSetWrite (w : Nat) (l : Nat) (size : Nat) (v : BitVec 64) (s : State) : exec (.latchSetWrite w l size v) s = execLatchSetWrite w l size v s := rfl
@[simp] theorem exec_latchAddWrite (w : Nat) (l : Nat) (size : Nat) (v : BitVec 64) (s : State) : exec (.latchAddWrite w l size v) s = execLatchAddWrite w l size v s := rfl
@[simp] theorem exec_reduceLineWriteback (holder : Nat) (line : Nat) (s : State) : exec (.reduceLineWriteback holder line) s = execReduceLineWriteback holder line s := rfl
@[simp] theorem exec_reduceLineTimeout (holder : Nat) (line : Nat) (s : State) : exec (.reduceLineTimeout holder line) s = execReduceLineTimeout holder line s := rfl
@[simp] theorem exec_wccfgWrite (w : Nat) (v : BitVec 64) (s : State) : exec (.wccfgWrite w v) s = execWccfgWrite w v s := rfl
@[simp] theorem exec_clean (w : Nat) (s : State) : exec (.clean w) s = execClean w s := rfl
@[simp] theorem exec_flush (w : Nat) (s : State) : exec (.flush w) s = execFlush w s := rfl
@[simp] theorem exec_flushAll (w : Nat) (s : State) : exec (.flushAll w) s = execFlushAll w s := rfl
@[simp] theorem exec_wcopDone (w : Nat) (s : State) : exec (.wcopDone w) s = execWcopDone w s := rfl
@[simp] theorem exec_wayReenable (w : Nat) (mask : BitVec 16) (s : State) : exec (.wayReenable w mask) s = execWayReenable w mask s := rfl
@[simp] theorem exec_wclandRead (w : Nat) (s : State) : exec (.wclandRead w) s = execWclandRead w s := rfl
@[simp] theorem exec_trackerTimeout (g : Nat) (k : Nat) (s : State) : exec (.trackerTimeout g k) s = execTrackerTimeout g k s := rfl
@[simp] theorem exec_landingWbSend (w : Nat) (s : State) : exec (.landingWbSend w) s = execLandingWbSend w s := rfl
@[simp] theorem exec_holdExpiry (a : Nat) (line : Nat) (s : State) : exec (.holdExpiry a line) s = execHoldExpiry a line s := rfl
@[simp] theorem exec_rds (a : Nat) (line : Nat) (s : State) : exec (.rds a line) s = execRds a line s := rfl
@[simp] theorem exec_rdx (a : Nat) (line : Nat) (s : State) : exec (.rdx a line) s = execRdx a line s := rfl
@[simp] theorem exec_upg (a : Nat) (line : Nat) (s : State) : exec (.upg a line) s = execUpg a line s := rfl
@[simp] theorem exec_wro (a : Nat) (line : Nat) (s : State) : exec (.wro a line) s = execWro a line s := rfl
@[simp] theorem exec_rdo (src : BitVec 16) (line : Nat) (s : State) : exec (.rdo src line) s = execRdo src line s := rfl
@[simp] theorem exec_wrf (src : BitVec 16) (line : Nat) (l : LineData) (place : Option Nat) (s : State) : exec (.wrf src line l place) s = execWrf src line l place s := rfl
@[simp] theorem exec_wrp (src : BitVec 16) (line : Nat) (mask : BitVec 64) (l : LineData) (s : State) : exec (.wrp src line mask l) s = execWrp src line mask l s := rfl
@[simp] theorem exec_wb (a : Nat) (line : Nat) (l : LineData) (s : State) : exec (.wb a line l) s = execWb a line l s := rfl
@[simp] theorem exec_red (src : BitVec 16) (pa : Nat) (op : BitVec 8) (x : BitVec 128) (psn : Bool) (s : State) : exec (.red src pa op x psn) s = execRed src pa op x psn s := rfl
@[simp] theorem exec_snps (a : Nat) (line : Nat) (s : State) : exec (.snps a line) s = execSnps a line s := rfl
@[simp] theorem exec_snpi (a : Nat) (line : Nat) (s : State) : exec (.snpi a line) s = execSnpi a line s := rfl
@[simp] theorem exec_push (a : Nat) (line : Nat) (l : LineData) (s : State) : exec (.push a line l) s = execPush a line l s := rfl
@[simp] theorem exec_ack (a : Nat) (line : Nat) (s : State) : exec (.ack a line) s = execAck a line s := rfl
@[simp] theorem exec_ackd (a : Nat) (line : Nat) (l : LineData) (s : State) : exec (.ackd a line l) s = execAckd a line l s := rfl
@[simp] theorem exec_nh (a : Nat) (line : Nat) (s : State) : exec (.nh a line) s = execNh a line s := rfl
@[simp] theorem exec_nhw (a : Nat) (line : Nat) (s : State) : exec (.nhw a line) s = execNhw a line s := rfl
@[simp] theorem exec_gnts (a : Nat) (line : Nat) (l : LineData) (s : State) : exec (.gnts a line l) s = execGnts a line l s := rfl
@[simp] theorem exec_gnte (a : Nat) (line : Nat) (l : LineData) (s : State) : exec (.gnte a line l) s = execGnte a line l s := rfl
@[simp] theorem exec_gntm (a : Nat) (line : Nat) (l : LineData) (s : State) : exec (.gntm a line l) s = execGntm a line l s := rfl
@[simp] theorem exec_gnto (a : Nat) (line : Nat) (s : State) : exec (.gnto a line) s = execGnto a line s := rfl
@[simp] theorem exec_data (src : BitVec 16) (line : Nat) (l : LineData) (s : State) : exec (.data src line l) s = execData src line l s := rfl
@[simp] theorem exec_cmp (src : BitVec 16) (line : Nat) (s : State) : exec (.cmp src line) s = execCmp src line s := rfl
@[simp] theorem exec_landingAckReceive (a : Nat) (line : Nat) (s : State) : exec (.landingAckReceive a line) s = execLandingAckReceive a line s := rfl
@[simp] theorem exec_rowClose (j : Nat) (ch : Nat) (bank : Nat) (s : State) : exec (.rowClose j ch bank) s = execRowClose j ch bank s := rfl
@[simp] theorem exec_patrolScrubRead (j : Nat) (s : State) : exec (.patrolScrubRead j) s = execPatrolScrubRead j s := rfl
@[simp] theorem exec_zeroScrubStart (j : Nat) (s : State) : exec (.zeroScrubStart j) s = execZeroScrubStart j s := rfl
@[simp] theorem exec_zeroScrubDone (j : Nat) (s : State) : exec (.zeroScrubDone j) s = execZeroScrubDone j s := rfl
@[simp] theorem exec_stackTempSample (j : Nat) (t : Nat) (s : State) : exec (.stackTempSample j t) s = execStackTempSample j t s := rfl
@[simp] theorem exec_perBankRefresh (j : Nat) (ch : Nat) (bank : Nat) (s : State) : exec (.perBankRefresh j ch bank) s = execPerBankRefresh j ch bank s := rfl
@[simp] theorem exec_stackCriticalTimeout (j : Nat) (s : State) : exec (.stackCriticalTimeout j) s = execStackCriticalTimeout j s := rfl
@[simp] theorem exec_scerrRead (j : Nat) (s : State) : exec (.scerrRead j) s = execScerrRead j s := rfl
@[simp] theorem exec_mergeBufferFlush (j : Nat) (line : Nat) (s : State) : exec (.mergeBufferFlush j line) s = execMergeBufferFlush j line s := rfl
@[simp] theorem exec_addI32 (src : BitVec 16) (pa : Nat) (x : BitVec 128) (psn : Bool) (s : State) : exec (.addI32 src pa x psn) s = execAddI32 src pa x psn s := rfl
@[simp] theorem exec_addI64 (src : BitVec 16) (pa : Nat) (x : BitVec 128) (psn : Bool) (s : State) : exec (.addI64 src pa x psn) s = execAddI64 src pa x psn s := rfl
@[simp] theorem exec_minS32 (src : BitVec 16) (pa : Nat) (x : BitVec 128) (psn : Bool) (s : State) : exec (.minS32 src pa x psn) s = execMinS32 src pa x psn s := rfl
@[simp] theorem exec_minS64 (src : BitVec 16) (pa : Nat) (x : BitVec 128) (psn : Bool) (s : State) : exec (.minS64 src pa x psn) s = execMinS64 src pa x psn s := rfl
@[simp] theorem exec_maxS32 (src : BitVec 16) (pa : Nat) (x : BitVec 128) (psn : Bool) (s : State) : exec (.maxS32 src pa x psn) s = execMaxS32 src pa x psn s := rfl
@[simp] theorem exec_maxS64 (src : BitVec 16) (pa : Nat) (x : BitVec 128) (psn : Bool) (s : State) : exec (.maxS64 src pa x psn) s = execMaxS64 src pa x psn s := rfl
@[simp] theorem exec_minU32 (src : BitVec 16) (pa : Nat) (x : BitVec 128) (psn : Bool) (s : State) : exec (.minU32 src pa x psn) s = execMinU32 src pa x psn s := rfl
@[simp] theorem exec_minU64 (src : BitVec 16) (pa : Nat) (x : BitVec 128) (psn : Bool) (s : State) : exec (.minU64 src pa x psn) s = execMinU64 src pa x psn s := rfl
@[simp] theorem exec_maxU32 (src : BitVec 16) (pa : Nat) (x : BitVec 128) (psn : Bool) (s : State) : exec (.maxU32 src pa x psn) s = execMaxU32 src pa x psn s := rfl
@[simp] theorem exec_maxU64 (src : BitVec 16) (pa : Nat) (x : BitVec 128) (psn : Bool) (s : State) : exec (.maxU64 src pa x psn) s = execMaxU64 src pa x psn s := rfl
@[simp] theorem exec_cisAnd (src : BitVec 16) (pa : Nat) (x : BitVec 128) (psn : Bool) (s : State) : exec (.cisAnd src pa x psn) s = execCisAnd src pa x psn s := rfl
@[simp] theorem exec_cisOr (src : BitVec 16) (pa : Nat) (x : BitVec 128) (psn : Bool) (s : State) : exec (.cisOr src pa x psn) s = execCisOr src pa x psn s := rfl
@[simp] theorem exec_cisXor (src : BitVec 16) (pa : Nat) (x : BitVec 128) (psn : Bool) (s : State) : exec (.cisXor src pa x psn) s = execCisXor src pa x psn s := rfl
@[simp] theorem exec_cas32 (src : BitVec 16) (pa : Nat) (x : BitVec 128) (psn : Bool) (s : State) : exec (.cas32 src pa x psn) s = execCas32 src pa x psn s := rfl
@[simp] theorem exec_cas64 (src : BitVec 16) (pa : Nat) (x : BitVec 128) (psn : Bool) (s : State) : exec (.cas64 src pa x psn) s = execCas64 src pa x psn s := rfl
@[simp] theorem exec_addF32 (src : BitVec 16) (pa : Nat) (x : BitVec 128) (psn : Bool) (s : State) : exec (.addF32 src pa x psn) s = execAddF32 src pa x psn s := rfl
@[simp] theorem exec_addBf16 (src : BitVec 16) (pa : Nat) (x : BitVec 128) (psn : Bool) (s : State) : exec (.addBf16 src pa x psn) s = execAddBf16 src pa x psn s := rfl
@[simp] theorem exec_addXp (src : BitVec 16) (pa : Nat) (x : BitVec 128) (psn : Bool) (s : State) : exec (.addXp src pa x psn) s = execAddXp src pa x psn s := rfl
@[simp] theorem exec_readMap (s : State) : exec .readMap s = execReadMap s := rfl
@[simp] theorem exec_spareRow (s : State) : exec .spareRow s = execSpareRow s := rfl
@[simp] theorem exec_spareCol (s : State) : exec .spareCol s = execSpareCol s := rfl
@[simp] theorem exec_softPpr (s : State) : exec .softPpr s = execSoftPpr s := rfl
@[simp] theorem exec_hardPpr (s : State) : exec .hardPpr s = execHardPpr s := rfl
@[simp] theorem exec_repairDone (ok : Bool) (s : State) : exec (.repairDone ok) s = execRepairDone ok s := rfl
@[simp] theorem exec_tierEnable (s : State) : exec .tierEnable s = execTierEnable s := rfl
@[simp] theorem exec_tierEnableDone (s : State) : exec .tierEnableDone s = execTierEnableDone s := rfl
@[simp] theorem exec_tierDisable (s : State) : exec .tierDisable s = execTierDisable s := rfl
@[simp] theorem exec_tierDisableDone (s : State) : exec .tierDisableDone s = execTierDisableDone s := rfl
@[simp] theorem exec_fillComplete (t : Nat) (bad : BitVec 4) (s : State) : exec (.fillComplete t bad) s = execFillComplete t bad s := rfl
@[simp] theorem exec_victimSelect (s : State) : exec .victimSelect s = execVictimSelect s := rfl
@[simp] theorem exec_evictionComplete (t : Nat) (s : State) : exec (.evictionComplete t) s = execEvictionComplete t s := rfl
@[simp] theorem exec_ageTick (s : State) : exec .ageTick s = execAgeTick s := rfl
@[simp] theorem exec_contextPinClear (c : Nat) (s : State) : exec (.contextPinClear c) s = execContextPinClear c s := rfl
@[simp] theorem exec_cellarSparesExhausted (s : State) : exec .cellarSparesExhausted s = execCellarSparesExhausted s := rfl
@[simp] theorem exec_contextActivate (c : Nat) (s : State) : exec (.contextActivate c) s = execContextActivate c s := rfl
@[simp] theorem exec_contextKill (c : Nat) (s : State) : exec (.contextKill c) s = execContextKill c s := rfl
@[simp] theorem exec_contextFree (c : Nat) (s : State) : exec (.contextFree c) s = execContextFree c s := rfl
@[simp] theorem exec_walkComplete (d : Nat) (c : Nat) (page : Nat) (s : State) : exec (.walkComplete d c page) s = execWalkComplete d c page s := rfl
@[simp] theorem exec_faultBufferDrain (s : Nat) (st : State) : exec (.faultBufferDrain s) st = execFaultBufferDrain s st := rfl
@[simp] theorem exec_faultRingEnable (s : Nat) (st : State) : exec (.faultRingEnable s) st = execFaultRingEnable s st := rfl
@[simp] theorem exec_resume (s : Nat) (fid : BitVec 32) (st : State) : exec (.resume s fid) st = execResume s fid st := rfl
@[simp] theorem exec_cancel (s : Nat) (fid : BitVec 32) (st : State) : exec (.cancel s fid) st = execCancel s fid st := rfl
@[simp] theorem exec_sfenceVma (va : Option Nat) (s : State) : exec (.sfenceVma va) s = execSfenceVma va s := rfl
@[simp] theorem exec_sinvalVma (va : Option Nat) (s : State) : exec (.sinvalVma va) s = execSinvalVma va s := rfl
@[simp] theorem exec_hatchEnable (h : Nat) (s : State) : exec (.hatchEnable h) s = execHatchEnable h s := rfl
@[simp] theorem exec_hatchDisable (h : Nat) (s : State) : exec (.hatchDisable h) s = execHatchDisable h s := rfl
@[simp] theorem exec_hatchReset (h : Nat) (s : State) : exec (.hatchReset h) s = execHatchReset h s := rfl
@[simp] theorem exec_hatchResume (h : Nat) (s : State) : exec (.hatchResume h) s = execHatchResume h s := rfl
@[simp] theorem exec_hatchDoorbell (h : Nat) (v : BitVec 64) (s : State) : exec (.hatchDoorbell h v) s = execHatchDoorbell h v s := rfl
@[simp] theorem exec_hatchNop (h : Nat) (s : State) : exec (.hatchNop h) s = execHatchNop h s := rfl
@[simp] theorem exec_hatchCopy (h : Nat) (s : State) : exec (.hatchCopy h) s = execHatchCopy h s := rfl
@[simp] theorem exec_hatchReduce (h : Nat) (s : State) : exec (.hatchReduce h) s = execHatchReduce h s := rfl
@[simp] theorem exec_hatchCompletion (h : Nat) (s : State) : exec (.hatchCompletion h) s = execHatchCompletion h s := rfl
@[simp] theorem exec_lockRead (m : Nat) (agent : BitVec 16) (s : State) : exec (.lockRead m agent) s = execLockRead m agent s := rfl
@[simp] theorem exec_lockWrite (m : Nat) (agent : BitVec 16) (s : State) : exec (.lockWrite m agent) s = execLockWrite m agent s := rfl
@[simp] theorem exec_go (m : Nat) (agent : BitVec 16) (s : State) : exec (.go m agent) s = execGo m agent s := rfl
@[simp] theorem exec_take (m : Nat) (s : State) : exec (.take m) s = execTake m s := rfl
@[simp] theorem exec_brk (m : Nat) (agent : BitVec 16) (s : State) : exec (.brk m agent) s = execBrk m agent s := rfl
@[simp] theorem exec_domainWakeDone (dom : Nat) (s : State) : exec (.domainWakeDone dom) s = execDomainWakeDone dom s := rfl
@[simp] theorem exec_pcieInboundRead (pa : Nat) (len : Nat) (noSnoop : Bool) (s : State) : exec (.pcieInboundRead pa len noSnoop) s = execPcieInboundRead pa len noSnoop s := rfl
@[simp] theorem exec_pcieInboundWrite (pa : Nat) (bytes : Bytes) (ep : Bool) (tph : Option Nat) (s : State) : exec (.pcieInboundWrite pa bytes ep tph) s = execPcieInboundWrite pa bytes ep tph s := rfl
@[simp] theorem exec_pcieError (kind : PcieErr) (s : State) : exec (.pcieError kind) s = execPcieError kind s := rfl
@[simp] theorem exec_portModeWrite (p : Nat) (v : Nat) (s : State) : exec (.portModeWrite p v) s = execPortModeWrite p v s := rfl
@[simp] theorem exec_autoModeSwitch (p : Nat) (s : State) : exec (.autoModeSwitch p) s = execAutoModeSwitch p s := rfl
@[simp] theorem exec_portUp (p : Nat) (s : State) : exec (.portUp p) s = execPortUp p s := rfl
@[simp] theorem exec_laneLockLoss (p : Nat) (s : State) : exec (.laneLockLoss p) s = execLaneLockLoss p s := rfl
@[simp] theorem exec_writePacket (p : Nat) (k : Packet) (s : State) : exec (.writePacket p k) s = execWritePacket p k s := rfl
@[simp] theorem exec_readPacket (p : Nat) (k : Packet) (s : State) : exec (.readPacket p k) s = execReadPacket p k s := rfl
@[simp] theorem exec_readResponse (p : Nat) (k : Packet) (s : State) : exec (.readResponse p k) s = execReadResponse p k s := rfl
@[simp] theorem exec_writeReducePacket (p : Nat) (k : Packet) (s : State) : exec (.writeReducePacket p k) s = execWriteReducePacket p k s := rfl
@[simp] theorem exec_signalPacket (p : Nat) (k : Packet) (s : State) : exec (.signalPacket p k) s = execSignalPacket p k s := rfl
@[simp] theorem exec_atomicPacket (p : Nat) (k : Packet) (s : State) : exec (.atomicPacket p k) s = execAtomicPacket p k s := rfl
@[simp] theorem exec_atomicResponse (p : Nat) (k : Packet) (s : State) : exec (.atomicResponse p k) s = execAtomicResponse p k s := rfl
@[simp] theorem exec_managementPacket (p : Nat) (k : Packet) (s : State) : exec (.managementPacket p k) s = execManagementPacket p k s := rfl
@[simp] theorem exec_ackPacket (p : Nat) (k : Packet) (ce : Bool) (s : State) : exec (.ackPacket p k ce) s = execAckPacket p k ce s := rfl
@[simp] theorem exec_nakPacket (p : Nat) (k : Packet) (s : State) : exec (.nakPacket p k) s = execNakPacket p k s := rfl
@[simp] theorem exec_hello (p : Nat) (k : HelloPacket) (s : State) : exec (.hello p k) s = execHello p k s := rfl
@[simp] theorem exec_remoteOpIssue (m : Nat) (s : State) : exec (.remoteOpIssue m) s = execRemoteOpIssue m s := rfl
@[simp] theorem exec_ackSend (m : Nat) (s : State) : exec (.ackSend m) s = execAckSend m s := rfl
@[simp] theorem exec_retransmitTimeout (m : Nat) (seq : Nat) (s : State) : exec (.retransmitTimeout m seq) s = execRetransmitTimeout m seq s := rfl
@[simp] theorem exec_pairProgressTimeout (m : Nat) (s : State) : exec (.pairProgressTimeout m) s = execPairProgressTimeout m s := rfl
@[simp] theorem exec_windowRestore (m : Nat) (s : State) : exec (.windowRestore m) s = execWindowRestore m s := rfl
@[simp] theorem exec_pairReestablish (m : Nat) (s : State) : exec (.pairReestablish m) s = execPairReestablish m s := rfl
@[simp] theorem exec_pairOpen (m : Nat) (keyHash : Bytes) (gen : Nat) (nonce : BitVec 128) (sig : Bytes) (s : State) : exec (.pairOpen m keyHash gen nonce sig) s = execPairOpen m keyHash gen nonce sig s := rfl
@[simp] theorem exec_pairAccept (m : Nat) (gen : Nat) (nonces : Bytes) (sig : Bytes) (s : State) : exec (.pairAccept m gen nonces sig) s = execPairAccept m gen nonces sig s := rfl
@[simp] theorem exec_atomicGo (k : Nat) (s : State) : exec (.atomicGo k) s = execAtomicGo k s := rfl
@[simp] theorem exec_hostRemoteLoad (core : Nat) (pa : Nat) (size : Nat) (s : State) : exec (.hostRemoteLoad core pa size) s = execHostRemoteLoad core pa size s := rfl
@[simp] theorem exec_hostRemoteStore (core : Nat) (pa : Nat) (size : Nat) (v : BitVec 64) (s : State) : exec (.hostRemoteStore core pa size v) s = execHostRemoteStore core pa size v s := rfl
@[simp] theorem exec_lldpTransmit (p : Nat) (s : State) : exec (.lldpTransmit p) s = execLldpTransmit p s := rfl
@[simp] theorem exec_lldpReceive (p : Nat) (nb : Bytes) (s : State) : exec (.lldpReceive p nb) s = execLldpReceive p nb s := rfl
@[simp] theorem exec_helloTransmit (s : State) : exec .helloTransmit s = execHelloTransmit s := rfl
@[simp] theorem exec_assign (num : Nat) (epoch : Nat) (nonce : BitVec 128) (time : Nat) (sig : Bytes) (s : State) : exec (.assign num epoch nonce time sig) s = execAssign num epoch nonce time sig s := rfl
@[simp] theorem exec_member (epoch : Nat) (changes : List MemberChange) (time : Nat) (sig : Bytes) (s : State) : exec (.member epoch changes time sig) s = execMember epoch changes time sig s := rfl
@[simp] theorem exec_ptpMessage (m : PtpSample) (locked : Bool) (s : State) : exec (.ptpMessage m locked) s = execPtpMessage m locked s := rfl
@[simp] theorem exec_thermostatPeriod (m : InputMeasure) (s : State) : exec (.thermostatPeriod m) s = execThermostatPeriod m s := rfl
@[simp] theorem exec_thermostatUndo (m : InputMeasure) (s : State) : exec (.thermostatUndo m) s = execThermostatUndo m s := rfl
@[simp] theorem exec_thermostatMiss (s : State) : exec .thermostatMiss s = execThermostatMiss s := rfl
@[simp] theorem exec_droopDetect (w : Nat) (mv : Nat) (s : State) : exec (.droopDetect w mv) s = execDroopDetect w mv s := rfl
@[simp] theorem exec_droopEnd (w : Nat) (s : State) : exec (.droopEnd w) s = execDroopEnd w s := rfl
@[simp] theorem exec_stepBoundary (m : StepMeasure) (s : State) : exec (.stepBoundary m) s = execStepBoundary m s := rfl
@[simp] theorem exec_stepSyncPulse (t : Nat) (high : Nat) (s : State) : exec (.stepSyncPulse t high) s = execStepSyncPulse t high s := rfl
@[simp] theorem exec_stepLengthWrite (v : Nat) (s : State) : exec (.stepLengthWrite v) s = execStepLengthWrite v s := rfl
@[simp] theorem exec_hcoreFreqRequest (c : Nat) (mhz : Nat) (s : State) : exec (.hcoreFreqRequest c mhz) s = execHcoreFreqRequest c mhz s := rfl
@[simp] theorem exec_hcoreGrantApply (c : Nat) (s : State) : exec (.hcoreGrantApply c) s = execHcoreGrantApply c s := rfl
@[simp] theorem exec_freqSet (src : Nat) (job : Nat) (mhz : Nat) (b : Nat) (s : State) : exec (.freqSet src job mhz b) s = execFreqSet src job mhz b s := rfl
@[simp] theorem exec_laggard (job : Nat) (causes : BitVec 3) (mhz : Nat) (step : Nat) (serial : Bytes) (s : State) : exec (.laggard job causes mhz step serial) s = execLaggard job causes mhz step serial s := rfl
@[simp] theorem exec_laggardClear (job : Nat) (step : Nat) (serial : Bytes) (s : State) : exec (.laggardClear job step serial) s = execLaggardClear job step serial s := rfl
@[simp] theorem exec_freqLate (job : Nat) (step : Nat) (serial : Bytes) (s : State) : exec (.freqLate job step serial) s = execFreqLate job step serial s := rfl
@[simp] theorem exec_dieTempSample (d : Nat) (t : Nat) (s : State) : exec (.dieTempSample d t) s = execDieTempSample d t s := rfl
@[simp] theorem exec_dieCriticalTimeout (d : Nat) (s : State) : exec (.dieCriticalTimeout d) s = execDieCriticalTimeout d s := rfl
@[simp] theorem exec_hearthTick (avg : Nat) (now : Nat) (s : State) : exec (.hearthTick avg now) s = execHearthTick avg now s := rfl
@[simp] theorem exec_hearthRamp (s : State) : exec .hearthRamp s = execHearthRamp s := rfl
@[simp] theorem exec_hearthTimeout (s : State) : exec .hearthTimeout s = execHearthTimeout s := rfl
@[simp] theorem exec_hearthDisable (s : State) : exec .hearthDisable s = execHearthDisable s := rfl
@[simp] theorem exec_wingIdleTimeout (w : Nat) (s : State) : exec (.wingIdleTimeout w) s = execWingIdleTimeout w s := rfl
@[simp] theorem exec_wingWake (w : Nat) (s : State) : exec (.wingWake w) s = execWingWake w s := rfl
@[simp] theorem exec_wingWakeDone (w : Nat) (s : State) : exec (.wingWakeDone w) s = execWingWakeDone w s := rfl
@[simp] theorem exec_wakeAssert (s : State) : exec .wakeAssert s = execWakeAssert s := rfl
@[simp] theorem exec_ledgerRecordWrite (s : State) : exec .ledgerRecordWrite s = execLedgerRecordWrite s := rfl
@[simp] theorem exec_slotFree (i : Nat) (s : State) : exec (.slotFree i) s = execSlotFree i s := rfl
@[simp] theorem exec_read (m : DictMsg) (s : State) : exec (.read m) s = execRead m s := rfl
@[simp] theorem exec_write (m : DictMsg) (s : State) : exec (.write m) s = execWrite m s := rfl
@[simp] theorem exec_readSeg (m : DictMsg) (s : State) : exec (.readSeg m) s = execReadSeg m s := rfl
@[simp] theorem exec_writeSeg (m : DictMsg) (s : State) : exec (.writeSeg m) s = execWriteSeg m s := rfl
@[simp] theorem exec_event (src : Nat) (rec : EventRec) (s : State) : exec (.event src rec) s = execEvent src rec s := rfl
@[simp] theorem exec_heartbeat (role : Nat) (node : Nat) (step : Nat) (serial : Bytes) (s : State) : exec (.heartbeat role node step serial) s = execHeartbeat role node step serial s := rfl
@[simp] theorem exec_heartbeatTransmit (s : State) : exec .heartbeatTransmit s = execHeartbeatTransmit s := rfl
@[simp] theorem exec_nodeLostTimeout (n : Nat) (s : State) : exec (.nodeLostTimeout n) s = execNodeLostTimeout n s := rfl
@[simp] theorem exec_managerLostTimeout (s : State) : exec .managerLostTimeout s = execManagerLostTimeout s := rfl
@[simp] theorem exec_plcaBeaconTimeout (s : State) : exec .plcaBeaconTimeout s = execPlcaBeaconTimeout s := rfl
@[simp] theorem exec_requestRetry (seq : Nat) (s : State) : exec (.requestRetry seq) s = execRequestRetry seq s := rfl
@[simp] theorem exec_relayRetry (seq : Nat) (s : State) : exec (.relayRetry seq) s = execRelayRetry seq s := rfl
@[simp] theorem exec_replyLockRetry (s : State) : exec .replyLockRetry s = execReplyLockRetry s := rfl
@[simp] theorem exec_stage (s : Nat) (e : Nat) (st : State) : exec (.stage s e) st = execStage s e st := rfl
@[simp] theorem exec_epochAck (s : Nat) (unit : Nat) (st : State) : exec (.epochAck s unit) st = execEpochAck s unit st := rfl
@[simp] theorem exec_commit (s : Nat) (v : BitVec 64) (st : State) : exec (.commit s v) st = execCommit s v st := rfl
@[simp] theorem exec_epochCancel (s : Nat) (v : Nat) (st : State) : exec (.epochCancel s v) st = execEpochCancel s v st := rfl
@[simp] theorem exec_spdmRequest (code : BitVec 8) (param1 : BitVec 8) (body : Bytes) (s : State) : exec (.spdmRequest code param1 body) s = execSpdmRequest code param1 body s := rfl
@[simp] theorem exec_sessionOpen (path : Path) (key : Bytes) (eph : Bytes) (nonce : Bytes) (s : State) : exec (.sessionOpen path key eph nonce) s = execSessionOpen path key eph nonce s := rfl
@[simp] theorem exec_sessionFinish (n : Nat) (sig : Bytes) (s : State) : exec (.sessionFinish n sig) s = execSessionFinish n sig s := rfl
@[simp] theorem exec_sessionClose (n : Nat) (s : State) : exec (.sessionClose n) s = execSessionClose n s := rfl
@[simp] theorem exec_sessionTimeout (n : Nat) (s : State) : exec (.sessionTimeout n) s = execSessionTimeout n s := rfl
@[simp] theorem exec_breakerReport (b : Nat) (r : Report) (s : State) : exec (.breakerReport b r) s = execBreakerReport b r s := rfl
@[simp] theorem exec_bstatClear (b : Nat) (mask : BitVec 5) (s : State) : exec (.bstatClear b mask) s = execBstatClear b mask s := rfl
@[simp] theorem exec_bdropRead (b : Nat) (s : State) : exec (.bdropRead b) s = execBdropRead b s := rfl
@[simp] theorem exec_injctlWrite (b : Nat) (k : Nat) (v : BitVec 64) (s : State) : exec (.injctlWrite b k v) s = execInjctlWrite b k v s := rfl
@[simp] theorem exec_c4RecordClear (s : State) : exec .c4RecordClear s = execC4RecordClear s := rfl
@[simp] theorem exec_testStateRequest (path : Path) (session : Nat) (s : State) : exec (.testStateRequest path session) s = execTestStateRequest path session s := rfl
@[simp] theorem exec_tapBypass (s : State) : exec .tapBypass s = execTapBypass s := rfl
@[simp] theorem exec_tapIdcode (s : State) : exec .tapIdcode s = execTapIdcode s := rfl
@[simp] theorem exec_tapSample (s : State) : exec .tapSample s = execTapSample s := rfl
@[simp] theorem exec_tapExtest (s : State) : exec .tapExtest s = execTapExtest s := rfl
@[simp] theorem exec_tapClamp (s : State) : exec .tapClamp s = execTapClamp s := rfl
@[simp] theorem exec_tapHighz (s : State) : exec .tapHighz s = execTapHighz s := rfl
@[simp] theorem exec_tapDiesel (v : BitVec 8) (s : State) : exec (.tapDiesel v) s = execTapDiesel v s := rfl
@[simp] theorem exec_tapWsp (s : State) : exec .tapWsp s = execTapWsp s := rfl
@[simp] theorem exec_tapDwr (s : State) : exec .tapDwr s = execTapDwr s := rfl
@[simp] theorem exec_interconnectTestGo (s : State) : exec .interconnectTestGo s = execInterconnectTestGo s := rfl
@[simp] theorem exec_interconnectTestDone (errs : List Nat) (s : State) : exec (.interconnectTestDone errs) s = execInterconnectTestDone errs s := rfl
@[simp] theorem exec_powerOff (s : State) : exec .powerOff s = execPowerOff s := rfl
@[simp] theorem exec_prechargeStop (s : State) : exec .prechargeStop s = execPrechargeStop s := rfl
@[simp] theorem exec_wakeDeassert (s : State) : exec .wakeDeassert s = execWakeDeassert s := rfl
@[simp] theorem exec_tapReset (s : State) : exec .tapReset s = execTapReset s := rfl
@[simp] theorem exec_response (seq : Nat) (node : Nat) (status : Nat) (body : Bytes) (s : State) : exec (.response seq node status body) s = execResponse seq node status body s := rfl
@[simp] theorem exec_plcaBeaconReceive (s : State) : exec .plcaBeaconReceive s = execPlcaBeaconReceive s := rfl
@[simp] theorem exec_ringHallUp (n : Nat) (s : State) : exec (.ringHallUp n) s = execRingHallUp n s := rfl

end Sys2Proof.Machine
end

