-- ==== Sys2Proof/Laws/Tab.lean ====
section
/-! SUPPORT. Laws of the sparse tables and of memory as cells: what a key reads after an update, and that every update
keeps the canonical form. -/

namespace Sys2Proof.Machine

variable {α : Type}

/-- A key that a table does not list reads the default. -/
theorem tget_not_mem (d : α) (t : Tab α) (k : Nat) (h : k ∉ t.map Prod.fst) : tget d t k = d := by
  induction t with
  | nil => rfl
  | cons e t ih =>
    obtain ⟨a, b⟩ := e
    simp only [List.map_cons, List.mem_cons, not_or] at h
    unfold tget
    rw [if_neg (fun hh => h.1 hh.symm)]
    exact ih h.2

/-- Only the cells with the key itself matter to a key. -/
theorem tget_filter (d : α) (t : Tab α) (k : Nat) (p : Nat → Bool) (h : p k = true) :
    tget d (t.filter fun e => p e.1) k = tget d t k := by
  induction t with
  | nil => rfl
  | cons e t ih =>
    obtain ⟨a, b⟩ := e
    by_cases hp : p a = true
    · rw [List.filter_cons_of_pos (by simpa using hp)]
      simp only [tget]
      split
      · rfl
      · exact ih
    · rw [List.filter_cons_of_neg (by simpa using hp), ih]
      have : a ≠ k := fun hh => hp (hh ▸ h)
      simp [tget, this]

/-- A key that a filter drops reads the default. -/
theorem tget_filter_out (d : α) (t : Tab α) (k : Nat) (p : Nat → Bool) (h : p k = false) :
    tget d (t.filter fun e => p e.1) k = d := by
  apply tget_not_mem
  intro hm
  obtain ⟨e, he, rfl⟩ := List.mem_map.1 hm
  have := (List.mem_filter.1 he).2
  simp_all

/-- The removed key reads the default, any other key as before. -/
theorem tget_tdel (d : α) (t : Tab α) (k j : Nat) : tget d (tdel t k) j = if j = k then d else tget d t j := by
  unfold tdel
  by_cases h : j = k
  · rw [if_pos h]
    exact tget_filter_out d t j (fun x => decide (x ≠ k)) (by simp [h])
  · rw [if_neg h]
    exact tget_filter d t j (fun x => decide (x ≠ k)) (by simp [h])

/-- An inserted key reads its value where the table did not list it; any other key reads as before. -/
theorem tget_tins (d v : α) (t : Tab α) (k j : Nat) (hk : k ∉ t.map Prod.fst) :
    tget d (tins k v t) j = if j = k then v else tget d t j := by
  induction t with
  | nil =>
    simp only [tins, tget]
    by_cases h : k = j
    · simp [h]
    · rw [if_neg h, if_neg fun hh : j = k => h hh.symm]
  | cons e t ih =>
    obtain ⟨a, b⟩ := e
    simp only [List.map_cons, List.mem_cons, not_or] at hk
    simp only [tins]
    split
    · simp only [tget]
      by_cases h : k = j
      · simp [h]
      · rw [if_neg h, if_neg fun hh : j = k => h hh.symm]
    · simp only [tget]
      by_cases h : a = j
      · have : j ≠ k := fun hh => hk.1 (hh ▸ h.symm)
        simp [h, this]
      · simp only [h, if_false]
        exact ih hk.2

/-- A removed key is not listed. -/
theorem tdel_not_mem (t : Tab α) (k : Nat) : k ∉ (tdel t k).map Prod.fst := by
  simp [tdel]

/-- The key set reads its value, any other key as before. -/
@[simp] theorem tget_tset (d v : α) (t : Tab α) (k j : Nat) :
    tget d (tset k v t) j = if j = k then v else tget d t j := by
  unfold tset
  rw [tget_tins d v _ k j (tdel_not_mem t k), tget_tdel]
  split <;> simp_all

/-- The key put reads its value, any other key as before. -/
@[simp] theorem tget_tput [DecidableEq α] (d v : α) (t : Tab α) (k j : Nat) :
    tget d (tput d k v t) j = if j = k then v else tget d t j := by
  unfold tput
  split
  · rename_i h
    rw [tget_tdel, h]
  · exact tget_tset d v t k j

/-- A key that is not the one put reads as before, whatever it reads unlisted. -/
theorem tget_tput_ne [DecidableEq α] (e d v : α) (t : Tab α) (k j : Nat) (h : j ≠ k) :
    tget e (tput d k v t) j = tget e t j := by
  unfold tput
  split
  · rw [tget_tdel, if_neg h]
  · rw [tget_tset, if_neg h]

/-! ### The canonical form -/

/-- Strictly rising keys, said of neighbours and of all that follow. -/
theorem tsorted_cons (e : Nat × α) (t : Tab α) :
    tsorted (e :: t) = true ↔ (∀ x ∈ t, e.1 < x.1) ∧ tsorted t = true := by
  induction t generalizing e with
  | nil => simp [tsorted]
  | cons f t ih =>
    obtain ⟨a, b⟩ := e
    obtain ⟨c, v⟩ := f
    simp only [tsorted, Bool.and_eq_true, decide_eq_true_eq, List.mem_cons, forall_eq_or_imp]
    constructor
    · rintro ⟨h1, h2⟩
      exact ⟨⟨h1, fun x hx => Nat.lt_trans h1 (((ih (c, v)).1 h2).1 x hx)⟩, h2⟩
    · rintro ⟨⟨h1, _⟩, h2⟩
      exact ⟨h1, h2⟩

/-- The canonical form of a table with one more entry in front. -/
theorem twf_cons [DecidableEq α] (d : α) (e : Nat × α) (t : Tab α) :
    twf d (e :: t) = true ↔ (∀ x ∈ t, e.1 < x.1) ∧ e.2 ≠ d ∧ twf d t = true := by
  simp only [twf, Bool.and_eq_true, tsorted_cons, List.all_cons, decide_eq_true_eq]
  constructor
  · rintro ⟨⟨a, b⟩, c, e⟩; exact ⟨a, c, b, e⟩
  · rintro ⟨a, c, b, e⟩; exact ⟨⟨a, b⟩, c, e⟩

/-- A filter keeps the canonical form. -/
theorem twf_filter [DecidableEq α] (d : α) (t : Tab α) (p : Nat × α → Bool) (h : twf d t = true) :
    twf d (t.filter p) = true := by
  induction t with
  | nil => rfl
  | cons e t ih =>
    obtain ⟨a, b, c⟩ := (twf_cons d e t).1 h
    by_cases hp : p e = true
    · rw [List.filter_cons_of_pos hp]
      exact (twf_cons d e _).2 ⟨fun x hx => a x (List.mem_filter.1 hx).1, b, ih c⟩
    · rw [List.filter_cons_of_neg hp]
      exact ih c

/-- Two canonical tables, one wholly before the other. -/
theorem twf_append [DecidableEq α] (d : α) (t u : Tab α) (ht : twf d t = true) (hu : twf d u = true)
    (h : ∀ x ∈ t, ∀ y ∈ u, x.1 < y.1) : twf d (t ++ u) = true := by
  induction t with
  | nil => exact hu
  | cons e t ih =>
    obtain ⟨a, b, c⟩ := (twf_cons d e t).1 ht
    rw [List.cons_append]
    refine (twf_cons d e _).2 ⟨fun x hx => ?_, b, ih c fun x hx => h x (List.mem_cons_of_mem _ hx)⟩
    rcases List.mem_append.1 hx with hx | hx
    · exact a x hx
    · exact h e List.mem_cons_self x hx

/-- Inserting a key keeps the canonical form. -/
theorem tins_keys (k : Nat) (v : α) (t : Tab α) (e : Nat × α) (h : e ∈ tins k v t) : e = (k, v) ∨ e ∈ t := by
  induction t with
  | nil => simp [tins] at h; exact .inl h
  | cons f t ih =>
    obtain ⟨a, b⟩ := f
    simp only [tins] at h
    split at h
    · rcases List.mem_cons.1 h with h | h
      · exact .inl h
      · exact .inr h
    · rcases List.mem_cons.1 h with h | h
      · exact .inr (h ▸ List.mem_cons_self)
      · rcases ih h with h | h
        · exact .inl h
        · exact .inr (List.mem_cons_of_mem _ h)

/-- Inserting an unlisted key with a value that is not the default keeps the canonical form. -/
theorem twf_tins [DecidableEq α] (d v : α) (k : Nat) (t : Tab α) (h : twf d t = true) (hv : v ≠ d)
    (hk : k ∉ t.map Prod.fst) : twf d (tins k v t) = true := by
  induction t with
  | nil => simp [tins, twf, tsorted, hv]
  | cons e t ih =>
    obtain ⟨a, b⟩ := e
    obtain ⟨h1, h2, h3⟩ := (twf_cons d (a, b) t).1 h
    simp only [List.map_cons, List.mem_cons, not_or] at hk
    simp only [tins]
    split
    · rename_i hlt
      refine (twf_cons d _ _).2 ⟨fun x hx => ?_, hv, h⟩
      rcases List.mem_cons.1 hx with hx | hx
      · rw [hx]; exact hlt
      · exact Nat.lt_trans hlt (h1 x hx)
    · rename_i hlt
      refine (twf_cons d _ _).2 ⟨fun x hx => ?_, h2, ih h3 hk.2⟩
      rcases tins_keys k v t x hx with hx | hx
      · rw [hx]; show a < k; have := hk.1; omega
      · exact h1 x hx

/-- Putting a value keeps the canonical form. -/
theorem twf_tput [DecidableEq α] (d v : α) (k : Nat) (t : Tab α) (h : twf d t = true) : twf d (tput d k v t) = true := by
  unfold tput tset
  split
  · exact twf_filter d t _ h
  · rename_i hv
    exact twf_tins d v k _ (twf_filter d t _ h) hv (tdel_not_mem t k)

/-! ### Memory as cells -/

/-- The cells of a run of bytes lie where the bytes lie, and none is zero. -/
theorem cellsRun_mem (a : Nat) (bs : Bytes) (c : Host.Cell) (h : c ∈ cellsRun a bs) :
    a ≤ c.1 ∧ c.1 < a + bs.length ∧ c.2 ≠ 0#8 := by
  induction bs generalizing a with
  | nil => simp [cellsRun] at h
  | cons b bs ih =>
    simp only [cellsRun] at h
    split at h
    · obtain ⟨h1, h2, h3⟩ := ih (a + 1) h
      refine ⟨by omega, ?_, h3⟩
      simp only [List.length_cons]; omega
    · rename_i hb
      rcases List.mem_cons.1 h with h | h
      · subst h; simp only [List.length_cons]; exact ⟨Nat.le_refl _, by omega, hb⟩
      · obtain ⟨h1, h2, h3⟩ := ih (a + 1) h
        refine ⟨by omega, ?_, h3⟩
        simp only [List.length_cons]; omega

/-- The cells of a run of bytes are in canonical form. -/
theorem cellsRun_wf (a : Nat) (bs : Bytes) : Memory.wf (cellsRun a bs) = true := by
  induction bs generalizing a with
  | nil => rfl
  | cons b bs ih =>
    simp only [cellsRun]
    split
    · exact ih (a + 1)
    · rename_i hb
      refine (twf_cons _ _ _).2 ⟨fun x hx => ?_, hb, ih (a + 1)⟩
      have := (cellsRun_mem (a + 1) bs x hx).1
      show a < x.1; omega

/-- Every store of bytes keeps the canonical form of memory. -/
theorem cellsPut_wf (a : Nat) (bs : Bytes) (m : List Host.Cell) (h : Memory.wf m = true) :
    Memory.wf (cellsPut a bs m) = true := by
  unfold cellsPut
  refine twf_append _ _ _ (twf_append _ _ _ (twf_filter _ _ _ h) (cellsRun_wf a bs) ?_) (twf_filter _ _ _ h) ?_
  · intro x hx y hy
    have h1 := (List.mem_filter.1 hx).2
    have h2 := (cellsRun_mem a bs y hy).1
    simp at h1; omega
  · intro x hx y hy
    have h2 := (List.mem_filter.1 hy).2
    simp at h2
    rcases List.mem_append.1 hx with hx | hx
    · have h1 := (List.mem_filter.1 hx).2
      simp at h1; omega
    · have h1 := (cellsRun_mem a bs x hx).2.1
      omega

/-- Keeping only some of the cells keeps the canonical form of memory. -/
theorem Memory.wf_filter (m : List Host.Cell) (p : Host.Cell → Bool) (h : Memory.wf m = true) :
    Memory.wf (m.filter p) = true := twf_filter _ _ _ h

end Sys2Proof.Machine
end

