-- ==== Sys2Proof/Laws/Ops.lean ====
section
/-! SUPPORT. What the shared operations do, once: what each accessor reads after an update, what counting, raising an event
and moving time leave alone, and when a command's answer is its effect itself. -/

namespace Sys2Proof.Machine

/-- What every step of a fold keeps, the fold keeps. -/
theorem each_keeps {σ β γ : Type} (P : σ → γ) (f : β → σ → σ) (h : ∀ x s, P (f x s) = P s) (l : List β) (s : σ) :
    P (each l f s) = P s := by
  unfold each
  induction l generalizing s with
  | nil => rfl
  | cons x l ih => rw [List.foldl_cons, ih, h]

/-- A condition that every step of a fold keeps holds after it. -/
theorem each_inv {σ β : Type} (P : σ → Prop) (f : β → σ → σ) (h : ∀ x s, P s → P (f x s)) (l : List β) (s : σ) (hs : P s) :
    P (each l f s) := by
  unfold each
  induction l generalizing s with
  | nil => exact hs
  | cons x l ih => rw [List.foldl_cons]; exact ih _ (h x s hs)

variable (s : State)

/-! ### Reading back -/

@[simp] theorem State.room_setRoom (g j : Nat) (r : Room) : (s.setRoom g r).room j = if j = g then r else s.room j := tget_tset ..
@[simp] theorem State.wing_setWing (g j : Nat) (r : Wing) : (s.setWing g r).wing j = if j = g then r else s.wing j := tget_tset ..
@[simp] theorem State.die_setDie (g j : Nat) (r : Die) : (s.setDie g r).die j = if j = g then r else s.die j := tget_tset ..
@[simp] theorem State.cache_setCache (g j : Nat) (r : Cache) : (s.setCache g r).cache j = if j = g then r else s.cache j := tget_tset ..
@[simp] theorem State.stack_setStack (g j : Nat) (r : Stack) : (s.setStack g r).stack j = if j = g then r else s.stack j := tget_tset ..
@[simp] theorem State.ctxRec_setCtx (g j : Nat) (r : Context) : (s.setCtx g r).ctxRec j = if j = g then r else s.ctxRec j := tget_tset ..
@[simp] theorem State.pair_setPair (g j : Nat) (r : Pair) : (s.setPair g r).pair j = if j = g then r else s.pair j := tget_tset ..
@[simp] theorem State.epoch_setEpoch (g j : Nat) (r : Epoch) : (s.setEpoch g r).epoch j = if j = g then r else s.epoch j := tget_tset ..
@[simp] theorem State.unitModes_setModes (g j : Nat) (r : UnitModes) : (s.setModes g r).unitModes j = if j = g then r else s.unitModes j := tget_tset ..
@[simp] theorem State.fleetOf_setFleet (g j : Nat) (r : Fleet) : (s.setFleet g r).fleetOf j = if j = g then r else s.fleetOf j := tget_tset ..

/-- A register reads what was put into it; every other register reads as before. -/
@[simp] theorem State.reg_setReg (a b : Nat) (v : BitVec 64) : (s.setReg a v).reg b = if b = a then v else s.reg b := by
  by_cases h : b = a
  · subst h; simp [State.reg, State.setReg]
  · rw [if_neg h]; exact tget_tput_ne _ _ _ _ _ _ h

/-- An entry reads what was put into it. -/
@[simp] theorem State.ent_setEnt_same (i k v : Nat) : (s.setEnt i k v).ent i k = v := by
  simp [State.ent, State.setEnt]

/-- An entry whose key is another reads as before. -/
theorem State.ent_setEnt_ne (i k v j l : Nat) (h : dictKey j l ≠ dictKey i k) : (s.setEnt i k v).ent j l = s.ent j l := by
  exact tget_tput_ne _ _ _ _ _ _ h

/-- Entries with small subindices have different keys when they differ. -/
theorem dictKey_ne (i k j l : Nat) (hk : k < 256) (hl : l < 256) (h : ¬ (j = i ∧ l = k)) : dictKey j l ≠ dictKey i k := by
  unfold dictKey; omega

/-- A run of bytes reads what was put into it. -/
@[simp] theorem State.blob_setBlob_same (i k : Nat) (v : Bytes) : (s.setBlob i k v).blob i k = v := by
  simp [State.blob, State.setBlob]

/-! ### What the updates of one field leave readable as before -/

@[simp] theorem State.setRoom_ent (g : Nat) (r : Room) (i0 k0 : Nat) : (s.setRoom g r).ent i0 k0 = s.ent i0 k0 := rfl
@[simp] theorem State.setRoom_reg (g : Nat) (r : Room) (a0 : Nat) : (s.setRoom g r).reg a0 = s.reg a0 := rfl
@[simp] theorem State.setRoom_regN (g : Nat) (r : Room) (a0 : Nat) : (s.setRoom g r).regN a0 = s.regN a0 := rfl
@[simp] theorem State.setRoom_regF (g : Nat) (r : Room) (a0 u0 l0 : Nat) : (s.setRoom g r).regF a0 u0 l0 = s.regF a0 u0 l0 := rfl
@[simp] theorem State.setRoom_blob (g : Nat) (r : Room) (i0 k0 : Nat) : (s.setRoom g r).blob i0 k0 = s.blob i0 k0 := rfl
@[simp] theorem State.setRoom_wing (g : Nat) (r : Room) (x0 : Nat) : (s.setRoom g r).wing x0 = s.wing x0 := rfl
@[simp] theorem State.setRoom_die (g : Nat) (r : Room) (x0 : Nat) : (s.setRoom g r).die x0 = s.die x0 := rfl
@[simp] theorem State.setRoom_pair (g : Nat) (r : Room) (x0 : Nat) : (s.setRoom g r).pair x0 = s.pair x0 := rfl
@[simp] theorem State.setRoom_byte (g : Nat) (r : Room) (a0 : Nat) : (s.setRoom g r).byte a0 = s.byte a0 := rfl
@[simp] theorem State.setRoom_fleetOf (g : Nat) (r : Room) (x0 : Nat) : (s.setRoom g r).fleetOf x0 = s.fleetOf x0 := rfl
@[simp] theorem State.setRoom_epoch (g : Nat) (r : Room) (x0 : Nat) : (s.setRoom g r).epoch x0 = s.epoch x0 := rfl
@[simp] theorem State.setRoom_on (g : Nat) (r : Room) : (s.setRoom g r).on = s.on := rfl
@[simp] theorem State.setRoom_dieUp (g : Nat) (r : Room) (x0 : Nat) : (s.setRoom g r).dieUp x0 = s.dieUp x0 := rfl
@[simp] theorem State.setRoom_wingUp (g : Nat) (r : Room) (x0 : Nat) : (s.setRoom g r).wingUp x0 = s.wingUp x0 := rfl
@[simp] theorem State.setRoom_firmware (g : Nat) (r : Room) : (s.setRoom g r).firmware = s.firmware := rfl

@[simp] theorem State.setWing_ent (w : Nat) (v : Wing) (i0 k0 : Nat) : (s.setWing w v).ent i0 k0 = s.ent i0 k0 := rfl
@[simp] theorem State.setWing_reg (w : Nat) (v : Wing) (a0 : Nat) : (s.setWing w v).reg a0 = s.reg a0 := rfl
@[simp] theorem State.setWing_regN (w : Nat) (v : Wing) (a0 : Nat) : (s.setWing w v).regN a0 = s.regN a0 := rfl
@[simp] theorem State.setWing_regF (w : Nat) (v : Wing) (a0 u0 l0 : Nat) : (s.setWing w v).regF a0 u0 l0 = s.regF a0 u0 l0 := rfl
@[simp] theorem State.setWing_blob (w : Nat) (v : Wing) (i0 k0 : Nat) : (s.setWing w v).blob i0 k0 = s.blob i0 k0 := rfl
@[simp] theorem State.setWing_room (w : Nat) (v : Wing) (x0 : Nat) : (s.setWing w v).room x0 = s.room x0 := rfl
@[simp] theorem State.setWing_die (w : Nat) (v : Wing) (x0 : Nat) : (s.setWing w v).die x0 = s.die x0 := rfl
@[simp] theorem State.setWing_pair (w : Nat) (v : Wing) (x0 : Nat) : (s.setWing w v).pair x0 = s.pair x0 := rfl
@[simp] theorem State.setWing_byte (w : Nat) (v : Wing) (a0 : Nat) : (s.setWing w v).byte a0 = s.byte a0 := rfl
@[simp] theorem State.setWing_fleetOf (w : Nat) (v : Wing) (x0 : Nat) : (s.setWing w v).fleetOf x0 = s.fleetOf x0 := rfl
@[simp] theorem State.setWing_epoch (w : Nat) (v : Wing) (x0 : Nat) : (s.setWing w v).epoch x0 = s.epoch x0 := rfl
@[simp] theorem State.setWing_on (w : Nat) (v : Wing) : (s.setWing w v).on = s.on := rfl
@[simp] theorem State.setWing_dieUp (w : Nat) (v : Wing) (x0 : Nat) : (s.setWing w v).dieUp x0 = s.dieUp x0 := rfl
@[simp] theorem State.setWing_wingUp (w : Nat) (v : Wing) (x0 : Nat) : (s.setWing w v).wingUp x0 = s.wingUp x0 := rfl
@[simp] theorem State.setWing_firmware (w : Nat) (v : Wing) : (s.setWing w v).firmware = s.firmware := rfl

@[simp] theorem State.setDie_ent (d : Nat) (v : Die) (i0 k0 : Nat) : (s.setDie d v).ent i0 k0 = s.ent i0 k0 := rfl
@[simp] theorem State.setDie_reg (d : Nat) (v : Die) (a0 : Nat) : (s.setDie d v).reg a0 = s.reg a0 := rfl
@[simp] theorem State.setDie_regN (d : Nat) (v : Die) (a0 : Nat) : (s.setDie d v).regN a0 = s.regN a0 := rfl
@[simp] theorem State.setDie_regF (d : Nat) (v : Die) (a0 u0 l0 : Nat) : (s.setDie d v).regF a0 u0 l0 = s.regF a0 u0 l0 := rfl
@[simp] theorem State.setDie_blob (d : Nat) (v : Die) (i0 k0 : Nat) : (s.setDie d v).blob i0 k0 = s.blob i0 k0 := rfl
@[simp] theorem State.setDie_room (d : Nat) (v : Die) (x0 : Nat) : (s.setDie d v).room x0 = s.room x0 := rfl
@[simp] theorem State.setDie_wing (d : Nat) (v : Die) (x0 : Nat) : (s.setDie d v).wing x0 = s.wing x0 := rfl
@[simp] theorem State.setDie_pair (d : Nat) (v : Die) (x0 : Nat) : (s.setDie d v).pair x0 = s.pair x0 := rfl
@[simp] theorem State.setDie_byte (d : Nat) (v : Die) (a0 : Nat) : (s.setDie d v).byte a0 = s.byte a0 := rfl
@[simp] theorem State.setDie_fleetOf (d : Nat) (v : Die) (x0 : Nat) : (s.setDie d v).fleetOf x0 = s.fleetOf x0 := rfl
@[simp] theorem State.setDie_epoch (d : Nat) (v : Die) (x0 : Nat) : (s.setDie d v).epoch x0 = s.epoch x0 := rfl
@[simp] theorem State.setDie_on (d : Nat) (v : Die) : (s.setDie d v).on = s.on := rfl
@[simp] theorem State.setDie_dieUp (d : Nat) (v : Die) (x0 : Nat) : (s.setDie d v).dieUp x0 = s.dieUp x0 := rfl
@[simp] theorem State.setDie_wingUp (d : Nat) (v : Die) (x0 : Nat) : (s.setDie d v).wingUp x0 = s.wingUp x0 := rfl
@[simp] theorem State.setDie_firmware (d : Nat) (v : Die) : (s.setDie d v).firmware = s.firmware := rfl

@[simp] theorem State.setCache_ent (a : Nat) (v : Cache) (i0 k0 : Nat) : (s.setCache a v).ent i0 k0 = s.ent i0 k0 := rfl
@[simp] theorem State.setCache_reg (a : Nat) (v : Cache) (a0 : Nat) : (s.setCache a v).reg a0 = s.reg a0 := rfl
@[simp] theorem State.setCache_regN (a : Nat) (v : Cache) (a0 : Nat) : (s.setCache a v).regN a0 = s.regN a0 := rfl
@[simp] theorem State.setCache_regF (a : Nat) (v : Cache) (a0 u0 l0 : Nat) : (s.setCache a v).regF a0 u0 l0 = s.regF a0 u0 l0 := rfl
@[simp] theorem State.setCache_blob (a : Nat) (v : Cache) (i0 k0 : Nat) : (s.setCache a v).blob i0 k0 = s.blob i0 k0 := rfl
@[simp] theorem State.setCache_room (a : Nat) (v : Cache) (x0 : Nat) : (s.setCache a v).room x0 = s.room x0 := rfl
@[simp] theorem State.setCache_wing (a : Nat) (v : Cache) (x0 : Nat) : (s.setCache a v).wing x0 = s.wing x0 := rfl
@[simp] theorem State.setCache_die (a : Nat) (v : Cache) (x0 : Nat) : (s.setCache a v).die x0 = s.die x0 := rfl
@[simp] theorem State.setCache_pair (a : Nat) (v : Cache) (x0 : Nat) : (s.setCache a v).pair x0 = s.pair x0 := rfl
@[simp] theorem State.setCache_byte (a : Nat) (v : Cache) (a0 : Nat) : (s.setCache a v).byte a0 = s.byte a0 := rfl
@[simp] theorem State.setCache_fleetOf (a : Nat) (v : Cache) (x0 : Nat) : (s.setCache a v).fleetOf x0 = s.fleetOf x0 := rfl
@[simp] theorem State.setCache_epoch (a : Nat) (v : Cache) (x0 : Nat) : (s.setCache a v).epoch x0 = s.epoch x0 := rfl
@[simp] theorem State.setCache_on (a : Nat) (v : Cache) : (s.setCache a v).on = s.on := rfl
@[simp] theorem State.setCache_dieUp (a : Nat) (v : Cache) (x0 : Nat) : (s.setCache a v).dieUp x0 = s.dieUp x0 := rfl
@[simp] theorem State.setCache_wingUp (a : Nat) (v : Cache) (x0 : Nat) : (s.setCache a v).wingUp x0 = s.wingUp x0 := rfl
@[simp] theorem State.setCache_firmware (a : Nat) (v : Cache) : (s.setCache a v).firmware = s.firmware := rfl

@[simp] theorem State.setStack_ent (j : Nat) (v : Stack) (i0 k0 : Nat) : (s.setStack j v).ent i0 k0 = s.ent i0 k0 := rfl
@[simp] theorem State.setStack_reg (j : Nat) (v : Stack) (a0 : Nat) : (s.setStack j v).reg a0 = s.reg a0 := rfl
@[simp] theorem State.setStack_regN (j : Nat) (v : Stack) (a0 : Nat) : (s.setStack j v).regN a0 = s.regN a0 := rfl
@[simp] theorem State.setStack_regF (j : Nat) (v : Stack) (a0 u0 l0 : Nat) : (s.setStack j v).regF a0 u0 l0 = s.regF a0 u0 l0 := rfl
@[simp] theorem State.setStack_blob (j : Nat) (v : Stack) (i0 k0 : Nat) : (s.setStack j v).blob i0 k0 = s.blob i0 k0 := rfl
@[simp] theorem State.setStack_room (j : Nat) (v : Stack) (x0 : Nat) : (s.setStack j v).room x0 = s.room x0 := rfl
@[simp] theorem State.setStack_wing (j : Nat) (v : Stack) (x0 : Nat) : (s.setStack j v).wing x0 = s.wing x0 := rfl
@[simp] theorem State.setStack_die (j : Nat) (v : Stack) (x0 : Nat) : (s.setStack j v).die x0 = s.die x0 := rfl
@[simp] theorem State.setStack_pair (j : Nat) (v : Stack) (x0 : Nat) : (s.setStack j v).pair x0 = s.pair x0 := rfl
@[simp] theorem State.setStack_byte (j : Nat) (v : Stack) (a0 : Nat) : (s.setStack j v).byte a0 = s.byte a0 := rfl
@[simp] theorem State.setStack_fleetOf (j : Nat) (v : Stack) (x0 : Nat) : (s.setStack j v).fleetOf x0 = s.fleetOf x0 := rfl
@[simp] theorem State.setStack_epoch (j : Nat) (v : Stack) (x0 : Nat) : (s.setStack j v).epoch x0 = s.epoch x0 := rfl
@[simp] theorem State.setStack_on (j : Nat) (v : Stack) : (s.setStack j v).on = s.on := rfl
@[simp] theorem State.setStack_dieUp (j : Nat) (v : Stack) (x0 : Nat) : (s.setStack j v).dieUp x0 = s.dieUp x0 := rfl
@[simp] theorem State.setStack_wingUp (j : Nat) (v : Stack) (x0 : Nat) : (s.setStack j v).wingUp x0 = s.wingUp x0 := rfl
@[simp] theorem State.setStack_firmware (j : Nat) (v : Stack) : (s.setStack j v).firmware = s.firmware := rfl

@[simp] theorem State.setCtx_ent (c : Nat) (v : Context) (i0 k0 : Nat) : (s.setCtx c v).ent i0 k0 = s.ent i0 k0 := rfl
@[simp] theorem State.setCtx_reg (c : Nat) (v : Context) (a0 : Nat) : (s.setCtx c v).reg a0 = s.reg a0 := rfl
@[simp] theorem State.setCtx_regN (c : Nat) (v : Context) (a0 : Nat) : (s.setCtx c v).regN a0 = s.regN a0 := rfl
@[simp] theorem State.setCtx_regF (c : Nat) (v : Context) (a0 u0 l0 : Nat) : (s.setCtx c v).regF a0 u0 l0 = s.regF a0 u0 l0 := rfl
@[simp] theorem State.setCtx_blob (c : Nat) (v : Context) (i0 k0 : Nat) : (s.setCtx c v).blob i0 k0 = s.blob i0 k0 := rfl
@[simp] theorem State.setCtx_room (c : Nat) (v : Context) (x0 : Nat) : (s.setCtx c v).room x0 = s.room x0 := rfl
@[simp] theorem State.setCtx_wing (c : Nat) (v : Context) (x0 : Nat) : (s.setCtx c v).wing x0 = s.wing x0 := rfl
@[simp] theorem State.setCtx_die (c : Nat) (v : Context) (x0 : Nat) : (s.setCtx c v).die x0 = s.die x0 := rfl
@[simp] theorem State.setCtx_pair (c : Nat) (v : Context) (x0 : Nat) : (s.setCtx c v).pair x0 = s.pair x0 := rfl
@[simp] theorem State.setCtx_byte (c : Nat) (v : Context) (a0 : Nat) : (s.setCtx c v).byte a0 = s.byte a0 := rfl
@[simp] theorem State.setCtx_fleetOf (c : Nat) (v : Context) (x0 : Nat) : (s.setCtx c v).fleetOf x0 = s.fleetOf x0 := rfl
@[simp] theorem State.setCtx_epoch (c : Nat) (v : Context) (x0 : Nat) : (s.setCtx c v).epoch x0 = s.epoch x0 := rfl
@[simp] theorem State.setCtx_on (c : Nat) (v : Context) : (s.setCtx c v).on = s.on := rfl
@[simp] theorem State.setCtx_dieUp (c : Nat) (v : Context) (x0 : Nat) : (s.setCtx c v).dieUp x0 = s.dieUp x0 := rfl
@[simp] theorem State.setCtx_wingUp (c : Nat) (v : Context) (x0 : Nat) : (s.setCtx c v).wingUp x0 = s.wingUp x0 := rfl
@[simp] theorem State.setCtx_firmware (c : Nat) (v : Context) : (s.setCtx c v).firmware = s.firmware := rfl

@[simp] theorem State.setPair_ent (m : Nat) (v : Pair) (i0 k0 : Nat) : (s.setPair m v).ent i0 k0 = s.ent i0 k0 := rfl
@[simp] theorem State.setPair_reg (m : Nat) (v : Pair) (a0 : Nat) : (s.setPair m v).reg a0 = s.reg a0 := rfl
@[simp] theorem State.setPair_regN (m : Nat) (v : Pair) (a0 : Nat) : (s.setPair m v).regN a0 = s.regN a0 := rfl
@[simp] theorem State.setPair_regF (m : Nat) (v : Pair) (a0 u0 l0 : Nat) : (s.setPair m v).regF a0 u0 l0 = s.regF a0 u0 l0 := rfl
@[simp] theorem State.setPair_blob (m : Nat) (v : Pair) (i0 k0 : Nat) : (s.setPair m v).blob i0 k0 = s.blob i0 k0 := rfl
@[simp] theorem State.setPair_room (m : Nat) (v : Pair) (x0 : Nat) : (s.setPair m v).room x0 = s.room x0 := rfl
@[simp] theorem State.setPair_wing (m : Nat) (v : Pair) (x0 : Nat) : (s.setPair m v).wing x0 = s.wing x0 := rfl
@[simp] theorem State.setPair_die (m : Nat) (v : Pair) (x0 : Nat) : (s.setPair m v).die x0 = s.die x0 := rfl
@[simp] theorem State.setPair_byte (m : Nat) (v : Pair) (a0 : Nat) : (s.setPair m v).byte a0 = s.byte a0 := rfl
@[simp] theorem State.setPair_fleetOf (m : Nat) (v : Pair) (x0 : Nat) : (s.setPair m v).fleetOf x0 = s.fleetOf x0 := rfl
@[simp] theorem State.setPair_epoch (m : Nat) (v : Pair) (x0 : Nat) : (s.setPair m v).epoch x0 = s.epoch x0 := rfl
@[simp] theorem State.setPair_on (m : Nat) (v : Pair) : (s.setPair m v).on = s.on := rfl
@[simp] theorem State.setPair_dieUp (m : Nat) (v : Pair) (x0 : Nat) : (s.setPair m v).dieUp x0 = s.dieUp x0 := rfl
@[simp] theorem State.setPair_wingUp (m : Nat) (v : Pair) (x0 : Nat) : (s.setPair m v).wingUp x0 = s.wingUp x0 := rfl
@[simp] theorem State.setPair_firmware (m : Nat) (v : Pair) : (s.setPair m v).firmware = s.firmware := rfl

@[simp] theorem State.setHatch_ent (h : Nat) (v : List HatchRun) (i0 k0 : Nat) : (s.setHatch h v).ent i0 k0 = s.ent i0 k0 := rfl
@[simp] theorem State.setHatch_reg (h : Nat) (v : List HatchRun) (a0 : Nat) : (s.setHatch h v).reg a0 = s.reg a0 := rfl
@[simp] theorem State.setHatch_regN (h : Nat) (v : List HatchRun) (a0 : Nat) : (s.setHatch h v).regN a0 = s.regN a0 := rfl
@[simp] theorem State.setHatch_regF (h : Nat) (v : List HatchRun) (a0 u0 l0 : Nat) : (s.setHatch h v).regF a0 u0 l0 = s.regF a0 u0 l0 := rfl
@[simp] theorem State.setHatch_blob (h : Nat) (v : List HatchRun) (i0 k0 : Nat) : (s.setHatch h v).blob i0 k0 = s.blob i0 k0 := rfl
@[simp] theorem State.setHatch_room (h : Nat) (v : List HatchRun) (x0 : Nat) : (s.setHatch h v).room x0 = s.room x0 := rfl
@[simp] theorem State.setHatch_wing (h : Nat) (v : List HatchRun) (x0 : Nat) : (s.setHatch h v).wing x0 = s.wing x0 := rfl
@[simp] theorem State.setHatch_die (h : Nat) (v : List HatchRun) (x0 : Nat) : (s.setHatch h v).die x0 = s.die x0 := rfl
@[simp] theorem State.setHatch_pair (h : Nat) (v : List HatchRun) (x0 : Nat) : (s.setHatch h v).pair x0 = s.pair x0 := rfl
@[simp] theorem State.setHatch_byte (h : Nat) (v : List HatchRun) (a0 : Nat) : (s.setHatch h v).byte a0 = s.byte a0 := rfl
@[simp] theorem State.setHatch_fleetOf (h : Nat) (v : List HatchRun) (x0 : Nat) : (s.setHatch h v).fleetOf x0 = s.fleetOf x0 := rfl
@[simp] theorem State.setHatch_epoch (h : Nat) (v : List HatchRun) (x0 : Nat) : (s.setHatch h v).epoch x0 = s.epoch x0 := rfl
@[simp] theorem State.setHatch_on (h : Nat) (v : List HatchRun) : (s.setHatch h v).on = s.on := rfl
@[simp] theorem State.setHatch_dieUp (h : Nat) (v : List HatchRun) (x0 : Nat) : (s.setHatch h v).dieUp x0 = s.dieUp x0 := rfl
@[simp] theorem State.setHatch_wingUp (h : Nat) (v : List HatchRun) (x0 : Nat) : (s.setHatch h v).wingUp x0 = s.wingUp x0 := rfl
@[simp] theorem State.setHatch_firmware (h : Nat) (v : List HatchRun) : (s.setHatch h v).firmware = s.firmware := rfl

@[simp] theorem State.setEpoch_ent (i : Nat) (v : Epoch) (i0 k0 : Nat) : (s.setEpoch i v).ent i0 k0 = s.ent i0 k0 := rfl
@[simp] theorem State.setEpoch_reg (i : Nat) (v : Epoch) (a0 : Nat) : (s.setEpoch i v).reg a0 = s.reg a0 := rfl
@[simp] theorem State.setEpoch_regN (i : Nat) (v : Epoch) (a0 : Nat) : (s.setEpoch i v).regN a0 = s.regN a0 := rfl
@[simp] theorem State.setEpoch_regF (i : Nat) (v : Epoch) (a0 u0 l0 : Nat) : (s.setEpoch i v).regF a0 u0 l0 = s.regF a0 u0 l0 := rfl
@[simp] theorem State.setEpoch_blob (i : Nat) (v : Epoch) (i0 k0 : Nat) : (s.setEpoch i v).blob i0 k0 = s.blob i0 k0 := rfl
@[simp] theorem State.setEpoch_room (i : Nat) (v : Epoch) (x0 : Nat) : (s.setEpoch i v).room x0 = s.room x0 := rfl
@[simp] theorem State.setEpoch_wing (i : Nat) (v : Epoch) (x0 : Nat) : (s.setEpoch i v).wing x0 = s.wing x0 := rfl
@[simp] theorem State.setEpoch_die (i : Nat) (v : Epoch) (x0 : Nat) : (s.setEpoch i v).die x0 = s.die x0 := rfl
@[simp] theorem State.setEpoch_pair (i : Nat) (v : Epoch) (x0 : Nat) : (s.setEpoch i v).pair x0 = s.pair x0 := rfl
@[simp] theorem State.setEpoch_byte (i : Nat) (v : Epoch) (a0 : Nat) : (s.setEpoch i v).byte a0 = s.byte a0 := rfl
@[simp] theorem State.setEpoch_fleetOf (i : Nat) (v : Epoch) (x0 : Nat) : (s.setEpoch i v).fleetOf x0 = s.fleetOf x0 := rfl
@[simp] theorem State.setEpoch_on (i : Nat) (v : Epoch) : (s.setEpoch i v).on = s.on := rfl
@[simp] theorem State.setEpoch_dieUp (i : Nat) (v : Epoch) (x0 : Nat) : (s.setEpoch i v).dieUp x0 = s.dieUp x0 := rfl
@[simp] theorem State.setEpoch_wingUp (i : Nat) (v : Epoch) (x0 : Nat) : (s.setEpoch i v).wingUp x0 = s.wingUp x0 := rfl
@[simp] theorem State.setEpoch_firmware (i : Nat) (v : Epoch) : (s.setEpoch i v).firmware = s.firmware := rfl

@[simp] theorem State.setModes_ent (u : Nat) (v : UnitModes) (i0 k0 : Nat) : (s.setModes u v).ent i0 k0 = s.ent i0 k0 := rfl
@[simp] theorem State.setModes_reg (u : Nat) (v : UnitModes) (a0 : Nat) : (s.setModes u v).reg a0 = s.reg a0 := rfl
@[simp] theorem State.setModes_regN (u : Nat) (v : UnitModes) (a0 : Nat) : (s.setModes u v).regN a0 = s.regN a0 := rfl
@[simp] theorem State.setModes_regF (u : Nat) (v : UnitModes) (a0 u0 l0 : Nat) : (s.setModes u v).regF a0 u0 l0 = s.regF a0 u0 l0 := rfl
@[simp] theorem State.setModes_blob (u : Nat) (v : UnitModes) (i0 k0 : Nat) : (s.setModes u v).blob i0 k0 = s.blob i0 k0 := rfl
@[simp] theorem State.setModes_room (u : Nat) (v : UnitModes) (x0 : Nat) : (s.setModes u v).room x0 = s.room x0 := rfl
@[simp] theorem State.setModes_wing (u : Nat) (v : UnitModes) (x0 : Nat) : (s.setModes u v).wing x0 = s.wing x0 := rfl
@[simp] theorem State.setModes_die (u : Nat) (v : UnitModes) (x0 : Nat) : (s.setModes u v).die x0 = s.die x0 := rfl
@[simp] theorem State.setModes_pair (u : Nat) (v : UnitModes) (x0 : Nat) : (s.setModes u v).pair x0 = s.pair x0 := rfl
@[simp] theorem State.setModes_byte (u : Nat) (v : UnitModes) (a0 : Nat) : (s.setModes u v).byte a0 = s.byte a0 := rfl
@[simp] theorem State.setModes_fleetOf (u : Nat) (v : UnitModes) (x0 : Nat) : (s.setModes u v).fleetOf x0 = s.fleetOf x0 := rfl
@[simp] theorem State.setModes_epoch (u : Nat) (v : UnitModes) (x0 : Nat) : (s.setModes u v).epoch x0 = s.epoch x0 := rfl
@[simp] theorem State.setModes_on (u : Nat) (v : UnitModes) : (s.setModes u v).on = s.on := rfl
@[simp] theorem State.setModes_dieUp (u : Nat) (v : UnitModes) (x0 : Nat) : (s.setModes u v).dieUp x0 = s.dieUp x0 := rfl
@[simp] theorem State.setModes_wingUp (u : Nat) (v : UnitModes) (x0 : Nat) : (s.setModes u v).wingUp x0 = s.wingUp x0 := rfl
@[simp] theorem State.setModes_firmware (u : Nat) (v : UnitModes) : (s.setModes u v).firmware = s.firmware := rfl

@[simp] theorem State.setFleet_ent (i : Nat) (v : Fleet) (i0 k0 : Nat) : (s.setFleet i v).ent i0 k0 = s.ent i0 k0 := rfl
@[simp] theorem State.setFleet_reg (i : Nat) (v : Fleet) (a0 : Nat) : (s.setFleet i v).reg a0 = s.reg a0 := rfl
@[simp] theorem State.setFleet_regN (i : Nat) (v : Fleet) (a0 : Nat) : (s.setFleet i v).regN a0 = s.regN a0 := rfl
@[simp] theorem State.setFleet_regF (i : Nat) (v : Fleet) (a0 u0 l0 : Nat) : (s.setFleet i v).regF a0 u0 l0 = s.regF a0 u0 l0 := rfl
@[simp] theorem State.setFleet_blob (i : Nat) (v : Fleet) (i0 k0 : Nat) : (s.setFleet i v).blob i0 k0 = s.blob i0 k0 := rfl
@[simp] theorem State.setFleet_room (i : Nat) (v : Fleet) (x0 : Nat) : (s.setFleet i v).room x0 = s.room x0 := rfl
@[simp] theorem State.setFleet_wing (i : Nat) (v : Fleet) (x0 : Nat) : (s.setFleet i v).wing x0 = s.wing x0 := rfl
@[simp] theorem State.setFleet_die (i : Nat) (v : Fleet) (x0 : Nat) : (s.setFleet i v).die x0 = s.die x0 := rfl
@[simp] theorem State.setFleet_pair (i : Nat) (v : Fleet) (x0 : Nat) : (s.setFleet i v).pair x0 = s.pair x0 := rfl
@[simp] theorem State.setFleet_byte (i : Nat) (v : Fleet) (a0 : Nat) : (s.setFleet i v).byte a0 = s.byte a0 := rfl
@[simp] theorem State.setFleet_epoch (i : Nat) (v : Fleet) (x0 : Nat) : (s.setFleet i v).epoch x0 = s.epoch x0 := rfl
@[simp] theorem State.setFleet_on (i : Nat) (v : Fleet) : (s.setFleet i v).on = s.on := rfl
@[simp] theorem State.setFleet_dieUp (i : Nat) (v : Fleet) (x0 : Nat) : (s.setFleet i v).dieUp x0 = s.dieUp x0 := rfl
@[simp] theorem State.setFleet_wingUp (i : Nat) (v : Fleet) (x0 : Nat) : (s.setFleet i v).wingUp x0 = s.wingUp x0 := rfl
@[simp] theorem State.setFleet_firmware (i : Nat) (v : Fleet) : (s.setFleet i v).firmware = s.firmware := rfl

@[simp] theorem State.setReg_ent (pa : Nat) (v : BitVec 64) (i0 k0 : Nat) : (s.setReg pa v).ent i0 k0 = s.ent i0 k0 := rfl
@[simp] theorem State.setReg_blob (pa : Nat) (v : BitVec 64) (i0 k0 : Nat) : (s.setReg pa v).blob i0 k0 = s.blob i0 k0 := rfl
@[simp] theorem State.setReg_room (pa : Nat) (v : BitVec 64) (x0 : Nat) : (s.setReg pa v).room x0 = s.room x0 := rfl
@[simp] theorem State.setReg_wing (pa : Nat) (v : BitVec 64) (x0 : Nat) : (s.setReg pa v).wing x0 = s.wing x0 := rfl
@[simp] theorem State.setReg_die (pa : Nat) (v : BitVec 64) (x0 : Nat) : (s.setReg pa v).die x0 = s.die x0 := rfl
@[simp] theorem State.setReg_pair (pa : Nat) (v : BitVec 64) (x0 : Nat) : (s.setReg pa v).pair x0 = s.pair x0 := rfl
@[simp] theorem State.setReg_byte (pa : Nat) (v : BitVec 64) (a0 : Nat) : (s.setReg pa v).byte a0 = s.byte a0 := rfl
@[simp] theorem State.setReg_fleetOf (pa : Nat) (v : BitVec 64) (x0 : Nat) : (s.setReg pa v).fleetOf x0 = s.fleetOf x0 := rfl
@[simp] theorem State.setReg_epoch (pa : Nat) (v : BitVec 64) (x0 : Nat) : (s.setReg pa v).epoch x0 = s.epoch x0 := rfl
@[simp] theorem State.setReg_on (pa : Nat) (v : BitVec 64) : (s.setReg pa v).on = s.on := rfl
@[simp] theorem State.setReg_dieUp (pa : Nat) (v : BitVec 64) (x0 : Nat) : (s.setReg pa v).dieUp x0 = s.dieUp x0 := rfl
@[simp] theorem State.setReg_wingUp (pa : Nat) (v : BitVec 64) (x0 : Nat) : (s.setReg pa v).wingUp x0 = s.wingUp x0 := rfl
@[simp] theorem State.setReg_firmware (pa : Nat) (v : BitVec 64) : (s.setReg pa v).firmware = s.firmware := rfl

@[simp] theorem State.setRegF_ent (pa hi lo v : Nat) (i0 k0 : Nat) : (s.setRegF pa hi lo v).ent i0 k0 = s.ent i0 k0 := rfl
@[simp] theorem State.setRegF_blob (pa hi lo v : Nat) (i0 k0 : Nat) : (s.setRegF pa hi lo v).blob i0 k0 = s.blob i0 k0 := rfl
@[simp] theorem State.setRegF_room (pa hi lo v : Nat) (x0 : Nat) : (s.setRegF pa hi lo v).room x0 = s.room x0 := rfl
@[simp] theorem State.setRegF_wing (pa hi lo v : Nat) (x0 : Nat) : (s.setRegF pa hi lo v).wing x0 = s.wing x0 := rfl
@[simp] theorem State.setRegF_die (pa hi lo v : Nat) (x0 : Nat) : (s.setRegF pa hi lo v).die x0 = s.die x0 := rfl
@[simp] theorem State.setRegF_pair (pa hi lo v : Nat) (x0 : Nat) : (s.setRegF pa hi lo v).pair x0 = s.pair x0 := rfl
@[simp] theorem State.setRegF_byte (pa hi lo v : Nat) (a0 : Nat) : (s.setRegF pa hi lo v).byte a0 = s.byte a0 := rfl
@[simp] theorem State.setRegF_fleetOf (pa hi lo v : Nat) (x0 : Nat) : (s.setRegF pa hi lo v).fleetOf x0 = s.fleetOf x0 := rfl
@[simp] theorem State.setRegF_epoch (pa hi lo v : Nat) (x0 : Nat) : (s.setRegF pa hi lo v).epoch x0 = s.epoch x0 := rfl
@[simp] theorem State.setRegF_on (pa hi lo v : Nat) : (s.setRegF pa hi lo v).on = s.on := rfl
@[simp] theorem State.setRegF_dieUp (pa hi lo v : Nat) (x0 : Nat) : (s.setRegF pa hi lo v).dieUp x0 = s.dieUp x0 := rfl
@[simp] theorem State.setRegF_wingUp (pa hi lo v : Nat) (x0 : Nat) : (s.setRegF pa hi lo v).wingUp x0 = s.wingUp x0 := rfl
@[simp] theorem State.setRegF_firmware (pa hi lo v : Nat) : (s.setRegF pa hi lo v).firmware = s.firmware := rfl

@[simp] theorem State.setEnt_reg (i k v : Nat) (a0 : Nat) : (s.setEnt i k v).reg a0 = s.reg a0 := rfl
@[simp] theorem State.setEnt_regN (i k v : Nat) (a0 : Nat) : (s.setEnt i k v).regN a0 = s.regN a0 := rfl
@[simp] theorem State.setEnt_regF (i k v : Nat) (a0 u0 l0 : Nat) : (s.setEnt i k v).regF a0 u0 l0 = s.regF a0 u0 l0 := rfl
@[simp] theorem State.setEnt_blob (i k v : Nat) (i0 k0 : Nat) : (s.setEnt i k v).blob i0 k0 = s.blob i0 k0 := rfl
@[simp] theorem State.setEnt_room (i k v : Nat) (x0 : Nat) : (s.setEnt i k v).room x0 = s.room x0 := rfl
@[simp] theorem State.setEnt_wing (i k v : Nat) (x0 : Nat) : (s.setEnt i k v).wing x0 = s.wing x0 := rfl
@[simp] theorem State.setEnt_die (i k v : Nat) (x0 : Nat) : (s.setEnt i k v).die x0 = s.die x0 := rfl
@[simp] theorem State.setEnt_pair (i k v : Nat) (x0 : Nat) : (s.setEnt i k v).pair x0 = s.pair x0 := rfl
@[simp] theorem State.setEnt_byte (i k v : Nat) (a0 : Nat) : (s.setEnt i k v).byte a0 = s.byte a0 := rfl
@[simp] theorem State.setEnt_fleetOf (i k v : Nat) (x0 : Nat) : (s.setEnt i k v).fleetOf x0 = s.fleetOf x0 := rfl
@[simp] theorem State.setEnt_epoch (i k v : Nat) (x0 : Nat) : (s.setEnt i k v).epoch x0 = s.epoch x0 := rfl
@[simp] theorem State.setEnt_on (i k v : Nat) : (s.setEnt i k v).on = s.on := rfl
@[simp] theorem State.setEnt_firmware (i k v : Nat) : (s.setEnt i k v).firmware = s.firmware := rfl

@[simp] theorem State.setBlob_ent (i k : Nat) (v : Bytes) (i0 k0 : Nat) : (s.setBlob i k v).ent i0 k0 = s.ent i0 k0 := rfl
@[simp] theorem State.setBlob_reg (i k : Nat) (v : Bytes) (a0 : Nat) : (s.setBlob i k v).reg a0 = s.reg a0 := rfl
@[simp] theorem State.setBlob_regN (i k : Nat) (v : Bytes) (a0 : Nat) : (s.setBlob i k v).regN a0 = s.regN a0 := rfl
@[simp] theorem State.setBlob_regF (i k : Nat) (v : Bytes) (a0 u0 l0 : Nat) : (s.setBlob i k v).regF a0 u0 l0 = s.regF a0 u0 l0 := rfl
@[simp] theorem State.setBlob_room (i k : Nat) (v : Bytes) (x0 : Nat) : (s.setBlob i k v).room x0 = s.room x0 := rfl
@[simp] theorem State.setBlob_wing (i k : Nat) (v : Bytes) (x0 : Nat) : (s.setBlob i k v).wing x0 = s.wing x0 := rfl
@[simp] theorem State.setBlob_die (i k : Nat) (v : Bytes) (x0 : Nat) : (s.setBlob i k v).die x0 = s.die x0 := rfl
@[simp] theorem State.setBlob_pair (i k : Nat) (v : Bytes) (x0 : Nat) : (s.setBlob i k v).pair x0 = s.pair x0 := rfl
@[simp] theorem State.setBlob_byte (i k : Nat) (v : Bytes) (a0 : Nat) : (s.setBlob i k v).byte a0 = s.byte a0 := rfl
@[simp] theorem State.setBlob_fleetOf (i k : Nat) (v : Bytes) (x0 : Nat) : (s.setBlob i k v).fleetOf x0 = s.fleetOf x0 := rfl
@[simp] theorem State.setBlob_epoch (i k : Nat) (v : Bytes) (x0 : Nat) : (s.setBlob i k v).epoch x0 = s.epoch x0 := rfl
@[simp] theorem State.setBlob_on (i k : Nat) (v : Bytes) : (s.setBlob i k v).on = s.on := rfl
@[simp] theorem State.setBlob_dieUp (i k : Nat) (v : Bytes) (x0 : Nat) : (s.setBlob i k v).dieUp x0 = s.dieUp x0 := rfl
@[simp] theorem State.setBlob_wingUp (i k : Nat) (v : Bytes) (x0 : Nat) : (s.setBlob i k v).wingUp x0 = s.wingUp x0 := rfl
@[simp] theorem State.setBlob_firmware (i k : Nat) (v : Bytes) : (s.setBlob i k v).firmware = s.firmware := rfl

@[simp] theorem State.drawFree_ent (i0 k0 : Nat) : (s.drawFree).ent i0 k0 = s.ent i0 k0 := rfl
@[simp] theorem State.drawFree_reg (a0 : Nat) : (s.drawFree).reg a0 = s.reg a0 := rfl
@[simp] theorem State.drawFree_regN (a0 : Nat) : (s.drawFree).regN a0 = s.regN a0 := rfl
@[simp] theorem State.drawFree_regF (a0 u0 l0 : Nat) : (s.drawFree).regF a0 u0 l0 = s.regF a0 u0 l0 := rfl
@[simp] theorem State.drawFree_blob (i0 k0 : Nat) : (s.drawFree).blob i0 k0 = s.blob i0 k0 := rfl
@[simp] theorem State.drawFree_room (x0 : Nat) : (s.drawFree).room x0 = s.room x0 := rfl
@[simp] theorem State.drawFree_wing (x0 : Nat) : (s.drawFree).wing x0 = s.wing x0 := rfl
@[simp] theorem State.drawFree_die (x0 : Nat) : (s.drawFree).die x0 = s.die x0 := rfl
@[simp] theorem State.drawFree_pair (x0 : Nat) : (s.drawFree).pair x0 = s.pair x0 := rfl
@[simp] theorem State.drawFree_byte (a0 : Nat) : (s.drawFree).byte a0 = s.byte a0 := rfl
@[simp] theorem State.drawFree_fleetOf (x0 : Nat) : (s.drawFree).fleetOf x0 = s.fleetOf x0 := rfl
@[simp] theorem State.drawFree_epoch (x0 : Nat) : (s.drawFree).epoch x0 = s.epoch x0 := rfl
@[simp] theorem State.drawFree_on : (s.drawFree).on = s.on := rfl
@[simp] theorem State.drawFree_dieUp (x0 : Nat) : (s.drawFree).dieUp x0 = s.dieUp x0 := rfl
@[simp] theorem State.drawFree_wingUp (x0 : Nat) : (s.drawFree).wingUp x0 = s.wingUp x0 := rfl
@[simp] theorem State.drawFree_firmware : (s.drawFree).firmware = s.firmware := rfl

@[simp] theorem State.emit_ent (o : Out) (i0 k0 : Nat) : (s.emit o).ent i0 k0 = s.ent i0 k0 := rfl
@[simp] theorem State.emit_reg (o : Out) (a0 : Nat) : (s.emit o).reg a0 = s.reg a0 := rfl
@[simp] theorem State.emit_regN (o : Out) (a0 : Nat) : (s.emit o).regN a0 = s.regN a0 := rfl
@[simp] theorem State.emit_regF (o : Out) (a0 u0 l0 : Nat) : (s.emit o).regF a0 u0 l0 = s.regF a0 u0 l0 := rfl
@[simp] theorem State.emit_blob (o : Out) (i0 k0 : Nat) : (s.emit o).blob i0 k0 = s.blob i0 k0 := rfl
@[simp] theorem State.emit_room (o : Out) (x0 : Nat) : (s.emit o).room x0 = s.room x0 := rfl
@[simp] theorem State.emit_wing (o : Out) (x0 : Nat) : (s.emit o).wing x0 = s.wing x0 := rfl
@[simp] theorem State.emit_die (o : Out) (x0 : Nat) : (s.emit o).die x0 = s.die x0 := rfl
@[simp] theorem State.emit_pair (o : Out) (x0 : Nat) : (s.emit o).pair x0 = s.pair x0 := rfl
@[simp] theorem State.emit_byte (o : Out) (a0 : Nat) : (s.emit o).byte a0 = s.byte a0 := rfl
@[simp] theorem State.emit_fleetOf (o : Out) (x0 : Nat) : (s.emit o).fleetOf x0 = s.fleetOf x0 := rfl
@[simp] theorem State.emit_epoch (o : Out) (x0 : Nat) : (s.emit o).epoch x0 = s.epoch x0 := rfl
@[simp] theorem State.emit_on (o : Out) : (s.emit o).on = s.on := rfl
@[simp] theorem State.emit_dieUp (o : Out) (x0 : Nat) : (s.emit o).dieUp x0 = s.dieUp x0 := rfl
@[simp] theorem State.emit_wingUp (o : Out) (x0 : Nat) : (s.emit o).wingUp x0 = s.wingUp x0 := rfl
@[simp] theorem State.emit_firmware (o : Out) : (s.emit o).firmware = s.firmware := rfl

@[simp] theorem State.setPorch_ent (p : Porch) (i0 k0 : Nat) : (s.setPorch p).ent i0 k0 = s.ent i0 k0 := rfl
@[simp] theorem State.setPorch_reg (p : Porch) (a0 : Nat) : (s.setPorch p).reg a0 = s.reg a0 := rfl
@[simp] theorem State.setPorch_regN (p : Porch) (a0 : Nat) : (s.setPorch p).regN a0 = s.regN a0 := rfl
@[simp] theorem State.setPorch_regF (p : Porch) (a0 u0 l0 : Nat) : (s.setPorch p).regF a0 u0 l0 = s.regF a0 u0 l0 := rfl
@[simp] theorem State.setPorch_blob (p : Porch) (i0 k0 : Nat) : (s.setPorch p).blob i0 k0 = s.blob i0 k0 := rfl
@[simp] theorem State.setPorch_room (p : Porch) (x0 : Nat) : (s.setPorch p).room x0 = s.room x0 := rfl
@[simp] theorem State.setPorch_wing (p : Porch) (x0 : Nat) : (s.setPorch p).wing x0 = s.wing x0 := rfl
@[simp] theorem State.setPorch_die (p : Porch) (x0 : Nat) : (s.setPorch p).die x0 = s.die x0 := rfl
@[simp] theorem State.setPorch_pair (p : Porch) (x0 : Nat) : (s.setPorch p).pair x0 = s.pair x0 := rfl
@[simp] theorem State.setPorch_byte (p : Porch) (a0 : Nat) : (s.setPorch p).byte a0 = s.byte a0 := rfl
@[simp] theorem State.setPorch_fleetOf (p : Porch) (x0 : Nat) : (s.setPorch p).fleetOf x0 = s.fleetOf x0 := rfl
@[simp] theorem State.setPorch_epoch (p : Porch) (x0 : Nat) : (s.setPorch p).epoch x0 = s.epoch x0 := rfl

@[simp] theorem State.setCtl_ent (c : Control) (i0 k0 : Nat) : (s.setCtl c).ent i0 k0 = s.ent i0 k0 := rfl
@[simp] theorem State.setCtl_reg (c : Control) (a0 : Nat) : (s.setCtl c).reg a0 = s.reg a0 := rfl
@[simp] theorem State.setCtl_regN (c : Control) (a0 : Nat) : (s.setCtl c).regN a0 = s.regN a0 := rfl
@[simp] theorem State.setCtl_regF (c : Control) (a0 u0 l0 : Nat) : (s.setCtl c).regF a0 u0 l0 = s.regF a0 u0 l0 := rfl
@[simp] theorem State.setCtl_blob (c : Control) (i0 k0 : Nat) : (s.setCtl c).blob i0 k0 = s.blob i0 k0 := rfl
@[simp] theorem State.setCtl_room (c : Control) (x0 : Nat) : (s.setCtl c).room x0 = s.room x0 := rfl
@[simp] theorem State.setCtl_wing (c : Control) (x0 : Nat) : (s.setCtl c).wing x0 = s.wing x0 := rfl
@[simp] theorem State.setCtl_die (c : Control) (x0 : Nat) : (s.setCtl c).die x0 = s.die x0 := rfl
@[simp] theorem State.setCtl_pair (c : Control) (x0 : Nat) : (s.setCtl c).pair x0 = s.pair x0 := rfl
@[simp] theorem State.setCtl_byte (c : Control) (a0 : Nat) : (s.setCtl c).byte a0 = s.byte a0 := rfl
@[simp] theorem State.setCtl_fleetOf (c : Control) (x0 : Nat) : (s.setCtl c).fleetOf x0 = s.fleetOf x0 := rfl
@[simp] theorem State.setCtl_epoch (c : Control) (x0 : Nat) : (s.setCtl c).epoch x0 = s.epoch x0 := rfl
@[simp] theorem State.setCtl_on (c : Control) : (s.setCtl c).on = s.on := rfl
@[simp] theorem State.setCtl_dieUp (c : Control) (x0 : Nat) : (s.setCtl c).dieUp x0 = s.dieUp x0 := rfl
@[simp] theorem State.setCtl_wingUp (c : Control) (x0 : Nat) : (s.setCtl c).wingUp x0 = s.wingUp x0 := rfl
@[simp] theorem State.setCtl_firmware (c : Control) : (s.setCtl c).firmware = s.firmware := rfl

@[simp] theorem State.setSessions_ent (l : List Session) (i0 k0 : Nat) : (s.setSessions l).ent i0 k0 = s.ent i0 k0 := rfl
@[simp] theorem State.setSessions_reg (l : List Session) (a0 : Nat) : (s.setSessions l).reg a0 = s.reg a0 := rfl
@[simp] theorem State.setSessions_regN (l : List Session) (a0 : Nat) : (s.setSessions l).regN a0 = s.regN a0 := rfl
@[simp] theorem State.setSessions_regF (l : List Session) (a0 u0 l0 : Nat) : (s.setSessions l).regF a0 u0 l0 = s.regF a0 u0 l0 := rfl
@[simp] theorem State.setSessions_blob (l : List Session) (i0 k0 : Nat) : (s.setSessions l).blob i0 k0 = s.blob i0 k0 := rfl
@[simp] theorem State.setSessions_room (l : List Session) (x0 : Nat) : (s.setSessions l).room x0 = s.room x0 := rfl
@[simp] theorem State.setSessions_wing (l : List Session) (x0 : Nat) : (s.setSessions l).wing x0 = s.wing x0 := rfl
@[simp] theorem State.setSessions_die (l : List Session) (x0 : Nat) : (s.setSessions l).die x0 = s.die x0 := rfl
@[simp] theorem State.setSessions_pair (l : List Session) (x0 : Nat) : (s.setSessions l).pair x0 = s.pair x0 := rfl
@[simp] theorem State.setSessions_byte (l : List Session) (a0 : Nat) : (s.setSessions l).byte a0 = s.byte a0 := rfl
@[simp] theorem State.setSessions_fleetOf (l : List Session) (x0 : Nat) : (s.setSessions l).fleetOf x0 = s.fleetOf x0 := rfl
@[simp] theorem State.setSessions_epoch (l : List Session) (x0 : Nat) : (s.setSessions l).epoch x0 = s.epoch x0 := rfl
@[simp] theorem State.setSessions_on (l : List Session) : (s.setSessions l).on = s.on := rfl
@[simp] theorem State.setSessions_dieUp (l : List Session) (x0 : Nat) : (s.setSessions l).dieUp x0 = s.dieUp x0 := rfl
@[simp] theorem State.setSessions_wingUp (l : List Session) (x0 : Nat) : (s.setSessions l).wingUp x0 = s.wingUp x0 := rfl

/-! ### Counting, raising an event, and moving time -/

@[simp] theorem State.incEnt_pending (i k n : Nat) : (s.incEnt i k n).pending = s.pending := by unfold State.incEnt; split <;> simp
@[simp] theorem State.incEnt_house (i k n : Nat) : (s.incEnt i k n).house = s.house := by unfold State.incEnt; split <;> simp
@[simp] theorem State.incEnt_free (i k n : Nat) : (s.incEnt i k n).free = s.free := by unfold State.incEnt; split <;> simp
@[simp] theorem State.incEnt_porch (i k n : Nat) : (s.incEnt i k n).porch = s.porch := by unfold State.incEnt; split <;> simp
@[simp] theorem State.incEnt_regs (i k n : Nat) : (s.incEnt i k n).regs = s.regs := by unfold State.incEnt; split <;> simp
@[simp] theorem State.incEnt_blobs (i k n : Nat) : (s.incEnt i k n).blobs = s.blobs := by unfold State.incEnt; split <;> simp
@[simp] theorem State.incEnt_mem (i k n : Nat) : (s.incEnt i k n).mem = s.mem := by unfold State.incEnt; split <;> simp
@[simp] theorem State.incEnt_code (i k n : Nat) : (s.incEnt i k n).code = s.code := by unfold State.incEnt; split <;> simp
@[simp] theorem State.incEnt_rooms (i k n : Nat) : (s.incEnt i k n).rooms = s.rooms := by unfold State.incEnt; split <;> simp
@[simp] theorem State.incEnt_wings (i k n : Nat) : (s.incEnt i k n).wings = s.wings := by unfold State.incEnt; split <;> simp
@[simp] theorem State.incEnt_dies (i k n : Nat) : (s.incEnt i k n).dies = s.dies := by unfold State.incEnt; split <;> simp
@[simp] theorem State.incEnt_caches (i k n : Nat) : (s.incEnt i k n).caches = s.caches := by unfold State.incEnt; split <;> simp
@[simp] theorem State.incEnt_dirs (i k n : Nat) : (s.incEnt i k n).dirs = s.dirs := by unfold State.incEnt; split <;> simp
@[simp] theorem State.incEnt_dirAge (i k n : Nat) : (s.incEnt i k n).dirAge = s.dirAge := by unfold State.incEnt; split <;> simp
@[simp] theorem State.incEnt_txns (i k n : Nat) : (s.incEnt i k n).txns = s.txns := by unfold State.incEnt; split <;> simp
@[simp] theorem State.incEnt_lineQ (i k n : Nat) : (s.incEnt i k n).lineQ = s.lineQ := by unfold State.incEnt; split <;> simp
@[simp] theorem State.incEnt_net (i k n : Nat) : (s.incEnt i k n).net = s.net := by unfold State.incEnt; split <;> simp
@[simp] theorem State.incEnt_rlines (i k n : Nat) : (s.incEnt i k n).rlines = s.rlines := by unfold State.incEnt; split <;> simp
@[simp] theorem State.incEnt_later (i k n : Nat) : (s.incEnt i k n).later = s.later := by unfold State.incEnt; split <;> simp
@[simp] theorem State.incEnt_stk (i k n : Nat) : (s.incEnt i k n).stk = s.stk := by unfold State.incEnt; split <;> simp
@[simp] theorem State.incEnt_tier (i k n : Nat) : (s.incEnt i k n).tier = s.tier := by unfold State.incEnt; split <;> simp
@[simp] theorem State.incEnt_ctxs (i k n : Nat) : (s.incEnt i k n).ctxs = s.ctxs := by unfold State.incEnt; split <;> simp
@[simp] theorem State.incEnt_faults (i k n : Nat) : (s.incEnt i k n).faults = s.faults := by unfold State.incEnt; split <;> simp
@[simp] theorem State.incEnt_unfiled (i k n : Nat) : (s.incEnt i k n).unfiled = s.unfiled := by unfold State.incEnt; split <;> simp
@[simp] theorem State.incEnt_hatches (i k n : Nat) : (s.incEnt i k n).hatches = s.hatches := by unfold State.incEnt; split <;> simp
@[simp] theorem State.incEnt_pairs (i k n : Nat) : (s.incEnt i k n).pairs = s.pairs := by unfold State.incEnt; split <;> simp
@[simp] theorem State.incEnt_reads (i k n : Nat) : (s.incEnt i k n).reads = s.reads := by unfold State.incEnt; split <;> simp
@[simp] theorem State.incEnt_backlog (i k n : Nat) : (s.incEnt i k n).backlog = s.backlog := by unfold State.incEnt; split <;> simp
@[simp] theorem State.incEnt_epochs (i k n : Nat) : (s.incEnt i k n).epochs = s.epochs := by unfold State.incEnt; split <;> simp
@[simp] theorem State.incEnt_modes (i k n : Nat) : (s.incEnt i k n).modes = s.modes := by unfold State.incEnt; split <;> simp
@[simp] theorem State.incEnt_fleet (i k n : Nat) : (s.incEnt i k n).fleet = s.fleet := by unfold State.incEnt; split <;> simp
@[simp] theorem State.incEnt_ctl (i k n : Nat) : (s.incEnt i k n).ctl = s.ctl := by unfold State.incEnt; split <;> simp
@[simp] theorem State.incEnt_mgmt (i k n : Nat) : (s.incEnt i k n).mgmt = s.mgmt := by unfold State.incEnt; split <;> simp
@[simp] theorem State.incEnt_cores (i k n : Nat) : (s.incEnt i k n).cores = s.cores := by unfold State.incEnt; split <;> simp
@[simp] theorem State.incEnt_resv (i k n : Nat) : (s.incEnt i k n).resv = s.resv := by unfold State.incEnt; split <;> simp
@[simp] theorem State.incEnt_todo (i k n : Nat) : (s.incEnt i k n).todo = s.todo := by unfold State.incEnt; split <;> simp
@[simp] theorem State.incEnt_out (i k n : Nat) : (s.incEnt i k n).out = s.out := by unfold State.incEnt; split <;> simp

@[simp] theorem State.openPair_pending (m : Nat) : (s.openPair m).pending = s.pending := by unfold State.openPair; dsimp only; simp
@[simp] theorem State.openPair_house (m : Nat) : (s.openPair m).house = s.house := by unfold State.openPair; dsimp only; simp
@[simp] theorem State.openPair_porch (m : Nat) : (s.openPair m).porch = s.porch := by unfold State.openPair; dsimp only; simp
@[simp] theorem State.openPair_regs (m : Nat) : (s.openPair m).regs = s.regs := by unfold State.openPair; dsimp only; simp
@[simp] theorem State.openPair_od (m : Nat) : (s.openPair m).od = s.od := by unfold State.openPair; dsimp only; simp
@[simp] theorem State.openPair_blobs (m : Nat) : (s.openPair m).blobs = s.blobs := by unfold State.openPair; dsimp only; simp
@[simp] theorem State.openPair_mem (m : Nat) : (s.openPair m).mem = s.mem := by unfold State.openPair; dsimp only; simp
@[simp] theorem State.openPair_code (m : Nat) : (s.openPair m).code = s.code := by unfold State.openPair; dsimp only; simp
@[simp] theorem State.openPair_rooms (m : Nat) : (s.openPair m).rooms = s.rooms := by unfold State.openPair; dsimp only; simp
@[simp] theorem State.openPair_wings (m : Nat) : (s.openPair m).wings = s.wings := by unfold State.openPair; dsimp only; simp
@[simp] theorem State.openPair_dies (m : Nat) : (s.openPair m).dies = s.dies := by unfold State.openPair; dsimp only; simp
@[simp] theorem State.openPair_caches (m : Nat) : (s.openPair m).caches = s.caches := by unfold State.openPair; dsimp only; simp
@[simp] theorem State.openPair_dirs (m : Nat) : (s.openPair m).dirs = s.dirs := by unfold State.openPair; dsimp only; simp
@[simp] theorem State.openPair_dirAge (m : Nat) : (s.openPair m).dirAge = s.dirAge := by unfold State.openPair; dsimp only; simp
@[simp] theorem State.openPair_txns (m : Nat) : (s.openPair m).txns = s.txns := by unfold State.openPair; dsimp only; simp
@[simp] theorem State.openPair_lineQ (m : Nat) : (s.openPair m).lineQ = s.lineQ := by unfold State.openPair; dsimp only; simp
@[simp] theorem State.openPair_net (m : Nat) : (s.openPair m).net = s.net := by unfold State.openPair; dsimp only; simp
@[simp] theorem State.openPair_rlines (m : Nat) : (s.openPair m).rlines = s.rlines := by unfold State.openPair; dsimp only; simp
@[simp] theorem State.openPair_later (m : Nat) : (s.openPair m).later = s.later := by unfold State.openPair; dsimp only; simp
@[simp] theorem State.openPair_stk (m : Nat) : (s.openPair m).stk = s.stk := by unfold State.openPair; dsimp only; simp
@[simp] theorem State.openPair_tier (m : Nat) : (s.openPair m).tier = s.tier := by unfold State.openPair; dsimp only; simp
@[simp] theorem State.openPair_ctxs (m : Nat) : (s.openPair m).ctxs = s.ctxs := by unfold State.openPair; dsimp only; simp
@[simp] theorem State.openPair_faults (m : Nat) : (s.openPair m).faults = s.faults := by unfold State.openPair; dsimp only; simp
@[simp] theorem State.openPair_unfiled (m : Nat) : (s.openPair m).unfiled = s.unfiled := by unfold State.openPair; dsimp only; simp
@[simp] theorem State.openPair_hatches (m : Nat) : (s.openPair m).hatches = s.hatches := by unfold State.openPair; dsimp only; simp
@[simp] theorem State.openPair_reads (m : Nat) : (s.openPair m).reads = s.reads := by unfold State.openPair; dsimp only; simp
@[simp] theorem State.openPair_backlog (m : Nat) : (s.openPair m).backlog = s.backlog := by unfold State.openPair; dsimp only; simp
@[simp] theorem State.openPair_epochs (m : Nat) : (s.openPair m).epochs = s.epochs := by unfold State.openPair; dsimp only; simp
@[simp] theorem State.openPair_modes (m : Nat) : (s.openPair m).modes = s.modes := by unfold State.openPair; dsimp only; simp
@[simp] theorem State.openPair_fleet (m : Nat) : (s.openPair m).fleet = s.fleet := by unfold State.openPair; dsimp only; simp
@[simp] theorem State.openPair_ctl (m : Nat) : (s.openPair m).ctl = s.ctl := by unfold State.openPair; dsimp only; simp
@[simp] theorem State.openPair_mgmt (m : Nat) : (s.openPair m).mgmt = s.mgmt := by unfold State.openPair; dsimp only; simp
@[simp] theorem State.openPair_cores (m : Nat) : (s.openPair m).cores = s.cores := by unfold State.openPair; dsimp only; simp
@[simp] theorem State.openPair_resv (m : Nat) : (s.openPair m).resv = s.resv := by unfold State.openPair; dsimp only; simp
@[simp] theorem State.openPair_todo (m : Nat) : (s.openPair m).todo = s.todo := by unfold State.openPair; dsimp only; simp

@[simp] theorem State.sendModule_pending (m : Nat) (b : Bytes) : (s.sendModule m b).pending = s.pending := by unfold State.sendModule; dsimp only; split; (next => rfl); (next => split <;> simp)
@[simp] theorem State.sendModule_house (m : Nat) (b : Bytes) : (s.sendModule m b).house = s.house := by unfold State.sendModule; dsimp only; split; (next => rfl); (next => split <;> simp)
@[simp] theorem State.sendModule_porch (m : Nat) (b : Bytes) : (s.sendModule m b).porch = s.porch := by unfold State.sendModule; dsimp only; split; (next => rfl); (next => split <;> simp)
@[simp] theorem State.sendModule_regs (m : Nat) (b : Bytes) : (s.sendModule m b).regs = s.regs := by unfold State.sendModule; dsimp only; split; (next => rfl); (next => split <;> simp)
@[simp] theorem State.sendModule_od (m : Nat) (b : Bytes) : (s.sendModule m b).od = s.od := by unfold State.sendModule; dsimp only; split; (next => rfl); (next => split <;> simp)
@[simp] theorem State.sendModule_blobs (m : Nat) (b : Bytes) : (s.sendModule m b).blobs = s.blobs := by unfold State.sendModule; dsimp only; split; (next => rfl); (next => split <;> simp)
@[simp] theorem State.sendModule_mem (m : Nat) (b : Bytes) : (s.sendModule m b).mem = s.mem := by unfold State.sendModule; dsimp only; split; (next => rfl); (next => split <;> simp)
@[simp] theorem State.sendModule_code (m : Nat) (b : Bytes) : (s.sendModule m b).code = s.code := by unfold State.sendModule; dsimp only; split; (next => rfl); (next => split <;> simp)
@[simp] theorem State.sendModule_rooms (m : Nat) (b : Bytes) : (s.sendModule m b).rooms = s.rooms := by unfold State.sendModule; dsimp only; split; (next => rfl); (next => split <;> simp)
@[simp] theorem State.sendModule_wings (m : Nat) (b : Bytes) : (s.sendModule m b).wings = s.wings := by unfold State.sendModule; dsimp only; split; (next => rfl); (next => split <;> simp)
@[simp] theorem State.sendModule_dies (m : Nat) (b : Bytes) : (s.sendModule m b).dies = s.dies := by unfold State.sendModule; dsimp only; split; (next => rfl); (next => split <;> simp)
@[simp] theorem State.sendModule_caches (m : Nat) (b : Bytes) : (s.sendModule m b).caches = s.caches := by unfold State.sendModule; dsimp only; split; (next => rfl); (next => split <;> simp)
@[simp] theorem State.sendModule_dirs (m : Nat) (b : Bytes) : (s.sendModule m b).dirs = s.dirs := by unfold State.sendModule; dsimp only; split; (next => rfl); (next => split <;> simp)
@[simp] theorem State.sendModule_dirAge (m : Nat) (b : Bytes) : (s.sendModule m b).dirAge = s.dirAge := by unfold State.sendModule; dsimp only; split; (next => rfl); (next => split <;> simp)
@[simp] theorem State.sendModule_txns (m : Nat) (b : Bytes) : (s.sendModule m b).txns = s.txns := by unfold State.sendModule; dsimp only; split; (next => rfl); (next => split <;> simp)
@[simp] theorem State.sendModule_lineQ (m : Nat) (b : Bytes) : (s.sendModule m b).lineQ = s.lineQ := by unfold State.sendModule; dsimp only; split; (next => rfl); (next => split <;> simp)
@[simp] theorem State.sendModule_net (m : Nat) (b : Bytes) : (s.sendModule m b).net = s.net := by unfold State.sendModule; dsimp only; split; (next => rfl); (next => split <;> simp)
@[simp] theorem State.sendModule_rlines (m : Nat) (b : Bytes) : (s.sendModule m b).rlines = s.rlines := by unfold State.sendModule; dsimp only; split; (next => rfl); (next => split <;> simp)
@[simp] theorem State.sendModule_later (m : Nat) (b : Bytes) : (s.sendModule m b).later = s.later := by unfold State.sendModule; dsimp only; split; (next => rfl); (next => split <;> simp)
@[simp] theorem State.sendModule_stk (m : Nat) (b : Bytes) : (s.sendModule m b).stk = s.stk := by unfold State.sendModule; dsimp only; split; (next => rfl); (next => split <;> simp)
@[simp] theorem State.sendModule_tier (m : Nat) (b : Bytes) : (s.sendModule m b).tier = s.tier := by unfold State.sendModule; dsimp only; split; (next => rfl); (next => split <;> simp)
@[simp] theorem State.sendModule_ctxs (m : Nat) (b : Bytes) : (s.sendModule m b).ctxs = s.ctxs := by unfold State.sendModule; dsimp only; split; (next => rfl); (next => split <;> simp)
@[simp] theorem State.sendModule_faults (m : Nat) (b : Bytes) : (s.sendModule m b).faults = s.faults := by unfold State.sendModule; dsimp only; split; (next => rfl); (next => split <;> simp)
@[simp] theorem State.sendModule_unfiled (m : Nat) (b : Bytes) : (s.sendModule m b).unfiled = s.unfiled := by unfold State.sendModule; dsimp only; split; (next => rfl); (next => split <;> simp)
@[simp] theorem State.sendModule_hatches (m : Nat) (b : Bytes) : (s.sendModule m b).hatches = s.hatches := by unfold State.sendModule; dsimp only; split; (next => rfl); (next => split <;> simp)
@[simp] theorem State.sendModule_reads (m : Nat) (b : Bytes) : (s.sendModule m b).reads = s.reads := by unfold State.sendModule; dsimp only; split; (next => rfl); (next => split <;> simp)
@[simp] theorem State.sendModule_backlog (m : Nat) (b : Bytes) : (s.sendModule m b).backlog = s.backlog := by unfold State.sendModule; dsimp only; split; (next => rfl); (next => split <;> simp)
@[simp] theorem State.sendModule_epochs (m : Nat) (b : Bytes) : (s.sendModule m b).epochs = s.epochs := by unfold State.sendModule; dsimp only; split; (next => rfl); (next => split <;> simp)
@[simp] theorem State.sendModule_modes (m : Nat) (b : Bytes) : (s.sendModule m b).modes = s.modes := by unfold State.sendModule; dsimp only; split; (next => rfl); (next => split <;> simp)
@[simp] theorem State.sendModule_fleet (m : Nat) (b : Bytes) : (s.sendModule m b).fleet = s.fleet := by unfold State.sendModule; dsimp only; split; (next => rfl); (next => split <;> simp)
@[simp] theorem State.sendModule_ctl (m : Nat) (b : Bytes) : (s.sendModule m b).ctl = s.ctl := by unfold State.sendModule; dsimp only; split; (next => rfl); (next => split <;> simp)
@[simp] theorem State.sendModule_mgmt (m : Nat) (b : Bytes) : (s.sendModule m b).mgmt = s.mgmt := by unfold State.sendModule; dsimp only; split; (next => rfl); (next => split <;> simp)
@[simp] theorem State.sendModule_cores (m : Nat) (b : Bytes) : (s.sendModule m b).cores = s.cores := by unfold State.sendModule; dsimp only; split; (next => rfl); (next => split <;> simp)
@[simp] theorem State.sendModule_resv (m : Nat) (b : Bytes) : (s.sendModule m b).resv = s.resv := by unfold State.sendModule; dsimp only; split; (next => rfl); (next => split <;> simp)
@[simp] theorem State.sendModule_todo (m : Nat) (b : Bytes) : (s.sendModule m b).todo = s.todo := by unfold State.sendModule; dsimp only; split; (next => rfl); (next => split <;> simp)

@[simp] theorem State.sendEvent_pending (q d : Nat) (r : EventRec) : (s.sendEvent q d r).pending = s.pending := by unfold State.sendEvent; split <;> simp
@[simp] theorem State.sendEvent_house (q d : Nat) (r : EventRec) : (s.sendEvent q d r).house = s.house := by unfold State.sendEvent; split <;> simp
@[simp] theorem State.sendEvent_porch (q d : Nat) (r : EventRec) : (s.sendEvent q d r).porch = s.porch := by unfold State.sendEvent; split <;> simp
@[simp] theorem State.sendEvent_regs (q d : Nat) (r : EventRec) : (s.sendEvent q d r).regs = s.regs := by unfold State.sendEvent; split <;> simp
@[simp] theorem State.sendEvent_od (q d : Nat) (r : EventRec) : (s.sendEvent q d r).od = s.od := by unfold State.sendEvent; split <;> simp
@[simp] theorem State.sendEvent_blobs (q d : Nat) (r : EventRec) : (s.sendEvent q d r).blobs = s.blobs := by unfold State.sendEvent; split <;> simp
@[simp] theorem State.sendEvent_mem (q d : Nat) (r : EventRec) : (s.sendEvent q d r).mem = s.mem := by unfold State.sendEvent; split <;> simp
@[simp] theorem State.sendEvent_code (q d : Nat) (r : EventRec) : (s.sendEvent q d r).code = s.code := by unfold State.sendEvent; split <;> simp
@[simp] theorem State.sendEvent_rooms (q d : Nat) (r : EventRec) : (s.sendEvent q d r).rooms = s.rooms := by unfold State.sendEvent; split <;> simp
@[simp] theorem State.sendEvent_wings (q d : Nat) (r : EventRec) : (s.sendEvent q d r).wings = s.wings := by unfold State.sendEvent; split <;> simp
@[simp] theorem State.sendEvent_dies (q d : Nat) (r : EventRec) : (s.sendEvent q d r).dies = s.dies := by unfold State.sendEvent; split <;> simp
@[simp] theorem State.sendEvent_caches (q d : Nat) (r : EventRec) : (s.sendEvent q d r).caches = s.caches := by unfold State.sendEvent; split <;> simp
@[simp] theorem State.sendEvent_dirs (q d : Nat) (r : EventRec) : (s.sendEvent q d r).dirs = s.dirs := by unfold State.sendEvent; split <;> simp
@[simp] theorem State.sendEvent_dirAge (q d : Nat) (r : EventRec) : (s.sendEvent q d r).dirAge = s.dirAge := by unfold State.sendEvent; split <;> simp
@[simp] theorem State.sendEvent_txns (q d : Nat) (r : EventRec) : (s.sendEvent q d r).txns = s.txns := by unfold State.sendEvent; split <;> simp
@[simp] theorem State.sendEvent_lineQ (q d : Nat) (r : EventRec) : (s.sendEvent q d r).lineQ = s.lineQ := by unfold State.sendEvent; split <;> simp
@[simp] theorem State.sendEvent_net (q d : Nat) (r : EventRec) : (s.sendEvent q d r).net = s.net := by unfold State.sendEvent; split <;> simp
@[simp] theorem State.sendEvent_rlines (q d : Nat) (r : EventRec) : (s.sendEvent q d r).rlines = s.rlines := by unfold State.sendEvent; split <;> simp
@[simp] theorem State.sendEvent_later (q d : Nat) (r : EventRec) : (s.sendEvent q d r).later = s.later := by unfold State.sendEvent; split <;> simp
@[simp] theorem State.sendEvent_stk (q d : Nat) (r : EventRec) : (s.sendEvent q d r).stk = s.stk := by unfold State.sendEvent; split <;> simp
@[simp] theorem State.sendEvent_tier (q d : Nat) (r : EventRec) : (s.sendEvent q d r).tier = s.tier := by unfold State.sendEvent; split <;> simp
@[simp] theorem State.sendEvent_ctxs (q d : Nat) (r : EventRec) : (s.sendEvent q d r).ctxs = s.ctxs := by unfold State.sendEvent; split <;> simp
@[simp] theorem State.sendEvent_faults (q d : Nat) (r : EventRec) : (s.sendEvent q d r).faults = s.faults := by unfold State.sendEvent; split <;> simp
@[simp] theorem State.sendEvent_unfiled (q d : Nat) (r : EventRec) : (s.sendEvent q d r).unfiled = s.unfiled := by unfold State.sendEvent; split <;> simp
@[simp] theorem State.sendEvent_hatches (q d : Nat) (r : EventRec) : (s.sendEvent q d r).hatches = s.hatches := by unfold State.sendEvent; split <;> simp
@[simp] theorem State.sendEvent_reads (q d : Nat) (r : EventRec) : (s.sendEvent q d r).reads = s.reads := by unfold State.sendEvent; split <;> simp
@[simp] theorem State.sendEvent_backlog (q d : Nat) (r : EventRec) : (s.sendEvent q d r).backlog = s.backlog := by unfold State.sendEvent; split <;> simp
@[simp] theorem State.sendEvent_epochs (q d : Nat) (r : EventRec) : (s.sendEvent q d r).epochs = s.epochs := by unfold State.sendEvent; split <;> simp
@[simp] theorem State.sendEvent_modes (q d : Nat) (r : EventRec) : (s.sendEvent q d r).modes = s.modes := by unfold State.sendEvent; split <;> simp
@[simp] theorem State.sendEvent_fleet (q d : Nat) (r : EventRec) : (s.sendEvent q d r).fleet = s.fleet := by unfold State.sendEvent; split <;> simp
@[simp] theorem State.sendEvent_ctl (q d : Nat) (r : EventRec) : (s.sendEvent q d r).ctl = s.ctl := by unfold State.sendEvent; split <;> simp
@[simp] theorem State.sendEvent_mgmt (q d : Nat) (r : EventRec) : (s.sendEvent q d r).mgmt = s.mgmt := by unfold State.sendEvent; split <;> simp
@[simp] theorem State.sendEvent_cores (q d : Nat) (r : EventRec) : (s.sendEvent q d r).cores = s.cores := by unfold State.sendEvent; split <;> simp
@[simp] theorem State.sendEvent_resv (q d : Nat) (r : EventRec) : (s.sendEvent q d r).resv = s.resv := by unfold State.sendEvent; split <;> simp
@[simp] theorem State.sendEvent_todo (q d : Nat) (r : EventRec) : (s.sendEvent q d r).todo = s.todo := by unfold State.sendEvent; split <;> simp

@[simp] theorem State.queueEvent_pending (r : EventRec) (d : Nat) : (s.queueEvent r d).pending = s.pending := by unfold State.queueEvent; dsimp only; split; (next => simp); (next => split <;> simp)
@[simp] theorem State.queueEvent_house (r : EventRec) (d : Nat) : (s.queueEvent r d).house = s.house := by unfold State.queueEvent; dsimp only; split; (next => simp); (next => split <;> simp)
@[simp] theorem State.queueEvent_porch (r : EventRec) (d : Nat) : (s.queueEvent r d).porch = s.porch := by unfold State.queueEvent; dsimp only; split; (next => simp); (next => split <;> simp)
@[simp] theorem State.queueEvent_regs (r : EventRec) (d : Nat) : (s.queueEvent r d).regs = s.regs := by unfold State.queueEvent; dsimp only; split; (next => simp); (next => split <;> simp)
@[simp] theorem State.queueEvent_blobs (r : EventRec) (d : Nat) : (s.queueEvent r d).blobs = s.blobs := by unfold State.queueEvent; dsimp only; split; (next => simp); (next => split <;> simp)
@[simp] theorem State.queueEvent_mem (r : EventRec) (d : Nat) : (s.queueEvent r d).mem = s.mem := by unfold State.queueEvent; dsimp only; split; (next => simp); (next => split <;> simp)
@[simp] theorem State.queueEvent_code (r : EventRec) (d : Nat) : (s.queueEvent r d).code = s.code := by unfold State.queueEvent; dsimp only; split; (next => simp); (next => split <;> simp)
@[simp] theorem State.queueEvent_rooms (r : EventRec) (d : Nat) : (s.queueEvent r d).rooms = s.rooms := by unfold State.queueEvent; dsimp only; split; (next => simp); (next => split <;> simp)
@[simp] theorem State.queueEvent_wings (r : EventRec) (d : Nat) : (s.queueEvent r d).wings = s.wings := by unfold State.queueEvent; dsimp only; split; (next => simp); (next => split <;> simp)
@[simp] theorem State.queueEvent_dies (r : EventRec) (d : Nat) : (s.queueEvent r d).dies = s.dies := by unfold State.queueEvent; dsimp only; split; (next => simp); (next => split <;> simp)
@[simp] theorem State.queueEvent_caches (r : EventRec) (d : Nat) : (s.queueEvent r d).caches = s.caches := by unfold State.queueEvent; dsimp only; split; (next => simp); (next => split <;> simp)
@[simp] theorem State.queueEvent_dirs (r : EventRec) (d : Nat) : (s.queueEvent r d).dirs = s.dirs := by unfold State.queueEvent; dsimp only; split; (next => simp); (next => split <;> simp)
@[simp] theorem State.queueEvent_dirAge (r : EventRec) (d : Nat) : (s.queueEvent r d).dirAge = s.dirAge := by unfold State.queueEvent; dsimp only; split; (next => simp); (next => split <;> simp)
@[simp] theorem State.queueEvent_txns (r : EventRec) (d : Nat) : (s.queueEvent r d).txns = s.txns := by unfold State.queueEvent; dsimp only; split; (next => simp); (next => split <;> simp)
@[simp] theorem State.queueEvent_lineQ (r : EventRec) (d : Nat) : (s.queueEvent r d).lineQ = s.lineQ := by unfold State.queueEvent; dsimp only; split; (next => simp); (next => split <;> simp)
@[simp] theorem State.queueEvent_net (r : EventRec) (d : Nat) : (s.queueEvent r d).net = s.net := by unfold State.queueEvent; dsimp only; split; (next => simp); (next => split <;> simp)
@[simp] theorem State.queueEvent_rlines (r : EventRec) (d : Nat) : (s.queueEvent r d).rlines = s.rlines := by unfold State.queueEvent; dsimp only; split; (next => simp); (next => split <;> simp)
@[simp] theorem State.queueEvent_later (r : EventRec) (d : Nat) : (s.queueEvent r d).later = s.later := by unfold State.queueEvent; dsimp only; split; (next => simp); (next => split <;> simp)
@[simp] theorem State.queueEvent_stk (r : EventRec) (d : Nat) : (s.queueEvent r d).stk = s.stk := by unfold State.queueEvent; dsimp only; split; (next => simp); (next => split <;> simp)
@[simp] theorem State.queueEvent_tier (r : EventRec) (d : Nat) : (s.queueEvent r d).tier = s.tier := by unfold State.queueEvent; dsimp only; split; (next => simp); (next => split <;> simp)
@[simp] theorem State.queueEvent_ctxs (r : EventRec) (d : Nat) : (s.queueEvent r d).ctxs = s.ctxs := by unfold State.queueEvent; dsimp only; split; (next => simp); (next => split <;> simp)
@[simp] theorem State.queueEvent_faults (r : EventRec) (d : Nat) : (s.queueEvent r d).faults = s.faults := by unfold State.queueEvent; dsimp only; split; (next => simp); (next => split <;> simp)
@[simp] theorem State.queueEvent_unfiled (r : EventRec) (d : Nat) : (s.queueEvent r d).unfiled = s.unfiled := by unfold State.queueEvent; dsimp only; split; (next => simp); (next => split <;> simp)
@[simp] theorem State.queueEvent_hatches (r : EventRec) (d : Nat) : (s.queueEvent r d).hatches = s.hatches := by unfold State.queueEvent; dsimp only; split; (next => simp); (next => split <;> simp)
@[simp] theorem State.queueEvent_reads (r : EventRec) (d : Nat) : (s.queueEvent r d).reads = s.reads := by unfold State.queueEvent; dsimp only; split; (next => simp); (next => split <;> simp)
@[simp] theorem State.queueEvent_backlog (r : EventRec) (d : Nat) : (s.queueEvent r d).backlog = s.backlog := by unfold State.queueEvent; dsimp only; split; (next => simp); (next => split <;> simp)
@[simp] theorem State.queueEvent_epochs (r : EventRec) (d : Nat) : (s.queueEvent r d).epochs = s.epochs := by unfold State.queueEvent; dsimp only; split; (next => simp); (next => split <;> simp)
@[simp] theorem State.queueEvent_modes (r : EventRec) (d : Nat) : (s.queueEvent r d).modes = s.modes := by unfold State.queueEvent; dsimp only; split; (next => simp); (next => split <;> simp)
@[simp] theorem State.queueEvent_fleet (r : EventRec) (d : Nat) : (s.queueEvent r d).fleet = s.fleet := by unfold State.queueEvent; dsimp only; split; (next => simp); (next => split <;> simp)
@[simp] theorem State.queueEvent_ctl (r : EventRec) (d : Nat) : (s.queueEvent r d).ctl = s.ctl := by unfold State.queueEvent; dsimp only; split; (next => simp); (next => split <;> simp)
@[simp] theorem State.queueEvent_cores (r : EventRec) (d : Nat) : (s.queueEvent r d).cores = s.cores := by unfold State.queueEvent; dsimp only; split; (next => simp); (next => split <;> simp)
@[simp] theorem State.queueEvent_resv (r : EventRec) (d : Nat) : (s.queueEvent r d).resv = s.resv := by unfold State.queueEvent; dsimp only; split; (next => simp); (next => split <;> simp)
@[simp] theorem State.queueEvent_todo (r : EventRec) (d : Nat) : (s.queueEvent r d).todo = s.todo := by unfold State.queueEvent; dsimp only; split; (next => simp); (next => split <;> simp)

@[simp] theorem State.raise_pending (i k c v : Nat) : (s.raise i k c v).pending = s.pending := by unfold State.raise; split; (next => rw [each_keeps State.pending _ fun x t => State.queueEvent_pending t _ x]); (next => rfl)
@[simp] theorem State.raise_house (i k c v : Nat) : (s.raise i k c v).house = s.house := by unfold State.raise; split; (next => rw [each_keeps State.house _ fun x t => State.queueEvent_house t _ x]); (next => rfl)
@[simp] theorem State.raise_porch (i k c v : Nat) : (s.raise i k c v).porch = s.porch := by unfold State.raise; split; (next => rw [each_keeps State.porch _ fun x t => State.queueEvent_porch t _ x]); (next => rfl)
@[simp] theorem State.raise_regs (i k c v : Nat) : (s.raise i k c v).regs = s.regs := by unfold State.raise; split; (next => rw [each_keeps State.regs _ fun x t => State.queueEvent_regs t _ x]); (next => rfl)
@[simp] theorem State.raise_blobs (i k c v : Nat) : (s.raise i k c v).blobs = s.blobs := by unfold State.raise; split; (next => rw [each_keeps State.blobs _ fun x t => State.queueEvent_blobs t _ x]); (next => rfl)
@[simp] theorem State.raise_mem (i k c v : Nat) : (s.raise i k c v).mem = s.mem := by unfold State.raise; split; (next => rw [each_keeps State.mem _ fun x t => State.queueEvent_mem t _ x]); (next => rfl)
@[simp] theorem State.raise_code (i k c v : Nat) : (s.raise i k c v).code = s.code := by unfold State.raise; split; (next => rw [each_keeps State.code _ fun x t => State.queueEvent_code t _ x]); (next => rfl)
@[simp] theorem State.raise_rooms (i k c v : Nat) : (s.raise i k c v).rooms = s.rooms := by unfold State.raise; split; (next => rw [each_keeps State.rooms _ fun x t => State.queueEvent_rooms t _ x]); (next => rfl)
@[simp] theorem State.raise_wings (i k c v : Nat) : (s.raise i k c v).wings = s.wings := by unfold State.raise; split; (next => rw [each_keeps State.wings _ fun x t => State.queueEvent_wings t _ x]); (next => rfl)
@[simp] theorem State.raise_dies (i k c v : Nat) : (s.raise i k c v).dies = s.dies := by unfold State.raise; split; (next => rw [each_keeps State.dies _ fun x t => State.queueEvent_dies t _ x]); (next => rfl)
@[simp] theorem State.raise_caches (i k c v : Nat) : (s.raise i k c v).caches = s.caches := by unfold State.raise; split; (next => rw [each_keeps State.caches _ fun x t => State.queueEvent_caches t _ x]); (next => rfl)
@[simp] theorem State.raise_dirs (i k c v : Nat) : (s.raise i k c v).dirs = s.dirs := by unfold State.raise; split; (next => rw [each_keeps State.dirs _ fun x t => State.queueEvent_dirs t _ x]); (next => rfl)
@[simp] theorem State.raise_dirAge (i k c v : Nat) : (s.raise i k c v).dirAge = s.dirAge := by unfold State.raise; split; (next => rw [each_keeps State.dirAge _ fun x t => State.queueEvent_dirAge t _ x]); (next => rfl)
@[simp] theorem State.raise_txns (i k c v : Nat) : (s.raise i k c v).txns = s.txns := by unfold State.raise; split; (next => rw [each_keeps State.txns _ fun x t => State.queueEvent_txns t _ x]); (next => rfl)
@[simp] theorem State.raise_lineQ (i k c v : Nat) : (s.raise i k c v).lineQ = s.lineQ := by unfold State.raise; split; (next => rw [each_keeps State.lineQ _ fun x t => State.queueEvent_lineQ t _ x]); (next => rfl)
@[simp] theorem State.raise_net (i k c v : Nat) : (s.raise i k c v).net = s.net := by unfold State.raise; split; (next => rw [each_keeps State.net _ fun x t => State.queueEvent_net t _ x]); (next => rfl)
@[simp] theorem State.raise_rlines (i k c v : Nat) : (s.raise i k c v).rlines = s.rlines := by unfold State.raise; split; (next => rw [each_keeps State.rlines _ fun x t => State.queueEvent_rlines t _ x]); (next => rfl)
@[simp] theorem State.raise_later (i k c v : Nat) : (s.raise i k c v).later = s.later := by unfold State.raise; split; (next => rw [each_keeps State.later _ fun x t => State.queueEvent_later t _ x]); (next => rfl)
@[simp] theorem State.raise_stk (i k c v : Nat) : (s.raise i k c v).stk = s.stk := by unfold State.raise; split; (next => rw [each_keeps State.stk _ fun x t => State.queueEvent_stk t _ x]); (next => rfl)
@[simp] theorem State.raise_tier (i k c v : Nat) : (s.raise i k c v).tier = s.tier := by unfold State.raise; split; (next => rw [each_keeps State.tier _ fun x t => State.queueEvent_tier t _ x]); (next => rfl)
@[simp] theorem State.raise_ctxs (i k c v : Nat) : (s.raise i k c v).ctxs = s.ctxs := by unfold State.raise; split; (next => rw [each_keeps State.ctxs _ fun x t => State.queueEvent_ctxs t _ x]); (next => rfl)
@[simp] theorem State.raise_faults (i k c v : Nat) : (s.raise i k c v).faults = s.faults := by unfold State.raise; split; (next => rw [each_keeps State.faults _ fun x t => State.queueEvent_faults t _ x]); (next => rfl)
@[simp] theorem State.raise_unfiled (i k c v : Nat) : (s.raise i k c v).unfiled = s.unfiled := by unfold State.raise; split; (next => rw [each_keeps State.unfiled _ fun x t => State.queueEvent_unfiled t _ x]); (next => rfl)
@[simp] theorem State.raise_hatches (i k c v : Nat) : (s.raise i k c v).hatches = s.hatches := by unfold State.raise; split; (next => rw [each_keeps State.hatches _ fun x t => State.queueEvent_hatches t _ x]); (next => rfl)
@[simp] theorem State.raise_reads (i k c v : Nat) : (s.raise i k c v).reads = s.reads := by unfold State.raise; split; (next => rw [each_keeps State.reads _ fun x t => State.queueEvent_reads t _ x]); (next => rfl)
@[simp] theorem State.raise_backlog (i k c v : Nat) : (s.raise i k c v).backlog = s.backlog := by unfold State.raise; split; (next => rw [each_keeps State.backlog _ fun x t => State.queueEvent_backlog t _ x]); (next => rfl)
@[simp] theorem State.raise_epochs (i k c v : Nat) : (s.raise i k c v).epochs = s.epochs := by unfold State.raise; split; (next => rw [each_keeps State.epochs _ fun x t => State.queueEvent_epochs t _ x]); (next => rfl)
@[simp] theorem State.raise_modes (i k c v : Nat) : (s.raise i k c v).modes = s.modes := by unfold State.raise; split; (next => rw [each_keeps State.modes _ fun x t => State.queueEvent_modes t _ x]); (next => rfl)
@[simp] theorem State.raise_fleet (i k c v : Nat) : (s.raise i k c v).fleet = s.fleet := by unfold State.raise; split; (next => rw [each_keeps State.fleet _ fun x t => State.queueEvent_fleet t _ x]); (next => rfl)
@[simp] theorem State.raise_ctl (i k c v : Nat) : (s.raise i k c v).ctl = s.ctl := by unfold State.raise; split; (next => rw [each_keeps State.ctl _ fun x t => State.queueEvent_ctl t _ x]); (next => rfl)
@[simp] theorem State.raise_cores (i k c v : Nat) : (s.raise i k c v).cores = s.cores := by unfold State.raise; split; (next => rw [each_keeps State.cores _ fun x t => State.queueEvent_cores t _ x]); (next => rfl)
@[simp] theorem State.raise_resv (i k c v : Nat) : (s.raise i k c v).resv = s.resv := by unfold State.raise; split; (next => rw [each_keeps State.resv _ fun x t => State.queueEvent_resv t _ x]); (next => rfl)
@[simp] theorem State.raise_todo (i k c v : Nat) : (s.raise i k c v).todo = s.todo := by unfold State.raise; split; (next => rw [each_keeps State.todo _ fun x t => State.queueEvent_todo t _ x]); (next => rfl)

@[simp] theorem State.setRaise_pending (i k v : Nat) : (s.setRaise i k v).pending = s.pending := by unfold State.setRaise; rw [State.raise_pending, State.setEnt_pending]
@[simp] theorem State.setRaise_house (i k v : Nat) : (s.setRaise i k v).house = s.house := by unfold State.setRaise; rw [State.raise_house, State.setEnt_house]
@[simp] theorem State.setRaise_porch (i k v : Nat) : (s.setRaise i k v).porch = s.porch := by unfold State.setRaise; rw [State.raise_porch, State.setEnt_porch]
@[simp] theorem State.setRaise_regs (i k v : Nat) : (s.setRaise i k v).regs = s.regs := by unfold State.setRaise; rw [State.raise_regs, State.setEnt_regs]
@[simp] theorem State.setRaise_blobs (i k v : Nat) : (s.setRaise i k v).blobs = s.blobs := by unfold State.setRaise; rw [State.raise_blobs, State.setEnt_blobs]
@[simp] theorem State.setRaise_mem (i k v : Nat) : (s.setRaise i k v).mem = s.mem := by unfold State.setRaise; rw [State.raise_mem, State.setEnt_mem]
@[simp] theorem State.setRaise_code (i k v : Nat) : (s.setRaise i k v).code = s.code := by unfold State.setRaise; rw [State.raise_code, State.setEnt_code]
@[simp] theorem State.setRaise_rooms (i k v : Nat) : (s.setRaise i k v).rooms = s.rooms := by unfold State.setRaise; rw [State.raise_rooms, State.setEnt_rooms]
@[simp] theorem State.setRaise_wings (i k v : Nat) : (s.setRaise i k v).wings = s.wings := by unfold State.setRaise; rw [State.raise_wings, State.setEnt_wings]
@[simp] theorem State.setRaise_dies (i k v : Nat) : (s.setRaise i k v).dies = s.dies := by unfold State.setRaise; rw [State.raise_dies, State.setEnt_dies]
@[simp] theorem State.setRaise_caches (i k v : Nat) : (s.setRaise i k v).caches = s.caches := by unfold State.setRaise; rw [State.raise_caches, State.setEnt_caches]
@[simp] theorem State.setRaise_dirs (i k v : Nat) : (s.setRaise i k v).dirs = s.dirs := by unfold State.setRaise; rw [State.raise_dirs, State.setEnt_dirs]
@[simp] theorem State.setRaise_dirAge (i k v : Nat) : (s.setRaise i k v).dirAge = s.dirAge := by unfold State.setRaise; rw [State.raise_dirAge, State.setEnt_dirAge]
@[simp] theorem State.setRaise_txns (i k v : Nat) : (s.setRaise i k v).txns = s.txns := by unfold State.setRaise; rw [State.raise_txns, State.setEnt_txns]
@[simp] theorem State.setRaise_lineQ (i k v : Nat) : (s.setRaise i k v).lineQ = s.lineQ := by unfold State.setRaise; rw [State.raise_lineQ, State.setEnt_lineQ]
@[simp] theorem State.setRaise_net (i k v : Nat) : (s.setRaise i k v).net = s.net := by unfold State.setRaise; rw [State.raise_net, State.setEnt_net]
@[simp] theorem State.setRaise_rlines (i k v : Nat) : (s.setRaise i k v).rlines = s.rlines := by unfold State.setRaise; rw [State.raise_rlines, State.setEnt_rlines]
@[simp] theorem State.setRaise_later (i k v : Nat) : (s.setRaise i k v).later = s.later := by unfold State.setRaise; rw [State.raise_later, State.setEnt_later]
@[simp] theorem State.setRaise_stk (i k v : Nat) : (s.setRaise i k v).stk = s.stk := by unfold State.setRaise; rw [State.raise_stk, State.setEnt_stk]
@[simp] theorem State.setRaise_tier (i k v : Nat) : (s.setRaise i k v).tier = s.tier := by unfold State.setRaise; rw [State.raise_tier, State.setEnt_tier]
@[simp] theorem State.setRaise_ctxs (i k v : Nat) : (s.setRaise i k v).ctxs = s.ctxs := by unfold State.setRaise; rw [State.raise_ctxs, State.setEnt_ctxs]
@[simp] theorem State.setRaise_faults (i k v : Nat) : (s.setRaise i k v).faults = s.faults := by unfold State.setRaise; rw [State.raise_faults, State.setEnt_faults]
@[simp] theorem State.setRaise_unfiled (i k v : Nat) : (s.setRaise i k v).unfiled = s.unfiled := by unfold State.setRaise; rw [State.raise_unfiled, State.setEnt_unfiled]
@[simp] theorem State.setRaise_hatches (i k v : Nat) : (s.setRaise i k v).hatches = s.hatches := by unfold State.setRaise; rw [State.raise_hatches, State.setEnt_hatches]
@[simp] theorem State.setRaise_reads (i k v : Nat) : (s.setRaise i k v).reads = s.reads := by unfold State.setRaise; rw [State.raise_reads, State.setEnt_reads]
@[simp] theorem State.setRaise_backlog (i k v : Nat) : (s.setRaise i k v).backlog = s.backlog := by unfold State.setRaise; rw [State.raise_backlog, State.setEnt_backlog]
@[simp] theorem State.setRaise_epochs (i k v : Nat) : (s.setRaise i k v).epochs = s.epochs := by unfold State.setRaise; rw [State.raise_epochs, State.setEnt_epochs]
@[simp] theorem State.setRaise_modes (i k v : Nat) : (s.setRaise i k v).modes = s.modes := by unfold State.setRaise; rw [State.raise_modes, State.setEnt_modes]
@[simp] theorem State.setRaise_fleet (i k v : Nat) : (s.setRaise i k v).fleet = s.fleet := by unfold State.setRaise; rw [State.raise_fleet, State.setEnt_fleet]
@[simp] theorem State.setRaise_ctl (i k v : Nat) : (s.setRaise i k v).ctl = s.ctl := by unfold State.setRaise; rw [State.raise_ctl, State.setEnt_ctl]
@[simp] theorem State.setRaise_cores (i k v : Nat) : (s.setRaise i k v).cores = s.cores := by unfold State.setRaise; rw [State.raise_cores, State.setEnt_cores]
@[simp] theorem State.setRaise_resv (i k v : Nat) : (s.setRaise i k v).resv = s.resv := by unfold State.setRaise; rw [State.raise_resv, State.setEnt_resv]
@[simp] theorem State.setRaise_todo (i k v : Nat) : (s.setRaise i k v).todo = s.todo := by unfold State.setRaise; rw [State.raise_todo, State.setEnt_todo]

@[simp] theorem State.advance_pending (t : Nat) : (s.advance t).pending = s.pending := by unfold State.advance; split <;> rfl
@[simp] theorem State.advance_free (t : Nat) : (s.advance t).free = s.free := by unfold State.advance; split <;> rfl
@[simp] theorem State.advance_porch (t : Nat) : (s.advance t).porch = s.porch := by unfold State.advance; split <;> rfl
@[simp] theorem State.advance_regs (t : Nat) : (s.advance t).regs = s.regs := by unfold State.advance; split <;> rfl
@[simp] theorem State.advance_od (t : Nat) : (s.advance t).od = s.od := by unfold State.advance; split <;> rfl
@[simp] theorem State.advance_blobs (t : Nat) : (s.advance t).blobs = s.blobs := by unfold State.advance; split <;> rfl
@[simp] theorem State.advance_mem (t : Nat) : (s.advance t).mem = s.mem := by unfold State.advance; split <;> rfl
@[simp] theorem State.advance_code (t : Nat) : (s.advance t).code = s.code := by unfold State.advance; split <;> rfl
@[simp] theorem State.advance_rooms (t : Nat) : (s.advance t).rooms = s.rooms := by unfold State.advance; split <;> rfl
@[simp] theorem State.advance_wings (t : Nat) : (s.advance t).wings = s.wings := by unfold State.advance; split <;> rfl
@[simp] theorem State.advance_dies (t : Nat) : (s.advance t).dies = s.dies := by unfold State.advance; split <;> rfl
@[simp] theorem State.advance_caches (t : Nat) : (s.advance t).caches = s.caches := by unfold State.advance; split <;> rfl
@[simp] theorem State.advance_dirs (t : Nat) : (s.advance t).dirs = s.dirs := by unfold State.advance; split <;> rfl
@[simp] theorem State.advance_dirAge (t : Nat) : (s.advance t).dirAge = s.dirAge := by unfold State.advance; split <;> rfl
@[simp] theorem State.advance_txns (t : Nat) : (s.advance t).txns = s.txns := by unfold State.advance; split <;> rfl
@[simp] theorem State.advance_lineQ (t : Nat) : (s.advance t).lineQ = s.lineQ := by unfold State.advance; split <;> rfl
@[simp] theorem State.advance_net (t : Nat) : (s.advance t).net = s.net := by unfold State.advance; split <;> rfl
@[simp] theorem State.advance_rlines (t : Nat) : (s.advance t).rlines = s.rlines := by unfold State.advance; split <;> rfl
@[simp] theorem State.advance_later (t : Nat) : (s.advance t).later = s.later := by unfold State.advance; split <;> rfl
@[simp] theorem State.advance_stk (t : Nat) : (s.advance t).stk = s.stk := by unfold State.advance; split <;> rfl
@[simp] theorem State.advance_tier (t : Nat) : (s.advance t).tier = s.tier := by unfold State.advance; split <;> rfl
@[simp] theorem State.advance_ctxs (t : Nat) : (s.advance t).ctxs = s.ctxs := by unfold State.advance; split <;> rfl
@[simp] theorem State.advance_faults (t : Nat) : (s.advance t).faults = s.faults := by unfold State.advance; split <;> rfl
@[simp] theorem State.advance_unfiled (t : Nat) : (s.advance t).unfiled = s.unfiled := by unfold State.advance; split <;> rfl
@[simp] theorem State.advance_hatches (t : Nat) : (s.advance t).hatches = s.hatches := by unfold State.advance; split <;> rfl
@[simp] theorem State.advance_pairs (t : Nat) : (s.advance t).pairs = s.pairs := by unfold State.advance; split <;> rfl
@[simp] theorem State.advance_reads (t : Nat) : (s.advance t).reads = s.reads := by unfold State.advance; split <;> rfl
@[simp] theorem State.advance_epochs (t : Nat) : (s.advance t).epochs = s.epochs := by unfold State.advance; split <;> rfl
@[simp] theorem State.advance_modes (t : Nat) : (s.advance t).modes = s.modes := by unfold State.advance; split <;> rfl
@[simp] theorem State.advance_fleet (t : Nat) : (s.advance t).fleet = s.fleet := by unfold State.advance; split <;> rfl
@[simp] theorem State.advance_ctl (t : Nat) : (s.advance t).ctl = s.ctl := by unfold State.advance; split <;> rfl
@[simp] theorem State.advance_mgmt (t : Nat) : (s.advance t).mgmt = s.mgmt := by unfold State.advance; split <;> rfl
@[simp] theorem State.advance_cores (t : Nat) : (s.advance t).cores = s.cores := by unfold State.advance; split <;> rfl
@[simp] theorem State.advance_resv (t : Nat) : (s.advance t).resv = s.resv := by unfold State.advance; split <;> rfl
@[simp] theorem State.advance_todo (t : Nat) : (s.advance t).todo = s.todo := by unfold State.advance; split <;> rfl
@[simp] theorem State.advance_out (t : Nat) : (s.advance t).out = s.out := by unfold State.advance; split <;> rfl

/-- Raising an event changes no entry but the count of dropped events. -/
theorem State.raise_ent (i k c v j l : Nat) (h : dictKey j l ≠ dictKey 0x4420 5) : (s.raise i k c v).ent j l = s.ent j l := by
  have q : ∀ (r : EventRec) (d : Nat) (t : State), (t.queueEvent r d).ent j l = t.ent j l := by
    intro r d t
    unfold State.queueEvent; dsimp only; split
    · unfold State.incEnt; split
      · exact State.ent_setEnt_ne t _ _ _ _ _ h
      · rfl
    · split
      · rfl
      · unfold State.ent; rw [State.sendEvent_od]
  unfold State.raise; split
  · exact each_keeps (fun t => t.ent j l) _ (fun x t => q _ x t) _ _
  · rfl

/-- Raising an event neither starts nor stops the Scullery. -/
@[simp] theorem State.raise_firmware (i k c v : Nat) : (s.raise i k c v).firmware = s.firmware := by
  have q : ∀ (r : EventRec) (d : Nat) (t : State), (t.queueEvent r d).mgmt.sculleryUp = t.mgmt.sculleryUp := by
    intro r d t
    unfold State.queueEvent; dsimp only; split
    · simp
    · split
      · rfl
      · rw [State.sendEvent_mgmt]
  have h : (s.raise i k c v).mgmt.sculleryUp = s.mgmt.sculleryUp := by
    unfold State.raise; split
    · exact each_keeps (fun t : State => t.mgmt.sculleryUp) _ (fun x t => q _ x t) _ _
    · rfl
  unfold State.firmware State.on
  rw [h, State.raise_porch]

/-! ### Answers -/

/-- A command whose units exist gives its effect. -/
theorem act_gives (f : State → State) : act true f s = s.gives (f s) := rfl

/-- An effect that asks for no class action and leaves the queue is itself the next state. -/
theorem State.gives_quiet {s t : State} (h : t.todo = []) (hp : t.pending = s.pending) : s.gives t = .next t := by
  unfold State.gives
  rw [State.settle_of_no_todo h, State.with_own_pending hp]

/-- A command whose units exist and whose effect is quiet answers its effect. -/
theorem act_quiet {f : State → State} {s t : State} (hf : f s = t) (h : t.todo = []) (hp : t.pending = s.pending) :
    act true f s = .next t := by
  rw [act_gives, hf, State.gives_quiet h hp]

end Sys2Proof.Machine
end

