-- ==== Sys2Proof/Tests/Slice0.lean ====
section
/-! SUPPORT. The model's own tests: ill-formed commands, examples that the manual works out, and for each statement
of Sys2Proof/Certificates/Slice0/Obligations.lean a witness that the hypotheses of its clauses can hold together. -/

namespace Sys2Proof.Tests


open Sys2Proof.Machine

set_option Elab.async false
set_option maxRecDepth 4000
/-- The reset state, without the opaque hash of an empty image. -/
def base : State := { State.reset with porch := { State.reset.porch with m1 := [] } }
/-- The module with no power. -/
def off0 : State := { base with porch := { base.porch with power := .off } }
/-- The module in pre-charge. -/
def pre0 : State := { base with porch := { base.porch with power := .precharge, pwrEn := false } }
/-- The module at a step of the boot, with a status. -/
def bootAt (b : BootStep) (v : Nat) : State :=
  (({ base with porch := { base.porch with boot := b, mgrSel := true, imageId := some 9#64, count := 2 } } : State)).setStatus v
/-- Compute die 3 in a state. -/
def dieAt (v : Nat) : State := base.setEnt 0x1100 0x42 v
/-- A fetched command of queue 127 of wing 31, for room 7 of the wing. -/
def mkCmd (op w1 w2 w3 w4 : Nat) : Cmd :=
  { id := 1, queue := 127, ctx := 255, words := [BitVec.ofNat 64 (op + 7 * 2 ^ 51), BitVec.ofNat 64 w1, BitVec.ofNat 64 w2, BitVec.ofNat 64 w3, BitVec.ofNat 64 w4, 0, 0, 0], st := .fetched, status := none, num := 0, vfl := 0, prog := 0, dirty := none, win := none, bWin := 32, bHead := 9, bOrd := true, abSlot := false, awaiting := [], awaitBad := false, issueNo := 0, remote := 0, pages := [], pos := 0, absorbed := false, busy := false, wrote := [] }
/-- Queue 127 of wing 31 enabled. -/
def qon : State := base.setQf 31 127 0x28 0 0 1
/-- A wing that holds one command. -/
def holding (c : Cmd) : State := qon.setWing 31 { Wing.reset with cmds := [c], nextId := 2 }
/-- Context 255 ACTIVE. -/
def ctx1 (s : State) : State := s.setCtxState 255 1
/-- Queue 127 of wing 31 configured, with rings in host memory. -/
def qrdy : State :=
  (((ctx1 base).setReg (paQueue 31 127 0) 0x10000000000#64).setReg (paQueue 31 127 8) 0x10000100000#64).setReg (paQueue 31 127 0x10) (BitVec.ofNat 64 (6 + 6 * 32 + 255 * 1024))
/-- The same queue enabled. -/
def qrun : State := qrdy.setQf 31 127 0x28 0 0 1
/-- Wing 31 holding commands. -/
def withCmds (s : State) (cs : List Cmd) : State := s.setWing 31 { Wing.reset with cmds := cs, nextId := 9 }
/-- Wing 31 holding one command. -/
def hold1 (c : Cmd) : State := withCmds qrun [c]
/-- A NOP that has ended. -/
def done0 : Cmd := { mkCmd 0 0 0 0 0 with status := some 0 }
/-- A walk of die 3. -/
def walk0 : Walk := ⟨3, 255, 1, 0x1000, 0, roomAgent 1 255, 31, 1⟩
/-- A page fault of suite 3. -/
def fault0 : Fault277 := ⟨3, 0#32, 255, 1, 0x1000, roomAgent 1 255, 0, 0, 0, 31, 127, 0, 0, 0, 3, [(31, 1)], true⟩
/-- A row of a drain port. -/
def portRow0 (c : Nat) : PortRow := ⟨7, 0, 0, [], c⟩
/-- A LATCH_WAIT that waits. -/
def waitc (x : Nat) : Cmd := { mkCmd 0x30 x 0 0 0 with st := .waiting }
/-- A TLB entry. -/
def tlb0 : TlbEntry := ⟨254, 0x1000, 0x1000, 0x1000000000, true, true, true⟩
/-- An issued command with its first six words. -/
def mk5 (op w1 w2 w3 w4 w5 : Nat) : Cmd :=
  { mkCmd op 0 0 0 0 with words := [BitVec.ofNat 64 (op + 7 * 2 ^ 51), BitVec.ofNat 64 w1, BitVec.ofNat 64 w2, BitVec.ofNat 64 w3, BitVec.ofNat 64 w4, BitVec.ofNat 64 w5, 0, 0], st := .issued }
/-- A form V. -/
def vf : VForm := ⟨7#3, true, 7#5, 6#5, 5#5, 4#5, 0#4, 1#2, 0#2, 63#6, 0x3FFFF#18⟩
/-- A form J. -/
def jf : JForm := ⟨7#3, true, 15#5, 0xFFFFFFFF#32⟩
/-- A context with a stack segment and an aperture segment. -/
def flat : Context := ⟨0, 0, 0,
  [⟨0, false, true, true, 0, 2 ^ 24 - 1, 2 ^ 24⟩, ⟨1, false, true, true, 0x200000000, 0x37FFFFFFF, 0x200000000⟩]⟩
/-- Room 255 with a command of wing 31. -/
def engine (c : Cmd) (r : Room) : State := ((hold1 c).setCtx 255 flat).setRoom 255 r
/-- A VECTOR at work. -/
def vcmd0 : Cmd := { mk5 0x10 0 0 0 0 0 with st := .running }
/-- A vector engine whose program is one instruction. -/
def ve0 (w : BitVec 64) : VEngine := { VEngine.reset with running := true, cmd := 1, prog := [w] }
/-- Room 255 running a vector engine. -/
def vrunE (e : VEngine) : State := engine vcmd0 { Room.reset with vq := [1], ve := e }
/-- Room 255 about to issue one instruction. -/
def vrun (w : BitVec 64) : State := vrunE (ve0 w)
/-- Room 255 with a matrix command and a loaded slot. -/
def mrun (c : Cmd) : State := engine c { Room.reset with mq := [1], slot0 := { Slot.reset with loaded := true } }
/-- A pass of one row. -/
def run0 : PassRun := ⟨1, 0, 0, .streaming, false, false, 32, 1, [[0]], [], [0], [0], false, false, 0⟩
/-- A MATMUL from the Larder. -/
def matc : Cmd := mk5 1 (2 ^ 63) (2 ^ 63) 0 (2 ^ 63) (2 ^ 35)
/-- Room 255 in a pass. -/
def passAt (c : Cmd) (r : PassRun) : State := engine c { Room.reset with mq := [1], slot0 := { Slot.reset with loaded := true }, passRun := some r }
/-- The accesses of a plan. -/
def Ready.list : Ready → List Spot
  | .go l => l
  | _ => []
/-- The accesses of a plan. -/
def Plan.list : Plan → List Spot
  | .ready l => l
  | _ => []
/-- A LOAD_STATIONARY from the Larder. -/
def ldc : Cmd := mk5 2 (2 ^ 63) (2 ^ 63) 0 0 0
/-- Its stream unit. -/
def ldq : Engine := streamUnit 255 ldc (bitOf (ldc.wd 5) 22)
/-- Its plan. -/
def ldr (s : State) : Ready × State := s.ready ldq ((loadPlaces ldc).flatMap fun x => x.1.firsts x.2) false
/-- A room with a poisoned first Larder word. -/
def psnLarder (r : Room) : Room := { r with lcode := [(0, poisonMask)] }
/-- Room 255 with a copy command. -/
def crun (c : Cmd) : State := engine c { Room.reset with cq := [1] }
/-- The tier range enabled. -/
def tierOn (s : State) : State := s.setEnt 0x3100 8 2
/-- A TIER_RELEASE at work. -/
def relc : Cmd := { mk5 0x23 0x200000000000 0 0 0 0 with busy := true, st := .running }
/-- A memory form. -/
def memf : VForm := { vf with pg := 0, pn := false, a := 0, b := 0, c := 0, lane := 0, imm := 0x40 }
/-- An address in module 4095. -/
def remPa : Nat := 0x80000000000000 + 4095 * 2 ^ 43 + 0x1000000000
/-- Room 255 about to store by STM. -/
def stmv : State := engine { vcmd0 with bOrd := false } { Room.reset with vq := [1], ve := ve0 (encodeV 0x63#8 memf) }
/-- The plan of its store. -/
def stmvPlan : Plan × State :=
  stmv.plan (vectorUnit 255 { vcmd0 with bOrd := false } 1 false false) (laneFirsts (esBytes memf.es) ((stmv.ve 255).laneAddrs memf)) false true
/-- The same with a context whose segment leads to another module. -/
def stmr : State := stmv.setCtx 255 ⟨0, 0, 0, [⟨0, false, true, true, 0, 2 ^ 24 - 1, remPa / 4096⟩]⟩
/-- The plan of its store. -/
def stmrPlan : Plan × State :=
  stmr.plan (vectorUnit 255 { vcmd0 with bOrd := false } 1 false false) (laneFirsts (esBytes memf.es) ((stmr.ve 255).laneAddrs memf)) false true
/-- A MATMUL under AUTO and FRESH. -/
def autoc : Cmd := mk5 1 (2 ^ 63) (2 ^ 63) 0 (2 ^ 63) (2 ^ 35 + 2 ^ 14)
/-- The plan of its scale entries. -/
def autoReady : Ready × State :=
  (mrun autoc).ready (streamUnit 255 { autoc with st := .running } (bitOf (autoc.wd 5) 36)) ((List.range autoc.passes).flatMap fun p => scaleKeys autoc p) false
/-- Room 255 with a VECTOR that has not begun. -/
def crunV (c : Cmd) : State := engine c { Room.reset with vq := [1] }
/-- Room 255 in a DRAIN. -/
def drainAt (w1 : Nat) : State :=
  engine { mk5 3 w1 0 0 0 0 with st := .running } { Room.reset with mq := [1], bank0 := { Bank.reset with chain := true }, drainRun := some ⟨1, 0, false⟩ }
/-- The plan of its first group. -/
def drainReady (s : State) (c : Cmd) : Ready × State :=
  s.ready ⟨255, 4, 1, c, false,
    false⟩ ((groupItems c ((s.room 255).bank (c.f 4 1 0)).w (32 * c.prog) (s.drainRows 255 c (32 * c.prog) (min 32 (c.region.2.1 - 32 * c.prog))).1).1.flatMap fun x => x.1.firsts x.2.length) false
/-- A line of data. -/
def ld0 : LineData := ⟨5#512, 0#4⟩
/-- A reduce line of the last line of stack 11. -/
def rl0 : RLine := ⟨0x33FFFFFFF, 0, ld0, [], 0⟩
/-- A cached copy in E. -/
def cl0 : CLine := ⟨.e, 15, some 0, ld0⟩
/-- One message in flight. -/
def netOf (m : Msg) : State := { base with net := [m] }
/-- An agent with a copy of the last line of stack 11. -/
def heldAt (a : Nat) : State := base.setHeld a 0x33FFFFFFF cl0
/-- An error of one symbol of a code word. -/
def errc (k d : Nat) : BitVec 128 × BitVec 16 :=
  if k < 32 then (BitVec.ofNat 128 (d * 16 ^ k), 0#16) else (0#128, BitVec.ofNat 16 (d * 16 ^ (k - 32)))
/-- A frame of the last tile. -/
def frame0 : Frame := ⟨402653183, .resident, true, false, 0, 0, 7, 0⟩
/-- The tier range with one tile. -/
def tiered (fr : Frame) (st : TileState) : State :=
  { tierOn base with tier := { Tier.reset with tiles := [(402653183, (st, 9))], frames := [(9, fr)] } }
/-- The last tile pinned by a context that ended. -/
def pinned : State :=
  { tierOn base with tier := { Tier.reset with frames := [(9, { frame0 with pin := true, pinctx := 255 })], pinsOwed := [9] } }
/-- The tier range enabled with the upper half of stack 11. -/
def poolAll : State := ((tierOn base).setEnt 0x3101 12 524288).setEnt 0x3102 12 524288
/-- HATCH[15] configured. -/
def hatchReady : State :=
  ((base.setReg (paHatch 15 0) 0x17FFFC00000#64).setReg (paHatch 15 8) 6#64)
/-- A descriptor of HATCH[15]. -/
def hrun (op : Nat) : HatchRun := ⟨0x17FFFC00000,
  [BitVec.ofNat 64 (op + 64 * 2 ^ 32), 0x1000000000#64, 0x1000001000#64, 0, 0, 0, 0, 0], false, 0, 0⟩
/-- HATCH[15] with a descriptor in progress. -/
def hatchRun (op : Nat) : State := (hatchReady.setRegF (paHatch 15 0x20) 0 0 1).setHatch 15 [hrun op]
/-- An open session. -/
def sess0 : Session := ⟨1, .field 0, [], [], [], [1#8], true, 0, 0⟩
/-- The module in test state with the tap open. -/
def tested : State := (base.setEnt 0xA000 1 1).setEnt 0xA000 3 1
/-- Module 5 with port 2 up and a pair with module 4095. -/
def fab : State :=
  ((base.setEnt 0x4010 2 5).setEnt 0x4001 3 2).setPair 4095 { Pair.reset with up := true }
/-- The same with that pair as given. -/
def withPair (p : Pair) : State := fab.setPair 4095 p
/-- A packet from module 4095. -/
def pk0 (op : Nat) : Packet := sealPacket { basePacket op 5 0 with src := 4095 }
/-- An empty HELLO. -/
def hello0 : HelloMsg := ⟨[], [], 0, [], 0, 0, 0, 0, 0, []⟩
/-- An operation sent and not acknowledged. -/
def txo (t : Nat) : TxOp := ⟨pk0 0, some 2, t, .port, false⟩
/-- A read of module 4095 for command 1 of wing 31. -/
def openRead : ReadReq := ⟨1, 4095, .cmd 31 1, 0, 64, some 0x1000000000, (0, 0#128)⟩
/-- A FENCE of scope FABRIC, with an operation of an earlier command outstanding. -/
def looseFence : State :=
  ((hold1 done0).setWing 31 { Wing.reset with cmds := [{ mkCmd 0x38 5 0 0 0 with id := 2, st := .waiting }], loose := [(127, 1)] }).setPair 4095 { Pair.reset with waiting := [(pk0 0, .cmd 31 1)] }
/-- A command of sequenced packets, with its operation. -/
def IsSequenced (o : Nat × (Nat → Packet → Instr)) : Prop :=
  o ∈ ([(0, Instr.writePacket), (1, Instr.readPacket), (2, Instr.readResponse), (3, Instr.writeReducePacket),
    (4, Instr.signalPacket), (5, Instr.atomicPacket), (6, Instr.atomicResponse), (7, Instr.managementPacket)] :
    List (Nat × (Nat → Packet → Instr)))
/-- A WRITE of the last word of stack 11. -/
def farWrite : Packet := sealPacket { pk0 0 with addr := 0xCFFFFFFFF0, words := [(1, 0)] }
/-- Module 4095 a member. -/
def memb (s : State) : State := s.setEnt 0x411F 128 (2 ^ 62)
/-- A reading of the input. -/
def im0 : InputMeasure := ⟨54000, 1000, 54000, 54000, []⟩
/-- Die 3 skipping cycles. -/
def skipping (n : Nat) : State := base.setDie 3 { Die.reset with skip := n }
/-- A step with nothing in it. -/
def sm0 : StepMeasure := ⟨0, [], []⟩
/-- A ledger record of a kind. -/
def lrec (k : Nat) : List (BitVec 64) := [BitVec.ofNat 64 (k * 2 ^ 54)]
/-- One ledger record waiting. -/
def ledg (k : Nat) : State := ((base.setEnt 0x6000 7 1).setEnt 0x6000 2 8).setCtl { base.ctl with ledger := [lrec k] }
/-- Die 3 in CRITICAL. -/
def hot (t : Nat) : State := (base.setEnt 0x2200 4 3).setDie 3 { Die.reset with critAt := some t }
/-- The Hearth in a state. -/
def hearth (v : Nat) : State := (base.setEnt 0x2300 7 v).setEnt 0x2300 6 1
/-- Wing 31 in a state, with sleep allowed. -/
def asleep (p : WingPower) : State := (base.setEnt 0x2500 1 1).setWing 31 { Wing.reset with power := p }
/-- An item of a message. -/
def item (i k : Nat) (ity : BitVec 8) (v : Bytes) : DictItem := ⟨i, k, ity, v.length, 0, v⟩
/-- A request. -/
def msg (p : Path) (sess : Nat) (x : List DictItem) : DictMsg := ⟨p, 1, 0, true, 1, sess, 0, 63, [], [], 0, x⟩
/-- The module as segment manager. -/
def mgr : State := base.setEnt 0x4400 1 1
/-- Node 63 in a state. -/
def node (v : Nat) : State := mgr.setEnt 0x4404 64 (v * 2 ^ 62)
/-- An event record. -/
def ev0 : EventRec := ⟨0x1010, 1, 0, 1, 0#64, 0, 0⟩
/-- Messages that await an answer. -/
def sending (l : List Outgoing) : State := { base with mgmt := { base.mgmt with outgoing := l } }
/-- Events to the rack controller. -/
def evs : State := ((base.setEnt 0x4420 3 1).setEnt 0x4420 4 2)
/-- Sessions in use. -/
def sessions (l : List Session) : State := { base with mgmt := { base.mgmt with sessions := l } }
/-- A report. -/
def rep0 (src : BitVec 8) (a : Option (BitVec 56)) : Report := ⟨src, 0x2000, 0, false, a, false, [], []⟩
/-- A class captured by the host die's Breaker. -/
def seen (c : Nat) : State := base.setReg (paBreaker 4 0) (BitVec.ofNat 64 (2 ^ c))
/-- The context that a read gave. -/
def got (x : Except (Nat × Nat) Context) : Context :=
  match x with
  | .ok r => r
  | .error _ => .reset
/-- A read that succeeded gave its context. -/
theorem got_eq {x : Except (Nat × Nat) Context} (h : x.isOk = true) : x = .ok (got x) := by
  cases x with
  | ok r => rfl
  | error e => simp [Except.isOk, Except.toBool] at h
/-- The refusal that a read gave. -/
def gotError (x : Except (Nat × Nat) Context) : Nat × Nat :=
  match x with
  | .ok _ => (0, 0)
  | .error e => e
/-- A read that failed gave its refusal. -/
theorem gotError_eq {x : Except (Nat × Nat) Context} (h : x.isOk = false) : x = .error (gotError x) := by
  cases x with
  | ok r => simp [Except.isOk, Except.toBool] at h
  | error e => rfl

/-! ### Well-formedness: one ill-formed command for each check -/

theorem test_wf_refuses_1 : ([.dieReset 4, .dieDrain 4, .suiteReset 4, .suiteDrain 4, .dieRejoinStart 4, .dieRejoinDone 4 0, .roomReset 256,
      .roomSelfTestDone 256 true, .clockLoss 4, .ringHallTrainingLoss 3, .ringHallTrainingLoss 8,
      .ringHallRetrainDone 3, .ringHallRetrainDone 8, .ringHallDown 3, .ringHallDown 8, .hostHallTrainingLoss 4,
      .hostHallRetrainDone 4, .linkLossDeclare 4 0, .dieSelfResetDone 4, .linkReturn 4, .stackAdopt 12,
      .registerWrite 0 (2 ^ 56) 8 0, .registerWrite 0 0 16 0, .mirrorLoad (2 ^ 56), .mirrorStore (2 ^ 56) 8 0,
      .mirrorStore 0 16 0, .mirrorTimeout (2 ^ 56) true, .hostCoreLoad 96 .load 0 8, .hostCoreLoad 0 .load (2 ^ 56) 8,
      .hostCoreLoad 0 .load 0 16, .hostCoreStore 96 .store 0 8 0, .hostCoreStore 0 .store (2 ^ 56) 8 0,
      .hostCoreStore 0 .store 0 16 0, .wqDoorbell 32 0 8 0, .wqDoorbell 0 128 8 0, .wqDoorbell 0 0 3 0,
      .cqDoorbell 32 0 8 0, .cqDoorbell 0 128 8 0, .cqDoorbell 0 0 3 0, .queueEnable 32 0, .queueEnable 0 128,
      .queueDisable 32 0, .queueDisable 0 128, .queueReset 32 0, .queueReset 0 128, .queueResume 32 0,
      .queueResume 0 128, .queueOrderWrite 32 0 true, .queueOrderWrite 0 128 true,
        .commandFetch 32] : List Instr).all (fun i => !i.wf) = true := by decide +kernel

theorem test_wf_refuses_2 : ([.commandIssue 32 0, .commandIssue 0 128, .nop 32 0, .nop 0 128, .loadStationary 256, .loadComplete 256,
      .matmul 256, .streamDataArrival 256, .passVerdict 256 [], .passCommit 256, .drain 256, .drainGroupWritten 256,
      .tierDeadlineExpiry 256 0, .tierDeadlineExpiry 0 1, .vector 256, .vnop 256 vf, .halt 256 vf, .mark 256 vf,
      .loop 256 vf, .br 256 vf, .vfence 256 vf, .rdflg 256 vf, .clrflg 256 vf, .sadd 256 vf, .ssub 256 vf,
      .saddi 256 vf, .smul 256 vf, .sand 256 vf, .sor 256 vf, .sxor 256 vf, .ssh 256 vf, .smovi 256 jf, .smovh 256 jf,
      .vmovi 256 jf, .sldl 256 vf, .sstl 256 vf, .fadd 256 vf, .fsub 256 vf, .fmul 256 vf, .fma 256 vf, .fms 256 vf,
      .fnma 256 vf, .fmin 256 vf, .fmax 256 vf, .fcmp 256 vf, .sel 256 vf, .fabs 256 vf, .fneg 256 vf, .cvt 256 vf,
      .fcvti 256 vf] : List Instr).all (fun i => !i.wf) = true := by decide +kernel

theorem test_wf_refuses_3 : ([.icvtf 256 vf, .iadd 256 vf, .isub 256 vf, .vand 256 vf, .vor 256 vf, .vxor 256 vf, .shl 256 vf, .shr 256 vf,
      .sra 256 vf, .icmp 256 vf, .vsplat 256 vf, .vext 256 vf, .vins 256 vf, .vperm 256 vf, .pand 256 vf, .por 256 vf,
      .pxor 256 vf, .pnot 256 vf, .pfirst 256 vf, .pcnt 256 vf, .exp2 256 vf, .log2 256 vf, .rcp 256 vf,
      .rsqrt 256 vf, .rsum 256 vf, .rmin 256 vf, .rmax 256 vf, .vsumx 256 vf, .xcvt 256 vf, .ldl 256 vf, .stl 256 vf,
      .ldm 256 vf, .loadDataReturn 256, .stm 256 vf, .recv 256 vf, .copy 256, .writeReduce 256, .tierPrefetch 256,
      .tierRelease 256, .tierReleaseTileDone 256, .latchWait 32 0, .latchWait 0 128, .latchWaitSatisfied 32 0,
      .latchWaitSatisfied 0 128, .latchSignal 32 0, .latchSignal 0 128, .latchSignalPerform 32 0,
      .latchSignalPerform 0 128, .fence 32 0, .fence 0 128] : List Instr).all (fun i => !i.wf) = true := by decide +kernel

theorem test_wf_refuses_4 : ([.fenceComplete 32 0, .fenceComplete 0 128, .abort 32 0, .abort 0 128, .translationInvalidate 32 0,
      .translationInvalidate 0 128, .invalidateCommit 32 0, .invalidateCommit 0 128, .completionRecordWrite 32 0 0,
      .completionRecordWrite 0 128 0, .latchSetWrite 32 0 8 0, .latchSetWrite 0 4096 8 0, .latchSetWrite 0 0 3 0,
      .latchAddWrite 32 0 8 0, .latchAddWrite 0 4096 8 0, .latchAddWrite 0 0 3 0, .reduceLineWriteback 36 0,
      .reduceLineTimeout 36 0, .wccfgWrite 32 0, .clean 32, .flush 32, .flushAll 32, .wcopDone 32, .wayReenable 32 0,
      .wclandRead 32, .trackerTimeout 256 0, .trackerTimeout 0 3, .landingWbSend 32, .holdExpiry 40 0x40000000,
      .holdExpiry 0 (0x33FFFFFFF + 1), .rds 40 0x40000000, .rds 0 (0x33FFFFFFF + 1), .rdx 40 0x40000000,
      .rdx 0 (0x33FFFFFFF + 1), .upg 40 0x40000000, .upg 0 (0x33FFFFFFF + 1), .wro 40 0x40000000,
      .wro 0 (0x33FFFFFFF + 1), .rdo 0 (0x33FFFFFFF + 1), .wrf 0 (0x33FFFFFFF + 1) ld0 none,
      .wrp 0 (0x33FFFFFFF + 1) 0 ld0, .wb 40 0x40000000 ld0, .wb 0 (0x33FFFFFFF + 1) ld0, .red 0 (2 ^ 56) 0 0 true,
      .snps 40 0x40000000, .snps 0 (0x33FFFFFFF + 1), .snpi 40 0x40000000, .snpi 0 (0x33FFFFFFF + 1),
      .push 40 0x40000000 ld0, .push 0 (0x33FFFFFFF + 1) ld0] : List Instr).all (fun i => !i.wf) = true := by decide +kernel

theorem test_wf_refuses_5 : ([.ack 40 0x40000000, .ack 0 (0x33FFFFFFF + 1), .ackd 40 0x40000000 ld0, .ackd 0 (0x33FFFFFFF + 1) ld0,
      .nh 40 0x40000000, .nh 0 (0x33FFFFFFF + 1), .nhw 40 0x40000000, .nhw 0 (0x33FFFFFFF + 1),
      .gnts 40 0x40000000 ld0, .gnts 0 (0x33FFFFFFF + 1) ld0, .gnte 40 0x40000000 ld0, .gnte 0 (0x33FFFFFFF + 1) ld0,
      .gntm 40 0x40000000 ld0, .gntm 0 (0x33FFFFFFF + 1) ld0, .gnto 40 0x40000000, .gnto 0 (0x33FFFFFFF + 1),
      .data 0 (0x33FFFFFFF + 1) ld0, .cmp 0 (0x33FFFFFFF + 1), .landingAckReceive 40 0x40000000,
      .landingAckReceive 0 (0x33FFFFFFF + 1), .rowClose 12 0 0, .rowClose 0 32 0, .rowClose 0 0 16,
      .patrolScrubRead 12, .zeroScrubStart 12, .zeroScrubDone 12, .stackTempSample 12 0, .perBankRefresh 12 0 0,
      .perBankRefresh 0 32 0, .perBankRefresh 0 0 16, .stackCriticalTimeout 12, .scerrRead 12,
      .mergeBufferFlush 12 0x40000000, .mergeBufferFlush 0 (0x33FFFFFFF + 1), .addI32 0 (2 ^ 56) 0 true,
      .addI64 0 (2 ^ 56) 0 true, .minS32 0 (2 ^ 56) 0 true, .minS64 0 (2 ^ 56) 0 true, .maxS32 0 (2 ^ 56) 0 true,
      .maxS64 0 (2 ^ 56) 0 true, .minU32 0 (2 ^ 56) 0 true, .minU64 0 (2 ^ 56) 0 true, .maxU32 0 (2 ^ 56) 0 true,
      .maxU64 0 (2 ^ 56) 0 true, .cisAnd 0 (2 ^ 56) 0 true, .cisOr 0 (2 ^ 56) 0 true, .cisXor 0 (2 ^ 56) 0 true,
      .cas32 0 (2 ^ 56) 0 true, .cas64 0 (2 ^ 56) 0 true,
        .addF32 0 (2 ^ 56) 0 true] : List Instr).all (fun i => !i.wf) = true := by decide +kernel

theorem test_wf_refuses_6 : ([.addBf16 0 (2 ^ 56) 0 true, .addXp 0 (2 ^ 56) 0 true, .fillComplete 402653184 0, .evictionComplete 402653184,
      .contextPinClear 256, .contextActivate 256, .contextKill 256, .contextFree 256, .walkComplete 4 0 0,
      .walkComplete 0 256 0, .walkComplete 0 0 (2 ^ 52), .faultBufferDrain 4, .faultRingEnable 4, .resume 4 0,
      .cancel 4 0, .hatchEnable 16, .hatchDisable 16, .hatchReset 16, .hatchResume 16, .hatchDoorbell 16 0,
      .hatchNop 16, .hatchCopy 16, .hatchReduce 16, .hatchCompletion 16, .lockRead 64 0, .lockWrite 64 0, .go 64 0,
      .take 64, .brk 64 0, .domainWakeDone 40, .pcieInboundRead (2 ^ 56) 0 true,
      .pcieInboundWrite (2 ^ 56) [] true none, .portModeWrite 3 0, .autoModeSwitch 3, .portUp 3, .laneLockLoss 3,
      .writePacket 3 (pk0 0), .writePacket 0 ({ pk0 0 with dst := 4096 }), .readPacket 3 (pk0 0),
      .readPacket 0 ({ pk0 0 with dst := 4096 }), .readResponse 3 (pk0 0),
      .readResponse 0 ({ pk0 0 with dst := 4096 }), .writeReducePacket 3 (pk0 0),
      .writeReducePacket 0 ({ pk0 0 with dst := 4096 }), .signalPacket 3 (pk0 0),
      .signalPacket 0 ({ pk0 0 with dst := 4096 }), .atomicPacket 3 (pk0 0),
      .atomicPacket 0 ({ pk0 0 with dst := 4096 }), .atomicResponse 3 (pk0 0),
      .atomicResponse 0 ({ pk0 0 with dst := 4096 })] : List Instr).all (fun i => !i.wf) = true := by decide +kernel

theorem test_wf_refuses_7 : ([.managementPacket 3 (pk0 0), .managementPacket 0 ({ pk0 0 with dst := 4096 }), .ackPacket 3 (pk0 0) true,
      .ackPacket 0 ({ pk0 0 with dst := 4096 }) true, .nakPacket 3 (pk0 0), .nakPacket 0 ({ pk0 0 with dst := 4096 }),
      .hello 3 ⟨pk0 0, hello0⟩, .hello 0 ⟨{ pk0 0 with dst := 4096 }, hello0⟩, .ptpMessage ⟨3, 0, 0⟩ true, .remoteOpIssue 4096, .ackSend 4096,
      .retransmitTimeout 4096 0, .pairProgressTimeout 4096, .windowRestore 4096, .pairReestablish 4096,
      .pairOpen 4096 [] 0 0 [], .pairAccept 4096 0 [] [], .atomicGo 64, .hostRemoteLoad 96 0 8,
      .hostRemoteLoad 0 (2 ^ 56) 8, .hostRemoteLoad 0 0 3, .hostRemoteStore 96 0 8 0, .hostRemoteStore 0 (2 ^ 56) 8 0,
      .hostRemoteStore 0 0 3 0, .lldpTransmit 3, .lldpReceive 3 [], .droopDetect 32 0, .droopEnd 32,
      .hcoreFreqRequest 4 0, .hcoreGrantApply 4, .dieTempSample 5 0, .dieCriticalTimeout 5, .wingIdleTimeout 32,
      .wingWake 32, .wingWakeDone 32, .stage 4 0, .epochAck 4 0, .epochAck 0 288, .commit 4 0, .epochCancel 4 0,
      .breakerReport 5 (rep0 1 none), .bstatClear 5 0, .bdropRead 5, .injctlWrite 5 0 0, .injctlWrite 0 8 0,
      .ringHallUp 3, .ringHallUp 8, .writePacket 0 { pk0 0 with src := 4096 },
      .writePacket 0 { pk0 0 with seq := 2 ^ 32 }, .writePacket 0 { pk0 0 with ptarget := 64 },
      .writePacket 0 { pk0 0 with addr := 2 ^ 43 }] : List Instr).all (fun i => !i.wf) = true := by decide +kernel

theorem test_wf_refuses_8 : ([.writePacket 0 { pk0 0 with gen := 2 ^ 16 }, .writePacket 0 { pk0 0 with words := List.replicate 257 (0, 0) }] : List Instr).all (fun i => !i.wf) = true := by decide +kernel

/-- A command of a unit that exists is well formed. -/
theorem test_wf_accepts :
    ([.nop 31 127, .roomReset 255, .rds 39 0x33FFFFFFF, .ringHallUp 7, .writePacket 2 (pk0 0)] : List Instr).all
      (fun i => i.wf) = true := by decide +kernel

/-- An ill-formed command stops the machine. -/
theorem test_exec_faults : exec (.nop 32 0) State.reset = .fault .noSuchUnit := rfl

/-! ### The queue of commands, and the table's words -/

/-- No row of the table has bits. -/
theorem test_no_words : decodeTableWord 32 0x12345678 = none ∧ State.reset.withFetchWord 32 0x12345678 = State.reset :=
  ⟨rfl, rfl⟩

/-- An empty queue lets one nanosecond pass. -/
theorem test_step_idle : (match step State.reset with | .next t => decide (t.house = 5330000001) | _ => false) = true := by
  decide +kernel

/-- The front of the queue runs and leaves it. -/
theorem test_step_front :
    (match step { State.reset with pending := [.wakeAssert, .powerOff] } with
      | .next t => decide (t.pending = [.powerOff]) && t.porch.wake | _ => false) = true := by decide +kernel

/-! ### Worked examples of the manual -/

/-- Chapter 1, agent numbers: the copy unit of ROOM[137] is agent 0x4309. -/
theorem test_agent : roomAgent 3 137 = 0x4309#16 := by decide +kernel

/-- Chapter 1, "locating one address": stack 3, controller 0x2800, channel 10; the next granule is in channel 11. -/
theorem test_locate : regionOf 0x004312345678 = .stack 3 ∧ homeAgent 0x004312345678 = 0x2800#16 ∧
    stackChannel 0x004312345678 = 10 ∧ stackChannel 0x004312345700 = 11 := by decide +kernel

/-- R455: the granule at 0x0100_2000_0300 is homed by controller 0x9203. -/
theorem test_host_channel : homeAgent 0x010020000300 = 0x9203#16 := by decide +kernel

/-- R28: the latch page of wing 9 of module 37. -/
theorem test_remote_address : regionOf 0x81280064C00000 = .remote ∧ remoteModule 0x81280064C00000 = 37 ∧
    pageReg (remoteAddr 0x81280064C00000) = .lval 9 0 := by decide +kernel

/-- Table 1.8, the TWO_SUITES example: suite 1 has dies 2 and 3, 128 rooms, 16 wings, 6 stacks from stack 6 on. -/
theorem test_geometry : (List.range 10).map ((base.setEnt 0x1100 1 1).geoField 1) =
    [0x0C, 128, 16, 1572864, 131072, 6291456, 6, 6, 0x007000000000, 0x00CFFFFFFFFF] := by decide +kernel

/-- Chapter 2, worked example: 69,037 units of 2^90 under W = 26, and 8,629 units under W = 119, converted. -/
theorem test_convert : convOut fFP32 26 (.val (69037 * 2 ^ 90)) = (0x4206D680, 0#8) ∧
    convOut fBF16 26 (.val (69037 * 2 ^ 90)) = (0x4207, nfDX) ∧ convOut fE4M3 26 (.val (69037 * 2 ^ 90)) = (0x60, nfDX) ∧
    convOut fFP32 119 (.val 8629) = (0x4206D400, 0#8) := by decide +kernel

/-- Chapter 2, worked example: the products p0 and p2 on the grid of W = 26, and p2 on that of W = 119. -/
theorem test_window : windowQ 26 3 0 = (3 * 2 ^ 101, 0#8) ∧ windowQ 26 (-35) (-11) = (-35 * 2 ^ 90, 0#8) ∧
    windowQ 119 (-35) (-11) = (-5, nfTR) := by decide +kernel

/-- R34: element (37, 200) of an E4M3 tile is at offset 11,864. -/
theorem test_tile : tileOff 37 200 = 11864 := by decide +kernel

/-- Table 4.4 and Table 4.12: FADD v1, v2, v3 in FP32 under p0. -/
theorem test_vector_word : decodeV 0x2000886080000000#64 = ⟨0, false, 1, 2, 3, 0, 8, 0, 0, 0, 0⟩ ∧
    opcodeOf 0x2000886080000000#64 = 0x20#8 := by decide +kernel

/-- Chapter 7: PA 0x0043_1234_5678 lies in set 2,393 of a wing cache. -/
theorem test_cache_set : cacheSet 0 (0x004312345678 / 64) = 2393 := by decide +kernel

/-- Chapter 8, worked example of the common code: check bits 0x9425, and 0x4020 as poison. -/
theorem test_code : encodeCheck 0x20_0000_0000_0000_0001#128 = 0x9425#16 ∧ 0x9425#16 ^^^ poisonMask = 0x4020#16 := by
  decide +kernel

/-- The same example: symbol 17 is corrected, two flipped symbols are UNCORRECTABLE. -/
theorem test_code_errors :
    decodeWord (0x20_0000_0000_0000_0001#128 ^^^ (9 * 16 ^ 17 : BitVec 128)) (encodeCheck (9 * 16 ^ 17 : BitVec 128)) =
      .corrected 0x20_0000_0000_0000_0001#128 ∧
    decodeWord (0x20_0000_0000_0000_0001#128 ^^^ 0x11#128) (encodeCheck 0x11#128) = .uncorrectable := by decide +kernel

/-- R232: three FP32 addends, whose order shows. -/
theorem test_cistern_order :
    (cisApply 0x92 0 (cisApply 0x92 0 (cisApply 0x92 0 0 0x3F800000#128).1 0x33800000#128).1 0x33800000#128).1 =
      0x3F800000#128 ∧
    (cisApply 0x92 0 (cisApply 0x92 0 (cisApply 0x92 0 0 0x33800000#128).1 0x33800000#128).1 0x3F800000#128).1 =
      0x3F800001#128 := by decide +kernel

/-- Table 14.11: a pulse 90 µs late moves the next boundary by 62.5 µs; one 400 µs late slips it to the pulse. -/
theorem test_step_sync :
    (((base.setEnt 0x4310 8 1).syncPulse 5330090000 200).ctl.nextBound = 5331062500) ∧
    (((base.setEnt 0x4310 8 1).syncPulse 5330400000 200).ctl.nextBound = 5330400000) := by decide +kernel

/-! ### What the clauses of the statements assume can hold -/

/-- A command that brings a request to the home of a line. -/
def IsRequest (s : State) (line : Nat) (c : Instr) (r : HomeReq) : Prop :=
  (∃ a, a < 40 ∧ s.cacheUp a = true ∧ s.net.any (fun m => decide (m.path = (cacheAgent a, true, homeAgent (line * 64)))) = false ∧
      (c = .rds a line ∧ r = .rds a ∨ c = .rdx a line ∧ r = .rdx a ∨ c = .upg a line ∧ r = .upg a ∨ c = .wro a line ∧ r = .wro a)) ∨
    (∃ src, c = .rdo src line ∧ r = .rdo src) ∨ (∃ src l p, c = .wrf src line l p ∧ r = .wrf src l p) ∨
    (∃ src m l, c = .wrp src line m l ∧ r = .wrp src m l) ∨
    (∃ src pa op x psn, pa < 2 ^ 56 ∧ pa / 64 = line ∧ line < 0x00D000000000 / 64 ∧ cisOpOk op.toNat = true ∧ c = .red src pa op x psn ∧
      r = .red src pa op x psn)
/-- Whether the home of a line answers a request. -/
def homeUp (s : State) (line : Nat) (r : HomeReq) : Bool :=
  match regionOf (line * 64) with
  | .stack j => s.dieUp (j / 3) && !s.hallCut (agentDie (reqWho r).master) (j / 3)
  | _ => s.on
/-- A message in flight, the first of its path, that no hallway holds. -/
abbrev First (s : State) (m : Msg) (line : Nat) : Prop :=
  m ∈ s.net ∧ s.firstOnPath m = m ∧ s.hallHeld (agentDie m.path.1) (homeDie line) = false

/-- Obligations.PowerEvents: the hypotheses of its clauses can hold. -/
theorem witness_PowerEvents :
    (∃ s : State, s.Settled ∧ s.porch.power = .off) ∧
    (∃ s : State, s.Settled ∧ s.porch.power = .prechargeStopped) ∧
    (∃ s : State, s.Settled ∧ s.porch.power = .precharge ∧ s.porch.pwrEn = false) ∧
    (∃ s : State, s.Settled ∧ s.porch.power = .precharge ∧ s.porch.pwrEn = true) ∧
    (∃ s : State, ∃ us : Nat, s.Settled ∧ us < 1000) ∧
    (∃ s : State, ∃ us : Nat, s.Settled ∧ 1000 ≤ us ∧ s.porch.power = .standby ∧ s.porch.lost = false) ∧
    (∃ s : State, ∃ us : Nat, s.Settled ∧ 1000 ≤ us ∧ s.porch.power = .running) ∧
    (∃ s : State, ∃ c : Instr, s.Settled ∧ s.porch.power = .running ∧ (c = .undervoltage ∨ c = .overvoltage)) ∧
    (∃ s : State, s.Settled ∧ s.porch.lost = true ∧ s.porch.pwrEn = true) ∧
    (∃ s : State, s.Settled ∧ s.porch.power ≠ .off) ∧
    (∃ s : State, s.Settled ∧ s.firmware = true) :=
  ⟨⟨off0, rfl, by decide +kernel⟩,
   ⟨{ base with porch := { base.porch with power := .prechargeStopped } }, rfl, by decide +kernel⟩,
   ⟨pre0, rfl, by decide +kernel⟩,
   ⟨{ pre0 with porch := { pre0.porch with pwrEn := true } }, rfl, by decide +kernel⟩,
   ⟨base, 999, rfl, by decide +kernel⟩,
   ⟨{ base with porch := { base.porch with power := .standby, lost := false } }, 1000, rfl, by decide +kernel⟩,
   ⟨base, 1000, rfl, by decide +kernel⟩,
   ⟨base, .overvoltage, rfl, by decide +kernel⟩,
   ⟨{ base with porch := { base.porch with lost := true, pwrEn := true } }, rfl, by decide +kernel⟩,
   ⟨base, rfl, by decide +kernel⟩,
   ⟨base, rfl, by decide +kernel⟩⟩

/-- Obligations.PowerUpAndBoot: the hypotheses of its clauses can hold. -/
theorem witness_PowerUpAndBoot :
    (∃ s : State, s.Settled ∧ s.romAt .rails = true) ∧
    (∃ s : State, s.Settled ∧ s.romAt .rom = true) ∧
    (∃ s : State, s.Settled ∧ s.romAt .deed = true ∧ s.porch.mgrSel = true) ∧
    (∃ s : State, s.Settled ∧ s.romAt .identity = true ∧ s.porch.mgrSel = true) ∧
    (∃ s : State, s.Settled ∧ s.romAt .role = true ∧ s.status ≤ 1) ∧
    (∃ s : State, ∃ id : BitVec 64, ∃ num : Nat, ∃ bytes, s.Settled ∧ s.romAt .role = true ∧ s.status = 1 ∧
      s.porch.imageId = some id ∧ num < s.porch.count ∧ (tset num (padTo 1024 bytes) s.porch.blocks).length ≠ s.porch.count) ∧
    (∃ s : State, ∃ id : BitVec 64, ∃ num : Nat, ∃ bytes, s.Settled ∧ s.romAt .role = true ∧ s.status = 1 ∧
      s.porch.imageId = some id ∧ num < s.porch.count ∧ (tset num (padTo 1024 bytes) s.porch.blocks).length = s.porch.count) ∧
    (∃ s : State, s.Settled ∧ s.romAt .role = true ∧ s.status = 7) ∧
    (∃ s : State, s.Settled ∧ s.romAt .accepted = true) ∧
    (∃ s : State, ∃ src, ∃ o : Nat, ∃ b : Bytes, s.Settled ∧ s.status = 4 ∧ s.firmware = true ∧ s.porch.perst = false ∧
      s.porch.released = false ∧ s.hostImage src = some (o, b)) ∧
    (∃ s : State, ∃ src, ∃ o : Nat, ∃ b : Bytes, s.Settled ∧ s.status = 8 ∧ s.firmware = true ∧ s.porch.perst = false ∧
      s.porch.released = false ∧ s.hostImage src = some (o, b)) ∧
    (∃ s : State, ∃ src : Option Bytes, s.Settled ∧ s.status = 4 ∧ s.firmware = true ∧ s.porch.perst = false ∧
      s.porch.released = false ∧ s.hostImage src = none) :=
  ⟨⟨bootAt .rails 0, rfl, by decide +kernel⟩,
   ⟨bootAt .rom 0, rfl, by decide +kernel⟩,
   ⟨bootAt .deed 0, rfl, by decide +kernel⟩,
   ⟨bootAt .identity 0, rfl, by decide +kernel⟩,
   ⟨bootAt .role 1, rfl, by decide +kernel⟩,
   ⟨bootAt .role 1, 9#64, 1, [1#8], rfl, by decide +kernel⟩,
   ⟨{ bootAt .role 1 with porch := { (bootAt .role 1).porch with blocks := [(0, padTo 1024 [])] } }, 9#64, 1, [1#8], rfl,
     by decide +kernel⟩,
   ⟨bootAt .role 7, rfl, by decide +kernel⟩,
   ⟨bootAt .accepted 2, rfl, by decide +kernel⟩,
   ⟨(base.setEnt 0x9010 1 0).setEnt 0x9010 4 0, some ([] : Bytes), 0, ([] : Bytes), rfl, by decide +kernel⟩,
   ⟨(base.setStatus 8).setEnt 0x9010 1 0, some ([] : Bytes), 0, ([] : Bytes), rfl, by decide +kernel⟩,
   ⟨base, (none : Option Bytes), rfl, by decide +kernel⟩⟩

/-- Obligations.Resets: the hypotheses of its clauses can hold. -/
theorem witness_Resets :
    (∃ s : State, Config.sha512 s.porch.image = s.porch.m1 ∧ s.Settled ∧ s.firmware = true ∧
      (s.porch.restarts.filter (fun t => decide (s.house ≤ t + 10000000000)) = [])) ∧
    (∃ s : State, ∃ d : Nat, s.firmware = true ∧ d < 4 ∧ s.dieInUse d = false ∧ s.dieUp d = true) ∧
    (∃ s : State, ∃ d : Nat, s.Settled ∧ s.firmware = true ∧ d < 4 ∧ s.dieInUse d = true) ∧
    (∃ s : State, ∃ i : Nat, s.firmware = true ∧ i < 4 ∧ i < suiteCount s.layout ∧ ((∀ d ∈ suiteDies s.layout i,
      s.dieInUse d = false))) ∧
    (∃ s : State, ∃ d : Nat, d < 4 ∧ s.dieState d = 0) ∧
    (∃ j : Nat, j < 12) ∧
    (∃ s : State, ∃ i : Nat, s.firmware = true ∧ i < suiteCount s.layout ∧ (∃ d ∈ suiteDies s.layout i, s.dieInUse d = true)) ∧
    (∃ s : State, s.firmware = true ∧ s.later = []) :=
  ⟨⟨State.reset, rfl, rfl, by decide +kernel⟩,
   ⟨base, 3, by decide +kernel⟩,
   ⟨qon, 3, rfl, by decide +kernel⟩,
   ⟨base.setEnt 0x1100 1 2, 3, by decide +kernel⟩,
   ⟨base, 3, by decide +kernel⟩,
   ⟨11, by decide +kernel⟩,
   ⟨qon, 0, by decide +kernel⟩,
   ⟨base, by decide +kernel⟩⟩

/-- Obligations.RoomsAndLayout: the hypotheses of its clauses can hold. -/
theorem witness_RoomsAndLayout :
    (∃ s : State, ∃ d : Nat, s.Settled ∧ s.firmware = true ∧ d < 4 ∧ s.dieState d = 1 ∧ (s.die d).lossAt = none ∧
      s.ent 0x9021 (d + 1) = 0 ∧ s.testOnDie d = false) ∧
    (∃ s : State, ∃ d : Nat, s.Settled ∧ s.firmware = true ∧ d < 4 ∧ s.dieState d = 3 ∧
      ∀ j, j / 3 = d → (s.stack j).scrubbing = true → s.critical j = false) ∧
    (∃ s : State, ∃ d : Nat, s.Settled ∧ s.firmware = true ∧ d < 4 ∧
      ∃ j, j / 3 = d ∧ (s.stack j).scrubbing = true ∧ s.critical j = true) ∧
    (∃ s : State, ∃ g : Nat, s.Settled ∧ s.firmware = true ∧ g < 256 ∧ s.roomBusy g = false) ∧
    (∃ s : State, ∃ g : Nat, s.Settled ∧ s.firmware = true ∧ g < 256 ∧ s.roomBusy g = true) ∧
    (∃ s : State, ∃ g : Nat, s.Settled ∧ s.firmware = true ∧ g < 256 ∧ (s.room g).testing = true) ∧
    (∃ s : State, ∃ v : Nat, s.Settled ∧ v ≤ 2 ∧ s.firmware = true ∧ s.mgmt.layout = false ∧ s.quiescent = true) ∧
    (∃ s : State, ∃ v : Nat, s.Settled ∧ s.firmware = true ∧ ((2 < v ∨ s.mgmt.layout = true ∨ s.quiescent = false))) ∧
    (∃ s : State, s.Settled ∧ s.on = true ∧ s.mgmt.layout = true) :=
  ⟨⟨dieAt 1, 3, rfl, by decide +kernel⟩,
   ⟨dieAt 3, 3, rfl, by decide +kernel, by decide +kernel, by decide +kernel, fun j hj => by
     have h : j = 9 ∨ j = 10 ∨ j = 11 := by omega
     rcases h with rfl | rfl | rfl <;> decide +kernel⟩,
   ⟨((dieAt 3).setStack 11 { Stack.reset with scrubbing := true }).setEnt 0x3010 12 3, 3, rfl, by decide +kernel,
     by decide +kernel, 11, by decide +kernel⟩,
   ⟨base, 255, rfl, by decide +kernel⟩,
   ⟨base.setRoom 255 { Room.reset with mq := [1] }, 255, rfl, by decide +kernel⟩,
   ⟨base.setRoom 255 { Room.reset with testing := true }, 255, rfl, by decide +kernel⟩,
   ⟨base, 2, rfl, by decide +kernel⟩,
   ⟨base, 3, rfl, by decide +kernel⟩,
   ⟨{ base with mgmt := { base.mgmt with layout := true } }, rfl, by decide +kernel⟩⟩

/-- Obligations.HallwaysAndLinks: the hypotheses of its clauses can hold. -/
theorem witness_HallwaysAndLinks :
    (∃ s : State, ∃ n : Nat, s.Settled ∧ s.on = true ∧ ringHall n = true ∧ s.hall n = 2) ∧
    (∃ s : State, ∃ d : Nat, s.Settled ∧ s.on = true ∧ d < 4 ∧ s.hall d = 2) ∧
    (∃ s : State, ∃ n : Nat, s.Settled ∧ s.on = true ∧ ringHall n = true ∧ s.hall n = 1) ∧
    (∃ s : State, ∃ d : Nat, s.Settled ∧ s.on = true ∧ d < 4 ∧ s.hall d = 1) ∧
    (∃ s : State, ∃ n : Nat, s.Settled ∧ s.on = true ∧ n < 8 ∧ s.hall n = 1) ∧
    (∃ s : State, ∃ n : Nat, s.Settled ∧ s.on = true ∧ ringHall n = true ∧ s.hall n = 0) ∧
    (∃ s : State, ∃ d : Nat, s.Settled ∧ s.on = true ∧ d < 4 ∧ (s.die d).notice = true) ∧
    (∃ s : State, ∃ d : Nat, ∃ i : Nat, s.Settled ∧ s.on = true ∧ d < 4 ∧ s.dieState d = 0 ∧ i < 3) ∧
    (∃ s : State, ∃ d : Nat, s.Settled ∧ s.on = true ∧ d < 4 ∧ (s.die d).lossAt.isSome = true ∧ s.dieState d = 2) ∧
    (∃ s : State, ∃ d : Nat, s.Settled ∧ s.on = true ∧ d < 4 ∧ (s.die d).lossAt.isSome = true ∧ s.dieState d = 1 ∧
      s.porch.log.length + (s.die d).retained.length ≤ 16896) ∧
    (∃ s : State, ∃ d : Nat, ∃ j : Nat, s.Settled ∧ s.on = true ∧ d < 4 ∧ j < 12 ∧ s.dieUp (j / 3) = true) ∧
    (∃ s : State, ∃ d : Nat, s.Settled ∧ s.on = true ∧ d < 4 ∧ s.firmware = true) ∧
    (∃ s : State, ∃ n : Nat, s.Settled ∧ s.on = true ∧ s.ringFailed n = true) :=
  ⟨⟨base, 7, rfl, by decide +kernel⟩,
   ⟨base, 3, rfl, by decide +kernel⟩,
   ⟨base.setHall 7 1, 7, rfl, by decide +kernel⟩,
   ⟨base.setHall 3 1, 3, rfl, by decide +kernel⟩,
   ⟨base.setHall 7 1, 7, rfl, by decide +kernel⟩,
   ⟨base.setHall 7 0, 7, rfl, by decide +kernel⟩,
   ⟨base.setDie 3 { Die.reset with notice := true }, 3, rfl, by decide +kernel⟩,
   ⟨base, 3, 2, rfl, by decide +kernel⟩,
   ⟨(dieAt 2).setDie 3 { Die.reset with lossAt := some 0 }, 3, rfl, by decide +kernel⟩,
   ⟨(dieAt 1).setDie 3 { Die.reset with lossAt := some 0 }, 3, rfl, by decide +kernel⟩,
   ⟨base, 3, 11, rfl, by decide +kernel⟩,
   ⟨base, 3, rfl, by decide +kernel⟩,
   ⟨(base.setHall 7 0).setEnt 0x5207 4 1, 7, rfl, by decide +kernel⟩⟩

/-- Obligations.Registers: the hypotheses of its clauses can hold. -/
theorem witness_Registers :
    (∃ pa : Nat, ∃ d : RegDesc, ∃ m : Nat, ∃ v : Nat, ∃ i : Nat, regDesc pa = some d ∧ m < 2 ^ 64 ∧ v < 2 ^ 64 ∧ i < 64) ∧
    (∃ pa : Nat, ∃ d : RegDesc, ∃ m : Nat, ∃ v : Nat, ∃ q : Nat, regDesc pa = some d ∧ m < 2 ^ 64 ∧ v < 2 ^ 64 ∧ q ≠ pa) ∧
    (∃ s : State, ∃ agent : BitVec 16, ∃ pa : Nat, ∃ n : Nat, s.Settled ∧ pa < 2 ^ 56 ∧ coreSize n = true ∧ s.on = true ∧
      regionOf pa = .control ∧ s.controlHeld agent pa = false) ∧
    (∃ s : State, ∃ agent : BitVec 16, ∃ pa : Nat, ∃ n : Nat, s.Settled ∧ pa < 2 ^ 56 ∧ coreSize n = true ∧ s.on = true ∧
      regionOf pa = .control ∧ s.controlHeld agent pa = true) ∧
    (∃ s : State, ∃ pa : Nat, ∃ n : Nat, s.Settled ∧ pa < 2 ^ 56 ∧ coreSize n = true ∧
      (s.on = false ∨ regionOf pa ≠ .control)) ∧
    (∃ s : State, ∃ agent : BitVec 16, ∃ w : Nat, ∃ q : Nat, s.Settled ∧ w < 32 ∧ q < 128 ∧ s.wingUp w = true ∧
      s.controlHeld agent (paQueue w q 0) = false ∧ s.qon w q = false) ∧
    (∃ s : State, ∃ agent : BitVec 16, ∃ w : Nat, ∃ q : Nat, s.Settled ∧ w < 32 ∧ q < 128 ∧ s.wingUp w = true ∧
      s.controlHeld agent (paQueue w q 0) = false ∧ s.qon w q = true) ∧
    (∃ s : State, ∃ pa : Nat, s.Settled ∧ s.firmware = true ∧ inMirror pa = true) ∧
    (∃ s : State, ∃ pa : Nat, ∃ size : Nat, s.Settled ∧ coreSize size = true ∧ s.firmware = true ∧ inMirror pa = true ∧
      dictEntry (mirrorSlot pa).1 (mirrorSlot pa).2 = none) ∧
    (∃ s : State, ∃ pa : Nat, ∃ size : Nat, ∃ r, s.Settled ∧ coreSize size = true ∧ s.firmware = true ∧ inMirror pa = true ∧
      dictEntry (mirrorSlot pa).1 (mirrorSlot pa).2 = some r ∧ ((size ≠ 8 ∨ pa % 8 ≠ 0 ∨ r.ty.isBytes = true))) ∧
    (∃ s : State, ∃ pa : Nat, ∃ v : BitVec 64, ∃ r, s.Settled ∧ s.firmware = true ∧ inMirror pa = true ∧ pa % 8 = 0 ∧
      dictEntry (mirrorSlot pa).1 (mirrorSlot pa).2 = some r ∧ r.ty.isBytes = false ∧ 2 ^ (8 * r.ty.size) ≤ v.toNat) ∧
    (∃ s : State, ∃ pa : Nat, ∃ v : BitVec 64, ∃ r, s.Settled ∧ s.firmware = true ∧ inMirror pa = true ∧ pa % 8 = 0 ∧
      dictEntry (mirrorSlot pa).1 (mirrorSlot pa).2 = some r ∧ r.ty.isBytes = false ∧ v.toNat < 2 ^ (8 * r.ty.size) ∧
      (s.writeEntry .letterbox 0 (mirrorSlot pa).1 (mirrorSlot pa).2 r.ty.code (toBytes r.ty.size v.toNat)).1 = 0) ∧
    (∃ s : State, ∃ pa : Nat, s.Settled ∧ s.on = true ∧ inMirror pa = true) :=
  ⟨⟨paBreaker 4 0, (regDesc 0x46000000).get (by decide), 255, 255, 63, by decide +kernel⟩,
   ⟨paBreaker 4 0, (regDesc 0x46000000).get (by decide), 255, 255, 8, by decide +kernel⟩,
   ⟨base, 0x8800#16, paQueue 31 127 0, 8, rfl, by decide +kernel⟩,
   ⟨base.setHall 3 1, 0x8800#16, paQueue 31 127 0, 8, rfl, by decide +kernel⟩,
   ⟨base, 2 ^ 56 - 1, 4, rfl, by decide +kernel⟩,
   ⟨base, 0x8800#16, 31, 127, rfl, by decide +kernel⟩,
   ⟨qon, 0x8800#16, 31, 127, rfl, by decide +kernel⟩,
   ⟨base, 0x87FFFFF8, rfl, by decide +kernel⟩,
   ⟨base, 0x87FFFFF8, 8, rfl, by decide +kernel⟩,
   ⟨base, 0x84008008, 4, (dictEntry 0x8010 1).get (by decide), rfl, by decide +kernel⟩,
   ⟨base, 0x84008008, 0xFFFFFFFFFFFFFFFF#64, (dictEntry 0x8010 1).get (by decide), rfl, by decide +kernel⟩,
   ⟨base, 0x84008008, 1#64, (dictEntry 0x8010 1).get (by decide), rfl, by decide +kernel⟩,
   ⟨base, 0x87FFFFF8, rfl, by decide +kernel⟩⟩

/-- Obligations.HostCores: the hypotheses of its clauses can hold. -/
theorem witness_HostCores :
    (∃ s : State, ∃ core : Nat, ∃ pa : Nat, ∃ n : Nat, ∃ runs, ∃ s' : State, s.Settled ∧ s.on = true ∧ core < 96 ∧
      pa < 2 ^ 56 ∧ coreSize n = true ∧ s.coreTarget core pa n false = (.mem runs, s') ∧ ((s'.coreRuns core runs).1.2 = false)) ∧
    (∃ s : State, ∃ core : Nat, ∃ pa : Nat, ∃ n : Nat, ∃ runs, ∃ s' : State, s.Settled ∧ s.on = true ∧ core < 96 ∧
      pa < 2 ^ 56 ∧ coreSize n = true ∧ s.coreTarget core pa n false = (.mem runs, s') ∧ ((s'.coreRuns core runs).1.2 = true)) ∧
    (∃ s : State, ∃ core : Nat, ∃ pa : Nat, ∃ n : Nat, ∃ runs, ∃ s' : State, s.Settled ∧ s.on = true ∧ core < 96 ∧
      pa < 2 ^ 56 ∧ coreSize n = true ∧ s.coreTarget core pa n true = (.mem runs, s')) ∧
    (∃ s : State, ∃ core : Nat, ∃ pa : Nat, ∃ n : Nat, s.Settled ∧ s.on = true ∧ core < 96 ∧ pa < 2 ^ 56 ∧ coreSize n = true ∧
      regionOf pa = .reserved) ∧
    (∃ s : State, ∃ core : Nat, ∃ pa : Nat, ∃ n : Nat, s.Settled ∧ s.on = true ∧ core < 96 ∧ pa < 2 ^ 56 ∧ coreSize n = true ∧
      regionOf pa = .control ∧ regionOf (pa + n - 1) = .control ∧ ((n < 4 ∨ pa % n ≠ 0 ∨ listed pa = false))) ∧
    (∃ s : State, ∃ core : Nat, ∃ pa : Nat, ∃ n : Nat, ∃ k, s.Settled ∧ s.on = true ∧ core < 96 ∧ pa < 2 ^ 56 ∧
      coreSize n = true ∧ regionOf pa = .control ∧ regionOf (pa + n - 1) = .control ∧ k ≠ StoreKind.store ∧
      atomicForm pa n = true) :=
  ⟨⟨base, 95, 0xCFFFFFFFFF, 1, [(0xCFFFFFFFFF, 1)], (base.coreTarget 95 0xCFFFFFFFFF 1 false).2, rfl, by decide +kernel⟩,
   ⟨base.putWord 0xCFFFFFFFF0 0 true, 95, 0xCFFFFFFFFF, 1, [(0xCFFFFFFFFF, 1)],
     ((base.putWord 0xCFFFFFFFF0 0 true).coreTarget 95 0xCFFFFFFFFF 1 false).2, rfl, by decide +kernel⟩,
   ⟨base, 95, 0xCFFFFFFFFF, 1, [(0xCFFFFFFFFF, 1)], (base.coreTarget 95 0xCFFFFFFFFF 1 false).2, rfl, by decide +kernel⟩,
   ⟨base, 95, 0xD000000000, 8, rfl, by decide +kernel⟩,
   ⟨base, 95, 0x2, 4, rfl, by decide +kernel⟩,
   ⟨base, 95, 0x40000000, 8, StoreKind.sc, rfl, by decide +kernel⟩⟩

/-- Obligations.QueueControl: the hypotheses of its clauses can hold. -/
theorem witness_QueueControl :
    (∃ s : State, ∃ w : Nat, ∃ q : Nat, ∃ v : BitVec 64, s.Settled ∧ w < 32 ∧ q < 128 ∧ s.wingUp w = true ∧ s.qon w q = true ∧
      v.toNat % 2 ^ 16 < s.wring w q) ∧
    (∃ s : State, ∃ w : Nat, ∃ q : Nat, ∃ v : BitVec 64, s.Settled ∧ w < 32 ∧ q < 128 ∧ s.wingUp w = true ∧ s.qon w q = true ∧
      v.toNat % 2 ^ 16 < s.cring w q) ∧
    (∃ s : State, ∃ w : Nat, ∃ q : Nat, ∃ n : Nat, ∃ v : BitVec 64, s.Settled ∧ w < 32 ∧ q < 128 ∧ s.wingUp w = true ∧
      sizeOk n = true ∧ s.qon w q = true ∧ ((n ≠ 8 ∨ s.wring w q ≤ v.toNat % 2 ^ 16))) ∧
    (∃ s : State, ∃ w : Nat, ∃ q : Nat, ∃ n : Nat, ∃ v : BitVec 64, s.Settled ∧ w < 32 ∧ q < 128 ∧ s.wingUp w = true ∧
      sizeOk n = true ∧ s.qon w q = true ∧ ((n ≠ 8 ∨ s.cring w q ≤ v.toNat % 2 ^ 16))) ∧
    (∃ s : State, ∃ w : Nat, ∃ q : Nat, ∃ n : Nat, s.Settled ∧ w < 32 ∧ q < 128 ∧ s.wingUp w = true ∧ sizeOk n = true ∧
      s.qon w q = false) ∧
    (∃ s : State, ∃ w : Nat, ∃ q : Nat, s.Settled ∧ w < 32 ∧ q < 128 ∧ s.wingUp w = true ∧ s.qon w q = false ∧
      s.mayEnable w q = true) ∧
    (∃ s : State, ∃ w : Nat, ∃ q : Nat, s.Settled ∧ w < 32 ∧ q < 128 ∧ s.wingUp w = true ∧ s.qon w q = false ∧
      s.mayEnable w q = false) ∧
    (∃ s : State, ∃ w : Nat, ∃ q : Nat, s.Settled ∧ w < 32 ∧ q < 128 ∧ s.wingUp w = true ∧ s.qon w q = false ∧
      s.inflight w q = 0) ∧
    (∃ s : State, ∃ w : Nat, ∃ q : Nat, s.Settled ∧ w < 32 ∧ q < 128 ∧ s.wingUp w = true ∧
      ((s.qon w q = true ∨ s.inflight w q ≠ 0))) :=
  ⟨⟨qrun, 31, 127, 63#64, rfl, by decide +kernel⟩,
   ⟨qrun, 31, 127, 63#64, rfl, by decide +kernel⟩,
   ⟨qrun, 31, 127, 8, 64#64, rfl, by decide +kernel⟩,
   ⟨qrun, 31, 127, 8, 64#64, rfl, by decide +kernel⟩,
   ⟨base, 31, 127, 8, rfl, by decide +kernel⟩,
   ⟨qrdy, 31, 127, rfl, by decide +kernel⟩,
   ⟨base, 31, 127, rfl, by decide +kernel⟩,
   ⟨base, 31, 127, rfl, by decide +kernel⟩,
   ⟨qrun, 31, 127, rfl, by decide +kernel⟩⟩

/-- Obligations.FetchAndIssue: the hypotheses of its clauses can hold. -/
theorem witness_FetchAndIssue :
    (∃ s : State, ∃ w : Nat, ∃ q : Nat, ∃ n : Nat, ∃ ab, s.Settled ∧ w < 32 ∧ s.wingUp w = true ∧ (s.wing w).power = .running ∧
      s.fetchChoice w = some (q, n, ab)) ∧
    (∃ s : State, ∃ w : Nat, s.Settled ∧ w < 32 ∧ s.wingUp w = true ∧ (s.wing w).power = .running ∧ s.fetchChoice w = none) ∧
    (∃ s : State, ∃ w : Nat, ∃ q : Nat, ∃ n : Nat, ∃ ab, s.Settled ∧ w < 32 ∧ s.wingUp w = true ∧ (s.wing w).power = .running ∧
      s.fetchable w q = some (n, ab)) ∧
    (∃ s : State, ∃ w : Nat, ∃ q : Nat, ∃ c : Cmd, ∃ e : Nat, s.Settled ∧ w < 32 ∧ s.wingUp w = true ∧
      (s.wing w).power = .running ∧ q < 128 ∧ s.qhalted w q = false ∧ s.oldest w q = some c ∧ engineOf c.op = some e ∧
      max (epochStands (s.wingEpoch w) c.epoch) (epochStands (s.roomEpoch (c.room w)) c.epoch) = 2) ∧
    (∃ s : State, ∃ w : Nat, ∃ q : Nat, ∃ c : Cmd, ∃ e : Nat, s.Settled ∧ w < 32 ∧ s.wingUp w = true ∧
      (s.wing w).power = .running ∧ q < 128 ∧ s.qhalted w q = false ∧ s.oldest w q = some c ∧ engineOf c.op = some e ∧
      max (epochStands (s.wingEpoch w) c.epoch) (epochStands (s.roomEpoch (c.room w)) c.epoch) = 1 ∧ c.id ∈ (s.wing w).held) ∧
    (∃ s : State, ∃ w : Nat, ∃ q : Nat, ∃ c : Cmd, ∃ e : Nat, s.Settled ∧ w < 32 ∧ s.wingUp w = true ∧
      (s.wing w).power = .running ∧ q < 128 ∧ s.qhalted w q = false ∧ s.oldest w q = some c ∧ engineOf c.op = some e ∧
      epochStands (s.wingEpoch w) c.epoch = 0 ∧ epochStands (s.roomEpoch (c.room w)) c.epoch = 0 ∧
      (s.room (c.room w)).testing = false ∧ ((s.room (c.room w)).eq e).length < 32 ∧ s.wingEpoch w = c.epoch ∧
      ((c.order = true ↔ s.qf w q 0x30 49 49 = 1))) :=
  ⟨⟨qrun.setQf 31 127 0x38 47 32 1, 31, 127, 1, false, rfl, by decide +kernel⟩,
   ⟨base, 31, rfl, by decide +kernel⟩,
   ⟨qrun.setQf 31 127 0x38 47 32 9, 31, 127, 8, false, rfl, by decide +kernel⟩,
   ⟨hold1 (mkCmd (2 + 200 * 2 ^ 56) 0 0 0 0), 31, 127, mkCmd (2 + 200 * 2 ^ 56) 0 0 0 0, 0, rfl, by decide +kernel⟩,
   ⟨(withCmds qrun [mkCmd (2 + 2 ^ 56) 0 0 0 0]).setWing 31 { Wing.reset with cmds := [mkCmd (2 + 2 ^ 56) 0 0 0 0], held := [1] }, 31, 127, mkCmd (2 + 2 ^ 56) 0 0 0 0, 0, rfl, by decide +kernel⟩,
   ⟨hold1 (mkCmd 0x10 0 0 0 0), 31, 127, mkCmd 0x10 0 0 0 0, 1, rfl, by decide +kernel⟩⟩

/-- Obligations.DispatcherCommands: the hypotheses of its clauses can hold. -/
theorem witness_DispatcherCommands :
    (∃ s : State, ∃ w : Nat, ∃ q : Nat, ∃ c : Cmd, s.Settled ∧ w < 32 ∧ q < 128 ∧ s.wingUp w = true ∧
      s.begins w q 0x00 = some c) ∧
    (∃ s : State, ∃ w : Nat, ∃ q : Nat, ∃ c : Cmd, s.Settled ∧ w < 32 ∧ q < 128 ∧ s.wingUp w = true ∧
      s.begins w q 0x30 = some c) ∧
    (∃ s : State, ∃ w : Nat, ∃ q : Nat, ∃ c : Cmd, s.Settled ∧ w < 32 ∧ q < 128 ∧ s.wingUp w = true ∧
      ((s.queueCmds w q).find? (fun d => d.op == 0x30 && decide (d.st = .committed) && d.status.isNone) = some c) ∧
      bitOf (c.wd 1) 18 = false) ∧
    (∃ s : State, ∃ w : Nat, ∃ q : Nat, ∃ c : Cmd, s.Settled ∧ w < 32 ∧ q < 128 ∧ s.wingUp w = true ∧
      ((s.queueCmds w q).find? (fun d => d.op == 0x30 && decide (d.st = .committed) && d.status.isNone) = some c) ∧
      bitOf (c.wd 1) 18 = true ∧ bitOf (c.wd 1) 19 = false) ∧
    (∃ s : State, ∃ w : Nat, ∃ q : Nat, ∃ c : Cmd, s.Settled ∧ w < 32 ∧ q < 128 ∧ s.wingUp w = true ∧
      ((s.queueCmds w q).find? (fun d => d.op == 0x30 && decide (d.st = .committed) && d.status.isNone) = some c) ∧
      bitOf (c.wd 1) 18 = true ∧ bitOf (c.wd 1) 19 = true) ∧
    (∃ s : State, ∃ w : Nat, ∃ q : Nat, ∃ c : Cmd, s.Settled ∧ w < 32 ∧ q < 128 ∧ s.wingUp w = true ∧
      s.begins w q 0x31 = some c) ∧
    (∃ s : State, ∃ w : Nat, ∃ q : Nat, ∃ c : Cmd, s.Settled ∧ w < 32 ∧ q < 128 ∧ s.wingUp w = true ∧
      ((s.queueCmds w q).find? (fun d => d.op == 0x31 && decide (d.st = .waiting) && d.status.isNone && decide (d.awaiting = [])) = some c) ∧ (bitOf (c.wd 1) 19 && c.awaitBad) = false ∧ bitOf (c.wd 1) 18 = false) ∧
    (∃ s : State, ∃ w : Nat, ∃ q : Nat, ∃ c : Cmd, s.Settled ∧ w < 32 ∧ q < 128 ∧ s.wingUp w = true ∧
      ((s.queueCmds w q).find? (fun d => d.op == 0x31 && decide (d.st = .waiting) && d.status.isNone && decide (d.awaiting = [])) = some c) ∧ (bitOf (c.wd 1) 19 && c.awaitBad) = true) ∧
    (∃ s : State, ∃ w : Nat, ∃ q : Nat, ∃ c : Cmd, s.Settled ∧ w < 32 ∧ q < 128 ∧ s.wingUp w = true ∧
      ((s.queueCmds w q).find? (fun d => d.op == 0x31 && decide (d.st = .waiting) && d.status.isNone && decide (d.awaiting = [])) = some c) ∧ (bitOf (c.wd 1) 19 && c.awaitBad) = false ∧ bitOf (c.wd 1) 18 = true) ∧
    (∃ s : State, ∃ w : Nat, ∃ q : Nat, ∃ c : Cmd, s.Settled ∧ w < 32 ∧ q < 128 ∧ s.wingUp w = true ∧
      s.begins w q 0x38 = some c) ∧
    (∃ s : State, ∃ w : Nat, ∃ q : Nat, ∃ c : Cmd, s.Settled ∧ w < 32 ∧ q < 128 ∧ s.wingUp w = true ∧
      s.waitingCmd w q 0x38 = some c ∧ (∀ d ∈ s.queueCmds w q, c.id ≤ d.id) ∧ (c.f 1 2 0 < 5 ∨ s.looseBefore w c = false)) ∧
    (∃ s : State, ∃ w : Nat, ∃ q : Nat, ∃ c : Cmd, s.Settled ∧ w < 32 ∧ q < 128 ∧ s.wingUp w = true ∧
      s.waitingCmd w q 0x38 = some c ∧ 5 ≤ c.f 1 2 0 ∧ s.looseBefore w c = true) ∧
    (∃ s : State, ∃ w : Nat, ∃ q : Nat, ∃ c : Cmd, s.Settled ∧ w < 32 ∧ q < 128 ∧ s.wingUp w = true ∧
      s.waitingCmd w q 0x38 = some c ∧ ((∃ d ∈ s.queueCmds w q, d.id < c.id))) ∧
    (∃ s : State, ∃ w : Nat, ∃ q : Nat, ∃ c : Cmd, ∃ d : Cmd, s.Settled ∧ w < 32 ∧ q < 128 ∧ s.wingUp w = true ∧
      ((s.queueCmds w q).find? (fun d => d.op == 0x3F && decide (d.st = .fetched) && d.status.isNone) = some c) ∧
      (s.qf w q 0x10 22 22 = 1 ∨ s.qctx w (c.f 1 22 16) = c.ctx) ∧
      ((s.queueCmds w (c.f 1 22 16)).find? (fun d => decide (d.id ≠ c.id) && decide (d.tag = c.f 1 15 0)) = some d) ∧
      (d.status.isSome = true ∨ d.st = .committed)) ∧
    (∃ s : State, ∃ w : Nat, ∃ q : Nat, ∃ c : Cmd, ∃ d : Cmd, s.Settled ∧ w < 32 ∧ q < 128 ∧ s.wingUp w = true ∧
      ((s.queueCmds w q).find? (fun d => d.op == 0x3F && decide (d.st = .fetched) && d.status.isNone) = some c) ∧
      (s.qf w q 0x10 22 22 = 1 ∨ s.qctx w (c.f 1 22 16) = c.ctx) ∧
      ((s.queueCmds w (c.f 1 22 16)).find? (fun d => decide (d.id ≠ c.id) && decide (d.tag = c.f 1 15 0)) = some d) ∧
      d.status = none ∧ d.st ≠ .committed) ∧
    (∃ s : State, ∃ w : Nat, ∃ l : Nat, ∃ n : Nat, ∃ v : BitVec 64, ∃ c : Cmd, s.Settled ∧ w < 32 ∧ l < 4096 ∧
      s.wingUp w = true ∧ (n = 4 ∨ n = 8) ∧ c ∈ (s.wing w).cmds ∧ c.op = 0x30 ∧ c.status = none ∧ c.st = .waiting ∧
      c.f 1 11 0 = l ∧ c.satisfied (v.setWidth 32) = true ∧
      (s.wing w).seen.any (fun e => decide (e.1 = c.id)) = false ∧ (∀ d ∈ (s.wing w).cmds, d.id = c.id → d = c)) ∧
    (∃ s : State, ∃ w : Nat, ∃ q : Nat, ∃ c : Cmd, s.Settled ∧ w < 32 ∧ q < 128 ∧ s.wingUp w = true ∧
      ((s.queueCmds w q).find? (fun d => d.op == 0x3F && decide (d.st = .fetched) && d.status.isNone) = some c) ∧
      s.qf w q 0x10 22 22 ≠ 1 ∧ s.qctx w (c.f 1 22 16) ≠ c.ctx) ∧
    (∃ s : State, ∃ w : Nat, ∃ q : Nat, ∃ c : Cmd, s.Settled ∧ w < 32 ∧ q < 128 ∧ s.wingUp w = true ∧
      ((s.queueCmds w q).find? (fun d => d.op == 0x3F && decide (d.st = .fetched) && d.status.isNone) = some c) ∧
      (∀ d ∈ s.queueCmds w (c.f 1 22 16), d.id = c.id ∨ d.tag ≠ c.f 1 15 0)) :=
  ⟨⟨hold1 (mkCmd 0 0 0 0 0), 31, 127, mkCmd 0 0 0 0 0, rfl, by decide +kernel⟩,
   ⟨hold1 (mkCmd 0x30 0 0 0 0), 31, 127, mkCmd 0x30 0 0 0 0, rfl, by decide +kernel⟩,
   ⟨hold1 { waitc 0 with st := .committed }, 31, 127, { waitc 0 with st := .committed }, rfl, by decide +kernel⟩,
   ⟨hold1 { waitc 0x40000 with st := .committed }, 31, 127, { waitc 0x40000 with st := .committed }, rfl, by decide +kernel⟩,
   ⟨hold1 { waitc 0xC0000 with st := .committed }, 31, 127, { waitc 0xC0000 with st := .committed }, rfl, by decide +kernel⟩,
   ⟨hold1 (mkCmd 0x31 0 0 0 0), 31, 127, mkCmd 0x31 0 0 0 0, rfl, by decide +kernel⟩,
   ⟨hold1 { mkCmd 0x31 0 0 0 0 with st := .waiting }, 31, 127, { mkCmd 0x31 0 0 0 0 with st := .waiting }, rfl,
     by decide +kernel⟩,
   ⟨hold1 { mkCmd 0x31 0x80000 0 0 0 with st := .waiting, awaitBad := true }, 31, 127,
     { mkCmd 0x31 0x80000 0 0 0 with st := .waiting, awaitBad := true }, rfl, by decide +kernel⟩,
   ⟨hold1 { mkCmd 0x31 0x40000 0 0 0 with st := .waiting }, 31, 127, { mkCmd 0x31 0x40000 0 0 0 with st := .waiting }, rfl,
     by decide +kernel⟩,
   ⟨hold1 (mkCmd 0x38 0 0 0 0), 31, 127, mkCmd 0x38 0 0 0 0, rfl, by decide +kernel⟩,
   ⟨hold1 { mkCmd 0x38 0 0 0 0 with st := .waiting }, 31, 127, { mkCmd 0x38 0 0 0 0 with st := .waiting }, rfl,
     by decide +kernel⟩,
   ⟨looseFence, 31, 127, { mkCmd 0x38 5 0 0 0 with id := 2, st := .waiting }, rfl, by decide +kernel⟩,
   ⟨withCmds qrun [done0, { mkCmd 0x38 0 0 0 0 with id := 2, st := .waiting }], 31, 127,
     { mkCmd 0x38 0 0 0 0 with id := 2, st := .waiting }, rfl, by decide +kernel⟩,
   ⟨withCmds qrun [done0, { mkCmd 0x3F (127 * 65536) 0 0 0 with id := 2 }], 31, 127,
     { mkCmd 0x3F (127 * 65536) 0 0 0 with id := 2 }, done0, rfl, by decide +kernel⟩,
   ⟨withCmds qrun [mkCmd 0x10 0 0 0 0, { mkCmd 0x3F (127 * 65536) 0 0 0 with id := 2 }], 31, 127,
     { mkCmd 0x3F (127 * 65536) 0 0 0 with id := 2 }, mkCmd 0x10 0 0 0 0, rfl, by decide +kernel⟩,
   ⟨base.setWing 31 { Wing.reset with cmds := [waitc 0] }, 31, 0, 8, 0#64, waitc 0, rfl, by decide +kernel⟩,
   ⟨hold1 (mkCmd 0x3F (126 * 65536) 0 0 0), 31, 127, mkCmd 0x3F (126 * 65536) 0 0 0, rfl, by decide +kernel⟩,
   ⟨hold1 (mkCmd 0x3F (127 * 65536) 0 0 0), 31, 127, mkCmd 0x3F (127 * 65536) 0 0 0, rfl, by decide +kernel⟩⟩

/-- Obligations.CompletionRecords: the hypotheses of its clauses can hold. -/
theorem witness_CompletionRecords :
    (∃ s : State, ∃ w : Nat, ∃ q : Nat, ∃ tag : BitVec 16, ∃ c : Cmd, ∃ m : Nat, ∃ s' : State, s.Settled ∧ w < 32 ∧ q < 128 ∧
      s.wingUp w = true ∧ ((s.queueCmds w q).find? (fun c => decide (c.tag = tag.toNat) && s.recordReady w c) = some c) ∧
      s.accessHeld (w / 8) (s.cslot w q / 64) true = false ∧ s.hallCut (w / 8) (homeDie (s.cslot w q / 64)) = false ∧
      s.target (s.cslot w q) (w / 8) (s.suiteOfDie (w / 8)) c.ctx (cmdKey w c.id) true true = (.mem m, s')) ∧
    (∃ s : State, ∃ w : Nat, ∃ q : Nat, ∃ tag : BitVec 16, ∃ c : Cmd, ∃ src : Nat, ∃ s' : State, s.Settled ∧ w < 32 ∧ q < 128 ∧
      s.wingUp w = true ∧ ((s.queueCmds w q).find? (fun c => decide (c.tag = tag.toNat) && s.recordReady w c) = some c) ∧
      s.accessHeld (w / 8) (s.cslot w q / 64) true = false ∧ s.hallCut (w / 8) (homeDie (s.cslot w q / 64)) = false ∧
      s.target (s.cslot w q) (w / 8) (s.suiteOfDie (w / 8)) c.ctx (cmdKey w c.id) true true = (.kill src, s')) ∧
    (∃ s : State, ∃ w : Nat, ∃ q : Nat, ∃ tag : BitVec 16, ∃ c : Cmd, s.Settled ∧ w < 32 ∧ q < 128 ∧ s.wingUp w = true ∧
      ((s.queueCmds w q).find? (fun c => decide (c.tag = tag.toNat) && s.recordReady w c) = some c) ∧
      s.accessHeld (w / 8) (s.cslot w q / 64) true = false ∧ s.qf w q 0x30 47 32 + 1 < s.cring w q) ∧
    (∃ s : State, ∃ w : Nat, ∃ q : Nat, ∃ tag : BitVec 16, ∃ c : Cmd, s.Settled ∧ w < 32 ∧ q < 128 ∧ s.wingUp w = true ∧
      ((s.queueCmds w q).find? (fun c => decide (c.tag = tag.toNat) && s.recordReady w c) = some c) ∧
      s.accessHeld (w / 8) (s.cslot w q / 64) true = false ∧ s.cring w q ≤ s.qf w q 0x30 47 32 + 1) ∧
    (∃ s : State, ∃ w : Nat, ∃ q : Nat, ∃ tag : BitVec 16, ∃ c : Cmd, s.Settled ∧ w < 32 ∧ q < 128 ∧ s.wingUp w = true ∧
      ((s.queueCmds w q).find? (fun c => decide (c.tag = tag.toNat) && s.recordReady w c) = some c) ∧
      s.accessHeld (w / 8) (s.cslot w q / 64) true = false ∧ s.hallCut (w / 8) (homeDie (s.cslot w q / 64)) = true) :=
  ⟨⟨hold1 done0, 31, 127, 0#16, done0, 0x10000100000, (hold1 done0), rfl, by decide +kernel⟩,
   ⟨(hold1 done0).setReg (paQueue 31 127 8) 0x37FFFFFFFFC0#64, 31, 127, 0#16, done0, 0x20,
     ((hold1 done0).setReg (paQueue 31 127 8) 0x37FFFFFFFFC0#64), rfl, by decide +kernel⟩,
   ⟨(hold1 done0).setQf 31 127 0x30 47 32 62, 31, 127, 0#16, done0, rfl, by decide +kernel⟩,
   ⟨(hold1 done0).setQf 31 127 0x30 47 32 63, 31, 127, 0#16, done0, rfl, by decide +kernel⟩,
   ⟨((hold1 done0).setReg (paQueue 31 127 8) 0x1000000000#64).setHall 7 0, 31, 127, 0#16, done0, rfl, by decide +kernel⟩⟩

/-- Obligations.Contexts: the hypotheses of its clauses can hold. -/
theorem witness_Contexts :
    (∃ s : State, ∃ c : Nat, ∃ r, s.Settled ∧ s.readContext c none = .ok r ∧ c < 256 ∧ s.on = true ∧ s.ctxState c = 0) ∧
    (∃ s : State, ∃ c : Nat, ∃ e : Nat × Nat, s.Settled ∧ s.readContext c none = .error e ∧ c < 256 ∧ s.on = true ∧
      s.ctxState c = 0) ∧
    (∃ s : State, ∃ c : Nat, s.Settled ∧ c < 256 ∧ s.ctxState c = 1) ∧
    (∃ s : State, ∃ c : Nat, s.Settled ∧ c < 256 ∧ s.ctxState c ≠ 0 ∧ s.queuesOf c = [] ∧ s.cmdsOf c = []) ∧
    (∃ s : State, ∃ c : Nat, s.Settled ∧ c < 256 ∧ s.ctxState c ≠ 0 ∧ ((s.queuesOf c ≠ [] ∨ s.cmdsOf c ≠ []))) ∧
    (∃ s : State, ∃ c : Nat, ∃ f, c < 256 ∧ s.ctxState c = 1 ∧ f ∈ (s.killContext c stKILLED).faults) ∧
    (∃ s : State, ∃ c : Nat, ∃ r, ∃ p, c < 256 ∧ s.ctxState c = 1 ∧ r ∈ (s.killContext c stKILLED).rooms ∧ p ∈ r.2.port) :=
  ⟨⟨base.setEnt 0x8100 1 0x17FFFFC0000, 255, got ((base.setEnt 0x8100 1 0x17FFFFC0000).readContext 255 none), rfl,
    got_eq (by decide +kernel), by decide +kernel⟩,
   ⟨base, 255, gotError (base.readContext 255 none), rfl, gotError_eq (by decide +kernel), by decide +kernel⟩,
   ⟨ctx1 base, 255, rfl, by decide +kernel⟩,
   ⟨ctx1 base, 255, rfl, by decide +kernel⟩,
   ⟨qrun, 255, rfl, by decide +kernel⟩,
   ⟨{ ctx1 base with faults := [fault0, { fault0 with ctx := 254 }] }, 255, { fault0 with ctx := 254 }, by decide +kernel⟩,
   ⟨(ctx1 base).setRoom 255 { Room.reset with port := [portRow0 254] }, 255, (255, { Room.reset with port := [portRow0 254] }),
     portRow0 254, by decide +kernel⟩⟩

/-- Obligations.Walks: the hypotheses of its clauses can hold. -/
theorem witness_Walks :
    (∃ s : State, ∃ d : Nat, ∃ c : Nat, ∃ page : Nat, ∃ k : Walk, ∃ ks : List Walk, s.Settled ∧ d < 4 ∧ c < 256 ∧
      page < 2 ^ 52 ∧ s.dieUp d = true ∧ ((s.die d).walks.filter (fun k => k.ctx = c && k.page = page) = k :: ks) ∧ (c,
      page) ∈ (s.die d).walking) ∧
    (∃ p : Nat, bitOf p 0 = false) ∧
    (∃ p : Nat, bitOf p 0 = true ∧ fld p 60 54 ≠ 0) ∧
    (∃ p : Nat, bitOf p 0 = true ∧ fld p 60 54 = 0 ∧ bitOf p 2 = true ∧ bitOf p 1 = false) ∧
    (∃ p : Nat, ∃ level : Nat, bitOf p 0 = true ∧ fld p 60 54 = 0 ∧ bitOf p 2 = false ∧ bitOf p 1 = false ∧ bitOf p 3 = false ∧
      level = 0) ∧
    (∃ p : Nat, ∃ level : Nat, ∃ access : Nat, bitOf p 0 = true ∧ fld p 60 54 = 0 ∧ bitOf p 1 = true ∧ bitOf p 63 = false ∧
      level < 3 ∧ ptePpn p % 2 ^ (9 * level) = 0 ∧ (access = 1 ∨ access = 2) ∧ bitOf p 2 = false) ∧
    (∃ p : Nat, ∃ level : Nat, ∃ access : Nat, bitOf p 0 = true ∧ fld p 60 54 = 0 ∧ bitOf p 1 = true ∧ bitOf p 63 = false ∧
      level < 3 ∧ ptePpn p % 2 ^ (9 * level) = 0 ∧ access ≠ 1 ∧ access ≠ 2 ∧ bitOf p 6 = false) ∧
    (∃ p : Nat, ∃ level : Nat, ∃ access : Nat, bitOf p 0 = true ∧ fld p 60 54 = 0 ∧ bitOf p 1 = true ∧ bitOf p 63 = false ∧
      level < 3 ∧ ptePpn p % 2 ^ (9 * level) = 0 ∧ (access = 1 ∨ access = 2) ∧ bitOf p 2 = true ∧ bitOf p 6 = true ∧
      bitOf p 7 = false) ∧
    (∃ p : Nat, ∃ level : Nat, bitOf p 0 = true ∧ fld p 60 54 = 0 ∧ bitOf p 1 = true ∧ bitOf p 63 = false ∧ level < 3 ∧
      ptePpn p % 2 ^ (9 * level) = 0 ∧ bitOf p 2 = true ∧ bitOf p 6 = true ∧ bitOf p 7 = true) :=
  ⟨⟨base.setDie 3 { Die.reset with walks := [walk0] }, 3, 255, 1, walk0, [], rfl, by decide +kernel⟩,
   ⟨0xFE, by decide +kernel⟩,
   ⟨1 + 2 ^ 54, by decide +kernel⟩,
   ⟨5, by decide +kernel⟩,
   ⟨1, 0, by decide +kernel⟩,
   ⟨3, 2, 2, by decide +kernel⟩,
   ⟨3, 2, 0, by decide +kernel⟩,
   ⟨0x47, 2, 1, by decide +kernel⟩,
   ⟨0xC7, 2, by decide +kernel⟩⟩

/-- Obligations.FaultsAndInvalidation: the hypotheses of its clauses can hold. -/
theorem witness_FaultsAndInvalidation :
    (∃ s : State, ∃ i : Nat, s.Settled ∧ i < 4 ∧ s.ringOpen i = false) ∧
    (∃ s : State, ∃ i : Nat, s.Settled ∧ i < 4 ∧ s.on = true ∧ s.ringOk i = true ∧ s.ent (0x8110 + i) 8 ≠ 1 ∧ ((∀ f ∈ s.faults,
      f.suite = i → f.inRing = true))) ∧
    (∃ s : State, ∃ i : Nat, s.Settled ∧ i < 4 ∧ s.on = true ∧ (s.ent (0x8110 + i) 8 = 1 ∨ s.ringOk i = false)) ∧
    (∃ s : State, ∃ i : Nat, ∃ fid : BitVec 32, ∃ f, s.Settled ∧ i < 4 ∧ s.on = true ∧
      s.faultOf i fid = some f ∧ (∀ u ∈ s.unfiled, (s.ctxRec u.1.ctx).suite ≠ i)) ∧
    (∃ s : State, ∃ i : Nat, ∃ fid : BitVec 32, s.Settled ∧ i < 4 ∧ s.on = true ∧ s.faultOf i fid = none) ∧
    (∃ s : State, ∃ w : Nat, ∃ q : Nat, ∃ c : Cmd, s.Settled ∧ w < 32 ∧ q < 128 ∧ s.begins w q 0x40 = some c ∧
      s.ctxState (invTarget c) ≠ 0 ∧ c.wd 2 ≠ 0) ∧
    (∃ s : State, ∃ w : Nat, ∃ q : Nat, ∃ c : Cmd, ∃ r, s.Settled ∧
      s.readContext (invTarget c) (some (s.ctxRec (invTarget c)).suite) = .ok r ∧ w < 32 ∧ q < 128 ∧
      s.begins w q 0x40 = some c ∧ s.ctxState (invTarget c) ≠ 0 ∧ c.wd 2 = 0) ∧
    (∃ s : State, ∃ w : Nat, ∃ q : Nat, ∃ c : Cmd, s.Settled ∧ w < 32 ∧ q < 128 ∧ s.wingUp w = true ∧
      s.waitingCmd w q 0x40 = some c ∧ s.translated (fun k => decide (k = invTarget c)) = false) ∧
    (∃ s : State, ∃ c : Nat, ∃ a : Nat, ∃ b : Nat, ∃ w : Nat × Wing, ∃ e, s.Settled ∧ w ∈ (s.invalidate c a b).wings ∧
      s.suiteOfDie (w.1 / 8) = (s.ctxRec c).suite ∧ e ∈ w.2.tlb) ∧
    (∃ s : State, ∃ c : Nat, ∃ a : Nat, ∃ b : Nat, ∃ r : Nat × Room, ∃ e, s.Settled ∧ r ∈ (s.invalidate c a b).rooms ∧
      s.suiteOfDie (r.1 / 64) = (s.ctxRec c).suite ∧ e ∈ r.2.utlb) ∧
    (∃ s : State, s.Settled ∧ s.on = true ∧ s.ent 0x8100 2 = 1) ∧
    (∃ s : State, ∃ p, ∃ w : Nat × Wing, ∃ e, s.Settled ∧ w ∈ (s.dropPaged p).wings ∧ s.dieUp (w.1 / 8) = true ∧ e ∈ w.2.tlb) ∧
    (∃ s : State, ∃ k : Walk, s.Settled ∧ s.bufferFull (s.ctxRec k.ctx).suite = true ∧ s.ringOpen (s.ctxRec k.ctx).suite = false ∧
      (∀ f ∈ s.faults, f.ctx ≠ k.ctx ∨ f.page ≠ k.page)) ∧
    (∃ s : State, ∃ w : Nat, ∃ q : Nat, ∃ c : Cmd, s.Settled ∧ w < 32 ∧ q < 128 ∧ s.begins w q 0x40 = some c ∧
      s.ctxState (invTarget c) = 0) ∧
    (∃ s : State, ∃ w : Nat, ∃ q : Nat, ∃ c : Cmd, ∃ e, s.Settled ∧
      s.readContext (invTarget c) (some (s.ctxRec (invTarget c)).suite) = .error e ∧ w < 32 ∧ q < 128 ∧
      s.begins w q 0x40 = some c ∧ s.ctxState (invTarget c) ≠ 0 ∧ c.wd 2 = 0) ∧
    (∃ s : State, ∃ w : Nat, ∃ q : Nat, ∃ c : Cmd, s.Settled ∧ w < 32 ∧ q < 128 ∧ s.wingUp w = true ∧
      s.waitingCmd w q 0x40 = some c ∧ s.translated (fun k => decide (k = invTarget c)) = true) ∧
    (∃ s : State, s.Settled ∧ (s.on = false ∨ s.ent 0x8100 2 ≠ 1)) :=
  ⟨⟨base, 3, rfl, by decide +kernel⟩,
   ⟨base.setEnt 0x8113 1 0x10000000000, 3, rfl, by decide +kernel⟩,
   ⟨base.setEnt 0x8113 8 1, 3, rfl, by decide +kernel⟩,
   ⟨{ hold1 (mkCmd 2 0 0 0 0) with faults := [fault0] }, 3, 0#32, fault0, rfl, by decide +kernel⟩,
   ⟨base, 3, 1#32, rfl, by decide +kernel⟩,
   ⟨hold1 (mkCmd 0x40 255 0x1000 0 0), 31, 127, mkCmd 0x40 255 0x1000 0 0, rfl, by decide +kernel⟩,
   ⟨(hold1 (mkCmd 0x40 255 0 0 0)).setEnt 0x8100 1 0x10000000000, 31, 127, mkCmd 0x40 255 0 0 0,
     got (((hold1 (mkCmd 0x40 255 0 0 0)).setEnt 0x8100 1 0x10000000000).readContext (invTarget (mkCmd 0x40 255 0 0 0)) (some (((hold1 (mkCmd 0x40 255 0 0 0)).setEnt 0x8100 1 0x10000000000).ctxRec (invTarget (mkCmd 0x40 255 0 0 0))).suite)), rfl, got_eq (by decide +kernel), by decide +kernel⟩,
   ⟨hold1 { mkCmd 0x40 255 0 0 0 with st := .waiting }, 31, 127, { mkCmd 0x40 255 0 0 0 with st := .waiting }, rfl,
     by decide +kernel⟩,
   ⟨base.setWing 31 { Wing.reset with tlb := [tlb0] }, 255, 0, 0x1000, ((31, { Wing.reset with tlb := [tlb0] }) : Nat × Wing),
     tlb0, rfl, by decide +kernel⟩,
   ⟨base.setRoom 255 { Room.reset with utlb := [tlb0] }, 255, 0, 0x1000, ((255,
     { Room.reset with utlb := [tlb0] }) : Nat × Room), tlb0, rfl, by decide +kernel⟩,
   ⟨base.setEnt 0x8100 2 1, rfl, by decide +kernel⟩,
   ⟨base.setWing 31 { Wing.reset with tlb := [tlb0] }, (fun (e : TlbEntry) => decide (e.ctx = 255)), ((31,
     { Wing.reset with tlb := [tlb0] }) : Nat × Wing), tlb0, rfl, by decide +kernel⟩,
   ⟨{ base with faults := List.replicate 1024 { fault0 with suite := 0, page := 2, inRing := false } }, walk0, rfl,
     by decide +kernel⟩,
   ⟨hold1 (mkCmd 0x40 255 0 (2 ^ 8 + 254) 0), 31, 127, mkCmd 0x40 255 0 (2 ^ 8 + 254) 0, rfl, by decide +kernel⟩,
   ⟨hold1 (mkCmd 0x40 255 0 0 0), 31, 127, mkCmd 0x40 255 0 0 0,
     gotError ((hold1 (mkCmd 0x40 255 0 0 0)).readContext (invTarget (mkCmd 0x40 255 0 0 0)) (some ((hold1 (mkCmd 0x40 255 0 0 0)).ctxRec (invTarget (mkCmd 0x40 255 0 0 0))).suite)), rfl, gotError_eq (by decide +kernel), by decide +kernel⟩,
   ⟨{ hold1 { mkCmd 0x40 255 0 0 0 with st := .waiting } with reads := [openRead] }, 31, 127,
     { mkCmd 0x40 255 0 0 0 with st := .waiting }, rfl, by decide +kernel⟩,
   ⟨base, rfl, by decide +kernel⟩⟩

/-- Obligations.ArrayLoads: the hypotheses of its clauses can hold. -/
theorem witness_ArrayLoads :
    (∃ s : State, ∃ g : Nat, ∃ c : Cmd, s.Settled ∧ g < 256 ∧ s.headCmd g 0 2 = some c ∧ (s.room g).loadRun = none ∧
      (((loadPlaces c).any fun x => x.1.past x.2) = true)) ∧
    (∃ s : State, ∃ g : Nat, ∃ c : Cmd, ∃ l, ∃ s' : State, s.Settled ∧ g < 256 ∧ s.headCmd g 0 2 = some c ∧
      (s.room g).loadRun = none ∧ (((loadPlaces c).any fun x => x.1.past x.2) = false) ∧
      (s.ready (streamUnit g c (bitOf (c.wd 5) 22)) ((loadPlaces c).flatMap fun x => x.1.firsts x.2) false = (.go l, s')) ∧
      (((loadPlaces c).any fun x => anyBad (s'.readAll (streamUnit g c (bitOf (c.wd 5) 22)) l).1 x.1 x.2) = true)) ∧
    (∃ s : State, ∃ g : Nat, ∃ c : Cmd, ∃ l, ∃ s' : State, ∃ t, ∃ u, s.Settled ∧ g < 256 ∧ s.headCmd g 0 2 = some c ∧
      (s.room g).loadRun = none ∧ (((loadPlaces c).any fun x => x.1.past x.2) = false) ∧
      (s.ready (streamUnit g c (bitOf (c.wd 5) 22)) ((loadPlaces c).flatMap fun x => x.1.firsts x.2) false = (.go l, s')) ∧
      s'.readAll (streamUnit g c (bitOf (c.wd 5) 22)) l = (t, u) ∧ (((loadPlaces c).any fun x => anyBad t x.1 x.2) = false)) ∧
    (∃ s : State, ∃ g : Nat, ∃ l : LoadRun, ∃ c, s.Settled ∧ g < 256 ∧ s.roomUp g = true ∧ (s.room g).loadRun = some l ∧
      s.cmd (g / 8) l.cmd = some c) :=
  ⟨⟨mrun (mk5 2 (2 ^ 63 + 2 ^ 21 - 1) 0 0 0 0), 255, mk5 2 (2 ^ 63 + 2 ^ 21 - 1) 0 0 0 0, rfl, by decide +kernel⟩,
   ⟨engine ldc (psnLarder { Room.reset with mq := [1] }), 255, ldc,
     Ready.list (ldr (engine ldc (psnLarder { Room.reset with mq := [1] }))).1,
     (ldr (engine ldc (psnLarder { Room.reset with mq := [1] }))).2, rfl, by decide +kernel⟩,
   ⟨engine ldc { Room.reset with mq := [1] }, 255, ldc, Ready.list (ldr (engine ldc { Room.reset with mq := [1] })).1,
     (ldr (engine ldc { Room.reset with mq := [1] })).2,
     (((ldr (engine ldc { Room.reset with mq := [1] })).2).readAll ldq (Ready.list (ldr (engine ldc { Room.reset with mq := [1] })).1)).1, (((ldr (engine ldc { Room.reset with mq := [1] })).2).readAll ldq (Ready.list (ldr (engine ldc { Room.reset with mq := [1] })).1)).2, rfl, by decide +kernel⟩,
   ⟨engine { ldc with st := .running } { Room.reset with mq := [1], loadRun := some ⟨1, 1, false, .reset⟩ }, 255, (⟨1, 1,
     false, .reset⟩ : LoadRun), { ldc with st := .running }, rfl, by decide +kernel⟩⟩

/-- Obligations.Matmul: the hypotheses of its clauses can hold. -/
theorem witness_Matmul :
    (∃ s : State, ∃ g : Nat, ∃ c : Cmd, ∃ st, s.Settled ∧ g < 256 ∧ s.headCmd g 0 1 = some c ∧ (s.room g).passRun = none ∧
      s.matmulStop g c = some st) ∧
    (∃ s : State, ∃ g : Nat, ∃ c : Cmd, ∃ w : Int, s.Settled ∧ g < 256 ∧ s.headCmd g 0 1 = some c ∧ (s.room g).passRun = none ∧
      s.matmulStop g c = none ∧ c.deadline = none ∧ c.fixedW = some w) ∧
    (∃ s : State, ∃ g : Nat, ∃ c, ∃ run, s.Settled ∧ g < 256 ∧ s.headCmd g 0 1 = some c ∧ (s.room g).passRun = some run ∧
      run.held = true) ∧
    (∃ s : State, ∃ g : Nat, ∃ c, ∃ run, s.Settled ∧ g < 256 ∧ s.headCmd g 0 1 = some c ∧ (s.room g).passRun = some run ∧
      run.held = false) ∧
    (∃ s : State, ∃ g : Nat, ∃ c, ∃ run : PassRun, s.Settled ∧ g < 256 ∧ s.roomUp g = true ∧ (s.room g).passRun = some run ∧
      run.stage = .judged ∧ s.cmd (g / 8) run.cmd = some c ∧ s.armedOn g 0 = false ∧ s.armedOn g 1 = false ∧
      ((s.room g).bank (c.bankOf run.pass)).code = [] ∧ run.pass + 1 = c.passes) ∧
    (∃ s : State, ∃ g : Nat, ∃ c : Cmd, ∃ run : PassRun, s.Settled ∧ g < 256 ∧ s.roomUp g = true ∧
      (s.room g).passRun = some run ∧ run.stage = .judged ∧ s.cmd (g / 8) run.cmd = some c ∧ s.armedOn g 0 = false ∧
      s.armedOn g 1 = false ∧ ((s.room g).bank (c.bankOf run.pass)).code = [] ∧ run.pass + 1 ≠ c.passes) ∧
    (∃ s : State, ∃ g : Nat, ∃ c : Cmd, ∃ l, ∃ s' : State, ∃ t, ∃ u, s.Settled ∧ g < 256 ∧ s.headCmd g 0 1 = some c ∧
      (s.room g).passRun = none ∧ s.matmulStop g c = none ∧ c.deadline = none ∧ c.fixedW = none ∧ c.fresh = true ∧
      s.ready (streamUnit g { c with st := .running } (bitOf (c.wd 5) 36))
        ((List.range c.passes).flatMap fun p => scaleKeys c p) false = (.go l, s') ∧
      s'.readAll (streamUnit g c (bitOf (c.wd 5) 36)) l = (t, u)) :=
  ⟨⟨engine matc { Room.reset with mq := [1] }, 255, matc, stUNSUP, rfl, by decide +kernel⟩,
   ⟨mrun matc, 255, matc, (0 : Int), rfl, by decide +kernel⟩,
   ⟨passAt { matc with st := .running } { run0 with held := true }, 255, { matc with st := .running },
     { run0 with held := true }, rfl, by decide +kernel⟩,
   ⟨passAt { matc with st := .running } run0, 255, { matc with st := .running }, run0, rfl, by decide +kernel⟩,
   ⟨passAt { matc with st := .running } { run0 with stage := .judged }, 255, { matc with st := .running },
     ({ run0 with stage := .judged } : PassRun), rfl, by decide +kernel⟩,
   ⟨passAt { mk5 1 0 0 0 0 (2 ^ 35 + 2 ^ 19) with st := .running } { run0 with stage := .judged }, 255,
     { mk5 1 0 0 0 0 (2 ^ 35 + 2 ^ 19) with st := .running }, ({ run0 with stage := .judged } : PassRun), rfl, by decide +kernel⟩,
   ⟨mrun autoc, 255, autoc, Ready.list autoReady.1, autoReady.2,
     (autoReady.2.readAll (streamUnit 255 autoc (bitOf (autoc.wd 5) 36)) (Ready.list autoReady.1)).1,
     (autoReady.2.readAll (streamUnit 255 autoc (bitOf (autoc.wd 5) 36)) (Ready.list autoReady.1)).2, rfl, by decide +kernel⟩⟩

/-- Obligations.CommitAdds: the hypotheses of its clauses can hold. -/
theorem witness_CommitAdds :
    (∃ run : PassRun, ∃ n : Nat, ∃ j : Nat, ∃ x : Int, ((∀ r ∈ run.buf, r.length ≤ 64)) ∧ (lget [] run.buf n)[j]? = some x) ∧
    (∃ run : PassRun, ∃ n : Nat, ∃ j : Nat, ((∀ r ∈ run.buf, r.length ≤ 64)) ∧ j < 64 ∧ (lget [] run.buf n)[j]? = none) :=
  ⟨⟨run0, 0, 0, (0 : Int), by decide +kernel⟩,
   ⟨run0, 0, 63, by decide +kernel⟩⟩

/-- Obligations.VerdictsAndDrains: the hypotheses of its clauses can hold. -/
theorem witness_VerdictsAndDrains :
    (∃ s : State, ∃ g : Nat, ∃ hits : List Upset, ∃ run : PassRun, ∃ c : Cmd, s.Settled ∧ g < 256 ∧ s.roomUp g = true ∧
      (s.room g).passRun = some run ∧ run.held = false ∧ run.buf ≠ [] ∧ run.stage = .streaming ∧
      s.cmd (g / 8) run.cmd = some c ∧ s.arrayInj g = none ∧ run.skipCol = false ∧ run.skipRow = false ∧ run.exec = 0 ∧
      mismatches (fmtClass c.wfmt) { run with buf := upsetBuf run.buf hits } = ([], [])) ∧
    (∃ s : State, ∃ g : Nat, ∃ hits : List Upset, ∃ run : PassRun, ∃ c : Cmd, ∃ rs, ∃ cs, s.Settled ∧ g < 256 ∧
      s.roomUp g = true ∧ (s.room g).passRun = some run ∧ run.held = false ∧ run.buf ≠ [] ∧ run.stage = .streaming ∧
      s.cmd (g / 8) run.cmd = some c ∧ s.arrayInj g = none ∧ run.skipCol = false ∧ run.skipRow = false ∧ run.exec = 0 ∧
      mismatches (fmtClass c.wfmt) { run with buf := upsetBuf run.buf hits } = (rs, cs) ∧ (rs, cs) ≠ ([], [])) ∧
    (∃ s : State, ∃ g : Nat, ∃ hits : List Upset, ∃ run : PassRun, ∃ c : Cmd, s.Settled ∧ g < 256 ∧ s.roomUp g = true ∧
      (s.room g).passRun = some run ∧ run.held = false ∧ run.buf ≠ [] ∧ run.stage = .streaming ∧
      s.cmd (g / 8) run.cmd = some c ∧ s.arrayInj g = none ∧ run.skipCol = false ∧ run.skipRow = false ∧ run.exec = 1 ∧
      mismatches (fmtClass c.wfmt) { run with buf := upsetBuf run.buf hits } = ([], [])) ∧
    (∃ s : State, ∃ g : Nat, ∃ hits : List Upset, ∃ run : PassRun, ∃ c : Cmd, ∃ rs, ∃ cs, s.Settled ∧ g < 256 ∧
      s.roomUp g = true ∧ (s.room g).passRun = some run ∧ run.held = false ∧ run.buf ≠ [] ∧ run.stage = .streaming ∧
      s.cmd (g / 8) run.cmd = some c ∧ s.arrayInj g = none ∧ run.skipCol = false ∧ run.skipRow = false ∧ run.exec = 1 ∧
      mismatches (fmtClass c.wfmt) { run with buf := upsetBuf run.buf hits } = (rs, cs) ∧ (rs, cs) ≠ ([], [])) ∧
    (∃ s : State, ∃ g : Nat, ∃ c : Cmd, s.Settled ∧ g < 256 ∧ s.headCmd g 0 3 = some c ∧ (s.room g).drainRun = none ∧
      ((s.room g).bank (c.f 4 1 0)).chain = false) ∧
    (∃ s : State, ∃ g : Nat, ∃ c : Cmd, s.Settled ∧ g < 256 ∧ s.headCmd g 0 3 = some c ∧ (s.room g).drainRun = none ∧
      ((s.room g).bank (c.f 4 1 0)).chain = true ∧ ((((s.room g).bank (c.f 4 1 0)).cls = 2 → c.region.2.2.1 + c.region.2.2.2 ≤ 32)) ∧
      c.toVec = true) ∧
    (∃ s : State, ∃ g : Nat, ∃ d : DrainRun, ∃ c : Cmd, s.Settled ∧ g < 256 ∧ s.roomUp g = true ∧
      (s.room g).drainRun = some d ∧ s.cmd (g / 8) d.cmd = some c ∧ c.toVec = true) ∧
    (∃ s : State, ∃ g : Nat, ∃ d : DrainRun, ∃ c : Cmd, ∃ l, ∃ s' : State, ∃ t, ∃ u, s.Settled ∧ g < 256 ∧ s.roomUp g = true ∧
      (s.room g).drainRun = some d ∧ s.cmd (g / 8) d.cmd = some c ∧ c.toVec = false ∧ (s.ready ⟨g, 4, 1, c, false,
      false⟩ ((groupItems c ((s.room g).bank (c.f 4 1 0)).w (32 * c.prog) (s.drainRows g c (32 * c.prog) (min 32 (c.region.2.1 - 32 * c.prog))).1).1.flatMap fun x => x.1.firsts x.2.length) false = (.go l, s')) ∧ s'.drainRows g c (32 * c.prog) (min 32 (c.region.2.1 - 32 * c.prog)) = (t, u)) ∧
    (∃ s : State, ∃ g : Nat, ∃ k : Nat, s.Settled ∧ g < 256 ∧ k < 3 ∧ s.roomUp g = true) ∧
    (∃ s : State, ∃ g : Nat, ∃ run : PassRun, ∃ c : Cmd, s.Settled ∧ g < 256 ∧ s.roomUp g = true ∧
      (s.room g).passRun = some run ∧ run.held = false ∧ run.buf ≠ [] ∧ run.stage = .streaming ∧
      s.cmd (g / 8) run.cmd = some c ∧ run.exec = 0 ∧ run.skipCol = true ∧ run.skipRow = true ∧ run.counted = false) ∧
    (∃ s : State, ∃ g : Nat, ∃ run : PassRun, ∃ c : Cmd, s.Settled ∧ g < 256 ∧ s.roomUp g = true ∧
      (s.room g).passRun = some run ∧ run.held = false ∧ run.buf ≠ [] ∧ run.stage = .streaming ∧
      s.cmd (g / 8) run.cmd = some c ∧ run.exec = 0 ∧ run.skipCol = true ∧ run.skipRow = true ∧ run.counted = true) ∧
    (∃ s : State, ∃ g : Nat, ∃ c : Cmd, s.Settled ∧ g < 256 ∧ s.headCmd g 0 3 = some c ∧ (s.room g).drainRun = none ∧
      ((s.room g).bank (c.f 4 1 0)).chain = true ∧ ((((s.room g).bank (c.f 4 1 0)).cls = 2 → c.region.2.2.1 + c.region.2.2.2 ≤ 32)) ∧
      (locOf (c.wd 1) 0).past (if c.tfmt = 0xC then 16 * (64 * (c.region.2.1 - 1) + c.region.2.2.2)
            else (c.region.2.2.2 - 1) * c.f 3 31 0 + c.region.2.1 * fmtBits c.tfmt / 8) = false ∧
      (c.mx = true → (locOf (c.wd 2) 0).past ((c.region.2.2.2 - 1) * c.f 3 44 32 + c.region.2.1 / 32) = false)) :=
  ⟨⟨passAt { matc with st := .running } run0, 255, [], run0, { matc with st := .running }, rfl, by decide +kernel⟩,
   ⟨passAt { matc with st := .running } run0, 255, [⟨0, 0, 65536⟩], run0, { matc with st := .running }, [0], [0], rfl,
     by decide +kernel⟩,
   ⟨passAt { matc with st := .running } { run0 with exec := 1 }, 255, [], { run0 with exec := 1 },
     { matc with st := .running }, rfl, by decide +kernel⟩,
   ⟨passAt { matc with st := .running } { run0 with exec := 1 }, 255, [⟨0, 0, 65536⟩], { run0 with exec := 1 },
     { matc with st := .running }, [0], [0], rfl, by decide +kernel⟩,
   ⟨engine (mk5 3 0 0 0 0 0) { Room.reset with mq := [1] }, 255, mk5 3 0 0 0 0 0, rfl, by decide +kernel⟩,
   ⟨engine (mk5 3 (2 ^ 62) 0 0 0 0) { Room.reset with mq := [1], bank0 := { Bank.reset with chain := true } }, 255,
     mk5 3 (2 ^ 62) 0 0 0 0, rfl, by decide +kernel⟩,
   ⟨drainAt (2 ^ 62), 255, (⟨1, 0, false⟩ : DrainRun), { mk5 3 (2 ^ 62) 0 0 0 0 with st := .running }, rfl, by decide +kernel⟩,
   ⟨drainAt (2 ^ 63), 255, (⟨1, 0, false⟩ : DrainRun), { mk5 3 (2 ^ 63) 0 0 0 0 with st := .running },
     Ready.list (drainReady (drainAt (2 ^ 63)) ({ mk5 3 (2 ^ 63) 0 0 0 0 with st := .running })).1,
     (drainReady (drainAt (2 ^ 63)) ({ mk5 3 (2 ^ 63) 0 0 0 0 with st := .running })).2,
     (((drainReady (drainAt (2 ^ 63)) ({ mk5 3 (2 ^ 63) 0 0 0 0 with st := .running })).2).drainRows 255 ({ mk5 3 (2 ^ 63) 0 0 0 0 with st := .running }) 0 1).1, (((drainReady (drainAt (2 ^ 63)) ({ mk5 3 (2 ^ 63) 0 0 0 0 with st := .running })).2).drainRows 255 ({ mk5 3 (2 ^ 63) 0 0 0 0 with st := .running }) 0 1).2, rfl, by decide +kernel⟩,
   ⟨base, 255, 2, rfl, by decide +kernel⟩,
   ⟨passAt { matc with st := .running } { run0 with skipCol := true, skipRow := true }, 255,
     ({ run0 with skipCol := true, skipRow := true } : PassRun), { matc with st := .running }, rfl, by decide +kernel⟩,
   ⟨passAt { matc with st := .running } { run0 with skipCol := true, skipRow := true, counted := true }, 255,
     ({ run0 with skipCol := true, skipRow := true, counted := true } : PassRun), { matc with st := .running }, rfl, by decide +kernel⟩,
   ⟨engine (mk5 3 (2 ^ 63) 0 0 0 0) { Room.reset with mq := [1], bank0 := { Bank.reset with chain := true } }, 255,
     mk5 3 (2 ^ 63) 0 0 0 0, rfl, by decide +kernel⟩⟩

/-- Obligations.TilesAndWindows: the hypotheses of its clauses can hold. -/
theorem witness_TilesAndWindows :
    (∃ r : Nat, ∃ c : Nat, ∃ r' : Nat, ∃ c' : Nat, r < 256 ∧ c < 256 ∧ r' < 256 ∧ c' < 256 ∧ tileOff r c = tileOff r' c') ∧
    (∃ w : Nat, ∃ l : List Nat, ∃ i : Nat, 0 < w ∧ i < l.length) ∧
    (∃ a : BitVec 128, ∃ b : BitVec 128, a ≠ narCode ∧ b ≠ narCode ∧ -maxP ≤ a.toInt + b.toInt ∧ a.toInt + b.toInt ≤ maxP) ∧
    (∃ a : BitVec 128, ∃ b : BitVec 128, a ≠ narCode ∧ b ≠ narCode ∧ maxP < a.toInt + b.toInt) ∧
    (∃ w : Int, ∃ e : Int, 0 ≤ e + 127 - w) :=
  ⟨⟨255, 255, 255, 255, by decide +kernel⟩,
   ⟨3, [1, 15], 1, by decide +kernel⟩,
   ⟨3#128, BitVec.ofInt 128 (-4), by decide +kernel⟩,
   ⟨BitVec.ofInt 128 maxP, 1#128, by decide +kernel⟩,
   ⟨32, -95, by decide +kernel⟩⟩

/-- Obligations.CopyUnit: the hypotheses of its clauses can hold. -/
theorem witness_CopyUnit :
    (∃ s : State, ∃ g : Nat, ∃ c : Cmd, s.Settled ∧ g < 256 ∧ s.headCmd g 2 0x20 = some c ∧ c.pos = 0 ∧
      (copyOver c = true ∨ s.bothAway c = true)) ∧
    (∃ s : State, ∃ g : Nat, ∃ c : Cmd, s.Settled ∧ g < 256 ∧ s.headCmd g 2 0x20 = some c ∧
      (c.pos ≠ 0 ∨ (copyOver c = false ∧ s.bothAway c = false)) ∧ (c.deadline = none ∨ c.st ≠ .issued)) ∧
    (∃ s : State, ∃ g : Nat, ∃ c : Cmd, s.Settled ∧ g < 256 ∧ s.headCmd g 2 0x21 = some c ∧ c.pos = 0 ∧
      (locOf (c.wd 1) 0).past (c.f 3 31 0) = true) ∧
    (∃ s : State, ∃ g : Nat, ∃ c : Cmd, s.Settled ∧ g < 256 ∧ s.headCmd g 2 0x21 = some c ∧
      (locOf (c.wd 1) 0).past (c.f 3 31 0) = false) ∧
    (∃ s : State, ∃ g : Nat, ∃ c : Cmd, s.Settled ∧ g < 256 ∧ s.headCmd g 2 0x22 = some c ∧ c.deadline = none) ∧
    (∃ s : State, ∃ g : Nat, ∃ c : Cmd, s.Settled ∧ g < 256 ∧ s.headCmd g 2 0x23 = some c ∧ c.busy = false) ∧
    (∃ s : State, ∃ g : Nat, ∃ c : Cmd, ∃ t : Nat, ∃ s' : State, s.Settled ∧ g < 256 ∧ s.headCmd g 2 0x23 = some c ∧
      c.busy = true ∧ s.tileAt g c c.pos = (.tile t, s')) ∧
    (∃ s : State, ∃ g : Nat, ∃ c : Cmd, ∃ d, s.Settled ∧ g < 256 ∧ s.roomUp g = true ∧ s.engineHead g 0 = some c ∧
      c.deadline = some d ∧ c.op = 1 ∧ c.st = .issued) ∧
    (∃ s : State, ∃ g : Nat, ∃ c : Cmd, ∃ d, s.Settled ∧ g < 256 ∧ s.roomUp g = true ∧ s.engineHead g 2 = some c ∧
      c.deadline = some d ∧ c.op = 0x20 ∧ c.st = .issued) ∧
    (∃ s : State, ∃ g : Nat, ∃ c : Cmd, ∃ d, s.Settled ∧ g < 256 ∧ s.roomUp g = true ∧ s.engineHead g 2 = some c ∧
      c.deadline = some d ∧ c.op = 0x22) ∧
    (∃ s : State, ∃ g : Nat, ∃ c : Cmd, ∃ d, s.Settled ∧ g < 256 ∧ s.roomUp g = true ∧ s.engineHead g 0 = some c ∧
      c.deadline = some d ∧ c.op = 2 ∧ c.st = .issued) :=
  ⟨⟨crun (mk5 0x20 (2 ^ 63 + 2 ^ 21 - 1) 0 0 2 0), 255, mk5 0x20 (2 ^ 63 + 2 ^ 21 - 1) 0 0 2 0, rfl, by decide +kernel⟩,
   ⟨crun (mk5 0x20 (2 ^ 63) (2 ^ 63 + 4096) 0 2 0), 255, mk5 0x20 (2 ^ 63) (2 ^ 63 + 4096) 0 2 0, rfl, by decide +kernel⟩,
   ⟨crun (mk5 0x21 (2 ^ 63 + 2 ^ 21 - 1) 0 2 0 0), 255, mk5 0x21 (2 ^ 63 + 2 ^ 21 - 1) 0 2 0 0, rfl, by decide +kernel⟩,
   ⟨crun (mk5 0x21 (2 ^ 63) 0x1000000000 16 0 0), 255, mk5 0x21 (2 ^ 63) 0x1000000000 16 0 0, rfl, by decide +kernel⟩,
   ⟨crun (mk5 0x22 0x200000000000 0 0 0 0), 255, mk5 0x22 0x200000000000 0 0 0 0, rfl, by decide +kernel⟩,
   ⟨crun (mk5 0x23 0x200000000000 0 0 0 0), 255, mk5 0x23 0x200000000000 0 0 0 0, rfl, by decide +kernel⟩,
   ⟨tierOn (crun relc), 255, relc, 0, ((tierOn (crun relc)).tileAt 255 relc 0).2, rfl, by decide +kernel⟩,
   ⟨mrun (mk5 1 0 0 (2 ^ 64 - 1) 0 0), 255, mk5 1 0 0 (2 ^ 64 - 1) 0 0, 2 ^ 64 - 1, rfl, by decide +kernel⟩,
   ⟨crun (mk5 0x20 0 0 (2 ^ 64 - 1) 0 0), 255, mk5 0x20 0 0 (2 ^ 64 - 1) 0 0, 2 ^ 64 - 1, rfl, by decide +kernel⟩,
   ⟨crun (mk5 0x22 0 0 (2 ^ 64 - 1) 0 0), 255, mk5 0x22 0 0 (2 ^ 64 - 1) 0 0, 2 ^ 64 - 1, rfl, by decide +kernel⟩,
   ⟨mrun (mk5 2 0 0 (2 ^ 64 - 1) 0 0), 255, mk5 2 0 0 (2 ^ 64 - 1) 0 0, 2 ^ 64 - 1, rfl, by decide +kernel⟩⟩

/-- Obligations.CopyParts: the hypotheses of its clauses can hold. -/
theorem witness_CopyParts :
    (∃ a : Nat, ∃ b : Nat, ∃ f : Nat, ∃ p : Piece, ∃ q : Piece, q ∈ splitPiece a b f p) ∧
    (∃ f : Nat, ∃ p : Piece, 2 * p.n / 4096 + 4 ≤ f) :=
  ⟨⟨4095, 1, 9, (⟨0, 0, 8192⟩ : Piece), (⟨0, 0, 1⟩ : Piece), by decide +kernel⟩,
   ⟨8, (⟨0, 0, 8192⟩ : Piece), by decide +kernel⟩⟩

/-- Obligations.VectorIntegers: the hypotheses of its clauses can hold. -/
theorem witness_VectorIntegers :
    (∃ s : State, ∃ g : Nat, ∃ e : VEngine, ∃ x, s.Settled ∧ g < 256 ∧ s.ve g = e ∧ s.issues g (encodeV 0x00#8 x) = true) ∧
    (∃ s : State, ∃ g : Nat, ∃ e : VEngine, ∃ x, s.Settled ∧ g < 256 ∧ s.ve g = e ∧ s.issues g (encodeV 0x06#8 x) = true) ∧
    (∃ s : State, ∃ g : Nat, ∃ e : VEngine, ∃ x, s.Settled ∧ g < 256 ∧ s.ve g = e ∧ s.issues g (encodeV 0x07#8 x) = true) ∧
    (∃ s : State, ∃ g : Nat, ∃ e : VEngine, ∃ x, s.Settled ∧ g < 256 ∧ s.ve g = e ∧ s.issues g (encodeV 0x08#8 x) = true) ∧
    (∃ s : State, ∃ g : Nat, ∃ e : VEngine, ∃ x, s.Settled ∧ g < 256 ∧ s.ve g = e ∧ s.issues g (encodeV 0x0A#8 x) = true) ∧
    (∃ s : State, ∃ g : Nat, ∃ e : VEngine, ∃ x, s.Settled ∧ g < 256 ∧ s.ve g = e ∧ s.issues g (encodeV 0x09#8 x) = true) ∧
    (∃ s : State, ∃ g : Nat, ∃ e : VEngine, ∃ x, s.Settled ∧ g < 256 ∧ s.ve g = e ∧ s.issues g (encodeV 0x0B#8 x) = true) ∧
    (∃ s : State, ∃ g : Nat, ∃ e : VEngine, ∃ x, s.Settled ∧ g < 256 ∧ s.ve g = e ∧ s.issues g (encodeV 0x0C#8 x) = true) ∧
    (∃ s : State, ∃ g : Nat, ∃ e : VEngine, ∃ x, s.Settled ∧ g < 256 ∧ s.ve g = e ∧ s.issues g (encodeV 0x0D#8 x) = true) ∧
    (∃ s : State, ∃ g : Nat, ∃ e : VEngine, ∃ x, s.Settled ∧ g < 256 ∧ s.ve g = e ∧ s.issues g (encodeV 0x0E#8 x) = true) ∧
    (∃ s : State, ∃ g : Nat, ∃ e : VEngine, ∃ x, s.Settled ∧ g < 256 ∧ s.ve g = e ∧ s.issues g (encodeV 0x0F#8 x) = true) ∧
    (∃ s : State, ∃ g : Nat, ∃ e : VEngine, ∃ x, s.Settled ∧ g < 256 ∧ s.ve g = e ∧ s.issues g (encodeJ 0x10#8 x) = true) ∧
    (∃ s : State, ∃ g : Nat, ∃ e : VEngine, ∃ x, s.Settled ∧ g < 256 ∧ s.ve g = e ∧ s.issues g (encodeJ 0x11#8 x) = true) ∧
    (∃ s : State, ∃ g : Nat, ∃ e : VEngine, ∃ x, s.Settled ∧ g < 256 ∧ s.ve g = e ∧ s.issues g (encodeJ 0x12#8 x) = true) ∧
    (∃ s : State, ∃ g : Nat, ∃ e : VEngine, ∃ x, s.Settled ∧ g < 256 ∧ s.ve g = e ∧ s.issues g (encodeV 0x31#8 x) = true) ∧
    (∃ s : State, ∃ g : Nat, ∃ e : VEngine, ∃ x, s.Settled ∧ g < 256 ∧ s.ve g = e ∧ s.issues g (encodeV 0x32#8 x) = true) ∧
    (∃ s : State, ∃ g : Nat, ∃ e : VEngine, ∃ x, s.Settled ∧ g < 256 ∧ s.ve g = e ∧ s.issues g (encodeV 0x33#8 x) = true) ∧
    (∃ s : State, ∃ g : Nat, ∃ e : VEngine, ∃ x, s.Settled ∧ g < 256 ∧ s.ve g = e ∧ s.issues g (encodeV 0x34#8 x) = true) ∧
    (∃ s : State, ∃ g : Nat, ∃ e : VEngine, ∃ x, s.Settled ∧ g < 256 ∧ s.ve g = e ∧ s.issues g (encodeV 0x35#8 x) = true) ∧
    (∃ s : State, ∃ g : Nat, ∃ e : VEngine, ∃ x, s.Settled ∧ g < 256 ∧ s.ve g = e ∧ s.issues g (encodeV 0x36#8 x) = true) ∧
    (∃ s : State, ∃ g : Nat, ∃ e : VEngine, ∃ x, s.Settled ∧ g < 256 ∧ s.ve g = e ∧ s.issues g (encodeV 0x37#8 x) = true) ∧
    (∃ s : State, ∃ g : Nat, ∃ e : VEngine, ∃ x, s.Settled ∧ g < 256 ∧ s.ve g = e ∧ s.issues g (encodeV 0x38#8 x) = true) ∧
    (∃ s : State, ∃ g : Nat, ∃ e : VEngine, ∃ x, s.Settled ∧ g < 256 ∧ s.ve g = e ∧ s.issues g (encodeV 0x39#8 x) = true) ∧
    (∃ s : State, ∃ g : Nat, ∃ e : VEngine, ∃ x, s.Settled ∧ g < 256 ∧ s.ve g = e ∧ s.issues g (encodeV 0x2B#8 x) = true) ∧
    (∃ s : State, ∃ g : Nat, ∃ e : VEngine, ∃ x, s.Settled ∧ g < 256 ∧ s.ve g = e ∧ s.issues g (encodeV 0x3A#8 x) = true) ∧
    (∃ s : State, ∃ g : Nat, ∃ e : VEngine, ∃ x, s.Settled ∧ g < 256 ∧ s.ve g = e ∧ s.issues g (encodeV 0x3B#8 x) = true) ∧
    (∃ s : State, ∃ g : Nat, ∃ e : VEngine, ∃ x, s.Settled ∧ g < 256 ∧ s.ve g = e ∧ s.issues g (encodeV 0x3C#8 x) = true) ∧
    (∃ s : State, ∃ g : Nat, ∃ e : VEngine, ∃ x, s.Settled ∧ g < 256 ∧ s.ve g = e ∧ s.issues g (encodeV 0x3D#8 x) = true) :=
  ⟨⟨vrun (encodeV 0x00#8 (vf)), 255, (vrun (encodeV 0x00#8 (vf))).ve 255, vf, rfl, by decide +kernel⟩,
   ⟨vrun (encodeV 0x06#8 (vf)), 255, (vrun (encodeV 0x06#8 (vf))).ve 255, vf, rfl, by decide +kernel⟩,
   ⟨vrun (encodeV 0x07#8 (vf)), 255, (vrun (encodeV 0x07#8 (vf))).ve 255, vf, rfl, by decide +kernel⟩,
   ⟨vrun (encodeV 0x08#8 (vf)), 255, (vrun (encodeV 0x08#8 (vf))).ve 255, vf, rfl, by decide +kernel⟩,
   ⟨vrun (encodeV 0x0A#8 (vf)), 255, (vrun (encodeV 0x0A#8 (vf))).ve 255, vf, rfl, by decide +kernel⟩,
   ⟨vrun (encodeV 0x09#8 (vf)), 255, (vrun (encodeV 0x09#8 (vf))).ve 255, vf, rfl, by decide +kernel⟩,
   ⟨vrun (encodeV 0x0B#8 (vf)), 255, (vrun (encodeV 0x0B#8 (vf))).ve 255, vf, rfl, by decide +kernel⟩,
   ⟨vrun (encodeV 0x0C#8 (vf)), 255, (vrun (encodeV 0x0C#8 (vf))).ve 255, vf, rfl, by decide +kernel⟩,
   ⟨vrun (encodeV 0x0D#8 (vf)), 255, (vrun (encodeV 0x0D#8 (vf))).ve 255, vf, rfl, by decide +kernel⟩,
   ⟨vrun (encodeV 0x0E#8 (vf)), 255, (vrun (encodeV 0x0E#8 (vf))).ve 255, vf, rfl, by decide +kernel⟩,
   ⟨vrun (encodeV 0x0F#8 (vf)), 255, (vrun (encodeV 0x0F#8 (vf))).ve 255, vf, rfl, by decide +kernel⟩,
   ⟨vrun (encodeJ 0x10#8 (jf)), 255, (vrun (encodeJ 0x10#8 (jf))).ve 255, jf, rfl, by decide +kernel⟩,
   ⟨vrun (encodeJ 0x11#8 (jf)), 255, (vrun (encodeJ 0x11#8 (jf))).ve 255, jf, rfl, by decide +kernel⟩,
   ⟨vrun (encodeJ 0x12#8 (jf)), 255, (vrun (encodeJ 0x12#8 (jf))).ve 255, jf, rfl, by decide +kernel⟩,
   ⟨vrun (encodeV 0x31#8 (vf)), 255, (vrun (encodeV 0x31#8 (vf))).ve 255, vf, rfl, by decide +kernel⟩,
   ⟨vrun (encodeV 0x32#8 (vf)), 255, (vrun (encodeV 0x32#8 (vf))).ve 255, vf, rfl, by decide +kernel⟩,
   ⟨vrun (encodeV 0x33#8 (vf)), 255, (vrun (encodeV 0x33#8 (vf))).ve 255, vf, rfl, by decide +kernel⟩,
   ⟨vrun (encodeV 0x34#8 (vf)), 255, (vrun (encodeV 0x34#8 (vf))).ve 255, vf, rfl, by decide +kernel⟩,
   ⟨vrun (encodeV 0x35#8 (vf)), 255, (vrun (encodeV 0x35#8 (vf))).ve 255, vf, rfl, by decide +kernel⟩,
   ⟨vrun (encodeV 0x36#8 (vf)), 255, (vrun (encodeV 0x36#8 (vf))).ve 255, vf, rfl, by decide +kernel⟩,
   ⟨vrun (encodeV 0x37#8 (vf)), 255, (vrun (encodeV 0x37#8 (vf))).ve 255, vf, rfl, by decide +kernel⟩,
   ⟨vrun (encodeV 0x38#8 (vf)), 255, (vrun (encodeV 0x38#8 (vf))).ve 255, vf, rfl, by decide +kernel⟩,
   ⟨vrun (encodeV 0x39#8 (vf)), 255, (vrun (encodeV 0x39#8 (vf))).ve 255, vf, rfl, by decide +kernel⟩,
   ⟨vrun (encodeV 0x2B#8 (vf)), 255, (vrun (encodeV 0x2B#8 (vf))).ve 255, vf, rfl, by decide +kernel⟩,
   ⟨vrun (encodeV 0x3A#8 (vf)), 255, (vrun (encodeV 0x3A#8 (vf))).ve 255, vf, rfl, by decide +kernel⟩,
   ⟨vrun (encodeV 0x3B#8 (vf)), 255, (vrun (encodeV 0x3B#8 (vf))).ve 255, vf, rfl, by decide +kernel⟩,
   ⟨vrun (encodeV 0x3C#8 (vf)), 255, (vrun (encodeV 0x3C#8 (vf))).ve 255, vf, rfl, by decide +kernel⟩,
   ⟨vrun (encodeV 0x3D#8 (vf)), 255, (vrun (encodeV 0x3D#8 (vf))).ve 255, vf, rfl, by decide +kernel⟩⟩

/-- Obligations.VectorFloats: the hypotheses of its clauses can hold. -/
theorem witness_VectorFloats :
    (∃ s : State, ∃ g : Nat, ∃ e : VEngine, ∃ x, s.Settled ∧ g < 256 ∧ s.ve g = e ∧ s.issues g (encodeV 0x20#8 x) = true) ∧
    (∃ s : State, ∃ g : Nat, ∃ e : VEngine, ∃ x, s.Settled ∧ g < 256 ∧ s.ve g = e ∧ s.issues g (encodeV 0x21#8 x) = true) ∧
    (∃ s : State, ∃ g : Nat, ∃ e : VEngine, ∃ x, s.Settled ∧ g < 256 ∧ s.ve g = e ∧ s.issues g (encodeV 0x22#8 x) = true) ∧
    (∃ s : State, ∃ g : Nat, ∃ e : VEngine, ∃ x, s.Settled ∧ g < 256 ∧ s.ve g = e ∧ s.issues g (encodeV 0x23#8 x) = true) ∧
    (∃ s : State, ∃ g : Nat, ∃ e : VEngine, ∃ x, s.Settled ∧ g < 256 ∧ s.ve g = e ∧ s.issues g (encodeV 0x24#8 x) = true) ∧
    (∃ s : State, ∃ g : Nat, ∃ e : VEngine, ∃ x, s.Settled ∧ g < 256 ∧ s.ve g = e ∧ s.issues g (encodeV 0x25#8 x) = true) ∧
    (∃ s : State, ∃ g : Nat, ∃ e : VEngine, ∃ x, s.Settled ∧ g < 256 ∧ s.ve g = e ∧ s.issues g (encodeV 0x28#8 x) = true) ∧
    (∃ s : State, ∃ g : Nat, ∃ e : VEngine, ∃ x, s.Settled ∧ g < 256 ∧ s.ve g = e ∧ s.issues g (encodeV 0x29#8 x) = true) ∧
    (∃ s : State, ∃ g : Nat, ∃ e : VEngine, ∃ x, s.Settled ∧ g < 256 ∧ s.ve g = e ∧ s.issues g (encodeV 0x2A#8 x) = true) ∧
    (∃ s : State, ∃ g : Nat, ∃ e : VEngine, ∃ x, s.Settled ∧ g < 256 ∧ s.ve g = e ∧ s.issues g (encodeV 0x2E#8 x) = true) ∧
    (∃ s : State, ∃ g : Nat, ∃ e : VEngine, ∃ x, s.Settled ∧ g < 256 ∧ s.ve g = e ∧ s.issues g (encodeV 0x2F#8 x) = true) ∧
    (∃ s : State, ∃ g : Nat, ∃ e : VEngine, ∃ x, s.Settled ∧ g < 256 ∧ s.ve g = e ∧ s.issues g (encodeV 0x30#8 x) = true) ∧
    (∃ s : State, ∃ g : Nat, ∃ e : VEngine, ∃ x, s.Settled ∧ g < 256 ∧ s.ve g = e ∧ s.issues g (encodeV 0x40#8 x) = true) ∧
    (∃ s : State, ∃ g : Nat, ∃ e : VEngine, ∃ x, s.Settled ∧ g < 256 ∧ s.ve g = e ∧ s.issues g (encodeV 0x41#8 x) = true) ∧
    (∃ s : State, ∃ g : Nat, ∃ e : VEngine, ∃ x, s.Settled ∧ g < 256 ∧ s.ve g = e ∧ s.issues g (encodeV 0x42#8 x) = true) ∧
    (∃ s : State, ∃ g : Nat, ∃ e : VEngine, ∃ x, s.Settled ∧ g < 256 ∧ s.ve g = e ∧ s.issues g (encodeV 0x43#8 x) = true) ∧
    (∃ s : State, ∃ g : Nat, ∃ e : VEngine, ∃ x, s.Settled ∧ g < 256 ∧ s.ve g = e ∧ s.issues g (encodeV 0x44#8 x) = true) ∧
    (∃ s : State, ∃ g : Nat, ∃ e : VEngine, ∃ x, s.Settled ∧ g < 256 ∧ s.ve g = e ∧ s.issues g (encodeV 0x45#8 x) = true) ∧
    (∃ s : State, ∃ g : Nat, ∃ e : VEngine, ∃ x, s.Settled ∧ g < 256 ∧ s.ve g = e ∧ s.issues g (encodeV 0x48#8 x) = true) ∧
    (∃ s : State, ∃ g : Nat, ∃ e : VEngine, ∃ x, s.Settled ∧ g < 256 ∧ s.ve g = e ∧ s.issues g (encodeV 0x49#8 x) = true) ∧
    (∃ s : State, ∃ g : Nat, ∃ e : VEngine, ∃ x, s.Settled ∧ g < 256 ∧ s.ve g = e ∧ s.issues g (encodeV 0x4A#8 x) = true) ∧
    (∃ s : State, ∃ g : Nat, ∃ e : VEngine, ∃ x, s.Settled ∧ g < 256 ∧ s.ve g = e ∧ s.issues g (encodeV 0x4B#8 x) = true) ∧
    (∃ s : State, ∃ g : Nat, ∃ e : VEngine, ∃ x, s.Settled ∧ g < 256 ∧ s.ve g = e ∧ s.issues g (encodeV 0x50#8 x) = true) ∧
    (∃ s : State, ∃ g : Nat, ∃ e : VEngine, ∃ x, s.Settled ∧ g < 256 ∧ s.ve g = e ∧ s.issues g (encodeV 0x51#8 x) = true) ∧
    (∃ s : State, ∃ g : Nat, ∃ e : VEngine, ∃ x, s.Settled ∧ g < 256 ∧ s.ve g = e ∧ s.issues g (encodeV 0x52#8 x) = true) ∧
    (∃ s : State, ∃ g : Nat, ∃ e : VEngine, ∃ x, s.Settled ∧ g < 256 ∧ s.ve g = e ∧ s.issues g (encodeV 0x53#8 x) = true) ∧
    (∃ s : State, ∃ g : Nat, ∃ e : VEngine, ∃ x, s.Settled ∧ g < 256 ∧ s.ve g = e ∧ s.issues g (encodeV 0x54#8 x) = true) :=
  ⟨⟨vrun (encodeV 0x20#8 (vf)), 255, (vrun (encodeV 0x20#8 (vf))).ve 255, vf, rfl, by decide +kernel⟩,
   ⟨vrun (encodeV 0x21#8 (vf)), 255, (vrun (encodeV 0x21#8 (vf))).ve 255, vf, rfl, by decide +kernel⟩,
   ⟨vrun (encodeV 0x22#8 (vf)), 255, (vrun (encodeV 0x22#8 (vf))).ve 255, vf, rfl, by decide +kernel⟩,
   ⟨vrun (encodeV 0x23#8 (vf)), 255, (vrun (encodeV 0x23#8 (vf))).ve 255, vf, rfl, by decide +kernel⟩,
   ⟨vrun (encodeV 0x24#8 (vf)), 255, (vrun (encodeV 0x24#8 (vf))).ve 255, vf, rfl, by decide +kernel⟩,
   ⟨vrun (encodeV 0x25#8 (vf)), 255, (vrun (encodeV 0x25#8 (vf))).ve 255, vf, rfl, by decide +kernel⟩,
   ⟨vrun (encodeV 0x28#8 (vf)), 255, (vrun (encodeV 0x28#8 (vf))).ve 255, vf, rfl, by decide +kernel⟩,
   ⟨vrun (encodeV 0x29#8 (vf)), 255, (vrun (encodeV 0x29#8 (vf))).ve 255, vf, rfl, by decide +kernel⟩,
   ⟨vrun (encodeV 0x2A#8 (vf)), 255, (vrun (encodeV 0x2A#8 (vf))).ve 255, vf, rfl, by decide +kernel⟩,
   ⟨vrun (encodeV 0x2E#8 (vf)), 255, (vrun (encodeV 0x2E#8 (vf))).ve 255, vf, rfl, by decide +kernel⟩,
   ⟨vrun (encodeV 0x2F#8 (vf)), 255, (vrun (encodeV 0x2F#8 (vf))).ve 255, vf, rfl, by decide +kernel⟩,
   ⟨vrun (encodeV 0x30#8 (vf)), 255, (vrun (encodeV 0x30#8 (vf))).ve 255, vf, rfl, by decide +kernel⟩,
   ⟨vrun (encodeV 0x40#8 (vf)), 255, (vrun (encodeV 0x40#8 (vf))).ve 255, vf, rfl, by decide +kernel⟩,
   ⟨vrun (encodeV 0x41#8 (vf)), 255, (vrun (encodeV 0x41#8 (vf))).ve 255, vf, rfl, by decide +kernel⟩,
   ⟨vrun (encodeV 0x42#8 (vf)), 255, (vrun (encodeV 0x42#8 (vf))).ve 255, vf, rfl, by decide +kernel⟩,
   ⟨vrun (encodeV 0x43#8 (vf)), 255, (vrun (encodeV 0x43#8 (vf))).ve 255, vf, rfl, by decide +kernel⟩,
   ⟨vrun (encodeV 0x44#8 (vf)), 255, (vrun (encodeV 0x44#8 (vf))).ve 255, vf, rfl, by decide +kernel⟩,
   ⟨vrun (encodeV 0x45#8 (vf)), 255, (vrun (encodeV 0x45#8 (vf))).ve 255, vf, rfl, by decide +kernel⟩,
   ⟨vrun (encodeV 0x48#8 (vf)), 255, (vrun (encodeV 0x48#8 (vf))).ve 255, vf, rfl, by decide +kernel⟩,
   ⟨vrun (encodeV 0x49#8 (vf)), 255, (vrun (encodeV 0x49#8 (vf))).ve 255, vf, rfl, by decide +kernel⟩,
   ⟨vrun (encodeV 0x4A#8 (vf)), 255, (vrun (encodeV 0x4A#8 (vf))).ve 255, vf, rfl, by decide +kernel⟩,
   ⟨vrun (encodeV 0x4B#8 (vf)), 255, (vrun (encodeV 0x4B#8 (vf))).ve 255, vf, rfl, by decide +kernel⟩,
   ⟨vrun (encodeV 0x50#8 (vf)), 255, (vrun (encodeV 0x50#8 (vf))).ve 255, vf, rfl, by decide +kernel⟩,
   ⟨vrun (encodeV 0x51#8 (vf)), 255, (vrun (encodeV 0x51#8 (vf))).ve 255, vf, rfl, by decide +kernel⟩,
   ⟨vrun (encodeV 0x52#8 (vf)), 255, (vrun (encodeV 0x52#8 (vf))).ve 255, vf, rfl, by decide +kernel⟩,
   ⟨vrun (encodeV 0x53#8 (vf)), 255, (vrun (encodeV 0x53#8 (vf))).ve 255, vf, rfl, by decide +kernel⟩,
   ⟨vrun (encodeV 0x54#8 (vf)), 255, (vrun (encodeV 0x54#8 (vf))).ve 255, vf, rfl, by decide +kernel⟩⟩

/-- Obligations.VectorControl: the hypotheses of its clauses can hold. -/
theorem witness_VectorControl :
    (∃ s : State, ∃ g : Nat, ∃ c : Cmd, s.Settled ∧ g < 256 ∧ s.headCmd g 1 0x10 = some c ∧ (s.ve g).running = false ∧
      larderSize < c.f 1 20 0 + 8 * c.f 1 44 32) ∧
    (∃ s : State, ∃ g : Nat, ∃ c : Cmd, ∃ bs, ∃ s' : State, s.Settled ∧ g < 256 ∧ s.headCmd g 1 0x10 = some c ∧
      (s.ve g).running = false ∧ c.f 1 20 0 + 8 * c.f 1 44 32 ≤ larderSize ∧
      s.larderRead g (vectorWho g 4 c.ctx) (c.f 1 20 0) (8 * c.f 1 44 32) = (bs, s') ∧ (bs.any (fun b => b.2) = true)) ∧
    (∃ s : State, ∃ g : Nat, ∃ c : Cmd, ∃ bs, ∃ s' : State, s.Settled ∧ g < 256 ∧ s.headCmd g 1 0x10 = some c ∧
      (s.ve g).running = false ∧ c.f 1 20 0 + 8 * c.f 1 44 32 ≤ larderSize ∧
      s.larderRead g (vectorWho g 4 c.ctx) (c.f 1 20 0) (8 * c.f 1 44 32) = (bs, s') ∧ (bs.any (fun b => b.2) = false) ∧
      (programOk (s.levelOf (s.suiteOfDie (g / 64))) (wordsOfBytes (bs.map fun b => b.1)) = false)) ∧
    (∃ s : State, ∃ g : Nat, ∃ c : Cmd, ∃ bs, ∃ s' : State, s.Settled ∧ g < 256 ∧ s.headCmd g 1 0x10 = some c ∧
      (s.ve g).running = false ∧ c.f 1 20 0 + 8 * c.f 1 44 32 ≤ larderSize ∧
      s.larderRead g (vectorWho g 4 c.ctx) (c.f 1 20 0) (8 * c.f 1 44 32) = (bs, s') ∧ (bs.any (fun b => b.2) = false) ∧
      (programOk (s.levelOf (s.suiteOfDie (g / 64))) (wordsOfBytes (bs.map fun b => b.1)) = true)) ∧
    (∃ s : State, ∃ g : Nat, ∃ c : Cmd, ∃ x, s.Settled ∧ g < 256 ∧ s.issues g (encodeV 0x01#8 x) = true ∧ s.vcmd g = some c ∧
      bitOf c.vfl.toNat 5 = false) ∧
    (∃ s : State, ∃ g : Nat, ∃ c : Cmd, ∃ x, s.Settled ∧ g < 256 ∧ s.issues g (encodeV 0x01#8 x) = true ∧ s.vcmd g = some c ∧
      bitOf c.vfl.toNat 5 = true) ∧
    (∃ s : State, ∃ g : Nat, ∃ c : Cmd, ∃ x, s.Settled ∧ g < 256 ∧ s.issues g (encodeV 0x02#8 x) = true ∧ s.vcmd g = some c) ∧
    (∃ s : State, ∃ g : Nat, ∃ c : Cmd, ∃ x, s.Settled ∧ g < 256 ∧ s.issues g (encodeV 0x03#8 x) = true ∧ s.vcmd g = some c ∧
      (s.ve g).sbad x.a.toNat = false ∧ ((s.ve g).sreg x.a.toNat).toNat ≠ 0 ∧ fld x.imm.toNat 11 0 ≠ 0) ∧
    (∃ s : State, ∃ g : Nat, ∃ c : Cmd, ∃ x, s.Settled ∧ g < 256 ∧ s.issues g (encodeV 0x03#8 x) = true ∧ s.vcmd g = some c ∧
      (s.ve g).sbad x.a.toNat = false ∧ ((s.ve g).sreg x.a.toNat).toNat = 0) ∧
    (∃ s : State, ∃ g : Nat, ∃ c : Cmd, ∃ x, s.Settled ∧ g < 256 ∧ s.issues g (encodeV 0x04#8 x) = true ∧ s.vcmd g = some c ∧
      (s.ve g).sbad x.a.toNat = false ∧ (s.ve g).sbad x.b.toNat = false ∧
      brTaken x.ty.toNat ((s.ve g).sreg x.a.toNat) ((s.ve g).sreg x.b.toNat) = true) ∧
    (∃ s : State, ∃ g : Nat, ∃ c : Cmd, ∃ x, s.Settled ∧ g < 256 ∧ s.issues g (encodeV 0x04#8 x) = true ∧ s.vcmd g = some c ∧
      (s.ve g).sbad x.a.toNat = false ∧ (s.ve g).sbad x.b.toNat = false ∧
      brTaken x.ty.toNat ((s.ve g).sreg x.a.toNat) ((s.ve g).sreg x.b.toNat) = false) ∧
    (∃ s : State, ∃ g : Nat, ∃ c : Cmd, ∃ x, s.Settled ∧ g < 256 ∧ s.issues g (encodeV 0x03#8 x) = true ∧ s.vcmd g = some c ∧
      (s.ve g).sbad x.a.toNat = true) ∧
    (∃ s : State, ∃ g : Nat, ∃ c : Cmd, ∃ x, s.Settled ∧ g < 256 ∧ s.issues g (encodeV 0x05#8 x) = true ∧ s.vcmd g = some c) :=
  ⟨⟨crunV (mk5 0x10 (2 ^ 21 - 1 + 2 ^ 32) 0 0 0 0), 255, mk5 0x10 (2 ^ 21 - 1 + 2 ^ 32) 0 0 0 0, rfl, by decide +kernel⟩,
   ⟨engine (mk5 0x10 (2 ^ 32) 0 0 0 0) (psnLarder { Room.reset with vq := [1] }), 255, mk5 0x10 (2 ^ 32) 0 0 0 0,
     ((engine (mk5 0x10 (2 ^ 32) 0 0 0 0) (psnLarder { Room.reset with vq := [1] })).larderRead 255 (vectorWho 255 4 (mk5 0x10 (2 ^ 32) 0 0 0 0).ctx) 0 8).1, ((engine (mk5 0x10 (2 ^ 32) 0 0 0 0) (psnLarder { Room.reset with vq := [1] })).larderRead 255 (vectorWho 255 4 (mk5 0x10 (2 ^ 32) 0 0 0 0).ctx) 0 8).2, rfl, by decide +kernel⟩,
   ⟨engine (mk5 0x10 (2 ^ 32) 0 0 0 0) { Room.reset with vq := [1], larder := [(0, 0xFF#8), (7, 0xFF#8)] }, 255,
     mk5 0x10 (2 ^ 32) 0 0 0 0,
     ((engine (mk5 0x10 (2 ^ 32) 0 0 0 0) { Room.reset with vq := [1], larder := [(0, 0xFF#8), (7, 0xFF#8)] }).larderRead 255 (vectorWho 255 4 (mk5 0x10 (2 ^ 32) 0 0 0 0).ctx) 0 8).1, ((engine (mk5 0x10 (2 ^ 32) 0 0 0 0) { Room.reset with vq := [1], larder := [(0, 0xFF#8), (7, 0xFF#8)] }).larderRead 255 (vectorWho 255 4 (mk5 0x10 (2 ^ 32) 0 0 0 0).ctx) 0 8).2, rfl, by decide +kernel⟩,
   ⟨engine (mk5 0x10 (2 ^ 32) 0 0 0 0) { Room.reset with vq := [1], larder := cellsRun 0 (toBytes 8 (encodeV 0x01#8 (decodeV 0)).toNat) }, 255, mk5 0x10 (2 ^ 32) 0 0 0 0, ((engine (mk5 0x10 (2 ^ 32) 0 0 0 0) { Room.reset with vq := [1], larder := cellsRun 0 (toBytes 8 (encodeV 0x01#8 (decodeV 0)).toNat) }).larderRead 255 (vectorWho 255 4 (mk5 0x10 (2 ^ 32) 0 0 0 0).ctx) 0 8).1, ((engine (mk5 0x10 (2 ^ 32) 0 0 0 0) { Room.reset with vq := [1], larder := cellsRun 0 (toBytes 8 (encodeV 0x01#8 (decodeV 0)).toNat) }).larderRead 255 (vectorWho 255 4 (mk5 0x10 (2 ^ 32) 0 0 0 0).ctx) 0 8).2, rfl, by decide +kernel⟩,
   ⟨vrun (encodeV 0x01#8 (vf)), 255, vcmd0, vf, rfl, by decide +kernel⟩,
   ⟨engine { vcmd0 with vfl := 0x20 } { Room.reset with vq := [1], ve := ve0 (encodeV 0x01#8 vf) }, 255,
     { vcmd0 with vfl := 0x20 }, vf, rfl, by decide +kernel⟩,
   ⟨vrun (encodeV 0x02#8 (vf)), 255, vcmd0, vf, rfl, by decide +kernel⟩,
   ⟨vrunE { ve0 (encodeV 0x03#8 { vf with a := 1 }) with s := [(1, 4095#64)] }, 255, vcmd0, { vf with a := 1 }, rfl,
     by decide +kernel⟩,
   ⟨vrun (encodeV 0x03#8 (vf)), 255, vcmd0, vf, rfl, by decide +kernel⟩,
   ⟨vrun (encodeV 0x04#8 ({ vf with ty := 0 })), 255, vcmd0, { vf with ty := 0 }, rfl, by decide +kernel⟩,
   ⟨vrun (encodeV 0x04#8 ({ vf with ty := 2 })), 255, vcmd0, { vf with ty := 2 }, rfl, by decide +kernel⟩,
   ⟨vrunE { ve0 (encodeV 0x03#8 { vf with a := 15 }) with sp := 0x8000 }, 255, vcmd0, { vf with a := 15 }, rfl,
     by decide +kernel⟩,
   ⟨vrun (encodeV 0x05#8 (vf)), 255, vcmd0, vf, rfl, by decide +kernel⟩⟩

/-- Obligations.VectorAccesses: the hypotheses of its clauses can hold. -/
theorem witness_VectorAccesses :
    (∃ s : State, ∃ g : Nat, ∃ c : Cmd, ∃ x : VForm, ∃ a : Nat, ∃ bs, ∃ s' : State, s.Settled ∧ g < 256 ∧ s.vcmd g = some c ∧
      s.issues g (encodeV 0x13#8 x) = true ∧ (s.ve g).sbad x.a.toNat = false ∧
      a = ofSigned 64 ((((s.ve g).sreg x.a.toNat).toNat : Int) + x.simm) ∧ a % 8 = 0 ∧ a + 8 ≤ larderSize ∧
      s.larderRead g (vectorWho g 0 c.ctx) a 8 = (bs, s')) ∧
    (∃ s : State, ∃ g : Nat, ∃ c : Cmd, ∃ x : VForm, ∃ a : Nat, s.Settled ∧ g < 256 ∧ s.vcmd g = some c ∧
      s.issues g (encodeV 0x14#8 x) = true ∧ (s.ve g).sbad x.a.toNat = false ∧
      a = ofSigned 64 ((((s.ve g).sreg x.a.toNat).toNat : Int) + x.simm) ∧ a % 8 = 0 ∧ a + 8 ≤ larderSize) ∧
    (∃ s : State, ∃ g : Nat, ∃ c : Cmd, ∃ x : VForm, ∃ t, ∃ s' : State, s.Settled ∧ g < 256 ∧ s.vcmd g = some c ∧
      s.issues g (encodeV 0x60#8 x) = true ∧ (s.ve g).badAddr x = false ∧
      (larderFault (esBytes x.es) (((s.ve g).laneAddrs x).map fun l => l.a) = none) ∧
      s.readAll (vectorUnit g c 0 false false) (larderSpots (laneKeys (esBytes x.es) ((s.ve g).laneAddrs x))) = (t, s')) ∧
    (∃ s : State, ∃ g : Nat, ∃ c : Cmd, ∃ x : VForm, s.Settled ∧ g < 256 ∧ s.vcmd g = some c ∧
      s.issues g (encodeV 0x60#8 x) = true ∧ (s.ve g).badAddr x = true) ∧
    (∃ s : State, ∃ g : Nat, ∃ c : Cmd, ∃ x : VForm, ∃ f : Nat × Nat, s.Settled ∧ g < 256 ∧ s.vcmd g = some c ∧
      s.issues g (encodeV 0x60#8 x) = true ∧ (s.ve g).badAddr x = false ∧
      (larderFault (esBytes x.es) (((s.ve g).laneAddrs x).map fun l => l.a) = some f)) ∧
    (∃ s : State, ∃ g : Nat, ∃ c : Cmd, ∃ x : VForm, ∃ ls, ∃ s' : State, s.Settled ∧ g < 256 ∧ s.vcmd g = some c ∧
      s.issues g (encodeV 0x61#8 x) = true ∧ (s.ve g).badAddr x = false ∧
      (larderFault (esBytes x.es) (((s.ve g).laneAddrs x).map fun l => l.a) = none) ∧
      s.storeOrder ((s.ve g).laneAddrs x) = (ls, s')) ∧
    (∃ s : State, ∃ g : Nat, ∃ c : Cmd, ∃ x : VForm, s.Settled ∧ g < 256 ∧ s.vcmd g = some c ∧
      s.issues g (encodeV 0x62#8 x) = true) ∧
    (∃ s : State, ∃ g : Nat, ∃ c : Cmd, ∃ l : PendingLoad, ∃ w, s.Settled ∧ g < 256 ∧ s.vcmd g = some c ∧ s.roomUp g = true ∧
      (s.ve g).load = some l ∧ (s.ve g).prog[(s.ve g).pc]? = some w) ∧
    (∃ s : State, ∃ g : Nat, ∃ c : Cmd, ∃ x : VForm, ∃ fill, ∃ l, ∃ s' : State, ∃ t, ∃ u, s.Settled ∧ g < 256 ∧
      s.vcmd g = some c ∧ (s.ve g).badAddr x = false ∧ ((((s.ve g).laneAddrs x).any fun l => l.a % esBytes x.es ≠ 0) = false) ∧
      x.ord ≠ 1 ∧ s.plan (vectorUnit g c 0 (x.ord = 0 && fill) true) (laneFirsts (esBytes x.es) ((s.ve g).laneAddrs x)) false true = (.ready l, s') ∧ ((l.any fun p => match p.tgt with | .remote _ => true | _ => false) = false) ∧ s'.readAll (vectorUnit g c 0 (x.ord = 0 && fill) true) l = (t, u)) ∧
    (∃ s : State, ∃ g : Nat, ∃ c : Cmd, ∃ x : VForm, s.Settled ∧ g < 256 ∧ s.vcmd g = some c ∧
      s.issues g (encodeV 0x63#8 x) = true) ∧
    (∃ s : State, ∃ g : Nat, ∃ c : Cmd, ∃ x : VForm, ∃ r, ∃ t : List PortRow, s.Settled ∧ g < 256 ∧ s.vcmd g = some c ∧
      s.issues g (encodeV 0x64#8 x) = true ∧ (s.room g).port = r :: t ∧ r.code = [] ∧ s.armedOn g 1 = false) ∧
    (∃ s : State, ∃ g : Nat, ∃ c : Cmd, ∃ x : VForm, s.Settled ∧ g < 256 ∧ s.vcmd g = some c ∧
      s.issues g (encodeV 0x64#8 x) = true ∧ (s.room g).port = []) ∧
    (∃ s : State, ∃ g : Nat, ∃ c : Cmd, ∃ x : VForm, ∃ l, ∃ s' : State, ∃ ls, ∃ o, s.Settled ∧ g < 256 ∧
      s.vcmd g = some c ∧ (s.ve g).badAddr x = false ∧ ((((s.ve g).laneAddrs x).any fun l => l.a % esBytes x.es ≠ 0) = false) ∧
      s.plan (vectorUnit g c 1 false false) (laneFirsts (esBytes x.es) ((s.ve g).laneAddrs x)) false true = (.ready l, s') ∧
      ((l.any fun p => match p.tgt with | .remote _ => true | _ => false) = false) ∧ c.bOrd = false ∧
      (if x.ord = 1 then s'.rlineFence (g / 8) x.scope else s').storeOrder ((s.ve g).laneAddrs x) = (ls, o)) ∧
    (∃ s : State, ∃ g : Nat, ∃ c : Cmd, ∃ x : VForm, ∃ l, ∃ s' : State, s.Settled ∧ g < 256 ∧
      s.vcmd g = some c ∧ (s.ve g).badAddr x = false ∧ ((((s.ve g).laneAddrs x).any fun l => l.a % esBytes x.es ≠ 0) = false) ∧
      s.plan (vectorUnit g c 1 false false) (laneFirsts (esBytes x.es) ((s.ve g).laneAddrs x)) false true = (.ready l, s') ∧
      ((l.any fun p => match p.tgt with | .remote _ => true | _ => false) = true)) :=
  ⟨⟨vrun (encodeV 0x13#8 ({ vf with a := 0, imm := 8 })), 255, vcmd0, { vf with a := 0, imm := 8 }, 8,
    ((vrun (encodeV 0x13#8 ({ vf with a := 0, imm := 8 }))).larderRead 255 (vectorWho 255 0 vcmd0.ctx) 8 8).1,
    ((vrun (encodeV 0x13#8 ({ vf with a := 0, imm := 8 }))).larderRead 255 (vectorWho 255 0 vcmd0.ctx) 8 8).2, rfl,
    by decide +kernel⟩,
   ⟨vrun (encodeV 0x14#8 ({ vf with a := 0, imm := 8 })), 255, vcmd0, { vf with a := 0, imm := 8 }, 8, rfl, by decide +kernel⟩,
   ⟨vrun (encodeV 0x60#8 (memf)), 255, vcmd0, memf,
     ((vrun (encodeV 0x60#8 (memf))).readAll (vectorUnit 255 vcmd0 0 false false) (larderSpots (laneKeys (esBytes memf.es) (((vrun (encodeV 0x60#8 (memf))).ve 255).laneAddrs memf)))).1, ((vrun (encodeV 0x60#8 (memf))).readAll (vectorUnit 255 vcmd0 0 false false) (larderSpots (laneKeys (esBytes memf.es) (((vrun (encodeV 0x60#8 (memf))).ve 255).laneAddrs memf)))).2, rfl, by decide +kernel⟩,
   ⟨vrunE { ve0 (encodeV 0x60#8 { memf with a := 15 }) with sp := 0x8000 }, 255, vcmd0, { memf with a := 15 }, rfl,
     by decide +kernel⟩,
   ⟨vrun (encodeV 0x60#8 ({ memf with imm := 0x3FFFF })), 255, vcmd0, { memf with imm := 0x3FFFF }, ((0x25,
     2 ^ 64 - 1) : Nat × Nat), rfl, by decide +kernel⟩,
   ⟨vrun (encodeV 0x61#8 (memf)), 255, vcmd0, memf,
     ((vrun (encodeV 0x61#8 (memf))).storeOrder (((vrun (encodeV 0x61#8 (memf))).ve 255).laneAddrs memf)).1,
     ((vrun (encodeV 0x61#8 (memf))).storeOrder (((vrun (encodeV 0x61#8 (memf))).ve 255).laneAddrs memf)).2, rfl,
     by decide +kernel⟩,
   ⟨vrun (encodeV 0x62#8 (memf)), 255, vcmd0, memf, rfl, by decide +kernel⟩,
   ⟨vrunE { ve0 (encodeV 0x62#8 memf) with load := some ⟨true⟩ }, 255, vcmd0, (⟨true⟩ : PendingLoad), encodeV 0x62#8 memf, rfl,
     by decide +kernel⟩,
   ⟨vrun (encodeV 0x62#8 memf), 255, vcmd0, memf, true,
     Plan.list ((vrun (encodeV 0x62#8 memf)).plan (vectorUnit 255 vcmd0 0 (memf.ord = 0 && true) true) (laneFirsts (esBytes memf.es) (((vrun (encodeV 0x62#8 memf)).ve 255).laneAddrs memf)) false true).1, ((vrun (encodeV 0x62#8 memf)).plan (vectorUnit 255 vcmd0 0 (memf.ord = 0 && true) true) (laneFirsts (esBytes memf.es) (((vrun (encodeV 0x62#8 memf)).ve 255).laneAddrs memf)) false true).2, ((((vrun (encodeV 0x62#8 memf)).plan (vectorUnit 255 vcmd0 0 (memf.ord = 0 && true) true) (laneFirsts (esBytes memf.es) (((vrun (encodeV 0x62#8 memf)).ve 255).laneAddrs memf)) false true).2).readAll (vectorUnit 255 vcmd0 0 (memf.ord = 0 && true) true) (Plan.list ((vrun (encodeV 0x62#8 memf)).plan (vectorUnit 255 vcmd0 0 (memf.ord = 0 && true) true) (laneFirsts (esBytes memf.es) (((vrun (encodeV 0x62#8 memf)).ve 255).laneAddrs memf)) false true).1)).1, ((((vrun (encodeV 0x62#8 memf)).plan (vectorUnit 255 vcmd0 0 (memf.ord = 0 && true) true) (laneFirsts (esBytes memf.es) (((vrun (encodeV 0x62#8 memf)).ve 255).laneAddrs memf)) false true).2).readAll (vectorUnit 255 vcmd0 0 (memf.ord = 0 && true) true) (Plan.list ((vrun (encodeV 0x62#8 memf)).plan (vectorUnit 255 vcmd0 0 (memf.ord = 0 && true) true) (laneFirsts (esBytes memf.es) (((vrun (encodeV 0x62#8 memf)).ve 255).laneAddrs memf)) false true).1)).2, rfl, by decide +kernel⟩,
   ⟨vrun (encodeV 0x63#8 (memf)), 255, vcmd0, memf, rfl, by decide +kernel⟩,
   ⟨engine vcmd0 { Room.reset with vq := [1], ve := ve0 (encodeV 0x64#8 vf), port := [portRow0 255] }, 255, vcmd0, vf,
     portRow0 255, ([] : List PortRow), rfl, by decide +kernel⟩,
   ⟨vrun (encodeV 0x64#8 (vf)), 255, vcmd0, vf, rfl, by decide +kernel⟩,
   ⟨stmv, 255, { vcmd0 with bOrd := false }, memf, Plan.list stmvPlan.1, stmvPlan.2,
     (stmvPlan.2.storeOrder ((stmv.ve 255).laneAddrs memf)).1, (stmvPlan.2.storeOrder ((stmv.ve 255).laneAddrs memf)).2, rfl, by decide +kernel⟩,
   ⟨stmr, 255, { vcmd0 with bOrd := false }, memf, Plan.list stmrPlan.1, stmrPlan.2, rfl, by decide +kernel⟩⟩

/-- Obligations.VectorRegisters: the hypotheses of its clauses can hold. -/
theorem witness_VectorRegisters :
    (∃ r : Nat, ∃ q : Nat, 0 < r ∧ r < 16 ∧ q ≠ r) ∧
    (∃ i : Nat, i < 64) ∧
    (∃ x : VForm, ∃ r : Nat, r ≠ x.d.toNat) :=
  ⟨⟨15, 14, by decide +kernel⟩,
   ⟨63, by decide +kernel⟩,
   ⟨vf, 31, by decide +kernel⟩⟩

/-- Obligations.FloatArithmetic: the hypotheses of its clauses can hold. -/
theorem witness_FloatArithmetic :
    (∃ f : FFmt, ∃ x : Nat, f.isNaN x = true) ∧
    (∃ f : FFmt, ∃ x : Nat, ∃ n, ∃ m : Nat, ∃ e, f.decode x = .fin n m e) ∧
    (∃ f : FFmt, ∃ x : Nat, ∃ n, f.decode x = .inf n) ∧
    (∃ f : FFmt, ∃ x : Nat, ∃ y : Nat, ∃ n, ∃ e, (f.decode x = .inf true ∨ f.decode x = .inf false) ∧ f.decode y = .fin n 0 e) :=
  ⟨⟨fFP32, 0x7FC00000, by decide +kernel⟩,
   ⟨fFP32, 0x3F800000, false, 8388608, -23, by decide +kernel⟩,
   ⟨fFP32, 0x7F800000, false, by decide +kernel⟩,
   ⟨fFP32, 0xFF800000, 0, false, -149, by decide +kernel⟩⟩

/-- Obligations.SignOperations: the hypotheses of its clauses can hold. -/
theorem witness_SignOperations :
    (∃ f, ∃ x : Nat, f ∈ [fFP32, fBF16, fFP16] ∧ x < 2 ^ f.width ∧ f.isNaN x = true) ∧
    (∃ f, ∃ x : Nat, f ∈ [fFP32, fBF16, fFP16] ∧ x < 2 ^ f.width ∧ f.isNaN x = false) ∧
    (∃ s : State, ∃ g : Nat, ∃ e : VEngine, ∃ x, s.Settled ∧ g < 256 ∧ s.ve g = e ∧ s.issues g (encodeV 0x2C#8 x) = true) ∧
    (∃ s : State, ∃ g : Nat, ∃ e : VEngine, ∃ x, s.Settled ∧ g < 256 ∧ s.ve g = e ∧ s.issues g (encodeV 0x2D#8 x) = true) :=
  ⟨⟨fFP16, 0x7FFF, by decide +kernel⟩,
   ⟨fFP16, 0x7C00, by decide +kernel⟩,
   ⟨vrun (encodeV 0x2C#8 (vf)), 255, (vrun (encodeV 0x2C#8 (vf))).ve 255, vf, rfl, by decide +kernel⟩,
   ⟨vrun (encodeV 0x2D#8 (vf)), 255, (vrun (encodeV 0x2D#8 (vf))).ve 255, vf, rfl, by decide +kernel⟩⟩

/-- Obligations.CachesAndHomes: the hypotheses of its clauses can hold. -/
theorem witness_CachesAndHomes :
    (∃ s : State, ∃ h : Nat, ∃ line : Nat, ∃ r, s.Settled ∧ h < 36 ∧
      ((s.rlinesOf h).find? (fun r => decide (r.line = line)) = some r)) ∧
    (∃ s : State, ∃ h : Nat, ∃ line : Nat, s.Settled ∧ h < 36 ∧ ((s.rlinesOf h).find? (fun r => decide (r.line = line)) = none)) ∧
    (∃ s : State, ∃ w : Nat, ∃ v : BitVec 64, s.Settled ∧ w < 32 ∧ s.wingUp w = true ∧ 12 < popCount 16 (fld v.toNat 47 32)) ∧
    (∃ s : State, ∃ w : Nat, ∃ v : BitVec 64, s.Settled ∧ w < 32 ∧ s.wingUp w = true ∧ popCount 16 (fld v.toNat 47 32) ≤ 12) ∧
    (∃ s : State, ∃ w : Nat, s.Settled ∧ w < 32 ∧ s.wingUp w = true ∧ (s.cache w).op = 0) ∧
    (∃ s : State, ∃ w : Nat, ∃ c : Instr, s.Settled ∧ w < 32 ∧ s.wingUp w = true ∧ (s.cache w).op ≠ 0 ∧
      (c = .clean w ∨ c = .flush w ∨ c = .flushAll w)) ∧
    (∃ s : State, ∃ w : Nat, ∃ d, s.Settled ∧ w < 32 ∧ s.wingUp w = true ∧ regDesc (paCache w 0x18) = some d) ∧
    (∃ s : State, ∃ w : Nat, ∃ e : LandLine, s.Settled ∧ w < 32 ∧ s.wingUp w = true ∧
      ((s.cache w).landing.find? (fun e => !e.sent) = some e)) ∧
    (∃ s : State, ∃ w : Nat, s.Settled ∧ w < 32 ∧ ((s.cache w).landing.find? (fun e => !e.sent) = none)) ∧
    (∃ s : State, ∃ a : Nat, ∃ line : Nat, ∃ c, ∃ t, s.Settled ∧ a < 40 ∧ memLine line = true ∧ s.held a line = some c ∧
      c.hold = some t) ∧
    (∃ s : State, ∃ a : Nat, ∃ line : Nat, s.Settled ∧ a < 40 ∧ memLine line = true ∧
      ((s.held a line).bind (fun c => c.hold) = none)) ∧
    (∃ s : State, ∃ line : Nat, ∃ c : Instr, ∃ r : HomeReq, s.Settled ∧ IsRequest s line c r ∧ memLine line = true ∧ homeUp s line r = false) ∧
    (∃ s : State, ∃ line : Nat, ∃ c : Instr, ∃ r : HomeReq, ∃ src, s.Settled ∧ IsRequest s line c r ∧ memLine line = true ∧ homeUp s line r = true ∧
      s.homeRefuses line r = some src) ∧
    (∃ s : State, ∃ line : Nat, ∃ c : Instr, ∃ r : HomeReq, s.Settled ∧ IsRequest s line c r ∧ memLine line = true ∧ homeUp s line r = true ∧
      s.homeRefuses line r = none ∧ (s.hallHeld (agentDie (reqWho r).master) (homeDie line) || (s.needsDies line r && s.stackHeld line)) = true) ∧
    (∃ s : State, ∃ line : Nat, ∃ c : Instr, ∃ r : HomeReq, s.Settled ∧ IsRequest s line c r ∧ memLine line = true ∧ homeUp s line r = true ∧
      s.homeRefuses line r = none ∧ (s.hallHeld (agentDie (reqWho r).master) (homeDie line) || (s.needsDies line r && s.stackHeld line)) = false ∧
      s.homeBusy line = true) ∧
    (∃ s : State, ∃ line : Nat, ∃ c : Instr, ∃ r : HomeReq, s.Settled ∧ IsRequest s line c r ∧ memLine line = true ∧ homeUp s line r = true ∧
      s.homeRefuses line r = none ∧ (s.hallHeld (agentDie (reqWho r).master) (homeDie line) || (s.needsDies line r && s.stackHeld line)) = false ∧
      s.homeBusy line = false) ∧
    (∃ s : State, ∃ line : Nat, ∃ c : Instr, ∃ r : HomeReq, ∃ j : Nat, s.Settled ∧ IsRequest s line c r ∧ memLine line = true ∧ regionOf (line * 64) = .stack j ∧
      ¬(agentDie (reqWho r).master = 4 ∧ agentClass (reqWho r).master = 0x14) ∧ s.stackShut j = true) ∧
    (∃ s : State, ∃ line : Nat, ∃ c : Instr, ∃ r : HomeReq, ∃ j : Nat, s.Settled ∧ IsRequest s line c r ∧ memLine line = true ∧ regionOf (line * 64) = .stack j ∧
      ¬(agentDie (reqWho r).master = 4 ∧ agentClass (reqWho r).master = 0x14) ∧ s.stackShut j = false ∧ (s.poolFrame (line * 64)).isSome = true) ∧
    (∃ s : State, ∃ line : Nat, ∃ c : Instr, ∃ r : HomeReq, ∃ j : Nat, s.Settled ∧ IsRequest s line c r ∧ memLine line = true ∧ regionOf (line * 64) = .stack j ∧
      ¬(agentDie (reqWho r).master = 4 ∧ agentClass (reqWho r).master = 0x14) ∧ s.stackShut j = false ∧ s.poolFrame (line * 64) = none) ∧
    (∃ s : State, ∃ line : Nat, ∃ c : Instr, ∃ r : HomeReq, s.Settled ∧ IsRequest s line c r ∧ memLine line = true ∧ regionOf (line * 64) = .host ∧
      ¬(agentDie (reqWho r).master = 4 ∧ agentClass (reqWho r).master = 0x14)) :=
  ⟨⟨base.setRlines 35 [rl0], 35, 0x33FFFFFFF, rl0, rfl, by decide +kernel⟩,
   ⟨base, 35, 0, rfl, by decide +kernel⟩,
   ⟨base, 31, 0x1FFF00000000#64, rfl, by decide +kernel⟩,
   ⟨base, 31, 0xFFF00000000#64, rfl, by decide +kernel⟩,
   ⟨base, 31, rfl, by decide +kernel⟩,
   ⟨base.setCache 31 { Cache.reset with op := 1 }, 31, Instr.clean 31, rfl, by decide +kernel⟩,
   ⟨base, 31, (regDesc (paCache 31 0x18)).get (by decide), rfl, by decide +kernel⟩,
   ⟨base.setCache 31 { Cache.reset with landing := [⟨0x33FFFFFFF, ld0, false⟩] }, 31, (⟨0x33FFFFFFF, ld0, false⟩ : LandLine),
     rfl, by decide +kernel⟩,
   ⟨base, 31, rfl, by decide +kernel⟩,
   ⟨heldAt 39, 39, 0x33FFFFFFF, cl0, 0, rfl, by decide +kernel⟩,
   ⟨base, 39, 0x33FFFFFFF, rfl, by decide +kernel⟩,
   ⟨base.setEnt 0x1100 0x42 1, 0x33FFFFFFF, Instr.rdo 0x9800#16 0x33FFFFFFF, .rdo 0x9800#16, rfl, Or.inr (Or.inl ⟨_, rfl, rfl⟩), by decide +kernel⟩,
   ⟨base.setEnt 0x3019 12 1, 0x33FFFFFFF, Instr.rdo 0x9800#16 0x33FFFFFFF, .rdo 0x9800#16, 0x21, rfl, Or.inr (Or.inl ⟨_, rfl, rfl⟩), by decide +kernel⟩,
   ⟨base.setEnt 0x3010 12 3, 0x33FFFFFFF, Instr.rdo 0x9800#16 0x33FFFFFFF, .rdo 0x9800#16, rfl, Or.inr (Or.inl ⟨_, rfl, rfl⟩), by decide +kernel⟩,
   ⟨{ base with lineQ := [(0x33FFFFFFF, .rdo 0#16)] }, 0x33FFFFFFF, Instr.rdo 0x9800#16 0x33FFFFFFF, .rdo 0x9800#16, rfl, Or.inr (Or.inl ⟨_, rfl, rfl⟩), by decide +kernel⟩,
   ⟨base, 0x5FFFFFFFF, Instr.rdo 0x9800#16 0x5FFFFFFFF, .rdo 0x9800#16, rfl, Or.inr (Or.inl ⟨_, rfl, rfl⟩), by decide +kernel⟩,
   ⟨base.setEnt 0x3019 12 1, 0x33FFFFFFF, Instr.rdo 0x9800#16 0x33FFFFFFF, .rdo 0x9800#16, 11, rfl, Or.inr (Or.inl ⟨_, rfl, rfl⟩), by decide +kernel⟩,
   ⟨poolAll, 0x33FFFFFFF, Instr.rdo 0x9800#16 0x33FFFFFFF, .rdo 0x9800#16, 11, rfl, Or.inr (Or.inl ⟨_, rfl, rfl⟩), by decide +kernel⟩,
   ⟨base, 0x33FFFFFFF, Instr.rdo 0x9800#16 0x33FFFFFFF, .rdo 0x9800#16, 11, rfl, Or.inr (Or.inl ⟨_, rfl, rfl⟩), by decide +kernel⟩,
   ⟨base, 0x5FFFFFFFF, Instr.rdo 0x9800#16 0x5FFFFFFFF, .rdo 0x9800#16, rfl, Or.inr (Or.inl ⟨_, rfl, rfl⟩), by decide +kernel⟩⟩

/-- Obligations.Coherence: the hypotheses of its clauses can hold. -/
theorem witness_Coherence :
    (∃ s : State, ∃ a : Nat, ∃ line : Nat, s.Settled ∧ a < 40 ∧ memLine line = true ∧ First s (.snps a line) line) ∧
    (∃ s : State, ∃ a : Nat, ∃ line : Nat, s.Settled ∧ a < 40 ∧ memLine line = true ∧ First s (.snpi a line) line) ∧
    (∃ s : State, ∃ a : Nat, ∃ line : Nat, ∃ l : LineData, s.Settled ∧ a < 40 ∧ memLine line = true ∧
      First s (.push a line l) line) ∧
    (∃ s : State, ∃ a : Nat, ∃ line : Nat, s.Settled ∧ a < 40 ∧ memLine line = true ∧ First s (.ack a line) line) ∧
    (∃ s : State, ∃ a : Nat, ∃ line : Nat, ∃ l : LineData, s.Settled ∧ a < 40 ∧ memLine line = true ∧
      First s (.ackd a line l) line) ∧
    (∃ s : State, ∃ a : Nat, ∃ line : Nat, s.Settled ∧ a < 40 ∧ memLine line = true ∧ First s (.nh a line) line) ∧
    (∃ s : State, ∃ a : Nat, ∃ line : Nat, s.Settled ∧ a < 40 ∧ memLine line = true ∧ First s (.nhw a line) line) ∧
    (∃ s : State, ∃ a : Nat, ∃ line : Nat, ∃ l : LineData, s.Settled ∧ a < 40 ∧ memLine line = true ∧
      First s (.gnts a line l) line) ∧
    (∃ s : State, ∃ a : Nat, ∃ line : Nat, ∃ l : LineData, s.Settled ∧ a < 40 ∧ memLine line = true ∧
      First s (.gnte a line l) line) ∧
    (∃ s : State, ∃ a : Nat, ∃ line : Nat, ∃ l : LineData, s.Settled ∧ a < 40 ∧ memLine line = true ∧
      First s (.gntm a line l) line) ∧
    (∃ s : State, ∃ a : Nat, ∃ line : Nat, s.Settled ∧ a < 40 ∧ memLine line = true ∧ First s (.gnto a line) line) ∧
    (∃ s : State, ∃ line : Nat, ∃ src : BitVec 16, ∃ l : LineData, s.Settled ∧ memLine line = true ∧
      First s (.data src line l) line) ∧
    (∃ s : State, ∃ line : Nat, ∃ src : BitVec 16, s.Settled ∧ memLine line = true ∧ First s (.cmp src line) line) ∧
    (∃ s : State, ∃ a : Nat, ∃ line : Nat, ∃ l : LineData, s.Settled ∧ a < 40 ∧ memLine line = true ∧
      First s (.wb a line l) line) ∧
    (∃ s : State, ∃ a : Nat, ∃ line : Nat, s.Settled ∧ a < 40 ∧ memLine line = true ∧ First s (.landAck a line) line) ∧
    (∃ s : State, ∃ a : Nat, ∃ line : Nat, s.Settled ∧ a < 40 ∧ memLine line = true ∧ Msg.snpi a line ∉ s.net) ∧
    (∃ s : State, ∃ a : Nat, ∃ line : Nat, s.Settled ∧ a < 40 ∧ memLine line = true ∧ s.firstOnPath (.snpi a line) ≠ .snpi a line) ∧
    (∃ s : State, ∃ a : Nat, ∃ line : Nat, s.Settled ∧ a < 40 ∧ memLine line = true ∧ s.hallHeld (agentDie (Msg.snpi a line).path.1) (homeDie line) = true) ∧
    (∃ s : State, ∃ a : Nat, ∃ line : Nat, s.Settled ∧ a < 40 ∧ memLine line = true ∧ s.cacheUp a = false) ∧
    (∃ s : State, ∃ a : Nat, ∃ line : Nat, ∃ c, s.Settled ∧ a < 40 ∧ memLine line = true ∧ s.cacheUp a = true ∧
      s.held a line = some c ∧ s.inHold a c = true) ∧
    (∃ s : State, ∃ a : Nat, ∃ line : Nat, s.Settled ∧ a < 40 ∧ memLine line = true ∧ s.cacheUp a = true ∧
      (s.net ++ (s.cache a).fills).any (fun m => m.grants a line) = true) ∧
    (∃ s : State, ∃ a : Nat, ∃ line : Nat, ∃ m, ∃ st, ∃ d, ∃ c, s.Settled ∧ a < 40 ∧ memLine line = true ∧ s.grantOf m = some (st, d) ∧
      s.cacheUp a = true ∧ s.held a line = some c) ∧
    (∃ s : State, ∃ a : Nat, ∃ line : Nat, ∃ m, ∃ st, ∃ d, ∃ n, s.Settled ∧ a < 40 ∧ memLine line = true ∧ s.grantOf m = some (st, d) ∧
      m ≠ .gnto a line ∧ s.cacheUp a = true ∧ s.held a line = none ∧ s.anyEligible a = true ∧ s.emptyWay a line = some n) ∧
    (∃ s : State, ∃ a : Nat, ∃ line : Nat, ∃ e : LandLine, a < 32 ∧ s.landed a line = some e ∧ e.sent = true) ∧
    (∃ s : State, ∃ a : Nat, ∃ line : Nat, ∃ e : LandLine, a < 32 ∧ s.landed a line = some e ∧ e.sent = false) ∧
    (∃ s : State, ∃ a : Nat, ∃ line : Nat, a < 32 ∧ s.landed a line = none ∧ s.held a line = none) ∧
    (∃ s : State, ∃ a : Nat, ∃ line : Nat, ∃ c, ∃ l : Nat, a < 32 ∧ s.landed a line = none ∧ s.held a line = some c ∧
      c.st ≠ .m ∧ l ≠ line) ∧
    (∃ s : State, ∃ a : Nat, ∃ line : Nat, ∃ c, a < 32 ∧ s.landed a line = none ∧ s.held a line = some c ∧ c.st = .m) :=
  ⟨⟨netOf (.snps 39 0x33FFFFFFF), 39, 0x33FFFFFFF, rfl, by decide +kernel⟩,
   ⟨netOf (.snpi 39 0x33FFFFFFF), 39, 0x33FFFFFFF, rfl, by decide +kernel⟩,
   ⟨netOf (.push 39 0x33FFFFFFF ld0), 39, 0x33FFFFFFF, ld0, rfl, by decide +kernel⟩,
   ⟨netOf (.ack 39 0x33FFFFFFF), 39, 0x33FFFFFFF, rfl, by decide +kernel⟩,
   ⟨netOf (.ackd 39 0x33FFFFFFF ld0), 39, 0x33FFFFFFF, ld0, rfl, by decide +kernel⟩,
   ⟨netOf (.nh 39 0x33FFFFFFF), 39, 0x33FFFFFFF, rfl, by decide +kernel⟩,
   ⟨netOf (.nhw 39 0x33FFFFFFF), 39, 0x33FFFFFFF, rfl, by decide +kernel⟩,
   ⟨netOf (.gnts 39 0x33FFFFFFF ld0), 39, 0x33FFFFFFF, ld0, rfl, by decide +kernel⟩,
   ⟨netOf (.gnte 39 0x33FFFFFFF ld0), 39, 0x33FFFFFFF, ld0, rfl, by decide +kernel⟩,
   ⟨netOf (.gntm 39 0x33FFFFFFF ld0), 39, 0x33FFFFFFF, ld0, rfl, by decide +kernel⟩,
   ⟨netOf (.gnto 39 0x33FFFFFFF), 39, 0x33FFFFFFF, rfl, by decide +kernel⟩,
   ⟨netOf (.data 0x2000#16 0x33FFFFFFF ld0), 0x33FFFFFFF, 0x2000#16, ld0, rfl, by decide +kernel⟩,
   ⟨netOf (.cmp 0x2000#16 0x33FFFFFFF), 0x33FFFFFFF, 0x2000#16, rfl, by decide +kernel⟩,
   ⟨netOf (.wb 39 0x33FFFFFFF ld0), 39, 0x33FFFFFFF, ld0, rfl, by decide +kernel⟩,
   ⟨netOf (.landAck 39 0x33FFFFFFF), 39, 0x33FFFFFFF, rfl, by decide +kernel⟩,
   ⟨base, 39, 0x33FFFFFFF, rfl, by decide +kernel⟩,
   ⟨{ base with net := [.snps 39 0x33FFFFFFF, .snpi 39 0x33FFFFFFF] }, 39, 0x33FFFFFFF, rfl, by decide +kernel⟩,
   ⟨(netOf (.snpi 39 0x33FFFFFFF)).setHall 3 1, 39, 0x33FFFFFFF, rfl, by decide +kernel⟩,
   ⟨base.setEnt 0x1100 0x42 1, 31, 0x33FFFFFFF, rfl, by decide +kernel⟩,
   ⟨base.setHeld 39 0x33FFFFFFF { cl0 with hold := some 5330000000 }, 39, 0x33FFFFFFF, { cl0 with hold := some 5330000000 }, rfl, by decide +kernel⟩,
   ⟨netOf (.gnts 39 0x33FFFFFFF ld0), 39, 0x33FFFFFFF, rfl, by decide +kernel⟩,
   ⟨heldAt 39, 39, 0x33FFFFFFF, .gnto 39 0x33FFFFFFF, .m, ld0, cl0, rfl, by decide +kernel⟩,
   ⟨base, 31, 0x33FFFFFFF, .gnte 31 0x33FFFFFFF ld0, .e, ld0, 0, rfl, by decide +kernel⟩,
   ⟨base.setCache 31 { Cache.reset with landing := [⟨0x33FFFFFFF, ld0, true⟩] }, 31, 0x33FFFFFFF, (⟨0x33FFFFFFF, ld0, true⟩ : LandLine), by decide +kernel⟩,
   ⟨base.setCache 31 { Cache.reset with landing := [⟨0x33FFFFFFF, ld0, false⟩] }, 31, 0x33FFFFFFF, (⟨0x33FFFFFFF, ld0, false⟩ : LandLine), by decide +kernel⟩,
   ⟨base, 31, 0x33FFFFFFF, by decide +kernel⟩,
   ⟨heldAt 31, 31, 0x33FFFFFFF, cl0, 0, by decide +kernel⟩,
   ⟨base.setHeld 31 0x33FFFFFFF { cl0 with st := .m }, 31, 0x33FFFFFFF, { cl0 with st := .m }, by decide +kernel⟩⟩

/-- Obligations.MemoryForm: the hypotheses of its clauses can hold. -/
theorem witness_MemoryForm :
    (∃ a : Nat, ∃ b : Nat, ∃ bs : Bytes, (b < a ∨ a + bs.length ≤ b)) ∧
    (∃ s : State, ∃ pa : Nat, ∃ q : Nat, Memory.wf s.mem = true ∧ (q < pa ∨ pa + 16 ≤ q)) ∧
    (∃ s : State, ∃ m : Nat, Memory.wf s.mem = true ∧ m < 4) ∧
    (∃ s : State, ∃ line : Nat, ∃ q : Nat, Memory.wf s.mem = true ∧ (q < line * 64 ∨ line * 64 + 64 ≤ q)) :=
  ⟨⟨5, 7, [1#8, 2#8], by decide +kernel⟩,
   ⟨base, 16, 32, by decide +kernel⟩,
   ⟨base, 3, by decide +kernel⟩,
   ⟨base, 0x40000000, 0x1000000040, by decide +kernel⟩⟩

/-- Obligations.CommonCode: the hypotheses of its clauses can hold. -/
theorem witness_CommonCode :
    (∃ err : Nat → Nat → BitVec 128 × BitVec 16, ∃ j : Nat, ∃ k : Nat, ∃ d : Nat, ∃ e : Nat, ((∀ k d,
      err k d = if k < 32 then (BitVec.ofNat 128 (d * 16 ^ k), 0#16) else (0#128, BitVec.ofNat 16 (d * 16 ^ (k - 32))))) ∧
      j < k ∧ k < 36 ∧ 0 < d ∧ d < 16 ∧ 0 < e ∧ e < 16) :=
  ⟨errc, 34, 35, 15, 15, fun _ _ => rfl, by decide +kernel⟩

/-- Obligations.Cistern: the hypotheses of its clauses can hold. -/
theorem witness_Cistern :
    (∃ i : Nat, i < 4) ∧
    (∃ i : Nat, i < 2) ∧
    (∃ h : Nat, h < 2) ∧
    (∃ m : Nat, m < 4) ∧
    (∃ src : BitVec 16, ∃ pa : Nat, ∃ j : Nat, ∃ x : BitVec 128, ∃ psn : Bool, ∃ p, pa < 2 ^ 56 ∧ regionOf pa = .stack j ∧
      p ∈ [(Instr.addI32 src pa x psn, 0x00#8), (.addI64 src pa x psn, 0x01#8), (.minS32 src pa x psn, 0x10#8), (.minS64 src pa x psn, 0x11#8), (.maxS32 src pa x psn, 0x20#8), (.maxS64 src pa x psn, 0x21#8), (.minU32 src pa x psn, 0x30#8), (.minU64 src pa x psn, 0x31#8), (.maxU32 src pa x psn, 0x40#8), (.maxU64 src pa x psn, 0x41#8), (.cisAnd src pa x psn, 0x50#8), (.cisOr src pa x psn, 0x60#8), (.cisXor src pa x psn, 0x70#8), (.cas32 src pa x psn, 0x80#8), (.cas64 src pa x psn, 0x81#8), (.addF32 src pa x psn, 0x92#8), (.addBf16 src pa x psn, 0x93#8), (.addXp src pa x psn, 0xA4#8)]) :=
  ⟨⟨3, by decide +kernel⟩,
   ⟨1, by decide +kernel⟩,
   ⟨1, by decide +kernel⟩,
   ⟨3, by decide +kernel⟩,
   ⟨0x2000#16, 0xCFFFFFFFF0, 11, 9#128, true, (Instr.addXp 0x2000#16 0xCFFFFFFFF0 9#128 true, 0xA4#8), by decide +kernel⟩⟩

/-- Obligations.StackControllers: the hypotheses of its clauses can hold. -/
theorem witness_StackControllers :
    (∃ s : State, ∃ j : Nat, ∃ ch : Nat, ∃ b : Nat, s.Settled ∧ j < 12 ∧ ch < 32 ∧ b < 16 ∧ s.stackUp j = true ∧
      s.critical j = false) ∧
    (∃ s : State, ∃ j : Nat, s.Settled ∧ j < 12 ∧ s.stackUp j = true ∧ s.critical j = false ∧ (s.stack j).scrubbing = false ∧
      s.ent 0x3015 (j + 1) ≠ 0) ∧
    (∃ s : State, ∃ j : Nat, s.Settled ∧ j < 12 ∧ s.ent 0x3015 (j + 1) = 0) ∧
    (∃ s : State, ∃ j : Nat, s.Settled ∧ j < 12 ∧ s.mayScrub j = true) ∧
    (∃ s : State, ∃ j : Nat, s.Settled ∧ j < 12 ∧ s.mayScrub j = false) ∧
    (∃ s : State, ∃ j : Nat, s.Settled ∧ j < 12 ∧ (s.stack j).scrubbing = true ∧ s.critical j = false ∧ s.stackUp j = true) ∧
    (∃ s : State, ∃ j : Nat, ∃ x : Nat, ∃ k : State, ∃ t : State, s.Settled ∧ k = (s.setEnt 0x3011 (j + 1) (min 255 x)).showStack j ∧
      t = k.setStack j { k.stack j with
        coolAt := coolSince (decide (x + 3 ≤ 85)) (s.stack j).coolAt s.house
        mildAt := coolSince (decide (x + 3 ≤ 95)) (s.stack j).mildAt s.house } ∧ j < 12 ∧ s.stackUp j = true ∧
      s.ent 0x3010 (j + 1) < bandOf x) ∧
    (∃ s : State, ∃ j : Nat, ∃ x : Nat, ∃ k : State, ∃ t : State, s.Settled ∧ k = (s.setEnt 0x3011 (j + 1) (min 255 x)).showStack j ∧
      t = k.setStack j { k.stack j with
        coolAt := coolSince (decide (x + 3 ≤ 85)) (s.stack j).coolAt s.house
        mildAt := coolSince (decide (x + 3 ≤ 95)) (s.stack j).mildAt s.house } ∧ j < 12 ∧ s.stackUp j = true ∧
      s.ent 0x3010 (j + 1) = 3 ∧ x ≤ 102) ∧
    (∃ s : State, ∃ j : Nat, ∃ x : Nat, ∃ k : State, ∃ t : State, s.Settled ∧ k = (s.setEnt 0x3011 (j + 1) (min 255 x)).showStack j ∧
      t = k.setStack j { k.stack j with
        coolAt := coolSince (decide (x + 3 ≤ 85)) (s.stack j).coolAt s.house
        mildAt := coolSince (decide (x + 3 ≤ 95)) (s.stack j).mildAt s.house } ∧ j < 12 ∧ s.stackUp j = true ∧
      (s.ent 0x3010 (j + 1) = 1 ∨ s.ent 0x3010 (j + 1) = 2) ∧ bandOf x ≤ s.ent 0x3010 (j + 1) ∧
      (coolSince (decide (x + 3 ≤ 85)) (s.stack j).coolAt s.house).any (fun n => decide (n + 10000000 ≤ s.house)) = true) ∧
    (∃ s : State, ∃ j : Nat, ∃ x : Nat, ∃ k : State, ∃ t : State, s.Settled ∧ k = (s.setEnt 0x3011 (j + 1) (min 255 x)).showStack j ∧
      t = k.setStack j { k.stack j with
        coolAt := coolSince (decide (x + 3 ≤ 85)) (s.stack j).coolAt s.house
        mildAt := coolSince (decide (x + 3 ≤ 95)) (s.stack j).mildAt s.house } ∧ j < 12 ∧ s.stackUp j = true ∧
      s.ent 0x3010 (j + 1) = 2 ∧ bandOf x ≤ 2 ∧
      (coolSince (decide (x + 3 ≤ 85)) (s.stack j).coolAt s.house).any (fun n => decide (n + 10000000 ≤ s.house)) = false ∧
      (coolSince (decide (x + 3 ≤ 95)) (s.stack j).mildAt s.house).any (fun n => decide (n + 10000000 ≤ s.house)) = true) ∧
    (∃ s : State, ∃ j : Nat, ∃ x : Nat, ∃ k : State, ∃ t : State, s.Settled ∧ k = (s.setEnt 0x3011 (j + 1) (min 255 x)).showStack j ∧
      t = k.setStack j { k.stack j with
        coolAt := coolSince (decide (x + 3 ≤ 85)) (s.stack j).coolAt s.house
        mildAt := coolSince (decide (x + 3 ≤ 95)) (s.stack j).mildAt s.house } ∧ j < 12 ∧ s.stackUp j = true ∧
      s.ent 0x3010 (j + 1) = 1 ∧ bandOf x ≤ 1 ∧
      (coolSince (decide (x + 3 ≤ 85)) (s.stack j).coolAt s.house).any (fun n => decide (n + 10000000 ≤ s.house)) = false) ∧
    (∃ s : State, ∃ j : Nat, ∃ x : Nat, ∃ k : State, ∃ t : State, s.Settled ∧ k = (s.setEnt 0x3011 (j + 1) (min 255 x)).showStack j ∧
      t = k.setStack j { k.stack j with
        coolAt := coolSince (decide (x + 3 ≤ 85)) (s.stack j).coolAt s.house
        mildAt := coolSince (decide (x + 3 ≤ 95)) (s.stack j).mildAt s.house } ∧ j < 12 ∧ s.stackUp j = true ∧
      s.ent 0x3010 (j + 1) = 0 ∧ bandOf x = 0) ∧
    (∃ s : State, ∃ j : Nat, s.Settled ∧ j < 12 ∧ s.stackUp j = true ∧ s.critical j = true) ∧
    (∃ s : State, ∃ j : Nat, ∃ d, s.Settled ∧ j < 12 ∧ s.stackUp j = true ∧ regDesc (paStack j 0x10) = some d) ∧
    (∃ s : State, ∃ j : Nat, ∃ line : Nat, ∃ l, s.Settled ∧ j < 12 ∧ memLine line = true ∧ s.stackUp j = true ∧
      s.critical j = false ∧ s.mergeCopy line = some l) ∧
    (∃ s : State, ∃ j : Nat, s.Settled ∧ j < 12 ∧ s.stackUp j = true ∧ s.critical j = false) :=
  ⟨⟨base, 11, 31, 15, rfl, by decide +kernel⟩,
   ⟨base.setEnt 0x3015 12 1, 11, rfl, by decide +kernel⟩,
   ⟨base.setEnt 0x3015 12 0, 11, rfl, by decide +kernel⟩,
   ⟨base, 11, rfl, by decide +kernel⟩,
   ⟨base.setStack 11 { Stack.reset with scrubbing := true }, 11, rfl, by decide +kernel⟩,
   ⟨base.setStack 11 { Stack.reset with scrubbing := true }, 11, rfl, by decide +kernel⟩,
   ⟨base, 11, 105, _, _, rfl, rfl, rfl, by decide +kernel⟩,
   ⟨base.setEnt 0x3010 12 3, 11, 102, _, _, rfl, rfl, rfl, by decide +kernel⟩,
   ⟨(base.setEnt 0x3010 12 2).setStack 11 { Stack.reset with coolAt := some 5320000000 }, 11, 82, _, _, rfl, rfl, rfl, by decide +kernel⟩,
   ⟨(base.setEnt 0x3010 12 2).setStack 11 { Stack.reset with mildAt := some 5320000000 }, 11, 92, _, _, rfl, rfl, rfl, by decide +kernel⟩,
   ⟨base.setEnt 0x3010 12 1, 11, 82, _, _, rfl, rfl, rfl, by decide +kernel⟩,
   ⟨base, 11, 84, _, _, rfl, rfl, rfl, by decide +kernel⟩,
   ⟨base.setEnt 0x3010 12 3, 11, rfl, by decide +kernel⟩,
   ⟨base, 11, (regDesc (paStack 11 0x10)).get (by decide), rfl, by decide +kernel⟩,
   ⟨base.setStack 11 { Stack.reset with merge := [(0x33FFFFFFF, ld0)] }, 11, 0x33FFFFFFF, ld0, rfl, by decide +kernel⟩,
   ⟨base, 11, rfl, by decide +kernel⟩⟩

/-- Obligations.Tiers: the hypotheses of its clauses can hold. -/
theorem witness_Tiers :
    (∃ s : State, s.Settled ∧ s.on = true ∧ s.tierState = 0 ∧ s.poolBroken = false ∧ s.poolInUse = false) ∧
    (∃ s : State, s.Settled ∧ s.on = true ∧ s.tierState = 0 ∧ ((s.poolBroken = true ∨ s.poolInUse = true))) ∧
    (∃ s : State, s.Settled ∧ s.tierState = 1) ∧
    (∃ s : State, s.Settled ∧ s.on = true ∧ s.tierState = 2 ∧ s.tierMapped = false) ∧
    (∃ s : State, s.Settled ∧ s.on = true ∧ s.tierState = 2 ∧ s.tierMapped = true) ∧
    (∃ s : State, s.Settled ∧ s.tierState = 3 ∧ (∀ e ∈ s.tier.frames, s.frameHeld e.1 = false)) ∧
    (∃ s : State, s.Settled ∧ s.tierState = 3 ∧ s.tier.frames = [] ∧ s.later = []) ∧
    (∃ s : State, ∃ t : Nat, ∃ f, s.Settled ∧ t < 402653184 ∧ s.frame (s.tile t).2 = some f ∧ (s.tile t).1 = .filling ∧
      s.frameHeld (s.tile t).2 = false) ∧
    (∃ s : State, ∃ n : Nat, ∃ f, s.Settled ∧ s.tierState = 2 ∧ s.watermarks.evictNow = true ∧ s.movers < 64 ∧ s.victim = some (n, f)) ∧
    (∃ s : State, s.Settled ∧ s.tierState = 2 ∧ s.watermarks.evictNow = false) ∧
    (∃ s : State, ∃ n : Nat, ∃ f, ∃ e : Nat × Frame, s.Settled ∧ s.victim = some (n, f) ∧ e ∈ s.tier.frames ∧
      s.victimOk e.1 e.2 = true) ∧
    (∃ s : State, ∃ t : Nat, ∃ f, s.Settled ∧ t < 402653184 ∧ s.frame (s.tile t).2 = some f ∧ (s.tile t).1 = .evicting) ∧
    (∃ s : State, ∃ f : Frame, s.Settled ∧ f.st ≠ .resident) ∧
    (∃ s : State, ∃ f : Frame, s.Settled ∧ f.st = .resident ∧ f.mark = true) ∧
    (∃ s : State, ∃ f : Frame, s.Settled ∧ f.st = .resident ∧ f.mark = false) ∧
    (∃ s : State, ∃ c : Nat, s.Settled ∧ c < 256 ∧ s.tier.pinsDue = [] ∧ s.rooms = [] ∧
      (∀ e ∈ s.tier.frames, e.2.pin = true → e.2.pinctx = c → s.frame e.1 = some e.2 ∧ e.1 ∈ s.tier.pinsOwed)) ∧
    (∃ s : State, s.Settled ∧ (90 ≤ s.ent 0x3130 7 ∨ s.on = false)) ∧
    (∃ s : State, s.Settled ∧ s.ent 0x3130 7 < 90 ∧ s.on = true) ∧
    (∃ s : State, s.Settled ∧ s.freeFrames < s.ent 0x3100 4) ∧
    (∃ s : State, s.Settled ∧ s.ent 0x3100 4 ≤ s.freeFrames) ∧
    (∃ s : State, s.Settled ∧ s.tierState = 2 ∧ s.ent 0x3100 3 ≤ s.tier.bounds) ∧
    (∃ s : State, s.Settled ∧ (s.tierState ≠ 2 ∨ s.tier.bounds < s.ent 0x3100 3)) :=
  ⟨⟨base.setEnt 0x3100 1 0x10000000000, rfl, by decide +kernel⟩,
   ⟨base, rfl, by decide +kernel⟩,
   ⟨base.setEnt 0x3100 8 1, rfl, by decide +kernel⟩,
   ⟨tierOn base, rfl, by decide +kernel⟩,
   ⟨tierOn (crun relc), rfl, by decide +kernel⟩,
   ⟨(tiered frame0 .resident).setEnt 0x3100 8 3, rfl, by decide +kernel⟩,
   ⟨base.setEnt 0x3100 8 3, rfl, by decide +kernel⟩,
   ⟨tiered { frame0 with st := .filling } .filling, 402653183, { frame0 with st := .filling }, rfl, by decide +kernel⟩,
   ⟨(tiered frame0 .resident).setEnt 0x3100 4 1, 9, frame0, rfl, by decide +kernel⟩,
   ⟨(tiered frame0 .resident).setEnt 0x3100 4 0, rfl, by decide +kernel⟩,
   ⟨tiered frame0 .resident, 9, frame0, ((9, frame0) : Nat × Frame), rfl, by decide +kernel⟩,
   ⟨tiered frame0 .evicting, 402653183, frame0, rfl, by decide +kernel⟩,
   ⟨base, { frame0 with st := .filling }, rfl, by decide +kernel⟩,
   ⟨base, frame0, rfl, by decide +kernel⟩,
   ⟨base, { frame0 with mark := false, age := 255 }, rfl, by decide +kernel⟩,
   ⟨pinned, 255, rfl, by decide +kernel⟩,
   ⟨base.setEnt 0x3130 7 90, rfl, by decide +kernel⟩,
   ⟨base.setEnt 0x3130 7 89, rfl, by decide +kernel⟩,
   ⟨base.setEnt 0x3100 4 1, rfl, by decide +kernel⟩,
   ⟨base.setEnt 0x3100 4 0, rfl, by decide +kernel⟩,
   ⟨{ (tierOn base).setEnt 0x3100 3 7 with tier := { base.tier with bounds := 7 } }, rfl, by decide +kernel⟩,
   ⟨(tierOn base).setEnt 0x3100 3 7, rfl, by decide +kernel⟩⟩

/-- Obligations.Hatches: the hypotheses of its clauses can hold. -/
theorem witness_Hatches :
    (∃ s : State, ∃ h : Nat, ∃ lg : Nat, ∃ a : Nat, s.Settled ∧ h < 16 ∧ s.on = true ∧ s.hatchOn h = false ∧
      s.hf h 0x08 4 0 = lg ∧ s.hf h 0x00 55 6 * 64 = a ∧ 6 ≤ lg ∧ lg ≤ 16 ∧ regionOf a = .host ∧
      regionOf (a + 64 * 2 ^ lg - 1) = .host) ∧
    (∃ s : State, ∃ h : Nat, s.Settled ∧ h < 16 ∧ s.on = true ∧ s.hatchOn h = false ∧
      ((s.hf h 0x08 4 0 < 6 ∨ 16 < s.hf h 0x08 4 0 ∨ regionOf (s.hf h 0x00 55 6 * 64) ≠ .host))) ∧
    (∃ s : State, ∃ h : Nat, s.Settled ∧ h < 16 ∧ s.on = true ∧ s.hatchOn h = true) ∧
    (∃ s : State, ∃ h : Nat, s.Settled ∧ h < 16 ∧ s.on = true ∧ s.hatchOn h = false ∧ s.hatch h = []) ∧
    (∃ s : State, ∃ h : Nat, s.Settled ∧ h < 16 ∧ s.on = true ∧ s.hatchOn h = false ∧ s.hatch h ≠ []) ∧
    (∃ s : State, ∃ h : Nat, ∃ v : BitVec 64, s.Settled ∧ h < 16 ∧ s.on = true ∧ v.toNat % 65536 < s.hring h) ∧
    (∃ s : State, ∃ h : Nat, ∃ v : BitVec 64, s.Settled ∧ h < 16 ∧ s.on = true ∧ s.hring h ≤ v.toNat % 65536) ∧
    (∃ s : State, ∃ h : Nat, ∃ bs, ∃ b, ∃ s' : State, ∃ r : HatchRun, s.Settled ∧ h < 16 ∧ s.on = true ∧
      s.hatchFetches h = true ∧ s.accessHeld 4 ((s.hf h 0x00 55 6 * 64 + 64 * s.hf h 0x28 15 0) / 64) false = false ∧ ((let a := s.hf h 0x00 55 6 * 64 + 64 * s.hf h 0x28 15 0; s.peek64 a % 256 = 0 ∧
      s.unitBytes (hatchWho h 0) a 64 = ((bs, b), s') ∧ r = (⟨a,
      (List.range 8).map fun k => BitVec.ofNat 64 (ofBytes (slice bs (8 * k) 8)), false, 0, 0⟩ : HatchRun)))) ∧
    (∃ s : State, ∃ h : Nat, ∃ r, s.Settled ∧ h < 16 ∧ s.on = true ∧ s.hatchOldest h = some r ∧ r.op = 1) ∧
    (∃ s : State, ∃ h : Nat, ∃ r, s.Settled ∧ h < 16 ∧ s.on = true ∧ s.hatchOldest h = some r ∧ r.op = 2) ∧
    (∃ s : State, ∃ h : Nat, s.Settled ∧ h < 16 ∧ s.on = true ∧ s.hatchOldest h = none ∧ s.hatchFetches h = false) ∧
    (∃ s : State, ∃ h : Nat, ∃ r, s.Settled ∧ h < 16 ∧ s.on = true ∧ s.hatchOldest h = some r ∧
      (s.hatchSide h (r.wd 1 + r.blocks * 65536 * r.ratio) (min 65536 (r.dlen - r.blocks * 65536) * r.ratio) false).1 = .range ∧ r.blocks * 65536 < r.dlen) ∧
    (∃ s : State, ∃ h : Nat, ∃ r, ∃ rest : List HatchRun, s.Settled ∧ h < 16 ∧ s.on = true ∧ s.hatch h = r :: rest ∧
      r.done = true ∧ s.wordHeld r = false ∧ r.status = 0#4 ∧ bitOf (r.wd 0) 30 = false ∧ bitOf (r.wd 0) 8 = false) ∧
    (∃ s : State, ∃ h : Nat, ∃ r, ∃ rest : List HatchRun, s.Settled ∧ h < 16 ∧ s.on = true ∧ s.hatch h = r :: rest ∧
      (r.done = false ∨ s.wordHeld r = true)) :=
  ⟨⟨hatchReady, 15, 6, 0x17FFFC00000, rfl, by decide +kernel⟩,
   ⟨base, 15, rfl, by decide +kernel⟩,
   ⟨hatchRun 0, 15, rfl, by decide +kernel⟩,
   ⟨base, 15, rfl, by decide +kernel⟩,
   ⟨hatchReady.setHatch 15 [hrun 0], 15, rfl, by decide +kernel⟩,
   ⟨hatchReady, 15, 63#64, rfl, by decide +kernel⟩,
   ⟨hatchReady, 15, 64#64, rfl, by decide +kernel⟩,
   ⟨(hatchReady.setRegF (paHatch 15 0x20) 0 0 1).setRegF (paHatch 15 0x28) 31 16 1, 15, (List.replicate 64 0#8), false,
     (((hatchReady.setRegF (paHatch 15 0x20) 0 0 1).setRegF (paHatch 15 0x28) 31 16 1).unitBytes (hatchWho 15 0) 0x17FFFC00000 64).2, (⟨0x17FFFC00000, List.replicate 8 0#64, false, 0, 0⟩ : HatchRun), rfl, by decide +kernel⟩,
   ⟨hatchRun 1, 15, hrun 1, rfl, by decide +kernel⟩,
   ⟨hatchRun 2, 15, hrun 2, rfl, by decide +kernel⟩,
   ⟨base, 15, rfl, by decide +kernel⟩,
   ⟨(hatchReady.setHatch 15 [hrun 1]).setEnt 0x3019 1 1, 15, hrun 1, rfl, by decide +kernel⟩,
   ⟨hatchReady.setHatch 15 [{ hrun 1 with done := true }], 15, { hrun 1 with done := true }, ([] : List HatchRun), rfl,
     by decide +kernel⟩,
   ⟨hatchRun 1, 15, hrun 1, ([] : List HatchRun), rfl, by decide +kernel⟩⟩

/-- Obligations.HostBus: the hypotheses of its clauses can hold. -/
theorem witness_HostBus :
    (∃ s : State, ∃ m : Nat, s.Settled ∧ m < 64 ∧ s.on = true ∧ s.boxOwner m = 0) ∧
    (∃ s : State, ∃ m : Nat, ∃ agent : BitVec 16, s.Settled ∧ m < 64 ∧ s.on = true ∧ s.boxOwner m ≠ 0 ∧
      s.boxOwner m ≠ agent.toNat) ∧
    (∃ s : State, ∃ m : Nat, ∃ agent : BitVec 16, s.Settled ∧ m < 64 ∧ s.on = true ∧
      ((s.boxOwner m ≠ agent.toNat ∨ s.boxGo m = true))) ∧
    (∃ s : State, ∃ m : Nat, ∃ agent : BitVec 16, s.Settled ∧ m < 64 ∧ s.on = true ∧
      ((s.boxOwner m ≠ agent.toNat ∨ s.boxGo m = true ∨ s.regF (paBox m 0x48) 4 0 < 8 ∨ 16 < s.regF (paBox m 0x48) 4 0))) ∧
    (∃ s : State, ∃ m : Nat, ∃ agent : BitVec 16, s.Settled ∧ m < 64 ∧ s.on = true ∧ s.boxOwner m = agent.toNat ∧
      s.boxGo m = false ∧ 8 ≤ s.regF (paBox m 0x48) 4 0 ∧ s.regF (paBox m 0x48) 4 0 ≤ 16 ∧ s.regF (paBox m 0x68) 55 2 = 0 ∧
      ((s.regF (paBox m 0x78) 2 0 = 0 ∨ 5 < s.regF (paBox m 0x78) 2 0))) ∧
    (∃ s : State, ∃ m : Nat, s.Settled ∧ m < 64 ∧ s.on = true ∧ s.boxGo m = true ∧ s.regF (paBox m 0x58) 55 2 = 0) ∧
    (∃ s : State, ∃ m : Nat, ∃ agent : BitVec 16, ∃ o : Nat, s.Settled ∧ m < 64 ∧ s.on = true ∧ isScullery agent = true ∧
      o < 0x1000) ∧
    (∃ s : State, ∃ m : Nat, ∃ agent : BitVec 16, s.Settled ∧ m < 64 ∧ s.on = true ∧ isScullery agent = false) ∧
    (∃ s : State, ∃ m : Nat, ∃ dom : Nat, s.Settled ∧ m < 64 ∧ s.on = true ∧ dom < 40) ∧
    (∃ s : State, ∃ pa : Nat, ∃ n : Nat, s.Settled ∧ pa < 2 ^ 56 ∧ s.on = true ∧ 0 < n ∧ s.inbound pa n false = .ur) ∧
    (∃ s : State, ∃ pa : Nat, ∃ n : Nat, ∃ x, ∃ s' : State, s.Settled ∧ pa < 2 ^ 56 ∧ s.on = true ∧ 0 < n ∧
      s.inbound pa n false = .mem ∧ s.gone pa = false ∧ s.unitBytes (pcieWho 0) pa n = (x, s')) ∧
    (∃ s : State, ∃ pa : Nat, ∃ n : Nat, s.Settled ∧ pa < 2 ^ 56 ∧ s.on = true ∧ 0 < n ∧ s.inbound pa n false = .mem ∧
      s.gone pa = true) ∧
    (∃ s : State, ∃ pa : Nat, ∃ bs : Bytes, s.Settled ∧ pa < 2 ^ 56 ∧ s.on = true ∧ bs ≠ [] ∧ s.inbound pa bs.length true = .ur) ∧
    (∃ s : State, ∃ pa : Nat, ∃ bs : Bytes, s.Settled ∧ pa < 2 ^ 56 ∧ s.on = true ∧ bs ≠ [] ∧
      s.inbound pa bs.length true = .mem ∧ s.gone pa = false) ∧
    (∃ s : State, ∃ pa : Nat, ∃ n : Nat, s.Settled ∧ pa < 2 ^ 56 ∧ s.on = true ∧ regionOf pa = .host ∧
      regionOf (pa + n - 1) = .host ∧ s.tierRegion pa = true) ∧
    (∃ s : State, ∃ m : Nat, ∃ agent : BitVec 16, s.Settled ∧ m < 64 ∧ s.on = true ∧ s.boxOwner m = agent.toNat ∧ s.boxGo m = false) ∧
    (∃ s : State, ∃ m : Nat, ∃ agent : BitVec 16, ∃ dom : Nat, s.Settled ∧ m < 64 ∧ s.on = true ∧ s.boxOwner m = agent.toNat ∧ s.boxGo m = false ∧
      8 ≤ s.regF (paBox m 0x48) 4 0 ∧ s.regF (paBox m 0x48) 4 0 ≤ 16 ∧ s.regF (paBox m 0x68) 55 2 = 0 ∧
      s.regF (paBox m 0x78) 2 0 = dom ∧ 1 ≤ dom ∧ dom ≤ 5) ∧
    (∃ s : State, ∃ m : Nat, ∃ dom : Nat, ∃ k : Nat, s.Settled ∧ m < 64 ∧ s.on = true ∧ 1 ≤ dom ∧ dom ≤ 5 ∧ k < 64 ∧
      s.regF (paBox k 0x78) 2 0 = dom ∧ s.regF (paBox k 0x50) 2 2 = 1) ∧
    (∃ s : State, ∃ m : Nat, s.Settled ∧ m < 64 ∧ s.on = true ∧ s.boxGo m = false) ∧
    (∃ s : State, ∃ pa : Nat, ∃ n : Nat, s.Settled ∧ pa < 2 ^ 56 ∧ s.on = true ∧ 0 < n ∧ s.inbound pa n false = .wait) ∧
    (∃ s : State, ∃ pa : Nat, ∃ bs : Bytes, s.Settled ∧ pa < 2 ^ 56 ∧ s.on = true ∧ bs ≠ [] ∧ s.inbound pa bs.length true = .wait) ∧
    (∃ s : State, ∃ pa : Nat, ∃ bs : Bytes, s.Settled ∧ pa < 2 ^ 56 ∧ s.on = true ∧ bs ≠ [] ∧ s.inbound pa bs.length true = .page) :=
  ⟨⟨base, 63, rfl, by decide +kernel⟩,
   ⟨base.setRegF (paBox 63 0x40) 15 0 0x2001, 63, 0x2000#16, rfl, by decide +kernel⟩,
   ⟨base.setRegF (paBox 63 0x40) 15 0 0x2001, 63, 0x2000#16, rfl, by decide +kernel⟩,
   ⟨base, 63, 0x2000#16, rfl, by decide +kernel⟩,
   ⟨(base.setRegF (paBox 63 0x40) 15 0 0x2000).setRegF (paBox 63 0x48) 4 0 16, 63, 0x2000#16, rfl, by decide +kernel⟩,
   ⟨base.setRegF (paBox 63 0x50) 0 0 1, 63, rfl, by decide +kernel⟩,
   ⟨base, 63, agentNo 4 0x18 3, 0xFF8, rfl, by decide +kernel⟩,
   ⟨base, 63, 0x2000#16, rfl, by decide +kernel⟩,
   ⟨base, 63, 39, rfl, by decide +kernel⟩,
   ⟨base, 0xFFFFFFFFFFFFFF, 1, rfl, by decide +kernel⟩,
   ⟨base, 0xCFFFFFFFFF, 1, (base.unitBytes (pcieWho 0) 0xCFFFFFFFFF 1).1, (base.unitBytes (pcieWho 0) 0xCFFFFFFFFF 1).2, rfl,
     by decide +kernel⟩,
   ⟨base.setEnt 0x1100 0x42 1, 0xCFFFFFFFFF, 1, rfl, by decide +kernel⟩,
   ⟨base, 0xFFFFFFFFFFFFFF, [1#8], rfl, by decide +kernel⟩,
   ⟨base, 0xCFFFFFFFFF, [1#8], rfl, by decide +kernel⟩,
   ⟨(tierOn base).setEnt 0x3100 1 0x10000000000, 0x10000000000, 8, rfl, by decide +kernel⟩,
   ⟨base.setRegF (paBox 63 0x40) 15 0 0x2000, 63, 0x2000#16, rfl, by decide +kernel⟩,
   ⟨((base.setRegF (paBox 63 0x40) 15 0 0x2000).setRegF (paBox 63 0x48) 4 0 16).setRegF (paBox 63 0x78) 2 0 5, 63, 0x2000#16, 5, rfl, by decide +kernel⟩,
   ⟨(base.setRegF (paBox 63 0x78) 2 0 5).setRegF (paBox 63 0x50) 2 2 1, 62, 5, 63, rfl, by decide +kernel⟩,
   ⟨base, 63, rfl, by decide +kernel⟩,
   ⟨base.setHall 3 1, 0xCFFFFFFFFF, 1, rfl, by decide +kernel⟩,
   ⟨base.setHall 3 1, 0xCFFFFFFFFF, [1#8], rfl, by decide +kernel⟩,
   ⟨base, 0x60400000, [1#8, 2#8, 3#8, 4#8], rfl, by decide +kernel⟩⟩

/-- Obligations.PackageTest: the hypotheses of its clauses can hold. -/
theorem witness_PackageTest :
    (∃ s : State, ∃ path, ∃ n : Nat, ∃ x, s.Settled ∧ s.firmware = true ∧ path ≠ .letterbox ∧ s.inTest = false ∧
      s.session path n = some x ∧ s.ent 0x1010 1 = 4 ∧ s.liveCtxs = [] ∧ s.tierState = 0 ∧ ((∀ i,
      i < 4 → s.ent 0x2100 (i + 1) = 0))) ∧
    (∃ s : State, ∃ path, ∃ n : Nat, s.Settled ∧ s.firmware = true ∧
      ((path = .letterbox ∨ s.inTest = true ∨ s.session path n = none))) ∧
    (∃ s : State, ∃ c : Instr, s.Settled ∧ s.porch.power ≠ .off ∧ s.tapOpen = false ∧
      c ∈ [Instr.tapExtest, .tapClamp, .tapHighz, .tapWsp, .tapDwr, .tapDiesel 1#8]) ∧
    (∃ s : State, ∃ p, s.Settled ∧ s.porch.power ≠ .off ∧ s.tapOpen = true ∧
      p ∈ [(Instr.tapExtest, 0x03#8), (.tapClamp, 0x04#8), (.tapHighz, 0x05#8), (.tapWsp, 0x11#8), (.tapDwr, 0x12#8)]) ∧
    (∃ s : State, s.Settled ∧ s.firmware = true ∧ s.inTest = true ∧ s.ent 0xA100 6 ≠ 1 ∧ s.linkExists = true ∧
      s.linkOut = true ∧ s.testLink.1 = 0) ∧
    (∃ s : State, s.Settled ∧ s.firmware = true ∧ s.inTest = true ∧
      ((s.ent 0xA100 6 = 1 ∨ s.linkExists = false ∨ s.linkOut = false))) ∧
    (∃ s : State, s.Settled ∧ s.on = true ∧ s.ent 0xA100 6 = 1 ∧ s.testLink.1 ≠ 2) ∧
    (∃ s : State, ∃ p, s.Settled ∧ s.firmware = true ∧ s.inTest = true ∧ s.ent 0xA300 9 ≠ 1 ∧ s.stackUp s.repairStack = true ∧
      p ∈ [(Instr.spareRow, 1, 16, 5), (.spareCol, 2, 4, 7), (.softPpr, 3, 1, 5), (.hardPpr, 4, 1, 5)] ∧
      s.repairsUsed p.2.1 < p.2.2.1) ∧
    (∃ s : State, ∃ p, s.Settled ∧ s.firmware = true ∧ s.inTest = true ∧ s.ent 0xA300 9 ≠ 1 ∧ s.stackUp s.repairStack = true ∧
      p ∈ [(Instr.spareRow, 1, 16, 5), (.spareCol, 2, 4, 7), (.softPpr, 3, 1, 5), (.hardPpr, 4, 1, 5)] ∧
      p.2.2.1 ≤ s.repairsUsed p.2.1) ∧
    (∃ s : State, ∃ j : Nat, ∃ bank : Nat, ∃ x : Nat × Nat, s.Settled ∧ j < 12 ∧ ((∀ k,
      k < 12 → k ≠ j → (s.stack k).bankHold = none)) ∧ (s.stack j).bankHold = some bank ∧ (s.stack j).repairing = some x ∧
      s.later = []) ∧
    (∃ s : State, s.Settled ∧ ((∀ k, k < 12 → (s.stack k).bankHold = none))) ∧
    (∃ s : State, ∃ c : Instr, s.Settled ∧ s.inTest = false ∧
      c ∈ [Instr.readMap, .spareRow, .spareCol, .softPpr, .hardPpr, .interconnectTestGo]) ∧
    (∃ s : State, s.Settled ∧ s.porch.power ≠ .off) ∧
    (∃ s : State, s.Settled ∧ s.firmware = true ∧ s.inTest = true ∧ s.ent 0xA100 6 ≠ 1 ∧ s.linkExists = true ∧ s.linkOut = true ∧
      s.testLink.1 = 1) ∧
    (∃ s : State, s.Settled ∧ s.firmware = true ∧ s.inTest = true ∧ s.ent 0xA300 9 ≠ 1) :=
  ⟨⟨{ base with mgmt := { base.mgmt with sessions := [sess0] } }, Path.field 0, 1, sess0, rfl, by decide +kernel⟩,
   ⟨base, Path.letterbox, 0, rfl, by decide +kernel⟩,
   ⟨base, Instr.tapWsp, rfl, by decide +kernel⟩,
   ⟨tested, (Instr.tapDwr, 0x12#8), rfl, by decide +kernel⟩,
   ⟨((tested.setEnt 0xA100 1 3).setEnt 0x1100 0x42 1).setEnt 0x9021 4 1, rfl, by decide +kernel⟩,
   ⟨tested.setEnt 0xA100 1 8, rfl, by decide +kernel⟩,
   ⟨(tested.setEnt 0xA100 1 3).setEnt 0xA100 6 1, rfl, by decide +kernel⟩,
   ⟨tested, (Instr.hardPpr, 4, 1, 5), rfl, by decide +kernel⟩,
   ⟨tested.setStack 0 { Stack.reset with repairs := [(0, 4, 0)] }, (Instr.hardPpr, 4, 1, 5), rfl, by decide +kernel⟩,
   ⟨base.setStack 11 { Stack.reset with bankHold := some 511, repairing := some (1, 0) }, 11, 511, ((1, 0) : Nat × Nat), rfl,
     by decide +kernel⟩,
   ⟨base, rfl, by decide +kernel⟩,
   ⟨base, Instr.hardPpr, rfl, by decide +kernel⟩,
   ⟨base, rfl, by decide +kernel⟩,
   ⟨((tested.setEnt 0xA100 1 0x100).setEnt 0x1100 0x12 1).setEnt 0x9021 1 1, rfl, by decide +kernel⟩,
   ⟨tested, rfl, by decide +kernel⟩⟩

/-- Obligations.GloingPorts: the hypotheses of its clauses can hold. -/
theorem witness_GloingPorts :
    (∃ s : State, ∃ p : Nat, ∃ v : Nat, s.Settled ∧ p < 3 ∧ s.on = true ∧ ((v = 1 ∨ v = 2 ∨ v = 3)) ∧ s.portUp p = false) ∧
    (∃ s : State, ∃ p : Nat, ∃ v : Nat, s.Settled ∧ p < 3 ∧ 3 < v) ∧
    (∃ s : State, ∃ p : Nat, s.Settled ∧ p < 3 ∧ s.on = true ∧ s.ent 0x4000 (p + 1) = 3 ∧ s.portUp p = false) ∧
    (∃ s : State, ∃ p : Nat, s.Settled ∧ p < 3 ∧ s.ent 0x4000 (p + 1) ≠ 3) ∧
    (∃ s : State, ∃ p : Nat, s.Settled ∧ p < 3 ∧ s.on = true ∧ s.portUp p = false ∧ s.ent 0x4000 (p + 1) ≠ 0) ∧
    (∃ s : State, ∃ p : Nat, s.Settled ∧ p < 3 ∧ s.ent 0x4000 (p + 1) = 0) ∧
    (∃ s : State, ∃ p : Nat, ∃ nb, s.Settled ∧ p < 3 ∧ s.portUp p = true ∧ s.blob 0x4011 (p + 1) ≠ nb) ∧
    (∃ s : State, ∃ p : Nat, ∃ nb : Bytes, s.Settled ∧ p < 3 ∧ s.blob 0x4011 (p + 1) = nb) ∧
    (∃ s : State, ∃ p : Nat, s.Settled ∧ p < 3 ∧ s.on = true) ∧
    (∃ s : State, ∃ p : Nat, s.Settled ∧ p < 3 ∧ s.portUp p = true) ∧
    (∃ s : State, ∃ p : Nat, s.Settled ∧ p < 3 ∧ s.portUp p = false) :=
  ⟨⟨base, 2, 3, rfl, by decide +kernel⟩,
   ⟨base, 2, 4, rfl, by decide +kernel⟩,
   ⟨base.setEnt 0x4000 3 3, 2, rfl, by decide +kernel⟩,
   ⟨base.setEnt 0x4000 3 1, 2, rfl, by decide +kernel⟩,
   ⟨base.setEnt 0x4000 3 3, 2, rfl, by decide +kernel⟩,
   ⟨base.setEnt 0x4000 3 0, 2, rfl, by decide +kernel⟩,
   ⟨fab, 2, [1#8], rfl, by decide +kernel⟩,
   ⟨fab, 2, ([] : Bytes), rfl, by decide +kernel⟩,
   ⟨base, 2, rfl, by decide +kernel⟩,
   ⟨fab, 2, rfl, by decide +kernel⟩,
   ⟨base, 2, rfl, by decide +kernel⟩⟩

/-- Obligations.GloingPackets: the hypotheses of its clauses can hold. -/
theorem witness_GloingPackets :
    (∃ s : State, ∃ p : Nat, ∃ k : Packet, ∃ o : Nat × (Nat → Packet → Instr), s.Settled ∧ IsSequenced o ∧ p < 3 ∧ k.wf = true ∧ s.portUp p = true ∧
      s.discards k = true) ∧
    (∃ s : State, ∃ p : Nat, ∃ k : Packet, ∃ o : Nat × (Nat → Packet → Instr), s.Settled ∧ IsSequenced o ∧ p < 3 ∧ k.wf = true ∧ s.portUp p = true ∧
      s.discards k = false ∧ k.op.toNat ≠ o.1) ∧
    (∃ s : State, ∃ p : Nat, ∃ k : Packet, ∃ o : Nat × (Nat → Packet → Instr), s.Settled ∧ IsSequenced o ∧ p < 3 ∧ k.wf = true ∧ s.portUp p = true ∧
      s.discards k = false ∧ k.op.toNat = o.1 ∧ (s.pair k.src).rxBad = true) ∧
    (∃ s : State, ∃ p : Nat, ∃ k : Packet, ∃ o : Nat × (Nat → Packet → Instr), s.Settled ∧ IsSequenced o ∧ p < 3 ∧ k.wf = true ∧ s.portUp p = true ∧
      s.discards k = false ∧ k.op.toNat = o.1 ∧ (s.pair k.src).rxBad = false ∧
      k.seq ≠ (s.pair k.src).rxSeq ∧ seqBefore k.seq (s.pair k.src).rxSeq = true) ∧
    (∃ s : State, ∃ p : Nat, ∃ k : Packet, ∃ o : Nat × (Nat → Packet → Instr), s.Settled ∧ IsSequenced o ∧ p < 3 ∧ k.wf = true ∧ s.portUp p = true ∧
      s.discards k = false ∧ k.op.toNat = o.1 ∧ (s.pair k.src).rxBad = false ∧
      (s.pair k.src).rx.any (fun e => decide (e.1 = k.seq)) = true) ∧
    (∃ s : State, ∃ p : Nat, ∃ k : Packet, ∃ o : Nat × (Nat → Packet → Instr), s.Settled ∧ IsSequenced o ∧ p < 3 ∧ k.wf = true ∧ s.portUp p = true ∧
      s.discards k = false ∧ k.op.toNat = o.1 ∧ (s.pair k.src).rxBad = false ∧
      ¬((k.seq ≠ (s.pair k.src).rxSeq ∧ seqBefore k.seq (s.pair k.src).rxSeq = true) ∨
        (s.pair k.src).rx.any (fun e => decide (e.1 = k.seq)) = true)) ∧
    (∃ s : State, ∃ p : Nat, ∃ k : Packet, s.Settled ∧ (∀ a, s.injSlot 4 (portAgent p) 0 1 a = none) ∧ p < 3 ∧ k.wf = true ∧ s.portUp p = true ∧ 
      (∀ x ∈ k.words, x.2 = 0#16 ∨ x.2 = poisonMask)) ∧
    (∃ s : State, ∃ p : Nat, ∃ k : Packet, s.Settled ∧ p < 3 ∧ k.wf = true ∧ s.portUp p = true ∧ (s.pair k.src).rxBad = false ∧
      (s.pair k.src).rx.find? (fun e => decide (e.1 = (s.pair k.src).rxSeq)) = some (k.seq, k) ∧ s.refusesRemote k = false ∧ s.opHeld k = true) ∧
    (∃ s : State, ∃ p : Nat, ∃ k : Packet, s.Settled ∧ p < 3 ∧ k.wf = true ∧ s.portUp p = true ∧ (s.pair k.src).rxBad = false ∧
      (s.pair k.src).rx.find? (fun e => decide (e.1 = (s.pair k.src).rxSeq)) = some (k.seq, k) ∧ s.refusesRemote k = false ∧ s.opHeld k = false) ∧
    (∃ s : State, ∃ p : Nat, ∃ k : Packet, s.Settled ∧ p < 3 ∧ k.wf = true ∧ s.portUp p = true ∧ k.op ∈ [0#4, 1#4, 3#4, 4#4, 5#4] ∧
      s.refusesRemote k = true) ∧
    (∃ s : State, ∃ p : Nat, ∃ k : Packet, s.Settled ∧ p < 3 ∧ k.wf = true ∧ s.portUp p = true ∧ packetAligned k = false) ∧
    (∃ s : State, ∃ p : Nat, ∃ k : Packet, s.Settled ∧ p < 3 ∧ k.wf = true ∧ s.portUp p = true ∧ k.op = 7#4) ∧
    (∃ s : State, ∃ p : Nat, ∃ k : Packet, ∃ w : Nat, ∃ l : Nat, s.Settled ∧ p < 3 ∧ k.wf = true ∧ s.portUp p = true ∧ k.op = 4#4 ∧
      k.addr = 0x60000000 + 0x800000 * w + 0x400000 + 16 * l + 8 ∧ w < 32 ∧ l < 4096) ∧
    (∃ s : State, ∃ p : Nat, ∃ k : Packet, ∃ x, ∃ rest, s.Settled ∧ (∃ j, regionOf k.addr = .stack j) ∧ p < 3 ∧ k.wf = true ∧ s.portUp p = true ∧
      k.op = 0#4 ∧ k.short = true ∧ k.words = (x, 0#16) :: rest) ∧
    (∃ s : State, ∃ p : Nat, ∃ k : Packet, s.Settled ∧ (∃ j, regionOf k.addr = .stack j) ∧ p < 3 ∧ k.wf = true ∧ s.portUp p = true ∧
      k.op = 0#4 ∧ k.short = false) ∧
    (∃ s : State, ∃ p : Nat, ∃ k : Packet, s.Settled ∧ p < 3 ∧ k.wf = true ∧ s.portUp p = true ∧ s.discards k = true) ∧
    (∃ s : State, ∃ p : Nat, ∃ k : Packet, ∃ d, ∃ rest, s.Settled ∧ p < 3 ∧ k.wf = true ∧ s.portUp p = true ∧ k.op = 8#4 ∧
      s.discards k = false ∧ packetData (s.arrive p k).1 = (d, false) :: rest) ∧
    (∃ s : State, ∃ p : Nat, ∃ k : Packet, ∃ d, ∃ rest, s.Settled ∧ p < 3 ∧ k.wf = true ∧ s.portUp p = true ∧ k.op = 8#4 ∧
      s.discards k = false ∧ packetData (s.arrive p k).1 = (d, true) :: rest) ∧
    (∃ s : State, ∃ p : Nat, ∃ k : Packet, s.Settled ∧ p < 3 ∧ k.wf = true ∧ s.portUp p = true ∧ (s.pair k.src).tx = []) ∧
    (∃ s : State, ∃ p : Nat, ∃ k : Packet, ∃ w : Nat, ∃ o, s.Settled ∧ p < 3 ∧ k.wf = true ∧ s.portUp p = true ∧ (s.pair k.src).tx = [o] ∧
      seqBefore (fld w 95 64) o.pkt.seq = false ∧ o.pkt.ackp = true ∧ o.pkt.op ≠ 3#4) ∧
    (∃ s : State, ∃ p : Nat, ∃ k : Packet, ∃ w : Nat, ∃ o, s.Settled ∧ p < 3 ∧ k.wf = true ∧ s.portUp p = true ∧ (s.pair k.src).tx = [o] ∧
      seqBefore (fld w 95 64) o.pkt.seq = false ∧ o.pkt.ackp = true ∧ o.pkt.op = 3#4 ∧ fld w 103 96 = 0) ∧
    (∃ s : State, ∃ p : Nat, ∃ k : Packet, ∃ seq : Nat, ∃ w : Nat, ∃ o, s.Settled ∧ p < 3 ∧ k.wf = true ∧ s.portUp p = true ∧ (s.pair k.src).tx = [o] ∧
      seqBefore (fld w 95 64) o.pkt.seq = true ∧ seqBefore o.pkt.seq seq = true) ∧
    (∃ s : State, ∃ p : Nat, ∃ k : Packet, s.Settled ∧ p < 3 ∧ k.wf = true ∧ s.portUp p = true ∧ k.op = 9#4 ∧ s.discards k = false ∧ k.cisop.toNat ≤ 2) ∧
    (∃ s : State, ∃ p : Nat, ∃ k : Packet, s.Settled ∧ p < 3 ∧ k.wf = true ∧ s.portUp p = true ∧ 
      (k.hcrc ≠ headerCrc k ∨ k.ver ≠ 1#4 ∨ 11 ≤ k.op.toNat)) ∧
    (∃ s : State, ∃ p : Nat, ∃ k : Packet, ∃ h : HelloMsg, s.Settled ∧ p < 3 ∧ k.wf = true ∧ s.portUp p = true ∧ k.op = 10#4 ∧
      k.hcrc = headerCrc k ∧ k.ver = 1#4 ∧ (s.arrive p k).2.timely h.time = false) ∧
    (∃ s : State, ∃ p : Nat, ∃ k : Packet, ∃ h : HelloMsg, s.Settled ∧ p < 3 ∧ k.wf = true ∧ s.portUp p = true ∧ k.op = 10#4 ∧
      k.hcrc = headerCrc k ∧ k.ver = 1#4 ∧ (s.arrive p k).2.timely h.time = true ∧
      (k.unnum = true ∨ (s.arrive p k).2.member k.src = false ∨ (s.arrive p k).2.modKey k.src ≠ h.key)) ∧
    (∃ s : State, ∃ p : Nat, ∃ k : Packet, ∃ h : HelloMsg, s.Settled ∧ p < 3 ∧ k.wf = true ∧ s.portUp p = true ∧ k.op = 10#4 ∧
      k.hcrc = headerCrc k ∧ k.ver = 1#4 ∧ (s.arrive p k).2.timely h.time = true ∧
      k.unnum = false ∧ (s.arrive p k).2.member k.src = true ∧ (s.arrive p k).2.modKey k.src = h.key) :=
  ⟨⟨fab, 2, { pk0 0 with hcrc := 0 }, ((0, Instr.writePacket) : Nat × (Nat → Packet → Instr)), rfl, List.Mem.head _, by decide +kernel⟩,
   ⟨fab, 2, pk0 1, ((0, Instr.writePacket) : Nat × (Nat → Packet → Instr)), rfl, List.Mem.head _, by decide +kernel⟩,
   ⟨withPair { Pair.reset with up := true, rxBad := true }, 2, pk0 0, ((0, Instr.writePacket) : Nat × (Nat → Packet → Instr)), rfl, List.Mem.head _, by decide +kernel⟩,
   ⟨fab, 2, sealPacket { pk0 0 with seq := 2 ^ 32 - 1 }, ((0, Instr.writePacket) : Nat × (Nat → Packet → Instr)), rfl, List.Mem.head _, by decide +kernel⟩,
   ⟨withPair { Pair.reset with up := true, rx := [(1, pk0 0)] }, 2, sealPacket { pk0 0 with seq := 1 }, ((0, Instr.writePacket) : Nat × (Nat → Packet → Instr)), rfl, List.Mem.head _, by decide +kernel⟩,
   ⟨fab, 2, sealPacket { pk0 0 with addr := 0xCFFFFFFFF0, words := [(1, 0)] }, ((0, Instr.writePacket) : Nat × (Nat → Packet → Instr)), rfl, List.Mem.head _, by decide +kernel⟩,
   ⟨fab, 2, { pk0 0 with words := [(1, 0), (2, poisonMask)] }, rfl, fun _ => rfl, by decide +kernel, by decide +kernel,
      by decide +kernel, fun x h => by
        rcases List.mem_cons.1 h with h | h
        · exact .inl (h ▸ rfl)
        · exact .inr (List.mem_singleton.1 h ▸ rfl)⟩,
   ⟨((withPair { Pair.reset with up := true, rx := [(0, farWrite)] }).setEnt 0x4041 12 1).setEnt 0x3010 12 3, 2, farWrite, rfl, by decide +kernel⟩,
   ⟨(withPair { Pair.reset with up := true, rx := [(0, farWrite)] }).setEnt 0x4041 12 1, 2, farWrite, rfl, by decide +kernel⟩,
   ⟨fab, 2, { pk0 0 with addr := 0xD000000000, words := [(1, 0)] }, rfl, by decide +kernel⟩,
   ⟨fab, 2, { pk0 0 with addr := 0xCFFFFFFFF1 }, rfl, by decide +kernel⟩,
   ⟨fab, 2, pk0 7, rfl, by decide +kernel⟩,
   ⟨fab, 2, { pk0 4 with addr := 0x60000000 + 0x800000 * 31 + 0x400000 + 16 * 4095 + 8 }, 31, 4095, rfl, by decide +kernel⟩,
   ⟨fab, 2, { pk0 0 with addr := 0xCFFFFFFFF8, short := true, words := [(1, 0)] }, 1, [], rfl, ⟨11, by decide +kernel⟩, by decide +kernel⟩,
   ⟨fab, 2, { pk0 0 with addr := 0xCFFFFFFFF0 }, rfl, ⟨11, by decide +kernel⟩, by decide +kernel⟩,
   ⟨fab, 2, { pk0 8 with ver := 0 }, rfl, by decide +kernel⟩,
   ⟨fab, 2, sealPacket { pk0 8 with words := [(5, 0)] }, 5, [], rfl, by decide +kernel⟩,
   ⟨fab, 2, sealPacket { pk0 8 with words := [(5, poisonMask)] }, 5, [], rfl, by decide +kernel⟩,
   ⟨fab, 2, pk0 8, rfl, by decide +kernel⟩,
   ⟨withPair { Pair.reset with up := true, tx := [{ txo 1 with pkt := { pk0 0 with ackp := true } }] }, 2, pk0 8, 2 ^ 64, { txo 1 with pkt := { pk0 0 with ackp := true } }, rfl, by decide +kernel⟩,
   ⟨withPair { Pair.reset with up := true, tx := [{ txo 1 with pkt := { pk0 3 with ackp := true } }] }, 2, pk0 8, 0, { txo 1 with pkt := { pk0 3 with ackp := true } }, rfl, by decide +kernel⟩,
   ⟨withPair { Pair.reset with up := true, tx := [{ txo 1 with pkt := { pk0 0 with ackp := true } }] }, 2, pk0 8, 1, (2 ^ 32 - 1) * 2 ^ 64, { txo 1 with pkt := { pk0 0 with ackp := true } }, rfl, by decide +kernel⟩,
   ⟨fab, 2, sealPacket { pk0 9 with cisop := 2 }, rfl, by decide +kernel⟩,
   ⟨fab, 2, sealPacket { pk0 10 with op := 11 }, rfl, by decide +kernel⟩,
   ⟨fab.setCtl { fab.ctl with ptpLocked := true }, 2, pk0 10, { hello0 with time := 20000000000 }, rfl, by decide +kernel⟩,
   ⟨fab, 2, sealPacket { pk0 10 with unnum := true }, { hello0 with time := 5330000000 }, rfl, by decide +kernel⟩,
   ⟨memb fab, 2, pk0 10, { hello0 with time := 5330000000, key := (memb fab).modKey 4095 }, rfl, by decide +kernel⟩⟩

/-- Obligations.GloingPairs: the hypotheses of its clauses can hold. -/
theorem witness_GloingPairs :
    (∃ s : State, ∃ m : Nat, s.Settled ∧ m < 4096 ∧ s.bestPort = none) ∧
    (∃ s : State, ∃ m : Nat, ∃ k, ∃ i, ∃ rest : List (Packet × Issuer), ∃ q : Nat, s.Settled ∧ m < 4096 ∧ 
      (s.pair m).waiting = (k, i) :: rest ∧ s.bestPort = some q ∧ (s.pair m).up = true ∧ s.own ≠ 0xFFFF ∧ m ≠ s.own ∧
      (s.pair m).tx = [] ∧ linkBytes k ≤ s.pairWindow m ∧
      unacked (s.pairs.flatMap fun e => e.2.tx) + linkBytes k ≤ 12 * 2 ^ 20 ∧ sendIsAll k i = false) ∧
    (∃ s : State, ∃ m : Nat, ∃ k, ∃ i, ∃ rest : List (Packet × Issuer), ∃ q : Nat, s.Settled ∧ m < 4096 ∧ 
      (s.pair m).waiting = (k, i) :: rest ∧ s.bestPort = some q ∧ (s.pair m).up = true ∧ s.own ≠ 0xFFFF ∧ m ≠ s.own ∧
      (s.pair m).tx = [] ∧ linkBytes k ≤ s.pairWindow m ∧
      unacked (s.pairs.flatMap fun e => e.2.tx) + linkBytes k ≤ 12 * 2 ^ 20 ∧ sendIsAll k i = true) ∧
    (∃ s : State, ∃ m : Nat, ∃ q : Nat, s.Settled ∧ m < 4096 ∧ s.bestPort = some q ∧ (s.pair m).ackDue = true ∧
      (s.pair m).up = true ∧ (s.pair m).rx = []) ∧
    (∃ s : State, ∃ m : Nat, s.Settled ∧ m < 4096 ∧ (s.pair m).ackDue = false) ∧
    (∃ s : State, ∃ m : Nat, ∃ seq : Nat, ∃ o, ∃ q : Nat, s.Settled ∧ m < 4096 ∧ 
      ((s.pair m).tx.find? (fun o => decide (o.pkt.seq = seq) && o.port.isSome) = some o) ∧ s.bestPort = some q ∧
      s.own ≠ 0xFFFF ∧ o.tries < 7) ∧
    (∃ s : State, ∃ m : Nat, ∃ seq : Nat, ∃ o, ∃ q : Nat, s.Settled ∧ m < 4096 ∧ 
      ((s.pair m).tx.find? (fun o => decide (o.pkt.seq = seq) && o.port.isSome) = some o) ∧ s.bestPort = some q ∧
      s.own ≠ 0xFFFF ∧ 7 ≤ o.tries) ∧
    (∃ s : State, ∃ m : Nat, s.Settled ∧ m < 4096 ∧ m ≠ s.own ∧
      ((s.pair m).tx ≠ [] ∨ ((s.pair m).up = false ∧ (s.pair m).waiting ≠ []))) ∧
    (∃ s : State, ∃ m : Nat, s.Settled ∧ m < 4096 ∧ (s.pair m).tx = [] ∧ (s.pair m).waiting = []) ∧
    (∃ s : State, ∃ m : Nat, s.Settled ∧ m < 4096 ∧ (s.pair m).up = false ∧ (s.pair m).opening = false ∧ (s.pair m).waiting = []) ∧
    (∃ s : State, ∃ m : Nat, s.Settled ∧ m < 4096 ∧ (s.pair m).up = true ∧ (s.pair m).tx = [] ∧ s.reads = [] ∧
      s.later.contains .fence = false) ∧
    (∃ s : State, ∃ m : Nat, s.Settled ∧ m < 4096 ∧ (s.pair m).failed = true ∧ (s.pair m).opening = false ∧ s.member m = true ∧
      s.own ≠ 0xFFFF ∧ (∀ x ∈ (s.pair m).owed, s.cmd x.1 x.2 = none)) ∧
    (∃ s : State, ∃ m : Nat, s.Settled ∧ m < 4096 ∧ (s.pair m).failed = false) ∧
    (∃ s : State, ∃ m : Nat, s.Settled ∧ m < 4096 ∧ ∃ x ∈ (s.pair m).owed, (s.cmd x.1 x.2).isSome = true) ∧
    (∃ s : State, ∃ m : Nat, s.Settled ∧ m < 4096 ∧ s.member m = false) ∧
    (∃ s : State, ∃ m : Nat, s.Settled ∧ m < 4096 ∧ s.on = true ∧ s.own ≠ 0xFFFF ∧ s.member m = true ∧ (s.pair m).tx = [] ∧
      s.ent 0x4420 3 ≠ 1) ∧
    (∃ s : State, ∃ m : Nat, ∃ g : Nat, ∃ n : Bytes, s.Settled ∧ m < 4096 ∧ ((s.pair m).opening = false ∨ g ≠ ((s.pair m).gen + 1) % 2 ^ 16 ∨
      n.take 16 ≠ toBytes 16 (s.pair m).nonce.toNat)) ∧
    (∃ s : State, ∃ m : Nat, ∃ g : Nat, ∃ n : Bytes, s.Settled ∧ m < 4096 ∧ s.on = true ∧ (s.pair m).opening = true ∧ s.member m = true ∧
      g = ((s.pair m).gen + 1) % 2 ^ 16 ∧ n.take 16 = toBytes 16 (s.pair m).nonce.toNat) :=
  ⟨⟨base, 4095, rfl, by decide +kernel⟩,
   ⟨withPair { Pair.reset with up := true, waiting := [(pk0 0, .port)] }, 4095, pk0 0, Issuer.port,
     ([] : List (Packet × Issuer)), 2, rfl, by decide +kernel⟩,
   ⟨withPair { Pair.reset with up := true, waiting := [(pk0 0, .cmd 31 1)] }, 4095, pk0 0, Issuer.cmd 31 1,
     ([] : List (Packet × Issuer)), 2, rfl, by decide +kernel⟩,
   ⟨withPair { Pair.reset with up := true, ackDue := true }, 4095, 2, rfl, by decide +kernel⟩,
   ⟨base, 4095, rfl, by decide +kernel⟩,
   ⟨withPair { Pair.reset with up := true, tx := [txo 6] }, 4095, 0, txo 6, 2, rfl, by decide +kernel⟩,
   ⟨withPair { Pair.reset with up := true, tx := [txo 7] }, 4095, 0, txo 7, 2, rfl, by decide +kernel⟩,
   ⟨withPair { Pair.reset with up := true, tx := [txo 8] }, 4095, rfl, by decide +kernel⟩,
   ⟨fab, 4095, rfl, by decide +kernel⟩,
   ⟨base, 4095, rfl, by decide +kernel⟩,
   ⟨fab, 4095, rfl, by decide +kernel⟩,
   ⟨memb (withPair { Pair.reset with failed := true, owed := [(31, 1)] }), 4095, rfl, by decide +kernel⟩,
   ⟨base, 4095, rfl, by decide +kernel⟩,
   ⟨(hold1 done0).setPair 4095 { Pair.reset with owed := [(31, 1)] }, 4095, rfl, by decide +kernel⟩,
   ⟨base, 4095, rfl, by decide +kernel⟩,
   ⟨memb fab, 4095, rfl, by decide +kernel⟩,
   ⟨withPair { Pair.reset with opening := true }, 4095, 1, [1#8], rfl, by decide +kernel⟩,
   ⟨memb (withPair { Pair.reset with opening := true, gen := 65535 }), 4095, 0, List.replicate 32 0#8, rfl, by decide +kernel⟩⟩

/-- Obligations.RemoteAccess: the hypotheses of its clauses can hold. -/
theorem witness_RemoteAccess :
    (∃ s : State, ∃ k : Nat, s.Settled ∧ s.on = true ∧ k < 64 ∧ s.regF (paAtomic k 0x18) 1 1 = 1) ∧
    (∃ s : State, ∃ k : Nat, s.Settled ∧ s.on = true ∧ k < 64 ∧ s.regF (paAtomic k 0x18) 1 1 = 0 ∧
      ((regionOf (s.regF (paAtomic k 0) 55 4 * 16) ≠ .remote ∨ cisOpOk (s.regF (paAtomic k 0x18) 15 8) = false))) ∧
    (∃ s : State, ∃ k : Nat, s.Settled ∧ s.on = true ∧ k < 64 ∧ s.regF (paAtomic k 0x18) 1 1 = 0 ∧
      regionOf (s.regF (paAtomic k 0) 55 4 * 16) = .remote ∧ cisOpOk (s.regF (paAtomic k 0x18) 15 8) = true ∧ s.own = 0xFFFF) ∧
    (∃ s : State, ∃ core : Nat, ∃ pa : Nat, ∃ size : Nat, s.Settled ∧ s.on = true ∧ core < 96 ∧ pa < 2 ^ 56 ∧
      sizeOk size = true ∧ ((regionOf pa ≠ .remote ∨ (size ≠ 4 ∧
      size ≠ 8) ∨ pa % size ≠ 0 ∨ remotePermitted (remoteAddr pa) = false ∨ s.own = 0xFFFF))) ∧
    (∃ s : State, ∃ core : Nat, ∃ pa, ∃ size : Nat, s.Settled ∧ s.on = true ∧ core < 96 ∧ pa < 2 ^ 56 ∧ sizeOk size = true ∧
      regionOf pa = .remote ∧ ((size = 4 ∨ size = 8)) ∧ pa % size = 0 ∧ remotePermitted (remoteAddr pa) = true ∧
      s.own ≠ 0xFFFF ∧ remoteModule pa ≠ s.own ∧ (s.pair (remoteModule pa)).up = true ∧ s.mgmt.readId < 2 ^ 23) ∧
    (∃ s : State, ∃ core : Nat, ∃ pa : Nat, ∃ size : Nat, s.Settled ∧ s.on = true ∧ core < 96 ∧ pa < 2 ^ 56 ∧
      sizeOk size = true ∧ ((regionOf pa ≠ .remote ∨ size ≠ 8 ∨ pa % 8 ≠ 0 ∨ pageReg (remoteAddr pa) = .none))) ∧
    (∃ s : State, ∃ core : Nat, ∃ pa, ∃ size : Nat, s.Settled ∧ s.on = true ∧ core < 96 ∧ pa < 2 ^ 56 ∧ sizeOk size = true ∧
      regionOf pa = .remote ∧ size = 8 ∧ pa % 8 = 0 ∧ pageReg (remoteAddr pa) ≠ .none ∧ s.own ≠ 0xFFFF ∧
      remoteModule pa ≠ s.own ∧ (s.pair (remoteModule pa)).up = true) ∧
    (∃ s : State, ∃ num : Nat, ∃ nonce, ∃ time : Nat, s.Settled ∧ s.on = true ∧ num < 4096 ∧ s.blob 0x4010 1 ≠ [] ∧
      nonce = s.mgmt.nonce ∧ s.timely time = true) ∧
    (∃ s : State, ∃ num : Nat, ∃ nonce : BitVec 128, ∃ time : Nat, s.Settled ∧ s.on = true ∧
      ((nonce ≠ s.mgmt.nonce ∨ 4096 ≤ num ∨ s.timely time = false ∨ s.blob 0x4010 1 = []))) ∧
    (∃ s : State, ∃ time : Nat, s.Settled ∧ s.on = true ∧ ((s.blob 0x4010 1 = [] ∨ s.timely time = false))) ∧
    (∃ s : State, ∃ c : MemberChange, s.Settled ∧ s.on = true ∧ c.num < 4096 ∧ c.join = true) ∧
    (∃ s : State, ∃ c : MemberChange, s.Settled ∧ s.on = true ∧ c.num = s.own ∧ c.num < 4096 ∧ c.join = false ∧
      (∀ e ∈ s.pairs, e.2.tx = [] ∧ e.2.waiting = []) ∧ s.reads = [] ∧ s.ent 0x4420 3 ≠ 1) ∧
    (∃ s : State, ∃ time : Nat, s.Settled ∧ s.on = true ∧ s.blob 0x4010 1 ≠ [] ∧ s.timely time = true) ∧
    (∃ s : State, ∃ p : Nat, ∃ dom : Nat, s.Settled ∧ s.on = true ∧ p < 3 ∧
      (s.portUp p = false ∨ s.ent 0x4300 3 = 0 ∨ dom ≠ s.ent 0x4300 4 ∨ s.mgmt.ptpPort.any (fun q => decide (q ≠ p)) = true)) ∧
    (∃ s : State, ∃ p : Nat, ∃ off : Int, s.Settled ∧ s.on = true ∧ p < 3 ∧ s.portUp p = true ∧ s.ent 0x4300 3 ≠ 0 ∧
      (s.mgmt.ptpPort = none ∨ s.mgmt.ptpPort = some p) ∧ s.ctl.ptpLocked = false ∧ 0 ≤ off ∧ s.house + off.toNat < 2 ^ 64) ∧
    (∃ s : State, ∃ p : Nat, ∃ off : Int, s.Settled ∧ s.on = true ∧ p < 3 ∧ s.portUp p = true ∧ s.ent 0x4300 3 ≠ 0 ∧
      (s.mgmt.ptpPort = none ∨ s.mgmt.ptpPort = some p) ∧ s.ctl.ptpLocked = false ∧ off < 0) ∧
    (∃ s : State, ∃ p : Nat, s.Settled ∧ s.on = true ∧ p < 3 ∧ s.portUp p = true ∧ s.ent 0x4300 3 ≠ 0 ∧
      (s.mgmt.ptpPort = none ∨ s.mgmt.ptpPort = some p) ∧ s.ctl.ptpLocked = true ∧
      s.house + (s.house - s.ctl.slewAt) / 10000 < 2 ^ 64) :=
  ⟨⟨base.setRegF (paAtomic 63 0x18) 1 1 1, 63, rfl, by decide +kernel⟩,
   ⟨base, 63, rfl, by decide +kernel⟩,
   ⟨(base.setReg (paAtomic 63 0) (BitVec.ofNat 64 remPa)).setReg (paAtomic 63 0x18) 0#64, 63, rfl, by decide +kernel⟩,
   ⟨base, 95, 0x1000000000, 8, rfl, by decide +kernel⟩,
   ⟨fab, 95, remPa, 8, rfl, by decide +kernel⟩,
   ⟨base, 95, 0x1000000000, 8, rfl, by decide +kernel⟩,
   ⟨fab, 95, 0x80000000000000 + 4095 * 2 ^ 43 + 0x60000000, 8, rfl, by decide +kernel⟩,
   ⟨base.setBlob 0x4010 1 [1#8], 4095, (base.setBlob 0x4010 1 [1#8]).mgmt.nonce, 5340000000, rfl, by decide +kernel⟩,
   ⟨base, 4096, 0#128, 0, rfl, by decide +kernel⟩,
   ⟨base, 0, rfl, by decide +kernel⟩,
   ⟨base, (⟨4095, [1#8], [], true⟩ : MemberChange), rfl, by decide +kernel⟩,
   ⟨fab, (⟨5, [1#8], [], false⟩ : MemberChange), rfl, by decide +kernel⟩,
   ⟨base.setBlob 0x4010 1 [1#8], 5340000000, rfl, by decide +kernel⟩,
   ⟨base, 2, 0, rfl, by decide +kernel⟩,
   ⟨fab.setEnt 0x4300 3 1, 2, (1 : Int), rfl, by decide +kernel⟩,
   ⟨fab.setEnt 0x4300 3 1, 2, (-1 : Int), rfl, by decide +kernel⟩,
   ⟨{ fab.setEnt 0x4300 3 1 with ctl := { fab.ctl with ptpLocked := true } }, 2, rfl, by decide +kernel⟩⟩

/-- Obligations.ThermostatAndDroop: the hypotheses of its clauses can hold. -/
theorem witness_ThermostatAndDroop :
    (∃ s : State, s.Settled ∧ s.firmware = false) ∧
    (∃ s : State, ∃ m : InputMeasure, s.Settled ∧ s.firmware = true ∧ (s.meterInput m).1 = 0) ∧
    (∃ s : State, ∃ m : InputMeasure, s.Settled ∧ s.firmware = true ∧ (s.meterInput m).1 ≠ 0) ∧
    (∃ s : State, ∃ m : InputMeasure, ∃ ex : Nat, s.Settled ∧ ex ≤ s.hearthPower ∧ m.mv ≠ 0) ∧
    (∃ s : State, ∃ m : InputMeasure, s.Settled ∧ s.inputClear m = false) ∧
    (∃ s : State, ∃ m : InputMeasure, ∃ d : Nat, s.Settled ∧ s.firmware = true ∧ s.inputClear m = true ∧ d < 4 ∧
      s.dieUp d = true ∧ (s.die d).skip ≠ 0) ∧
    (∃ s : State, ∃ m : InputMeasure, s.Settled ∧ s.firmware = true ∧ s.inputClear m = true ∧ ((∀ d,
      d < 4 → s.dieUp d = true → (s.die d).skip = 0)) ∧ s.ctl.hcoreCaps ≠ []) ∧
    (∃ s : State, ∃ m : InputMeasure, s.Settled ∧ s.firmware = true ∧ s.inputClear m = true ∧ ((∀ d,
      d < 4 → s.dieUp d = true → (s.die d).skip = 0)) ∧ s.ctl.hcoreCaps = []) ∧
    (∃ s : State, s.Settled ∧ s.on = true) ∧
    (∃ s : State, ∃ d : Nat, s.Settled ∧ s.ctl.missed = true ∧ s.ent 0x2200 (d + 1) < 3) ∧
    (∃ s : State, ∃ d : Nat, s.Settled ∧ s.ent 0x2200 (d + 1) = 3) ∧
    (∃ s : State, ∃ w : Nat, s.Settled ∧ w < 32 ∧ s.wingUp w = true ∧ (s.wing w).droop = false) ∧
    (∃ s : State, ∃ w : Nat, s.Settled ∧ w < 32 ∧ ((s.wingUp w = false ∨ (s.wing w).droop = true))) ∧
    (∃ s : State, ∃ w : Nat, s.Settled ∧ w < 32 ∧ s.wingUp w = true ∧ (s.wing w).droop = true) ∧
    (∃ s : State, ∃ c : Nat, s.Settled ∧ c ∈ s.lowerable) ∧
    (∃ s : State, ∃ c : Nat, s.Settled ∧ c ∉ s.lowerable) ∧
    (∃ s : State, ∃ d : Nat, s.Settled ∧ d ∈ s.skippable) ∧
    (∃ s : State, ∃ d : Nat, s.Settled ∧ d ∉ s.skippable) :=
  ⟨⟨{ base with mgmt := { base.mgmt with sculleryUp := false } }, rfl, by decide +kernel⟩,
   ⟨base, im0, rfl, by decide +kernel⟩,
   ⟨base, { im0 with mw := 4000000 }, rfl, by decide +kernel⟩,
   ⟨base, im0, 0, rfl, Nat.zero_le _, by decide +kernel⟩,
   ⟨base, { im0 with mw := 4000000 }, rfl, by decide +kernel⟩,
   ⟨skipping 15, im0, 3, rfl, by decide +kernel⟩,
   ⟨base.setCtl { base.ctl with hcoreCaps := [(3, 3199)] }, im0, rfl, by decide +kernel⟩,
   ⟨base, im0, rfl, by decide +kernel⟩,
   ⟨base, rfl, by decide +kernel⟩,
   ⟨base.setCtl { base.ctl with missed := true }, 3, rfl, by decide +kernel⟩,
   ⟨(base.setCtl { base.ctl with missed := true }).setEnt 0x2200 4 3, 3, rfl, by decide +kernel⟩,
   ⟨base, 31, rfl, by decide +kernel⟩,
   ⟨base.setWing 31 { Wing.reset with droop := true }, 31, rfl, by decide +kernel⟩,
   ⟨base.setWing 31 { Wing.reset with droop := true }, 31, rfl, by decide +kernel⟩,
   ⟨base.setEnt 0x2020 4 1050, 3, rfl, by decide +kernel⟩,
   ⟨base.setEnt 0x2020 4 1000, 3, rfl, by decide +kernel⟩,
   ⟨skipping 14, 3, rfl, by decide +kernel⟩,
   ⟨skipping 15, 3, rfl, by decide +kernel⟩⟩

/-- Obligations.StepBoundaries: the hypotheses of its clauses can hold. -/
theorem witness_StepBoundaries :
    (∃ s : State, s.Settled ∧ s.on = false) ∧
    (∃ s : State, s.Settled ∧ s.on = true) ∧
    (∃ s : State, ∃ l : Nat, s.Settled ∧ s.on = true ∧ s.ctl.lenNext = some (l, 1)) ∧
    (∃ s : State, ∃ l : Nat, s.Settled ∧ s.on = true ∧ s.ctl.lenNext = some (l, 2)) ∧
    (∃ s : State, ∃ w : Nat, s.Settled ∧ s.on = true ∧ w < 32 ∧ s.wingUp w = false) :=
  ⟨⟨off0, rfl, by decide +kernel⟩,
   ⟨base, rfl, by decide +kernel⟩,
   ⟨base.setCtl { base.ctl with lenNext := some (100000, 1) }, 100000, rfl, by decide +kernel⟩,
   ⟨base.setCtl { base.ctl with lenNext := some (100000, 2) }, 100000, rfl, by decide +kernel⟩,
   ⟨dieAt 1, 31, rfl, by decide +kernel⟩⟩

/-- Obligations.StepsAndLedger: the hypotheses of its clauses can hold. -/
theorem witness_StepsAndLedger :
    (∃ s : State, ∃ h : Nat, s.Settled ∧ ((s.on = false ∨ s.ent 0x4310 8 = 0 ∨ h < 200))) ∧
    (∃ s : State, ∃ t : Nat, ∃ h : Nat, s.Settled ∧ s.on = true ∧ s.ent 0x4310 8 ≠ 0 ∧ 200 ≤ h ∧
      s.ctl.prevBound + s.ctl.nextBound ≤ 2 * t ∧ s.ctl.early = true) ∧
    (∃ s : State, ∃ t : Nat, ∃ h : Nat, s.Settled ∧ s.on = true ∧ s.ent 0x4310 8 ≠ 0 ∧ 200 ≤ h ∧
      s.ctl.prevBound + s.ctl.nextBound ≤ 2 * t ∧ s.ctl.early = false ∧ 4 * ((t : Int) - s.ctl.nextBound).natAbs ≤ s.ctl.len) ∧
    (∃ s : State, ∃ t : Nat, ∃ h : Nat, s.Settled ∧ s.on = true ∧ s.ent 0x4310 8 ≠ 0 ∧ 200 ≤ h ∧
      s.ctl.prevBound + s.ctl.nextBound ≤ 2 * t ∧ s.ctl.early = false ∧ s.ctl.len < 4 * ((t : Int) - s.ctl.nextBound).natAbs) ∧
    (∃ s : State, ∃ v : Nat, s.Settled ∧ s.firmware = true ∧ ((v < 100000 ∨ 100000000 < v ∨ v % 1000 ≠ 0))) ∧
    (∃ s : State, ∃ v : Nat, s.Settled ∧ s.firmware = true ∧ 100000 ≤ v ∧ v ≤ 100000000 ∧ v % 1000 = 0 ∧ ((∀ i,
      i < 4 → s.ent 0x2100 (i + 1) = 0 ∧ s.ep i 3 = 0))) ∧
    (∃ s : State, ∃ i : Nat, s.Settled ∧ i < 4 ∧ ((s.ent 0x2100 (i + 1) ≠ 0 ∨ s.ep i 3 ≠ 0))) ∧
    (∃ s : State, s.Settled ∧ s.ctl.ledger = []) ∧
    (∃ s : State, s.Settled ∧ s.ent 0x6000 7 = 0) ∧
    (∃ s : State, ∃ r, ∃ rest, s.Settled ∧ s.on = true ∧ s.ctl.ledger = r :: rest ∧ s.ent 0x6000 7 ≠ 0 ∧
      (s.ent 0x6000 4 + 1) % 2 ^ s.ent 0x6000 2 ≠ s.ent 0x6000 3 % 2 ^ s.ent 0x6000 2 ∧
      ((s.ent 0x6000 5 = 0 ∨ fld (lget 0#64 r 0).toNat 55 54 ≠ 2))) ∧
    (∃ s : State, ∃ r, ∃ rest, s.Settled ∧ s.on = true ∧ s.ctl.ledger = r :: rest ∧ s.ent 0x6000 7 ≠ 0 ∧
      (s.ent 0x6000 4 + 1) % 2 ^ s.ent 0x6000 2 ≠ s.ent 0x6000 3 % 2 ^ s.ent 0x6000 2 ∧ s.ent 0x6000 5 ≠ 0 ∧
      fld (lget 0#64 r 0).toNat 55 54 = 2) ∧
    (∃ s : State, ∃ tail : Nat, ∃ n : Nat, s.Settled ∧ tail + 1 ≠ n) ∧
    (∃ s : State, ∃ tail : Nat, ∃ n : Nat, s.Settled ∧ tail + 1 = n) :=
  ⟨⟨base, 199, rfl, by decide +kernel⟩,
   ⟨(base.setEnt 0x4310 8 1).setCtl { base.ctl with early := true }, 5331000000, 200, rfl, by decide +kernel⟩,
   ⟨base.setEnt 0x4310 8 1, 5331250000, 200, rfl, by decide +kernel⟩,
   ⟨base.setEnt 0x4310 8 1, 5331250001, 200, rfl, by decide +kernel⟩,
   ⟨base, 99999, rfl, by decide +kernel⟩,
   ⟨base, 100000000, rfl, by decide +kernel⟩,
   ⟨base.setEnt 0x2100 4 1, 3, rfl, by decide +kernel⟩,
   ⟨base, rfl, by decide +kernel⟩,
   ⟨base.setEnt 0x6000 7 0, rfl, by decide +kernel⟩,
   ⟨ledg 1, lrec 1, ([] : List (List (BitVec 64))), rfl, by decide +kernel⟩,
   ⟨(ledg 2).setEnt 0x6000 5 0x10000000000, lrec 2, ([] : List (List (BitVec 64))), rfl, by decide +kernel⟩,
   ⟨base, 254, 256, rfl, by decide +kernel⟩,
   ⟨base, 255, 256, rfl, by decide +kernel⟩⟩

/-- Obligations.FleetFrequencies: the hypotheses of its clauses can hold. -/
theorem witness_FleetFrequencies :
    (∃ s : State, ∃ c : Nat, ∃ mhz : Nat, s.Settled ∧ c < 4 ∧ s.on = true ∧ 400 ≤ mhz ∧ mhz ≤ 3200) ∧
    (∃ s : State, ∃ c : Nat, ∃ mhz : Nat, s.Settled ∧ c < 4 ∧ ((mhz < 400 ∨ 3200 < mhz))) ∧
    (∃ s : State, ∃ c : Nat, s.Settled ∧ 400 ≤ s.ent 0x2020 (c + 1)) ∧
    (∃ s : State, s.Settled ∧ s.ctl.missed = true) ∧
    (∃ s : State, ∃ mhz : Nat, s.Settled ∧ s.firmware = true ∧ ((mhz < 600 ∨ 2000 < mhz ∨ mhz % 25 ≠ 0))) ∧
    (∃ s : State, ∃ mhz : Nat, s.Settled ∧ s.firmware = true ∧ 600 ≤ mhz ∧ mhz ≤ 2000 ∧ mhz % 25 = 0 ∧ s.manager = false) ∧
    (∃ s : State, ∃ src : Nat, s.Settled ∧ s.firmware = true ∧ s.manager = false ∧ src ≠ 0xFFFF) ∧
    (∃ s : State, ∃ job : Nat, ∃ i : Nat, s.Settled ∧ i ∈ s.jobSuites job) ∧
    (∃ s : State, ∃ job : Nat, ∃ i : Nat, s.Settled ∧ i ∉ s.jobSuites job) ∧
    (∃ s : State, s.Settled ∧ s.firmware = true ∧ s.manager = true) ∧
    (∃ s : State, ∃ c : Nat, s.Settled ∧ c < 4 ∧ s.on = true) ∧
    (∃ s : State, ∃ c : Nat, s.Settled ∧ s.ctl.missed = false ∧ 400 ≤ tget 0 s.ctl.hcoreCaps c) ∧
    (∃ s : State, s.Settled ∧ s.firmware = true ∧ s.manager = false) ∧
    (∃ s : State, ∃ i : Nat, ∃ k : Nat, s.Settled ∧ (s.fleetOf i).freq = 2000 ∧ k ≠ 0 ∧ s.suiteSkip i = (8 * k, k)) ∧
    (∃ f : Fleet, ∃ n : Nat, ∃ b : Nat, ∃ mhz : Nat, ∃ l, f.byStep = some (b, mhz, l) ∧ b ≤ n) ∧
    (∃ f : Fleet, ∃ n : Nat, ∃ b : Nat, ∃ mhz : Nat, ∃ l, f.byStep = some (b, mhz, l) ∧ n < b) ∧
    (∃ f : Fleet, ∃ v : Nat, f.due = [(1, 0x2101, v)] ∧ f.byStep = none) ∧
    (∃ f : Fleet, ∃ x : Nat × Nat, f.due = [(2, x)] ∧ f.byStep = none) :=
  ⟨⟨base, 3, 3200, rfl, by decide +kernel⟩,
   ⟨base, 3, 399, rfl, by decide +kernel⟩,
   ⟨base.setEnt 0x2020 4 400, 3, rfl, by decide +kernel⟩,
   ⟨base.setCtl { base.ctl with missed := true }, rfl, by decide +kernel⟩,
   ⟨base, 2001, rfl, by decide +kernel⟩,
   ⟨base, 2000, rfl, by decide +kernel⟩,
   ⟨base, 0, rfl, by decide +kernel⟩,
   ⟨base.setEnt 0x2100 1 1, 1, 0, rfl, by decide +kernel⟩,
   ⟨base, 1, 0, rfl, by decide +kernel⟩,
   ⟨base.setEnt 0x4400 1 1, rfl, by decide +kernel⟩,
   ⟨base, 3, rfl, by decide +kernel⟩,
   ⟨base.setCtl { base.ctl with hcoreCaps := [(3, 1000)] }, 3, rfl, by decide +kernel⟩,
   ⟨base, rfl, by decide +kernel⟩,
   ⟨(base.setDie 3 { Die.reset with lastSkip := (8, 1) }).setFleet 0 { Fleet.reset with freq := 2000 }, 0, 1, rfl, by decide +kernel⟩,
   ⟨{ Fleet.reset with byStep := some (9, 2000, false) }, 9, 9, 2000, false, by decide +kernel⟩,
   ⟨{ Fleet.reset with byStep := some (9, 2000, false) }, 8, 9, 2000, false, by decide +kernel⟩,
   ⟨{ Fleet.reset with due := [(1, 0x2101, 600)] }, 600, by decide +kernel⟩,
   ⟨{ Fleet.reset with due := [(2, 0x2102, 1)] }, (0x2102, 1), by decide +kernel⟩⟩

/-- Obligations.BandsHearthAndSleep: the hypotheses of its clauses can hold. -/
theorem witness_BandsHearthAndSleep :
    (∃ s : State, ∃ d : Nat, s.Settled ∧ d < 5 ∧ s.on = false) ∧
    (∃ s : State, ∃ d : Nat, ∃ t : Nat, s.Settled ∧ d < 5 ∧ s.on = true ∧ t < 120 ∧ s.ent 0x2200 (d + 1) < dieBandOf t) ∧
    (∃ s : State, ∃ d : Nat, ∃ t : Nat, s.Settled ∧ d < 5 ∧ s.on = true ∧ s.ent 0x2200 (d + 1) = 3 ∧ 102 < t ∧ t ≤ 105) ∧
    (∃ s : State, ∃ d : Nat, ∃ t : Nat, s.Settled ∧ d < 5 ∧ s.on = true ∧ 120 ≤ t) ∧
    (∃ s : State, ∃ d : Nat, s.Settled ∧ d < 5 ∧ (s.die d).critAt = none) ∧
    (∃ s : State, ∃ d : Nat, ∃ a : Nat, s.Settled ∧ d < 4 ∧ s.on = true ∧ (s.die d).critAt = some a ∧ s.ent 0x2200 (d + 1) = 3) ∧
    (∃ s : State, s.Settled ∧ s.on = true ∧ s.ent 0x2300 6 = 1 ∧ s.ent 0x2300 7 ≠ 1 ∧ s.ctl.above = false ∧ s.liveRooms ≠ [] ∧
      (s.ent 0x2300 1 * s.liveRooms.length ≤ (s.liveRooms.filter fun g => s.roomWaits g).length * 100)) ∧
    (∃ s : State, s.Settled ∧ s.on = true ∧ s.ent 0x2300 7 = 1 ∧
      ((s.liveRooms.filter fun g => s.roomWaits g).length * 100 < s.ent 0x2300 1 * s.liveRooms.length)) ∧
    (∃ s : State, s.Settled ∧ s.on = true ∧ s.ent 0x2300 7 = 2 ∧ 0 < s.ctl.iref * s.ent 0x2300 3 / 100 ∧
      s.ctl.iref * s.ent 0x2300 3 / 100 < s.ctl.target) ∧
    (∃ s : State, s.Settled ∧ s.on = true ∧ s.ent 0x2300 7 = 2 ∧
      (s.ctl.target ≤ s.ctl.iref * s.ent 0x2300 3 / 100 ∨ s.ctl.iref * s.ent 0x2300 3 / 100 = 0)) ∧
    (∃ s : State, s.Settled ∧ s.ent 0x2300 7 ≠ 2) ∧
    (∃ s : State, ∃ w : Nat, s.Settled ∧ w < 32 ∧ ((s.ent 0x2500 1 = 0 ∨ (s.wing w).cmds ≠ [] ∨ s.porch.wake = true))) ∧
    (∃ s : State, ∃ w : Nat, s.Settled ∧ w < 32 ∧ s.wingUp w = true ∧ (s.wing w).power = .running ∧ s.ent 0x2500 1 ≠ 0 ∧
      s.porch.wake = false ∧ (s.wing w).cmds = [] ∧ (∀ q, q < 128 → s.qon w q = true → s.pendingEntries w q = 0)) ∧
    (∃ s : State, ∃ w : Nat, s.Settled ∧ w < 32 ∧ s.wingUp w = true ∧ (s.wing w).power = .sleeping) ∧
    (∃ s : State, ∃ w : Nat, s.Settled ∧ w < 32 ∧ (s.wing w).power ≠ .sleeping) ∧
    (∃ s : State, ∃ w : Nat, s.Settled ∧ w < 32 ∧ s.wingUp w = true ∧ (s.wing w).power = .waking) ∧
    (∃ s : State, ∃ w : Nat, s.Settled ∧ w < 32 ∧ (s.wing w).power ≠ .waking) ∧
    (∃ s : State, s.Settled ∧ s.on = true ∧ s.ent 0x2300 7 = 1) ∧
    (∃ s : State, s.Settled ∧ s.on = true ∧ s.ent 0x2300 7 ≠ 1) :=
  ⟨⟨off0, 4, rfl, by decide +kernel⟩,
   ⟨base, 4, 119, rfl, by decide +kernel⟩,
   ⟨base.setEnt 0x2200 5 3, 4, 103, rfl, by decide +kernel⟩,
   ⟨base, 4, 120, rfl, by decide +kernel⟩,
   ⟨base, 4, rfl, by decide +kernel⟩,
   ⟨hot 0, 3, 0, rfl, by decide +kernel⟩,
   ⟨((base.setEnt 0x2300 6 1).setEnt 0x2300 7 0).setEnt 0x2300 1 0, rfl, by decide +kernel⟩,
   ⟨hearth 1, rfl, by decide +kernel⟩,
   ⟨((hearth 2).setEnt 0x2300 3 50).setCtl { base.ctl with iref := 4, target := 3 }, rfl, by decide +kernel⟩,
   ⟨((hearth 2).setEnt 0x2300 3 50).setCtl { base.ctl with iref := 4, target := 2 }, rfl, by decide +kernel⟩,
   ⟨base, rfl, by decide +kernel⟩,
   ⟨base.setEnt 0x2500 1 0, 31, rfl, by decide +kernel⟩,
   ⟨asleep .running, 31, rfl, by decide +kernel⟩,
   ⟨asleep .sleeping, 31, rfl, by decide +kernel⟩,
   ⟨base, 31, rfl, by decide +kernel⟩,
   ⟨asleep .waking, 31, rfl, by decide +kernel⟩,
   ⟨base, 31, rfl, by decide +kernel⟩,
   ⟨hearth 1, rfl, by decide +kernel⟩,
   ⟨hearth 2, rfl, by decide +kernel⟩⟩

/-- Obligations.WindowRange: the hypotheses of its clauses can hold. -/
theorem witness_WindowRange :
    (∃ k : Nat, ∃ b : Bytes, 1 ≤ k ∧ k ≤ 4 ∧ b.length = 4 ∧ ((toSigned 32 (ofBytes b) < -512 ∨ 511 < toSigned 32 (ofBytes b)))) ∧
    (∃ k : Nat, ∃ b : Bytes, 1 ≤ k ∧ k ≤ 4 ∧ b.length = 1 ∧ ((ofBytes b < 4 ∨ 24 < ofBytes b))) ∧
    (∃ s : State, ∃ k : Nat, ∃ m : DictMsg, ∃ x : DictItem, s.Settled ∧ 1 ≤ k ∧ k ≤ 4 ∧ s.firmware = true ∧
      m.path = .letterbox ∧ m.ver = 1#4 ∧ m.kind = 0#4 ∧ m.formOk = true ∧ m.session = 0 ∧ m.target = 0 ∧ m.items = [x] ∧
      x.sub = k ∧ x.len = x.value.length ∧ ((x.index = 0x8010 ∧ x.ity = 6#8 ∧ x.len = 4 ∧
      (toSigned 32 (ofBytes x.value) < -512 ∨ 511 < toSigned 32 (ofBytes x.value)) ∨ x.index = 0x8011 ∧ x.ity = 2#8 ∧
      x.len = 1 ∧ (ofBytes x.value < 4 ∨ 24 < ofBytes x.value)))) :=
  ⟨⟨4, toBytes 4 512, by decide +kernel⟩,
   ⟨4, [25#8], by decide +kernel⟩,
   ⟨base, 4, msg .letterbox 0 [item 0x8011 4 2 [3#8]], item 0x8011 4 2 [3#8], rfl, by decide +kernel⟩⟩

/-- Obligations.DictionaryItems: the hypotheses of its clauses can hold. -/
theorem witness_DictionaryItems :
    (∃ i : Nat, ∃ k : Nat, dictEntry i k = none) ∧
    (∃ s : State, ∃ i : Nat, ∃ k : Nat, ∃ r, dictEntry i k = some r ∧ 0xA000 ≤ i ∧ s.inTest = false ∧ i ≠ 0xA000) ∧
    (∃ i : Nat, ∃ k : Nat, ∃ r, dictEntry i k = some r ∧ i < 0xA000 ∧ ((r.acc = .ro ∨ r.acc = .const))) ∧
    (∃ i : Nat, ∃ k : Nat, ∃ ity : Nat, ∃ r, dictEntry i k = some r ∧ i < 0xA000 ∧ r.acc ≠ .ro ∧ r.acc ≠ .const ∧
      ity ≠ r.ty.code) ∧
    (∃ i : Nat, ∃ k : Nat, ∃ ity : Nat, ∃ b : Bytes, ∃ r, dictEntry i k = some r ∧ i < 0xA000 ∧ r.acc ≠ .ro ∧ r.acc ≠ .const ∧
      ity = r.ty.code ∧ r.ty.isBytes = false ∧ b.length ≠ r.ty.size) ∧
    (∃ s : State, ∃ i : Nat, ∃ k : Nat, ∃ ity : Nat, ∃ b : Bytes, ∃ r, dictEntry i k = some r ∧ i < 0xA000 ∧ r.acc ≠ .ro ∧
      r.acc ≠ .const ∧ ity = r.ty.code ∧ r.ty.isBytes = false ∧ b.length = r.ty.size ∧ s.rangeOk r i k (ofBytes b) = false) ∧
    (∃ s : State, ∃ i : Nat, ∃ k : Nat, ∃ ity : Nat, ∃ b : Bytes, ∃ r, dictEntry i k = some r ∧ i < 0xA000 ∧ r.acc ≠ .ro ∧
      r.acc ≠ .const ∧ ity = r.ty.code ∧ r.ty.isBytes = false ∧ b.length = r.ty.size ∧ s.rangeOk r i k (ofBytes b) = true ∧
      r.acc = .rwq ∧ s.quiet i k = false) ∧
    (∃ i : Nat, ∃ k : Nat, ∃ ity : Nat, ∃ b : Bytes, ∃ r, dictEntry i k = some r ∧ i < 0xA000 ∧ r.acc ≠ .ro ∧ r.acc ≠ .const ∧
      ity = r.ty.code ∧ r.ty.isBytes = true ∧ lengthOk r i k b.length = true) ∧
    (∃ s : State, ∃ path : Path, ∃ sess : Nat, ∃ i : Nat, ∃ k : Nat, ∃ ity : Nat, ∃ b : Bytes,
      (s.writeEntry path sess i k ity b).1 ≠ 0 ∧ i ≠ 0x8101 ∧ i ≠ 0x8102) ∧
    (∃ s : State, ∃ path : Path, ∃ sess : Nat, ∃ i : Nat, ∃ k : Nat, ∃ ity : Nat, ∃ b : Bytes,
      (s.writeEntry path sess i k ity b).1 ≠ 0 ∧ (s.writeEntry path sess i k ity b).2 = s.setEnt 0x8100 3 0x0900FF00) ∧
    (∃ s : State, ∃ m : DictMsg, (s.doWrite m).1.1 ≠ 0) ∧
    (∃ s : State, ∃ m : DictMsg, m.offset ≠ (s.seg m).length) ∧
    (∃ s : State, ∃ m : DictMsg, ∃ x : DictItem, m.offset = (s.seg m).length ∧ bitOf x.flags.toNat 0 = false) :=
  ⟨⟨0x1000, 99, by decide +kernel⟩,
   ⟨base, 0xA100, 1, (dictEntry 0xA100 1).get (by decide), by decide +kernel⟩,
   ⟨0x1010, 1, (dictEntry 0x1010 1).get (by decide), by decide +kernel⟩,
   ⟨0x8010, 1, 5, (dictEntry 0x8010 1).get (by decide), by decide +kernel⟩,
   ⟨0x8010, 1, 6, [0#8], (dictEntry 0x8010 1).get (by decide), by decide +kernel⟩,
   ⟨base, 0x8010, 1, 6, toBytes 4 512, (dictEntry 0x8010 1).get (by decide), by decide +kernel⟩,
   ⟨tierOn base, 0x3100, 1, ((dictEntry 0x3100 1).get (by decide)).ty.code,
     toBytes ((dictEntry 0x3100 1).get (by decide)).ty.size 0x10000000000, (dictEntry 0x3100 1).get (by decide),
     by decide +kernel⟩,
   ⟨0x7010, 1, ((dictEntry 0x7010 1).get (by decide)).ty.code, [], (dictEntry 0x7010 1).get (by decide), by decide +kernel⟩,
   ⟨base, .field 0, 0, 0x1000, 99, 6, [0#8], by decide +kernel⟩,
   ⟨base, .field 0, 0, 0x8101, 1, 8, [1#8], by decide +kernel⟩,
   ⟨base, msg .letterbox 0 [item 0x1000 99 6 []], by decide +kernel⟩,
   ⟨base, { msg .letterbox 0 [] with offset := 1 }, by decide +kernel⟩,
   ⟨base, msg .letterbox 0 [], item 0x7010 1 0 [1#8], by decide +kernel⟩⟩

/-- Obligations.DictionaryRequests: the hypotheses of its clauses can hold. -/
theorem witness_DictionaryRequests :
    (∃ s : State, ∃ m : DictMsg, ∃ o : Nat × (DictMsg → Instr), s.Settled ∧
      (o ∈ ([(1, Instr.read), (2, Instr.write), (3, Instr.readSeg), (4, Instr.writeSeg)] : List (Nat × (DictMsg → Instr)))) ∧
      s.firmware = true ∧ m.path = .letterbox ∧ m.ver = 1#4 ∧ m.kind = 0#4 ∧ m.formOk = true ∧ bodyOk o.1 m = true ∧
      m.session = 0 ∧ m.target = 0 ∧ (s.perform o.1 m).2.firmware = true) ∧
    (∃ s : State, ∃ m : DictMsg, ∃ o : Nat × (DictMsg → Instr), s.Settled ∧
      (o ∈ ([(1, Instr.read), (2, Instr.write), (3, Instr.readSeg), (4, Instr.writeSeg)] : List (Nat × (DictMsg → Instr)))) ∧
      s.firmware = true ∧ m.path = .letterbox ∧ ((m.ver ≠ 1#4 ∨ m.formOk = false ∨ bodyOk o.1 m = false ∨ m.session ≠ 0)) ∧
      m.kind ≠ 1#4) ∧
    (∃ s : State, ∃ m : DictMsg, ∃ o : Nat × (DictMsg → Instr), s.Settled ∧
      (o ∈ ([(1, Instr.read), (2, Instr.write), (3, Instr.readSeg), (4, Instr.writeSeg)] : List (Nat × (DictMsg → Instr)))) ∧
      s.firmware = true ∧ m.path = .letterbox ∧ m.kind = 1#4) ∧
    (∃ s : State, ∃ m : DictMsg, ∃ o : Nat × (DictMsg → Instr), ∃ g : Nat, s.Settled ∧
      (o ∈ ([(1, Instr.read), (2, Instr.write), (3, Instr.readSeg), (4, Instr.writeSeg)] : List (Nat × (DictMsg → Instr)))) ∧
      s.firmware = true ∧ m.path = .gloing g ∧ m.ver = 1#4 ∧ m.kind = 0#4 ∧ m.formOk = true ∧ bodyOk o.1 m = true ∧
      m.session = 0 ∧ s.kept m = none ∧ (¬ (o.1 = 1 ∧ m.items.all openItem = true))) ∧
    (∃ s : State, ∃ m : DictMsg, ∃ o : Nat × (DictMsg → Instr), ∃ g : Nat, ∃ a : Answer, s.Settled ∧
      (o ∈ ([(1, Instr.read), (2, Instr.write), (3, Instr.readSeg), (4, Instr.writeSeg)] : List (Nat × (DictMsg → Instr)))) ∧
      s.firmware = true ∧ m.path = .gloing g ∧ m.session = 0 ∧ s.kept m = some a) ∧
    (∃ s : State, ∃ m : DictMsg, ∃ o : Nat × (DictMsg → Instr), ∃ g : Nat, ∃ x, s.Settled ∧
      (o ∈ ([(1, Instr.read), (2, Instr.write), (3, Instr.readSeg), (4, Instr.writeSeg)] : List (Nat × (DictMsg → Instr)))) ∧
      m.tag ≠ Config.hmac512t x.key m.raw ∧ s.firmware = true ∧ m.path = .gloing g ∧ m.session ≠ 0 ∧
      s.session m.path m.session = some x) ∧
    (∃ s : State, ∃ m : DictMsg, ∃ o : Nat × (DictMsg → Instr), ∃ g : Nat, s.Settled ∧
      (o ∈ ([(1, Instr.read), (2, Instr.write), (3, Instr.readSeg), (4, Instr.writeSeg)] : List (Nat × (DictMsg → Instr)))) ∧
      s.firmware = true ∧ m.path = .gloing g ∧ m.session ≠ 0 ∧ s.session m.path m.session = none) ∧
    (∃ s : State, ∃ m : DictMsg, ∃ x, s.Settled ∧ s.firmware = true ∧ m.items = [x] ∧ dictEntry x.index x.sub = none ∧
      pathMax m.path ≥ 24 + tagBytes m.session) ∧
    (∃ s : State, ∃ m : DictMsg, s.Settled ∧ s.firmware = true ∧ m.path = .letterbox ∧ ((m.reply < 16 ∨ 63 < m.reply))) ∧
    (∃ s : State, ∃ m : DictMsg, s.Settled ∧ s.firmware = true ∧ m.items = []) ∧
    (∃ s : State, ∃ m : DictMsg, ∃ o : Nat × (DictMsg → Instr), ∃ n : Nat, ∃ a : Answer, s.Settled ∧
      (o ∈ ([(1, Instr.read), (2, Instr.write), (3, Instr.readSeg), (4, Instr.writeSeg)] : List (Nat × (DictMsg → Instr)))) ∧
      s.firmware = true ∧ m.path = .field n ∧ s.ent 0x4400 1 ≠ 3 ∧ m.session = 0 ∧ s.kept m = some a) ∧
    (∃ s : State, ∃ g : Nat, s.Settled ∧ s.firmware = true ∧ s.own ≠ 0xFFFF ∧ g ≠ 0xFFFF ∧ g ≠ s.own ∧ (s.pair g).up = true) :=
  ⟨⟨base, msg .letterbox 0 [item 0x1010 1 0 []], ((1, Instr.read) : Nat × (DictMsg → Instr)), rfl, by simp, by decide +kernel⟩,
   ⟨base, { msg .letterbox 0 [] with ver := 2 }, ((1, Instr.read) : Nat × (DictMsg → Instr)), rfl, by simp, by decide +kernel⟩,
   ⟨base, { msg .letterbox 0 [] with kind := 1 }, ((1, Instr.read) : Nat × (DictMsg → Instr)), rfl, by simp, by decide +kernel⟩,
   ⟨base, msg (.gloing 7) 0 [item 0x8011 1 2 [9#8]], ((2, Instr.write) : Nat × (DictMsg → Instr)), 7, rfl, by simp,
     by decide +kernel⟩,
   ⟨{ base with mgmt := { base.mgmt with answers := [⟨.gloing 7, 0, 1, []⟩] } }, msg (.gloing 7) 0 [], ((1,
     Instr.read) : Nat × (DictMsg → Instr)), 7, (⟨.gloing 7, 0, 1, []⟩ : Answer), rfl, by simp, by decide +kernel⟩,
   ⟨sessions [{ sess0 with peer := .gloing 0 }], { msg (.gloing 0) 1 [] with tag := 0#8 :: Config.hmac512t [1#8] [] }, ((1,
     Instr.read) : Nat × (DictMsg → Instr)), 0, { sess0 with peer := .gloing 0 }, rfl, by simp,
     by intro h; have := congrArg List.length h; simp [msg, sess0] at this, by decide +kernel⟩,
   ⟨base, msg (.gloing 0) 1 [], ((1, Instr.read) : Nat × (DictMsg → Instr)), 0, rfl, by simp, by decide +kernel⟩,
   ⟨base, msg .letterbox 0 [item 0x1000 99 0 []], item 0x1000 99 0 [], rfl, by decide +kernel⟩,
   ⟨base, { msg .letterbox 0 [] with reply := 15 }, rfl, by decide +kernel⟩,
   ⟨base, msg .letterbox 0 [], rfl, by decide +kernel⟩,
   ⟨{ base.setEnt 0x4400 1 2 with mgmt := { base.mgmt with answers := [⟨.field 0, 0, 1, []⟩] } }, msg (.field 0) 0 [], ((1,
     Instr.read) : Nat × (DictMsg → Instr)), 0, (⟨.field 0, 0, 1, []⟩ : Answer), rfl, by simp, by decide +kernel⟩,
   ⟨fab, 4095, rfl, by decide +kernel⟩⟩

/-- Obligations.SegmentNode: the hypotheses of its clauses can hold. -/
theorem witness_SegmentNode :
    (∃ s : State, ∃ role : Nat, ∃ node : Nat, s.Settled ∧ s.firmware = true ∧ s.manager = true ∧ node < 64 ∧ role ≠ 1) ∧
    (∃ s : State, ∃ role : Nat, s.Settled ∧ s.firmware = true ∧ s.manager = false ∧ role ≠ 1) ∧
    (∃ s : State, s.Settled ∧ s.firmware = true ∧ s.manager = false ∧ s.mgmt.mgrSeen = none) ∧
    (∃ s : State, ∃ n : Nat, s.Settled ∧ s.firmware = true ∧ n < 64 ∧ s.manager = true ∧ s.nodeState n = 1) ∧
    (∃ s : State, ∃ n : Nat, s.Settled ∧ s.firmware = true ∧ s.nodeState n ≠ 1) ∧
    (∃ s : State, ∃ a : Nat, s.Settled ∧ s.firmware = true ∧ s.manager = false ∧ s.mgmt.mgrSeen = some a ∧
      s.mgmt.mgrLost = false) ∧
    (∃ s : State, ∃ r : EventRec, s.Settled ∧ s.firmware = true ∧
      ((s.manager = false ∨ (s.eventDests r.index).contains 1 = false))) ∧
    (∃ s : State, ∃ r : EventRec, s.Settled ∧ s.firmware = true ∧ s.manager = true ∧ (s.eventDests r.index).contains 1 = true) ∧
    (∃ s : State, ∃ seq : Nat, ∃ d : Nat, ∃ r : EventRec, ∃ n : Nat, s.Settled ∧ s.firmware = true ∧ 5 ≤ n ∧
      s.mgmt.outgoing = [⟨seq, n, .event d r⟩]) ∧
    (∃ s : State, ∃ seq : Nat, s.Settled ∧ s.firmware = true ∧ ((∀ o ∈ s.mgmt.outgoing, o.seq ≠ seq))) ∧
    (∃ s : State, ∃ seq : Nat, ∃ op : Nat, ∃ m, ∃ l, ∃ w : Nat, ∃ n : Nat, s.Settled ∧ s.firmware = true ∧ 5 ≤ n ∧
      s.mgmt.outgoing = [⟨seq, n, .relay op m l true w⟩]) ∧
    (∃ s : State, ∃ seq : Nat, ∃ d : Nat, ∃ r : EventRec, ∃ node : Nat, s.Settled ∧ s.firmware = true ∧
      s.mgmt.outgoing = [⟨seq, 1, .event d r⟩] ∧ (((d = 0) ↔ (node = 0)))) ∧
    (∃ s : State, ∃ seq : Nat, ∃ op : Nat, ∃ m, ∃ l, ∃ a, ∃ w : Nat, ∃ node : Nat, s.Settled ∧ s.firmware = true ∧
      s.mgmt.outgoing = [⟨seq, 1, .relay op m l a w⟩] ∧ l.contains node = true ∧ a = false) ∧
    (∃ s : State, ∃ seq : Nat, ∃ op : Nat, ∃ m, ∃ l, ∃ a, ∃ w : Nat, ∃ node : Nat, s.Settled ∧ s.firmware = true ∧
      s.mgmt.outgoing = [⟨seq, 1, .relay op m l a w⟩] ∧ l.contains node = true ∧ a = true ∧ ((∀ x ∈ l, x = node))) ∧
    (∃ s : State, s.Settled ∧ s.firmware = true ∧ s.mgmt.outgoing = []) ∧
    (∃ s : State, ∃ seq : Nat, ∃ d : Nat, ∃ r : EventRec, s.Settled ∧ s.firmware = true ∧ d ≠ 1 ∧
      s.mgmt.outgoing = [⟨seq, 1, .event d r⟩]) :=
  ⟨⟨mgr, 0, 63, rfl, by decide +kernel⟩,
   ⟨base, 0, rfl, by decide +kernel⟩,
   ⟨base, rfl, by decide +kernel⟩,
   ⟨node 1, 63, rfl, by decide +kernel⟩,
   ⟨mgr, 63, rfl, by decide +kernel⟩,
   ⟨{ base with mgmt := { base.mgmt with mgrSeen := some 0 } }, 0, rfl, by decide +kernel⟩,
   ⟨base, ev0, rfl, by decide +kernel⟩,
   ⟨evs.setEnt 0x4400 1 1, ev0, rfl, by decide +kernel⟩,
   ⟨sending [⟨0, 5, .event 1 ev0⟩], 0, 1, ev0, 5, rfl, by decide +kernel⟩,
   ⟨base, 0, rfl, by decide +kernel⟩,
   ⟨sending [⟨0, 5, .relay 1 (msg .letterbox 0 []) [3] true 0⟩], 0, 1, msg .letterbox 0 [], [3], 0, 5, rfl, by decide +kernel⟩,
   ⟨sending [⟨0, 1, .event 0 ev0⟩], 0, 0, ev0, 0, rfl, by decide +kernel⟩,
   ⟨sending [⟨0, 1, .relay 1 (msg .letterbox 0 []) [3] false 0⟩], 0, 1, msg .letterbox 0 [], [3], false, 0, 3, rfl,
     by decide +kernel⟩,
   ⟨sending [⟨0, 1, .relay 1 (msg .letterbox 0 []) [3] true 0⟩], 0, 1, msg .letterbox 0 [], [3], true, 0, 3, rfl,
     by decide +kernel⟩,
   ⟨base, rfl, by decide +kernel⟩,
   ⟨sending [⟨0, 1, .event 0 ev0⟩], 0, 0, ev0, rfl, by decide +kernel⟩⟩

/-- Obligations.ModeEpochs: the hypotheses of its clauses can hold. -/
theorem witness_ModeEpochs :
    (∃ s : State, ∃ i : Nat, ∃ e : Nat, s.Settled ∧ i < 4 ∧ i < suiteCount s.layout ∧ s.ep i 3 = 0 ∧ e = (s.ep i 1 + 1) % 256) ∧
    (∃ s : State, ∃ i : Nat, s.Settled ∧ i < 4 ∧ i < suiteCount s.layout ∧ s.ep i 3 ≠ 0) ∧
    (∃ s : State, ∃ i : Nat, ∃ e : Nat, s.Settled ∧ i < 4 ∧ i < suiteCount s.layout ∧ s.ep i 3 = 0 ∧ e ≠ (s.ep i 1 + 1) % 256) ∧
    (∃ s : State, ∃ i : Nat, ∃ u : Nat, s.Settled ∧ i < 4 ∧ i < suiteCount s.layout ∧ u < 288 ∧
      ((s.ep i 3 = 1 ∨ s.ep i 3 = 3)) ∧ u ∈ s.suiteUnits i ∧ u ∉ (s.epoch i).acked ∧ s.ent (0x5200 + unitDie u) 1 = 2) ∧
    (∃ s : State, ∃ i : Nat, ∃ u : Nat, s.Settled ∧ i < 4 ∧ i < suiteCount s.layout ∧ u < 288 ∧
      ((u ∉ s.suiteUnits i ∨ u ∈ (s.epoch i).acked ∨ s.ep i 3 = 0 ∨ s.ep i 3 = 2))) ∧
    (∃ s : State, ∃ i : Nat, ∃ v : BitVec 64, s.Settled ∧ i < 4 ∧ i < suiteCount s.layout ∧ ((s.ep i 3 = 1 ∨ s.ep i 3 = 2)) ∧
      v.toNat % 256 = s.ep i 2) ∧
    (∃ s : State, ∃ i : Nat, ∃ v : BitVec 64, s.Settled ∧ i < 4 ∧ i < suiteCount s.layout ∧ ((s.ep i 3 ≠ 1 ∧
      s.ep i 3 ≠ 2 ∨ v.toNat % 256 ≠ s.ep i 2))) ∧
    (∃ s : State, ∃ i : Nat, ∃ v : Nat, s.Settled ∧ i < 4 ∧ i < suiteCount s.layout ∧ v ≠ 0 ∧ ((s.ep i 3 = 1 ∨ s.ep i 3 = 2))) ∧
    (∃ s : State, ∃ i : Nat, ∃ v : Nat, s.Settled ∧ i < 4 ∧ i < suiteCount s.layout ∧ v ≠ 0 ∧ s.ep i 3 = 3) :=
  ⟨⟨base.setEnt 0x1100 1 2, 3, 1, rfl, by decide +kernel⟩,
   ⟨(base.setEnt 0x1100 1 2).setEp 3 3 1, 3, rfl, by decide +kernel⟩,
   ⟨base.setEnt 0x1100 1 2, 3, 2, rfl, by decide +kernel⟩,
   ⟨(base.setEnt 0x1100 1 2).setEp 3 3 1, 3, 287, rfl, by decide +kernel⟩,
   ⟨base.setEnt 0x1100 1 2, 3, 287, rfl, by decide +kernel⟩,
   ⟨((base.setEnt 0x1100 1 2).setEp 3 3 2).setEp 3 2 255, 3, 255#64, rfl, by decide +kernel⟩,
   ⟨base.setEnt 0x1100 1 2, 3, 255#64, rfl, by decide +kernel⟩,
   ⟨(base.setEnt 0x1100 1 2).setEp 3 3 2, 3, 1, rfl, by decide +kernel⟩,
   ⟨(base.setEnt 0x1100 1 2).setEp 3 3 3, 3, 1, rfl, by decide +kernel⟩⟩

/-- Obligations.IdentitySessions: the hypotheses of its clauses can hold. -/
theorem witness_IdentitySessions :
    (∃ s : State, ∃ p : BitVec 8, s.Settled ∧ s.firmware = true ∧ p.toNat % 16 = 0) ∧
    (∃ s : State, ∃ p : BitVec 8, s.Settled ∧ s.firmware = true ∧ p.toNat % 16 ≠ 0) ∧
    (∃ s : State, ∃ p : BitVec 8, ∃ b : Bytes, s.Settled ∧ s.firmware = true ∧ p.toNat % 2 = 0 ∧ lget 0#8 b 0 = 0#8) ∧
    (∃ s : State, ∃ path : Path, ∃ key : Bytes, s.Settled ∧ s.firmware = true ∧ path ≠ .letterbox ∧
      ((s.keyHeld key = false ∨ 16 ≤ s.mgmt.sessions.length))) ∧
    (∃ s : State, ∃ path : Path, ∃ key : Bytes, s.Settled ∧ s.firmware = true ∧ path ≠ .letterbox ∧ s.keyHeld key = true ∧
      s.mgmt.sessions.length < 16) ∧
    (∃ s : State, ∃ x, s.Settled ∧ s.firmware = true ∧ s.mgmt.sessions.length < 16 ∧ x ∈ s.mgmt.sessions) ∧
    (∃ s : State, ∃ n : Nat, ∃ x, s.Settled ∧ s.firmware = true ∧
      (s.mgmt.sessions.find? (fun x => decide (x.n = n) && !x.open_) = some x)) ∧
    (∃ s : State, ∃ n : Nat, ∃ x, s.Settled ∧ s.firmware = true ∧ (s.mgmt.sessions.find? (fun x => decide (x.n = n)) = some x)) ∧
    (∃ s : State, ∃ n : Nat, s.Settled ∧ s.firmware = true ∧ ((∀ x ∈ s.mgmt.sessions, x.n ≠ n))) ∧
    (∃ s : State, ∃ x, ∃ y, s.Settled ∧ s.firmware = true ∧ y ∈ (s.endSession x).mgmt.sessions) ∧
    (∃ s : State, ∃ x, ∃ a : Answer, s.Settled ∧ s.firmware = true ∧ a ∈ (s.endSession x).mgmt.answers) ∧
    (∃ s : State, ∃ x, ∃ e : Path × Nat × Bytes, s.Settled ∧ s.firmware = true ∧ e ∈ (s.endSession x).mgmt.segs) :=
  ⟨⟨base, 0#8, rfl, by decide +kernel⟩,
   ⟨base, 15#8, rfl, by decide +kernel⟩,
   ⟨base, 0#8, ([] : Bytes), rfl, by decide +kernel⟩,
   ⟨base, Path.field 5, ([] : Bytes), rfl, by decide +kernel⟩,
   ⟨base.setBlob 0x7010 8 [1#8], Path.field 5, [1#8], rfl, by decide +kernel⟩,
   ⟨sessions [sess0], sess0, rfl, by decide +kernel⟩,
   ⟨sessions [{ sess0 with open_ := false }], 1, { sess0 with open_ := false }, rfl, by decide +kernel⟩,
   ⟨sessions [sess0], 1, sess0, rfl, by decide +kernel⟩,
   ⟨base, 17, rfl, by decide +kernel⟩,
   ⟨sessions [sess0, { sess0 with n := 2 }], sess0, { sess0 with n := 2 }, rfl, by decide +kernel⟩,
   ⟨{ base with mgmt := { base.mgmt with answers := [⟨.field 5, 2, 1, []⟩] } }, sess0, (⟨.field 5, 2, 1, []⟩ : Answer), rfl,
     by decide +kernel⟩,
   ⟨{ base with mgmt := { base.mgmt with segs := [(.field 5, 2, [1#8])] } }, sess0, ((.field 5, 2,
     [1#8]) : Path × Nat × Bytes), rfl, by decide +kernel⟩⟩

/-- Obligations.BreakerCaptures: the hypotheses of its clauses can hold. -/
theorem witness_BreakerCaptures :
    (∃ s : State, ∃ b : Nat, ∃ r : Report, s.Settled ∧ b < 5 ∧ s.breakerUp b = true ∧ knownSource r.src.toNat = true ∧
      (r.addr = none ∨ (r.src ≠ 0x32#8 ∧ r.src ≠ 0x41#8 ∧ r.src ≠ 0x29#8))) ∧
    (∃ s : State, ∃ b : Nat, ∃ r : Report, ∃ a : BitVec 56, s.Settled ∧ b < 5 ∧ s.breakerUp b = true ∧
      (r.src = 0x29#8 ∨ r.src = 0x41#8) ∧ r.addr = some a) ∧
    (∃ s : State, ∃ b : Nat, ∃ r : Report, s.Settled ∧ b < 5 ∧ ((s.breakerUp b = false ∨ knownSource r.src.toNat = false))) ∧
    (∃ s : State, ∃ b : Nat, ∃ r : Report, s.Settled ∧ b < 5 ∧ bitOf (s.regN (paBreaker b 0)) (srcClass r.src.toNat) = false ∧
      tget 0 s.backlog b < 64 ∧ s.regN (paBreaker b (0x200 + 0x10 * srcClass r.src.toNat)) = 0) ∧
    (∃ s : State, ∃ b : Nat, ∃ r : Report, s.Settled ∧ b < 5 ∧ bitOf (s.regN (paBreaker b 0)) (srcClass r.src.toNat) = true ∧
      ((tget 0 s.backlog b < 64 ∨ srcClass r.src.toNat ≠ 0))) ∧
    (∃ s : State, ∃ b : Nat, s.Settled ∧ b < 5 ∧ s.breakerUp b = false) ∧
    (∃ s : State, ∃ b : Nat, ∃ c : Nat, s.Settled ∧ b < 5 ∧ ((c = 1 ∨ c = 2 ∨ c = 4)) ∧ bitOf (s.regN (paBreaker b 0)) c = true) ∧
    (∃ s : State, ∃ b : Nat, ∃ c : Nat, s.Settled ∧ b < 5 ∧ bitOf (s.regN (paBreaker b 0)) c = false) ∧
    (∃ s : State, ∃ b : Nat, ∃ k : Nat, ∃ v : BitVec 64, s.Settled ∧ b < 5 ∧ k < 8 ∧ s.breakerUp b = true ∧
      badInjection b v.toNat = true) ∧
    (∃ s : State, ∃ b : Nat, ∃ k : Nat, ∃ v : BitVec 64, s.Settled ∧ b < 5 ∧ k < 8 ∧ s.breakerUp b = true ∧
      badInjection b v.toNat = false) ∧
    (∃ s : State, ∃ b : Nat, s.Settled ∧ b < 5 ∧ s.firmware = true) ∧
    (∃ s : State, ∃ b : Nat, s.Settled ∧ b < 5 ∧ s.firmware = false) ∧
    (∃ s : State, ∃ b : Nat, ∃ r : Report, ∃ a : BitVec 56, ∃ j : Nat, s.Settled ∧ b < 5 ∧ s.breakerUp b = true ∧
      r.src = 0x32#8 ∧ r.addr = some a ∧ regionOf a.toNat = .stack j) ∧
    (∃ s : State, ∃ b : Nat, ∃ n : Nat, s.Settled ∧ b < 4 ∧
      s.levels b 3 = [(n, { plainReport 0x30 (agentNo b 0x0C n) with suites := s.levelSuites n (s.hallSuites n) })]) ∧
    (∃ s : State, ∃ b : Nat, s.Settled ∧ b < 5 ∧ s.breakerUp b = true) :=
  ⟨⟨base, 4, rep0 0x42 none, rfl, by decide +kernel⟩,
   ⟨base, 4, rep0 0x41 (some 0x1000000000), 0x1000000000#56, rfl, by decide +kernel⟩,
   ⟨base, 4, rep0 0x43 none, rfl, by decide +kernel⟩,
   ⟨base, 4, rep0 0x42 none, rfl, by decide +kernel⟩,
   ⟨seen 4, 4, rep0 0x42 none, rfl, by decide +kernel⟩,
   ⟨dieAt 1, 3, rfl, by decide +kernel⟩,
   ⟨seen 4, 4, 4, rfl, by decide +kernel⟩,
   ⟨base, 4, 4, rfl, by decide +kernel⟩,
   ⟨base, 4, 7, BitVec.ofNat 64 (2 ^ 42 + 1), rfl, by decide +kernel⟩,
   ⟨base, 4, 7, 0#64, rfl, by decide +kernel⟩,
   ⟨base, 4, rfl, by decide +kernel⟩,
   ⟨{ base with mgmt := { base.mgmt with sculleryUp := false } }, 4, rfl, by decide +kernel⟩,
   ⟨base, 3, rep0 0x32 (some 0xCFFFFFFFFF), 0xCFFFFFFFFF#56, 11, rfl, by decide +kernel⟩,
   ⟨(base.setHall 7 0).setEnt 0x5207 4 1, hallBreaker 7, 7, rfl, by decide +kernel⟩,
   ⟨base, 4, rfl, by decide +kernel⟩⟩

/-- Obligations.StepTakesFront: the hypotheses of its clauses can hold. -/
theorem witness_StepTakesFront :
    (∃ s : State, ∃ c : Instr, ∃ rest : List Instr, s.pending = c :: rest) ∧
    (∃ s : State, s.pending = []) :=
  ⟨⟨{ base with pending := [Instr.nop 31 127] }, Instr.nop 31 127, [], by decide +kernel⟩,
   ⟨base, by decide +kernel⟩⟩

/-- Obligations.EveryCommandAnswers: the hypotheses of its clauses can hold. -/
theorem witness_EveryCommandAnswers :
    (∃ i : Instr, i.wf = true) ∧
    (∃ i : Instr, i.wf = false) :=
  ⟨⟨Instr.nop 31 127, by decide +kernel⟩,
   ⟨Instr.nop 32 127, by decide +kernel⟩⟩

/-- Obligations.NothingOwed: the hypotheses of its clauses can hold. -/
theorem witness_NothingOwed :
    (∃ s : State, ∃ t : State, s.Settled ∧ step s = .next t) :=
  ⟨base, base.tick, rfl, rfl⟩

/-- Obligations.QueueDrains: the hypotheses of its clauses can hold. -/
theorem witness_QueueDrains :
    (∃ s : State, ∃ n : Nat, s.Settled ∧ ((∀ i ∈ s.pending, i.wf = true)) ∧ n ≤ s.pending.length) :=
  ⟨{ base with pending := [Instr.nop 31 127] }, 1, rfl, by decide +kernel⟩

/-- Obligations.ResetState: the hypotheses of its clauses can hold. -/
theorem witness_ResetState :
    (∃ d : Nat, d < 4) ∧
    (∃ n : Nat, n < 8) ∧
    (∃ i : Nat, ∃ k : Nat, dictKey i k ∉ State.reset.od.map Prod.fst) :=
  ⟨⟨3, by decide +kernel⟩,
   ⟨7, by decide +kernel⟩,
   ⟨0x8010, 1, by decide +kernel⟩⟩

end Sys2Proof.Tests
end

section
/-! PROOFS. Writes of dictionary numbers outside their range (R362, R367), and the default window and headroom (R63). -/

namespace Sys2Proof.Machine

/-! ### A number outside its entry's range (R362) -/

/-- A writable number entry below the test area refuses a value outside its range, and nothing changes. -/
theorem State.writeEntry_of_not_rangeOk (s : State) (path : Path) (sess : Nat) {i k ity : Nat} {b : Bytes} {r : DRow}
    (hr : dictEntry i k = some r) (hi : i < 0xA000) (hro : r.acc ≠ .ro) (hco : r.acc ≠ .const) (hty : ity = r.ty.code)
    (hnum : r.ty.isBytes = false) (hlen : b.length = r.ty.size) (hv : s.rangeOk r i k (ofBytes b) = false) :
    s.writeEntry path sess i k ity b = (3, s) := by
  have hlow : ¬ 0xA000 ≤ i := by omega
  unfold State.writeEntry
  simp [hr, hlow, hro, hco, hty, hnum, hlen, hv]

/-! ### The default window and headroom (Table 2.13) -/

/-- The row of the default window, one subindex a suite. -/
theorem dictEntry_window {k : Nat} (hlo : 1 ≤ k) (hhi : k ≤ 4) :
    dictEntry 0x8010 k = some (dRw 0x8010 0x8010 1 4 .i32 .rw 32) := by
  have hk : k = 1 ∨ k = 2 ∨ k = 3 ∨ k = 4 := by omega
  rcases hk with rfl | rfl | rfl | rfl <;> rfl

/-- The row of the default headroom, one subindex a suite. -/
theorem dictEntry_headroom {k : Nat} (hlo : 1 ≤ k) (hhi : k ≤ 4) :
    dictEntry 0x8011 k = some (dRg 0x8011 0x8011 1 4 .u8 .rw 9 4 24) := by
  have hk : k = 1 ∨ k = 2 ∨ k = 3 ∨ k = 4 := by omega
  rcases hk with rfl | rfl | rfl | rfl <;> rfl

/-- The values that a default window may have are those of R63. -/
theorem State.rangeOk_window_iff (s : State) (r : DRow) (k v : Nat) :
    s.rangeOk r 0x8010 k v = true ↔ -512 ≤ toSigned 32 v ∧ toSigned 32 v ≤ 511 := by
  simp [State.rangeOk]

/-- The values that a default headroom may have are those of its row. -/
theorem State.rangeOk_headroom_iff (s : State) (r : DRow) (k v : Nat) :
    s.rangeOk r 0x8011 k v = true ↔ r.lo ≤ v ∧ v ≤ r.hi := by
  simp [State.rangeOk]

/-- An item with a default window outside -512 to 511 is refused. -/
theorem State.writeEntry_window_refused (s : State) (path : Path) (sess : Nat) {k : Nat} (hlo : 1 ≤ k) (hhi : k ≤ 4)
    {b : Bytes} (hlen : b.length = 4) (hv : toSigned 32 (ofBytes b) < -512 ∨ 511 < toSigned 32 (ofBytes b)) :
    s.writeEntry path sess 0x8010 k 6 b = (3, s) := by
  have hbad : s.rangeOk (dRw 0x8010 0x8010 1 4 .i32 .rw 32) 0x8010 k (ofBytes b) = false := by
    rw [Bool.eq_false_iff, ne_eq, State.rangeOk_window_iff]
    omega
  exact s.writeEntry_of_not_rangeOk path sess (dictEntry_window hlo hhi) (by decide) (by decide) (by decide) rfl rfl
    hlen hbad

/-- An item with a default headroom outside 4 to 24 is refused. -/
theorem State.writeEntry_headroom_refused (s : State) (path : Path) (sess : Nat) {k : Nat} (hlo : 1 ≤ k) (hhi : k ≤ 4)
    {b : Bytes} (hlen : b.length = 1) (hv : ofBytes b < 4 ∨ 24 < ofBytes b) :
    s.writeEntry path sess 0x8011 k 2 b = (3, s) := by
  have hbad : s.rangeOk (dRg 0x8011 0x8011 1 4 .u8 .rw 9 4 24) 0x8011 k (ofBytes b) = false := by
    rw [Bool.eq_false_iff, ne_eq, State.rangeOk_headroom_iff]
    change ¬ (4 ≤ ofBytes b ∧ ofBytes b ≤ 24)
    omega
  exact s.writeEntry_of_not_rangeOk path sess (dictEntry_headroom hlo hhi) (by decide) (by decide) (by decide) rfl rfl
    hlen hbad

/-! ### A WRITE of one refused item (R367) -/

/-- A state keeps no new reason from itself. -/
@[simp] theorem State.keepReason_self (s : State) : s.keepReason s = s := by
  simp [State.keepReason]

/-- A WRITE whose only item is refused without effect has that item's status and changes nothing. -/
theorem State.doWrite_of_item_refused {s : State} {m : DictMsg} {x : DictItem} {st : Nat} (hm : m.items = [x])
    (hx : s.writeEntry m.path m.session x.index x.sub x.ity.toNat x.value = (st, s)) (hst : st ≠ 0) :
    s.doWrite m = ((st, itemBytes x.index x.sub x.ity.toNat 0 st 0 []), s) := by
  have hitems : s.checkItems m = ([st], s) := by simp [State.checkItems, hm, hx]
  simp [State.doWrite, hitems, hm, firstFail, hst]

/-- A well-formed WRITE through a letterbox, for this module, that leaves the firmware running is performed and
answered with what it did. -/
theorem execWrite_letterbox {s : State} {m : DictMsg} (hfw : s.firmware = true) (hpath : m.path = .letterbox)
    (hver : m.ver = 1#4) (hkind : m.kind = 0#4) (hform : m.formOk = true) (hbody : bodyOk 2 m = true)
    (hsess : m.session = 0) (htgt : m.target = 0) (hfw' : (s.doWrite m).2.firmware = true) :
    execWrite m s = s.gives ((s.doWrite m).2.respond m 2 (s.doWrite m).1.1 (s.doWrite m).1.2) := by
  have hperform : s.perform 2 m = s.doWrite m := rfl
  have hroute : s.route 2 m = (s.doWrite m).2.respond m 2 (s.doWrite m).1.1 (s.doWrite m).1.2 := by
    simp [State.route, htgt, hperform, hfw']
  have hanswer : s.answerMsg 2 m = s.route 2 m := by
    simp [State.answerMsg, hver, hkind, hform, hbody, hpath, hsess]
  have hrequest : s.request 2 m = s.answerMsg 2 m := by simp [State.request, hpath, hfw]
  rw [execWrite, act_gives, hrequest, hanswer, hroute]

/-- A WRITE of one item through a letterbox that refuses the item answers its status, and changes nothing else. -/
theorem exec_write_letterbox_refused {s : State} {m : DictMsg} {x : DictItem} {st : Nat} (hfw : s.firmware = true)
    (hpath : m.path = .letterbox) (hver : m.ver = 1#4) (hkind : m.kind = 0#4) (hform : m.formOk = true)
    (hsess : m.session = 0) (htgt : m.target = 0) (hm : m.items = [x]) (hlen : x.len = x.value.length)
    (hx : s.writeEntry m.path m.session x.index x.sub x.ity.toNat x.value = (st, s)) (hst : st ≠ 0) :
    exec (.write m) s = s.gives (s.respond m 2 st (itemBytes x.index x.sub x.ity.toNat 0 st 0 [])) := by
  have hdo := State.doWrite_of_item_refused hm hx hst
  have hbody : bodyOk 2 m = true := by simp [bodyOk, hm, hlen]
  rw [exec_write, execWrite_letterbox hfw hpath hver hkind hform hbody hsess htgt (by rw [hdo]; exact hfw), hdo]

/-! ### R63 -/

/-- Settles O49: both entries' range checks refuse the item, and a WRITE of it alone answers with its status. -/
theorem windowRange : Obligations.WindowRange := by
  unfold Obligations.WindowRange
  intro s path sess k hlo hhi
  refine ⟨fun b hlen hv => s.writeEntry_window_refused path sess hlo hhi hlen hv,
    fun b hlen hv => s.writeEntry_headroom_refused path sess hlo hhi hlen hv, ?_⟩
  intro m x _ hfw hpath hver hkind hform hsess htgt hm hsub hlen hbad
  have hrefused : s.writeEntry m.path m.session x.index x.sub x.ity.toNat x.value = (3, s) := by
    rw [hsub]
    rcases hbad with ⟨hidx, hty, hsize, hv⟩ | ⟨hidx, hty, hsize, hv⟩
    · rw [hidx, hty]
      exact s.writeEntry_window_refused m.path m.session hlo hhi (hlen.symm.trans hsize) hv
    · rw [hidx, hty]
      exact s.writeEntry_headroom_refused m.path m.session hlo hhi (hlen.symm.trans hsize) hv
  rw [← hsub]
  exact exec_write_letterbox_refused hfw hpath hver hkind hform hsess htgt hm hlen hrefused (by decide)

end Sys2Proof.Machine
end

section
/-! PROOFS. FABS and FNEG: what they do to the sign bit of one element, and to the engine of the room (R59, R95, R108). -/

namespace Sys2Proof.Machine

/-! ### One element -/

/-- The sign bit stands above the exponent and the mantissa. -/
theorem FFmt.width_sub_one (f : FFmt) : f.width - 1 = f.eb + f.mb := by
  unfold FFmt.width
  omega

/-- A format has one bit, the sign, beside its exponent and its mantissa. -/
theorem FFmt.width_eq_succ (f : FFmt) : f.width = f.eb + f.mb + 1 := by
  unfold FFmt.width
  omega

/-- Inverting bit `n` is adding its weight, within `n + 1` bits. -/
theorem mod_add_not_bitOf (x n : Nat) :
    x % 2 ^ n + (if !bitOf x n then 2 ^ n else 0) = (x + 2 ^ n) % 2 ^ (n + 1) := by
  have hdiv : (x + 2 ^ n) / 2 ^ n = x / 2 ^ n + 1 := Nat.add_div_right x (Nat.two_pow_pos n)
  rw [Nat.mod_pow_succ, Nat.add_mod_right, hdiv]
  unfold bitOf
  rcases Nat.mod_two_eq_zero_or_one (x / 2 ^ n) with hbit | hbit
  · have hnext : (x / 2 ^ n + 1) % 2 = 1 := by omega
    simp [hbit, hnext]
  · have hnext : (x / 2 ^ n + 1) % 2 = 0 := by omega
    simp [hbit, hnext]

/-- A NaN operand gives the canonical NaN and no flag, whatever is done to the sign. -/
theorem signOp_of_isNaN {f : FFmt} (g : Bool → Bool) {x : Nat} (hx : f.isNaN x = true) :
    signOp f g x = (f.nanCode, 0) := by
  simp [signOp, hx]

/-- Any other operand keeps its exponent and its mantissa, takes the new sign, and raises no flag. -/
theorem signOp_of_not_isNaN {f : FFmt} (g : Bool → Bool) {x : Nat} (hx : f.isNaN x = false) :
    signOp f g x = (x % 2 ^ (f.eb + f.mb) + f.sbit (g (bitOf x (f.eb + f.mb))), 0) := by
  simp [signOp, hx, FFmt.width_sub_one]

/-- FABS of a number clears its sign bit. -/
theorem signOp_clear {f : FFmt} {x : Nat} (hx : f.isNaN x = false) :
    signOp f (fun _ => false) x = (x % 2 ^ (f.width - 1), 0) := by
  rw [signOp_of_not_isNaN _ hx, FFmt.width_sub_one]
  rfl

/-- FNEG of a number inverts its sign bit. -/
theorem signOp_invert {f : FFmt} {x : Nat} (hx : f.isNaN x = false) :
    signOp f (fun n => !n) x = ((x + 2 ^ (f.width - 1)) % 2 ^ f.width, 0) := by
  rw [signOp_of_not_isNaN _ hx, FFmt.width_sub_one, FFmt.width_eq_succ, ← mod_add_not_bitOf]
  rfl

/-! ### The instruction that a program issues -/

/-- An instruction that changes registers and raises flags has that effect on the engine and lets the program go on,
when the program issues it. -/
theorem State.vpure_of_issues {s : State} {g : Nat} {w : BitVec 64} (f : VEngine → VEngine × Nat)
    (hw : s.issues g w = true) : s.vpure g w f = s.goesOn g (f (s.ve g)).1 (f (s.ve g)).2 := by
  simp [State.vpure, State.goesOn, hw]

/-- What a command for such an instruction answers when its room exists and the program issues it. -/
theorem act_vpure_of_issues {s : State} {g : Nat} {w : BitVec 64} (f : VEngine → VEngine × Nat) (hg : g < 256)
    (hw : s.issues g w = true) :
    act (decide (g < 256)) (fun s => s.vpure g w f) s = s.gives (s.goesOn g (f (s.ve g)).1 (f (s.ve g)).2) := by
  rw [decide_eq_true hg, act_gives, State.vpure_of_issues f hw]

/-! ### R108 -/

/-- Settles O29: the laws of `signOp` for one element, and the general rule of a register instruction for the two
commands. -/
theorem signOperations : Obligations.SignOperations := by
  unfold Obligations.SignOperations
  refine ⟨fun f _ x _ => ⟨fun hnan => ?_, fun hnum => ?_⟩, by decide, ?_⟩
  · exact ⟨signOp_of_isNaN _ hnan, signOp_of_isNaN _ hnan⟩
  · exact ⟨signOp_clear hnum, signOp_invert hnum⟩
  · rintro s g e _ hg rfl
    constructor
    · intro x hissues
      rw [exec_fabs]
      exact act_vpure_of_issues _ hg hissues
    · intro x hissues
      rw [exec_fneg]
      exact act_vpure_of_issues _ hg hissues

end Sys2Proof.Machine
end

section
/-! PROOFS. The common code (R209 to R214): GF(16), the locators as points of a quadric, and what a checker decodes. -/

namespace Sys2Proof.Machine

/-! ### Multiplication of symbols (R209) -/

theorem bitOf_xor (a b i : Nat) : bitOf (a ^^^ b) i = (bitOf a i ^^ bitOf b i) := by
  simp only [bitOf, ← Nat.testBit_eq_decide_div_mod_eq, Nat.testBit_xor]

/-- A conditional term under an exclusive-or of conditions. -/
theorem ite_bne_eq_xor (p q : Bool) (t : Nat) :
    (if (p ^^ q) = true then t else 0) = (if p = true then t else 0) ^^^ (if q = true then t else 0) := by
  cases p <;> cases q <;> simp

theorem xor_lt_sixteen {a b : Nat} (ha : a < 16) (hb : b < 16) : a ^^^ b < 16 :=
  Nat.xor_lt_two_pow (n := 4) ha hb

theorem xor_xor_self (a b : Nat) : a ^^^ b ^^^ b = a := by
  rw [Nat.xor_assoc, Nat.xor_self, Nat.xor_zero]

theorem eq_of_xor_eq {a b c : Nat} (h : a ^^^ c = b ^^^ c) : a = b := by
  rw [← xor_xor_self a c, h, xor_xor_self]

theorem gfX_lt {a : Nat} (ha : a < 16) : gfX a < 16 := by
  revert a
  decide

@[simp] theorem gfMul_zero (a : Nat) : gfMul a 0 = 0 := by
  simp [gfMul, bitOf]

@[simp] theorem gfMul_one (a : Nat) : gfMul a 1 = a := by
  simp [gfMul, bitOf]

theorem gfMul_lt {a : Nat} (ha : a < 16) (b : Nat) : gfMul a b < 16 := by
  have hterm : ∀ (p : Bool) (t : Nat), t < 16 → (if p = true then t else 0) < 16 := by
    intro p t ht
    split <;> omega
  have h1 := gfX_lt ha
  have h2 := gfX_lt h1
  exact xor_lt_sixteen (xor_lt_sixteen (xor_lt_sixteen (hterm _ _ ha) (hterm _ _ h1)) (hterm _ _ h2))
    (hterm _ _ (gfX_lt h2))

theorem gfMul_comm {a b : Nat} (ha : a < 16) (hb : b < 16) : gfMul a b = gfMul b a := by
  have h : ∀ a < 16, ∀ b < 16, gfMul a b = gfMul b a := by decide +kernel
  exact h a ha b hb

/-- The second factor may be split, since each of its bits gives a term of its own. -/
theorem gfMul_xor (a b c : Nat) : gfMul a (b ^^^ c) = gfMul a b ^^^ gfMul a c := by
  simp only [gfMul, bitOf_xor, ite_bne_eq_xor]
  ac_rfl

theorem xor_gfMul {a b c : Nat} (ha : a < 16) (hb : b < 16) (hc : c < 16) :
    gfMul (a ^^^ b) c = gfMul a c ^^^ gfMul b c := by
  rw [gfMul_comm (xor_lt_sixteen ha hb) hc, gfMul_xor, gfMul_comm hc ha, gfMul_comm hc hb]

theorem gfMul_gfX {a b : Nat} (ha : a < 16) (hb : b < 16) : gfMul a (gfX b) = gfX (gfMul a b) := by
  have h : ∀ a < 16, ∀ b < 16, gfMul a (gfX b) = gfX (gfMul a b) := by decide +kernel
  exact h a ha b hb

/-- Both products have a term `x ^ i · a · b` for each bit `i` of `c`. -/
theorem gfMul_assoc {a b : Nat} (ha : a < 16) (hb : b < 16) (c : Nat) : gfMul (gfMul a b) c = gfMul a (gfMul b c) := by
  have h1 := gfX_lt hb
  have h2 := gfX_lt h1
  have hexpand : gfMul a (gfMul b c) =
      (if bitOf c 0 then gfMul a b else 0) ^^^ (if bitOf c 1 then gfMul a (gfX b) else 0) ^^^
      (if bitOf c 2 then gfMul a (gfX (gfX b)) else 0) ^^^
      (if bitOf c 3 then gfMul a (gfX (gfX (gfX b))) else 0) := by
    rw [gfMul.eq_def b c, gfMul_xor, gfMul_xor, gfMul_xor]
    simp only [apply_ite (gfMul a), gfMul_zero]
  rw [hexpand, gfMul_gfX ha h2, gfMul_gfX ha h1, gfMul_gfX ha hb]
  rfl

theorem gfMul_gfInv {a : Nat} (ha : a < 16) (h0 : a ≠ 0) : gfMul a (gfInv a) = 1 := by
  revert a
  decide +kernel

theorem gfInv_lt {a : Nat} (ha : a < 16) : gfInv a < 16 := by
  revert a
  decide +kernel

/-- GF(16) has no divisors of zero. -/
theorem gfMul_ne_zero {a b : Nat} (ha : a < 16) (hb : b < 16) (ha0 : a ≠ 0) (hb0 : b ≠ 0) : gfMul a b ≠ 0 := by
  intro h
  have hone : gfMul (gfInv a) (gfMul a b) = b := by
    rw [← gfMul_assoc (gfInv_lt ha) ha, gfMul_comm (gfInv_lt ha) ha, gfMul_gfInv ha ha0,
      gfMul_comm (by decide) hb, gfMul_one]
  rw [h, gfMul_zero] at hone
  exact hb0 hone.symm

/-- Dividing a multiple of `d` by `d`. -/
theorem gfMul_gfInv_cancel {d u : Nat} (hd : d < 16) (hu : u < 16) (h0 : d ≠ 0) :
    gfMul (gfMul d u) (gfInv d) = u := by
  rw [gfMul_comm hd hu, gfMul_assoc hu hd, gfMul_gfInv hd h0, gfMul_one]

/-! ### GF(16) as a ring -/

/-- The symbols of the code, as elements of GF(16). -/
def Gf : Type := Fin 16

/-- The elements 0 and 1, for an even and an odd number. -/
def Gf.ofParity (n : Nat) : Gf := ⟨n % 2, Nat.lt_trans (Nat.mod_lt n (by decide)) (by decide)⟩

/-- The product of two elements. -/
def Gf.mul (a b : Gf) : Gf := ⟨gfMul a.val b.val, gfMul_lt a.isLt b.val⟩

/-- A power of an element. -/
def Gf.pow (a : Gf) : Nat → Gf
  | 0 => Gf.ofParity 1
  | n + 1 => Gf.mul (Gf.pow a n) a

theorem succ_mod_two_eq_xor (n : Nat) : (n + 1) % 2 = n % 2 ^^^ 1 := by
  rcases Nat.mod_two_eq_zero_or_one n with h | h
  · have hsucc : (n + 1) % 2 = 1 := by omega
    rw [h, hsucc]
    rfl
  · have hsucc : (n + 1) % 2 = 0 := by omega
    rw [h, hsucc]
    rfl

/-- The ring of the symbols: addition is the exclusive-or, multiplication `gfMul`, and an integer stands for its parity. -/
@[reducible] def Gf.commRing : Lean.Grind.CommRing Gf where
  add a b := ⟨a.val ^^^ b.val, xor_lt_sixteen a.isLt b.isLt⟩
  mul := Gf.mul
  neg a := a
  sub a b := ⟨a.val ^^^ b.val, xor_lt_sixteen a.isLt b.isLt⟩
  natCast := ⟨Gf.ofParity⟩
  ofNat n := ⟨Gf.ofParity n⟩
  intCast := ⟨fun i => Gf.ofParity i.natAbs⟩
  nsmul := ⟨fun n a => Gf.mul (Gf.ofParity n) a⟩
  zsmul := ⟨fun i a => Gf.mul (Gf.ofParity i.natAbs) a⟩
  npow := ⟨Gf.pow⟩
  add_zero a := Fin.ext (Nat.xor_zero a.val)
  add_comm a b := Fin.ext (Nat.xor_comm a.val b.val)
  add_assoc a b c := Fin.ext (Nat.xor_assoc a.val b.val c.val)
  neg_add_cancel a := Fin.ext (Nat.xor_self a.val)
  sub_eq_add_neg _ _ := rfl
  mul_assoc a b c := Fin.ext (gfMul_assoc a.isLt b.isLt c.val)
  mul_comm a b := Fin.ext (gfMul_comm a.isLt b.isLt)
  mul_one a := Fin.ext (gfMul_one a.val)
  one_mul a := Fin.ext ((gfMul_comm (by decide) a.isLt).trans (gfMul_one a.val))
  mul_zero a := Fin.ext (gfMul_zero a.val)
  zero_mul a := Fin.ext ((gfMul_comm (by decide) a.isLt).trans (gfMul_zero a.val))
  left_distrib a b c := Fin.ext (gfMul_xor a.val b.val c.val)
  right_distrib a b c := Fin.ext (xor_gfMul a.isLt b.isLt c.isLt)
  pow_zero _ := rfl
  pow_succ _ _ := rfl
  ofNat_succ n := Fin.ext (succ_mod_two_eq_xor n)
  neg_zsmul i a := congrArg (fun n => Gf.mul (Gf.ofParity n) a) (Int.natAbs_neg i)
  intCast_neg i := congrArg Gf.ofParity (Int.natAbs_neg i)

/-! ### Vectors of four symbols, and the quadric of the locators (R210, R213) -/

/-- The sum of two syndromes. -/
def synAdd (s t : Nat × Nat × Nat × Nat) : Nat × Nat × Nat × Nat :=
  (s.1 ^^^ t.1, s.2.1 ^^^ t.2.1, s.2.2.1 ^^^ t.2.2.1, s.2.2.2 ^^^ t.2.2.2)

/-- A symbol times a locator. -/
def synScale (d : Nat) (p : Nat × Nat × Nat × Nat) : Nat × Nat × Nat × Nat :=
  (gfMul d p.1, gfMul d p.2.1, gfMul d p.2.2.1, gfMul d p.2.2.2)

/-- The four values are symbols. -/
def SynWf (s : Nat × Nat × Nat × Nat) : Prop := s.1 < 16 ∧ s.2.1 < 16 ∧ s.2.2.1 < 16 ∧ s.2.2.2 < 16

/-- x0·x1 ⊕ f(x2, x3), which is 0 on the quadric of R213. -/
def quadric (s : Nat × Nat × Nat × Nat) : Nat := gfMul s.1 s.2.1 ^^^ gfF s.2.2.1 s.2.2.2

/-- The same form over any ring. -/
def quadricForm {R : Type} [Lean.Grind.CommRing R] (l x0 x1 x2 x3 : R) : R := x0 * x1 - (x2 * x2 + x2 * x3 + l * (x3 * x3))

/-- A form of degree two at a combination of two of its zeros. -/
theorem quadricForm_combination {R : Type} [Lean.Grind.CommRing R] {l p0 p1 p2 p3 q0 q1 q2 q3 : R} (d e : R)
    (hp : quadricForm l p0 p1 p2 p3 = 0) (hq : quadricForm l q0 q1 q2 q3 = 0) :
    quadricForm l (d * p0 + e * q0) (d * p1 + e * q1) (d * p2 + e * q2) (d * p3 + e * q3) =
      d * e * quadricForm l (p0 + q0) (p1 + q1) (p2 + q2) (p3 + q3) := by
  unfold quadricForm at *
  grind

/-- The form is 0 where the decoder's test of R212 holds. -/
theorem quadricForm_of_quotients {R : Type} [Lean.Grind.CommRing R] {l x0 x1 x2 x3 i : R} (hi : x0 * i = 1)
    (h : x1 = x0 * (x2 * i * (x2 * i) + x2 * i * (x3 * i) + l * (x3 * i * (x3 * i)))) :
    quadricForm l x0 x1 x2 x3 = 0 := by
  unfold quadricForm
  grind

/-- Two points of the quadric, each times a symbol: the form is the product of the symbols and of the form at the points'
sum. -/
theorem quadric_combination {d e : Nat} {p q : Nat × Nat × Nat × Nat} (hd : d < 16) (he : e < 16) (hp : SynWf p)
    (hq : SynWf q) (hp0 : quadric p = 0) (hq0 : quadric q = 0) :
    quadric (synAdd (synScale d p) (synScale e q)) = gfMul (gfMul d e) (quadric (synAdd p q)) := by
  obtain ⟨h0, h1, h2, h3⟩ := hp
  obtain ⟨k0, k1, k2, k3⟩ := hq
  exact congrArg Fin.val (@quadricForm_combination Gf Gf.commRing ⟨8, by decide⟩ ⟨_, h0⟩ ⟨_, h1⟩ ⟨_, h2⟩ ⟨_, h3⟩
    ⟨_, k0⟩ ⟨_, k1⟩ ⟨_, k2⟩ ⟨_, k3⟩ ⟨d, hd⟩ ⟨e, he⟩ (Fin.ext hp0) (Fin.ext hq0))

/-- A syndrome with S0 ≠ 0 that passes the decoder's test lies on the quadric. -/
theorem quadric_of_quotients {s : Nat × Nat × Nat × Nat} (hs : SynWf s) (h0 : s.1 ≠ 0)
    (h : s.2.1 = gfMul s.1 (gfF (gfMul s.2.2.1 (gfInv s.1)) (gfMul s.2.2.2 (gfInv s.1)))) : quadric s = 0 := by
  obtain ⟨b0, b1, b2, b3⟩ := hs
  exact congrArg Fin.val (@quadricForm_of_quotients Gf Gf.commRing ⟨8, by decide⟩ ⟨_, b0⟩ ⟨_, b1⟩ ⟨_, b2⟩ ⟨_, b3⟩
    ⟨gfInv s.1, gfInv_lt b0⟩ (Fin.ext (gfMul_gfInv b0 h0)) (Fin.ext h))

/-! ### The algebra of syndromes -/

theorem synAdd_wf {s t : Nat × Nat × Nat × Nat} (hs : SynWf s) (ht : SynWf t) : SynWf (synAdd s t) := by
  obtain ⟨h0, h1, h2, h3⟩ := hs
  obtain ⟨k0, k1, k2, k3⟩ := ht
  exact ⟨xor_lt_sixteen h0 k0, xor_lt_sixteen h1 k1, xor_lt_sixteen h2 k2, xor_lt_sixteen h3 k3⟩

theorem synScale_wf {d : Nat} (hd : d < 16) (p : Nat × Nat × Nat × Nat) : SynWf (synScale d p) :=
  ⟨gfMul_lt hd _, gfMul_lt hd _, gfMul_lt hd _, gfMul_lt hd _⟩

@[simp] theorem synAdd_zero (s : Nat × Nat × Nat × Nat) : synAdd s (0, 0, 0, 0) = s := by
  simp [synAdd]

@[simp] theorem zero_synAdd (s : Nat × Nat × Nat × Nat) : synAdd (0, 0, 0, 0) s = s := by
  simp [synAdd]

/-- Two sums of two, added in the other order. -/
theorem synAdd_synAdd_synAdd_comm (a b c d : Nat × Nat × Nat × Nat) :
    synAdd (synAdd a b) (synAdd c d) = synAdd (synAdd a c) (synAdd b d) := by
  simp only [synAdd, Prod.mk.injEq]
  refine ⟨?_, ?_, ?_, ?_⟩ <;> ac_rfl

theorem zero_synScale {p : Nat × Nat × Nat × Nat} (hp : SynWf p) : synScale 0 p = (0, 0, 0, 0) := by
  obtain ⟨h0, h1, h2, h3⟩ := hp
  have hzero : ∀ {a : Nat}, a < 16 → gfMul 0 a = 0 := fun ha => by rw [gfMul_comm (by decide) ha, gfMul_zero]
  simp [synScale, hzero h0, hzero h1, hzero h2, hzero h3]

theorem xor_synScale {a b : Nat} {p : Nat × Nat × Nat × Nat} (ha : a < 16) (hb : b < 16) (hp : SynWf p) :
    synScale (a ^^^ b) p = synAdd (synScale a p) (synScale b p) := by
  obtain ⟨h0, h1, h2, h3⟩ := hp
  simp [synScale, synAdd, xor_gfMul ha hb h0, xor_gfMul ha hb h1, xor_gfMul ha hb h2, xor_gfMul ha hb h3]

/-! ### The symbols of a word -/

theorem symOf_lt (x j : Nat) : symOf x j < 16 := Nat.mod_lt _ (by decide)

theorem symOf_xor (x y j : Nat) : symOf (x ^^^ y) j = symOf x j ^^^ symOf y j := by
  have h16 : 16 ^ j = 2 ^ (4 * j) := by rw [Nat.pow_mul]
  unfold symOf
  rw [h16, Nat.xor_div_two_pow]
  exact Nat.xor_mod_two_pow (n := 4)

/-- One symbol in its place is below every later place. -/
theorem mul_pow_lt {d k n : Nat} (hd : d < 16) (hk : k < n) : d * 16 ^ k < 16 ^ n := calc
  d * 16 ^ k < 16 * 16 ^ k := Nat.mul_lt_mul_of_pos_right hd (Nat.pow_pos (by decide))
  _ = 16 ^ (k + 1) := by rw [Nat.pow_succ, Nat.mul_comm]
  _ ≤ 16 ^ n := Nat.pow_le_pow_right (by decide) hk

/-- A number with one symbol that is not 0. -/
theorem symOf_mul_pow {d : Nat} (hd : d < 16) (k j : Nat) : symOf (d * 16 ^ k) j = if j = k then d else 0 := by
  unfold symOf
  rcases Nat.lt_trichotomy j k with hlt | rfl | hgt
  · obtain ⟨m, rfl⟩ := Nat.exists_eq_add_of_lt hlt
    have hsplit : d * 16 ^ (j + m + 1) = 16 ^ j * (16 * (d * 16 ^ m)) := by
      rw [Nat.pow_succ, Nat.pow_add]
      ac_rfl
    rw [if_neg (by omega), hsplit, Nat.mul_div_cancel_left _ (Nat.pow_pos (by decide)), Nat.mul_mod_right]
  · rw [if_pos rfl, Nat.mul_div_cancel _ (Nat.pow_pos (by decide)), Nat.mod_eq_of_lt hd]
  · rw [if_neg (by omega), Nat.div_eq_of_lt (mul_pow_lt hd hgt)]

/-! ### The sum over the data symbols (R210, R211) -/

/-- The locator of data symbol `j`, for `j` below 32. -/
def dataLocator (j : Nat) : Nat × Nat × Nat × Nat := (1, gfF (symUV j).1 (symUV j).2, (symUV j).1, (symUV j).2)

/-- The sum over the first `n` data symbols. -/
def partialSum (x : Nat) : Nat → Nat × Nat × Nat × Nat
  | 0 => (0, 0, 0, 0)
  | n + 1 => synAdd (partialSum x n) (synScale (symOf x n) (dataLocator n))

theorem symUV_lt (j : Nat) : (symUV j).1 < 16 ∧ (symUV j).2 < 4 := by
  unfold symUV
  split <;> omega

theorem gfF_lt {u v : Nat} (hu : u < 16) : gfF u v < 16 :=
  xor_lt_sixteen (xor_lt_sixteen (gfMul_lt hu u) (gfMul_lt hu v)) (gfMul_lt (by decide) _)

theorem quadric_lt {s : Nat × Nat × Nat × Nat} (hs : SynWf s) : quadric s < 16 := by
  obtain ⟨h0, -, h2, -⟩ := hs
  exact xor_lt_sixteen (gfMul_lt h0 _) (gfF_lt h2)

theorem dataLocator_wf (j : Nat) : SynWf (dataLocator j) := by
  obtain ⟨hu, hv⟩ := symUV_lt j
  exact ⟨Nat.succ_lt_succ (Nat.succ_pos 14), gfF_lt hu, hu, Nat.lt_trans hv (by decide)⟩

theorem dataSum_eq_partialSum (x : Nat) : dataSum x = partialSum x 32 := by
  have hfold : ∀ n, (List.range n).foldl (fun t j => synAdd t (synScale (symOf x j) (dataLocator j))) (0, 0, 0, 0) =
      partialSum x n := by
    intro n
    induction n with
    | zero => rfl
    | succ n ih => rw [List.range_succ, List.foldl_append, ih]; rfl
  rw [← hfold, dataSum]
  simp only [synAdd, synScale, dataLocator, gfMul_one]

theorem partialSum_wf (x n : Nat) : SynWf (partialSum x n) := by
  induction n with
  | zero => simp [partialSum, SynWf]
  | succ n ih => exact synAdd_wf ih (synScale_wf (symOf_lt x n) _)

theorem dataSum_wf (x : Nat) : SynWf (dataSum x) := dataSum_eq_partialSum x ▸ partialSum_wf x 32

theorem partialSum_xor (x y n : Nat) : partialSum (x ^^^ y) n = synAdd (partialSum x n) (partialSum y n) := by
  induction n with
  | zero => simp [partialSum]
  | succ n ih =>
    simp only [partialSum]
    rw [ih, symOf_xor, xor_synScale (symOf_lt x n) (symOf_lt y n) (dataLocator_wf n), synAdd_synAdd_synAdd_comm]

/-- The sum has one term when one symbol alone is not 0. -/
theorem partialSum_mul_pow {d : Nat} (hd : d < 16) (k n : Nat) :
    partialSum (d * 16 ^ k) n = if k < n then synScale d (dataLocator k) else (0, 0, 0, 0) := by
  induction n with
  | zero => rfl
  | succ n ih =>
    simp only [partialSum]
    rw [ih, symOf_mul_pow hd]
    rcases Nat.lt_trichotomy k n with hlt | rfl | hgt
    · rw [if_pos hlt, if_neg (by omega), if_pos (by omega), zero_synScale (dataLocator_wf n), synAdd_zero]
    · rw [if_neg (by omega), if_pos rfl, if_pos (by omega), zero_synAdd]
    · rw [if_neg (by omega), if_neg (by omega), if_neg (by omega), zero_synScale (dataLocator_wf n), synAdd_zero]

/-! ### Syndromes and check bits (R210, R211) -/

theorem syndrome_wf (δ : BitVec 16) : SynWf (syndrome δ) := by
  have h := fun j => symOf_lt δ.toNat j
  exact ⟨xor_lt_sixteen (xor_lt_sixteen (h 0) (h 1)) (h 2),
    xor_lt_sixteen (xor_lt_sixteen (h 1) (gfMul_lt (by decide) _)) (h 3), h 1, h 2⟩

theorem syndrome_xor (δ ε : BitVec 16) : syndrome (δ ^^^ ε) = synAdd (syndrome δ) (syndrome ε) := by
  simp only [syndrome, synAdd, BitVec.toNat_xor, symOf_xor, gfMul_xor, Prod.mk.injEq, and_true]
  constructor <;> ac_rfl

/-- Check bits are determined by their four symbols. -/
theorem eq_of_symOf {δ ε : BitVec 16} (h0 : symOf δ.toNat 0 = symOf ε.toNat 0) (h1 : symOf δ.toNat 1 = symOf ε.toNat 1)
    (h2 : symOf δ.toNat 2 = symOf ε.toNat 2) (h3 : symOf δ.toNat 3 = symOf ε.toNat 3) : δ = ε := by
  apply BitVec.eq_of_toNat_eq
  have hδ := δ.isLt
  have hε := ε.isLt
  unfold symOf at h0 h1 h2 h3
  omega

theorem syndrome_injective {δ ε : BitVec 16} (h : syndrome δ = syndrome ε) : δ = ε := by
  simp only [syndrome, Prod.mk.injEq] at h
  obtain ⟨h0, hinf, h10, h01⟩ := h
  rw [h10, h01] at h0 hinf
  exact eq_of_symOf (eq_of_xor_eq (eq_of_xor_eq h0)) h10 h01
    (eq_of_xor_eq ((Nat.xor_comm _ _).trans (hinf.trans (Nat.xor_comm _ _))))

/-- The symbols of check bits put together from four symbols. -/
theorem symOf_ofNat {a b c d : Nat} (ha : a < 16) (hb : b < 16) (hc : c < 16) (hd : d < 16) :
    symOf (BitVec.ofNat 16 (a + 16 * b + 256 * c + 4096 * d)).toNat 0 = a ∧
    symOf (BitVec.ofNat 16 (a + 16 * b + 256 * c + 4096 * d)).toNat 1 = b ∧
    symOf (BitVec.ofNat 16 (a + 16 * b + 256 * c + 4096 * d)).toNat 2 = c ∧
    symOf (BitVec.ofNat 16 (a + 16 * b + 256 * c + 4096 * d)).toNat 3 = d := by
  simp only [symOf, BitVec.toNat_ofNat]
  omega

/-- The encoder gives check bits whose syndrome cancels that of the data. -/
theorem syndrome_encodeCheck (x : BitVec 128) : syndrome (encodeCheck x) = dataSum x.toNat := by
  obtain ⟨h0, h1, h2, h3⟩ := dataSum_wf x.toNat
  unfold syndrome encodeCheck
  obtain ⟨e0, e1, e2, e3⟩ := symOf_ofNat (xor_lt_sixteen (xor_lt_sixteen h0 h2) h3) h2 h3
    (xor_lt_sixteen (xor_lt_sixteen h1 h2) (gfMul_lt (a := 8) (by decide) (dataSum x.toNat).2.2.2))
  simp only [e0, e1, e2, e3]
  rw [Nat.xor_assoc (dataSum x.toNat).1, Nat.xor_assoc, xor_xor_self, Nat.xor_assoc (dataSum x.toNat).2.1,
    Nat.xor_comm, xor_xor_self]

theorem encodeCheck_xor (x y : BitVec 128) : encodeCheck (x ^^^ y) = encodeCheck x ^^^ encodeCheck y := by
  apply syndrome_injective
  simp only [syndrome_xor, syndrome_encodeCheck, BitVec.toNat_xor, dataSum_eq_partialSum, partialSum_xor]

/-! ### Errors of one symbol and their locators -/

/-- The locator of check symbol `m`, and after the four of them the point of the quadric that poison has (R214). -/
def checkLocator : Nat → Nat × Nat × Nat × Nat
  | 0 => (1, 0, 0, 0)
  | 1 => (1, 1, 1, 0)
  | 2 => (1, 8, 0, 1)
  | 3 => (0, 1, 0, 0)
  | _ => (1, 0xB, 0, 4)

/-- The locator of symbol `k` of a word, and at 36 that of poison. -/
def locator (k : Nat) : Nat × Nat × Nat × Nat := if k < 32 then dataLocator k else checkLocator (k - 32)

/-- The data and the check bits that an error `d` of symbol `k` inverts. -/
def symbolError (k d : Nat) : BitVec 128 × BitVec 16 :=
  if k < 32 then (BitVec.ofNat 128 (d * 16 ^ k), 0#16) else (0#128, BitVec.ofNat 16 (d * 16 ^ (k - 32)))

/-- The check difference of a word with such an error. -/
def errorDelta (k d : Nat) : BitVec 16 := encodeCheck (symbolError k d).1 ^^^ (symbolError k d).2

theorem locator_wf (k : Nat) : SynWf (locator k) := by
  unfold locator
  split
  · exact dataLocator_wf k
  · unfold checkLocator
    split <;> simp [SynWf]

/-- An error of a check symbol has a multiple of that symbol's locator as its syndrome. -/
theorem syndrome_ofNat_mul_pow {m d : Nat} (hm : m < 4) (hd : d < 16) :
    syndrome (BitVec.ofNat 16 (d * 16 ^ m)) = synScale d (checkLocator m) := by
  have hval : (BitVec.ofNat 16 (d * 16 ^ m)).toNat = d * 16 ^ m := by
    exact (BitVec.toNat_ofNat ..).trans (Nat.mod_eq_of_lt (mul_pow_lt (n := 4) hd hm))
  have h8 : gfMul 8 d = gfMul d 8 := gfMul_comm (by decide) hd
  unfold syndrome
  rw [hval]
  simp only [symOf_mul_pow hd]
  have hcases : m = 0 ∨ m = 1 ∨ m = 2 ∨ m = 3 := by omega
  rcases hcases with rfl | rfl | rfl | rfl <;> simp [synScale, checkLocator, h8]

/-- The syndrome of an error is its value times the locator of its symbol. -/
theorem syndrome_errorDelta {k d : Nat} (hk : k < 36) (hd : d < 16) :
    syndrome (errorDelta k d) = synScale d (locator k) := by
  unfold errorDelta symbolError locator
  by_cases hdata : k < 32
  · have hval : (BitVec.ofNat 128 (d * 16 ^ k)).toNat = d * 16 ^ k := by
      exact (BitVec.toNat_ofNat ..).trans (Nat.mod_eq_of_lt (mul_pow_lt (n := 32) hd hdata))
    simp only [if_pos hdata, BitVec.xor_zero, syndrome_encodeCheck, hval, dataSum_eq_partialSum,
      partialSum_mul_pow hd]
  · have hzero : encodeCheck 0#128 = 0#16 := by decide +kernel
    simp only [if_neg hdata, hzero, BitVec.zero_xor]
    exact syndrome_ofNat_mul_pow (by omega) hd

/-! ### The locators are points of the quadric, and no two are conjugate (R213) -/

theorem quadric_locator : ∀ k < 37, quadric (locator k) = 0 := by decide +kernel

/-- The line through two of the points has no third: the form is not 0 at their sum. -/
theorem quadric_synAdd_locator : ∀ k < 37, ∀ j < k, quadric (synAdd (locator j) (locator k)) ≠ 0 := by decide +kernel

/-- A combination of two of the points is not on the quadric. -/
theorem quadric_two_locators {j k d e : Nat} (hjk : j < k) (hk : k < 37) (hd0 : 0 < d) (hd : d < 16) (he0 : 0 < e)
    (he : e < 16) : quadric (synAdd (synScale d (locator j)) (synScale e (locator k))) ≠ 0 := by
  have hlt := quadric_lt (synAdd_wf (locator_wf j) (locator_wf k))
  rw [quadric_combination hd he (locator_wf j) (locator_wf k) (quadric_locator j (by omega)) (quadric_locator k hk)]
  exact gfMul_ne_zero (gfMul_lt hd e) hlt (gfMul_ne_zero hd he (by omega) (by omega))
    (quadric_synAdd_locator k hk j hjk)

/-! ### What a checker decodes (R212) -/

/-- Every word that a checker finds clean, poisoned or corrected has a syndrome on the quadric. -/
theorem decodeWord_of_quadric_ne_zero (x : BitVec 128) {δ : BitVec 16} (h : quadric (syndrome δ) ≠ 0) :
    decodeWord x δ = .uncorrectable := by
  have hclean : syndrome δ ≠ (0, 0, 0, 0) := fun hs => absurd (congrArg quadric hs) h
  have hpoison : syndrome δ ≠ (1, 0xB, 0, 4) := fun hs => absurd (congrArg quadric hs) h
  unfold decodeWord
  by_cases h0 : (syndrome δ).1 = 0
  · have hinf : ¬ ((syndrome δ).2.2.1 = 0 ∧ (syndrome δ).2.2.2 = 0) := by
      rintro ⟨h2, h3⟩
      obtain ⟨-, h1, -, -⟩ := syndrome_wf δ
      apply h
      rw [quadric, h0, h2, h3, gfMul_comm (by decide) h1, gfMul_zero]
      decide
    simp only [if_neg hclean, if_neg hpoison, h0, ne_eq, not_true_eq_false, if_false, if_neg hinf]
  · have htest := fun ht => h (quadric_of_quotients (syndrome_wf δ) h0 ht)
    simp only [if_neg hclean, if_neg hpoison, ne_eq, h0, not_false_eq_true, if_true, if_neg htest]

/-- The decoder finds the value and the (u, v) of a multiple of an affine point, and does not take it for poison. -/
theorem decodeWord_tests {s : Nat × Nat × Nat × Nat} {d u v : Nat} (hs : s = synScale d (1, gfF u v, u, v)) (hd0 : 0 < d)
    (hd : d < 16) (hu : u < 16) (hv : v < 4) :
    s ≠ (0, 0, 0, 0) ∧ s ≠ (1, 0xB, 0, 4) ∧ s.1 = d ∧ gfMul s.2.2.1 (gfInv d) = u ∧ gfMul s.2.2.2 (gfInv d) = v ∧
      s.2.1 = gfMul d (gfF u v) := by
  have hne : d ≠ 0 := by omega
  have hone : s.1 = d := by rw [hs]; exact gfMul_one d
  have hquotv : gfMul s.2.2.2 (gfInv d) = v := by rw [hs]; exact gfMul_gfInv_cancel hd (Nat.lt_trans hv (by decide)) hne
  refine ⟨?_, ?_, hone, ?_, hquotv, by rw [hs]; rfl⟩
  · rintro rfl
    exact hne hone.symm
  · rintro rfl
    subst hone
    exact absurd hv (hquotv ▸ by decide)
  · rw [hs]
    exact gfMul_gfInv_cancel hd hu hne

theorem symAt_symUV {k : Nat} (hk : k < 32) : symAt (symUV k).1 (symUV k).2 = some k := by
  unfold symAt symUV
  by_cases h : k < 16
  · simp [h]
  · simp [h]
    omega

/-- An error of a data symbol is found in its place. -/
theorem decodeWord_dataLocator (x : BitVec 128) {δ : BitVec 16} {k d : Nat} (hk : k < 32) (hd0 : 0 < d) (hd : d < 16)
    (hs : syndrome δ = synScale d (dataLocator k)) :
    decodeWord x δ = .corrected (x ^^^ BitVec.ofNat 128 (d * 16 ^ k)) := by
  obtain ⟨hu, hv⟩ := symUV_lt k
  obtain ⟨hclean, hpoison, hone, hquotu, hquotv, htest⟩ := decodeWord_tests hs hd0 hd hu hv
  have hne : d ≠ 0 := by omega
  simp [decodeWord, hclean, hpoison, hone, hquotu, hquotv, htest, hne, symAt_symUV hk]

/-- An error of C00, C10 or C01 leaves the data as it is. -/
theorem decodeWord_affine_check (x : BitVec 128) {δ : BitVec 16} {u v d : Nat}
    (huv : (u, v) = (0, 0) ∨ (u, v) = (1, 0) ∨ (u, v) = (0, 1)) (hd0 : 0 < d) (hd : d < 16)
    (hs : syndrome δ = synScale d (1, gfF u v, u, v)) : decodeWord x δ = .corrected x := by
  have hlt : u < 16 ∧ v < 2 := by
    simp only [Prod.mk.injEq] at huv
    omega
  obtain ⟨hu, hv⟩ := hlt
  obtain ⟨hclean, hpoison, hone, hquotu, hquotv, htest⟩ := decodeWord_tests hs hd0 hd hu (by omega)
  have hne : d ≠ 0 := by omega
  have hsym : symAt u v = none := by
    unfold symAt
    rw [if_neg (by omega), if_neg (by omega)]
  simp only [decodeWord, if_neg hclean, if_neg hpoison, hone, hquotu, hquotv, ne_eq, hne, not_false_eq_true, if_true,
    if_pos htest, hsym, if_pos huv]

/-- An error of CINF leaves the data as it is. -/
theorem decodeWord_infinity (x : BitVec 128) {δ : BitVec 16} {d : Nat} (hd0 : 0 < d)
    (hs : syndrome δ = synScale d (0, 1, 0, 0)) : decodeWord x δ = .corrected x := by
  have hne : d ≠ 0 := by omega
  simp [decodeWord, hs, synScale, hne]

/-- One symbol in error: the checker corrects it (R213). -/
theorem decodeWord_errorDelta (x : BitVec 128) {k d : Nat} (hk : k < 36) (hd0 : 0 < d) (hd : d < 16) :
    decodeWord x (errorDelta k d) = .corrected (x ^^^ (symbolError k d).1) := by
  have hs := syndrome_errorDelta hk hd
  by_cases hdata : k < 32
  · simp only [locator, if_pos hdata] at hs
    simp only [symbolError, if_pos hdata]
    exact decodeWord_dataLocator x hdata hd0 hd hs
  · simp only [symbolError, if_neg hdata, BitVec.xor_zero]
    have hcases : k = 32 ∨ k = 33 ∨ k = 34 ∨ k = 35 := by omega
    rcases hcases with rfl | rfl | rfl | rfl
    · exact decodeWord_affine_check x (.inl rfl) hd0 hd hs
    · exact decodeWord_affine_check x (.inr (.inl rfl)) hd0 hd hs
    · exact decodeWord_affine_check x (.inr (.inr rfl)) hd0 hd hs
    · exact decodeWord_infinity x hd0 hs

/-- Two symbols in error: the checker detects it (R213). -/
theorem decodeWord_errorDelta_xor (x : BitVec 128) {j k d e : Nat} (hjk : j < k) (hk : k < 36) (hd0 : 0 < d)
    (hd : d < 16) (he0 : 0 < e) (he : e < 16) : decodeWord x (errorDelta j d ^^^ errorDelta k e) = .uncorrectable := by
  apply decodeWord_of_quadric_ne_zero
  rw [syndrome_xor, syndrome_errorDelta (by omega) hd, syndrome_errorDelta hk he]
  exact quadric_two_locators hjk (by omega) hd0 hd he0 he

theorem syndrome_poisonMask : syndrome poisonMask = synScale 1 (locator 36) := by decide +kernel

/-- One symbol in error in a poisoned word (R214). -/
theorem decodeWord_errorDelta_xor_poisonMask (x : BitVec 128) {k d : Nat} (hk : k < 36) (hd0 : 0 < d) (hd : d < 16) :
    decodeWord x (errorDelta k d ^^^ poisonMask) = .uncorrectable := by
  apply decodeWord_of_quadric_ne_zero
  rw [syndrome_xor, syndrome_errorDelta hk hd, syndrome_poisonMask]
  exact quadric_two_locators hk (by decide) hd0 hd (by decide) (by decide)

/-! ### R213, R214 -/

/-- Settles O33: the syndrome of an error of two symbols, or of poison and one more, is a combination of two points of the
quadric, and so is off the quadric, where every word that is not uncorrectable has its syndrome. -/
theorem commonCode : Obligations.CommonCode := by
  unfold Obligations.CommonCode
  intro err herr
  obtain rfl : err = symbolError := funext fun k => funext (herr k)
  refine ⟨encodeCheck_xor, ?_, ?_, fun x => ⟨rfl, rfl⟩, ?_⟩
  · intro x k d hk hd0 hd
    exact (decodeWord_errorDelta _ hk hd0 hd).trans (by rw [BitVec.xor_assoc, BitVec.xor_self, BitVec.xor_zero])
  · intro x j k d e hjk hk hd0 hd he0 he
    have hδ : encodeCheck ((symbolError j d).1 ^^^ (symbolError k e).1) ^^^ (symbolError j d).2 ^^^ (symbolError k e).2 =
        errorDelta j d ^^^ errorDelta k e := by
      rw [encodeCheck_xor, errorDelta, errorDelta]
      ac_rfl
    rw [hδ]
    exact decodeWord_errorDelta_xor _ hjk hk hd0 hd he0 he
  · intro x k d hk hd0 hd
    rw [BitVec.xor_assoc, BitVec.xor_comm]
    exact decodeWord_errorDelta_xor_poisonMask x hk hd0 hd

end Sys2Proof.Machine
end

section
/-! PROOFS. The block as a whole: what every command answers, one step, and a queue run to its end. -/

namespace Sys2Proof.Machine

/-! ### One command -/

/-- Every command is the common answer `act`, over its own check of units and its own effect. -/
theorem exec_eq_act (i : Instr) : ∃ f : State → State, ∀ s, exec i s = act i.wf f s := by
  cases i <;> exact ⟨_, fun _ => rfl⟩

/-- A command that names units the module has answers a next state, keeps the queue and leaves nothing owed. -/
theorem exec_of_wf {i : Instr} (h : i.wf = true) (s : State) :
    ∃ t, exec i s = .next t ∧ t.pending = s.pending ∧ t.Settled := by
  obtain ⟨f, hf⟩ := exec_eq_act i
  rw [hf]
  exact (act_answers i.wf f s).1 h

/-- A command that names a unit the module does not have faults. -/
theorem exec_of_not_wf {i : Instr} (h : i.wf = false) (s : State) : exec i s = .fault .noSuchUnit := by
  obtain ⟨f, hf⟩ := exec_eq_act i
  rw [hf]
  exact (act_answers i.wf f s).2 h

/-- A command that answers a next state keeps the queue and leaves nothing owed. -/
theorem exec_next {i : Instr} {s t : State} (h : exec i s = .next t) : t.pending = s.pending ∧ t.Settled := by
  obtain ⟨f, hf⟩ := exec_eq_act i
  rw [hf] at h
  obtain ⟨-, -, hp, htodo⟩ := act_next h
  exact ⟨hp, htodo⟩

/-- Settles O57: every command is `act` over its own check, and `act` answers exactly where the check holds. -/
theorem everyCommandAnswers : Obligations.EveryCommandAnswers := by
  unfold Obligations.EveryCommandAnswers
  exact fun i s => ⟨fun h => exec_of_wf h s, fun h => exec_of_not_wf h s⟩

/-! ### One step -/

theorem step_of_pending_cons {s : State} {c : Instr} {rest : List Instr} (h : s.pending = c :: rest) :
    step s = exec c { s with pending := rest } := by
  simp [step, h]

theorem step_of_pending_nil {s : State} (h : s.pending = []) : step s = .next s.tick := by
  simp [step, h]

/-- Settles O56: the two cases of `step`, and what the idle tick leaves alone. -/
theorem stepTakesFront : Obligations.StepTakesFront := by
  unfold Obligations.StepTakesFront
  refine ⟨fun s c rest h => step_of_pending_cons h, fun s h => ?_⟩
  exact ⟨step_of_pending_nil h, rfl, rfl, rfl, rfl, h⟩

/-- A step from a state that owes nothing leads to one that owes nothing, and takes the front of the queue. -/
theorem step_next {s t : State} (hs : s.Settled) (h : step s = .next t) : t.Settled ∧ t.pending = s.pending.tail := by
  cases hq : s.pending with
  | nil =>
    rw [step_of_pending_nil hq] at h
    injection h with h
    subst h
    exact ⟨hs, hq⟩
  | cons c rest =>
    rw [step_of_pending_cons hq] at h
    obtain ⟨hp, hsettled⟩ := exec_next h
    exact ⟨hsettled, hp⟩

/-- Settles O58: a step is the idle tick or a command, and both keep that nothing is owed. -/
theorem nothingOwed : Obligations.NothingOwed := by
  unfold Obligations.NothingOwed
  exact fun s t hs h => step_next hs h

/-! ### A queue run to its end -/

/-- With a well-formed command at the front, a step answers a next state. -/
theorem step_answers {s : State} (hwf : ∀ i ∈ s.pending, i.wf = true) : ∃ t, step s = .next t := by
  cases hq : s.pending with
  | nil => exact ⟨_, step_of_pending_nil hq⟩
  | cons c rest =>
    obtain ⟨t, ht, -⟩ := exec_of_wf (hwf c (hq ▸ List.mem_cons_self)) { s with pending := rest }
    exact ⟨t, (step_of_pending_cons hq).trans ht⟩

/-- Any number of steps over a queue of well-formed commands performs that many of them, and keeps that nothing is
owed. -/
theorem run_answers (n : Nat) {s : State} (hs : s.Settled) (hwf : ∀ i ∈ s.pending, i.wf = true) :
    ∃ t : State, Host.Core.run core n s = .next t ∧ t.pending = s.pending.drop n ∧ t.Settled := by
  induction n generalizing s with
  | zero => exact ⟨s, rfl, rfl, hs⟩
  | succ n ih =>
    obtain ⟨u, hu⟩ := step_answers hwf
    obtain ⟨husettled, hup⟩ := step_next hs hu
    obtain ⟨t, ht, htp, htsettled⟩ := ih husettled fun i hi => hwf i (List.mem_of_mem_tail (hup ▸ hi))
    refine ⟨t, ?_, ?_, htsettled⟩
    · have hcore : core.step s = .next u := hu
      simpa only [Host.Core.run, hcore] using ht
    · rw [htp, hup, List.drop_tail]

/-- Settles O59: by induction on the number of steps, each of which takes the front command. -/
theorem queueDrains : Obligations.QueueDrains := by
  unfold Obligations.QueueDrains
  intro s hs hwf
  constructor
  · obtain ⟨t, ht, htp, htsettled⟩ := run_answers s.pending.length hs hwf
    exact ⟨t, ht, htp.trans List.drop_length, htsettled⟩
  · intro n _
    obtain ⟨t, ht, htp, -⟩ := run_answers n hs hwf
    exact ⟨t, ht, htp⟩

end Sys2Proof.Machine
end

section
/-! PROOFS. The encodings of vector instructions (R102): form V and form J, field by field. -/

namespace Sys2Proof.Machine

open BitVec

/-! ### Single bits as fields -/

/-- A single bit of a word is its field of one bit. -/
theorem ofBool_getLsbD {n : Nat} (w : BitVec n) (k : Nat) : ofBool (w.getLsbD k) = w.extractLsb' k 1 := by
  apply eq_of_getLsbD_eq
  intro i hi
  obtain rfl : i = 0 := by omega
  simp

theorem getLsbD_of_extractLsb'_eq {n : Nat} {w : BitVec n} {k : Nat} {b : Bool} (h : w.extractLsb' k 1 = ofBool b) :
    w.getLsbD k = b := by
  rw [← ofBool_getLsbD] at h
  exact ofBool_eq_iff_eq.1 h

/-! ### What is encoded is decoded -/

theorem opcodeOf_encodeV (op : BitVec 8) (x : VForm) : opcodeOf (encodeV op x) = op := by
  simp (disch := decide) only [opcodeOf, encodeV, extractLsb'_append_eq_of_le, Nat.reduceSub, extractLsb'_eq_self]

theorem getLsbD_encodeV_pn (op : BitVec 8) (x : VForm) : (encodeV op x).getLsbD 52 = x.pn := by
  apply getLsbD_of_extractLsb'_eq
  simp (disch := decide) only [encodeV, extractLsb'_append_eq_of_le, extractLsb'_append_eq_of_add_le, Nat.reduceSub,
    extractLsb'_eq_self]

/-- Each field of form V lies in its own bits, so that reading them from the word gives the field. -/
theorem decodeV_encodeV (op : BitVec 8) (x : VForm) : decodeV (encodeV op x) = x := by
  have hpn := getLsbD_encodeV_pn op x
  cases x
  simp (disch := decide) only [decodeV, hpn]
  simp (disch := decide) only [encodeV, extractLsb'_append_eq_of_le, extractLsb'_append_eq_of_add_le, Nat.reduceSub,
    extractLsb'_eq_self]

theorem opcodeOf_encodeJ (op : BitVec 8) (x : JForm) : opcodeOf (encodeJ op x) = op := by
  simp (disch := decide) only [opcodeOf, encodeJ, extractLsb'_append_eq_of_le, Nat.reduceSub, extractLsb'_eq_self]

theorem getLsbD_encodeJ_pn (op : BitVec 8) (x : JForm) : (encodeJ op x).getLsbD 52 = x.pn := by
  apply getLsbD_of_extractLsb'_eq
  simp (disch := decide) only [encodeJ, extractLsb'_append_eq_of_le, extractLsb'_append_eq_of_add_le, Nat.reduceSub,
    extractLsb'_eq_self]

theorem decodeJ_encodeJ (op : BitVec 8) (x : JForm) : decodeJ (encodeJ op x) = x := by
  have hpn := getLsbD_encodeJ_pn op x
  cases x
  simp (disch := decide) only [decodeJ, hpn]
  simp (disch := decide) only [encodeJ, extractLsb'_append_eq_of_le, extractLsb'_append_eq_of_add_le, Nat.reduceSub,
    extractLsb'_eq_self]

/-- Form J leaves the bits 46 to 32 zero. -/
theorem extractLsb'_encodeJ_rsv (op : BitVec 8) (x : JForm) : (encodeJ op x).extractLsb' 32 15 = 0#15 := by
  simp (disch := decide) only [encodeJ, extractLsb'_append_eq_of_le, extractLsb'_append_eq_of_add_le, Nat.reduceSub,
    extractLsb'_eq_self]

/-! ### What is decoded is encoded -/

/-- The fields of form V are the whole word, each beginning where the one below it ends. -/
theorem encodeV_decodeV (w : BitVec 64) : encodeV (opcodeOf w) (decodeV w) = w := by
  simp only [encodeV, opcodeOf, decodeV, ofBool_getLsbD]
  repeat rw [extractLsb'_append_extractLsb'_eq_extractLsb' (by decide)]
  exact extractLsb'_eq_self

/-- A word whose bits 46 to 32 are zero is an instruction of form J. -/
theorem encodeJ_decodeJ {w : BitVec 64} (h : w.extractLsb' 32 15 = 0#15) : encodeJ (opcodeOf w) (decodeJ w) = w := by
  simp only [encodeJ, opcodeOf, decodeJ, ofBool_getLsbD]
  rw [← h]
  repeat rw [extractLsb'_append_extractLsb'_eq_extractLsb' (by decide)]
  exact extractLsb'_eq_self

/-- Settles O27: field by field, both ways; form J reaches the words with zeros between its fields. -/
theorem vectorEncoding : Obligations.VectorEncoding := by
  unfold Obligations.VectorEncoding
  refine ⟨fun op x => ⟨opcodeOf_encodeV op x, decodeV_encodeV op x⟩,
    fun op x => ⟨opcodeOf_encodeJ op x, decodeJ_encodeJ op x⟩, encodeV_decodeV, fun w => ⟨fun h => ?_, encodeJ_decodeJ⟩⟩
  rw [← h]
  exact extractLsb'_encodeJ_rsv _ _

end Sys2Proof.Machine
end

section
/-! PROOFS. What the commit of a pass adds to each position of its bank (R67, R68). -/

namespace Sys2Proof.Machine

/-- All that a list of additions adds at position `k`. -/
def addedAt (k : Nat) (cells : List (Nat × Int)) : Int := ((cells.filter fun c => decide (c.1 = k)).map Prod.snd).sum

@[simp] theorem addedAt_nil (k : Nat) : addedAt k [] = 0 := rfl

theorem addedAt_cons (k : Nat) (c : Nat × Int) (cells : List (Nat × Int)) :
    addedAt k (c :: cells) = (if c.1 = k then c.2 else 0) + addedAt k cells := by
  by_cases h : c.1 = k <;> simp [addedAt, h]

theorem addedAt_append (k : Nat) (l m : List (Nat × Int)) : addedAt k (l ++ m) = addedAt k l + addedAt k m := by
  simp [addedAt]

/-- Additions to an accumulator, one by one, leave at each position what was there and all that was added there. -/
theorem tget_foldl_tput (cells : List (Nat × Int)) (t : Tab Int) (k : Nat) :
    tget 0 (cells.foldl (fun t x => tput 0 x.1 (tget 0 t x.1 + x.2) t) t) k = tget 0 t k + addedAt k cells := by
  induction cells generalizing t with
  | nil => simp
  | cons c cells ih =>
    rw [List.foldl_cons, ih, tget_tput, addedAt_cons]
    by_cases h : k = c.1
    · subst h
      simp [Int.add_assoc]
    · simp [h, Ne.symm h]

/-- The output of a row at position `j` is added `j` positions after the row's first. -/
theorem addedAt_row (r : List Int) (base m k : Nat) :
    addedAt k ((r.zipIdx m).map fun x => (base + x.2, x.1)) = if base + m ≤ k then (r[k - (base + m)]?).getD 0 else 0 := by
  induction r generalizing m with
  | nil => simp
  | cons a r ih =>
    rw [List.zipIdx_cons, List.map_cons, addedAt_cons, ih]
    rcases Nat.lt_trichotomy k (base + m) with h | h | h
    · simp [show ¬ base + m ≤ k by omega, show ¬ base + (m + 1) ≤ k by omega, show base + m ≠ k by omega]
    · subst h
      rw [if_pos rfl, if_neg (by omega), if_pos (Nat.le_refl _), Nat.sub_self]
      simp
    · have hsub : k - (base + m) = k - (base + (m + 1)) + 1 := by omega
      simp [show base + m ≤ k by omega, show base + (m + 1) ≤ k by omega, show base + m ≠ k by omega, hsub]

/-- The additions of a pass's buffer, whose rows take 64 positions each. -/
theorem addedAt_rows (buf : List (List Int)) (hbuf : ∀ r ∈ buf, r.length ≤ 64) (m n j : Nat) (hj : j < 64) :
    addedAt (64 * n + j) ((buf.zipIdx m).flatMap fun r => r.1.zipIdx.map fun x => (64 * r.2 + x.2, x.1)) =
      if m ≤ n then ((lget [] buf (n - m))[j]?).getD 0 else 0 := by
  induction buf generalizing m with
  | nil => simp [lget]
  | cons r buf ih =>
    have hr : r.length ≤ 64 := hbuf r List.mem_cons_self
    rw [List.zipIdx_cons, List.flatMap_cons, addedAt_append, addedAt_row,
      ih (fun r' h' => hbuf r' (List.mem_cons_of_mem _ h'))]
    rcases Nat.lt_trichotomy n m with h | h | h
    · simp [show ¬ m ≤ n by omega, show ¬ m + 1 ≤ n by omega, show ¬ 64 * m ≤ 64 * n + j by omega]
    · subst h
      simp [lget, show ¬ n + 1 ≤ n by omega]
    · have hsub : n - m = n - (m + 1) + 1 := by omega
      have hout : r.length ≤ 64 * n + j - 64 * m := by omega
      simp [lget, show m ≤ n by omega, show m + 1 ≤ n by omega, hsub, List.getElem?_eq_none hout]

/-- Continuing a chain, each position gains the pass's output there. -/
theorem tget_commitBank_continue (b : Bank) (cls kc : Nat) {run : PassRun} (hbuf : ∀ r ∈ run.buf, r.length ≤ 64)
    (n : Nat) {j : Nat} (hj : j < 64) :
    tget 0 (commitBank b false cls kc run).acc (64 * n + j) =
      tget 0 b.acc (64 * n + j) + ((lget [] run.buf n)[j]?).getD 0 := by
  simp only [commitBank, tget_foldl_tput, addedAt_rows run.buf hbuf 0 n j hj]
  simp

/-- Under FRESH each position holds the pass's output there. -/
theorem tget_commitBank_fresh (b : Bank) (cls kc : Nat) {run : PassRun} (hbuf : ∀ r ∈ run.buf, r.length ≤ 64)
    (n : Nat) {j : Nat} (hj : j < 64) :
    tget 0 (commitBank b true cls kc run).acc (64 * n + j) = ((lget [] run.buf n)[j]?).getD 0 := by
  simp only [commitBank, tget_foldl_tput, addedAt_rows run.buf hbuf 0 n j hj]
  simp [Bank.reset, tget]

/-- No row of a pass's buffer that is at most 64 long has an output past its 64 positions. -/
theorem lt_of_output {buf : List (List Int)} (hbuf : ∀ r ∈ buf, r.length ≤ 64) {n j : Nat} {x : Int}
    (h : (lget [] buf n)[j]? = some x) : j < 64 := by
  obtain ⟨hj, -⟩ := List.getElem?_eq_some_iff.1 h
  unfold lget at hj
  cases hn : buf[n]? with
  | none => simp [hn] at hj
  | some r =>
    have hr := hbuf r (List.mem_of_getElem? hn)
    simp only [hn, Option.getD_some] at hj
    omega

/-- Settles O17: the positions of the buffer's outputs are distinct, so each accumulator gains its own output only. -/
theorem commitAdds : Obligations.CommitAdds := by
  unfold Obligations.CommitAdds
  intro b cls kc run hbuf
  refine ⟨fun n j x hx => ?_, fun n j hj hnone => ?_, rfl, ?_, rfl, rfl⟩
  · have hj := lt_of_output hbuf hx
    rw [tget_commitBank_continue b cls kc hbuf n hj, tget_commitBank_fresh b cls kc hbuf n hj, hx]
    exact ⟨rfl, rfl⟩
  · rw [tget_commitBank_continue b cls kc hbuf n hj, tget_commitBank_fresh b cls kc hbuf n hj, hnone]
    simp
  · simp [commitBank, Bank.reset]

end Sys2Proof.Machine
end

section
/-! PROOFS. The parts of a run of bytes that a copy is made of (R316). -/

namespace Sys2Proof.Machine

/-- The length of the first part of a run: to its end, or to the next 4 KiB boundary of either place. -/
def firstPart (a b : Nat) (p : Piece) : Nat :=
  min p.n (min (4096 - (a + p.src) % 4096) (4096 - (b + p.dst) % 4096))

/-- What follows the first part of a run. -/
def afterFirst (a b : Nat) (p : Piece) : Piece :=
  ⟨p.src + firstPart a b p, p.dst + firstPart a b p, p.n - firstPart a b p⟩

/-- A run that reaches no boundary is its own only part. -/
theorem splitPiece_last {a b : Nat} {p : Piece} (f : Nat) (h : p.n ≤ firstPart a b p) : splitPiece a b (f + 1) p = [p] :=
  if_pos (.inl h)

/-- Any other run is its first part and the parts of what follows. -/
theorem splitPiece_cons {a b : Nat} {p : Piece} (f : Nat) (h : firstPart a b p < p.n) :
    splitPiece a b (f + 1) p = ⟨p.src, p.dst, firstPart a b p⟩ :: splitPiece a b f (afterFirst a b p) := by
  have hpos : ¬ (p.n ≤ firstPart a b p ∨ firstPart a b p = 0) := by
    unfold firstPart at h ⊢
    omega
  exact if_neg hpos

/-- Neither the first part nor a run that is its own only part crosses a boundary. -/
theorem firstPart_fits (a b : Nat) (p : Piece) :
    (a + p.src) % 4096 + firstPart a b p ≤ 4096 ∧ (b + p.dst) % 4096 + firstPart a b p ≤ 4096 := by
  unfold firstPart
  omega

/-- No part crosses a 4 KiB boundary of either place. -/
theorem splitPiece_fits (a b f : Nat) (p : Piece) :
    ∀ q ∈ splitPiece a b f p, (a + q.src) % 4096 + q.n ≤ 4096 ∧ (b + q.dst) % 4096 + q.n ≤ 4096 := by
  induction f generalizing p with
  | zero => simp [splitPiece]
  | succ f ih =>
    have hfits := firstPart_fits a b p
    rcases Nat.lt_or_ge (firstPart a b p) p.n with h | h
    · rw [splitPiece_cons f h]
      exact List.forall_mem_cons.2 ⟨hfits, ih _⟩
    · rw [splitPiece_last f h]
      intro q hq
      obtain rfl := List.mem_singleton.1 hq
      omega

/-- Every part lies within the run, at the same distance from both places. -/
theorem splitPiece_within (a b f : Nat) (p : Piece) :
    ∀ q ∈ splitPiece a b f p, p.src ≤ q.src ∧ q.src + q.n ≤ p.src + p.n ∧ q.src + p.dst = q.dst + p.src := by
  induction f generalizing p with
  | zero => simp [splitPiece]
  | succ f ih =>
    rcases Nat.lt_or_ge (firstPart a b p) p.n with h | h
    · rw [splitPiece_cons f h]
      refine List.forall_mem_cons.2 ⟨⟨Nat.le_refl _, Nat.add_le_add_left (Nat.le_of_lt h) _, Nat.add_comm _ _⟩, fun q hq => ?_⟩
      have hq := ih _ q hq
      simp only [afterFirst] at hq
      omega
    · rw [splitPiece_last f h]
      intro q hq
      obtain rfl := List.mem_singleton.1 hq
      exact ⟨Nat.le_refl _, Nat.le_refl _, Nat.add_comm _ _⟩

/-- The boundaries of both places within a run. -/
def boundaries (a b : Nat) (p : Piece) : Nat :=
  ((a + p.src) % 4096 + p.n) / 4096 + ((b + p.dst) % 4096 + p.n) / 4096

/-- The first part ends at a boundary, so that what follows holds fewer. -/
theorem boundaries_afterFirst {a b : Nat} {p : Piece} (h : firstPart a b p < p.n) :
    boundaries a b (afterFirst a b p) < boundaries a b p := by
  simp only [boundaries, afterFirst, ← Nat.add_assoc]
  unfold firstPart at h ⊢
  omega

/-- With a part for each boundary and one more, the parts are the whole run. -/
theorem splitPiece_sum {a b f : Nat} {p : Piece} (hf : boundaries a b p < f) :
    ((splitPiece a b f p).map fun q => q.n).sum = p.n := by
  induction f generalizing p with
  | zero => omega
  | succ f ih =>
    rcases Nat.lt_or_ge (firstPart a b p) p.n with h | h
    · have hfewer := boundaries_afterFirst h
      rw [splitPiece_cons f h, List.map_cons, List.sum_cons, ih (by omega)]
      simp only [afterFirst]
      omega
    · rw [splitPiece_last f h]
      simp

theorem boundaries_le (a b : Nat) (p : Piece) : boundaries a b p ≤ 2 * (p.n / 4096) + 2 := by
  unfold boundaries
  omega

/-- Settles O21: each part but the last ends at a boundary of one of the places. -/
theorem copyParts : Obligations.CopyParts := by
  unfold Obligations.CopyParts
  intro a b f p
  refine ⟨splitPiece_fits a b f p, fun hf => splitPiece_sum ?_, splitPiece_within a b f p⟩
  have := boundaries_le a b p
  omega

end Sys2Proof.Machine
end

section
/-! PROOFS. Bytes and numbers (R5): what a number's bytes are, and what number a run of bytes is. -/

namespace Sys2Proof.Machine

@[simp] theorem length_toBytes (n x : Nat) : (toBytes n x).length = n := by
  induction n generalizing x with
  | zero => rfl
  | succ n ih => simp [toBytes, ih]

theorem getElem?_toBytes {n : Nat} (x : Nat) {i : Nat} (hi : i < n) :
    (toBytes n x)[i]? = some (BitVec.ofNat 8 (x / 256 ^ i)) := by
  induction n generalizing x i with
  | zero => omega
  | succ n ih =>
    cases i with
    | zero => simp [toBytes]
    | succ i =>
      rw [toBytes, List.getElem?_cons_succ, ih (x / 256) (by omega), Nat.div_div_eq_div_mul, ← Nat.pow_succ']

/-- The byte at offset `i` of a number that its bytes hold wholly. -/
theorem lget_toBytes {n x : Nat} (hx : x < 256 ^ n) (i : Nat) :
    lget 0#8 (toBytes n x) i = BitVec.ofNat 8 (x / 256 ^ i) := by
  rcases Nat.lt_or_ge i n with hi | hi
  · simp [lget, getElem?_toBytes x hi]
  · have hpow : 256 ^ n ≤ 256 ^ i := Nat.pow_le_pow_right (by decide) hi
    rw [Nat.div_eq_of_lt (by omega)]
    simp [lget, List.getElem?_eq_none (show (toBytes n x).length ≤ i by simpa using hi)]

theorem ofBytes_append (l m : Bytes) : ofBytes (l ++ m) = ofBytes l + 256 ^ l.length * ofBytes m := by
  induction l with
  | nil => simp [ofBytes]
  | cons b l ih =>
    rw [List.cons_append, ofBytes, ih, ofBytes, List.length_cons, Nat.pow_succ', Nat.mul_add, ← Nat.mul_assoc, Nat.add_assoc]

/-- The number that the first `n` bytes of a number are. -/
theorem ofBytes_map_range (x n : Nat) : ofBytes ((List.range n).map fun i => BitVec.ofNat 8 (x / 256 ^ i)) = x % 256 ^ n := by
  induction n with
  | zero => simp [ofBytes, Nat.mod_one]
  | succ n ih =>
    rw [List.range_succ, List.map_append, ofBytes_append, ih, Nat.mod_pow_succ]
    simp [ofBytes]

end Sys2Proof.Machine
end

section
/-! PROOFS. Tile layout, element packing, and sums in the window (R34, R40 to R55, R73). -/

namespace Sys2Proof.Machine

/-! ### Tile layout (R73) -/

theorem tileOff_lt {r c : Nat} (hr : r < 256) (hc : c < 256) : tileOff r c < 65536 := by
  have hblock : (c / 16) ^^^ (r / 16) < 16 := xor_lt_sixteen (by omega) (by omega)
  unfold tileOff
  omega

/-- The block of 256 bytes, and the place in it, each tell one coordinate's part. -/
theorem tileOff_injective {r c r' c' : Nat} (hr : r < 256) (hc : c < 256) (hr' : r' < 256) (hc' : c' < 256)
    (h : tileOff r c = tileOff r' c') : r = r' ∧ c = c' := by
  have hblock : (c / 16) ^^^ (r / 16) < 16 := xor_lt_sixteen (by omega) (by omega)
  have hblock' : (c' / 16) ^^^ (r' / 16) < 16 := xor_lt_sixteen (by omega) (by omega)
  unfold tileOff at h
  have hrow : r / 16 = r' / 16 := by omega
  have hcol : (c / 16) ^^^ (r / 16) = (c' / 16) ^^^ (r' / 16) := by omega
  rw [hrow] at hcol
  have hcol := eq_of_xor_eq hcol
  omega

/-! ### Element packing (R34) -/

/-- The number that the packed elements are. -/
def packedNat (w : Nat) (l : List Nat) : Nat := l.foldr (fun v a => v % 2 ^ w + 2 ^ w * a) 0

theorem packedNat_lt (w : Nat) (l : List Nat) : packedNat w l < 2 ^ (w * l.length) := by
  induction l with
  | nil => simp [packedNat]
  | cons v l ih =>
    have hv : v % 2 ^ w < 2 ^ w := Nat.mod_lt _ (Nat.two_pow_pos w)
    have hexp : 2 ^ (w * (v :: l).length) = 2 ^ w * 2 ^ (w * l.length) := by
      rw [← Nat.pow_add, List.length_cons, Nat.mul_succ, Nat.add_comm]
    have hle : 2 ^ w * (packedNat w l + 1) ≤ 2 ^ w * 2 ^ (w * l.length) := Nat.mul_le_mul_left _ ih
    rw [hexp]
    change v % 2 ^ w + 2 ^ w * packedNat w l < _
    rw [Nat.mul_add] at hle
    omega

/-- Element `i` stands `i` widths up in the packed number. -/
theorem packedNat_elem (w : Nat) (l : List Nat) (i : Nat) : packedNat w l / 2 ^ (w * i) % 2 ^ w = lget 0 l i % 2 ^ w := by
  have hw := Nat.two_pow_pos w
  induction l generalizing i with
  | nil => simp [packedNat, lget]
  | cons v l ih =>
    have hcons : packedNat w (v :: l) = v % 2 ^ w + 2 ^ w * packedNat w l := rfl
    cases i with
    | zero => simp [hcons, lget]
    | succ i =>
      have hexp : 2 ^ (w * (i + 1)) = 2 ^ w * 2 ^ (w * i) := by rw [← Nat.pow_add, Nat.mul_succ, Nat.add_comm]
      have hrest : packedNat w (v :: l) / 2 ^ w = packedNat w l := by
        rw [hcons, Nat.add_mul_div_left _ _ hw, Nat.div_eq_of_lt (Nat.mod_lt _ hw), Nat.zero_add]
      rw [hexp, ← Nat.div_div_eq_div_mul, hrest, ih]
      simp [lget]

/-- The bytes of the packed elements hold them all. -/
theorem packedNat_lt_bytes (w : Nat) (l : List Nat) : packedNat w l < 256 ^ packedBytes w l.length := by
  refine Nat.lt_of_lt_of_le (packedNat_lt w l) ?_
  rw [show 256 = 2 ^ 8 from rfl, ← Nat.pow_mul]
  refine Nat.pow_le_pow_right (by decide) ?_
  unfold packedBytes
  omega

/-- Dropping bits that lie above those read changes nothing. -/
theorem mod_pow_div_mod {x n r w : Nat} (h : r + w ≤ n) : x % 2 ^ n / 2 ^ r % 2 ^ w = x / 2 ^ r % 2 ^ w := by
  obtain ⟨k, rfl⟩ := Nat.exists_eq_add_of_le h
  rw [Nat.add_assoc, Nat.pow_add, Nat.mod_mul_right_div_self, Nat.pow_add,
    Nat.mod_mod_of_dvd _ (Nat.dvd_mul_right _ _)]

/-- Reading element `i` from the bytes of a number reads the bits that begin `i` widths up. -/
theorem elemAt_of_bytes (x w i : Nat) :
    elemAt (fun o => BitVec.ofNat 8 (x / 256 ^ o)) w i = x / 2 ^ (w * i) % 2 ^ w := by
  have hshift : ∀ j, x / 256 ^ (w * i / 8 + j) = x / 256 ^ (w * i / 8) / 256 ^ j := fun j => by
    rw [Nat.pow_add, Nat.div_div_eq_div_mul]
  have h256 : ∀ n, 256 ^ n = 2 ^ (8 * n) := fun n => Nat.pow_mul 2 8 n ▸ rfl
  unfold elemAt
  simp only [hshift]
  rw [ofBytes_map_range, h256, h256, mod_pow_div_mod (by omega), Nat.div_div_eq_div_mul, ← Nat.pow_add,
    Nat.div_add_mod]

theorem elemAt_packElems (w : Nat) (l : List Nat) (i : Nat) :
    elemAt (fun o => lget 0#8 (packElems w l) o) w i = lget 0 l i % 2 ^ w := by
  have hbytes : (fun o => lget 0#8 (packElems w l) o) = fun o => BitVec.ofNat 8 (packedNat w l / 256 ^ o) :=
    funext (lget_toBytes (packedNat_lt_bytes w l))
  rw [hbytes, elemAt_of_bytes, packedNat_elem]

/-! ### Sums in the window (R40 to R42, R55) -/

theorem clampP_of_gt {q : Int} (h : maxP < q) : clampP q = (maxP, true) := if_pos h

theorem clampP_of_lt {q : Int} (h : q < -maxP) : clampP q = (-maxP, true) := by
  have hpos : (0 : Int) < maxP := by decide
  rw [clampP, if_neg (by omega), if_pos h]

theorem clampP_of_within {q : Int} (h1 : -maxP ≤ q) (h2 : q ≤ maxP) : clampP q = (q, false) := by
  rw [clampP, if_neg (by omega), if_neg (by omega)]

/-- A clamped sum lies in the window's range, and is marked exactly where the clamp changed it. -/
theorem clampP_spec (q : Int) :
    -maxP ≤ (clampP q).1 ∧ (clampP q).1 ≤ maxP ∧ ((clampP q).2 = true ↔ (clampP q).1 ≠ q) := by
  have hpos : (0 : Int) < maxP := by decide
  rcases Int.lt_or_le maxP q with h | h
  · rw [clampP_of_gt h]
    exact ⟨by omega, by omega, by simpa using by omega⟩
  · rcases Int.lt_or_le q (-maxP) with h' | h'
    · rw [clampP_of_lt h']
      exact ⟨by omega, by omega, by simpa using by omega⟩
    · rw [clampP_of_within h' h]
      exact ⟨h', h, by simp⟩

theorem xpAdd_comm (a b : BitVec 128) : xpAdd a b = xpAdd b a := by
  simp only [xpAdd, Or.comm (a := a = narCode), Int.add_comm a.toInt]

theorem xpAdd_nar (a : BitVec 128) : xpAdd a narCode = (narCode, nfNR) := if_pos (.inr rfl)

theorem xpAdd_of_ne_nar {a b : BitVec 128} (ha : a ≠ narCode) (hb : b ≠ narCode) :
    xpAdd a b = (BitVec.ofInt 128 (clampP (a.toInt + b.toInt)).1, if (clampP (a.toInt + b.toInt)).2 then nfOV else 0#8) :=
  if_neg (by simp [ha, hb])

/-- A term whose exponent lies in the window enters it exactly. -/
theorem windowQ_of_nonneg {w m e : Int} (h : 0 ≤ e + 127 - w) :
    windowQ w m e = ((clampP (m * 2 ^ (e + 127 - w).toNat)).1,
      if (clampP (m * 2 ^ (e + 127 - w).toNat)).2 then nfOV else 0#8) := by
  have hshift : floorShift m (e + 127 - w) = m * 2 ^ (e + 127 - w).toNat := if_pos h
  have hexact : shiftExact m (e + 127 - w) = true := by rw [shiftExact, decide_eq_true h, Bool.true_or]
  simp [windowQ, hshift, hexact]

/-- Settles O19: positions in a tile and packed elements each have one place; sums in the window go by `clampP`. -/
theorem tilesAndWindows : Obligations.TilesAndWindows := by
  unfold Obligations.TilesAndWindows
  refine ⟨⟨fun r c => tileOff_lt, fun r c r' c' => tileOff_injective, fun w l i _ _ => elemAt_packElems w l i⟩,
    xpAdd_comm, xpAdd_nar, ?_, ?_, clampP_spec, ?_, ?_⟩
  · intro a b ha hb h1 h2
    rw [xpAdd_of_ne_nar ha hb, clampP_of_within h1 h2]
    rfl
  · intro a b ha hb h
    rw [xpAdd_of_ne_nar ha hb, clampP_of_gt h]
    rfl
  · intro w m e h
    have hflag : ∀ b : Bool, (if b then nfOV else 0#8) &&& nfTR = 0#8 := by decide
    rw [windowQ_of_nonneg h]
    exact ⟨rfl, hflag _⟩
  · intro f w
    exact ⟨rfl, by simp [convOut]⟩

end Sys2Proof.Machine
end

section
/-! PROOFS. Floating-point sums and products: the order of operands, NaN, and zero (R33, R59, R60, R106). -/

namespace Sys2Proof.Machine

/-! ### The order of the operands -/

theorem FFmt.sig_comm (f : FFmt) (x y : Nat) : f.sig [x, y] = f.sig [y, x] := by
  simp [FFmt.sig, Or.comm]

theorem FFmt.sumFin_comm (f : FFmt) (rm : RMode) (n1 : Bool) (m1 : Nat) (e1 : Int) (n2 : Bool) (m2 : Nat) (e2 : Int) :
    f.sumFin rm n1 m1 e1 n2 m2 e2 = f.sumFin rm n2 m2 e2 n1 m1 e1 := by
  simp only [FFmt.sumFin, And.comm (a := m1 = 0), Bool.and_comm n1, Int.min_comm e1, Int.add_comm (alignTo n1 m1 e1 _)]

theorem FFmt.sum_comm (f : FFmt) (rm : RMode) (a b : FVal) : f.sum rm a b = f.sum rm b a := by
  cases a with
  | nan => cases b <;> rfl
  | inf a =>
    cases b with
    | nan => rfl
    | inf b =>
      by_cases h : a = b
      · rw [h]
      · simp [FFmt.sum, h, Ne.symm h]
    | fin n m e => rfl
  | fin n m e =>
    cases b with
    | nan => rfl
    | inf b => rfl
    | fin n' m' e' => exact f.sumFin_comm rm n m e n' m' e'

theorem FVal.mul_comm (a b : FVal) : a.mul b = b.mul a := by
  cases a <;> cases b <;> simp [FVal.mul, bne_comm, Nat.mul_comm, Int.add_comm]

theorem FFmt.add_comm (f : FFmt) (rm : RMode) (x y : Nat) : f.add rm x y = f.add rm y x := by
  simp only [FFmt.add, f.sum_comm rm (f.decode x), f.sig_comm x]

theorem FFmt.mul_comm (f : FFmt) (rm : RMode) (x y : Nat) : f.mul rm x y = f.mul rm y x := by
  simp only [FFmt.mul, FVal.mul_comm (f.decode x), f.sig_comm x]

/-! ### NaN operands -/

theorem FFmt.isNaN_iff (f : FFmt) (x : Nat) : f.isNaN x = true ↔ f.decode x = .nan := by
  simp [FFmt.isNaN]

/-- A product with a NaN is a NaN. -/
theorem FVal.nan_mul (b : FVal) : FVal.mul .nan b = some .nan := by
  cases b <;> rfl

/-- A NaN operand gives the canonical NaN from every operation. -/
theorem FFmt.ops_of_isNaN {f : FFmt} {x : Nat} (hx : f.isNaN x = true) (rm : RMode) (y : Nat) :
    (f.add rm x y).1 = f.nanCode ∧ (f.sub rm x y).1 = f.nanCode ∧ (f.mul rm x y).1 = f.nanCode ∧
      (f.minmax true x y).1 = f.nanCode ∧ (f.minmax false x y).1 = f.nanCode := by
  rw [FFmt.isNaN_iff] at hx
  simp [FFmt.add, FFmt.sub, FFmt.mul, FFmt.minmax, FFmt.sum, FVal.nan_mul, FFmt.ofVal, hx]

/-! ### Zero -/

/-- Operands that are no NaN raise no NV of their own. -/
theorem FFmt.sig_of_not_nan {f : FFmt} {x y : Nat} (hx : f.decode x ≠ .nan) (hy : f.decode y ≠ .nan) :
    f.sig [x, y] = 0 := by
  simp [FFmt.sig, FFmt.isSNaN, hx, hy]

theorem alignTo_not (n : Bool) (m : Nat) (e x : Int) : alignTo n m e x + alignTo (!n) m e x = 0 := by
  unfold alignTo
  cases n with
  | false => exact Int.add_right_neg _
  | true => exact Int.add_left_neg _

/-- A finite value and its opposite sum to plus zero. -/
theorem FFmt.sumFin_not (f : FFmt) (rm : RMode) (n : Bool) (m : Nat) (e : Int) :
    f.sumFin rm n m e (!n) m e = (0, 0) := by
  simp [FFmt.sumFin, alignTo_not, FFmt.sbit]

theorem FFmt.sub_self_of_fin {f : FFmt} {x m : Nat} {n : Bool} {e : Int} (hx : f.decode x = .fin n m e) (rm : RMode) :
    f.sub rm x x = (0, 0) := by
  have hne : f.decode x ≠ .nan := by simp [hx]
  simp [FFmt.sub, hx, FVal.neg, FFmt.sum, FFmt.sumFin_not, FFmt.sig_of_not_nan hne hne]

theorem FFmt.sub_self_of_inf {f : FFmt} {x : Nat} {n : Bool} (hx : f.decode x = .inf n) (rm : RMode) :
    f.sub rm x x = (f.nanCode, xNV) := by
  have hne : f.decode x ≠ .nan := by simp [hx]
  simp [FFmt.sub, hx, FVal.neg, FFmt.sum, FFmt.sig_of_not_nan hne hne]

/-- Infinity times zero is invalid. -/
theorem FFmt.mul_inf_zero {f : FFmt} {x y : Nat} {a n : Bool} {e : Int} (hx : f.decode x = .inf a)
    (hy : f.decode y = .fin n 0 e) (rm : RMode) : f.mul rm x y = (f.nanCode, xNV) := by
  have hsig : f.sig [x, y] = 0 := FFmt.sig_of_not_nan (by simp [hx]) (by simp [hy])
  simp [FFmt.mul, hx, hy, FVal.mul, hsig]

/-- Settles O28: the exact sum and product do not depend on the order, and rounding sees only them. -/
theorem floatArithmetic : Obligations.FloatArithmetic := by
  unfold Obligations.FloatArithmetic
  intro f rm x y
  refine ⟨f.add_comm rm x y, f.mul_comm rm x y, fun hx => FFmt.ops_of_isNaN hx rm y,
    fun n m e hx => FFmt.sub_self_of_fin hx rm, fun n hx => FFmt.sub_self_of_inf hx rm, ?_⟩
  rintro (hx | hx) n e hy
  · exact FFmt.mul_inf_zero hx hy rm
  · exact FFmt.mul_inf_zero hx hy rm

end Sys2Proof.Machine
end

section
/-! PROOFS. Bits and fields of numbers and registers: what a field reads after a field is written (R7). -/

namespace Sys2Proof.Machine

/-! ### Bits and fields of a number -/

theorem bitOf_eq_testBit (x i : Nat) : bitOf x i = x.testBit i := by
  rw [bitOf, Nat.testBit_eq_decide_div_mod_eq]

theorem testBit_fld (x hi lo i : Nat) : (fld x hi lo).testBit i = (decide (i < hi + 1 - lo) && x.testBit (lo + i)) := by
  rw [fld, Nat.testBit_mod_two_pow, Nat.testBit_div_two_pow, Nat.add_comm i]

theorem fld_lt (x hi lo : Nat) : fld x hi lo < 2 ^ (hi + 1 - lo) := Nat.mod_lt _ (Nat.two_pow_pos _)

/-- Writing a field keeps the part of the number above it and the part below it. -/
theorem putFld_eq (x hi lo v : Nat) :
    putFld x hi lo v = 2 ^ lo * (2 ^ (hi + 1 - lo) * (x / 2 ^ lo / 2 ^ (hi + 1 - lo)) + v % 2 ^ (hi + 1 - lo)) + x % 2 ^ lo := by
  have hlow := Nat.div_add_mod x (2 ^ lo)
  have hhigh := Nat.div_add_mod (x / 2 ^ lo) (2 ^ (hi + 1 - lo))
  have hsplit : x = 2 ^ lo * (2 ^ (hi + 1 - lo) * (x / 2 ^ lo / 2 ^ (hi + 1 - lo))) + 2 ^ lo * (x / 2 ^ lo % 2 ^ (hi + 1 - lo)) +
      x % 2 ^ lo := by
    rw [← Nat.mul_add, hhigh, hlow]
  unfold putFld fld
  rw [Nat.mul_comm _ (2 ^ lo), Nat.mul_comm _ (2 ^ lo), Nat.mul_add]
  omega

theorem testBit_putFld (x hi lo v i : Nat) :
    (putFld x hi lo v).testBit i = if lo ≤ i ∧ i ≤ hi then v.testBit (i - lo) else x.testBit i := by
  rw [putFld_eq, Nat.testBit_two_pow_mul_add _ (Nat.mod_lt _ (Nat.two_pow_pos lo))]
  rcases Nat.lt_or_ge i lo with hlo | hlo
  · simp [hlo, show ¬ lo ≤ i by omega]
  · rw [if_neg (by omega), Nat.testBit_two_pow_mul_add _ (Nat.mod_lt _ (Nat.two_pow_pos _))]
    rcases Nat.lt_or_ge hi i with hhi | hhi
    · rw [if_neg (by omega), if_neg (by omega), Nat.testBit_div_two_pow, Nat.testBit_div_two_pow]
      congr 1
      omega
    · rw [if_pos (by omega), if_pos ⟨hlo, hhi⟩, Nat.testBit_mod_two_pow, decide_eq_true (by omega), Bool.true_and]

/-- A written field reads what was written, cut to its width. -/
theorem fld_putFld_same (x hi lo v : Nat) : fld (putFld x hi lo v) hi lo = v % 2 ^ (hi + 1 - lo) := by
  apply Nat.eq_of_testBit_eq
  intro i
  rw [testBit_fld, testBit_putFld, Nat.testBit_mod_two_pow]
  by_cases h : i < hi + 1 - lo
  · rw [if_pos (by omega), Nat.add_sub_cancel_left]
  · simp [h]

/-- A field wholly above or below the one written reads as before. -/
theorem fld_putFld_of_disjoint (x v : Nat) {hi lo hi' lo' : Nat} (h : hi < lo' ∨ hi' < lo) :
    fld (putFld x hi lo v) hi' lo' = fld x hi' lo' := by
  apply Nat.eq_of_testBit_eq
  intro i
  rw [testBit_fld, testBit_fld, testBit_putFld]
  by_cases hi : i < hi' + 1 - lo'
  · rw [if_neg (by omega)]
  · simp [hi]

/-- A field written in a number that fits `n` bits leaves it so. -/
theorem putFld_lt {x hi lo n : Nat} (v : Nat) (hx : x < 2 ^ n) (hhi : hi < n) : putFld x hi lo v < 2 ^ n := by
  apply Nat.lt_pow_two_of_testBit
  intro i hi
  rw [testBit_putFld, if_neg (by omega)]
  exact Nat.testBit_lt_two_pow (Nat.lt_of_lt_of_le hx (Nat.pow_le_pow_right (by decide) hi))

/-- A bit as a field. -/
theorem bitOf_putFld (x hi lo v i : Nat) :
    bitOf (putFld x hi lo v) i = if lo ≤ i ∧ i ≤ hi then bitOf v (i - lo) else bitOf x i := by
  simp only [bitOf_eq_testBit, testBit_putFld]

theorem bitOf_b2n (b : Bool) : bitOf (b2n b) 0 = b := by
  cases b <;> rfl

/-! ### Fields of registers -/

variable (s : State)

theorem State.regN_setReg (pa pb : Nat) (v : BitVec 64) :
    (s.setReg pa v).regN pb = if pb = pa then v.toNat else s.regN pb := by
  rw [State.regN, State.reg_setReg]
  split <;> rfl

theorem State.regN_lt (pa : Nat) : s.regN pa < 2 ^ 64 := (s.reg pa).isLt

/-- The whole register after a field of it is written. -/
theorem State.regN_setRegF_same (pa : Nat) {hi : Nat} (lo v : Nat) (h : hi < 64) :
    (s.setRegF pa hi lo v).regN pa = putFld (s.regN pa) hi lo v := by
  rw [State.setRegF, State.regN_setReg, if_pos rfl, BitVec.toNat_ofNat, Nat.mod_eq_of_lt]
  exact putFld_lt v (s.regN_lt pa) h

theorem State.reg_setRegF_ne {pa pb : Nat} (hi lo v : Nat) (h : pb ≠ pa) : (s.setRegF pa hi lo v).reg pb = s.reg pb := by
  rw [State.setRegF, State.reg_setReg, if_neg h]

theorem State.regN_setRegF_ne {pa pb : Nat} (hi lo v : Nat) (h : pb ≠ pa) :
    (s.setRegF pa hi lo v).regN pb = s.regN pb := by
  rw [State.regN, State.reg_setRegF_ne s hi lo v h, State.regN]

theorem State.regF_setRegF_ne {pa pb : Nat} (hi lo v hi' lo' : Nat) (h : pb ≠ pa) :
    (s.setRegF pa hi lo v).regF pb hi' lo' = s.regF pb hi' lo' := by
  rw [State.regF, State.regN_setRegF_ne s hi lo v h, State.regF]

/-- A field of a register reads what was written to it. -/
theorem State.regF_setRegF_same (pa : Nat) {hi : Nat} (lo v : Nat) (h : hi < 64) :
    (s.setRegF pa hi lo v).regF pa hi lo = v % 2 ^ (hi + 1 - lo) := by
  rw [State.regF, State.regN_setRegF_same s pa lo v h, fld_putFld_same]

/-- A field of a register reads as before where another field of it is written. -/
theorem State.regF_setRegF_of_disjoint (pa : Nat) {hi lo hi' lo' : Nat} (v : Nat) (h : hi < 64)
    (hdis : hi < lo' ∨ hi' < lo) : (s.setRegF pa hi lo v).regF pa hi' lo' = s.regF pa hi' lo' := by
  rw [State.regF, State.regN_setRegF_same s pa lo v h, fld_putFld_of_disjoint _ _ hdis, State.regF]

end Sys2Proof.Machine
end

section
/-! PROOFS. The registers of the vector engine: read-back, and the lanes that an operation changes (R93, R95, R104). -/

namespace Sys2Proof.Machine

theorem toNat_ofNat_of_lt {w x : Nat} (h : x < 2 ^ w) : (BitVec.ofNat w x).toNat = x := by
  rw [BitVec.toNat_ofNat, Nat.mod_eq_of_lt h]

namespace VEngine

/-! ### Scalar and predicate registers -/

variable (e : VEngine)

theorem setS_zero (v : BitVec 64) (b : Bool) : e.setS 0 v b = e := rfl

theorem setP_zero (v : BitVec 64) : e.setP 0 v = e := rfl

theorem sreg_setS_same {r : Nat} (hr : 0 < r) (v : BitVec 64) (b : Bool) : (e.setS r v b).sreg r = v := by
  have hne : r ≠ 0 := by omega
  simp [setS, sreg, hne]

theorem sreg_setS_ne {r q : Nat} (h : q ≠ r) (v : BitVec 64) (b : Bool) : (e.setS r v b).sreg q = e.sreg q := by
  unfold setS
  split <;> simp [sreg, h]

/-- The poison bit of every scalar register after one is written. -/
theorem sbad_setS {r : Nat} (hr : 0 < r) (hr16 : r < 16) (v : BitVec 64) (b : Bool) (q : Nat) :
    (e.setS r v b).sbad q = if q = r then b else e.sbad q := by
  have hne : r ≠ 0 := by omega
  have hbits : (BitVec.ofNat 16 (putFld e.sp.toNat r r (b2n b))).toNat = putFld e.sp.toNat r r (b2n b) := by
    rw [BitVec.toNat_ofNat, Nat.mod_eq_of_lt (putFld_lt _ e.sp.isLt hr16)]
  simp only [setS, if_neg hne, sbad, hbits, bitOf_putFld]
  by_cases h : q = r
  · subst h
    simp [hne, bitOf_b2n]
  · rw [if_neg (show ¬ (r ≤ q ∧ q ≤ r) by omega), if_neg h]

theorem preg_setP_same {r : Nat} (hr : 0 < r) (v : BitVec 64) : (e.setP r v).preg r = v := by
  have hne : r ≠ 0 := by omega
  simp [setP, preg, hne]

theorem preg_setP_ne {r q : Nat} (h : q ≠ r) (v : BitVec 64) : (e.setP r v).preg q = e.preg q := by
  unfold setP
  split <;> simp [preg, h]

/-! ### Vector registers -/

theorem vreg_lane (r : Nat) {i : Nat} (hi : i < 64) :
    (e.vreg r)[i]? = some (laneAt (tget 0#2048 e.v r) i, bitOf (tget 0#64 e.vp r).toNat i) := by
  simp [vreg, hi]

/-- Lane `i` of the register that holds the lanes `l`. -/
theorem laneAt_ofVLanes {l : List (Nat × Bool)} (hl : l.length = 64) {i : Nat} (hi : i < 64) :
    laneAt (ofVLanes l) i = (lget (0, false) l i).1 % 2 ^ 32 := by
  have hpack : l.foldr (fun x a => x.1 % 2 ^ 32 + 2 ^ 32 * a) 0 = packedNat 32 (l.map Prod.fst) := by
    rw [packedNat, List.foldr_map]
  have hfits : packedNat 32 (l.map Prod.fst) < 2 ^ 2048 := by
    have h := packedNat_lt 32 (l.map Prod.fst)
    rw [List.length_map, hl, show 32 * 64 = 2048 from rfl] at h
    exact h
  have hil : i < l.length := by omega
  rw [laneAt, ofVLanes, hpack, toNat_ofNat_of_lt hfits, packedNat_elem]
  simp [lget, List.getElem?_eq_getElem hil]

/-- The poison bit of lane `i` of the register that holds the lanes `l`. -/
theorem bitOf_poisonOf {l : List (Nat × Bool)} (hl : l.length = 64) {i : Nat} (hi : i < 64) :
    bitOf (poisonOf l).toNat i = (lget (0, false) l i).2 := by
  have hb2n : ∀ b : Bool, b2n b % 2 = b2n b := by decide
  have hpack : l.foldr (fun x a => b2n x.2 + 2 * a) 0 = packedNat 1 (l.map fun x => b2n x.2) := by
    simp only [packedNat, List.foldr_map, hb2n, Nat.pow_one]
  have hfits : packedNat 1 (l.map fun x => b2n x.2) < 2 ^ 64 := by
    have h := packedNat_lt 1 (l.map fun x => b2n x.2)
    rwa [List.length_map, hl] at h
  have hil : i < l.length := by omega
  have helem := packedNat_elem 1 (l.map fun x => b2n x.2) i
  rw [Nat.one_mul, Nat.pow_one] at helem
  rw [poisonOf, hpack, toNat_ofNat_of_lt hfits, bitOf, helem]
  simp only [lget, List.getElem?_map, List.getElem?_eq_getElem hil, Option.map_some, Option.getD_some]
  cases l[i].2 <;> rfl

/-- A written register reads the lanes written, their values cut to 32 bits. -/
theorem vreg_setV_same {l : List (Nat × Bool)} (hl : l.length = 64) (r : Nat) {i : Nat} (hi : i < 64) :
    ((e.setV r l).vreg r)[i]? = some ((lget (0, false) l i).1 % 2 ^ 32, (lget (0, false) l i).2) := by
  rw [vreg_lane _ r hi]
  simp only [setV, tget_tput, if_true, laneAt_ofVLanes hl hi, bitOf_poisonOf hl hi]

theorem vreg_setV_ne {r q : Nat} (h : q ≠ r) (l : List (Nat × Bool)) : (e.setV r l).vreg q = e.vreg q := by
  simp [setV, vreg, h]

/-- A lane of a register fits 32 bits. -/
theorem lane_lt (r : Nat) {i : Nat} (hi : i < 64) : (lget (0, false) (e.vreg r) i).1 < 2 ^ 32 := by
  simp only [lget, vreg_lane e r hi, Option.getD_some]
  exact Nat.mod_lt _ (by decide)

/-! ### Lane operations -/

/-- What a lane operation gives lane `i`. -/
def laneResult (old a b c : List (Nat × Bool)) (g : Nat → Nat → Nat → Nat × Nat) (act : BitVec 64) (i : Nat) :
    Nat × Bool :=
  if act.getLsbD i then
    ((g (lget (0, false) a i).1 (lget (0, false) b i).1 (lget (0, false) c i).1).1,
      (lget (0, false) a i).2 || (lget (0, false) b i).2 || (lget (0, false) c i).2)
  else lget (0, false) old i

theorem laneOp_fst (act : BitVec 64) (old a b c : List (Nat × Bool)) (g : Nat → Nat → Nat → Nat × Nat) :
    (laneOp act old a b c g).1 = (List.range 64).map (laneResult old a b c g act) := by
  simp only [laneOp, List.map_map]
  refine List.map_congr_left fun i _ => ?_
  simp only [Function.comp_apply, bitOf_eq_testBit, laneResult, BitVec.getLsbD]
  split <;> rfl

/-- The destination of a lane operation: the active lanes take its result, the others keep theirs. -/
theorem vreg_laneOp (act : BitVec 64) (d : Nat) (a b c : List (Nat × Bool)) (g : Nat → Nat → Nat → Nat × Nat) {i : Nat}
    (hi : i < 64) :
    ((e.setV d (laneOp act (e.vreg d) a b c g).1).vreg d)[i]? = some
      (if act.getLsbD i then
        ((g (lget (0, false) a i).1 (lget (0, false) b i).1 (lget (0, false) c i).1).1 % 2 ^ 32,
          (lget (0, false) a i).2 || (lget (0, false) b i).2 || (lget (0, false) c i).2)
      else lget (0, false) (e.vreg d) i) := by
  have hlen : (laneOp act (e.vreg d) a b c g).1.length = 64 := by simp [laneOp_fst]
  have hlane : lget (0, false) (laneOp act (e.vreg d) a b c g).1 i = laneResult (e.vreg d) a b c g act i := by
    simp [laneOp_fst, lget, hi]
  rw [vreg_setV_same e hlen d hi, hlane, laneResult]
  by_cases h : act.getLsbD i = true
  · rw [if_pos h, if_pos h]
  · rw [if_neg h, if_neg h, Nat.mod_eq_of_lt (e.lane_lt d hi)]

/-- An operation with two sources writes its destination, and nothing else of the engine. -/
theorem bin_fst (x : VForm) (f : Nat → Nat → Nat × Nat) : (e.bin x f).1 = e.setV x.d.toNat
    (laneOp (e.active x.pg x.pn) (e.vreg x.d.toNat) (e.vreg x.a.toNat) (e.source x x.b) noLanes fun a b _ => f a b).1 := rfl

theorem un_fst (x : VForm) (f : Nat → Nat × Nat) : (e.un x f).1 = e.setV x.d.toNat
    (laneOp (e.active x.pg x.pn) (e.vreg x.d.toNat) (e.vreg x.a.toNat) noLanes noLanes fun a _ _ => f a).1 := rfl

theorem setV_keeps (r : Nat) (l : List (Nat × Bool)) :
    (e.setV r l).s = e.s ∧ (e.setV r l).p = e.p ∧ (e.setV r l).flags = e.flags ∧ (e.setV r l).pc = e.pc := by
  simp [setV]

end VEngine

/-- Settles O26: the tables of the engine read back what was put, and a lane operation is a `setV` of its destination. -/
theorem vectorRegisters : Obligations.VectorRegisters := by
  unfold Obligations.VectorRegisters
  intro e x
  refine ⟨⟨rfl, rfl, rfl, e.setS_zero, e.setP_zero⟩, fun r v b hr hr16 => ⟨e.sreg_setS_same hr v b, ?_, fun q hq => ?_⟩,
    fun r v hr => ⟨e.preg_setP_same hr v, fun q hq => e.preg_setP_ne hq v⟩, ?_, ?_, ?_,
    fun f r hr => ?_, fun f => ?_⟩
  · rw [e.sbad_setS hr hr16, if_pos rfl]
  · exact ⟨e.sreg_setS_ne hq v b, by rw [e.sbad_setS hr hr16, if_neg hq]⟩
  · intro f i hi
    have h := e.vreg_laneOp (e.active x.pg x.pn) x.d.toNat (e.vreg x.a.toNat) (e.source x x.b) noLanes (fun a b _ => f a b) hi
    rw [e.bin_fst]
    simpa [noLanes, lget] using h
  · intro f i hi
    have h := e.vreg_laneOp (e.active x.pg x.pn) x.d.toNat (e.vreg x.a.toNat) noLanes noLanes (fun a _ _ => f a) hi
    rw [e.un_fst]
    simpa [noLanes, lget] using h
  · intro f i hi
    exact e.vreg_laneOp (e.active x.pg x.pn) x.d.toNat (e.vreg x.a.toNat) (e.source x x.b) (e.source x x.c) f hi
  · rw [e.bin_fst, e.vreg_setV_ne hr]
  · rw [e.bin_fst]
    exact e.setV_keeps _ _

end Sys2Proof.Machine
end

section
/-! PROOFS. Memory: what is read back, what lies elsewhere, and the canonical form (R5, R31, R207). -/

namespace Sys2Proof.Machine

/-! ### Cells -/

theorem tget_append_of_not_mem_left {α : Type} (d : α) (t u : Tab α) {k : Nat} (h : ∀ e ∈ t, e.1 ≠ k) :
    tget d (t ++ u) k = tget d u k := by
  induction t with
  | nil => rfl
  | cons e t ih =>
    obtain ⟨he, ht⟩ := List.forall_mem_cons.1 h
    rw [List.cons_append, tget, if_neg he, ih ht]

theorem tget_append_of_not_mem_right {α : Type} (d : α) (t u : Tab α) {k : Nat} (h : ∀ e ∈ u, e.1 ≠ k) :
    tget d (t ++ u) k = tget d t k := by
  induction t with
  | nil =>
    refine tget_not_mem d u k fun hk => ?_
    obtain ⟨e, he, hek⟩ := List.mem_map.1 hk
    exact h e he hek
  | cons e t ih =>
    rw [List.cons_append, tget, tget, ih]

/-- Each byte of a run of cells. -/
theorem tget_cellsRun (a : Nat) (bs : Bytes) {i : Nat} (hi : i < bs.length) : tget 0#8 (cellsRun a bs) (a + i) = bs[i] := by
  induction bs generalizing a i with
  | nil => simp at hi
  | cons b bs ih =>
    have hfirst : tget 0#8 (cellsRun (a + 1) bs) a = 0#8 := by
      refine tget_not_mem _ _ _ fun hk => ?_
      obtain ⟨e, he, hea⟩ := List.mem_map.1 hk
      have := (cellsRun_mem _ _ e he).1
      omega
    cases i with
    | zero =>
      by_cases hb : b = 0#8
      · simp [cellsRun, hb, hfirst]
      · simp [cellsRun, hb, tget]
    | succ i =>
      have hrest := ih (a + 1) (i := i) (by simpa using hi)
      rw [Nat.add_assoc, Nat.add_comm 1 i] at hrest
      by_cases hb : b = 0#8
      · simp [cellsRun, hb, hrest]
      · simp [cellsRun, hb, tget, hrest]

theorem tget_filter_lt (m : List Host.Cell) {a k : Nat} (h : k < a) :
    tget 0#8 (m.filter fun c => decide (c.1 < a)) k = tget 0#8 m k :=
  tget_filter 0#8 m k (fun x => decide (x < a)) (decide_eq_true h)

theorem tget_filter_ge (m : List Host.Cell) {a k : Nat} (h : a ≤ k) :
    tget 0#8 (m.filter fun c => decide (a ≤ c.1)) k = tget 0#8 m k :=
  tget_filter 0#8 m k (fun x => decide (a ≤ x)) (decide_eq_true h)

/-- A stored byte reads as stored. -/
theorem tget_cellsPut_inside (m : List Host.Cell) (a : Nat) (bs : Bytes) {i : Nat} (hi : i < bs.length) :
    tget 0#8 (cellsPut a bs m) (a + i) = bs[i] := by
  rw [cellsPut, tget_append_of_not_mem_right, tget_append_of_not_mem_left, tget_cellsRun a bs hi]
  · intro e he
    have := (List.mem_filter.1 he).2
    simp at this
    omega
  · intro e he
    have := (List.mem_filter.1 he).2
    simp at this
    omega

/-- A byte outside a store reads as before. -/
theorem tget_cellsPut_outside (m : List Host.Cell) (a b : Nat) (bs : Bytes) (h : b < a ∨ a + bs.length ≤ b) :
    tget 0#8 (cellsPut a bs m) b = tget 0#8 m b := by
  have hrun : ∀ e ∈ cellsRun a bs, e.1 ≠ b := fun e he => by
    obtain ⟨hlo, hhi, -⟩ := cellsRun_mem a bs e he
    omega
  rw [cellsPut]
  rcases h with h | h
  · rw [tget_append_of_not_mem_right, tget_append_of_not_mem_right _ _ _ hrun, tget_filter_lt m h]
    intro e he
    have := (List.mem_filter.1 he).2
    simp at this
    omega
  · rw [List.append_assoc, tget_append_of_not_mem_left, tget_append_of_not_mem_left _ _ _ hrun, tget_filter_ge m h]
    intro e he
    have := (List.mem_filter.1 he).2
    simp at this
    omega

theorem cellsGet_eq (m : List Host.Cell) (a n : Nat) : cellsGet m a n = (List.range n).map fun i => tget 0#8 m (a + i) := by
  unfold cellsGet
  refine List.map_congr_left fun i hi => ?_
  have hin : i < n := List.mem_range.1 hi
  exact tget_filter 0#8 m (a + i) (fun x => decide (a ≤ x) && decide (x < a + n)) (by simp [hin])

/-- Bytes stored are read back in order. -/
theorem cellsGet_cellsPut (m : List Host.Cell) (a : Nat) (bs : Bytes) : cellsGet (cellsPut a bs m) a bs.length = bs := by
  rw [cellsGet_eq]
  refine List.ext_getElem (by simp) fun i hi hi' => ?_
  simp [tget_cellsPut_inside m a bs hi']

/-- Bytes elsewhere read as before. -/
theorem cellsGet_cellsPut_disjoint (m : List Host.Cell) (a b n : Nat) (bs : Bytes) (h : b + n ≤ a ∨ a + bs.length ≤ b) :
    cellsGet (cellsPut a bs m) b n = cellsGet m b n := by
  rw [cellsGet_eq, cellsGet_eq]
  refine List.map_congr_left fun i hi => ?_
  have hin : i < n := List.mem_range.1 hi
  exact tget_cellsPut_outside m a (b + i) bs (by omega)

theorem ofBytes_toBytes (n x : Nat) : ofBytes (toBytes n x) = x % 256 ^ n := by
  induction n generalizing x with
  | zero => simp [toBytes, ofBytes, Nat.mod_one]
  | succ n ih => rw [toBytes, ofBytes, ih, BitVec.toNat_ofNat, Nat.pow_succ' (m := 256), Nat.mod_mul]

/-- The bytes of a word are its own number again. -/
theorem ofNat_ofBytes_toBytes (x : BitVec 128) : BitVec.ofNat 128 (ofBytes (toBytes 16 x.toNat)) = x := by
  have hx : x.toNat < 256 ^ 16 := x.isLt
  rw [ofBytes_toBytes, Nat.mod_eq_of_lt hx, BitVec.ofNat_toNat, BitVec.setWidth_eq]

/-! ### Words and lines at their home -/

namespace State

variable (s : State)

@[simp] theorem injUse_mem (b k : Nat) : (s.injUse b k).mem = s.mem := by simp [injUse]

@[simp] theorem codeWord_mem (b : Nat) (t : BitVec 16) (ad : Nat) (psn : Bool) :
    (s.codeWord b t ad psn).2.mem = s.mem := by
  unfold codeWord
  dsimp only
  cases s.injSlot b t 0 0 ad with
  | none => rfl
  | some k => exact s.injUse_mem b k.1

/-- The memory after a word is stored. -/
theorem putWord_mem (pa : Nat) (x : BitVec 128) (psn : Bool) :
    (s.putWord pa x psn).mem = cellsPut pa (toBytes 16 x.toNat) s.mem := by
  simp [putWord, storeWord]

theorem putWord_wf (pa : Nat) (x : BitVec 128) (psn : Bool) (h : Memory.wf s.mem = true) :
    Memory.wf (s.putWord pa x psn).mem = true := by
  rw [putWord_mem]
  exact cellsPut_wf _ _ _ h

theorem wordAt_putWord_same (pa : Nat) (x : BitVec 128) (psn : Bool) : (s.putWord pa x psn).wordAt pa = x := by
  have hget := cellsGet_cellsPut s.mem pa (toBytes 16 x.toNat)
  rw [length_toBytes] at hget
  rw [wordAt, putWord_mem, hget, ofNat_ofBytes_toBytes]

theorem wordAt_putWord_disjoint {pa q : Nat} (x : BitVec 128) (psn : Bool) (h : q + 16 ≤ pa ∨ pa + 16 ≤ q) :
    (s.putWord pa x psn).wordAt q = s.wordAt q := by
  rw [wordAt, putWord_mem, cellsGet_cellsPut_disjoint _ _ _ _ _ (by simpa using h), wordAt]

theorem byte_putWord_outside {pa q : Nat} (x : BitVec 128) (psn : Bool) (h : q < pa ∨ pa + 16 ≤ q) :
    (s.putWord pa x psn).byte q = s.byte q := by
  rw [byte, putWord_mem, tget_cellsPut_outside _ _ _ _ (by simpa using h), byte]

@[simp] theorem openRowOf_mem (pa : Nat) : (s.openRowOf pa).mem = s.mem := by
  unfold openRowOf
  split <;> simp

/-- The memory after words of a line are written is that after the words are put; the merge buffer is no memory. -/
theorem writeWords_mem (line : Nat) (words : List Nat) (l : LineData) :
    (s.writeWords line words l).mem =
      (each words (fun m s => s.putWord (line * 64 + 16 * m) (l.word m) (l.poisoned m)) (s.openRowOf (line * 64))).mem := by
  unfold writeWords
  dsimp only
  split
  · split
    · rw [setStack_mem]
    · rfl
  · rfl

/-- The four words of a line put in turn. -/
def putWords (line : Nat) (l : LineData) : State :=
  (((s.putWord (line * 64) (l.word 0) (l.poisoned 0)).putWord (line * 64 + 16) (l.word 1) (l.poisoned 1)).putWord
    (line * 64 + 32) (l.word 2) (l.poisoned 2)).putWord (line * 64 + 48) (l.word 3) (l.poisoned 3)

theorem writeLine_mem (line : Nat) (l : LineData) :
    (s.writeLine line l).mem = ((s.openRowOf (line * 64)).putWords line l).mem := s.writeWords_mem line [0, 1, 2, 3] l

theorem writeLine_wf (line : Nat) (l : LineData) (h : Memory.wf s.mem = true) :
    Memory.wf (s.writeLine line l).mem = true := by
  rw [writeLine_mem]
  refine putWord_wf _ _ _ _ (putWord_wf _ _ _ _ (putWord_wf _ _ _ _ (putWord_wf _ _ _ _ ?_)))
  rwa [openRowOf_mem]

/-- Each word of a written line, past the words written after it. -/
theorem wordAt_putWords (line : Nat) (l : LineData) {m : Nat} (hm : m < 4) :
    (s.putWords line l).wordAt (line * 64 + 16 * m) = l.word m := by
  obtain rfl | rfl | rfl | rfl : m = 0 ∨ m = 1 ∨ m = 2 ∨ m = 3 := by omega
  · rw [putWords, wordAt_putWord_disjoint _ _ _ (by omega), wordAt_putWord_disjoint _ _ _ (by omega),
      wordAt_putWord_disjoint _ _ _ (by omega)]
    exact wordAt_putWord_same ..
  · rw [putWords, wordAt_putWord_disjoint _ _ _ (by omega), wordAt_putWord_disjoint _ _ _ (by omega)]
    exact wordAt_putWord_same ..
  · rw [putWords, wordAt_putWord_disjoint _ _ _ (by omega)]
    exact wordAt_putWord_same ..
  · exact wordAt_putWord_same ..

theorem wordAt_writeLine (line : Nat) (l : LineData) {m : Nat} (hm : m < 4) :
    (s.writeLine line l).wordAt (line * 64 + 16 * m) = l.word m := by
  rw [wordAt, writeLine_mem]
  exact wordAt_putWords _ line l hm

theorem byte_writeLine_outside (line : Nat) (l : LineData) {q : Nat} (h : q < line * 64 ∨ line * 64 + 64 ≤ q) :
    (s.writeLine line l).byte q = s.byte q := by
  have hput : ((s.openRowOf (line * 64)).putWords line l).byte q = (s.openRowOf (line * 64)).byte q := by
    rw [putWords, byte_putWord_outside _ _ _ (by omega), byte_putWord_outside _ _ _ (by omega),
      byte_putWord_outside _ _ _ (by omega), byte_putWord_outside _ _ _ (by omega)]
  rw [byte, writeLine_mem]
  rw [byte, byte, openRowOf_mem] at hput
  exact hput

theorem zeroStack_wf (j : Nat) (h : Memory.wf s.mem = true) : Memory.wf (s.zeroStack j).mem = true :=
  Memory.wf_filter _ _ h

/-- An interrupt write leaves memory as it was or stores its four bytes there. -/
theorem msi_mem (d pa v : Nat) : (s.msi d pa v).mem = s.mem ∨ (s.msi d pa v).mem = cellsPut pa (toBytes 4 v) s.mem := by
  unfold msi msiStore
  split
  · split
    · exact .inl rfl
    · split
      · exact .inl rfl
      · exact .inr rfl
  · split
    · exact .inl rfl
    · exact .inr rfl
  · exact .inl rfl

end State

/-- Settles O32: the laws of `cellsPut`, and that every operation of a home changes memory through it or a filter. -/
theorem memoryForm : Obligations.MemoryForm := by
  unfold Obligations.MemoryForm
  refine ⟨cellsGet_cellsPut, fun m a b bs => tget_cellsPut_outside m a b bs,
    fun s pa x b h => ⟨s.putWord_wf pa x b h, s.wordAt_putWord_same pa x b, fun q => s.byte_putWord_outside x b⟩,
    fun s line l h => ⟨s.writeLine_wf line l h, fun m => s.wordAt_writeLine line l, fun q => s.byte_writeLine_outside line l⟩,
    fun s j => s.zeroStack_wf j, fun s d pa v h => ?_⟩
  rcases s.msi_mem d pa v with hmem | hmem
  · rwa [hmem]
  · rw [hmem]
    exact cellsPut_wf _ _ _ h

end Sys2Proof.Machine
end

section
/-! PROOFS. The Cistern's operations lane by lane, the word of a line that one changes, and the request that each one is
(R227 to R234). -/

namespace Sys2Proof.Machine

/-! ### Lanes -/

theorem laneOf_lt (w : Nat) (x : BitVec 128) (i : Nat) : laneOf w x i < 2 ^ w := Nat.mod_lt _ (Nat.two_pow_pos w)

/-- Lanes that fit a word are the number they are packed into. -/
theorem toNat_ofLanes (w : Nat) {l : List Nat} (h : w * l.length ≤ 128) : (ofLanes w l).toNat = packedNat w l := by
  induction l with
  | nil => rfl
  | cons v l ih =>
    rw [List.length_cons, Nat.mul_succ] at h
    have hfits : packedNat w (v :: l) < 2 ^ 128 :=
      Nat.lt_of_lt_of_le (packedNat_lt w (v :: l)) (Nat.pow_le_pow_right (by decide) (by simpa [Nat.mul_succ] using h))
    rw [ofLanes, ih (by omega)]
    exact toNat_ofNat_of_lt hfits

theorem laneOf_ofLanes (w : Nat) {l : List Nat} (h : w * l.length ≤ 128) (i : Nat) :
    laneOf w (ofLanes w l) i = lget 0 l i % 2 ^ w := by
  rw [laneOf, toNat_ofLanes w h, packedNat_elem]

/-- A lane-wise operation, at a lane. -/
theorem laneOf_lanes2 (w : Nat) (f : Nat → Nat → Nat) (d x : BitVec 128) {i : Nat} (hi : i < 128 / w) :
    laneOf w (lanes2 w f d x) i = f (laneOf w d i) (laneOf w x i) % 2 ^ w := by
  rw [lanes2, laneOf_ofLanes w (by simpa using Nat.mul_div_le 128 w)]
  simp [lget, hi]

/-- A lane-wise operation that answers one of its operands, at a lane. -/
theorem laneOf_lanes2_of_lt {w : Nat} {f : Nat → Nat → Nat} (hf : ∀ a b, a < 2 ^ w → b < 2 ^ w → f a b < 2 ^ w)
    (d x : BitVec 128) {i : Nat} (hi : i < 128 / w) :
    laneOf w (lanes2 w f d x) i = f (laneOf w d i) (laneOf w x i) := by
  rw [laneOf_lanes2 w f d x hi, Nat.mod_eq_of_lt (hf _ _ (laneOf_lt w d i) (laneOf_lt w x i))]

/-- The signed minimum of two lanes. -/
theorem toSigned_lanes2_min (w : Nat) (d x : BitVec 128) {i : Nat} (hi : i < 128 / w) :
    toSigned w (laneOf w (lanes2 w (fun a b => if slt w b a then b else a) d x) i) =
      min (toSigned w (laneOf w d i)) (toSigned w (laneOf w x i)) := by
  rw [laneOf_lanes2_of_lt (fun _ _ ha hb => by split <;> assumption) d x hi]
  simp only [slt, decide_eq_true_eq]
  split
  · rename_i h
    exact (Int.min_eq_right (Int.le_of_lt h)).symm
  · rename_i h
    exact (Int.min_eq_left (Int.not_lt.1 h)).symm

/-- The signed maximum of two lanes. -/
theorem toSigned_lanes2_max (w : Nat) (d x : BitVec 128) {i : Nat} (hi : i < 128 / w) :
    toSigned w (laneOf w (lanes2 w (fun a b => if slt w a b then b else a) d x) i) =
      max (toSigned w (laneOf w d i)) (toSigned w (laneOf w x i)) := by
  rw [laneOf_lanes2_of_lt (fun _ _ ha hb => by split <;> assumption) d x hi]
  simp only [slt, decide_eq_true_eq]
  split
  · rename_i h
    exact (Int.max_eq_right (Int.le_of_lt h)).symm
  · rename_i h
    exact (Int.max_eq_left (Int.not_lt.1 h)).symm

theorem laneOf_lanes2_min (w : Nat) (d x : BitVec 128) {i : Nat} (hi : i < 128 / w) :
    laneOf w (lanes2 w (fun a b => min a b) d x) i = min (laneOf w d i) (laneOf w x i) :=
  laneOf_lanes2_of_lt (fun a b ha _ => Nat.lt_of_le_of_lt (Nat.min_le_left a b) ha) d x hi

theorem laneOf_lanes2_max (w : Nat) (d x : BitVec 128) {i : Nat} (hi : i < 128 / w) :
    laneOf w (lanes2 w (fun a b => max a b) d x) i = max (laneOf w d i) (laneOf w x i) :=
  laneOf_lanes2_of_lt (fun _ _ ha hb => Nat.max_lt.2 ⟨ha, hb⟩) d x hi

/-- CAS_64 exchanges its half where the half compares equal, and leaves the other half. -/
theorem laneOf_cisCas64 (d x : BitVec 128) {h i : Nat} (hi : i < 2) :
    laneOf 64 (cisCas 0x81 (8 * h) d x) i =
      if i = h then (if laneOf 64 d h = laneOf 64 x 0 then laneOf 64 x 1 else laneOf 64 d h) else laneOf 64 d i := by
  have hhalf : 8 * h / 8 = h := by omega
  simp only [cisCas, show ¬ (0x81 = 0x80) by decide, if_false, hhalf]
  rw [laneOf_ofLanes 64 (by simp)]
  simp only [lget, List.getElem?_map, List.getElem?_range hi, Option.map_some, Option.getD_some]
  split
  · split <;> exact Nat.mod_eq_of_lt (laneOf_lt 64 _ _)
  · exact Nat.mod_eq_of_lt (laneOf_lt 64 _ _)

/-- CAS_32 on the lower half exchanges each of its two lanes where it compares equal, and leaves the upper half. -/
theorem laneOf_cisCas32 (d x : BitVec 128) {i : Nat} (hi : i < 4) :
    laneOf 32 (cisCas 0x80 0 d x) i =
      if i < 2 then (if laneOf 32 d i = laneOf 32 x (2 * i) then laneOf 32 x (2 * i + 1) else laneOf 32 d i)
      else laneOf 32 d i := by
  simp only [cisCas, if_true]
  rw [laneOf_ofLanes 32 (by simp)]
  simp only [lget, List.getElem?_map, List.getElem?_range hi, Option.map_some, Option.getD_some, Nat.zero_div,
    Nat.zero_add, Nat.zero_le, true_and, Nat.sub_zero]
  split
  · split <;> exact Nat.mod_eq_of_lt (laneOf_lt 32 _ _)
  · exact Nat.mod_eq_of_lt (laneOf_lt 32 _ _)

/-! ### The word of a line -/

/-- Numbers placed `w` bits apart and added are packed. -/
theorem foldl_placed (w : Nat) (ws : List (BitVec w × Bool)) (n acc : Nat) :
    ((ws.zipIdx n).map fun x => x.1.1.toNat * 2 ^ (w * x.2)).foldl (· + ·) acc =
      acc + 2 ^ (w * n) * packedNat w (ws.map fun x => x.1.toNat) := by
  induction ws generalizing n acc with
  | nil => simp [packedNat]
  | cons x ws ih =>
    have hcons : packedNat w ((x :: ws).map fun x => x.1.toNat) =
        x.1.toNat + 2 ^ w * packedNat w (ws.map fun x => x.1.toNat) := by
      simp only [packedNat, List.map_cons, List.foldr_cons, Nat.mod_eq_of_lt x.1.isLt]
    rw [List.zipIdx_cons, List.map_cons, List.foldl_cons, ih, hcons, Nat.mul_succ, Nat.pow_add, Nat.mul_add, Nat.mul_assoc,
      Nat.add_assoc, Nat.mul_comm x.1.toNat]

/-- A line made of words has each of them. -/
theorem word_lineOfWords {ws : List (BitVec 128 × Bool)} (hlen : ws.length = 4) (m : Nat) :
    (lineOfWords ws).word m = (lget (0, false) ws m).1 := by
  have hfits : packedNat 128 (ws.map fun x => x.1.toNat) < 2 ^ 512 := by
    have h := packedNat_lt 128 (ws.map fun x => x.1.toNat)
    rw [List.length_map, hlen, show 128 * 4 = 512 from rfl] at h
    exact h
  have hbits : (lineOfWords ws).bits.toNat = packedNat 128 (ws.map fun x => x.1.toNat) := by
    rw [lineOfWords, foldl_placed, Nat.mul_zero, Nat.pow_zero, Nat.one_mul, Nat.zero_add, toNat_ofNat_of_lt hfits]
  apply BitVec.eq_of_toNat_eq
  rw [LineData.word, BitVec.toNat_ofNat, hbits, packedNat_elem]
  simp only [lget, List.getElem?_map]
  cases ws[m]? with
  | none => rfl
  | some x => exact Nat.mod_eq_of_lt x.1.isLt

/-- A line of four words has each of their poison marks. -/
theorem poisoned_lineOfWords (a b c d : BitVec 128 × Bool) {m : Nat} (hm : m < 4) :
    (lineOfWords [a, b, c, d]).poisoned m = (lget (0, false) [a, b, c, d] m).2 := by
  have hmask : ∀ pa pb pc pd : Bool, ∀ m < 4,
      bitOf (BitVec.ofNat 4 (maskOf ((([((0 : Nat), pa), (0, pb), (0, pc), (0, pd)].zipIdx).filter fun x => x.1.2).map
        fun x => x.2))).toNat m = lget false [pa, pb, pc, pd] m := by decide
  have hmark : (lineOfWords [a, b, c, d]).poisoned m = lget false [a.2, b.2, c.2, d.2] m := by
    refine Eq.trans ?_ (hmask a.2 b.2 c.2 d.2 m hm)
    obtain ⟨a, pa⟩ := a
    obtain ⟨b, pb⟩ := b
    obtain ⟨c, pc⟩ := c
    obtain ⟨d, pd⟩ := d
    cases pa <;> cases pb <;> cases pc <;> cases pd <;> rfl
  obtain rfl | rfl | rfl | rfl : m = 0 ∨ m = 1 ∨ m = 2 ∨ m = 3 := by omega
  all_goals exact hmark

/-- An operation on a line changes its own word, and adds the addend's poison to that word's. -/
theorem cisLine_word (op pa : Nat) (l : LineData) (x : BitVec 128) (psn : Bool) {m : Nat} (hm : m < 4) :
    (cisLine op pa l x psn).1.word m =
      if m = pa / 16 % 4 then (cisApply op (pa % 16 / 8 * 8) (l.word m) x).1 else l.word m := by
  simp only [cisLine]
  rw [word_lineOfWords (by simp)]
  simp only [lget, List.getElem?_map, List.getElem?_range hm, Option.map_some, Option.getD_some]
  by_cases h : m = pa / 16 % 4
  · rw [if_pos h, if_pos h, ← h]
  · rw [if_neg h, if_neg h]

theorem cisLine_poisoned (op pa : Nat) (l : LineData) (x : BitVec 128) (psn : Bool) {m : Nat} (hm : m < 4) :
    (cisLine op pa l x psn).1.poisoned m = (l.poisoned m || (decide (m = pa / 16 % 4) && psn)) := by
  have hfour : List.range 4 = [0, 1, 2, 3] := rfl
  simp only [cisLine, hfour, List.map_cons, List.map_nil]
  rw [poisoned_lineOfWords _ _ _ _ hm]
  obtain rfl | rfl | rfl | rfl : m = 0 ∨ m = 1 ∨ m = 2 ∨ m = 3 := by omega
  all_goals
    simp only [lget, List.getElem?_cons_zero, List.getElem?_cons_succ, Option.getD_some]
    split
    · rename_i h
      simp [← h, Bool.or_comm]
    · rename_i h
      simp [h]

/-! ### The request that each operation is (Table 8.8) -/

/-- A listed operation on a stack reaches the home of its line as a RED. -/
theorem State.redTake_of_stack (s : State) (src : BitVec 16) {pa j : Nat} {op : BitVec 8} (x : BitVec 128) (psn : Bool)
    (hreg : regionOf pa = .stack j) (hop : cisOpOk op.toNat = true) :
    s.redTake src pa op.toNat x psn = s.homeTake (pa / 64) (.red src pa op x psn) := by
  simp [State.redTake, hreg, hop]

theorem exec_red_of_stack (s : State) (src : BitVec 16) {pa j : Nat} {op : BitVec 8} (x : BitVec 128) (psn : Bool)
    (hpa : pa < 2 ^ 56) (hreg : regionOf pa = .stack j) (hop : cisOpOk op.toNat = true) :
    exec (.red src pa op x psn) s = s.gives (s.homeTake (pa / 64) (.red src pa op x psn)) := by
  change act (decide (pa < 2 ^ 56)) (fun s => s.redTake src pa op.toNat x psn) s = _
  rw [decide_eq_true hpa, act_gives, State.redTake_of_stack s src x psn hreg hop]

/-- The commands named for one operation each are that operation's RED. -/
theorem exec_cis_eq_red (s : State) (src : BitVec 16) (pa : Nat) (x : BitVec 128) (psn : Bool) :
    ∀ p ∈ [(Instr.addI32 src pa x psn, 0x00#8), (.addI64 src pa x psn, 0x01#8), (.minS32 src pa x psn, 0x10#8),
        (.minS64 src pa x psn, 0x11#8), (.maxS32 src pa x psn, 0x20#8), (.maxS64 src pa x psn, 0x21#8),
        (.minU32 src pa x psn, 0x30#8), (.minU64 src pa x psn, 0x31#8), (.maxU32 src pa x psn, 0x40#8),
        (.maxU64 src pa x psn, 0x41#8), (.cisAnd src pa x psn, 0x50#8), (.cisOr src pa x psn, 0x60#8),
        (.cisXor src pa x psn, 0x70#8), (.cas32 src pa x psn, 0x80#8), (.cas64 src pa x psn, 0x81#8),
        (.addF32 src pa x psn, 0x92#8), (.addBf16 src pa x psn, 0x93#8), (.addXp src pa x psn, 0xA4#8)],
      exec p.1 s = exec (.red src pa p.2 x psn) s ∧ cisOpOk p.2.toNat = true := by
  simp only [List.forall_mem_cons, List.not_mem_nil, false_implies, implies_true, and_true]
  refine ⟨?_, ?_, ?_, ?_, ?_, ?_, ?_, ?_, ?_, ?_, ?_, ?_, ?_, ?_, ?_, ?_, ?_, ?_⟩ <;> exact ⟨rfl, rfl⟩

/-- Settles O34: `ofLanes` and `lineOfWords` read back lane by lane and word by word, and each command is a RED. -/
theorem cistern : Obligations.Cistern := by
  unfold Obligations.Cistern
  constructor
  · intro half d x
    refine ⟨fun i hi => laneOf_lanes2 32 _ d x hi, fun i hi => laneOf_lanes2 64 _ d x hi,
      fun i hi => toSigned_lanes2_min 32 d x hi, fun i hi => toSigned_lanes2_max 64 d x hi,
      fun i hi => laneOf_lanes2_min 32 d x hi, fun i hi => laneOf_lanes2_max 64 d x hi, ⟨rfl, rfl, rfl⟩, ?_, ?_, rfl,
      fun op pa l psn m hm => ⟨cisLine_word op pa l x psn hm, cisLine_poisoned op pa l x psn hm⟩⟩
    · intro h hh
      have hother : ¬ 1 - h = h := by omega
      exact ⟨(laneOf_cisCas64 d x hh).trans (if_pos rfl), (laneOf_cisCas64 d x (by omega)).trans (if_neg hother)⟩
    · intro i hi
      exact ⟨(laneOf_cisCas32 d x (by omega)).trans (if_pos hi), (laneOf_cisCas32 d x (by omega)).trans (if_neg (by omega))⟩
  · intro s src pa j x psn hpa hreg p hp
    obtain ⟨hred, hop⟩ := exec_cis_eq_red s src pa x psn p hp
    exact ⟨hred.trans (exec_red_of_stack s src x psn hpa hreg hop), hred⟩

end Sys2Proof.Machine
end

section
/-! PROOFS. What a run of updates leaves alone: folds over lists, and protected entries of the object dictionary. -/

namespace Sys2Proof.Machine

/-! ### Folds -/

@[simp] theorem each_nil {σ β : Type} (f : β → σ → σ) (s : σ) : each [] f s = s := rfl

@[simp] theorem each_cons {σ β : Type} (x : β) (l : List β) (f : β → σ → σ) (s : σ) :
    each (x :: l) f s = each l f (f x s) := rfl

theorem each_append {σ β : Type} (l m : List β) (f : β → σ → σ) (s : σ) :
    each (l ++ m) f s = each m f (each l f s) := List.foldl_append ..

/-- What every step over the list's own members keeps, the fold keeps. -/
theorem each_keeps_of_mem {σ β γ : Type} (P : σ → γ) (f : β → σ → σ) {l : List β} (h : ∀ x ∈ l, ∀ s, P (f x s) = P s)
    (s : σ) : P (each l f s) = P s := by
  induction l generalizing s with
  | nil => rfl
  | cons x l ih =>
    obtain ⟨hx, hl⟩ := List.forall_mem_cons.1 h
    rw [each_cons, ih hl, hx]

/-- A condition that every step over the list's own members keeps holds after the fold. -/
theorem each_inv_of_mem {σ β : Type} (P : σ → Prop) (f : β → σ → σ) {l : List β} (h : ∀ x ∈ l, ∀ s, P s → P (f x s))
    {s : σ} (hs : P s) : P (each l f s) := by
  induction l generalizing s with
  | nil => exact hs
  | cons x l ih =>
    obtain ⟨hx, hl⟩ := List.forall_mem_cons.1 h
    exact ih hl (hx s hs)

/-- Under a condition `I` that every step keeps: what one member's step establishes, and every step keeps, holds after the
fold. -/
theorem each_establishes {σ β : Type} (I P : σ → Prop) (f : β → σ → σ) {l : List β} {x : β} (hx : x ∈ l)
    (hI : ∀ y ∈ l, ∀ s, I s → I (f y s)) (hset : ∀ s, I s → P (f x s)) (hkeep : ∀ y ∈ l, ∀ s, I s → P s → P (f y s))
    {s : σ} (hs : I s) : P (each l f s) := by
  obtain ⟨l₁, l₂, rfl⟩ := List.append_of_mem hx
  have hbefore : I (each l₁ f s) := each_inv_of_mem I f (fun y hy => hI y (List.mem_append_left _ hy)) hs
  have hafter : ∀ y ∈ l₂, y ∈ l₁ ++ x :: l₂ := fun y hy => List.mem_append_right _ (List.mem_cons_of_mem _ hy)
  rw [each_append, each_cons]
  refine (each_inv_of_mem (fun t => I t ∧ P t) f (fun y hy t ht => ?_) ⟨hI x hx _ hbefore, hset _ hbefore⟩).2
  exact ⟨hI y (hafter y hy) t ht.1, hkeep y (hafter y hy) t ht.1 ht.2⟩

/-! ### Protected entries of the object dictionary -/

/-- The entries whose keys `P` protects. -/
def State.entries (P : Nat → Prop) (s : State) : ∀ i k, P (dictKey i k) → Nat := fun i k _ => s.ent i k

theorem State.entries_of_od {P : Nat → Prop} {s t : State} (h : t.od = s.od) : t.entries P = s.entries P := by
  funext i k _
  simp only [State.entries, State.ent, h]

theorem State.ent_of_entries {P : Nat → Prop} {s t : State} (h : t.entries P = s.entries P) {i k : Nat}
    (hk : P (dictKey i k)) : t.ent i k = s.ent i k := congrFun (congrFun (congrFun h i) k) hk

/-- Writing an entry that is not protected leaves the protected ones. -/
theorem State.entries_setEnt {P : Nat → Prop} (s : State) {i k : Nat} (v : Nat) (h : ¬ P (dictKey i k)) :
    (s.setEnt i k v).entries P = s.entries P := by
  funext j l hj
  exact s.ent_setEnt_ne i k v j l fun hk => h (hk ▸ hj)

theorem State.entries_incEnt {P : Nat → Prop} (s : State) {i k : Nat} (n : Nat) (h : ¬ P (dictKey i k)) :
    (s.incEnt i k n).entries P = s.entries P := by
  unfold State.incEnt
  split
  · exact s.entries_setEnt _ h
  · rfl

/-- Raising an event writes no entry but the count of dropped events. -/
theorem State.entries_raise {P : Nat → Prop} (s : State) (i k c v : Nat) (h : ¬ P (dictKey 0x4420 5)) :
    (s.raise i k c v).entries P = s.entries P := by
  funext j l hj
  exact s.raise_ent i k c v j l fun hk => h (hk ▸ hj)

theorem State.entries_setRaise {P : Nat → Prop} (s : State) {i k : Nat} (v : Nat) (hik : ¬ P (dictKey i k))
    (h : ¬ P (dictKey 0x4420 5)) : (s.setRaise i k v).entries P = s.entries P :=
  (State.entries_raise _ i k 0 v h).trans (s.entries_setEnt v hik)

/-! ### Answers -/

/-- A command whose units exist and whose effect owes nothing answers it, with the queue as it was. -/
theorem act_true_of_todo {f : State → State} {s : State} (h : (f s).todo = []) :
    act true f s = .next { f s with pending := s.pending } := by
  rw [act_true, State.settle_of_no_todo h]

end Sys2Proof.Machine
end

section
/-! PROOFS. A step boundary: what each of its parts leaves alone (R379 to R384). -/

namespace Sys2Proof.Machine

/-- The entries that no part of a boundary but its own writes changes: the dies' states and the layout, the tier's state,
the stretch counts, and the step's number. -/
def BoundaryKept (key : Nat) : Prop :=
  key / 256 = 0x1100 ∨ key / 256 = 0x3100 ∨ key / 256 = 0x2400 ∨ key = dictKey 0x4310 2

/-- What a part of a boundary leaves as it was, with `c` of the control state. -/
def State.boundView {γ : Type} (c : Control → γ) (s : State) :=
  (s.todo, s.house, s.mem, s.tier, s.porch, c s.ctl, s.entries BoundaryKept)

section
variable {γ : Type} (c : Control → γ) (s : State)

/-! ### Single updates -/

theorem State.boundView_setFleet (i : Nat) (f : Fleet) : (s.setFleet i f).boundView c = s.boundView c := rfl
theorem State.boundView_emit (o : Out) : (s.emit o).boundView c = s.boundView c := rfl
theorem State.boundView_setPair (m : Nat) (p : Pair) : (s.setPair m p).boundView c = s.boundView c := rfl
theorem State.boundView_openPair (m : Nat) : (s.openPair m).boundView c = s.boundView c := by
  simp only [boundView, openPair_todo, openPair_house, openPair_mem, openPair_tier, openPair_porch, openPair_ctl,
    State.entries_of_od (s.openPair_od m)]
theorem State.boundView_setModes (u : Nat) (m : UnitModes) : (s.setModes u m).boundView c = s.boundView c := rfl
theorem State.boundView_setEpoch (i : Nat) (e : Epoch) : (s.setEpoch i e).boundView c = s.boundView c := rfl
theorem State.boundView_setWing (w : Nat) (v : Wing) : (s.setWing w v).boundView c = s.boundView c := rfl
theorem State.boundView_setDie (d : Nat) (v : Die) : (s.setDie d v).boundView c = s.boundView c := rfl
theorem State.boundView_setQf (w q o hi lo v : Nat) : (s.setQf w q o hi lo v).boundView c = s.boundView c := by
  simp only [boundView, setQf_todo, setQf_house, setQf_mem, setQf_tier, setQf_porch, setQf_ctl,
    State.entries_of_od (s.setQf_od w q o hi lo v)]
theorem State.boundView_drawFree : s.drawFree.boundView c = s.boundView c := rfl

theorem State.boundView_setCtl {k : Control} (h : c k = c s.ctl) : (s.setCtl k).boundView c = s.boundView c := by
  have hod : (s.setCtl k).entries BoundaryKept = s.entries BoundaryKept := rfl
  have hctl : (s.setCtl k).ctl = k := rfl
  simp [boundView, hctl, h, hod]

theorem State.boundView_setEnt {i k : Nat} (v : Nat) (h : ¬ BoundaryKept (dictKey i k)) :
    (s.setEnt i k v).boundView c = s.boundView c := by
  simp [boundView, s.entries_setEnt v h]

theorem State.boundView_incEnt {i k : Nat} (n : Nat) (h : ¬ BoundaryKept (dictKey i k)) :
    (s.incEnt i k n).boundView c = s.boundView c := by
  simp [boundView, s.entries_incEnt n h]

theorem State.boundView_raise (i k cause v : Nat) : (s.raise i k cause v).boundView c = s.boundView c := by
  have h : ¬ BoundaryKept (dictKey 0x4420 5) := by unfold BoundaryKept dictKey; omega
  simp [boundView, s.entries_raise i k cause v h]

/-! ### Messages of a fleet job -/

theorem State.boundView_sendModule (m : Nat) (b : Bytes) : (s.sendModule m b).boundView c = s.boundView c := by
  unfold sendModule
  dsimp only
  split
  · rfl
  · split <;> rfl

theorem State.boundView_sendNotice (m op : Nat) (body : Bytes) : (s.sendNotice m op body).boundView c = s.boundView c :=
  State.boundView_sendModule c _ m _

theorem State.boundView_takeFreq (job mhz b : Nat) : (s.takeFreq job mhz b).boundView c = s.boundView c := by
  refine each_keeps (State.boundView c) _ (fun i s => ?_) _ s
  split <;> rfl

theorem State.boundView_sendFreq (job mhz : Nat) : (s.sendFreq job mhz).boundView c = s.boundView c :=
  State.boundView_takeFreq c _ job mhz _

theorem State.boundView_judgeLaggard (i job mhz : Nat) (serial : Bytes) :
    (s.judgeLaggard i job mhz serial).boundView c = s.boundView c := by
  unfold judgeLaggard
  dsimp only
  split
  · rfl
  · exact State.boundView_sendFreq c _ job _

theorem State.boundView_routeFleet (job op : Nat) (body : Bytes) {self : Nat → State → State}
    (h : ∀ i s, (self i s).boundView c = s.boundView c) : (s.routeFleet job op body self).boundView c = s.boundView c := by
  refine each_keeps (State.boundView c) _ (fun i s => ?_) _ s
  dsimp only
  split
  · exact s.boundView_raise c _ _ _ _
  · split
    · exact h i s
    · exact s.boundView_sendNotice c _ _ _

theorem State.boundView_sendLaggard (job causes mhz step : Nat) (serial : Bytes) :
    (s.sendLaggard job causes mhz step serial).boundView c = s.boundView c := by
  unfold sendLaggard
  split
  · exact s.boundView_routeFleet c _ _ _ fun i s => s.boundView_judgeLaggard c i job mhz serial
  · rfl

theorem State.boundView_sendClear (job step : Nat) (serial : Bytes) :
    (s.sendClear job step serial).boundView c = s.boundView c := by
  unfold sendClear
  split
  · exact s.boundView_routeFleet c _ _ _ fun _ _ => rfl
  · rfl

theorem State.boundView_sendLate (job step : Nat) (serial : Bytes) :
    (s.sendLate job step serial).boundView c = s.boundView c := by
  unfold sendLate
  split
  · exact s.boundView_routeFleet c _ _ _ fun _ _ => rfl
  · rfl

/-! ### The parts of a boundary for one suite -/

theorem State.boundView_reportLaggard {i : Nat} (hi : i < 4) (causes : Nat) :
    (s.reportLaggard i causes).boundView c = s.boundView c := by
  have h6 : ¬ BoundaryKept (dictKey 0x2106 (i + 1)) := by unfold BoundaryKept dictKey; omega
  have h7 : ¬ BoundaryKept (dictKey 0x2107 (i + 1)) := by unfold BoundaryKept dictKey; omega
  unfold reportLaggard
  dsimp only
  rw [State.boundView_sendLaggard, State.boundView_setFleet, State.boundView_setEnt c _ _ h6,
    State.boundView_incEnt c _ _ h7]

theorem State.boundView_laggardNow {i : Nat} (hi : i < 4) (power : Bool) :
    (s.laggardNow i power).boundView c = s.boundView c := by
  unfold laggardNow
  dsimp only
  split
  · rfl
  · rw [State.boundView_raise, State.boundView_reportLaggard c _ hi, State.boundView_setFleet]

theorem State.boundView_boundLaggard {i : Nat} (hi : i < 4) : (s.boundLaggard i).boundView c = s.boundView c := by
  have h6 : ¬ BoundaryKept (dictKey 0x2106 (i + 1)) := by unfold BoundaryKept dictKey; omega
  unfold boundLaggard
  dsimp only
  have hnow := s.boundView_laggardNow c hi (decide (s.ent 0x2104 (i + 1) * (16 * (s.suiteSkip i).2) < (s.suiteSkip i).1 * 10000))
  generalize s.laggardNow i _ = t at hnow ⊢
  rw [← hnow]
  split
  · rfl
  · split
    · split
      · split
        · exact t.boundView_reportLaggard c hi _
        · rfl
      · rw [State.boundView_raise, State.boundView_reportLaggard c _ hi]
    · split
      · rw [State.boundView_sendClear, State.boundView_setEnt c _ _ h6, State.boundView_setFleet]
      · rfl

theorem State.boundView_boundAuthority (i : Nat) : (s.boundAuthority i).boundView c = s.boundView c := by
  unfold boundAuthority
  dsimp only
  split
  · rfl
  · split
    · rfl
    · exact State.boundView_sendFreq c _ _ _

theorem State.boundView_boundFreq (i : Nat) : (s.boundFreq i).boundView c = s.boundView c := by
  unfold boundFreq
  dsimp only
  rw [State.boundView_setFleet]
  split
  · refine each_keeps_of_mem (State.boundView c) _ (fun d hd t => ?_) s
    have hd4 : d < 4 := List.mem_range.1 (List.mem_filter.1 hd).1
    exact State.boundView_setEnt c t _ (by unfold BoundaryKept dictKey; omega)
  · rfl

theorem State.boundView_applyDue {i : Nat} (hi : i < 4) (renum : Bool) :
    (s.applyDue i renum).boundView c = s.boundView c := by
  have h1 : ¬ BoundaryKept (dictKey 0x2101 (i + 1)) := by unfold BoundaryKept dictKey; omega
  have h8 : ¬ BoundaryKept (dictKey 0x2108 (i + 1)) := by unfold BoundaryKept dictKey; omega
  unfold applyDue
  dsimp only
  split
  · split
    · rfl
    · split
      · rw [State.boundView_sendLate, State.boundView_incEnt c _ _ h8, State.boundView_setEnt c _ _ h1,
          State.boundView_setFleet]
      · rw [State.boundView_setEnt c _ _ h1, State.boundView_setFleet]
  · rfl

theorem State.boundView_setEp {i k : Nat} (hi : i < 4) (hk : k < 256) (v : Nat) :
    (s.setEp i k v).boundView c = s.boundView c :=
  s.boundView_setEnt c v (by unfold BoundaryKept dictKey; omega)

theorem State.boundView_recountEpoch {i : Nat} (hi : i < 4) : (s.recountEpoch i).boundView c = s.boundView c := by
  unfold recountEpoch
  dsimp only
  split
  · rfl
  · rw [State.boundView_setEp c _ hi (by decide), State.boundView_setEp c _ hi (by decide)]
  · rw [State.boundView_setEp c _ hi (by decide)]
  · split
    · simp only [State.boundView_setEp c _ hi, show 1 < 256 by decide, show 3 < 256 by decide,
        show 7 < 256 by decide, show 8 < 256 by decide, show 10 < 256 by decide, show 11 < 256 by decide]
    · rw [State.boundView_setEp c _ hi (by decide), State.boundView_setEp c _ hi (by decide)]

/-- The units of the module: 32 dispatchers and 256 rooms. -/
theorem State.suiteUnits_lt {i u : Nat} (h : u ∈ s.suiteUnits i) : u < 288 := by
  simp only [suiteUnits, suiteDies, List.mem_flatMap, List.mem_filter, List.mem_append, List.mem_map, List.mem_range] at h
  obtain ⟨d, ⟨⟨hd, -⟩, -⟩, ⟨w, hw, rfl⟩ | ⟨r, hr, rfl⟩⟩ := h <;> omega

theorem State.boundView_setUnitEpoch {u : Nat} (hu : u < 288) (e : Nat) : (s.setUnitEpoch u e).boundView c = s.boundView c := by
  unfold setUnitEpoch setRoomEpoch
  split
  · exact s.boundView_setEnt c _ (by unfold BoundaryKept dictKey; omega)
  · split
    · exact s.boundView_setEnt c _ (by unfold BoundaryKept dictKey; omega)
    · exact s.boundView_setEnt c _ (by unfold BoundaryKept dictKey; omega)

theorem State.boundView_applyUnit {u : Nat} (hu : u < 288) (e : Nat) (p : Epoch) :
    (s.applyUnit u e p).boundView c = s.boundView c := by
  unfold applyUnit
  dsimp only
  split
  · rw [each_keeps (State.boundView c) _ fun x t => t.boundView_setQf c _ _ _ _ _ _, State.boundView_setWing,
      State.boundView_setUnitEpoch c _ hu, State.boundView_setModes]
  · rw [State.boundView_setUnitEpoch c _ hu, State.boundView_setModes]

theorem State.boundView_applyAcked {i : Nat} (hi : i < 4) : (s.applyAcked i).boundView c = s.boundView c := by
  unfold applyAcked
  dsimp only
  rw [State.boundView_recountEpoch c _ hi]
  refine each_keeps_of_mem (State.boundView c) _ (fun u hu t => ?_) s
  have hunit : u ∈ s.suiteUnits i := (List.mem_filter.1 (List.mem_filter.1 hu).1).1
  exact t.boundView_applyUnit c (s.suiteUnits_lt hunit) _ _

theorem State.boundView_boundEpoch {i : Nat} (hi : i < 4) : (s.boundEpoch i).boundView c = s.boundView c := by
  unfold boundEpoch
  dsimp only
  split
  · rfl
  · split
    · split
      · rfl
      · rw [State.boundView_applyAcked c _ hi, State.boundView_setEp c _ hi (by decide), State.boundView_setEpoch]
    · split
      · rw [each_keeps (State.boundView c) _ fun x t => t.boundView_raise c _ _ _ _, State.boundView_applyAcked c _ hi,
          State.boundView_setEpoch]
      · rw [State.boundView_applyAcked c _ hi, State.boundView_setEpoch]

end

end Sys2Proof.Machine
end

section
/-! PROOFS. A step boundary (R379, R380, R383, R384): its pulse, stretch counts and bookings, and the step that begins. -/

namespace Sys2Proof.Machine

/-! ### The stretch counts of the step just ended (R336) -/

/-- The entries that the close of the stretch counts leaves. -/
def StretchKept (key : Nat) : Prop := BoundaryKept key ∧ key / 256 ≠ 0x2400

/-- What the close of the stretch counts leaves as it was. -/
def State.stretchView (s : State) := (s.todo, s.house, s.mem, s.tier, s.porch, s.ctl, s.entries StretchKept)

section
variable (s : State)

theorem State.stretchView_setWing (w : Nat) (v : Wing) : (s.setWing w v).stretchView = s.stretchView := rfl
theorem State.stretchView_setDie (d : Nat) (v : Die) : (s.setDie d v).stretchView = s.stretchView := rfl
theorem State.stretchView_drawFree : s.drawFree.stretchView = s.stretchView := rfl

theorem State.stretchView_setEnt {i k : Nat} (v : Nat) (h : ¬ StretchKept (dictKey i k)) :
    (s.setEnt i k v).stretchView = s.stretchView := by
  simp [stretchView, s.entries_setEnt v h]

theorem State.stretchView_incEnt {i k : Nat} (n : Nat) (h : ¬ StretchKept (dictKey i k)) :
    (s.incEnt i k n).stretchView = s.stretchView := by
  simp [stretchView, s.entries_incEnt n h]

theorem State.stretchView_meterSkips (d : Nat) : (s.meterSkips d).stretchView = s.stretchView := by
  unfold meterSkips
  split <;> rfl

theorem State.stretchView_countDroop {w : Nat} (hw : w < 32) : (s.countDroop w).stretchView = s.stretchView := by
  unfold countDroop
  dsimp only
  split
  · rfl
  · rw [State.stretchView_incEnt _ _ (by unfold StretchKept BoundaryKept dictKey; omega), State.stretchView_setWing,
      State.stretchView_drawFree]

/-- The stretch count of a wing of a running die is closed. -/
def State.closeWing (s : State) (w : Nat) : State :=
  let s := s.countDroop w
  let k := (s.die (w / 8)).lastSkip.1 / 16000000
  let v := s.wing w
  let s := if v.stretch = 0 then s else s.setWing w { v with stretch := 0 }
  (s.setEnt 0x2400 (w + 1) (satInc 32 v.stretch k)).incEnt 0x2402 (w + 1) k

/-- The skips of die `d` since the last boundary are kept for its wings. -/
def State.closeDie (s : State) (d : Nat) : State :=
  let s := s.meterSkips d
  s.setDie d { s.die d with skips := (0, 0), skipAt := s.house, lastSkip := (s.die d).skips }

theorem State.closeStretch_eq : s.closeStretch =
    each (List.range 32) (fun w s => if !s.wingUp w then s.setEnt 0x2400 (w + 1) 0 else s.closeWing w)
      (each [0, 1, 2, 3] (fun d s => s.closeDie d) s) := rfl

theorem State.stretchView_closeWing {w : Nat} (hw : w < 32) : (s.closeWing w).stretchView = s.stretchView := by
  have h0 : ¬ StretchKept (dictKey 0x2400 (w + 1)) := by unfold StretchKept BoundaryKept dictKey; omega
  have h2 : ¬ StretchKept (dictKey 0x2402 (w + 1)) := by unfold StretchKept BoundaryKept dictKey; omega
  unfold closeWing
  dsimp only
  rw [State.stretchView_incEnt _ _ h2, State.stretchView_setEnt _ _ h0, ← s.stretchView_countDroop hw]
  split <;> rfl

theorem State.stretchView_closeStep {w : Nat} (hw : w < 32) :
    (if !s.wingUp w then s.setEnt 0x2400 (w + 1) 0 else s.closeWing w).stretchView = s.stretchView := by
  split
  · exact s.stretchView_setEnt _ (by unfold StretchKept BoundaryKept dictKey; omega)
  · exact s.stretchView_closeWing hw

theorem State.stretchView_closeDies : (each [0, 1, 2, 3] (fun d s => s.closeDie d) s).stretchView = s.stretchView :=
  each_keeps State.stretchView _ (fun d t => (State.stretchView_setDie _ _ _).trans (t.stretchView_meterSkips d)) _ s

theorem State.stretchView_closeStretch : s.closeStretch.stretchView = s.stretchView := by
  rw [closeStretch_eq, each_keeps_of_mem State.stretchView _ (fun w hw t => t.stretchView_closeStep (List.mem_range.1 hw)),
    stretchView_closeDies]

/-- Whether a wing's die runs is not changed by what closes the stretch counts. -/
theorem State.wingUp_of_stretchView {s t : State} (h : t.stretchView = s.stretchView) {w : Nat} (hw : w < 32) :
    t.wingUp w = s.wingUp w := by
  simp only [stretchView, Prod.mk.injEq] at h
  obtain ⟨-, -, -, -, hporch, -, hent⟩ := h
  have hdie : t.ent 0x1100 (0x12 + 0x10 * (w / 8)) = s.ent 0x1100 (0x12 + 0x10 * (w / 8)) :=
    State.ent_of_entries hent (by unfold StretchKept BoundaryKept dictKey; omega)
  unfold wingUp dieUp on dieState
  rw [hporch, hdie]

theorem State.ent_closeWing_ne {w v : Nat} (hw : w < 32) (hv : v < 32) (h : v ≠ w) :
    (s.closeWing v).ent 0x2400 (w + 1) = s.ent 0x2400 (w + 1) := by
  let P : Nat → Prop := fun key => key = dictKey 0x2400 (w + 1)
  have h0 : ¬ P (dictKey 0x2400 (v + 1)) := by simp only [P, dictKey]; omega
  have h1 : ¬ P (dictKey 0x2401 (v + 1)) := by simp only [P, dictKey]; omega
  have h2 : ¬ P (dictKey 0x2402 (v + 1)) := by simp only [P, dictKey]; omega
  refine State.ent_of_entries (P := P) ?_ rfl
  have hcount : (s.countDroop v).entries P = s.entries P := by
    unfold countDroop
    dsimp only
    split
    · rfl
    · exact State.entries_incEnt _ _ h1
  unfold closeWing
  dsimp only
  rw [State.entries_incEnt _ _ h2, State.entries_setEnt _ _ h0, ← hcount]
  split <;> rfl

/-- A wing whose die is not running had no stretch in the step just ended. -/
theorem State.ent_closeStretch_of_not_wingUp {w : Nat} (hw : w < 32) (hup : s.wingUp w = false) :
    s.closeStretch.ent 0x2400 (w + 1) = 0 := by
  rw [closeStretch_eq]
  refine each_establishes (fun t : State => t.stretchView = s.stretchView) (fun t : State => t.ent 0x2400 (w + 1) = 0) _
    (List.mem_range.2 hw) (fun v hv t ht => ?_) (fun t ht => ?_) (fun v hv t ht hz => ?_) s.stretchView_closeDies
  · exact (t.stretchView_closeStep (List.mem_range.1 hv)).trans ht
  · have hdown : t.wingUp w = false := (State.wingUp_of_stretchView ht hw).trans hup
    simp [hdown]
  · by_cases hvw : v = w
    · have hdown : t.wingUp w = false := (State.wingUp_of_stretchView ht hw).trans hup
      simp [hvw, hdown]
    · split
      · rw [State.ent_setEnt_ne, hz]
        have hv' := List.mem_range.1 hv
        unfold dictKey
        omega
      · rw [State.ent_closeWing_ne t hw (List.mem_range.1 hv) hvw, hz]

/-! ### The pulse of the boundary just passed (R381) -/

/-- The parts of the control state that the pulse and the bookings leave. -/
def Control.stepPlan (c : Control) := (c.len, c.lenNext, c.renumber)

/-- The same, with the meter's energy. -/
def Control.metered (c : Control) := (c.stepPlan, c.meterE)

theorem State.boundView_missPulse : s.missPulse.boundView Control.metered = s.boundView Control.metered := by
  have h3 : ¬ BoundaryKept (dictKey 0x4310 3) := by unfold BoundaryKept dictKey; omega
  have h6 : ¬ BoundaryKept (dictKey 0x4310 6) := by unfold BoundaryKept dictKey; omega
  have hctl (k : Control) (t : State) (h : k.metered = t.ctl.metered) :
      (t.setCtl k).boundView Control.metered = t.boundView Control.metered := State.boundView_setCtl _ t h
  unfold missPulse
  dsimp only
  split
  · exact hctl _ s rfl
  · split
    · rfl
    · have hmiss : ((s.incEnt 0x4310 6 1).setCtl { s.ctl with noPulse := s.ctl.noPulse + 1 }).boundView Control.metered =
          s.boundView Control.metered := by
        rw [hctl _ _ (by simp [Control.metered, Control.stepPlan]), State.boundView_incEnt _ _ _ h6]
      split
      · unfold setRaise
        rw [State.boundView_raise, State.boundView_setEnt _ _ _ h3, hmiss]
      · exact hmiss

/-! ### The bookings of the step just ended (R354 to R358) -/

theorem State.boundView_addToSlot (k : Nat) (job : BitVec 16) (e h : Nat) :
    (s.addToSlot k job e h).boundView Control.metered = s.boundView Control.metered :=
  State.boundView_setCtl _ s rfl

theorem State.boundView_queueRecord (r : List (BitVec 64)) :
    (s.queueRecord r).boundView Control.metered = s.boundView Control.metered := by
  unfold queueRecord
  split
  · rfl
  · split
    · exact s.boundView_incEnt _ _ (by unfold BoundaryKept dictKey; omega)
    · exact State.boundView_setCtl _ s rfl

theorem State.boundView_fitStep (m : StepMeasure) :
    (s.fitStep m).boundView Control.metered = s.boundView Control.metered :=
  State.boundView_setCtl _ s rfl

/-- What one job adds to the bookings: its energies, or that a job has no slot. -/
def State.bookJob (s : State) (m : StepMeasure) (model : Bool) (acc : (List (JobShare × Nat × Nat) × Bool) × State)
    (j : JobShare) : (List (JobShare × Nat × Nat) × Bool) × State :=
  match acc.2.slotOf j.job with
  | none => ((acc.1.1, true), acc.2)
  | some k =>
    let e := s.bookedTo m model j
    ((acc.1.1 ++ [(j, e)], acc.1.2), acc.2.addToSlot k j.job e.1 e.2)

theorem State.boundView_bookJobs (m : StepMeasure) (model : Bool) (jobs : List JobShare)
    (acc : (List (JobShare × Nat × Nat) × Bool) × State) :
    (jobs.foldl (s.bookJob m model) acc).2.boundView Control.metered = acc.2.boundView Control.metered := by
  induction jobs generalizing acc with
  | nil => rfl
  | cons j jobs ih =>
    rw [List.foldl_cons, ih]
    unfold bookJob
    split
    · rfl
    · exact State.boundView_addToSlot _ _ _ _ _

/-- The meter's energy takes the step's, and the step's own counts begin again. -/
def State.meterStep (s : State) (m : StepMeasure) : State :=
  s.setCtl { s.ctl with meterE := s.ctl.meterE + m.meter, stepE := 0, railB := s.ctl.railE }

/-- The entries of the bookings before the meter takes the step. -/
def State.bookFirst (s : State) (m : StepMeasure) (model unslotted : Bool) : State :=
  let s := if unslotted then s.incEnt 0x6010 8 1 else s
  let s := (s.setEnt 0x6010 4 (b2n !model)).setEnt 0x6010 7
    (if m.meter ≤ 0 then 0 else f32Ratio s.railSum (m.meter.toNat * 100000))
  s.fitStep m

/-- The entries of the bookings after it. -/
def State.bookLast (s : State) : State :=
  let s := ((s.setEnt 0x6010 5 s.quality).setEnt 0x6010 1 (milli s.ctl.meterE)).setEnt 0x6010 3 (milli s.ctl.hearthE)
  s.setEnt 0x2001 5 (max (s.ent 0x2001 5) (milli s.ctl.meterE))

/-- The ledger's records of a step, of a number `step` and a time `t`. -/
def State.bookRecords (s : State) (m : StepMeasure) (model : Bool) (step t : Nat) (jobs : List (JobShare × Nat × Nat)) : State :=
  let booked : Nat := (jobs.map fun j => j.2.1 + j.2.2).foldl (· + ·) 0
  let rec_ := fun (kind : Nat) (j : JobShare) (e : Nat) => ledgerRec kind (!model) j.suite (s.jobStretch j) j.job.toNat step e t
  let s := each (jobs.filter fun j => j.1.act.any (fun x => x ≠ 0) || decide (j.1.busy ≠ 0)) (fun j s => s.queueRecord (rec_ 0 j.1 j.2.1)) s
  let s := each (jobs.filter fun j => j.2.2 ≠ 0) (fun j s => s.queueRecord (rec_ 1 j.1 j.2.2)) s
  s.queueRecord (ledgerRec 2 (!model) 7 0 0xFFFF step (m.meter - booked) t)

theorem State.bookStep_eq (m : StepMeasure) : s.bookStep m =
    let r := m.jobs.foldl (s.bookJob m s.isModel) (([], false), s)
    (((r.2.bookFirst m s.isModel r.1.2).meterStep m).bookLast).bookRecords m s.isModel s.stepNo s.house r.1.1 := rfl

theorem State.boundView_bookFirst (m : StepMeasure) (model unslotted : Bool) :
    (s.bookFirst m model unslotted).boundView Control.metered = s.boundView Control.metered := by
  have hkeep {k : Nat} (hk : k < 256) : ¬ BoundaryKept (dictKey 0x6010 k) := by unfold BoundaryKept dictKey; omega
  unfold bookFirst
  dsimp only
  rw [State.boundView_fitStep, State.boundView_setEnt _ _ _ (hkeep (by decide)),
    State.boundView_setEnt _ _ _ (hkeep (by decide))]
  split
  · exact s.boundView_incEnt _ _ (hkeep (by decide))
  · rfl

theorem State.boundView_bookLast : s.bookLast.boundView Control.metered = s.boundView Control.metered := by
  have hkeep {k : Nat} (hk : k < 256) : ¬ BoundaryKept (dictKey 0x6010 k) := by unfold BoundaryKept dictKey; omega
  unfold bookLast
  dsimp only
  rw [State.boundView_setEnt _ _ _ (by unfold BoundaryKept dictKey; omega), State.boundView_setEnt _ _ _ (hkeep (by decide)),
    State.boundView_setEnt _ _ _ (hkeep (by decide)), State.boundView_setEnt _ _ _ (hkeep (by decide))]

theorem State.boundView_bookRecords (m : StepMeasure) (model : Bool) (step t : Nat) (jobs : List (JobShare × Nat × Nat)) :
    (s.bookRecords m model step t jobs).boundView Control.metered = s.boundView Control.metered := by
  unfold bookRecords
  dsimp only
  rw [State.boundView_queueRecord, each_keeps (State.boundView Control.metered) _ fun _ t => t.boundView_queueRecord _,
    each_keeps (State.boundView Control.metered) _ fun _ t => t.boundView_queueRecord _]

theorem State.boundView_of_metered {t : State} (h : t.boundView Control.metered = s.boundView Control.metered) :
    t.boundView Control.stepPlan = s.boundView Control.stepPlan ∧ t.ctl.meterE = s.ctl.meterE := by
  simp only [boundView, Control.metered, Prod.mk.injEq] at h ⊢
  obtain ⟨htodo, hhouse, hmem, htier, hporch, ⟨hplan, hmeter⟩, hkept⟩ := h
  exact ⟨⟨htodo, hhouse, hmem, htier, hporch, hplan, hkept⟩, hmeter⟩

theorem State.boundView_bookStep (m : StepMeasure) :
    (s.bookStep m).boundView Control.stepPlan = s.boundView Control.stepPlan ∧
      (s.bookStep m).ctl.meterE = s.ctl.meterE + m.meter := by
  rw [bookStep_eq]
  dsimp only
  have hjobs := s.boundView_bookJobs m s.isModel m.jobs (([], false), s)
  generalize m.jobs.foldl (s.bookJob m s.isModel) (([], false), s) = r at hjobs ⊢
  obtain ⟨hplan, hmeter⟩ := s.boundView_of_metered ((r.2.boundView_bookFirst m s.isModel r.1.2).trans hjobs)
  generalize r.2.bookFirst m s.isModel r.1.2 = u at hplan hmeter ⊢
  obtain ⟨hplan', hmeter'⟩ := (u.meterStep m).boundView_of_metered
    ((State.boundView_bookRecords _ m s.isModel s.stepNo s.house r.1.1).trans (u.meterStep m).boundView_bookLast)
  constructor
  · exact hplan'.trans ((State.boundView_setCtl _ u rfl).trans hplan)
  · rw [hmeter', ← hmeter]
    rfl

end

end Sys2Proof.Machine
end

section
/-! PROOFS. A step boundary (R379, R380, R383, R384): the step that begins, and the boundary as a whole. -/

namespace Sys2Proof.Machine

section
variable (s : State)

/-- The number of the step that begins (R380). -/
def State.nextStep (s : State) : Nat := if s.ctl.renumber then max (s.stepNo + 1) (s.house / s.ctl.len) else s.stepNo + 1

/-- The control state at the start of a step: its length and the boundary after it (R383, R384), from the plan `c` of the
step just ended. -/
def State.planStep (s : State) (c : Control) : Control :=
  let len := match c.lenNext with
    | some (l, k) => if k ≤ 1 then l else c.len
    | none => c.len
  let next := match c.lenNext with
    | some (l, k) => if k ≤ 1 then none else some (l, k - 1)
    | none => none
  { s.ctl with renumber := false, prevBound := s.house, nextBound := s.house + len, len := len, lenNext := next,
               pulsed := c.early, early := false }

/-- The new step's number, and the event and pulse of its start. -/
def State.openStep (s : State) : State :=
  let n := s.nextStep
  let c := s.ctl
  let s := s.setEnt 0x4310 2 (n % 2 ^ 64)
  let s := if c.renumber then s.raise 0x4310 2 2 n else s
  if s.ent 0x4310 9 = 1 ∧ s.firmware then s.emit (.stepPulse s.house) else s

/-- The parts of the boundary for each suite. -/
def State.boundSuites (s : State) (renum : Bool) : State :=
  let is := List.range (suiteCount s.layout)
  each is (fun i s => (((s.applyDue i renum).boundLaggard i).boundAuthority i).boundFreq i) (each is (fun i s => s.boundEpoch i) s)

/-- The tier's count of boundaries, and the end of what the step was limited by. -/
def State.endBoundary (s : State) : State :=
  let s := if s.tierState = 2 then { s with tier := { s.tier with bounds := s.tier.bounds + 1 } } else s
  s.setCtl { s.ctl with limited := false }

/-- The step just ended: the time of the boundary, the pulse, the stretch counts and the bookings. -/
def State.closeStep (s : State) (m : StepMeasure) : State := (s.advance s.ctl.nextBound).missPulse.closeStretch.bookStep m

theorem State.boundary_of_on (m : StepMeasure) (hon : s.on = true) : s.boundary m =
    let t := s.closeStep m
    ((t.openStep.setCtl (t.openStep.planStep t.ctl)).boundSuites t.ctl.renumber).endBoundary := by
  have hrun : ¬ (!s.on) = true := by simp [hon]
  unfold boundary
  rw [if_neg hrun]
  extract_lets s₁ t c n s₂ s₃ u len next k v is w x y z k' t'
  have ht : t = s.closeStep m := rfl
  clear_value t
  have hu : u = t.openStep := rfl
  clear_value u
  have hv : v = u.setCtl (u.planStep t.ctl) := rfl
  clear_value v
  have hx : x = v.boundSuites t.ctl.renumber := rfl
  clear_value x
  calc z.setCtl _ = x.endBoundary := rfl
    _ = ((t'.openStep.setCtl (t'.openStep.planStep t'.ctl)).boundSuites t'.ctl.renumber).endBoundary := by
      rw [hx, hv, hu, ht]

/-! ### The step just ended -/

theorem State.closeStep_kept (m : StepMeasure) :
    (s.closeStep m).todo = s.todo ∧ (s.closeStep m).mem = s.mem ∧ (s.closeStep m).tier = s.tier ∧
    (s.closeStep m).porch = s.porch ∧ (s.closeStep m).ctl.stepPlan = s.ctl.stepPlan ∧
    (s.closeStep m).house = (s.advance s.ctl.nextBound).house ∧
    (s.closeStep m).ctl.meterE = s.ctl.meterE + m.meter ∧
    (s.closeStep m).entries StretchKept = s.entries StretchKept := by
  have hmiss := (s.advance s.ctl.nextBound).boundView_missPulse
  have hclose := (s.advance s.ctl.nextBound).missPulse.stretchView_closeStretch
  obtain ⟨hbook, hmeter⟩ := (s.advance s.ctl.nextBound).missPulse.closeStretch.boundView_bookStep m
  have hent {a b : State} (h : a.entries BoundaryKept = b.entries BoundaryKept) :
      a.entries StretchKept = b.entries StretchKept := by
    funext i k hk
    exact State.ent_of_entries h hk.1
  have hod := State.entries_of_od (P := StretchKept) (s.advance_od s.ctl.nextBound)
  simp only [boundView, stretchView, Control.metered, Control.stepPlan, Prod.mk.injEq, advance_todo, advance_mem, advance_tier,
    advance_porch, advance_ctl] at hmiss hclose hbook ⊢
  obtain ⟨mtodo, mhouse, mmem, mtier, mporch, ⟨⟨mlen, mnext, mren⟩, mmeter⟩, ment⟩ := hmiss
  obtain ⟨ctodo, chouse, cmem, ctier, cporch, cctl, cent⟩ := hclose
  obtain ⟨btodo, bhouse, bmem, btier, bporch, ⟨blen, bnext, bren⟩, bent⟩ := hbook
  unfold closeStep
  refine ⟨btodo.trans (ctodo.trans mtodo), bmem.trans (cmem.trans mmem), btier.trans (ctier.trans mtier),
    bporch.trans (cporch.trans mporch), ⟨?_, ?_, ?_⟩, bhouse.trans (chouse.trans mhouse), ?_,
    (hent bent).trans (cent.trans ((hent ment).trans hod))⟩
  · rw [blen, cctl, mlen]
  · rw [bnext, cctl, mnext]
  · rw [bren, cctl, mren]
  · rw [hmeter, cctl, mmeter]

theorem State.stretch_closeStep (m : StepMeasure) {w : Nat} (hw : w < 32) (hup : s.wingUp w = false) :
    (s.closeStep m).ent 0x2400 (w + 1) = 0 := by
  have hmiss := (s.advance s.ctl.nextBound).boundView_missPulse
  obtain ⟨hbook, -⟩ := (s.advance s.ctl.nextBound).missPulse.closeStretch.boundView_bookStep m
  simp only [boundView, Prod.mk.injEq] at hmiss hbook
  obtain ⟨-, -, -, -, mporch, -, ment⟩ := hmiss
  obtain ⟨-, -, -, -, -, -, bent⟩ := hbook
  have hdie : (s.advance s.ctl.nextBound).missPulse.ent 0x1100 (0x12 + 0x10 * (w / 8)) = s.ent 0x1100 (0x12 + 0x10 * (w / 8)) := by
    rw [State.ent_of_entries ment (by unfold BoundaryKept dictKey; omega)]
    simp [ent]
  have hdown : (s.advance s.ctl.nextBound).missPulse.wingUp w = false := by
    rw [← hup]
    unfold wingUp dieUp on dieState
    rw [hdie, mporch, advance_porch]
  unfold closeStep
  rw [State.ent_of_entries bent (by unfold BoundaryKept dictKey; omega)]
  exact State.ent_closeStretch_of_not_wingUp _ hw hdown

/-! ### The step that begins -/

theorem State.openStep_kept :
    s.openStep.todo = s.todo ∧ s.openStep.mem = s.mem ∧ s.openStep.tier = s.tier ∧ s.openStep.porch = s.porch ∧
    s.openStep.ctl = s.ctl ∧ s.openStep.house = s.house ∧ s.openStep.stepNo = s.nextStep % 2 ^ 64 ∧
    (∀ i k, dictKey i k ≠ dictKey 0x4310 2 → dictKey i k ≠ dictKey 0x4420 5 → s.openStep.ent i k = s.ent i k) := by
  have hraise : ∀ i k, dictKey i k ≠ dictKey 0x4420 5 → ∀ t : State, (t.raise 0x4310 2 2 s.nextStep).ent i k = t.ent i k :=
    fun i k h t => t.raise_ent _ _ _ _ _ _ h
  unfold openStep
  dsimp only
  split <;> split <;>
    simp +contextual [stepNo, hraise, State.ent_setEnt_ne, show dictKey 0x4310 2 ≠ dictKey 0x4420 5 by decide]

theorem State.boundView_boundSuites (renum : Bool) : (s.boundSuites renum).boundView id = s.boundView id := by
  have hlt {i : Nat} (h : i ∈ List.range (suiteCount s.layout)) : i < 4 := by
    have hi := List.mem_range.1 h
    have hcount : suiteCount s.layout ≤ 4 := by
      unfold suiteCount
      repeat' split
      all_goals decide
    omega
  unfold boundSuites
  dsimp only
  rw [each_keeps_of_mem (State.boundView id) _ fun i hi t => ?_, each_keeps_of_mem (State.boundView id) _ fun i hi t => ?_]
  · exact t.boundView_boundEpoch id (hlt hi)
  · rw [State.boundView_boundFreq, State.boundView_boundAuthority, State.boundView_boundLaggard id _ (hlt hi),
      State.boundView_applyDue id _ (hlt hi)]

theorem State.endBoundary_kept :
    s.endBoundary.todo = s.todo ∧ s.endBoundary.house = s.house ∧ s.endBoundary.mem = s.mem ∧
    s.endBoundary.ctl = { s.ctl with limited := false } ∧ s.endBoundary.od = s.od ∧
    s.endBoundary.tier.bounds = s.tier.bounds + (if s.tierState = 2 then 1 else 0) := by
  unfold endBoundary
  dsimp only
  split <;> exact ⟨rfl, rfl, rfl, rfl, rfl, rfl⟩

theorem State.advance_house_eq (t : Nat) : (s.advance t).house = if s.house < t then t % 2 ^ 64 else s.house := by
  unfold advance
  split <;> rfl

/-- The state of the module when a step has begun, before the parts of the boundary for each suite. -/
def State.atStart (s : State) (m : StepMeasure) : State :=
  (s.closeStep m).openStep.setCtl ((s.closeStep m).openStep.planStep (s.closeStep m).ctl)

theorem State.planStep_len (c : Control) (h : c.lenNext = none) : (s.planStep c).len = c.len := by
  simp [planStep, h]

theorem State.planStep_len_of_due (c : Control) {l : Nat} (h : c.lenNext = some (l, 1)) : (s.planStep c).len = l := by
  simp [planStep, h]

theorem State.planStep_of_waiting (c : Control) {l : Nat} (h : c.lenNext = some (l, 2)) :
    (s.planStep c).len = c.len ∧ (s.planStep c).lenNext = some (l, 1) := by
  simp [planStep, h]

/-- A boundary of a running module, from the start of the step on. -/
theorem State.boundary_kept (m : StepMeasure) (hon : s.on = true) :
    (s.boundary m).todo = s.todo ∧ (s.boundary m).house = (s.atStart m).house ∧ (s.boundary m).mem = s.mem ∧
    (s.boundary m).ctl = { (s.atStart m).ctl with limited := false } ∧ (s.boundary m).stepNo = (s.atStart m).stepNo ∧
    (s.boundary m).tier.bounds = s.tier.bounds + (if s.tierState = 2 then 1 else 0) ∧
    (∀ w, w < 32 → s.wingUp w = false → (s.boundary m).ent 0x2400 (w + 1) = 0) := by
  obtain ⟨ctodo, cmem, ctier, cporch, -, -, -, cent⟩ := s.closeStep_kept m
  have hzero := fun w (hw : w < 32) => s.stretch_closeStep m hw
  rw [s.boundary_of_on m hon]
  dsimp only
  unfold atStart
  generalize s.closeStep m = t at *
  obtain ⟨otodo, omem, otier, oporch, -, -, -, oent⟩ := t.openStep_kept
  have hsuites := (t.openStep.setCtl (t.openStep.planStep t.ctl)).boundView_boundSuites t.ctl.renumber
  obtain ⟨etodo, ehouse, emem, ectl, eod, ebounds⟩ :=
    ((t.openStep.setCtl (t.openStep.planStep t.ctl)).boundSuites t.ctl.renumber).endBoundary_kept
  generalize (t.openStep.setCtl (t.openStep.planStep t.ctl)).boundSuites t.ctl.renumber = x at *
  simp only [boundView, Prod.mk.injEq, id] at hsuites
  obtain ⟨xtodo, xhouse, xmem, xtier, -, xctl, xent⟩ := hsuites
  have hent : ∀ i k, x.endBoundary.ent i k = x.ent i k := fun i k => by simp only [ent, eod]
  have hmid : ∀ i k, BoundaryKept (dictKey i k) → x.ent i k = t.openStep.ent i k := fun i k h => State.ent_of_entries xent h
  have htier : x.tierState = s.tierState := by
    unfold tierState
    rw [hmid _ _ (by unfold BoundaryKept dictKey; omega), oent _ _ (by decide) (by decide)]
    exact State.ent_of_entries cent (by unfold StretchKept BoundaryKept dictKey; omega)
  refine ⟨etodo.trans (xtodo.trans (otodo.trans ctodo)), ehouse.trans xhouse, emem.trans (xmem.trans (omem.trans cmem)),
    by rw [ectl, xctl], ?_, ?_, fun w hw hup => ?_⟩
  · unfold stepNo
    rw [hent, hmid _ _ (by unfold BoundaryKept dictKey; omega)]
    rfl
  · rw [ebounds, xtier, htier]
    simp only [setCtl_tier, otier, ctier]
  · rw [hent, hmid _ _ (by unfold BoundaryKept dictKey; omega),
      oent _ _ (by unfold dictKey; omega) (by unfold dictKey; omega), hzero w hw hup]

end

/-- The number of the new step (R380). -/
theorem State.stepNo_boundary (s : State) (m : StepMeasure) (hon : s.on = true) : (s.boundary m).stepNo =
    (if s.ctl.renumber = true then max (s.stepNo + 1) ((s.boundary m).house / s.ctl.len) else s.stepNo + 1) % 2 ^ 64 := by
  obtain ⟨-, bhouse, -, -, bstep, -, -⟩ := s.boundary_kept m hon
  obtain ⟨-, -, -, -, hplan, -, -, cent⟩ := s.closeStep_kept m
  obtain ⟨-, -, -, -, -, ohouse, ostep, -⟩ := (s.closeStep m).openStep_kept
  have hstep : (s.closeStep m).stepNo = s.stepNo :=
    State.ent_of_entries cent (by unfold StretchKept BoundaryKept dictKey; omega)
  have hhouse : (s.boundary m).house = (s.closeStep m).house := bhouse.trans ohouse
  simp only [Control.stepPlan, Prod.mk.injEq] at hplan
  obtain ⟨hlen, -, hrenumber⟩ := hplan
  rw [bstep, hhouse, ← hlen, ← hrenumber, ← hstep]
  exact ostep

/-- The plan of the new step, as the control state after the boundary keeps it (R383, R384). -/
theorem State.plan_boundary (s : State) (m : StepMeasure) (hon : s.on = true) :
    (s.boundary m).ctl.prevBound = (s.boundary m).house ∧
    (s.boundary m).ctl.nextBound = (s.boundary m).house + (s.boundary m).ctl.len ∧
    (s.boundary m).ctl.renumber = false ∧ (s.boundary m).ctl.early = false ∧
    (s.ctl.lenNext = none → (s.boundary m).ctl.len = s.ctl.len) ∧
    (∀ l, s.ctl.lenNext = some (l, 1) → (s.boundary m).ctl.len = l) ∧
    (∀ l, s.ctl.lenNext = some (l, 2) → (s.boundary m).ctl.len = s.ctl.len ∧ (s.boundary m).ctl.lenNext = some (l, 1)) ∧
    (s.boundary m).ctl.meterE = s.ctl.meterE + m.meter ∧ (s.boundary m).ctl.limited = false := by
  obtain ⟨-, bhouse, -, bctl, -, -, -⟩ := s.boundary_kept m hon
  obtain ⟨-, -, -, -, hplan, -, hmeter, -⟩ := s.closeStep_kept m
  obtain ⟨-, -, -, -, octl, ohouse, -, -⟩ := (s.closeStep m).openStep_kept
  simp only [Control.stepPlan, Prod.mk.injEq] at hplan
  obtain ⟨hlen, hnext, -⟩ := hplan
  rw [bctl, bhouse, ← hlen, ← hnext, ← hmeter]
  unfold atStart
  generalize s.closeStep m = t at *
  have hmeter' : t.openStep.ctl.meterE = t.ctl.meterE := congrArg Control.meterE octl
  exact ⟨rfl, rfl, rfl, rfl, t.openStep.planStep_len t.ctl, fun _ => t.openStep.planStep_len_of_due t.ctl,
    fun _ => t.openStep.planStep_of_waiting t.ctl, hmeter', rfl⟩

/-- Settles O45: the time, number and plan of the new step are written once, and every later part of the boundary keeps
them. -/
theorem stepBoundaries : Obligations.StepBoundaries := by
  unfold Obligations.StepBoundaries
  intro s m hs
  constructor
  · intro hoff
    have hstay : s.boundary m = s := by simp [State.boundary, hoff]
    rw [exec_stepBoundary, execStepBoundary, act_true_of_todo (f := fun s => s.boundary m) (by rw [hstay]; exact hs), hstay]
  · intro hon
    obtain ⟨btodo, bhouse, bmem, -, -, bbounds, bstretch⟩ := s.boundary_kept m hon
    obtain ⟨-, -, -, -, -, hhouse, -, -⟩ := s.closeStep_kept m
    obtain ⟨-, -, -, -, -, ohouse, -, -⟩ := (s.closeStep m).openStep_kept
    have hnow : (s.boundary m).house = if s.house < s.ctl.nextBound then s.ctl.nextBound % 2 ^ 64 else s.house :=
      (bhouse.trans ohouse).trans (hhouse.trans (s.advance_house_eq _))
    obtain ⟨hprev, hnext, hren, hearly, hkeep, hdue, hwait, hmeter, hlimited⟩ := s.plan_boundary m hon
    rw [exec_stepBoundary, execStepBoundary, act_true_of_todo (f := fun s => s.boundary m) (btodo.trans hs)]
    exact ⟨_, rfl, hnow, s.stepNo_boundary m hon, hprev, hnext, hren, hearly, hkeep, hdue, hwait, hmeter, hlimited, bbounds,
      bstretch, bmem⟩

end Sys2Proof.Machine
end

section
/-! PROOFS. The vector instructions that compute: each runs its engine's operation at the program's place and goes on. -/

namespace Sys2Proof.Machine

/-- Settles O22: every one of these instructions is `vpure` of its operation. -/
theorem vectorIntegers : Obligations.VectorIntegers := by
  unfold Obligations.VectorIntegers
  constructor
  · rintro s g e - hg rfl
    refine ⟨?_, ?_, ?_, ?_, ?_, ?_, ?_, ?_, ?_, ?_, ?_, ?_, ?_, ?_⟩
    all_goals exact fun x hx => act_vpure_of_issues _ hg hx
  · rintro s g e - hg rfl
    refine ⟨?_, ?_, ?_, ?_, ?_, ?_, ?_, ?_, ?_, ?_, ?_, ?_, ?_, ?_⟩
    all_goals exact fun x hx => act_vpure_of_issues _ hg hx

/-- Settles O23: every one of these instructions is `vpure` of its operation. -/
theorem vectorFloats : Obligations.VectorFloats := by
  unfold Obligations.VectorFloats
  constructor
  · rintro s g e - hg rfl
    refine ⟨?_, ?_, ?_, ?_, ?_, ?_, ?_, ?_, ?_, ?_, ?_, ?_⟩
    all_goals exact fun x hx => act_vpure_of_issues _ hg hx
  · rintro s g e - hg rfl
    refine ⟨?_, ?_, ?_, ?_, ?_, ?_, ?_, ?_, ?_, ?_, ?_, ?_, ?_, ?_, ?_⟩
    all_goals exact fun x hx => act_vpure_of_issues _ hg hx

end Sys2Proof.Machine
end

section
/-! PROOFS. The state after reset. -/

namespace Sys2Proof.Machine

/-- Settles O60: each listed part is read off `State.reset`; an entry or a register that it does not list has its
default. -/
theorem resetState : Obligations.ResetState := by
  unfold Obligations.ResetState
  have hdies : ∀ d, d < 4 → State.reset.dieUp d = true := by decide
  have hhalls : ∀ n, n < 8 → State.reset.ent (0x5200 + n) 1 = 2 := by decide
  have hdefault : ∀ i k, dictKey i k ∉ State.reset.od.map Prod.fst → State.reset.ent i k = dictDefault i k :=
    fun i k hk => tget_not_mem _ _ _ hk
  exact ⟨rfl, rfl, rfl, rfl, rfl, hdies, hhalls, by decide, hdefault, fun _ _ => rfl, fun _ => rfl, rfl, fun _ => rfl,
    fun _ => ⟨rfl, rfl⟩, fun _ _ => rfl, fun _ => rfl, rfl, rfl, rfl⟩

end Sys2Proof.Machine
end

section
/-! PROOFS. What a command answers whose effect owes no class action; fields of a work queue's registers. -/

namespace Sys2Proof.Machine

/-! ### Answers -/

/-- A command whose units exist and that changes nothing answers the state as it was. -/
theorem act_stays {ok : Bool} {f : State → State} {s : State} (hok : ok = true) (hf : f s = s) (hs : s.Settled) :
    act ok f s = .next s := act_of_quiet hok hf hs rfl

/-- A command whose units exist answers its effect, where that owes nothing and keeps the queue as the state did. -/
theorem act_keeps {ok : Bool} {f : State → State} {s t : State} (hok : ok = true) (hf : f s = t)
    (ht : t.todo = s.todo ∧ t.pending = s.pending) (hs : s.Settled) : act ok f s = .next t :=
  act_of_quiet hok hf (ht.1.trans hs) ht.2

/-- A command whose units exist answers its effect. -/
theorem act_gives_of {ok : Bool} {f : State → State} {s t : State} (hok : ok = true) (hf : f s = t) :
    act ok f s = s.gives t := by
  rw [hok, act_gives, hf]

/-- A command answers by its effect on the state alone. -/
theorem act_congr {ok : Bool} {f g : State → State} {s : State} (h : f s = g s) : act ok f s = act ok g s := by
  unfold act
  rw [h]

/-- What holds of a command's effect holds of its answer, where the effect owes nothing and keeps the queue. -/
theorem act_exists {ok : Bool} {f : State → State} {s : State} {P : State → Prop} (hok : ok = true)
    (htodo : (f s).todo = []) (hpending : (f s).pending = s.pending) (hP : P (f s)) :
    ∃ t, act ok f s = .next t ∧ P t :=
  ⟨f s, act_of_quiet hok rfl htodo hpending, hP⟩

/-! ### Parts of a field -/

/-- A part of a field that was written reads that part of the value. -/
theorem fld_putFld_of_le (x v : Nat) {hi lo hi' lo' : Nat} (hlo : lo ≤ lo') (hhi : hi' ≤ hi) (h : lo' ≤ hi') :
    fld (putFld x hi lo v) hi' lo' = fld v (hi' - lo) (lo' - lo) := by
  apply Nat.eq_of_testBit_eq
  intro i
  rw [testBit_fld, testBit_fld, testBit_putFld]
  by_cases hlt : i < hi' + 1 - lo'
  · have hin : lo ≤ lo' + i ∧ lo' + i ≤ hi := by omega
    have hpos : lo' + i - lo = lo' - lo + i := by omega
    have hlt' : i < hi' - lo + 1 - (lo' - lo) := by omega
    simp [hin, hpos, hlt, hlt']
  · have hge : ¬ i < hi' - lo + 1 - (lo' - lo) := by omega
    simp [hlt, hge]

theorem fld_zero (hi lo : Nat) : fld 0 hi lo = 0 := by
  simp [fld]

section
variable (s : State)

theorem State.regF_setRegF_of_le (pa v : Nat) {hi lo hi' lo' : Nat} (h : hi < 64) (hlo : lo ≤ lo') (hhi : hi' ≤ hi)
    (hle : lo' ≤ hi') : (s.setRegF pa hi lo v).regF pa hi' lo' = fld v (hi' - lo) (lo' - lo) := by
  rw [State.regF, State.regN_setRegF_same s pa lo v h, fld_putFld_of_le _ _ hlo hhi hle]

/-! ### Registers of a work queue -/

theorem State.qf_of_regs {s t : State} (h : t.regs = s.regs) (w q o hi lo : Nat) : t.qf w q o hi lo = s.qf w q o hi lo := by
  simp only [qf, regF, regN, reg, h]

theorem paQueue_ne_of_offset {o o' : Nat} (w q : Nat) (h : o ≠ o') : paQueue w q o ≠ paQueue w q o' := by
  unfold paQueue
  omega

theorem State.qf_setQf_of_offset (w q : Nat) {o o' : Nat} (hi lo v hi' lo' : Nat) (h : o' ≠ o) :
    (s.setQf w q o hi lo v).qf w q o' hi' lo' = s.qf w q o' hi' lo' :=
  s.regF_setRegF_ne _ _ _ _ _ (paQueue_ne_of_offset w q h)

theorem State.qf_setQf_same (w q o : Nat) {hi : Nat} (lo v : Nat) (h : hi < 64) :
    (s.setQf w q o hi lo v).qf w q o hi lo = v % 2 ^ (hi + 1 - lo) := s.regF_setRegF_same _ _ _ h

theorem State.qf_setQf_of_le (w q o v : Nat) {hi lo hi' lo' : Nat} (h : hi < 64) (hlo : lo ≤ lo') (hhi : hi' ≤ hi)
    (hle : lo' ≤ hi') : (s.setQf w q o hi lo v).qf w q o hi' lo' = fld v (hi' - lo) (lo' - lo) :=
  s.regF_setRegF_of_le _ _ h hlo hhi hle

theorem State.qf_setQf_of_disjoint (w q o v : Nat) {hi lo hi' lo' : Nat} (h : hi < 64) (hdis : hi < lo' ∨ hi' < lo) :
    (s.setQf w q o hi lo v).qf w q o hi' lo' = s.qf w q o hi' lo' :=
  s.regF_setRegF_of_disjoint _ _ h hdis

theorem State.reg_setQf_ne {pa : Nat} (w q o hi lo v : Nat) (h : pa ≠ paQueue w q o) :
    (s.setQf w q o hi lo v).reg pa = s.reg pa := s.reg_setRegF_ne _ _ _ h

@[simp] theorem State.qf_setWing (w' : Nat) (v : Wing) (w q o hi lo : Nat) :
    (s.setWing w' v).qf w q o hi lo = s.qf w q o hi lo := rfl

/-! ### A wing that a doorbell wakes -/

/-- A doorbell changes at most the power state of its wing. -/
theorem State.wakeWing_eq (w : Nat) : s.wakeWing w = s ∨ ∃ v, s.wakeWing w = s.setWing w v := by
  unfold wakeWing
  dsimp only
  split
  · exact .inr ⟨_, rfl⟩
  · exact .inl rfl

@[simp] theorem State.wakeWing_todo (w : Nat) : (s.wakeWing w).todo = s.todo := by
  obtain h | ⟨v, h⟩ := s.wakeWing_eq w <;> simp [h]

@[simp] theorem State.wakeWing_pending (w : Nat) : (s.wakeWing w).pending = s.pending := by
  obtain h | ⟨v, h⟩ := s.wakeWing_eq w <;> simp [h]

@[simp] theorem State.wakeWing_regs (w : Nat) : (s.wakeWing w).regs = s.regs := by
  obtain h | ⟨v, h⟩ := s.wakeWing_eq w <;> simp [h]

@[simp] theorem State.wakeWing_qon (w w' q : Nat) : (s.wakeWing w).qon w' q = s.qon w' q := by
  rw [qon, qf_of_regs (s.wakeWing_regs w), qon]

end

end Sys2Proof.Machine
end

section
/-! PROOFS. Doorbells and control writes of a work queue (R129 to R134, R156). -/

namespace Sys2Proof.Machine

section
variable {s : State} {w q : Nat}

/-! ### What a doorbell write does (R132 to R134) -/

theorem State.doorbell_of_off (size v n o hi lo : Nat) (hup : s.wingUp w = true) (hoff : s.qon w q = false) :
    s.doorbell w q size v n o hi lo = s.wakeWing w := by
  simp [doorbell, hup, hoff]

theorem State.doorbell_of_bad {size v n : Nat} (o hi lo : Nat) (hup : s.wingUp w = true) (hon : s.qon w q = true)
    (hbad : size ≠ 8 ∨ n ≤ v % 2 ^ 16) : s.doorbell w q size v n o hi lo = (s.wakeWing w).setQf w q 0x30 50 50 1 := by
  simp only [doorbell, hup, wakeWing_qon, hon, if_pos hbad]
  rfl

theorem State.doorbell_of_good {v n : Nat} (o hi lo : Nat) (hup : s.wingUp w = true) (hon : s.qon w q = true)
    (hgood : v % 2 ^ 16 < n) : s.doorbell w q 8 v n o hi lo = (s.wakeWing w).setQf w q o hi lo (v % 2 ^ 16) := by
  have hok : ¬ ((8 : Nat) ≠ 8 ∨ n ≤ v % 2 ^ 16) := by omega
  simp only [doorbell, hup, wakeWing_qon, hon, if_neg hok]
  rfl

/-! ### What the control bits do (R129 to R131, R156) -/

theorem State.resetQueue_of_busy (h : s.qon w q = true ∨ s.inflight w q ≠ 0) : s.resetQueue w q = s := by
  unfold resetQueue
  exact if_pos (by obtain h | h := h <;> simp [h])

/-- The registers of a queue after its reset. -/
def State.clearQueue (s : State) (w q : Nat) : State :=
  ((s.setQf w q 0x30 47 0 0).setQf w q 0x30 48 48 0).setQf w q 0x38 47 32 0

theorem State.resetQueue_of_idle (hup : s.wingUp w = true) (hoff : s.qon w q = false) (hidle : s.inflight w q = 0) :
    ∃ v, s.resetQueue w q = (s.clearQueue w q).setWing w v ∧ v.phase.contains q = false := by
  unfold resetQueue
  rw [if_neg (by simp [hup, hoff, hidle])]
  exact ⟨_, rfl, by simp⟩

theorem State.qf_clearQueue_index {hi lo : Nat} (hhi : hi ≤ 47) (hle : lo ≤ hi) : (s.clearQueue w q).qf w q 0x30 hi lo = 0 := by
  rw [clearQueue, qf_setQf_of_offset _ _ _ _ _ _ _ _ (by decide), qf_setQf_of_disjoint _ _ _ _ _ (by decide) (by omega),
    qf_setQf_of_le _ _ _ _ _ (by decide) (by omega) hhi hle, fld_zero]

theorem State.qhalted_clearQueue : (s.clearQueue w q).qhalted w q = false := by
  rw [qhalted, clearQueue, qf_setQf_of_offset _ _ _ _ _ _ _ _ (by decide), qf_setQf_same _ _ _ _ _ _ (by decide)]
  rfl

theorem State.qf_clearQueue_doorbell : (s.clearQueue w q).qf w q 0x38 47 32 = 0 := by
  rw [clearQueue, qf_setQf_same _ _ _ _ _ _ (by decide), Nat.zero_mod]

theorem State.reg_clearQueue_ne {pa : Nat} (h30 : pa ≠ paQueue w q 0x30) (h38 : pa ≠ paQueue w q 0x38) :
    (s.clearQueue w q).reg pa = s.reg pa := by
  rw [clearQueue, reg_setQf_ne _ _ _ _ _ _ _ h38, reg_setQf_ne _ _ _ _ _ _ _ h30, reg_setQf_ne _ _ _ _ _ _ _ h30]

theorem State.clearQueue_kept : (s.clearQueue w q).todo = s.todo ∧ (s.clearQueue w q).pending = s.pending ∧
    (s.clearQueue w q).mem = s.mem ∧ (s.clearQueue w q).od = s.od := by
  unfold clearQueue
  simp

theorem State.phaseOf_setWing {v : Wing} (h : v.phase.contains q = false) : (s.setWing w v).phaseOf w q = 1 := by
  have hw : (s.setWing w v).wing w = v := by rw [wing_setWing, if_pos rfl]
  rw [phaseOf, hw, h]
  rfl

theorem State.orderQueue_of_on (b : Bool) (hup : s.wingUp w = true) (hon : s.qon w q = true) :
    s.orderQueue w q b = s.setQf w q 0x10 18 18 (b2n b) := by
  have hon' : (s.setQf w q 0x10 18 18 (b2n b)).qon w q = true := by
    rw [← hon, qon, qf_setQf_of_offset _ _ _ _ _ _ _ _ (by decide), qon]
  simp [orderQueue, hup, hon']

theorem State.orderQueue_of_off (b : Bool) (hup : s.wingUp w = true) (hoff : s.qon w q = false) : ∃ v,
    s.orderQueue w q b = ((s.setQf w q 0x10 18 18 (b2n b)).setQf w q 0x30 49 49 (b2n b)).setWing w v := by
  have hoff' : (s.setQf w q 0x10 18 18 (b2n b)).qon w q = false := by
    rw [← hoff, qon, qf_setQf_of_offset _ _ _ _ _ _ _ _ (by decide), qon]
  exact ⟨_, by simp only [orderQueue, hup, hoff']; rfl⟩

end

theorem b2n_mod_two (b : Bool) : b2n b % 2 = b2n b := by
  cases b <;> rfl

/-- Settles O8: each write by the case of its queue that it meets. -/
theorem queueControl : Obligations.QueueControl := by
  unfold Obligations.QueueControl
  intro s w q hs hw hq hup
  have htodo : s.todo = [] := hs
  have hok : (decide (w < 32) && decide (q < 128)) = true := by simp [hw, hq]
  have hdb {n : Nat} (hn : sizeOk n = true) : (decide (w < 32) && decide (q < 128) && sizeOk n) = true := by simp [hok, hn]
  refine ⟨fun v hon hv => ?_, fun v hon hv => ?_, fun n v hn hon hv => ?_, fun n v hn hon hv => ?_, fun n v hn hoff => ⟨?_, ?_⟩,
    fun hoff hmay => ?_, fun hoff hmay => ?_, fun hon => ?_, ?_, ?_, fun hoff hidle => ?_, fun h => ?_, fun b hon => ?_,
    fun b hoff => ?_⟩
  · exact act_of_quiet (hdb rfl) (State.doorbell_of_good _ _ _ hup hon hv) (by simp [htodo]) (by simp)
  · exact act_of_quiet (hdb rfl) (State.doorbell_of_good _ _ _ hup hon hv) (by simp [htodo]) (by simp)
  · exact act_of_quiet (hdb hn) (State.doorbell_of_bad _ _ _ hup hon hv) (by simp [htodo]) (by simp)
  · exact act_of_quiet (hdb hn) (State.doorbell_of_bad _ _ _ hup hon hv) (by simp [htodo]) (by simp)
  · exact act_of_quiet (hdb hn) (State.doorbell_of_off _ _ _ _ _ _ hup hoff) (by simp [htodo]) (by simp)
  · exact act_of_quiet (hdb hn) (State.doorbell_of_off _ _ _ _ _ _ hup hoff) (by simp [htodo]) (by simp)
  · rw [exec_queueEnable, execQueueEnable]
    exact act_of_quiet hok (by simp [State.enableQueue, hup, hoff, hmay]) (by simp [htodo]) (by simp)
  · rw [exec_queueEnable, execQueueEnable]
    exact act_of_quiet hok (by simp [State.enableQueue, hup, hoff, hmay]) (by simp [htodo]) (by simp)
  · rw [exec_queueEnable, execQueueEnable]
    exact act_stays hok (by simp [State.enableQueue, hon]) hs
  · exact act_of_quiet hok (if_pos hup) (by simp [htodo]) (by simp)
  · exact act_of_quiet hok (if_pos hup) (by simp [htodo]) (by simp)
  · obtain ⟨v, hv, hphase⟩ := State.resetQueue_of_idle hup hoff hidle
    obtain ⟨ctodo, cpending, cmem, cod⟩ := s.clearQueue_kept (w := w) (q := q)
    rw [exec_queueReset, execQueueReset]
    refine act_exists hok (by rw [hv, State.setWing_todo, ctodo, htodo]) (by rw [hv, State.setWing_pending, cpending]) ?_
    rw [hv]
    refine ⟨?_, ?_, ?_, ?_, ?_, State.phaseOf_setWing hphase, ?_, ?_, fun pa h30 h38 => ?_⟩
    · rw [State.qf_setWing, State.qf_clearQueue_index (by decide) (by decide)]
    · rw [State.qf_setWing, State.qf_clearQueue_index (by decide) (by decide)]
    · rw [State.qf_setWing, State.qf_clearQueue_index (by decide) (by decide)]
    · rw [State.qhalted, State.qf_setWing, ← State.qhalted, State.qhalted_clearQueue]
    · rw [State.qf_setWing, State.qf_clearQueue_doorbell]
    · rw [State.setWing_mem, cmem]
    · rw [State.setWing_od, cod]
    · rw [State.setWing_reg, State.reg_clearQueue_ne h30 h38]
  · rw [exec_queueReset, execQueueReset]
    exact act_stays hok (State.resetQueue_of_busy h) hs
  · rw [exec_queueOrderWrite, execQueueOrderWrite]
    exact act_of_quiet hok (State.orderQueue_of_on b hup hon) (by simp [htodo]) (by simp)
  · obtain ⟨v, hv⟩ := State.orderQueue_of_off b hup hoff
    rw [exec_queueOrderWrite, execQueueOrderWrite]
    refine act_exists hok ?_ ?_ ?_
    · simp [hv, htodo]
    · simp [hv]
    · rw [hv]
      refine ⟨?_, ?_, by simp, by simp⟩
      · rw [State.qf_setWing, State.qf_setQf_of_offset _ _ _ _ _ _ _ _ (by decide), State.qf_setQf_same _ _ _ _ _ _ (by decide)]
        exact b2n_mod_two b
      · rw [State.qf_setWing, State.qf_setQf_same _ _ _ _ _ _ (by decide)]
        exact b2n_mod_two b

end Sys2Proof.Machine
end

section
/-! PROOFS. Mode epochs (R385 to R388). -/

namespace Sys2Proof.Machine

section
variable (s : State)

/-! ### Entries of a suite's epoch -/

@[simp] theorem State.ep_setEp (i k v j : Nat) : (s.setEp i k v).ep i j = if j = k then v else s.ep i j := by
  unfold ep setEp
  by_cases h : j = k
  · rw [if_pos h, h, State.ent_setEnt_same]
  · rw [if_neg h, State.ent_setEnt_ne]
    unfold dictKey
    omega

@[simp] theorem State.ep_setEpoch (i : Nat) (e : Epoch) (j k : Nat) : (s.setEpoch i e).ep j k = s.ep j k := rfl
@[simp] theorem State.setEp_todo (i k v : Nat) : (s.setEp i k v).todo = s.todo := rfl
@[simp] theorem State.setEp_pending (i k v : Nat) : (s.setEp i k v).pending = s.pending := rfl
@[simp] theorem State.setEp_mem (i k v : Nat) : (s.setEp i k v).mem = s.mem := rfl
@[simp] theorem State.setEp_regs (i k v : Nat) : (s.setEp i k v).regs = s.regs := rfl
@[simp] theorem State.setEp_house (i k v : Nat) : (s.setEp i k v).house = s.house := rfl
@[simp] theorem State.epoch_setEp (i k v j : Nat) : (s.setEp i k v).epoch j = s.epoch j := rfl

/-- The units of a suite follow from the power state, the layout and the dies' states. -/
theorem State.suiteUnits_congr {s t : State} (hporch : t.porch = s.porch)
    (hent : ∀ k, k < 256 → t.ent 0x1100 k = s.ent 0x1100 k) (i : Nat) : t.suiteUnits i = s.suiteUnits i := by
  have hlayout : t.layout = s.layout := hent 1 (by decide)
  have hup : ∀ d ∈ suiteDies s.layout i, t.dieUp d = s.dieUp d := fun d hd => by
    have hd4 : d < 4 := List.mem_range.1 (List.mem_filter.1 hd).1
    unfold dieUp on dieState
    rw [hporch, hent _ (by omega)]
  unfold suiteUnits
  rw [hlayout, List.filter_congr hup]

theorem State.suiteUnits_setEp {i k : Nat} (v j : Nat) (hi : i < 4) (hk : k < 256) :
    (s.setEp i k v).suiteUnits j = s.suiteUnits j :=
  State.suiteUnits_congr (s := s) (t := s.setEp i k v) rfl
    (fun l hl => s.ent_setEnt_ne _ _ _ _ _ (by unfold dictKey; omega)) j

theorem State.suiteUnits_setEpoch (i j : Nat) (e : Epoch) : (s.setEpoch i e).suiteUnits j = s.suiteUnits j := rfl

/-! ### What each write does -/

variable {i : Nat}

theorem State.stageEpoch_of_idle {e : Nat} (hi : i < suiteCount s.layout) (hidle : s.ep i 3 = 0)
    (he : e = (s.ep i 1 + 1) % 256) : ∃ p, (s.stageEpoch i e).2 =
      (((s.setEpoch i p).setEp i 2 e).setEp i 7 0).setEp i 3 (if (((s.setEpoch i p).setEp i 2 e).setEp i 7 0).suiteUnits i = [] then 2 else 1) ∧
      p.win = toSigned 32 (s.ent 0x8010 (i + 1)) ∧ p.head = s.ent 0x8011 (i + 1) ∧ p.acked = [] := by
  unfold stageEpoch
  rw [if_neg (by omega), if_neg (by simp [hidle]), if_neg (by simp [he])]
  exact ⟨_, rfl, rfl, rfl, rfl⟩

theorem State.stageEpoch_of_busy (e : Nat) (hi : i < suiteCount s.layout) (hbusy : s.ep i 3 ≠ 0) :
    s.stageEpoch i e = (.busy, s) := by
  unfold stageEpoch
  rw [if_neg (by omega), if_pos hbusy]

theorem State.stageEpoch_of_range {e : Nat} (hi : i < suiteCount s.layout) (hidle : s.ep i 3 = 0)
    (he : e ≠ (s.ep i 1 + 1) % 256) : s.stageEpoch i e = (.range, s) := by
  unfold stageEpoch
  rw [if_neg (by omega), if_neg (by simp [hidle]), if_pos he]

theorem State.ackEpoch_of_refused {u : Nat}
    (h : u ∉ s.suiteUnits i ∨ u ∈ (s.epoch i).acked ∨ s.ep i 3 = 0 ∨ s.ep i 3 = 2) : s.ackEpoch i u = s := by
  unfold ackEpoch
  refine if_pos ?_
  obtain h | h | h | h := h <;> simp [h]

/-- The state with unit `u`'s acknowledgement counted. -/
def State.countAck (s : State) (i u : Nat) : State :=
  (s.setEpoch i { s.epoch i with acked := u :: (s.epoch i).acked }).setEp i 7 ((s.epoch i).acked.length + 1)

theorem State.ackEpoch_of_staged {u : Nat} (hstate : s.ep i 3 = 1 ∨ s.ep i 3 = 3) (hunit : u ∈ s.suiteUnits i)
    (hnew : u ∉ (s.epoch i).acked) (hup : s.ent (0x5200 + unitDie u) 1 = 2) : s.ackEpoch i u =
      if (s.countAck i u).ep i 3 = 1 ∧ (((s.countAck i u).suiteUnits i).all fun x => (u :: (s.epoch i).acked).contains x) = true then
        (s.countAck i u).setEp i 3 2 else s.countAck i u := by
  unfold ackEpoch
  exact if_neg (by obtain h | h := hstate <;> simp [h, hunit, hnew, hup])

theorem State.commitEpoch_of_staged {v : Nat} (hi : i < suiteCount s.layout) (hstate : s.ep i 3 = 1 ∨ s.ep i 3 = 2)
    (hv : v % 256 = s.ep i 2) : s.commitEpoch i v = (.ok,
      (s.setEpoch i { s.epoch i with step := v / 256, earliest := s.house + 20000, applied := false, bounds := 0 }).setEp i 3 3) := by
  unfold commitEpoch
  exact if_neg (by obtain h | h := hstate <;> simp [h, hv, hi])

theorem State.commitEpoch_of_range {v : Nat} (h : s.ep i 3 ≠ 1 ∧ s.ep i 3 ≠ 2 ∨ v % 256 ≠ s.ep i 2) :
    s.commitEpoch i v = (.range, s) := by
  unfold commitEpoch
  refine if_pos (.inr ?_)
  obtain ⟨h1, h2⟩ | h := h
  · exact .inl (by simp [h1, h2])
  · exact .inr h

theorem State.cancelEpoch_of_staged {v : Nat} (hi : i < suiteCount s.layout) (hv : v ≠ 0)
    (hstate : s.ep i 3 = 1 ∨ s.ep i 3 = 2) : s.cancelEpoch i v = (.ok, (s.setEpoch i .reset).setEp i 3 0) := by
  unfold cancelEpoch
  rw [if_neg (by omega), if_neg (by omega), if_neg (by omega)]

theorem State.cancelEpoch_of_committed {v : Nat} (hi : i < suiteCount s.layout) (hv : v ≠ 0) (hstate : s.ep i 3 = 3) :
    s.cancelEpoch i v = (.busy, s) := by
  unfold cancelEpoch
  rw [if_neg (by omega), if_neg (by omega), if_pos hstate]

theorem State.cancelEpoch_of_none {v : Nat} (hi : i < suiteCount s.layout) (h : v = 0 ∨ s.ep i 3 = 0) :
    s.cancelEpoch i v = (.ok, s) := by
  unfold cancelEpoch
  rw [if_neg (by omega), if_pos h]

end

/-- Settles O53: each write by the state of its suite's epoch. -/
theorem modeEpochs : Obligations.ModeEpochs := by
  unfold Obligations.ModeEpochs
  intro s i hs hi hcount
  have htodo : s.todo = [] := hs
  have hok : decide (i < 4) = true := decide_eq_true hi
  refine ⟨fun e hidle he => ?_, fun e hbusy => ?_, fun e hidle he => ?_, fun u hu hstate hunit hnew hup => ?_, fun u hu h => ?_,
    fun v hstate hv => ?_, fun v h => ?_, fun v hv hstate => ?_, fun v hv hstate => ?_, ?_, fun v hidle => ?_⟩
  · obtain ⟨p, hp, hwin, hhead, hacked⟩ := s.stageEpoch_of_idle hcount hidle he
    rw [exec_stage, execStage]
    refine act_exists hok (by simp [hp, htodo]) (by simp [hp]) ?_
    rw [hp, State.suiteUnits_setEp _ _ _ hi (by decide), State.suiteUnits_setEp _ _ _ hi (by decide)]
    by_cases hnone : s.suiteUnits i = [] <;> simp [hwin, hhead, hacked, State.suiteUnits_setEpoch, hnone]
  · rw [exec_stage, execStage, s.stageEpoch_of_busy e hcount hbusy]
    exact ⟨act_stays hok (by rw [s.stageEpoch_of_busy e hcount hbusy]) hs, rfl⟩
  · rw [exec_stage, execStage, s.stageEpoch_of_range hcount hidle he]
    exact ⟨act_stays hok (by rw [s.stageEpoch_of_range hcount hidle he]) hs, rfl⟩
  · have hack := s.ackEpoch_of_staged hstate hunit hnew hup
    have hunits : (s.countAck i u).suiteUnits i = s.suiteUnits i := State.suiteUnits_setEp _ _ _ hi (by decide)
    have hkeep : (s.countAck i u).ep i 3 = s.ep i 3 := by simp [State.countAck]
    rw [hunits, hkeep] at hack
    rw [exec_epochAck, execEpochAck]
    refine act_exists (by simp [hi, hu]) ?_ ?_ ?_
    · rw [hack]; split <;> simp [State.countAck, htodo]
    · rw [hack]; split <;> simp [State.countAck]
    · rw [hack]; split <;> simp_all [State.countAck]
  · rw [exec_epochAck, execEpochAck]
    exact act_stays (by simp [hi, hu]) (s.ackEpoch_of_refused h) hs
  · rw [exec_commit, execCommit]
    refine act_exists hok ?_ ?_ ?_ <;> rw [s.commitEpoch_of_staged hcount hstate hv] <;> simp [htodo]
  · rw [exec_commit, execCommit, s.commitEpoch_of_range h]
    exact ⟨act_stays hok (by rw [s.commitEpoch_of_range h]) hs, rfl⟩
  · rw [exec_epochCancel, execEpochCancel]
    exact act_of_quiet hok (by rw [s.cancelEpoch_of_staged hcount hv hstate]) (by simp [htodo]) (by simp)
  · rw [exec_epochCancel, execEpochCancel, s.cancelEpoch_of_committed hcount hv hstate]
    exact ⟨act_stays hok (by rw [s.cancelEpoch_of_committed hcount hv hstate]) hs, rfl⟩
  · rw [exec_epochCancel, execEpochCancel, s.cancelEpoch_of_none hcount (.inl rfl)]
    exact ⟨act_stays hok (by rw [s.cancelEpoch_of_none hcount (.inl rfl)]) hs, rfl⟩
  · rw [exec_epochCancel, execEpochCancel, s.cancelEpoch_of_none hcount (.inr hidle)]
    exact ⟨act_stays hok (by rw [s.cancelEpoch_of_none hcount (.inr hidle)]) hs, rfl⟩

end Sys2Proof.Machine
end

section
/-! PROOFS. SPDM requests and field-protocol sessions (R403, R404). -/

namespace Sys2Proof.Machine

section
variable {s : State}

/-! ### The number of a new session -/

/-- With fewer than 17 sessions one of the numbers 1 to 17 is in no session. -/
theorem State.exists_free_session (h : s.mgmt.sessions.length < 17) :
    ∃ n ∈ (List.range 17).map (fun i => i + 1), (s.mgmt.sessions.any fun x => x.n = n) = false := by
  refine Classical.byContradiction fun hnone => ?_
  have hused : (List.range 17).map (fun i => i + 1) ⊆ s.mgmt.sessions.map fun x => x.n := fun n hn => by
    obtain ⟨x, hx, hxn⟩ := List.any_eq_true.1 (Bool.ne_false_iff.1 fun hfree => hnone ⟨n, hn, hfree⟩)
    exact List.mem_map.2 ⟨x, hx, of_decide_eq_true hxn⟩
  have hnodup : ((List.range 17).map fun i => i + 1).Nodup := by decide
  have hlen := hnodup.length_le_of_subset hused
  simp only [List.length_map, List.length_range] at hlen
  omega

/-- The number of a new session is from 1 to 17 and no session's. -/
theorem State.freeSession_spec (h : s.mgmt.sessions.length < 17) :
    1 ≤ s.freeSession ∧ s.freeSession ≤ 17 ∧ ∀ x ∈ s.mgmt.sessions, x.n ≠ s.freeSession := by
  obtain ⟨m, hm, hfree⟩ := State.exists_free_session h
  let p : Nat → Bool := fun n => !s.mgmt.sessions.any fun x => x.n = n
  have hp : p m = true := congrArg not hfree
  obtain ⟨n, hn⟩ := Option.isSome_iff_exists.1 (List.find?_isSome.2 ⟨m, hm, hp⟩)
  have hmem := List.mem_of_find?_eq_some hn
  have hnot := List.find?_some hn
  have hval : s.freeSession = n := congrArg (fun o => Option.getD o 1) hn
  simp only [p, List.mem_map, List.mem_range, Bool.not_eq_true', List.any_eq_false, decide_eq_true_eq] at hmem hnot
  obtain ⟨i, hi, rfl⟩ := hmem
  rw [hval]
  exact ⟨by omega, by omega, hnot⟩

/-! ### How a session opens, is finished and ends -/

theorem State.openSession_of_refused {path : Path} {key : Bytes} (e n : Bytes) (hup : s.firmware = true)
    (hpath : path ≠ .letterbox) (h : s.keyHeld key = false ∨ 16 ≤ s.mgmt.sessions.length) :
    s.openSession path key e n = s.emit (.sessionRefused path 7) := by
  unfold openSession
  rw [if_neg (by simp [hup, hpath]), if_pos (by obtain h | h := h <;> simp [h])]

/-- A session that is accepted is added at the end, not yet open. -/
theorem State.openSession_of_accepted {path : Path} {key : Bytes} (e n : Bytes) (hup : s.firmware = true)
    (hpath : path ≠ .letterbox) (hkey : s.keyHeld key = true) (hlen : s.mgmt.sessions.length < 16) : ∃ x o,
    s.openSession path key e n = (s.drawFree.setSessions (s.mgmt.sessions ++ [x])).emit o ∧
      x.n = s.freeSession ∧ x.peer = path ∧ x.peerKey = key ∧ x.secret = Config.x25519 s.free e ∧ x.open_ = false ∧
      x.last = s.house := by
  have hroom : ¬ 16 ≤ s.mgmt.sessions.length := by omega
  unfold openSession
  rw [if_neg (by simp [hup, hpath]), if_neg (by simp [hkey, hroom])]
  exact ⟨_, _, rfl, rfl, rfl, rfl, rfl, rfl, rfl⟩

theorem State.finishSession_of_good {n : Nat} {sig : Bytes} {x : Session}
    (hx : s.mgmt.sessions.find? (fun x => decide (x.n = n) && !x.open_) = some x)
    (hsig : Config.ed25519 x.peerKey x.script sig = true) : ∃ key, s.finishSession n sig =
      s.setSessions (s.mgmt.sessions.map fun (y : Session) =>
        if y.n = n then { y with script := x.script ++ sig, key := key, open_ := true, last := s.house } else y) := by
  unfold finishSession
  rw [hx]
  exact ⟨_, if_pos hsig⟩

theorem State.finishSession_of_bad {n : Nat} {sig : Bytes} {x : Session}
    (hx : s.mgmt.sessions.find? (fun x => decide (x.n = n) && !x.open_) = some x)
    (hsig : Config.ed25519 x.peerKey x.script sig = false) :
    s.finishSession n sig = (s.endSession x).emit (.sessionRefused x.peer 7) := by
  unfold finishSession
  rw [hx]
  exact if_neg (by simp [hsig])

theorem State.finishSession_of_none {n : Nat} (sig : Bytes) (h : ∀ x ∈ s.mgmt.sessions, x.n ≠ n) :
    s.finishSession n sig = s := by
  have hnone : s.mgmt.sessions.find? (fun x => decide (x.n = n) && !x.open_) = none := by
    simp only [List.find?_eq_none]
    intro x hx
    simp [h x hx]
  unfold finishSession
  rw [hnone]

theorem State.find_session_of_none {n : Nat} (h : ∀ x ∈ s.mgmt.sessions, x.n ≠ n) :
    s.mgmt.sessions.find? (fun x => decide (x.n = n)) = none := by
  simp only [List.find?_eq_none]
  intro x hx
  simp [h x hx]

theorem State.closeSession_of_some {n : Nat} {x : Session} (hx : s.mgmt.sessions.find? (fun x => decide (x.n = n)) = some x) :
    s.closeSession n = s.endSession x := by
  unfold closeSession
  rw [hx]

theorem State.closeSession_of_none {n : Nat} (h : ∀ x ∈ s.mgmt.sessions, x.n ≠ n) : s.closeSession n = s := by
  unfold closeSession
  rw [State.find_session_of_none h]

theorem State.lateSession_of_some {n : Nat} {x : Session} (hx : s.mgmt.sessions.find? (fun x => decide (x.n = n)) = some x) :
    s.lateSession n = (s.advance (x.last + 60000000000)).endSession x := by
  unfold lateSession
  rw [hx]

theorem State.lateSession_of_none {n : Nat} (h : ∀ x ∈ s.mgmt.sessions, x.n ≠ n) : s.lateSession n = s := by
  unfold lateSession
  rw [State.find_session_of_none h]

theorem State.endSession_kept (s : State) (x : Session) : (s.endSession x).todo = s.todo ∧
    (s.endSession x).pending = s.pending ∧ (s.endSession x).od = s.od := ⟨rfl, rfl, rfl⟩

/-- Nothing is kept for a session that has ended. -/
theorem State.endSession_forgets (s : State) (x : Session) : (∀ y ∈ (s.endSession x).mgmt.sessions, y.n ≠ x.n) ∧
    (∀ a ∈ (s.endSession x).mgmt.answers, a.sess ≠ x.n) ∧ (∀ e ∈ (s.endSession x).mgmt.segs, e.2.1 ≠ x.n) :=
  ⟨fun _ h => of_decide_eq_true (List.mem_filter.1 h).2, fun _ h => of_decide_eq_true (List.mem_filter.1 h).2,
    fun _ h => of_decide_eq_true (List.mem_filter.1 h).2⟩

end

/-- Settles O54: each request by the branch of `State.spdm` or the session that it meets. -/
theorem identitySessions : Obligations.IdentitySessions := by
  unfold Obligations.IdentitySessions
  intro s hs hup
  have htodo : s.todo = [] := hs
  have hspdm {t : State} {code p : BitVec 8} {b : Bytes} (ht : s.spdm code p.toNat b = t) (h : t.todo = s.todo)
      (hp : t.pending = s.pending) : exec (.spdmRequest code p b) s = .next t :=
    act_quiet (f := fun s => s.spdm code p.toNat b) ht (h.trans hs) hp
  refine ⟨fun p b => ?_, fun p b => ?_, fun p b hslot => ?_, fun p b hslot => ?_, fun p b hsig hall => ?_,
    fun path key e n hpath h => ?_, fun path key e n hpath hkey hlen => ?_, fun hlen => State.freeSession_spec (by omega),
    fun n sig x hx => ?_, fun n x hx => ⟨?_, ?_⟩, fun n sig hnone => ⟨?_, ?_, ?_⟩, fun x => ?_⟩
  · exact hspdm (by simp [State.spdm, hup]) rfl rfl
  · exact hspdm (by simp [State.spdm, hup]) rfl rfl
  · exact hspdm (by simp [State.spdm, hup, hslot]) rfl rfl
  · exact hspdm (by simp [State.spdm, hup, hslot]) rfl rfl
  · have hbit : bitOf p.toNat 0 = false := by simp [bitOf, hsig]
    exact hspdm (by simp [State.spdm, hup, State.spdmMeasure, hall, hbit]) rfl rfl
  · rw [exec_sessionOpen, execSessionOpen]
    exact act_of_quiet rfl (State.openSession_of_refused _ _ hup hpath h) (by simp [htodo]) (by simp)
  · obtain ⟨x, o, hopen, hx⟩ := State.openSession_of_accepted e n hup hpath hkey hlen
    obtain ⟨hn, hpeer, hpkey, hsecret, hclosed, hlast⟩ := hx
    rw [exec_sessionOpen, execSessionOpen]
    refine ⟨_, x, act_of_quiet rfl hopen (by simp [htodo]) (by simp), rfl, hn, hpeer, hpkey, hsecret, hclosed, hlast, rfl,
      rfl, rfl⟩
  · rw [exec_sessionFinish, execSessionFinish]
    cases hsig : Config.ed25519 x.peerKey x.script sig with
    | false =>
      have hbad := State.finishSession_of_bad hx hsig
      refine act_exists rfl ?_ ?_ ?_ <;> rw [if_pos hup, hbad]
      · simp [s.endSession_kept x, htodo]
      · simp [s.endSession_kept x]
      · exact ⟨fun _ => rfl, fun h => nomatch h⟩
    | true =>
      obtain ⟨key, hgood⟩ := State.finishSession_of_good hx hsig
      refine act_exists rfl ?_ ?_ ?_ <;> rw [if_pos hup, hgood]
      · exact hs
      · rfl
      · refine ⟨fun h => Bool.noConfusion h, fun _ => ⟨fun y hy hyn => ?_, List.length_map _, rfl⟩⟩
        obtain ⟨z, -, rfl⟩ := List.mem_map.1 hy
        by_cases hz : z.n = n
        · rw [if_pos hz]
          exact ⟨rfl, rfl, rfl⟩
        · rw [if_neg hz] at hyn
          exact absurd hyn hz
  · rw [exec_sessionClose, execSessionClose]
    exact act_of_quiet rfl ((if_pos hup).trans (State.closeSession_of_some hx)) (by simp [s.endSession_kept x, htodo])
      (by simp [s.endSession_kept x])
  · rw [exec_sessionTimeout, execSessionTimeout]
    exact act_of_quiet rfl ((if_pos hup).trans (State.lateSession_of_some hx)) (by simp [State.endSession_kept, htodo])
      (by simp [State.endSession_kept])
  · rw [exec_sessionFinish, execSessionFinish]
    exact act_stays rfl ((if_pos hup).trans (State.finishSession_of_none sig hnone)) hs
  · rw [exec_sessionClose, execSessionClose]
    exact act_stays rfl ((if_pos hup).trans (State.closeSession_of_none hnone)) hs
  · rw [exec_sessionTimeout, execSessionTimeout]
    exact act_stays rfl ((if_pos hup).trans (State.lateSession_of_none hnone)) hs
  · obtain ⟨hsessions, hanswers, hsegs⟩ := s.endSession_forgets x
    exact ⟨hsessions, hanswers, hsegs, rfl⟩

end Sys2Proof.Machine
end

section
/-! PROOFS. Test state, the test access port, interconnect tests and repairs (R225, R226, R429 to R436). -/

namespace Sys2Proof.Machine

/-! ### Work that waits -/

/-- With nothing that waits, nothing is tried again. -/
theorem State.rerun_of_none {s : State} (h : s.later = []) : s.rerun = s := by
  unfold rerun
  rw [h, each_nil]
  cases s
  cases h
  rfl

/-- A fold that acts on one member only is that member's step. -/
theorem each_eq_of_only {σ β : Type} {f : β → σ → σ} {l : List β} {x : β} {s : σ} (hx : x ∈ l)
    (hbefore : ∀ y ∈ l, y ≠ x → f y s = s) (hafter : ∀ y ∈ l, f y (f x s) = f x s) : each l f s = f x s := by
  have hstay {m : List β} {t : σ} (h : ∀ y ∈ m, f y t = t) : each m f t = t :=
    each_inv_of_mem (· = t) f (fun y hy u hu => by rw [hu, h y hy]) rfl
  induction l with
  | nil => exact absurd hx List.not_mem_nil
  | cons y l ih =>
    obtain ⟨hy, hl⟩ := List.forall_mem_cons.1 hafter
    obtain ⟨hby, hbl⟩ := List.forall_mem_cons.1 hbefore
    rw [each_cons]
    by_cases hyx : y = x
    · rw [hyx, hstay hl]
    · rw [hby hyx]
      exact ih ((List.mem_cons.1 hx).resolve_left (Ne.symm hyx)) hbl hl

section
variable {s : State}

/-! ### Test state (R430, R431) -/

theorem State.askTest_of_refused {path : Path} {n : Nat} (h : path = .letterbox ∨ s.inTest = true ∨ s.session path n = none) :
    (s.askTest path n).2 = s := by
  unfold askTest
  by_cases hdoor : path = .letterbox ∨ s.inTest = true
  · rw [if_pos hdoor]
  · have hnone : s.session path n = none := (or_assoc.2 h).resolve_left hdoor
    rw [if_neg hdoor, hnone]

theorem State.askTest_of_granted {path : Path} {n : Nat} {x : Session} (hpath : path ≠ .letterbox) (htest : s.inTest = false)
    (hx : s.session path n = some x) (hready : s.ent 0x1010 1 = 4) (hctx : s.liveCtxs = []) (htier : s.tierState = 0)
    (hjobs : ∀ i, i < 4 → s.ent 0x2100 (i + 1) = 0) : (s.askTest path n).2 =
      ((s.setEnt 0xA000 1 1).setBlob 0xA000 4 ((Config.sha512 x.peerKey).take 32)).raiseAll 0xA000 1 5 1 := by
  have hquiet : ¬ (s.liveCtxs ≠ [] ∨ s.tierState ≠ 0 ∨ ((List.range 4).any fun i => s.ent 0x2100 (i + 1) ≠ 0) = true) := by
    simpa [hctx, htier] using hjobs
  unfold askTest
  rw [if_neg (by simp [hpath, htest]), hx]
  dsimp only
  rw [if_neg (Classical.not_not.2 hready), if_neg hquiet]

/-! ### The test access port (R429, R432) -/

theorem State.tapSelect_of_open {code : Nat} {locked : Bool} (hpower : s.porch.power ≠ .off)
    (h : locked = false ∨ s.tapOpen = true) :
    s.tapSelect code locked = { s with porch := { s.porch with tap := BitVec.ofNat 8 code } } := by
  have hc : (if locked && !s.tapOpen then 0xFF else code) = code := by
    obtain h | h := h <;> simp [h]
  unfold tapSelect
  rw [if_neg hpower, hc]

theorem State.tapSelect_of_locked (code : Nat) (hpower : s.porch.power ≠ .off) (h : s.tapOpen = false) :
    s.tapSelect code true = { s with porch := { s.porch with tap := 0xFF#8 } } := by
  unfold tapSelect
  rw [if_neg hpower, h]
  rfl

/-! ### Interconnect tests (R433 to R435) -/

theorem State.startTest_of_refused (h : s.ent 0xA100 6 = 1 ∨ s.linkExists = false ∨ s.linkOut = false) : s.startTest.2 = s := by
  unfold startTest
  by_cases hbusy : s.ent 0xA100 6 = 1
  · rw [if_pos hbusy]
  · by_cases hex : s.linkExists = false
    · rw [if_neg hbusy, if_pos (by simp [hex])]
    · have hout : s.linkOut = false := (h.resolve_left hbusy).resolve_left hex
      rw [if_neg hbusy, if_neg (by simpa using hex), if_pos (by simp [hout])]

theorem State.startTest_of_idle (hidle : s.ent 0xA100 6 ≠ 1) (hex : s.linkExists = true) (hout : s.linkOut = true) :
    s.startTest.2 = if s.testLink.1 = 0 then (s.setEnt 0xA100 6 1).setHall s.testLink.2 3
      else if s.testLink.1 = 1 then
        (s.setEnt 0xA100 6 1).setStack s.testLink.2 { s.stack s.testLink.2 with undefined := true }
      else s.setEnt 0xA100 6 1 := by
  unfold startTest
  rw [if_neg hidle, if_neg (by simp [hex]), if_neg (by simp [hout])]
  rfl

/-- The error counts of the wires under test, as the result entry holds them. -/
def State.wireErrors (s : State) (errs : List Nat) : List Nat :=
  (List.range s.testWires).map fun i => min (2 ^ 32 - 1) (lget 0 errs i)

theorem State.endTest_of_running (errs : List Nat) (hon : s.on = true) (hrun : s.ent 0xA100 6 = 1) : s.endTest errs =
    (((s.setBlob 0xA100 7 ((s.wireErrors errs).flatMap fun e => toBytes 4 e)).setEnt 0xA100 8
      ((s.wireErrors errs).filter fun e => s.wireFails e).length).setEnt 0xA100 6
      (if ((s.wireErrors errs).filter fun e => s.wireFails e).length = 0 then 2 else 3)) := by
  unfold endTest
  exact if_neg (by simp [hon, hrun])

/-- Without error counts every wire has none. -/
theorem State.wireErrors_nil (s : State) : s.wireErrors [] = List.replicate s.testWires 0 := by
  simp [wireErrors, lget, List.map_const']

theorem flatMap_toBytes_zero (n : Nat) :
    ((List.replicate n 0).flatMap fun e => toBytes 4 e) = List.replicate (4 * n) 0#8 := by
  induction n with
  | zero => rfl
  | succ n ih =>
    rw [List.replicate_succ, List.flatMap_cons, ih, Nat.mul_succ, Nat.add_comm, ← List.replicate_append_replicate]
    rfl

/-- No wire fails iff none of the counts does. -/
theorem State.failing_wires_eq_zero (errs : List Nat) : ((s.wireErrors errs).filter fun e => s.wireFails e).length = 0 ↔
    ∀ i, i < s.testWires → s.wireFails (min (2 ^ 32 - 1) (lget 0 errs i)) = false := by
  simp [wireErrors, List.length_eq_zero_iff, List.filter_eq_nil_iff]

/-! ### Stack repair (R225, R226, R436) -/

theorem State.startRepair_of_full {action : Nat} (hidle : s.ent 0xA300 9 ≠ 1) (ha : action ≠ 0)
    (hup : s.stackUp s.repairStack = true) (hfull : repairCount action ≤ s.repairsUsed action) :
    (s.startRepair action).2 = s.setEnt 0xA300 9 2 := by
  unfold startRepair
  rw [if_neg hidle, if_neg ha, if_neg (by simp [hup]), if_pos hfull]

theorem State.startRepair_of_room {action : Nat} (hidle : s.ent 0xA300 9 ≠ 1) (ha : action ≠ 0)
    (hup : s.stackUp s.repairStack = true) (hroom : s.repairsUsed action < repairCount action) :
    (s.startRepair action).2 = (s.setStack s.repairStack { s.stack s.repairStack with
      bankHold := some s.repairBank,
      repairing := some (action, if action = 2 then s.ent 0xA300 7 else s.ent 0xA300 5) }).setEnt 0xA300 9 1 := by
  unfold startRepair
  rw [if_neg hidle, if_neg ha, if_neg (by simp [hup]), if_neg (Nat.not_le.2 hroom)]

theorem State.startRepair_map (hidle : s.ent 0xA300 9 ≠ 1) :
    (s.startRepair 0).2 = (s.setEnt 0xA300 10 s.repairLeft).setEnt 0xA300 9 0 := by
  unfold startRepair
  rw [if_neg hidle, if_pos rfl]

theorem State.endRepair_of_none {j : Nat} (ok : Bool) (h : (s.stack j).bankHold = none) : s.endRepair j ok = s := by
  unfold endRepair
  dsimp only
  rw [h]

/-- A stack after its repair `x` of `bank` has ended, well or not. -/
def Stack.repaired (t : Stack) (bank : Nat) (x : Nat × Nat) (ok : Bool) : Stack :=
  { t with bankHold := none, repairing := none, repairs := if ok then t.repairs ++ [(bank, x.1, x.2)] else t.repairs }

/-- A word that a repair replaces holds a value that is left open. -/
def State.refillWord (pa : Nat) (s : State) : State :=
  s.drawFree.drawFree.storeWord pa (BitVec.ofNat 128 s.freeVal) (BitVec.ofNat 16 s.drawFree.freeVal)

/-- A repair that ends leaves the state of its stack, the words that it replaces, and its status. -/
theorem State.endRepair_of_some {j bank : Nat} {x : Nat × Nat} (ok : Bool) (hbank : (s.stack j).bankHold = some bank)
    (hx : (s.stack j).repairing = some x) : ∃ words : List Nat, s.endRepair j ok =
      (each (if ok then words else []) refillWord (s.setStack j ((s.stack j).repaired bank x ok))).setEnt 0xA300 9
            (if ok then 0 else 3) := by
  unfold endRepair
  dsimp only
  rw [hbank, hx]
  refine ⟨repairWords j bank x.1 x.2, ?_⟩
  cases ok <;> rfl

/-- The stacks after the repair of stack `j` has ended. -/
theorem State.endRepair_kept {j bank : Nat} {x : Nat × Nat} (ok : Bool) (hbank : (s.stack j).bankHold = some bank)
    (hx : (s.stack j).repairing = some x) :
    (s.endRepair j ok).todo = s.todo ∧ (s.endRepair j ok).pending = s.pending ∧ (s.endRepair j ok).later = s.later ∧
    (∀ k, (s.endRepair j ok).stack k = if k = j then (s.stack j).repaired bank x ok else s.stack k) ∧
    (s.endRepair j ok).ent 0xA300 9 = (if ok then 0 else 3) ∧
    (ok = false → (s.endRepair j ok).mem = s.mem ∧ (s.endRepair j ok).code = s.code) := by
  obtain ⟨words, hend⟩ := State.endRepair_of_some ok hbank hx
  rw [hend]
  have hkeep {γ : Type} (P : State → γ) (h : ∀ pa t, P (refillWord pa t) = P t) :
      P (each (if ok then words else []) refillWord (s.setStack j ((s.stack j).repaired bank x ok))) =
        P (s.setStack j ((s.stack j).repaired bank x ok)) := each_keeps P refillWord h _ _
  refine ⟨hkeep State.todo fun _ _ => rfl, hkeep State.pending fun _ _ => rfl, hkeep State.later fun _ _ => rfl, fun k => ?_,
    State.ent_setEnt_same _ _ _ _, fun hok => ?_⟩
  · exact (hkeep (fun t => t.stack k) fun _ _ => rfl).trans (s.stack_setStack _ _ _)
  · rw [hok]
    exact ⟨rfl, rfl⟩

/-- With one repair in progress its end is all that the end of repairs does. -/
theorem State.endRepairs_of_one {j bank : Nat} {x : Nat × Nat} (ok : Bool) (hj : j < 12)
    (hothers : ∀ k, k < 12 → k ≠ j → (s.stack k).bankHold = none) (hbank : (s.stack j).bankHold = some bank)
    (hx : (s.stack j).repairing = some x) : each (List.range 12) (fun j s => s.endRepair j ok) s = s.endRepair j ok := by
  obtain ⟨-, -, -, hstack, -, -⟩ := State.endRepair_kept ok hbank hx
  refine each_eq_of_only (f := fun j s => State.endRepair s j ok) (List.mem_range.2 hj) (fun k hk hkj => ?_) (fun k hk => ?_)
  · exact State.endRepair_of_none ok (hothers k (List.mem_range.1 hk) hkj)
  · refine State.endRepair_of_none ok ?_
    rw [hstack]
    by_cases hkj : k = j
    · rw [if_pos hkj]
      rfl
    · rw [if_neg hkj, hothers k (List.mem_range.1 hk) hkj]

theorem State.endRepairs_of_none (ok : Bool) (h : ∀ k, k < 12 → (s.stack k).bankHold = none) :
    each (List.range 12) (fun j s => s.endRepair j ok) s = s :=
  each_inv_of_mem (· = s) _ (fun k hk t ht => by rw [ht, State.endRepair_of_none ok (h k (List.mem_range.1 hk))]) rfl

end

/-- Settles O39: requests for test state, the access port's instructions, tests and repairs, each by the case that it
meets. -/
theorem packageTest : Obligations.PackageTest := by
  unfold Obligations.PackageTest
  constructor
  · intro s hs
    have htodo : s.todo = [] := hs
    refine ⟨fun path n x hup hpath htest hx hready hctx htier hjobs => ?_, fun path n hup h => ?_,
      fun hpower => ⟨?_, ?_, ?_, ?_⟩, fun hpower hlocked => ?_, fun hpower hopen => ?_, fun v hpower hopen => ?_⟩
    · rw [exec_testStateRequest, execTestStateRequest]
      exact act_gives_of rfl ((if_pos hup).trans (State.askTest_of_granted hpath htest hx hready hctx htier hjobs))
    · rw [exec_testStateRequest, execTestStateRequest]
      exact act_stays rfl ((if_pos hup).trans (State.askTest_of_refused h)) hs
    · exact act_of_quiet rfl (State.tapSelect_of_open hpower (.inl rfl)) hs rfl
    · exact act_of_quiet rfl (State.tapSelect_of_open hpower (.inl rfl)) hs rfl
    · rw [exec_tapIdcode, execTapIdcode]
      exact act_of_quiet rfl ((if_neg hpower).trans (by rw [State.tapSelect_of_open hpower (.inl rfl)])) hs rfl
    · rw [exec_tapSample, execTapSample]
      exact act_of_quiet rfl ((if_neg hpower).trans (by rw [State.tapSelect_of_open hpower (.inl rfl)]; rfl)) hs rfl
    · have hsel (code : Nat) : act true (fun s => s.tapSelect code true) s =
          .next { s with porch := { s.porch with tap := 0xFF#8 } } :=
        act_of_quiet (f := fun s => State.tapSelect s code true) rfl (State.tapSelect_of_locked code hpower hlocked) hs rfl
      simp only [List.forall_mem_cons]
      refine ⟨hsel _, hsel _, hsel _, hsel _, hsel _, ?_, fun _ h => absurd h List.not_mem_nil⟩
      rw [exec_tapDiesel, execTapDiesel]
      refine act_of_quiet rfl ?_ hs rfl
      rw [State.tapSelect_of_locked 0x10 hpower hlocked]
      exact if_neg (by simp)
    · have hsel (code : Nat) : act true (fun s => s.tapSelect code true) s =
          .next { s with porch := { s.porch with tap := BitVec.ofNat 8 code } } :=
        act_of_quiet (f := fun s => State.tapSelect s code true) rfl (State.tapSelect_of_open hpower (.inr hopen)) hs rfl
      simp only [List.forall_mem_cons]
      exact ⟨hsel _, hsel _, hsel _, hsel _, hsel _, fun _ h => absurd h List.not_mem_nil⟩
    · rw [exec_tapDiesel, execTapDiesel]
      refine act_of_quiet rfl ?_ hs rfl
      rw [State.tapSelect_of_open hpower (.inr hopen)]
      exact if_pos ⟨rfl, hpower, hopen⟩
  · intro s hs
    have htodo : s.todo = [] := hs
    have hgo {t : State} (hup : s.firmware = true) (htest : s.inTest = true) (ht : s.startTest.2 = t)
        (h : t.todo = []) (hp : t.pending = s.pending) : exec .interconnectTestGo s = .next t := by
      rw [exec_interconnectTestGo, execInterconnectTestGo]
      exact act_of_quiet rfl ((if_pos (by rw [hup, htest]; rfl)).trans ht) h hp
    have hrepair {a : Nat} {t : State} (hup : s.firmware = true) (htest : s.inTest = true) (ht : (s.startRepair a).2 = t)
        (h : t.todo = []) (hp : t.pending = s.pending) : act true (fun s => s.repair a) s = .next t :=
      act_of_quiet (f := fun s => s.repair a) rfl ((if_pos (by rw [hup, htest]; rfl)).trans ht) h hp
    refine ⟨fun hup htest hidle hex hout hkind => ?_, fun hup htest hidle hex hout hkind => ?_, fun hup htest h => ?_,
      fun hon hrun hkind => ?_, fun l hon hrun => ?_, fun hup htest hidle => ?_, fun hup htest hidle hstack => ?_,
      fun j bank x ok hj hothers hbank hx hlater => ?_, fun hnone ok => ?_, fun htest => ?_⟩
    · exact hgo hup htest ((State.startTest_of_idle hidle hex hout).trans (if_pos hkind)) hs rfl
    · exact hgo hup htest ((State.startTest_of_idle hidle hex hout).trans
        ((if_neg (by rw [hkind]; decide)).trans (if_pos hkind))) hs rfl
    · exact hgo hup htest (State.startTest_of_refused h) hs rfl
    · have hpass : ((s.wireErrors []).filter fun e => s.wireFails e).length = 0 :=
        (State.failing_wires_eq_zero []).2 fun i _ => by simp [State.wireFails, hkind, lget]
      rw [exec_interconnectTestDone, execInterconnectTestDone]
      refine act_of_quiet rfl ?_ hs rfl
      rw [State.endTest_of_running [] hon hrun, hpass, s.wireErrors_nil, flatMap_toBytes_zero]
      rfl
    · rw [exec_interconnectTestDone, execInterconnectTestDone]
      have hend := State.endTest_of_running l hon hrun
      refine act_exists rfl ?_ ?_ ?_
      · rw [hend]
        exact hs
      · rw [hend]
        rfl
      · rw [hend, State.ent_setEnt_same, ← State.failing_wires_eq_zero]
        split <;> simp_all
    · exact hrepair hup htest (State.startRepair_map hidle) hs rfl
    · have hgoes {a n k : Nat} (ha : a ≠ 0) (hn : repairCount a = n)
          (hk : (if a = 2 then s.ent 0xA300 7 else s.ent 0xA300 5) = s.ent 0xA300 k) :
          (s.repairsUsed a < n → act true (fun s => s.repair a) s = .next
            ((s.setStack s.repairStack { s.stack s.repairStack with
              bankHold := some s.repairBank, repairing := some (a, s.ent 0xA300 k) }).setEnt 0xA300 9 1)) ∧
          (n ≤ s.repairsUsed a → act true (fun s => s.repair a) s = .next (s.setEnt 0xA300 9 2)) := by
        subst hn
        rw [← hk]
        exact ⟨fun h => hrepair hup htest (State.startRepair_of_room hidle ha hstack h) hs rfl,
          fun h => hrepair hup htest (State.startRepair_of_full hidle ha hstack h) hs rfl⟩
      simp only [List.forall_mem_cons]
      exact ⟨hgoes (by decide) rfl rfl, hgoes (by decide) rfl rfl, hgoes (by decide) rfl rfl, hgoes (by decide) rfl rfl,
        fun _ h => absurd h List.not_mem_nil⟩
    · obtain ⟨etodo, epending, elater, estack, eent, emem⟩ := State.endRepair_kept ok hbank hx
      have hend : (each (List.range 12) (fun j s => s.endRepair j ok) s).rerun = s.endRepair j ok := by
        rw [State.endRepairs_of_one ok hj hothers hbank hx, State.rerun_of_none (elater.trans hlater)]
      rw [exec_repairDone, execRepairDone]
      refine act_exists rfl ?_ ?_ ?_ <;> rw [hend]
      · exact etodo.trans hs
      · exact epending
      · rw [estack j, if_pos rfl]
        exact ⟨rfl, rfl, eent, rfl, emem⟩
    · rw [exec_repairDone, execRepairDone]
      exact act_gives_of rfl (by rw [State.endRepairs_of_none ok hnone])
    · have hidle (a : Nat) : act true (fun s => s.repair a) s = .next s :=
        act_stays (f := fun s => s.repair a) rfl (if_neg (by simp [htest])) hs
      simp only [List.forall_mem_cons]
      refine ⟨hidle 0, hidle 1, hidle 2, hidle 3, hidle 4, ?_, fun _ h => absurd h List.not_mem_nil⟩
      rw [exec_interconnectTestGo, execInterconnectTestGo]
      exact act_stays rfl (if_neg (by simp [htest])) hs

end Sys2Proof.Machine
end

section
/-! PROOFS. Hatch control, descriptors and completions (R287 to R290). -/

namespace Sys2Proof.Machine

section
variable (s : State)

/-! ### A unit that no longer waits for a tile -/

/-- What neither counts nor the tier's state hold, a waiter that is dropped leaves. -/
theorem State.dropWaiter_keeps {γ : Type} (P : State → γ) (key : Nat) (hcount : ∀ t i k n, P (State.incEnt t i k n) = P t)
    (htier : ∀ (t : State) (v : Tier), P { t with tier := v } = P t) : P (s.dropWaiter key) = P s := by
  unfold dropWaiter
  dsimp only
  rw [htier, each_keeps P _ fun e t => hcount t _ _ _]

@[simp] theorem State.dropWaiter_todo (key : Nat) : (s.dropWaiter key).todo = s.todo :=
  s.dropWaiter_keeps State.todo key State.incEnt_todo fun _ _ => rfl
@[simp] theorem State.dropWaiter_pending (key : Nat) : (s.dropWaiter key).pending = s.pending :=
  s.dropWaiter_keeps State.pending key State.incEnt_pending fun _ _ => rfl
@[simp] theorem State.dropWaiter_regs (key : Nat) : (s.dropWaiter key).regs = s.regs :=
  s.dropWaiter_keeps State.regs key State.incEnt_regs fun _ _ => rfl
@[simp] theorem State.dropWaiter_mem (key : Nat) : (s.dropWaiter key).mem = s.mem :=
  s.dropWaiter_keeps State.mem key State.incEnt_mem fun _ _ => rfl
@[simp] theorem State.dropWaiter_hatches (key : Nat) : (s.dropWaiter key).hatches = s.hatches :=
  s.dropWaiter_keeps State.hatches key State.incEnt_hatches fun _ _ => rfl

theorem State.hatch_setHatch (h : Nat) (v : List HatchRun) : (s.setHatch h v).hatch h = v :=
  (tget_tput ([] : List HatchRun) v s.hatches h h).trans (if_pos rfl)

end

section
variable {s : State} {h : Nat}

/-! ### The control registers of a Hatch (R287) -/

theorem State.enableHatch_of_good (hon : s.on = true) (hoff : s.hatchOn h = false) (hlo : 6 ≤ s.hf h 0x08 4 0)
    (hhi : s.hf h 0x08 4 0 ≤ 16) (hfirst : regionOf (s.hf h 0x00 55 6 * 64) = .host)
    (hlast : regionOf (s.hf h 0x00 55 6 * 64 + 64 * 2 ^ s.hf h 0x08 4 0 - 1) = .host) :
    s.enableHatch h = s.setRegF (paHatch h 0x20) 0 0 1 := by
  unfold enableHatch
  rw [if_neg (by simp [hon, hoff])]
  exact if_pos ⟨hlo, hhi, hfirst, hlast⟩

theorem State.enableHatch_of_bad (hon : s.on = true) (hoff : s.hatchOn h = false)
    (hbad : s.hf h 0x08 4 0 < 6 ∨ 16 < s.hf h 0x08 4 0 ∨ regionOf (s.hf h 0x00 55 6 * 64) ≠ .host) :
    s.enableHatch h = s.setRegF (paHatch h 0x28) 34 34 1 := by
  unfold enableHatch
  rw [if_neg (by simp [hon, hoff])]
  refine if_neg fun ⟨hlo, hhi, hfirst, _⟩ => ?_
  obtain hb | hb | hb := hbad
  · omega
  · omega
  · exact hb hfirst

theorem State.disableHatch_of_on (hon : s.hatchOn h = true) : s.disableHatch h =
    ((s.setRegF (paHatch h 0x20) 0 0 0).setHatch h ((s.hatch h).map fun r => if r.done then r else r.ends 1)).dropWaiter
      (hatchKey h) := by
  unfold disableHatch
  exact if_neg (by simp [hon])

/-- A Hatch that is disabled is not enabled, and each of its descriptors has ended. -/
theorem State.disableHatch_kept (hon : s.hatchOn h = true) : (s.disableHatch h).todo = s.todo ∧
    (s.disableHatch h).pending = s.pending ∧ (s.disableHatch h).hatchOn h = false ∧
    (∀ r ∈ (s.disableHatch h).hatch h, r.done = true) ∧ (s.disableHatch h).mem = s.mem := by
  have hregs : (s.disableHatch h).regs = (s.setRegF (paHatch h 0x20) 0 0 0).regs := by
    simp [State.disableHatch_of_on hon]
  have hhatch : (s.disableHatch h).hatch h = (s.hatch h).map fun r => if r.done then r else r.ends 1 := by
    rw [State.disableHatch_of_on hon, hatch, dropWaiter_hatches]
    exact State.hatch_setHatch _ _ _
  have hen : (s.disableHatch h).hf h 0x20 0 0 = 0 := by
    have hread : (s.disableHatch h).hf h 0x20 0 0 = (s.setRegF (paHatch h 0x20) 0 0 0).hf h 0x20 0 0 := by
      simp only [hf, regF, regN, reg, hregs]
    exact hread.trans (s.regF_setRegF_same (paHatch h 0x20) 0 0 (by decide))
  refine ⟨by simp [State.disableHatch_of_on hon], by simp [State.disableHatch_of_on hon], by simp [hatchOn, hen], fun r hr => ?_,
    by simp [State.disableHatch_of_on hon]⟩
  rw [hhatch] at hr
  obtain ⟨x, -, rfl⟩ := List.mem_map.1 hr
  by_cases hx : x.done = true
  · rw [if_pos hx, hx]
  · rw [if_neg hx]
    rfl

/-! ### Descriptors (R288, R289) -/

theorem State.hatchFetch_of_held (op : Nat) (hidle : s.hatchFetches h = false) : s.hatchFetch h op = s := by
  unfold hatchFetch
  exact if_pos (by simp [hidle])

theorem State.hatchGo_of_oldest {op : Nat} {r : HatchRun} (hon : s.on = true) (hr : s.hatchOldest h = some r)
    (hop : r.op = op) : s.hatchGo h op = s.hatchMove h (r.dlen / 65536 + 2) := by
  unfold hatchGo
  rw [if_neg (by simp [hon]), hr]
  exact if_pos hop

theorem State.hatchGo_of_idle (op : Nat) (hr : s.hatchOldest h = none) (hidle : s.hatchFetches h = false) :
    s.hatchGo h op = s := by
  unfold hatchGo
  split
  · rfl
  · rw [hr]
    dsimp only
    rw [State.hatchFetch_of_held op hidle, hr]

theorem State.hatchMove_of_range {r : HatchRun} (hr : s.hatchOldest h = some r) (hmore : r.blocks * 65536 < r.dlen)
    (hside : (s.hatchSide h (r.wd 1 + r.blocks * 65536 * r.ratio) (min 65536 (r.dlen - r.blocks * 65536) * r.ratio) false).1 = .range)
    (n : Nat) : s.hatchMove h (n + 1) = (s.hatchSide h (r.wd 1 + r.blocks * 65536 * r.ratio)
        (min 65536 (r.dlen - r.blocks * 65536) * r.ratio) false).2.putOldest h (r.ends 3) := by
  unfold hatchMove
  rw [hr]
  dsimp only
  rw [if_neg (Nat.not_le.2 hmore), hside]

/-! ### Completions (R289, R290) -/

theorem State.hatchComplete_of_waiting {r : HatchRun} {rest : List HatchRun} (hr : s.hatch h = r :: rest)
    (hwait : r.done = false ∨ s.wordHeld r = true) : s.hatchComplete h = s := by
  unfold hatchComplete
  split
  · rfl
  · rw [hr]
    exact if_pos (by obtain hw | hw := hwait <;> simp [hw])

/-- A descriptor that ended well, with no signal and no interrupt, leaves its completion word. -/
theorem State.hatchComplete_of_good {r : HatchRun} {rest : List HatchRun} (hon : s.on = true) (hr : s.hatch h = r :: rest)
    (hdone : r.done = true) (hheld : s.wordHeld r = false) (hstatus : r.status = 0#4) (hsignal : bitOf (r.wd 0) 30 = false)
    (hirq : bitOf (r.wd 0) 8 = false) : s.hatchComplete h = (s.storeWords (hatchWho h 1) (r.slot + 48)
      [(BitVec.ofNat 128 (r.blocks * 2 ^ 32 + 128 + s.house * 2 ^ 64), false)] none).setHatch h rest := by
  unfold hatchComplete
  rw [if_neg (by simp [hon]), hr]
  simp [hdone, hheld, hstatus, hsignal, hirq]

end

/-- Settles O37: control writes by the Hatch's enable, descriptors by the oldest one, completions by their checks. -/
theorem hatches : Obligations.Hatches := by
  unfold Obligations.Hatches
  constructor
  · intro s h hs hh hon
    have hok : decide (h < 16) = true := decide_eq_true hh
    refine ⟨fun lg a hoff hlg ha hlo hhi hfirst hlast => ?_, fun hoff hbad => ?_, fun hen => ?_, fun hen => ?_,
      fun hoff hempty => ?_, fun hoff hbusy => ?_, ?_, fun v hv => ?_, fun v hv => ?_⟩
    · subst hlg ha
      rw [exec_hatchEnable, execHatchEnable]
      exact act_keeps hok (State.enableHatch_of_good hon hoff hlo hhi hfirst hlast) (by simp) hs
    · rw [exec_hatchEnable, execHatchEnable]
      exact act_keeps hok (State.enableHatch_of_bad hon hoff hbad) (by simp) hs
    · rw [exec_hatchEnable, execHatchEnable]
      exact act_stays hok (if_pos (by simp [hen])) hs
    · obtain ⟨dtodo, dpending, doff, ddone, dmem⟩ := State.disableHatch_kept hen
      rw [exec_hatchDisable, execHatchDisable]
      exact act_exists hok (dtodo.trans hs) dpending ⟨doff, ddone, dmem⟩
    · rw [exec_hatchReset, execHatchReset]
      exact act_keeps hok (if_neg (by simp [hon, hoff, hempty])) (by simp) hs
    · rw [exec_hatchReset, execHatchReset]
      exact act_stays hok (if_pos (by simp [hbusy])) hs
    · rw [exec_hatchResume, execHatchResume]
      exact act_keeps hok (if_pos hon) (by simp) hs
    · rw [exec_hatchDoorbell, execHatchDoorbell]
      exact act_keeps hok (if_neg (by simp [hon, hv])) (by simp) hs
    · rw [exec_hatchDoorbell, execHatchDoorbell]
      exact act_stays hok (if_pos (by simp [hv])) hs
  · intro s h hs hh hon
    have hok : decide (h < 16) = true := decide_eq_true hh
    refine ⟨fun bs b s' r hfetch hheld hr => ?_, fun r hr hop => ?_, fun r hr hop => ?_, fun hr hidle => ⟨?_, ?_⟩,
      fun r hr hside hmore n => State.hatchMove_of_range hr hmore hside n,
      fun r rest hr hdone hheld hstatus hsignal hirq => ?_, fun r rest hr hwait => ?_⟩
    · obtain ⟨hop, hbytes, rfl⟩ := hr
      have hread : ¬ (!s.hatchFetches h || s.accessHeld 4 ((s.hf h 0x00 55 6 * 64 + 64 * s.hf h 0x28 15 0) / 64) false) = true := by
        simp [hfetch, hheld]
      rw [exec_hatchNop, execHatchNop]
      refine act_gives_of hok ?_
      unfold State.hatchFetch
      dsimp only
      rw [if_neg hread, hop, hbytes]
      rfl
    · rw [exec_hatchCopy, execHatchCopy]
      exact act_gives_of hok (State.hatchGo_of_oldest hon hr hop)
    · rw [exec_hatchReduce, execHatchReduce]
      exact act_gives_of hok (State.hatchGo_of_oldest hon hr hop)
    · rw [exec_hatchCopy, execHatchCopy]
      exact act_stays hok (State.hatchGo_of_idle 1 hr hidle) hs
    · rw [exec_hatchReduce, execHatchReduce]
      exact act_stays hok (State.hatchGo_of_idle 2 hr hidle) hs
    · rw [exec_hatchCompletion, execHatchCompletion]
      exact act_gives_of hok (State.hatchComplete_of_good hon hr hdone hheld hstatus hsignal hirq)
    · rw [exec_hatchCompletion, execHatchCompletion]
      exact act_stays hok (State.hatchComplete_of_waiting hr hwait) hs

end Sys2Proof.Machine
end

section
/-! PROOFS. What an interrupt write and a Breaker's capture leave alone. -/

namespace Sys2Proof.Machine

/-- The stacks are 0 to 11. -/
theorem stack_lt_of_regionOf {pa j : Nat} (h : regionOf pa = .stack j) : j < 12 := by
  unfold regionOf at h
  repeat' split at h
  all_goals first
    | exact Region.noConfusion h
    | (injection h with h; omega)

/-- Whether a dictionary key is one of the Breakers' (0x5000 to 0x51FF). -/
def BreakerKey (key : Nat) : Prop := 0x500000 ≤ key ∧ key < 0x520000

theorem srcClass_lt (src : Nat) : srcClass src < 5 := by
  unfold srcClass
  repeat' split
  all_goals decide

section
variable (s : State) {γ : Type}

/-! ### Interrupt writes -/

/-- What neither the outside, the work that waits nor a store of bytes is, an interrupt write leaves. -/
theorem State.msi_keeps (P : State → γ) (hemit : ∀ t o, P (State.emit t o) = P t) (hlater : ∀ t x, P (State.defer t x) = P t)
    (hpoke : ∀ t a bs, P (State.poke t a bs) = P t) (src pa v : Nat) : P (s.msi src pa v) = P s := by
  rw [msi, ← hemit s (.msi pa (BitVec.ofNat 32 v))]
  generalize s.emit (.msi pa (BitVec.ofNat 32 v)) = t
  unfold msiStore
  split
  · split
    · rfl
    · split
      · exact hlater t _
      · exact hpoke t _ _
  · split
    · exact hlater t _
    · exact hpoke t _ _
  · rfl

@[simp] theorem State.msi_todo (src pa v : Nat) : (s.msi src pa v).todo = s.todo :=
  s.msi_keeps State.todo (fun _ _ => rfl) (fun _ _ => rfl) (fun _ _ _ => rfl) src pa v
@[simp] theorem State.msi_pending (src pa v : Nat) : (s.msi src pa v).pending = s.pending :=
  s.msi_keeps State.pending (fun _ _ => rfl) (fun _ _ => rfl) (fun _ _ _ => rfl) src pa v
@[simp] theorem State.msi_regs (src pa v : Nat) : (s.msi src pa v).regs = s.regs :=
  s.msi_keeps State.regs (fun _ _ => rfl) (fun _ _ => rfl) (fun _ _ _ => rfl) src pa v
@[simp] theorem State.msi_od (src pa v : Nat) : (s.msi src pa v).od = s.od :=
  s.msi_keeps State.od (fun _ _ => rfl) (fun _ _ => rfl) (fun _ _ _ => rfl) src pa v
@[simp] theorem State.msi_porch (src pa v : Nat) : (s.msi src pa v).porch = s.porch :=
  s.msi_keeps State.porch (fun _ _ => rfl) (fun _ _ => rfl) (fun _ _ _ => rfl) src pa v

/-! ### Captures (R416 to R419) -/

/-- What a capture does not write, it leaves: it writes registers, entries (of the Breakers, by one of them), the count of
reports that wait, the class actions that are owed, the event, and the Breaker's interrupt. -/
theorem State.capture_keeps_of (P : State → γ) {b : Nat} (hreg : ∀ t pa v, P (State.setReg t pa v) = P t)
    (hback : ∀ (t : State) l, P { t with backlog := l } = P t)
    (hent : ∀ t i k v, (b < 5 → BreakerKey (dictKey i k)) → P (State.setEnt t i k v) = P t)
    (hraise : ∀ t i k c v, P (State.raise t i k c v) = P t) (hmsi : ∀ t src pa v, P (State.msi t src pa v) = P t)
    (r : Report) (htodo : 2 ≤ srcClass r.src.toNat → ∀ (t : State) l, P { t with todo := l } = P t) : P (s.capture b r) = P s := by
  have hc := srcClass_lt r.src.toNat
  have hforward (t : State) {c : Nat} (hc : c < 5) : P (t.forwardCapture b c) = P t := by
    unfold forwardCapture
    dsimp only
    rw [hent _ _ _ _ (fun hb => by unfold BreakerKey dictKey; omega), hent _ _ _ _ (fun hb => by unfold BreakerKey dictKey; omega),
      hent _ _ _ _ (fun hb => by unfold BreakerKey dictKey; omega), hent _ _ _ _ (fun hb => by unfold BreakerKey dictKey; omega),
      hent _ _ _ _ (fun hb => by unfold BreakerKey dictKey; omega)]
  have hinc (t : State) (n : Nat) : P (t.incEnt 0x5040 (5 * b + srcClass r.src.toNat + 1) n) = P t := by
    unfold incEnt
    split
    · exact hent _ _ _ _ (fun hb => by unfold BreakerKey dictKey; omega)
    · rfl
  have hcount (t : State) (l : Tab Nat) : P (({ t with backlog := l } : State).incEnt 0x5040 (5 * b + srcClass r.src.toNat + 1) 1) = P t := by
    rw [hinc, hback]
  unfold capture
  dsimp only
  generalize srcClass r.src.toNat = c at hc hinc hcount htodo ⊢
  have howe (t : State) : P (if 2 ≤ c then { t with todo := t.todo ++ [(b, r)] } else t) = P t := by
    split
    · exact htodo ‹_› t _
    · rfl
  split
  · exact hreg s _ _
  · have hstart := (howe _).trans (hcount s (tput 0 b (min 64 (tget 0 s.backlog b + 1)) s.backlog))
    generalize (if 2 ≤ c then _ else _ : State) = t at hstart ⊢
    rw [← hstart]
    split
    · rw [hforward _ hc, hreg]
    · rw [hraise, hforward _ hc]
      split
      · rw [hreg, hreg, hreg, hreg, hreg]
      · rw [hmsi, hreg, hreg, hreg, hreg, hreg]

/-- What a capture by a Breaker does not write, it leaves. -/
theorem State.capture_keeps (P : State → γ) (hreg : ∀ t pa v, P (State.setReg t pa v) = P t)
    (hback : ∀ (t : State) l, P { t with backlog := l } = P t)
    (hent : ∀ t i k v, BreakerKey (dictKey i k) → P (State.setEnt t i k v) = P t)
    (hraise : ∀ t i k c v, P (State.raise t i k c v) = P t) (hmsi : ∀ t src pa v, P (State.msi t src pa v) = P t)
    {b : Nat} (hb : b < 5) (r : Report)
    (htodo : 2 ≤ srcClass r.src.toNat → ∀ (t : State) l, P { t with todo := l } = P t) : P (s.capture b r) = P s :=
  s.capture_keeps_of P hreg hback (fun t i k v h => hent t i k v (h hb)) hraise hmsi r htodo

/-- No capture changes a die's record. -/
theorem State.capture_dies (b : Nat) (r : Report) : (s.capture b r).dies = s.dies :=
  s.capture_keeps_of State.dies (fun _ _ _ => rfl) (fun _ _ => rfl) (fun _ _ _ _ _ => rfl) State.raise_dies
    (fun t src pa v => t.msi_keeps State.dies (fun _ _ => rfl) (fun _ _ => rfl) (fun _ _ _ => rfl) src pa v) r fun _ _ _ => rfl

/-- A capture leaves every entry but the Breakers' and the count of dropped events. -/
theorem State.entries_capture {P : Nat → Prop} (hP : ∀ key, BreakerKey key → ¬ P key) (hdrop : ¬ P (dictKey 0x4420 5)) {b : Nat}
    (hb : b < 5) (r : Report) : (s.capture b r).entries P = s.entries P :=
  s.capture_keeps (State.entries P) (fun t _ _ => State.entries_of_od (t.setReg_od _ _)) (fun _ _ => rfl)
    (fun t _ _ v h => t.entries_setEnt v (hP _ h)) (fun t i k c v => t.entries_raise i k c v hdrop)
    (fun t src pa v => State.entries_of_od (t.msi_od src pa v)) hb r fun _ _ _ => rfl

theorem State.capture_pending {b : Nat} (hb : b < 5) (r : Report) : (s.capture b r).pending = s.pending :=
  s.capture_keeps State.pending (fun _ _ _ => rfl) (fun _ _ => rfl) (fun _ _ _ _ _ => rfl) State.raise_pending
    State.msi_pending hb r fun _ _ _ => rfl

/-- A report of class 0 or 1 owes no action. -/
theorem State.capture_todo {b : Nat} (hb : b < 5) (r : Report) (hc : srcClass r.src.toNat < 2) :
    (s.capture b r).todo = s.todo :=
  s.capture_keeps State.todo (fun _ _ _ => rfl) (fun _ _ => rfl) (fun _ _ _ _ _ => rfl) State.raise_todo
    State.msi_todo hb r fun h => absurd hc (Nat.not_lt.2 h)

theorem State.capture_porch {b : Nat} (hb : b < 5) (r : Report) : (s.capture b r).porch = s.porch :=
  s.capture_keeps State.porch (fun _ _ _ => rfl) (fun _ _ => rfl) (fun _ _ _ _ _ => rfl) State.raise_porch
    State.msi_porch hb r fun _ _ _ => rfl

/-- An entry outside the Breakers' and the event counts is as before a capture. -/
theorem State.capture_ent {b : Nat} (hb : b < 5) (r : Report) (i k : Nat) (hkey : ¬ BreakerKey (dictKey i k))
    (hdrop : dictKey i k ≠ dictKey 0x4420 5) : (s.capture b r).ent i k = s.ent i k :=
  State.ent_of_entries (P := fun key => ¬ BreakerKey key ∧ key ≠ dictKey 0x4420 5)
    (s.entries_capture (fun _ h hn => hn.1 h) (fun h => h.2 rfl) hb r) ⟨hkey, hdrop⟩

/-- A capture changes no die's state. -/
theorem State.capture_dieUp {b : Nat} (hb : b < 5) (r : Report) {d : Nat} (hd : d < 4) : (s.capture b r).dieUp d = s.dieUp d := by
  unfold dieUp on dieState
  rw [s.capture_porch hb r, s.capture_ent hb r _ _ (by unfold BreakerKey dictKey; omega) (by unfold dictKey; omega)]

end

end Sys2Proof.Machine
end

section
/-! PROOFS. Letterboxes and the PCIe root port (R186, R204, R296 to R300, R426). -/

namespace Sys2Proof.Machine

section
variable {s : State} {m : Nat}

/-! ### Letterbox registers -/

theorem paBox_ne {m k o o' : Nat} (ho : o < 0x1000) (ho' : o' < 0x1000) (h : o ≠ o') : paBox m o ≠ paBox k o' := by
  unfold paBox
  omega

theorem State.reg_resetBox {o : Nat} (ho : o < 0x1000) : (s.resetBox m).reg (paBox m o) = regReset (paBox m o) := by
  have hbase : paBox m o = paBox m 0 + o := by unfold paBox; omega
  have hend : paBox m 0x1000 = paBox m 0 + 0x1000 := by unfold paBox; omega
  refine tget_not_mem _ _ _ fun hmem => ?_
  obtain ⟨e, he, hkey⟩ := List.mem_map.1 hmem
  have hout := (List.mem_filter.1 he).2
  simp only [Bool.or_eq_true, decide_eq_true_eq] at hout
  omega

/-! ### The lock, the message and the wake of a letterbox (R296 to R299) -/

theorem State.lockWrite_of_other {agent : Nat} (h : s.boxOwner m ≠ agent ∨ s.boxGo m = true) : s.lockWrite m agent = s := by
  unfold lockWrite
  exact if_neg (by obtain h | h := h <;> simp [h])

theorem State.boxPost_of_refused {agent : Nat} (hon : s.on = true) (h : s.boxOwner m ≠ agent ∨ s.boxGo m = true ∨
    s.regF (paBox m 0x48) 4 0 < 8 ∨ 16 < s.regF (paBox m 0x48) 4 0) : s.boxPost m agent = s.setRegF (paBox m 0x50) 4 4 1 := by
  unfold boxPost
  rw [if_neg (by simp [hon])]
  exact if_pos h

theorem State.boxIrq_of_none {o : Nat} (h : s.regF (paBox m o) 55 2 = 0) : s.boxIrq m o = s := by
  unfold boxIrq
  dsimp only
  rw [h]
  exact if_pos rfl

/-- A message that is posted without an interrupt write. -/
theorem State.boxPost_of_posted {agent : Nat} (hon : s.on = true) (howner : s.boxOwner m = agent) (hgo : s.boxGo m = false)
    (hlo : 8 ≤ s.regF (paBox m 0x48) 4 0) (hhi : s.regF (paBox m 0x48) 4 0 ≤ 16) (hirq : s.regF (paBox m 0x68) 55 2 = 0) :
    s.boxPost m agent =
      let t := s.setRegF (paBox m 0x50) 0 0 1
      if 1 ≤ s.regF (paBox m 0x78) 2 0 ∧ s.regF (paBox m 0x78) 2 0 ≤ 5 then
        (t.domainSleeps (s.regF (paBox m 0x78) 2 0)).2.setRegF (paBox m 0x50) 2 2 (b2n (t.domainSleeps (s.regF (paBox m 0x78) 2 0)).1)
      else t := by
  have hother {o : Nat} (hi lo : Nat) (ho : o < 0x1000) (hne : o ≠ 0x50) :
      (s.setRegF (paBox m 0x50) 0 0 1).regF (paBox m o) hi lo = s.regF (paBox m o) hi lo :=
    s.regF_setRegF_ne _ _ _ _ _ (paBox_ne ho (by decide) hne)
  have hnoirq : (s.setRegF (paBox m 0x50) 0 0 1).boxIrq m 0x68 = s.setRegF (paBox m 0x50) 0 0 1 :=
    State.boxIrq_of_none (by rw [hother _ _ (by decide) (by decide), hirq])
  unfold boxPost
  rw [if_neg (by simp [hon])]
  dsimp only
  rw [if_neg (by simp [howner, hgo]; omega), hnoirq, hother _ _ (by decide) (by decide)]

/-- A wake in progress for a domain means that it sleeps. -/
theorem State.domainSleeps_of_wake {dom : Nat}
    (h : ∃ k, k < 64 ∧ s.regF (paBox k 0x78) 2 0 = dom ∧ s.regF (paBox k 0x50) 2 2 = 1) :
    ((s.setRegF (paBox m 0x50) 0 0 1).domainSleeps dom).1 = true := by
  obtain ⟨k, hk, hdom, hwake⟩ := h
  have hdom' : (s.setRegF (paBox m 0x50) 0 0 1).regF (paBox k 0x78) 2 0 = dom := by
    rw [s.regF_setRegF_ne _ _ _ _ _ (paBox_ne (by decide) (by decide) (by decide)), hdom]
  have hwake' : (s.setRegF (paBox m 0x50) 0 0 1).regF (paBox k 0x50) 2 2 = 1 := by
    by_cases hkm : paBox k 0x50 = paBox m 0x50
    · rw [hkm, s.regF_setRegF_of_disjoint _ _ (by decide) (.inl (by decide)), ← hkm, hwake]
    · rw [s.regF_setRegF_ne _ _ _ _ _ hkm, hwake]
  unfold domainSleeps
  rw [if_pos]
  exact List.any_eq_true.2 ⟨k, List.mem_range.2 hk, by rw [hdom', hwake']; simp⟩

theorem State.domainSleeps_kept (s : State) (dom : Nat) :
    (s.domainSleeps dom).2.todo = s.todo ∧ (s.domainSleeps dom).2.pending = s.pending := by
  unfold domainSleeps
  split <;> exact ⟨rfl, rfl⟩

theorem State.boxTake_of_message (hon : s.on = true) (hgo : s.boxGo m = true) (hirq : s.regF (paBox m 0x58) 55 2 = 0) :
    s.boxTake m = ((s.setRegF (paBox m 0x50) 0 0 0).setRegF (paBox m 0x40) 15 0 0).setRegF (paBox m 0x50) 3 3 1 := by
  unfold boxTake
  rw [if_neg (by simp [hon, hgo])]
  refine State.boxIrq_of_none ?_
  rw [State.regF_setRegF_ne _ _ _ _ _ _ (paBox_ne (by decide) (by decide) (by decide)),
    State.regF_setRegF_ne _ _ _ _ _ _ (paBox_ne (by decide) (by decide) (by decide)),
    State.regF_setRegF_ne _ _ _ _ _ _ (paBox_ne (by decide) (by decide) (by decide)), hirq]

/-- The wake of domain `dom` ends in letterbox `m`. -/
def State.endWake (dom m : Nat) (s : State) : State :=
  if s.regF (paBox m 0x78) 2 0 = dom && s.regF (paBox m 0x50) 2 2 = 1 then s.setRegF (paBox m 0x50) 2 2 0 else s

theorem State.endWake_keeps {γ : Type} (P : State → γ) (h : ∀ pa hi lo v, P (s.setRegF pa hi lo v) = P s) (dom m : Nat) :
    P (endWake dom m s) = P s := by
  unfold endWake
  split
  · exact h _ _ _ _
  · rfl

theorem State.domain_endWake (dom m k : Nat) : (endWake dom m s).regF (paBox k 0x78) 2 0 = s.regF (paBox k 0x78) 2 0 := by
  unfold endWake
  split
  · exact s.regF_setRegF_ne _ _ _ _ _ (paBox_ne (by decide) (by decide) (by decide))
  · rfl

theorem State.wake_endWake_same (dom m : Nat) (hdom : s.regF (paBox m 0x78) 2 0 = dom) :
    (endWake dom m s).regF (paBox m 0x50) 2 2 = 0 := by
  unfold endWake
  by_cases hwake : s.regF (paBox m 0x50) 2 2 = 1
  · rw [if_pos (by simp [hdom, hwake]), s.regF_setRegF_same _ _ _ (by decide), Nat.zero_mod]
  · have hbit : s.regF (paBox m 0x50) 2 2 < 2 := fld_lt ..
    rw [if_neg (by simp [hwake])]
    omega

theorem State.wake_endWake_keeps (dom m k : Nat) (h : s.regF (paBox k 0x50) 2 2 = 0) :
    (endWake dom m s).regF (paBox k 0x50) 2 2 = 0 := by
  unfold endWake
  split
  · by_cases hkm : paBox k 0x50 = paBox m 0x50
    · rw [hkm, s.regF_setRegF_same _ _ _ (by decide), Nat.zero_mod]
    · rw [s.regF_setRegF_ne _ _ _ _ _ hkm, h]
  · exact h

/-- After the wake of a domain no letterbox of it has WAKE set. -/
theorem State.domainRuns_wake {dom k : Nat} (hk : k < 64) (hdom : (s.domainRuns dom).regF (paBox k 0x78) 2 0 = dom) :
    (s.domainRuns dom).regF (paBox k 0x50) 2 2 = 0 := by
  have hkeep (l : List Nat) : (each l (endWake dom) s).regF (paBox k 0x78) 2 0 = s.regF (paBox k 0x78) 2 0 :=
    each_keeps (fun t : State => t.regF (paBox k 0x78) 2 0) _ (fun m t => t.domain_endWake dom m k) l s
  have hs : s.regF (paBox k 0x78) 2 0 = dom := (hkeep _).symm.trans hdom
  exact each_establishes (fun t : State => t.regF (paBox k 0x78) 2 0 = dom) (fun t : State => t.regF (paBox k 0x50) 2 2 = 0)
    (endWake dom) (List.mem_range.2 hk) (fun m _ t ht => (t.domain_endWake dom m k).trans ht)
    (fun t ht => t.wake_endWake_same dom k ht) (fun m _ t _ hz => t.wake_endWake_keeps dom m k hz) hs

theorem State.domainRuns_keeps {γ : Type} (P : State → γ) (h : ∀ t pa hi lo v, P (State.setRegF t pa hi lo v) = P t) (dom : Nat) :
    P (s.domainRuns dom) = P s :=
  each_keeps P (endWake dom) (fun m t => t.endWake_keeps P (h t) dom m) _ s

/-! ### The PCIe root port (R186, R300, R426) -/

variable {pa : Nat}

theorem State.pcieRead_of_ur {n : Nat} (b : Bool) (hon : s.on = true) (hn : 0 < n) (h : s.inbound pa n false = .ur) :
    s.pcieRead pa n b = s.emit .pcieUr := by
  unfold pcieRead
  rw [if_neg (by simp [hon]; omega), h]

theorem State.pcieRead_of_wait {n : Nat} (b : Bool) (hon : s.on = true) (hn : 0 < n) (h : s.inbound pa n false = .wait) :
    s.pcieRead pa n b = s.defer (.pcieRead pa n b) := by
  unfold pcieRead
  rw [if_neg (by simp [hon]; omega), h]

theorem State.pcieRead_of_gone {n : Nat} (b : Bool) (hon : s.on = true) (hn : 0 < n) (h : s.inbound pa n false = .mem)
    (hgone : s.gone pa = true) : s.pcieRead pa n b = s.emit (.pcieData (List.replicate n 0#8) true) := by
  unfold pcieRead
  rw [if_neg (by simp [hon]; omega), h]
  exact if_pos hgone

theorem State.pcieRead_of_mem {n : Nat} {x : Bytes × Bool} {s' : State} (hon : s.on = true) (hn : 0 < n)
    (h : s.inbound pa n false = .mem) (hgone : s.gone pa = false) (hx : s.unitBytes (pcieWho 0) pa n = (x, s')) :
    s.pcieRead pa n false = s'.emit (.pcieData x.1 x.2) := by
  unfold pcieRead
  rw [if_neg (by simp [hon]; omega), h]
  dsimp only
  rw [if_neg (by simp [hgone]), if_neg (by decide), hx]

theorem State.pcieStore_of_ur {bs : Bytes} (ep : Bool) (tph : Option Nat) (hon : s.on = true) (hbs : bs ≠ [])
    (h : s.inbound pa bs.length true = .ur) : s.pcieStore pa bs ep tph = s.emit .pcieUr := by
  unfold pcieStore
  rw [if_neg (by simp [hon, hbs]), h]

theorem State.pcieStore_of_wait {bs : Bytes} (ep : Bool) (tph : Option Nat) (hon : s.on = true) (hbs : bs ≠ [])
    (h : s.inbound pa bs.length true = .wait) : s.pcieStore pa bs ep tph = s.defer (.pcieWrite pa bs ep tph) := by
  unfold pcieStore
  rw [if_neg (by simp [hon, hbs]), h]

theorem State.pcieStore_of_page {bs : Bytes} (tph : Option Nat) (hon : s.on = true) (hbs : bs ≠ [])
    (h : s.inbound pa bs.length true = .page) : s.pcieStore pa bs false tph = s.pageWrite pa bs.length (ofBytes bs) := by
  unfold pcieStore
  rw [if_neg (by simp [hon, hbs]), h]
  dsimp only
  rw [if_neg (by decide), if_pos rfl, if_neg (by decide), if_neg (by decide)]

/-- The report of a poisoned inbound write, which signals the error. -/
def State.poisonedTlp (s : State) (pa : Nat) (ep : Bool) : State :=
  if ep then (s.capture 4 (accReport 0x16 (pcieWho 1).master 1 pa none)).emit (.aer .poisonedTlp) else s

/-- Reporting a poisoned write makes no home go. -/
theorem State.gone_poisonedTlp (s : State) (pa : Nat) (ep : Bool) : (s.poisonedTlp pa ep).gone pa = s.gone pa := by
  cases ep with
  | false => rfl
  | true =>
    unfold gone
    split
    · rename_i j hj
      have hj12 := stack_lt_of_regionOf hj
      exact congrArg not (s.capture_dieUp (by decide) _ (by omega))
    · rfl

theorem State.pcieStore_of_mem {bs : Bytes} (ep : Bool) (tph : Option Nat) (hon : s.on = true) (hbs : bs ≠ [])
    (h : s.inbound pa bs.length true = .mem) (hgone : s.gone pa = false) :
    s.pcieStore pa bs ep tph = (s.poisonedTlp pa ep).unitStore (pcieWho 1) pa bs ep tph := by
  have hstay : ¬ (s.poisonedTlp pa ep).gone pa = true := by simp [s.gone_poisonedTlp pa ep, hgone]
  unfold pcieStore
  rw [if_neg (by simp [hon, hbs]), h]
  exact if_neg hstay

theorem State.inbound_write_of_tier {n : Nat} (hpa : regionOf pa = .host) (hlast : regionOf (pa + n - 1) = .host)
    (htier : s.tierRegion pa = true) : s.inbound pa n true = .ur := by
  unfold inbound
  dsimp only
  rw [hpa, hlast]
  exact if_pos (by simp [htier])

end

/-- Settles O38: letterbox accesses by owner and message, inbound requests by what becomes of them. -/
theorem hostBus : Obligations.HostBus := by
  unfold Obligations.HostBus
  constructor
  · intro s m agent hs hm hon
    have hok : decide (m < 64) = true := decide_eq_true hm
    have hrun : ¬ (!s.on) = true := by simp [hon]
    refine ⟨fun howner => ?_, fun hown hother => ?_, fun howner hgo => ?_, fun h => ?_, fun h => ?_,
      fun howner hgo hlo hhi hirq hdom => ?_, fun dom w howner hgo hlo hhi hirq hdom h1 h5 hw => ⟨?_, fun hwake => ?_⟩,
      fun hgo hirq => ?_, fun hgo => ?_, fun hagent => ⟨?_, fun o ho => State.reg_resetBox ho⟩, fun hagent => ?_,
      fun dom hdom => ?_⟩
    · rw [exec_lockRead, execLockRead]
      exact act_keeps hok ((if_neg hrun).trans (by simp [State.lockRead, howner])) (by simp) hs
    · rw [exec_lockRead, execLockRead]
      exact act_keeps hok ((if_neg hrun).trans (by simp [State.lockRead, hown, hother])) (by simp) hs
    · rw [exec_lockWrite, execLockWrite]
      exact act_keeps hok ((if_pos hon).trans (by simp [State.lockWrite, howner, hgo])) (by simp) hs
    · rw [exec_lockWrite, execLockWrite]
      exact act_stays hok ((if_pos hon).trans (State.lockWrite_of_other h)) hs
    · rw [exec_go, execGo]
      exact act_keeps hok (State.boxPost_of_refused hon h) (by simp) hs
    · rw [exec_go, execGo]
      refine act_keeps hok ((State.boxPost_of_posted hon howner hgo hlo hhi hirq).trans (if_neg ?_)) (by simp) hs
      omega
    · subst hdom hw
      rw [exec_go, execGo]
      refine act_keeps hok ((State.boxPost_of_posted hon howner hgo hlo hhi hirq).trans (if_pos ⟨h1, h5⟩)) ?_ hs
      obtain ⟨dtodo, dpending⟩ := (s.setRegF (paBox m 0x50) 0 0 1).domainSleeps_kept (s.regF (paBox m 0x78) 2 0)
      simp [dtodo, dpending]
    · rw [hw]
      exact State.domainSleeps_of_wake hwake
    · rw [exec_take, execTake]
      exact act_keeps hok (State.boxTake_of_message hon hgo hirq) (by simp) hs
    · rw [exec_take, execTake]
      exact act_stays hok (if_pos (by simp [hgo])) hs
    · rw [exec_brk, execBrk]
      exact act_keeps hok (if_pos (by simp [hon, hagent])) ⟨rfl, rfl⟩ hs
    · rw [exec_brk, execBrk]
      exact act_stays hok (if_neg (by simp [hagent])) hs
    · rw [exec_domainWakeDone, execDomainWakeDone]
      refine act_exists (decide_eq_true hdom) ?_ ?_ ?_ <;> rw [if_pos hon]
      · rw [s.domainRuns_keeps State.todo (fun t _ _ _ _ => t.setRegF_todo ..), hs]
      · rw [s.domainRuns_keeps State.pending fun t _ _ _ _ => t.setRegF_pending ..]
      · exact ⟨fun k hk hkd => State.domainRuns_wake hk hkd, s.domainRuns_keeps State.mem (fun t _ _ _ _ => t.setRegF_mem ..) dom,
          s.domainRuns_keeps State.od (fun t _ _ _ _ => t.setRegF_od ..) dom⟩
  · intro s pa hs hpa hon
    have hok : decide (pa < 2 ^ 56) = true := decide_eq_true hpa
    refine ⟨fun n b hn h => ?_, fun n x s' hn h hgone hx => ?_, fun n b hn h hgone => ?_, fun bs ep tph hbs h => ?_,
      fun bs tph hbs h hgone => ?_, fun bs tph hbs h hgone => ?_, fun n b hn h => ?_, fun bs ep tph hbs h => ?_,
      fun bs tph hbs h => ?_, ?_, ?_, fun n hfirst hlast htier => State.inbound_write_of_tier hfirst hlast htier⟩
    · rw [exec_pcieInboundRead, execPcieInboundRead]
      exact act_keeps hok (State.pcieRead_of_ur b hon hn h) (by simp) hs
    · rw [exec_pcieInboundRead, execPcieInboundRead]
      exact act_gives_of hok (State.pcieRead_of_mem hon hn h hgone hx)
    · rw [exec_pcieInboundRead, execPcieInboundRead]
      exact act_keeps hok (State.pcieRead_of_gone b hon hn h hgone) (by simp) hs
    · rw [exec_pcieInboundWrite, execPcieInboundWrite]
      exact act_keeps hok (State.pcieStore_of_ur ep tph hon hbs h) (by simp) hs
    · rw [exec_pcieInboundWrite, execPcieInboundWrite]
      exact act_gives_of hok (State.pcieStore_of_mem false tph hon hbs h hgone)
    · rw [exec_pcieInboundWrite, execPcieInboundWrite]
      exact act_gives_of hok (State.pcieStore_of_mem true tph hon hbs h hgone)
    · rw [exec_pcieInboundRead, execPcieInboundRead]
      exact act_keeps hok (State.pcieRead_of_wait b hon hn h) ⟨rfl, rfl⟩ hs
    · rw [exec_pcieInboundWrite, execPcieInboundWrite]
      exact act_keeps hok (State.pcieStore_of_wait ep tph hon hbs h) ⟨rfl, rfl⟩ hs
    · rw [exec_pcieInboundWrite, execPcieInboundWrite]
      exact act_gives_of hok (State.pcieStore_of_page tph hon hbs h)
    · rw [exec_pcieError, execPcieError]
      exact act_gives_of rfl (if_neg (by simp [hon]))
    · rw [exec_pcieError, execPcieError]
      exact act_gives_of rfl (if_neg (by simp [hon]))

end Sys2Proof.Machine
end

section
/-! PROOFS. The power events (R391, R440 to R444). -/

namespace Sys2Proof.Machine

section
variable (s : State)

/-! ### What the loss of the rails leaves -/

/-- Hallways and dies that lose their training change entries only. -/
theorem State.untrained_keeps {γ : Type} (P : State → γ) (h : ∀ t i k v, P (State.setEnt t i k v) = P t) :
    P s.untrained = P s := by
  unfold untrained
  dsimp only
  rw [each_keeps P (fun n t => State.setHall t n 0) fun n t => h t _ _ _,
    each_keeps P (fun d t => State.setEnt t 0x1100 (0x12 + 0x10 * d) 1) fun d t => h t _ _ _]

@[simp] theorem State.untrained_todo : s.untrained.todo = s.todo := s.untrained_keeps State.todo State.setEnt_todo
@[simp] theorem State.untrained_pending : s.untrained.pending = s.pending :=
  s.untrained_keeps State.pending State.setEnt_pending
@[simp] theorem State.untrained_mem : s.untrained.mem = s.mem := s.untrained_keeps State.mem State.setEnt_mem
@[simp] theorem State.untrained_regs : s.untrained.regs = s.regs := s.untrained_keeps State.regs State.setEnt_regs
@[simp] theorem State.untrained_tier : s.untrained.tier = s.tier := s.untrained_keeps State.tier State.setEnt_tier
@[simp] theorem State.untrained_porch : s.untrained.porch = s.porch := s.untrained_keeps State.porch State.setEnt_porch

theorem State.cold_false : (s.cold false).todo = [] ∧ (s.cold false).pending = s.pending ∧ (s.cold false).mem = [] ∧
    (s.cold false).regs = [] ∧ (s.cold false).tier.cellar = s.tier.cellar ∧ (s.cold false).porch.pwrEn = s.porch.pwrEn :=
  ⟨rfl, rfl, rfl, rfl, rfl, rfl⟩

theorem State.railsOff_kept (p : Power) : (s.railsOff p).todo = [] ∧ (s.railsOff p).pending = s.pending ∧
    (s.railsOff p).mem = [] ∧ (s.railsOff p).tier.cellar = s.tier.cellar ∧ (s.railsOff p).porch.power = p ∧
    (s.railsOff p).porch.pwrEn = s.porch.pwrEn := by
  unfold railsOff
  dsimp only
  simp only [untrained_todo, untrained_pending, untrained_mem, untrained_tier, untrained_porch, s.cold_false, and_self]

theorem State.powerLost_kept (p : Power) : (s.powerLost p).todo = [] ∧ (s.powerLost p).pending = s.pending ∧
    (s.powerLost p).mem = [] ∧ (s.powerLost p).regs = [] ∧ (s.powerLost p).tier.cellar = s.tier.cellar ∧
    (s.powerLost p).porch.power = p := by
  unfold powerLost
  dsimp only
  simp only [untrained_todo, untrained_pending, untrained_mem, untrained_regs, untrained_tier, s.cold_false, and_self]

/-! ### The start of a power-up -/

theorem State.startUp_kept : s.startUp.todo = s.todo ∧ s.startUp.pending = s.pending ∧ s.startUp.house = s.house ∧
    s.startUp.mem = s.mem ∧ s.startUp.status = 0 ∧
    s.startUp.porch = { s.porch with power := .running, boot := .rails, alerts := s.porch.alerts.filter fun a => a = .c4 } := by
  refine ⟨rfl, rfl, rfl, rfl, ?_, rfl⟩
  unfold startUp status setStatus
  rw [setCtl_ent, State.ent_setEnt_same]

/-! ### Bad input voltage (R443) -/

theorem State.alert_kept (a : Alert) : (s.alert a).todo = s.todo ∧ (s.alert a).pending = s.pending ∧
    (s.alert a).porch.power = s.porch.power ∧ a ∈ (s.alert a).porch.alerts := by
  unfold alert
  split
  · rename_i h
    exact ⟨rfl, rfl, rfl, List.contains_iff_mem.1 h⟩
  · exact ⟨rfl, rfl, rfl, List.mem_cons_self⟩

theorem State.badInput_kept (hon : s.porch.power = .running) : s.badInput.todo = [] ∧ s.badInput.pending = s.pending ∧
    s.badInput.porch.power = .standby ∧ Alert.voltage ∈ s.badInput.porch.alerts ∧ s.badInput.porch.lost = true := by
  obtain ⟨rtodo, rpending, -, -, rpower, -⟩ := s.railsOff_kept .standby
  obtain ⟨atodo, apending, apower, aalert⟩ := (s.railsOff .standby).alert_kept .voltage
  unfold badInput
  rw [if_pos (.inl hon)]
  exact ⟨atodo.trans rtodo, apending.trans rpending, apower.trans rpower, aalert, rfl⟩

end

/-- Settles O1: each event by the power state that it finds. -/
theorem powerEvents : Obligations.PowerEvents := by
  unfold Obligations.PowerEvents
  intro s hs
  refine ⟨fun b hoff => ?_, fun hpre => ?_, fun hstop => ?_, fun hpre hen => ?_, fun hpre hen => ?_, fun us hus => ⟨?_, ?_⟩,
    fun us hus hstandby hlost => ?_, fun us hus hrun => ?_, fun hrun c hc => ?_, fun hlost hen => ?_, fun hpower => ?_,
    fun hup => ?_⟩
  · obtain ⟨ltodo, lpending, lmem, lregs, lcellar, lpower⟩ := s.powerLost_kept .precharge
    rw [exec_powerOn, execPowerOn]
    refine act_exists rfl ?_ ?_ ?_ <;> rw [if_pos hoff] <;> dsimp only
    · rw [State.setPorch_todo, ltodo]
    · rw [State.setPorch_pending, lpending]
    · rw [State.setPorch_mem, State.setPorch_regs, State.setPorch_tier]
      exact ⟨lpower, rfl, lmem, lregs, lcellar⟩
  · rw [exec_prechargeStop, execPrechargeStop]
    exact act_keeps rfl (if_pos hpre) ⟨rfl, rfl⟩ hs
  · rw [exec_prechargeRestart, execPrechargeRestart]
    exact act_keeps rfl (if_pos hstop) ⟨rfl, rfl⟩ hs
  · rw [exec_prechargeDone, execPrechargeDone]
    exact act_keeps rfl ((if_neg (Classical.not_not.2 hpre)).trans (if_neg (by simp [hen]))) ⟨rfl, rfl⟩ hs
  · have hstart : s.porchRuns = State.startUp { s with house := 0, backlog := [] } :=
      (if_neg (Classical.not_not.2 hpre)).trans (if_pos hen)
    obtain ⟨utodo, upending, uhouse, -, ustatus, uporch⟩ := State.startUp_kept { s with house := 0, backlog := [] }
    rw [exec_prechargeDone, execPrechargeDone]
    refine act_exists rfl ?_ ?_ ?_ <;> rw [hstart]
    · exact utodo.trans hs
    · exact upending
    · exact ⟨uhouse, by rw [uporch], by rw [uporch], ustatus⟩
  · rw [exec_pwrEnAssert, execPwrEnAssert]
    exact act_stays rfl (if_pos (.inl hus)) hs
  · rw [exec_pwrEnDeassert, execPwrEnDeassert]
    exact act_stays rfl (if_pos (.inl hus)) hs
  · have hlive : ¬ (us < 1000 ∨ s.porch.power = .off) := by simp [hstandby]; omega
    have hgo : (s.setPorch { s.porch with pwrEn := true }).porch.power = .standby ∧
        (!(s.setPorch { s.porch with pwrEn := true }).porch.lost) = true := ⟨hstandby, congrArg not hlost⟩
    obtain ⟨utodo, upending, -, umem, -, uporch⟩ := (s.setPorch { s.porch with pwrEn := true }).startUp_kept
    rw [exec_pwrEnAssert, execPwrEnAssert]
    refine act_exists rfl ?_ ?_ ?_ <;> rw [if_neg hlive, if_pos hgo]
    · exact utodo.trans hs
    · exact upending
    · exact ⟨by rw [uporch], by rw [uporch]; rfl, by rw [uporch], umem⟩
  · have hlive : ¬ (us < 1000 ∨ s.porch.power = .off) := by simp [hrun]; omega
    have hgo : (s.setPorch { s.porch with pwrEn := false }).porch.power = .running := hrun
    obtain ⟨rtodo, rpending, rmem, rcellar, rpower, ren⟩ := (s.setPorch { s.porch with pwrEn := false }).railsOff_kept .standby
    rw [exec_pwrEnDeassert, execPwrEnDeassert]
    refine act_exists rfl ?_ ?_ ?_ <;> rw [if_neg hlive, if_pos hgo]
    · exact rtodo
    · exact rpending
    · exact ⟨rpower, ren, rmem, rcellar⟩
  · obtain ⟨btodo, bpending, hbad⟩ := s.badInput_kept hrun
    obtain rfl | rfl := hc
    · rw [exec_undervoltage, execUndervoltage]
      exact act_exists rfl btodo bpending hbad
    · rw [exec_overvoltage, execOvervoltage]
      exact act_exists rfl btodo bpending hbad
  · have hlive : ¬ (!s.porch.lost) = true := by simp [hlost]
    have hgo : (s.setPorch { s.porch with lost := false }).porch.pwrEn = true := hen
    obtain ⟨utodo, upending, -, -, -, uporch⟩ := (s.setPorch { s.porch with lost := false }).startUp_kept
    rw [exec_voltageReturn, execVoltageReturn]
    refine act_exists rfl ?_ ?_ ?_ <;> rw [if_neg hlive, if_pos hgo]
    · exact utodo.trans hs
    · exact upending
    · exact ⟨by rw [uporch], by rw [uporch]; rfl, by rw [uporch]; simp⟩
  · obtain ⟨ltodo, lpending, lmem, -, -, lpower⟩ := s.powerLost_kept .off
    rw [exec_powerOff, execPowerOff]
    refine act_exists rfl ?_ ?_ ?_ <;> rw [if_neg hpower]
    · exact ltodo
    · exact lpending
    · exact ⟨lpower, lmem⟩
  · rw [exec_perstRelease, execPerstRelease]
    exact act_keeps rfl (if_pos hup) ⟨rfl, rfl⟩ hs

end Sys2Proof.Machine
end

section
/-! PROOFS. The mask ROM, the firmware's start and the release of the host (R392 to R400, R439). -/

namespace Sys2Proof.Machine

section
variable {s : State}

/-! ### The boot status and the blocks of an image -/

theorem State.status_setStatus (v : Nat) : (s.setStatus v).status = v := State.ent_setEnt_same _ _ _ _

/-- A stop of the ROM: the boot status and the alert. -/
theorem State.stop_kept (v : Nat) (a : Alert) :
    (((s.setPorch { s.porch with boot := .stopped }).setStatus v).alert a).todo = s.todo ∧
    (((s.setPorch { s.porch with boot := .stopped }).setStatus v).alert a).pending = s.pending ∧
    (((s.setPorch { s.porch with boot := .stopped }).setStatus v).alert a).status = v ∧
    (((s.setPorch { s.porch with boot := .stopped }).setStatus v).alert a).porch.boot = .stopped ∧
    a ∈ (((s.setPorch { s.porch with boot := .stopped }).setStatus v).alert a).porch.alerts := by
  unfold alert
  split
  · rename_i h
    exact ⟨rfl, rfl, State.status_setStatus v, rfl, List.contains_iff_mem.1 h⟩
  · exact ⟨rfl, rfl, State.status_setStatus v, rfl, List.mem_cons_self⟩

/-- A block is kept; the last one completes the image. -/
def State.keepBlock (s : State) (num : Nat) (bytes : Bytes) : State :=
  let s := s.setPorch { s.porch with blocks := tset num (padTo 1024 bytes) s.porch.blocks }
  if s.porch.blocks.length = s.porch.count then s.judgeImage else s

theorem exec_bootBlock_of_taken {id : BitVec 64} {num : Nat} (count : Nat) (bytes : Bytes) (hrole : s.romAt .role = true)
    (hstatus : s.status = 1) (hid : s.porch.imageId = some id) (hnum : num < s.porch.count) :
    exec (.bootBlock id num count bytes) s = act true (fun s => s.keepBlock num bytes) s := by
  have hat : (s.romAt .role && decide (s.status = 1)) = true := by simp [hrole, hstatus]
  have hsome : ¬ s.porch.imageId.isNone = true := by simp [hid]
  rw [exec_bootBlock, execBootBlock]
  refine act_congr ?_
  rw [if_pos hat, if_neg hsome]
  exact if_pos ⟨hid, hnum⟩

theorem State.judgeImage_kept (s : State) : s.judgeImage.todo = s.todo ∧ s.judgeImage.pending = s.pending ∧
    s.judgeImage.porch.blocks = [] ∧
    (imageCheck (s.porch.blocks.flatMap fun e => e.2) s.porch.count = 0 →
      s.judgeImage.status = 2 ∧ s.judgeImage.porch.boot = .accepted) ∧
    (imageCheck (s.porch.blocks.flatMap fun e => e.2) s.porch.count ≠ 0 →
      s.judgeImage.status = 7 ∧ s.judgeImage.porch.boot = s.porch.boot) := by
  unfold judgeImage
  dsimp only
  split
  · rename_i h
    exact ⟨rfl, rfl, rfl, fun _ => ⟨State.status_setStatus 2, rfl⟩, fun hn => absurd h hn⟩
  · rename_i h
    exact ⟨rfl, rfl, rfl, fun hz => absurd hz h, fun _ => ⟨State.status_setStatus 7, rfl⟩⟩

/-- Delivery starts again with no block. -/
theorem State.askImage_dropImage (s : State) : s.dropImage.askImage.todo = s.todo ∧
    s.dropImage.askImage.pending = s.pending ∧ s.dropImage.askImage.porch.imageId = none ∧
    s.dropImage.askImage.porch.blocks = [] ∧ s.dropImage.askImage.status = 1 :=
  ⟨rfl, rfl, rfl, rfl, State.status_setStatus 1⟩

/-- A module strapped as manager that hears no beacon is the segment's manager. -/
theorem State.takeRole_of_manager (h : s.porch.mgrSel = true) : s.takeRole false =
    { (s.setEnt 0x4400 1 1).setEnt 0x4400 2 0 with porch := { s.porch with boot := .role } } := by
  unfold takeRole
  extract_lets n bad role t
  have hrole : role = 1 := (if_pos h).trans rfl
  have ht : t = (s.setEnt 0x4400 1 1).setEnt 0x4400 2 0 := by
    simp only [t, hrole]
    rfl
  rw [ht]
  rfl

/-- A manager whose PUF gives the key of the Deed goes on; another key stops it. -/
theorem exec_identityDerive_of_match (hat : s.romAt .deed = true) (hmgr : s.porch.mgrSel = true)
    (hkey : Config.pufKey = s.idKey) : exec .identityDerive s =
      act true (fun s => s.setPorch { s.porch with boot := .identity, pufLocked := true }) s := by
  rw [exec_identityDerive, execIdentityDerive]
  exact act_congr ((if_pos hat).trans ((if_pos hkey).trans (if_pos hmgr)))

theorem exec_identityDerive_of_mismatch (hat : s.romAt .deed = true) (hkey : Config.pufKey ≠ s.idKey) :
    exec .identityDerive s = act true (fun s =>
      (((s.setPorch { s.porch with pufLocked := true }).setPorch
        { (s.setPorch { s.porch with pufLocked := true }).porch with boot := .stopped }).setStatus 6).alert .puf) s := by
  rw [exec_identityDerive, execIdentityDerive]
  exact act_congr ((if_pos hat).trans (if_neg hkey))

/-! ### The start of the firmware (R398, R399) -/

/-- What bringing the module up leaves of the state that the image was handed over in. -/
def State.bootView (s : State) := (s.todo, s.pending, s.porch.boot, s.porch.m1, s.on)

theorem State.bootView_logEntries (l : List (List (BitVec 64))) : (s.logEntries l).bootView = s.bootView := by
  have hinc (n : Nat) : (s.incEnt 0x5300 2 n).bootView = s.bootView := by
    simp [bootView, on]
  unfold logEntries
  dsimp only
  split
  · rfl
  · exact hinc _

theorem State.bootView_setRegF (pa hi lo v : Nat) : (s.setRegF pa hi lo v).bootView = s.bootView := rfl

theorem State.bootView_scrubStack (j : Nat) : (s.scrubStack j).bootView = s.bootView := by
  unfold scrubStack showStack
  dsimp only
  rw [bootView_setRegF, bootView_setRegF, bootView_setRegF, bootView_setRegF]
  rfl

/-- The first part of the bring-up: hallways, dies and stacks. -/
def State.bringLinks (s : State) : State :=
  let s := each [0, 1, 2, 3, 4, 5, 6, 7] (fun n s => s.setHall n 2) s
  let s := each [0, 1, 2, 3] (fun d s =>
    let r := (s.die d).retained
    (s.logEntries r).setDie d { Die.reset with beatAt := s.house }) s
  each (List.range 12) (fun j s => if (s.stack j).undefined then s.scrubStack j else s) s

theorem State.bootView_bringLinks (s : State) : s.bringLinks.bootView = s.bootView := by
  have hhalls (t : State) : (each [0, 1, 2, 3, 4, 5, 6, 7] (fun n s => s.setHall n 2) t).bootView = t.bootView :=
    each_keeps State.bootView (fun n t => t.setHall n 2) (fun _ _ => rfl) _ _
  have hdies (t : State) : (each [0, 1, 2, 3] (fun d s =>
      (s.logEntries (s.die d).retained).setDie d { Die.reset with beatAt := s.house }) t).bootView = t.bootView :=
    each_keeps State.bootView (fun d t => (t.logEntries (t.die d).retained).setDie d { Die.reset with beatAt := t.house })
      (fun _ t => t.bootView_logEntries _) _ _
  have hstacks (t : State) : (each (List.range 12) (fun j s => if (s.stack j).undefined then s.scrubStack j else s) t).bootView =
      t.bootView :=
    each_keeps State.bootView (fun j t => if (t.stack j).undefined then t.scrubStack j else t)
      (fun j t => by
        split
        · exact t.bootView_scrubStack j
        · rfl) _ _
  exact (hstacks _).trans ((hdies _).trans (hhalls s))

/-- The levels of the host die that the bring-up reports again: worn-out Cellar blocks, of class 0. -/
theorem State.bootView_reportLevels (s : State) :
    (s.reportLevels 4 0).bootView = s.bootView ∧ (s.reportLevels 4 0).firmware = s.firmware := by
  have hcap : ∀ r : Report, srcClass r.src.toNat < 2 →
      (s.capture 4 r).bootView = s.bootView ∧ (s.capture 4 r).firmware = s.firmware := fun r hc => by
    have hfirm : (s.capture 4 r).firmware = s.firmware :=
      s.capture_keeps State.firmware (fun _ _ _ => rfl) (fun _ _ => rfl) (fun _ _ _ _ _ => rfl) State.raise_firmware
        (fun t src pa v => t.msi_keeps State.firmware (fun _ _ => rfl) (fun _ _ => rfl) (fun _ _ _ => rfl) src pa v)
        (by decide) r fun _ _ _ => rfl
    refine ⟨?_, hfirm⟩
    unfold bootView on
    rw [s.capture_todo (by decide) r hc, s.capture_pending (by decide) r, s.capture_porch (by decide) r]
  have hlevels : s.levels 4 0 = [] ∨ s.levels 4 0 = [(16, plainReport 0x05 (agentNo 4 0x15 0))] := by
    unfold levels
    rw [if_neg (by decide)]
    split <;> simp
  unfold reportLevels
  obtain h | h := hlevels <;> rw [h]
  · exact ⟨rfl, rfl⟩
  · exact hcap _ (by decide)

theorem State.buildGeometry_keeps {γ : Type} (P : State → γ) (h : ∀ t i k v, P (State.setEnt t i k v) = P t) (s : State) :
    P s.buildGeometry = P s := by
  unfold buildGeometry
  dsimp only
  rw [each_keeps P _ fun d t => (h _ _ _ _).trans ((h _ _ _ _).trans (h t _ _ _)), h]

/-- The second part of the bring-up: the firmware runs, and the geometry table shows. -/
def State.bringFirmware (s : State) : State :=
  let s := { s with mgmt := { s.mgmt with sculleryUp := true } }
  let t := s.house / 1000000 * 1000000
  let s := s.reportLevels 4 0
  (s.buildGeometry.setCtl { Control.reset s.ctl.upAt t (t + 1000000) with ptpLocked := s.ctl.ptpLocked }).setStatus 4

theorem State.bringUp_eq (s : State) : s.bringUp = s.bringLinks.bringFirmware := by
  unfold bringUp
  extract_lets s₁ die s₂ t
  have ht : t = s.bringLinks := rfl
  clear_value t
  rw [← ht]
  rfl

theorem State.bringFirmware_kept (s : State) :
    s.bringFirmware.bootView = s.bootView ∧ s.bringFirmware.firmware = s.on ∧ s.bringFirmware.status = 4 := by
  obtain ⟨hview, hfirm⟩ := ({ s with mgmt := { s.mgmt with sculleryUp := true } } : State).bootView_reportLevels
  have hon : ({ s with mgmt := { s.mgmt with sculleryUp := true } } : State).firmware = s.on := Bool.and_true _
  unfold bringFirmware
  dsimp only
  generalize ({ s with mgmt := { s.mgmt with sculleryUp := true } } : State).reportLevels 4 0 = u at hview hfirm ⊢
  have hgeoView := u.buildGeometry_keeps State.bootView fun _ _ _ _ => rfl
  have hgeoFirm := u.buildGeometry_keeps State.firmware State.setEnt_firmware
  generalize u.buildGeometry = g at hgeoView hgeoFirm ⊢
  have hview' : g.bootView = s.bootView := hgeoView.trans hview
  have hfirm' : g.firmware = s.on := (hgeoFirm.trans hfirm).trans hon
  refine ⟨?_, ?_, State.status_setStatus 4⟩
  · rw [← hview']
    rfl
  · rw [← hfirm']
    rfl

theorem State.bringUp_kept (s : State) : s.bringUp.bootView = s.bootView ∧ s.bringUp.firmware = s.on ∧ s.bringUp.status = 4 := by
  obtain ⟨hview, hfirm, hstatus⟩ := s.bringLinks.bringFirmware_kept
  have hlinks := s.bootView_bringLinks
  rw [bringUp_eq]
  generalize s.bringLinks = t at *
  have hon : t.on = s.on := congrArg (fun v => v.2.2.2.2) hlinks
  exact ⟨hview.trans hlinks, hfirm.trans hon, hstatus⟩

/-- The measurements that the firmware inherits, as dictionary entries and blobs. -/
def State.inherit (s : State) (version security : Nat) (m1 key cert : Bytes) (owned : Bool) : State :=
  let s := (s.setEnt 0x9000 1 version).setEnt 0x9000 2 security
  let s := ((s.setBlob 0x9000 3 m1).setBlob 0x9000 4 key).setBlob 0x7020 1 cert
  if owned then s.setBlob 0x7010 1 key else s

theorem State.inherit_keeps {γ : Type} (P : State → γ) (hent : ∀ t i k v, P (State.setEnt t i k v) = P t)
    (hblob : ∀ t i k v, P (State.setBlob t i k v) = P t) (version security : Nat) (m1 key cert : Bytes) (owned : Bool) :
    P (s.inherit version security m1 key cert owned) = P s := by
  unfold inherit
  split <;> simp only [hent, hblob]

theorem State.handOver_eq (s : State) : s.handOver =
    (s.setPorch { s.porch with boot := .firmware, m1 := Config.sha512 s.porch.image }).inherit (fieldOf s.porch.image 8 4)
      (fieldOf s.porch.image 12 4) (Config.sha512 s.porch.image) (imageOkey s.porch.image) (Config.aliasCert s.porch.image)
      (imageOwner s.porch.image) := by
  unfold handOver inherit
  with_reducible rfl

theorem State.handOver_kept (s : State) : s.handOver.todo = s.todo ∧ s.handOver.pending = s.pending ∧
    s.handOver.porch.boot = .firmware ∧ s.handOver.porch.m1 = Config.sha512 s.porch.image ∧ s.handOver.on = s.on := by
  rw [State.handOver_eq]
  refine ⟨?_, ?_, ?_, ?_, ?_⟩
  · rw [State.inherit_keeps State.todo (fun _ _ _ _ => rfl) (fun _ _ _ _ => rfl), State.setPorch_todo]
  · rw [State.inherit_keeps State.pending (fun _ _ _ _ => rfl) (fun _ _ _ _ => rfl), State.setPorch_pending]
  · rw [State.inherit_keeps State.porch (fun _ _ _ _ => rfl) (fun _ _ _ _ => rfl)]
    rfl
  · rw [State.inherit_keeps State.porch (fun _ _ _ _ => rfl) (fun _ _ _ _ => rfl)]
    generalize Config.sha512 s.porch.image = m1
    rfl
  · rw [State.inherit_keeps State.on (fun _ _ _ _ => rfl) (fun _ _ _ _ => rfl)]
    generalize Config.sha512 s.porch.image = m1
    rfl

/-! ### The release of the host (R400) -/

theorem State.bootHost_of_image {src : Option Bytes} {o : Nat} {b : Bytes} (hup : s.firmware = true)
    (hperst : s.porch.perst = false) (hrel : s.porch.released = false) (himage : s.hostImage src = some (o, b)) :
    s.bootHost src = (({ s.unitStore sculleryWho (0x010000000000 + o) b false none with
      porch := { (s.unitStore sculleryWho (0x010000000000 + o) b false none).porch with
        released := true, hostHash := Config.sha512 b } } : State).setStatus 4) := by
  unfold bootHost
  rw [if_neg (by simp [hup, hperst, hrel]), himage]
  rfl

theorem State.bootHost_of_none {src : Option Bytes} (hup : s.firmware = true)
    (hperst : s.porch.perst = false) (hrel : s.porch.released = false) (himage : s.hostImage src = none) :
    s.bootHost src = s.setStatus 8 := by
  unfold bootHost
  rw [if_neg (by simp [hup, hperst, hrel]), himage]

end

/-- Settles O2: each event of the boot at the step that it finds. -/
theorem powerUpAndBoot : Obligations.PowerUpAndBoot := by
  unfold Obligations.PowerUpAndBoot
  constructor
  · intro s hs
    refine ⟨fun l hat => ?_, fun hat => ?_, fun hat hmgr => ?_, fun hat hmgr => ?_, fun hat hstatus => ?_,
      fun id num count bytes hat hstatus hid hnum hmissing => ?_, fun id num count bytes hat hstatus hid hnum hwhole => ?_,
      fun hat hstatus => ?_, fun hat hstatus => ?_⟩
    · rw [exec_romStart, execRomStart]
      exact act_keeps rfl (if_pos hat) ⟨rfl, rfl⟩ hs
    · rw [exec_deedRead, execDeedRead]
      cases hfind : [0, 1, 2].find? fun k => deedOk (Config.deedCopy k) with
      | some k =>
        refine act_exists rfl ?_ ?_ ?_ <;> rw [if_pos hat]
        · exact hs
        · rfl
        · have hok := List.find?_some hfind
          have hk : k < 3 := by
            have hmem := List.mem_of_find?_eq_some hfind
            simp only [List.mem_cons, List.not_mem_nil, or_false] at hmem
            omega
          exact ⟨fun j hj => by rw [← Option.some.inj hj]; rfl, fun hnone => absurd hok (by simp [hnone k hk])⟩
      | none =>
        obtain ⟨ktodo, kpending, kstatus, kboot, kalert⟩ := s.stop_kept 5 .deed
        refine act_exists rfl ?_ ?_ ?_ <;> rw [if_pos hat]
        · exact ktodo.trans hs
        · exact kpending
        · exact ⟨fun j hj => (nomatch hj), fun _ => ⟨kstatus, kboot, kalert⟩⟩
    · by_cases hkey : Config.pufKey = s.idKey
      · rw [exec_identityDerive_of_match hat hmgr hkey]
        exact act_exists rfl hs rfl ⟨fun _ => rfl, fun h => absurd hkey h⟩
      · obtain ⟨ktodo, kpending, kstatus, kboot, kalert⟩ := (s.setPorch { s.porch with pufLocked := true }).stop_kept 6 .puf
        rw [exec_identityDerive_of_mismatch hat hkey]
        exact act_exists rfl (ktodo.trans hs) kpending ⟨fun h => absurd h hkey, fun _ => ⟨kstatus, kboot, kalert⟩⟩
    · rw [exec_roleResolve, execRoleResolve]
      refine act_keeps rfl ((if_pos hat).trans ?_) ⟨rfl, rfl⟩ hs
      have hrole : (s.takeRole false).ent 0x4400 1 = 1 := by
        have hne : dictKey 0x4400 1 ≠ dictKey 0x4400 2 := by decide
        have hent : ((s.setEnt 0x4400 1 1).setEnt 0x4400 2 0).ent 0x4400 1 = 1 := by
          rw [State.ent_setEnt_ne _ _ _ _ _ _ hne, State.ent_setEnt_same]
        rw [State.takeRole_of_manager hmgr]
        exact hent
      rw [if_neg (by rw [hrole]; decide), State.takeRole_of_manager hmgr]
    · rw [exec_bootRequest, execBootRequest]
      exact act_keeps rfl (if_pos (by simp [hat, hstatus])) ⟨rfl, rfl⟩ hs
    · rw [exec_bootBlock_of_taken count bytes hat hstatus hid hnum]
      exact act_keeps rfl (if_neg hmissing) ⟨rfl, rfl⟩ hs
    · obtain ⟨jtodo, jpending, jblocks, jgood, jbad⟩ :=
        (s.setPorch { s.porch with blocks := tset num (padTo 1024 bytes) s.porch.blocks }).judgeImage_kept
      have hboot : s.porch.boot = .role := by
        simp only [State.romAt, Bool.and_eq_true, decide_eq_true_eq] at hat
        exact hat.2
      have hlast : s.keepBlock num bytes =
          (s.setPorch { s.porch with blocks := tset num (padTo 1024 bytes) s.porch.blocks }).judgeImage := if_pos hwhole
      rw [exec_bootBlock_of_taken count bytes hat hstatus hid hnum]
      refine act_exists rfl ?_ ?_ ?_ <;> rw [hlast]
      · exact jtodo.trans hs
      · exact jpending
      · exact ⟨jblocks, jgood, fun h => ⟨(jbad h).1, (jbad h).2.trans hboot⟩⟩
    · obtain ⟨dtodo, dpending, did, dblocks, dstatus⟩ := s.askImage_dropImage
      have hnow : (s.romAt .role && decide (s.status = 1)) = true := by simp [hat, hstatus]
      rw [exec_bootTimeout, execBootTimeout]
      refine act_exists rfl ?_ ?_ ?_ <;> rw [if_pos hnow]
      · exact dtodo.trans hs
      · exact dpending
      · exact ⟨did, dblocks, dstatus⟩
    · obtain ⟨dtodo, dpending, did, dblocks, dstatus⟩ := s.askImage_dropImage
      have hnow : (s.romAt .role && decide (s.status = 7)) = true := by simp [hat, hstatus]
      rw [exec_imageRetry, execImageRetry]
      refine act_exists rfl ?_ ?_ ?_ <;> rw [if_pos hnow]
      · exact dtodo.trans hs
      · exact dpending
      · exact ⟨did, dblocks, dstatus⟩
  · intro s hs
    refine ⟨fun hat => ?_, fun src o b hstatus hup hperst hrel himage => ?_, fun src o b hstatus hup hperst hrel himage => ?_,
      fun src hstatus hup hperst hrel himage => ?_⟩
    · obtain ⟨htodo, hpending, hboot, hm1, hon⟩ := s.handOver_kept
      obtain ⟨uview, ufirm, ustatus⟩ := s.handOver.bringUp_kept
      simp only [State.bootView, Prod.mk.injEq] at uview
      obtain ⟨utodo, upending, uboot, um1, -⟩ := uview
      have hrun : s.on = true := by
        simp only [State.romAt, Bool.and_eq_true] at hat
        exact hat.1
      rw [exec_firmwareStart, execFirmwareStart]
      refine act_exists rfl ?_ ?_ ?_ <;> rw [if_pos hat]
      · exact (utodo.trans htodo).trans hs
      · exact upending.trans hpending
      · exact ⟨ustatus, uboot.trans hboot, um1.trans hm1, (ufirm.trans hon).trans hrun⟩
    · rw [exec_hostRelease, execHostRelease]
      exact act_gives_of rfl ((if_pos hstatus).trans (State.bootHost_of_image hup hperst hrel himage))
    · rw [exec_hostBootRetry, execHostBootRetry]
      exact act_gives_of rfl ((if_pos hstatus).trans (State.bootHost_of_image hup hperst hrel himage))
    · rw [exec_hostRelease, execHostRelease]
      exact act_keeps rfl ((if_pos hstatus).trans (State.bootHost_of_none hup hperst hrel himage)) ⟨rfl, rfl⟩ hs

end Sys2Proof.Machine
end

section
/-! PROOFS. Step pulses, the step length, ledger slots and the ledger ring (R357, R358, R381, R384). -/

namespace Sys2Proof.Machine

section
variable {s : State}

/-! ### Pulses of STEP_SYNC_IN (R381) -/

/-- The entries a pulse near the later boundary sets: its offset and the lock. -/
def State.notePulse (s : State) (e : Int) : State :=
  let s := s.setEnt 0x4310 4 (ofSigned 32 e)
  if s.ent 0x4310 3 = 1 then s else s.setEnt 0x4310 3 1

theorem State.notePulse_lock (e : Int) : (s.notePulse e).ent 0x4310 3 = 1 := by
  unfold notePulse
  dsimp only
  split
  · assumption
  · exact State.ent_setEnt_same _ _ _ _

theorem State.notePulse_offset (e : Int) : (s.notePulse e).ent 0x4310 4 = ofSigned 32 e := by
  unfold notePulse
  dsimp only
  split
  · exact State.ent_setEnt_same _ _ _ _
  · rw [State.ent_setEnt_ne _ _ _ _ _ _ (by decide)]
    exact State.ent_setEnt_same _ _ _ _

theorem State.notePulse_stepNo (e : Int) : (s.notePulse e).stepNo = s.stepNo := by
  have hoff : (s.setEnt 0x4310 4 (ofSigned 32 e)).stepNo = s.stepNo := State.ent_setEnt_ne _ _ _ _ _ _ (by decide)
  unfold notePulse
  dsimp only
  split
  · exact hoff
  · exact (State.ent_setEnt_ne _ _ _ _ _ _ (by decide)).trans hoff

theorem State.notePulse_todo (e : Int) : (s.notePulse e).todo = s.todo := by
  unfold notePulse
  dsimp only
  split <;> rfl

theorem State.notePulse_pending (e : Int) : (s.notePulse e).pending = s.pending := by
  unfold notePulse
  dsimp only
  split <;> rfl

/-- The next boundary as a pulse with the offset `e` moves it: by at most a sixteenth of the step. -/
def State.movedBound (s : State) (e : Int) : Nat :=
  ((s.ctl.nextBound : Int) + max (-((s.ctl.len / 16 : Nat) : Int)) (min ((s.ctl.len / 16 : Nat) : Int) e)).toNat

theorem State.syncPulse_of_unheard {t h : Nat} (hq : s.on = false ∨ s.ent 0x4310 8 = 0 ∨ h < 200) : s.syncPulse t h = s := by
  unfold syncPulse
  rw [if_pos (by simpa [or_assoc] using hq)]

/-- A pulse heard nearest the later boundary, before the choice by what came before and by its offset. -/
theorem State.syncPulse_of_later {t h : Nat} (hon : s.on = true) (hsel : s.ent 0x4310 8 ≠ 0) (hh : 200 ≤ h)
    (hlater : s.ctl.prevBound + s.ctl.nextBound ≤ 2 * t) :
    s.syncPulse t h =
      if s.ctl.early then (s.advance t).incEnt 0x4310 7 1
      else
        let x := (s.advance t).notePulse ((t : Int) - s.ctl.nextBound)
        if 4 * ((t : Int) - s.ctl.nextBound).natAbs ≤ s.ctl.len then
          x.setCtl { s.ctl with nextBound := s.movedBound ((t : Int) - s.ctl.nextBound), early := true }
        else
          let y := (x.incEnt 0x4310 5 1).setCtl { s.ctl with nextBound := t, early := true }
          y.raise 0x4310 5 2 (y.ent 0x4310 5) := by
  unfold syncPulse notePulse movedBound
  rw [if_neg (by simp [hon, hsel, hh])]
  simp only [State.advance_ctl, ge_iff_le, hlater, decide_true, if_true]
  rfl

theorem State.syncPulse_of_near {t h : Nat} (hon : s.on = true) (hsel : s.ent 0x4310 8 ≠ 0) (hh : 200 ≤ h)
    (hlater : s.ctl.prevBound + s.ctl.nextBound ≤ 2 * t) (hearly : s.ctl.early = false)
    (hnear : 4 * ((t : Int) - s.ctl.nextBound).natAbs ≤ s.ctl.len) :
    s.syncPulse t h = ((s.advance t).notePulse ((t : Int) - s.ctl.nextBound)).setCtl
      { s.ctl with nextBound := s.movedBound ((t : Int) - s.ctl.nextBound), early := true } := by
  rw [State.syncPulse_of_later hon hsel hh hlater, hearly]
  dsimp only
  rw [if_neg Bool.false_ne_true, if_pos hnear]

/-- A pulse far from its boundary restarts the step at its own time, and is an event. -/
theorem State.syncPulse_of_far {t h : Nat} (hon : s.on = true) (hsel : s.ent 0x4310 8 ≠ 0) (hh : 200 ≤ h)
    (hlater : s.ctl.prevBound + s.ctl.nextBound ≤ 2 * t) (hearly : s.ctl.early = false)
    (hfar : s.ctl.len < 4 * ((t : Int) - s.ctl.nextBound).natAbs) :
    s.syncPulse t h =
      let x := (((s.advance t).notePulse ((t : Int) - s.ctl.nextBound)).incEnt 0x4310 5 1).setCtl
        { s.ctl with nextBound := t, early := true }
      x.raise 0x4310 5 2 (x.ent 0x4310 5) := by
  rw [State.syncPulse_of_later hon hsel hh hlater, hearly]
  dsimp only
  rw [if_neg Bool.false_ne_true, if_neg (Nat.not_le.2 hfar)]

/-! ### The step length (R384) -/

theorem State.writeStepLen_of_range {v : Nat} (h : v < 100000 ∨ 100000000 < v ∨ v % 1000 ≠ 0) :
    s.writeStepLen v = (.range, s) := by
  unfold writeStepLen
  rw [if_pos h]

theorem State.writeStepLen_of_quiet {v : Nat} (hlo : 100000 ≤ v) (hhi : v ≤ 100000000) (hmul : v % 1000 = 0)
    (hquiet : ∀ i, i < 4 → s.ent 0x2100 (i + 1) = 0 ∧ s.ep i 3 = 0) :
    s.writeStepLen v = (.ok, (s.setEnt 0x4310 1 v).setCtl { s.ctl with lenNext := some (v, 2) }) := by
  unfold writeStepLen
  rw [if_neg (by omega), if_neg]
  simp only [Bool.or_eq_true, List.any_eq_true, List.mem_range, decide_eq_true_eq, not_or, not_exists, not_and, Classical.not_not]
  exact ⟨fun i hi => (hquiet i hi).1, fun i hi => (hquiet i hi).2⟩

/-- While a fleet job runs or an epoch is open, the step length stays. -/
theorem State.writeStepLen_of_busy (v : Nat) {i : Nat} (hi : i < 4) (hbusy : s.ent 0x2100 (i + 1) ≠ 0 ∨ s.ep i 3 ≠ 0) :
    (s.writeStepLen v).2 = s := by
  have hany : (((List.range 4).any fun i => s.ent 0x2100 (i + 1) ≠ 0) || ((List.range 4).any fun i => s.ep i 3 ≠ 0)) = true := by
    simp only [Bool.or_eq_true, List.any_eq_true, List.mem_range, decide_eq_true_eq]
    exact hbusy.imp (fun h => ⟨i, hi, h⟩) (fun h => ⟨i, hi, h⟩)
  unfold writeStepLen
  rw [if_pos hany]
  split <;> rfl

/-! ### Ledger slots and the ledger ring (R357, R358) -/

theorem State.writeLedger_of_nil (h : s.ctl.ledger = []) : s.writeLedger = s := by
  unfold writeLedger
  rw [h]
  split <;> rfl

theorem State.writeLedger_of_disabled (h : s.ent 0x6000 7 = 0) : s.writeLedger = s := by
  unfold writeLedger
  split
  · rfl
  · split
    · rfl
    · exact if_pos (.inl h)

theorem State.writeLedger_of_cons {r : List (BitVec 64)} {rest : List (List (BitVec 64))} (hon : s.on = true)
    (hl : s.ctl.ledger = r :: rest) (hen : s.ent 0x6000 7 ≠ 0)
    (hroom : (s.ent 0x6000 4 + 1) % 2 ^ s.ent 0x6000 2 ≠ s.ent 0x6000 3 % 2 ^ s.ent 0x6000 2) :
    s.writeLedger =
      let x := (s.putRecord r).ledgerOn (s.ent 0x6000 4) (2 ^ s.ent 0x6000 2) rest
      if fld (lget 0#64 r 0).toNat 55 54 = 2 ∧ s.ent 0x6000 5 ≠ 0 then x.msi 4 (s.ent 0x6000 5) (s.ent 0x6000 6) else x := by
  unfold writeLedger
  rw [if_neg (by simp [hon]), hl]
  dsimp only
  rw [if_neg (by simp [hen, hroom])]

theorem State.ledgerOn_ent (tail n : Nat) (rest : List (List (BitVec 64))) :
    (s.ledgerOn tail n rest).ent 0x6000 4 = if tail + 1 = n then 0 else tail + 1 := by
  unfold ledgerOn
  dsimp only
  rw [State.setCtl_ent, State.ent_setEnt_same]
  simp only [decide_eq_true_eq]

theorem State.ledgerOn_lphase (tail n : Nat) (rest : List (List (BitVec 64))) :
    (s.ledgerOn tail n rest).ctl.lphase = if tail + 1 = n then !s.ctl.lphase else s.ctl.lphase := by
  unfold ledgerOn State.setCtl
  simp only [decide_eq_true_eq, State.setEnt_ctl]

end

/-- Settles O46: the conditions of each operation decide its branch; the near pulse is followed through the entries it
writes, and a far one through its event, which leaves the control block. -/
theorem stepsAndLedger : Obligations.StepsAndLedger := by
  unfold Obligations.StepsAndLedger
  intro s hs
  refine ⟨?_, ?_, ?_, ?_, ?_, ?_, ?_, ?_, ?_, ?_, ?_, ?_, ?_⟩
  · intro t h hq
    rw [exec_stepSyncPulse, execStepSyncPulse]
    exact act_stays rfl (State.syncPulse_of_unheard hq) hs
  · intro t h hon hsel hh hlater hearly
    rw [exec_stepSyncPulse, execStepSyncPulse]
    refine act_keeps rfl ?_ (by simp) hs
    rw [State.syncPulse_of_later hon hsel hh hlater, if_pos hearly]
  · intro t h hon hsel hh hlater hearly hnear
    rw [exec_stepSyncPulse, execStepSyncPulse]
    refine act_exists rfl ?_ ?_ ?_ <;> rw [State.syncPulse_of_near hon hsel hh hlater hearly hnear]
    · rw [State.setCtl_todo, State.notePulse_todo, State.advance_todo, hs]
    · rw [State.setCtl_pending, State.notePulse_pending, State.advance_pending]
    · refine ⟨?_, ?_, rfl, rfl, ?_⟩
      · rw [State.setCtl_ent, State.notePulse_lock]
      · rw [State.setCtl_ent, State.notePulse_offset]
      · exact (State.notePulse_stepNo _).trans (by unfold State.stepNo State.ent; rw [State.advance_od])
  · intro t h hon hsel hh hlater hearly hfar
    rw [exec_stepSyncPulse, execStepSyncPulse]
    refine act_exists rfl ?_ ?_ ?_ <;> rw [State.syncPulse_of_far hon hsel hh hlater hearly hfar]
    · dsimp only
      rw [State.raise_todo, State.setCtl_todo, State.incEnt_todo, State.notePulse_todo, State.advance_todo, hs]
    · dsimp only
      rw [State.raise_pending, State.setCtl_pending, State.incEnt_pending, State.notePulse_pending, State.advance_pending]
    · dsimp only
      rw [State.raise_ctl]
      exact ⟨rfl, rfl, rfl⟩
  · intro v hfw hv
    rw [exec_stepLengthWrite, execStepLengthWrite]
    refine ⟨act_stays rfl ?_ hs, ?_⟩ <;> rw [State.writeStepLen_of_range hv]
    exact if_pos hfw
  · intro v hfw hlo hhi hmul hquiet
    rw [exec_stepLengthWrite, execStepLengthWrite]
    refine act_keeps rfl ?_ ⟨rfl, rfl⟩ hs
    rw [if_pos hfw, State.writeStepLen_of_quiet hlo hhi hmul hquiet]
  · intro v i hi hbusy
    rw [exec_stepLengthWrite, execStepLengthWrite]
    refine act_stays rfl ?_ hs
    rw [State.writeStepLen_of_busy v hi hbusy, ite_self]
  · intro i hfw
    rw [exec_slotFree, execSlotFree]
    refine act_exists rfl ?_ ?_ ?_ <;> rw [if_pos hfw, State.freeSlot]
    · exact hs
    · rfl
    · refine ⟨fun e he => ?_, fun e he hne => ?_, rfl, rfl, rfl⟩
      · simpa using (List.mem_filter.1 he).2
      · exact List.mem_filter.2 ⟨he, by simpa using hne⟩
  · intro hl
    rw [exec_ledgerRecordWrite, execLedgerRecordWrite]
    exact act_stays rfl (State.writeLedger_of_nil hl) hs
  · intro hen
    rw [exec_ledgerRecordWrite, execLedgerRecordWrite]
    exact act_stays rfl (State.writeLedger_of_disabled hen) hs
  · intro r rest hon hl hen hroom
    rw [exec_ledgerRecordWrite, execLedgerRecordWrite]
    refine ⟨fun hno => act_gives_of rfl ?_, fun hmsi hhouse => act_gives_of rfl ?_⟩ <;>
      rw [State.writeLedger_of_cons hon hl hen hroom]
    · exact if_neg fun h => hno.elim h.2 (fun hne => hne h.1)
    · exact if_pos ⟨hhouse, hmsi⟩
  · intro tail n rest hne
    rw [State.ledgerOn_ent, State.ledgerOn_lphase, if_neg hne, if_neg hne]
    exact ⟨rfl, rfl⟩
  · intro tail n rest heq
    rw [State.ledgerOn_ent, State.ledgerOn_lphase, if_pos heq, if_pos heq]
    exact ⟨rfl, rfl⟩

end Sys2Proof.Machine
end

section
/-! PROOFS. Host core frequencies and the messages of a fleet job (R340 to R344, R366). -/

namespace Sys2Proof.Machine

section
variable {s : State}

/-! ### Host core frequencies (R340) -/

theorem State.hostCap_bounds (s : State) : 400 ≤ s.hostCap ∧ s.hostCap ≤ 3200 := by
  unfold hostCap
  split <;> decide

/-- A grant is the floor of the bands, or the least of request, band cap and cluster cap in steps of 50 MHz. -/
theorem State.grant_bounds (c : Nat) : 400 ≤ s.grant c ∧ s.grant c ≤ 3200 ∧ s.grant c % 50 = 0 ∧
    (400 ≤ s.ent 0x2020 (c + 1) → s.grant c ≤ s.ent 0x2020 (c + 1)) ∧ s.grant c ≤ s.hostCap ∧
    (s.ctl.missed = true → s.grant c ≤ 1000) ∧
    (s.ctl.missed = false → 400 ≤ tget 0 s.ctl.hcoreCaps c → s.grant c ≤ tget 0 s.ctl.hcoreCaps c) := by
  obtain ⟨hlo, hhi⟩ := s.hostCap_bounds
  have hsteps : ∀ n, n / 50 * 50 ≤ n ∧ n / 50 * 50 % 50 = 0 := fun n => by omega
  have hgrant : ∀ cap, cap = (if s.ctl.missed then 1000 else if tget 0 s.ctl.hcoreCaps c = 0 then 3200 else tget 0 s.ctl.hcoreCaps c) →
      s.grant c = max 400 (min (s.ent 0x2020 (c + 1)) (min s.hostCap cap) / 50 * 50) := fun cap hcap => by rw [hcap]; rfl
  obtain ⟨cap, hcap⟩ : ∃ cap, cap = (if s.ctl.missed then 1000 else if tget 0 s.ctl.hcoreCaps c = 0 then 3200
    else tget 0 s.ctl.hcoreCaps c) := ⟨_, rfl⟩
  rw [hgrant cap hcap]
  obtain ⟨hle, hmod⟩ := hsteps (min (s.ent 0x2020 (c + 1)) (min s.hostCap cap))
  refine ⟨Nat.le_max_left _ _, by omega, ?_, fun hreq => by omega, by omega, fun hm => ?_, fun hm hown => ?_⟩
  · rw [Nat.max_def]
    split
    · exact hmod
    · rfl
  · rw [if_pos hm] at hcap
    omega
  · rw [if_neg (by simp [hm]), if_neg (by omega)] at hcap
    omega

/-! ### A FREQ_SET (R342) -/

/-- Taking a FREQ_SET writes the fleet machinery of suites alone. -/
theorem State.takeFreq_keeps {γ : Type} (P : State → γ) (hset : ∀ t i f, P (State.setFleet t i f) = P t) (job mhz b : Nat) :
    P (s.takeFreq job mhz b) = P s := by
  refine each_keeps P _ (fun i t => ?_) _ s
  dsimp only
  split <;> exact hset _ _ _

theorem State.takeFreq_todo (job mhz b : Nat) : (s.takeFreq job mhz b).todo = s.todo :=
  State.takeFreq_keeps State.todo (fun _ _ _ => rfl) job mhz b

theorem State.takeFreq_pending (job mhz b : Nat) : (s.takeFreq job mhz b).pending = s.pending :=
  State.takeFreq_keeps State.pending (fun _ _ _ => rfl) job mhz b

theorem State.takeFreq_firmware (job mhz b : Nat) : (s.takeFreq job mhz b).firmware = s.firmware :=
  State.takeFreq_keeps State.firmware (fun _ _ _ => rfl) job mhz b

theorem State.fleetOf_takeFreq_of_not_mem {job i : Nat} (mhz b : Nat) (h : i ∉ s.jobSuites job) :
    (s.takeFreq job mhz b).fleetOf i = s.fleetOf i := by
  refine each_keeps_of_mem (fun t => t.fleetOf i) _ (fun x hx t => ?_) s
  have hne : i ≠ x := fun he => h (he ▸ hx)
  dsimp only
  split <;> rw [State.fleetOf_setFleet, if_neg hne]

/-- Every suite of the job stages the frequency for its step, or for the second next one when that step is near. -/
theorem State.byStep_takeFreq_of_mem {job i : Nat} (mhz b : Nat) (h : i ∈ s.jobSuites job) :
    ((s.takeFreq job mhz b).fleetOf i).byStep = some (if s.stepNo + 1 < b then (b, mhz, false) else (s.stepNo + 2, mhz, true)) := by
  have hset : ∀ t : State, t.stepNo = s.stepNo → ∀ x, ((if t.stepNo + 1 < b then t.setFleet x { t.fleetOf x with byStep := some (b, mhz, false) }
      else t.setFleet x { t.fleetOf x with byStep := some (t.stepNo + 2, mhz, true) }).fleetOf i).byStep =
      if i = x then some (if s.stepNo + 1 < b then (b, mhz, false) else (s.stepNo + 2, mhz, true)) else (t.fleetOf i).byStep := by
    intro t ht x
    rw [ht]
    split <;> rw [State.fleetOf_setFleet] <;> split <;> rfl
  refine each_establishes (fun t : State => t.stepNo = s.stepNo)
    (fun t => (t.fleetOf i).byStep = some (if s.stepNo + 1 < b then (b, mhz, false) else (s.stepNo + 2, mhz, true)))
    _ h ?_ ?_ ?_ rfl
  · intro x _ t ht
    dsimp only
    split <;> exact ht
  · intro t ht
    exact (hset t ht i).trans (if_pos rfl)
  · intro x _ t ht hbefore
    exact (hset t ht x).trans (by rw [hbefore, ite_self])

theorem State.hearFreq_of_unfit {src job mhz b : Nat} (h : mhz < 600 ∨ 2000 < mhz ∨ mhz % 25 ≠ 0) :
    s.hearFreq src job mhz b = s := by
  have hunfit : (decide (600 ≤ mhz) && decide (mhz ≤ 2000) && decide (mhz % 25 = 0)) = false := by
    simp only [Bool.and_eq_false_iff, decide_eq_false_iff_not]
    omega
  unfold hearFreq
  rw [hunfit, Bool.not_false, Bool.or_true, if_pos rfl]

theorem State.hearFreq_of_stranger {src job mhz b : Nat} (hman : s.manager = false) (hsrc : src ≠ 0xFFFF) :
    s.hearFreq src job mhz b = s := by
  unfold hearFreq
  rw [if_neg (Bool.eq_false_iff.1 hman), if_neg hsrc, ite_self]

theorem State.hearFreq_of_manager {job mhz b : Nat} (hfw : s.firmware = true) (hlo : 600 ≤ mhz) (hhi : mhz ≤ 2000)
    (hstep : mhz % 25 = 0) (hman : s.manager = false) : s.hearFreq 0xFFFF job mhz b = s.takeFreq job mhz b := by
  unfold hearFreq
  rw [if_neg (by simp [hfw, hlo, hhi, hstep]), if_neg (Bool.eq_false_iff.1 hman), if_pos rfl]

theorem State.ackNotice_of_firmware (op : Nat) (h : s.firmware = true) : s.ackNotice op = s.emit (.acked op) := if_pos h

/-! ### Settings at a boundary (R337, R342) and laggards (R343) -/

theorem State.sustainable_of_half {i k : Nat} (hf : (s.fleetOf i).freq = 2000) (hk : k ≠ 0) (hskip : s.suiteSkip i = (8 * k, k)) :
    s.sustainable i 1 = 1000 := by
  have hless : lessSkip 2000 (8 * k, k) = 1000 := by
    have hpos : 0 < 16 * k := by omega
    have hhalf : 2000 * (16 * k - 8 * k) = 1000 * (16 * k) := by omega
    unfold lessSkip
    rw [if_neg hk]
    dsimp only
    rw [hhalf, Nat.mul_div_cancel _ hpos]
  have hbit : bitOf 1 0 = true := by decide
  unfold sustainable
  dsimp only
  rw [hf, hskip, hless, if_pos hbit, if_neg (by decide)]
  rfl

theorem State.le_sustainable (i c : Nat) : 600 ≤ s.sustainable i c := by
  have hmin : ∀ f, 600 ≤ sustain f := fun f => Nat.le_max_left _ _
  unfold sustainable
  refine Nat.le_min.2 ⟨?_, ?_⟩ <;> split
  · exact hmin _
  · decide
  · exact hmin _
  · decide

end

/-- A suite's settings at a boundary but for a FREQ_SET that waits for its step. -/
def Fleet.settled (f : Fleet) : Fleet :=
  let due := f.due.map fun x => (x.1 - 1, x.2)
  let f := (due.filter fun x => x.1 = 0).foldl (fun (f : Fleet) x => f.take x.2.1 x.2.2) f
  let f := { f with due := due.filter fun x => x.1 ≠ 0, move := f.move - 1 }
  match f.heldDue with
  | some (k, h) => if k ≤ 1 then { f with held := h, heldDue := none } else { f with heldDue := some (k - 1, h) }
  | none => f

theorem Fleet.atBoundary_eq (f : Fleet) (n : Nat) : f.atBoundary n =
    match f.settled.byStep with
    | some (b, mhz, _) =>
      if n < b then f.settled else { f.settled with byStep := none, freq := mhz, openF := max f.settled.openF mhz }
    | none => f.settled := rfl

theorem Fleet.take_byStep (f : Fleet) (idx v : Nat) : (f.take idx v).byStep = f.byStep := by
  unfold take
  split
  · rfl
  · split <;> rfl

theorem Fleet.foldl_take_byStep (l : List (Nat × Nat × Nat)) (f : Fleet) :
    (l.foldl (fun (f : Fleet) x => f.take x.2.1 x.2.2) f).byStep = f.byStep := by
  induction l generalizing f with
  | nil => rfl
  | cons x l ih => exact (ih _).trans (f.take_byStep _ _)

theorem Fleet.settled_byStep (f : Fleet) : f.settled.byStep = f.byStep := by
  have htake := Fleet.foldl_take_byStep ((f.due.map fun x => (x.1 - 1, x.2)).filter fun x => x.1 = 0) f
  unfold settled
  dsimp only
  split
  · split <;> exact htake
  · exact htake

/-- What a held frequency that falls due changes is the held frequency alone. -/
theorem Fleet.settled_eq_of_due (f : Fleet) :
    (f.settled.freq = (((f.due.map fun x => (x.1 - 1, x.2)).filter fun x => x.1 = 0).foldl
      (fun (f : Fleet) x => f.take x.2.1 x.2.2) f).freq ∧
    f.settled.mode = (((f.due.map fun x => (x.1 - 1, x.2)).filter fun x => x.1 = 0).foldl
      (fun (f : Fleet) x => f.take x.2.1 x.2.2) f).mode) ∧
    f.settled.due = (f.due.map fun x => (x.1 - 1, x.2)).filter fun x => x.1 ≠ 0 := by
  unfold settled
  dsimp only
  split
  · split <;> exact ⟨⟨rfl, rfl⟩, rfl⟩
  · exact ⟨⟨rfl, rfl⟩, rfl⟩

theorem Fleet.atBoundary_of_none {f : Fleet} (n : Nat) (h : f.byStep = none) : f.atBoundary n = f.settled := by
  rw [Fleet.atBoundary_eq, Fleet.settled_byStep, h]

theorem Fleet.atBoundary_of_byStep {f : Fleet} (n : Nat) {b mhz : Nat} {l : Bool} (h : f.byStep = some (b, mhz, l)) :
    f.atBoundary n =
      if n < b then f.settled else { f.settled with byStep := none, freq := mhz, openF := max f.settled.openF mhz } := by
  rw [Fleet.atBoundary_eq, Fleet.settled_byStep, h]

/-- Settles O47: a grant is bounded by each of its caps; a FREQ_SET writes the suites of its job alone, and the settings of
a suite at a boundary split into those that are due and the FREQ_SET whose step has come. -/
theorem fleetFrequencies : Obligations.FleetFrequencies := by
  unfold Obligations.FleetFrequencies
  intro s hs
  refine ⟨?_, ?_, ?_, ?_, ?_, ?_, ?_, ?_, ?_, ?_, ?_, ?_, ?_, ?_, ?_⟩
  · intro c mhz hc hon hlo hhi
    rw [exec_hcoreFreqRequest, execHcoreFreqRequest]
    refine act_keeps (decide_eq_true hc) ?_ ⟨rfl, rfl⟩ hs
    rw [if_pos (by simp [hon, hlo, hhi])]
  · intro c mhz hc hout
    rw [exec_hcoreFreqRequest, execHcoreFreqRequest]
    refine act_stays (decide_eq_true hc) ?_ hs
    rw [if_neg (by simp only [Bool.and_eq_true, decide_eq_true_eq]; omega)]
  · intro c hc hon
    have hne : dictKey 0x2021 (c + 1) ≠ dictKey 0x1110 (3 + c) := by unfold dictKey; omega
    rw [exec_hcoreGrantApply, execHcoreGrantApply]
    refine act_exists (decide_eq_true hc) ?_ ?_ ?_ <;> rw [if_pos hon]
    · exact hs
    · rfl
    · refine ⟨?_, State.ent_setEnt_same _ _ _ _, rfl, rfl⟩
      rw [State.ent_setEnt_ne _ _ _ _ _ _ hne, State.ent_setEnt_same]
  · exact fun c => State.grant_bounds c
  · intro src job mhz b hfw hunfit
    rw [exec_freqSet, execFreqSet]
    refine act_keeps rfl ?_ ⟨rfl, rfl⟩ hs
    rw [State.hearFreq_of_unfit hunfit, State.ackNotice_of_firmware _ hfw]
  · intro job mhz b hfw hlo hhi hstep hman
    rw [exec_freqSet, execFreqSet]
    refine act_keeps rfl ?_ ⟨State.takeFreq_todo _ _ _, State.takeFreq_pending _ _ _⟩ hs
    rw [State.hearFreq_of_manager hfw hlo hhi hstep hman,
      State.ackNotice_of_firmware _ ((State.takeFreq_firmware _ _ _).trans hfw)]
  · intro src job mhz b hfw hman hsrc
    rw [exec_freqSet, execFreqSet]
    refine act_keeps rfl ?_ ⟨rfl, rfl⟩ hs
    rw [State.hearFreq_of_stranger hman hsrc, State.ackNotice_of_firmware _ hfw]
  · exact fun job mhz b i hi => State.byStep_takeFreq_of_mem mhz b hi
  · exact fun job mhz b i hi => State.fleetOf_takeFreq_of_not_mem mhz b hi
  · intro job c mhz st ser hfw
    refine ⟨fun hman => ?_, fun hman => ?_⟩
    · have hboth : (s.firmware && s.manager) = true := by rw [hfw, hman]; rfl
      rw [exec_laggard, execLaggard, exec_laggardClear, execLaggardClear, exec_freqLate, execFreqLate]
      exact ⟨act_gives_of rfl (by rw [if_pos hboth]), act_gives_of rfl (by rw [if_pos hboth]),
        act_gives_of rfl (by rw [if_pos hboth])⟩
    · have hnot : ¬ (s.firmware && s.manager) = true := by rw [hman, Bool.and_false]; exact Bool.false_ne_true
      rw [exec_laggard, execLaggard, exec_laggardClear, execLaggardClear, exec_freqLate, execFreqLate]
      refine ⟨act_keeps rfl ?_ ⟨rfl, rfl⟩ hs, act_keeps rfl ?_ ⟨rfl, rfl⟩ hs, act_keeps rfl ?_ ⟨rfl, rfl⟩ hs⟩ <;>
        rw [if_neg hnot, State.ackNotice_of_firmware _ hfw]
  · exact fun i k hf hk hskip => State.sustainable_of_half hf hk hskip
  · intro f n b mhz l hby
    rw [Fleet.atBoundary_of_byStep n hby]
    refine ⟨fun hle => ?_, fun hlt => ?_⟩
    · rw [if_neg (Nat.not_lt.2 hle)]
      exact ⟨rfl, rfl⟩
    · rw [if_pos hlt, Fleet.settled_byStep]
  · intro f n v hdue hby
    obtain ⟨⟨hfreq, _⟩, hrest⟩ := f.settled_eq_of_due
    rw [Fleet.atBoundary_of_none n hby, hfreq, hrest, hdue]
    exact ⟨rfl, rfl⟩
  · intro f n x hdue hby
    obtain ⟨⟨hfreq, hmode⟩, hrest⟩ := f.settled_eq_of_due
    rw [Fleet.atBoundary_of_none n hby, hfreq, hmode, hrest, hdue]
    exact ⟨rfl, rfl, rfl⟩
  · exact fun i c => State.le_sustainable i c

end Sys2Proof.Machine
end

section
/-! PROOFS. The Thermostat meters, sheds and undoes (R331 to R333, R335), and a droop ends (R334, R336). -/

namespace Sys2Proof.Machine

/-- A fold over a list without repetitions changes what one member's step changes once, where the steps of the others
leave it and all keep the condition `I`. -/
theorem each_once {σ β γ : Type} (I : σ → Prop) (g : σ → γ) (u : γ → γ) (f : β → σ → σ) {l : List β} {x : β} (hnd : l.Nodup)
    (hx : x ∈ l) (hI : ∀ y ∈ l, ∀ t, I t → I (f y t)) (hset : ∀ t, I t → g (f x t) = u (g t)) (hne : ∀ y, y ≠ x → ∀ t, g (f y t) = g t)
    {s : σ} (hs : I s) : g (each l f s) = u (g s) := by
  obtain ⟨l₁, l₂, rfl⟩ := List.append_of_mem hx
  obtain ⟨-, hnd₂, hdis⟩ := List.nodup_append.1 hnd
  have hbefore : I (each l₁ f s) := each_inv_of_mem I f (fun y hy => hI y (List.mem_append_left _ hy)) hs
  have h₁ : g (each l₁ f s) = g s :=
    each_keeps_of_mem g f (fun y hy => hne y (hdis y hy x List.mem_cons_self)) s
  have h₂ : ∀ y ∈ l₂, y ≠ x := fun y hy he => (List.nodup_cons.1 hnd₂).1 (he ▸ hy)
  rw [each_append, each_cons, each_keeps_of_mem g f (fun y hy => hne y (h₂ y hy)), hset _ hbefore, h₁]

section
variable {s : State}

/-! ### The readings of the input (R329) -/

/-- The window of one rail. -/
def State.railReads (s : State) (n a : Nat) : State :=
  let s := s.setEnt 0x2011 (n + 1) a
  s.setCtl { s.ctl with railE := tput 0 n (tget 0 s.ctl.railE n + s.railMv n * a) s.ctl.railE }

theorem State.railWindow_eq (m : InputMeasure) :
    s.railWindow m = each (List.range 29) (fun n s => s.railReads n (lget 0 m.rails n)) s := rfl

theorem State.railWindow_keeps {γ : Type} (P : State → γ) (m : InputMeasure)
    (h : ∀ n, n < 29 → ∀ t a, P (State.railReads t n a) = P t) : P (s.railWindow m) = P s := by
  rw [State.railWindow_eq]
  exact each_keeps_of_mem P _ (fun n hn t => h n (List.mem_range.1 hn) t _) s

/-- The readings write entries of the input and of the rails, and the energies of the step and of the rails. -/
theorem State.readInput_keeps {γ : Type} (P : State → γ) (hin : ∀ t k v, P (State.setEnt t 0x2001 (k + 1) v) = P t)
    (hrail : ∀ t n v, P (State.setEnt t 0x2011 (n + 1) v) = P t)
    (hctl : ∀ t x e, P (State.setCtl t { t.ctl with stepE := x, railE := e }) = P t) (m : InputMeasure) :
    P (s.readInput m) = P s := by
  have hwindow : ∀ t : State, P (t.railWindow m) = P t := fun t =>
    t.railWindow_keeps P m fun n _ u a => (hctl (u.setEnt 0x2011 (n + 1) a) _ _).trans (hrail u _ _)
  unfold readInput
  dsimp only
  rw [hwindow, hin _ 4]
  refine (hctl _ _ _).trans ?_
  rw [hin _ 3, hin _ 2, hin _ 1, hin _ 0]

theorem State.readInput_ent (m : InputMeasure) {i k : Nat} (hin : ∀ l, l < 5 → dictKey i k ≠ dictKey 0x2001 (l + 1))
    (hrail : ∀ n, n < 29 → dictKey i k ≠ dictKey 0x2011 (n + 1)) : (s.readInput m).ent i k = s.ent i k := by
  have hwindow : ∀ t : State, (t.railWindow m).ent i k = t.ent i k := fun t =>
    t.railWindow_keeps (fun u => State.ent u i k) m fun n hn u a => State.ent_setEnt_ne u _ _ _ _ _ (hrail n hn)
  unfold readInput
  dsimp only
  rw [hwindow, State.ent_setEnt_ne _ _ _ _ _ _ (hin 4 (by decide)), State.setCtl_ent,
    State.ent_setEnt_ne _ _ _ _ _ _ (hin 3 (by decide)), State.ent_setEnt_ne _ _ _ _ _ _ (hin 2 (by decide)),
    State.ent_setEnt_ne _ _ _ _ _ _ (hin 1 (by decide)), State.ent_setEnt_ne _ _ _ _ _ _ (hin 0 (by decide))]

/-- The input's voltage and current as read. -/
theorem State.readInput_volts (m : InputMeasure) :
    (s.readInput m).ent 0x2001 1 = m.mv ∧ (s.readInput m).ent 0x2001 2 = m.ma := by
  have hwindow : ∀ (t : State) k, k < 3 → (t.railWindow m).ent 0x2001 k = t.ent 0x2001 k := fun t k hk =>
    t.railWindow_keeps (fun u => State.ent u 0x2001 k) m fun n hn u a =>
      State.ent_setEnt_ne u _ _ _ _ _ (by unfold dictKey; omega)
  have hout : ∀ (t : State) (l k v : Nat), k < 3 → 3 ≤ l → (t.setEnt 0x2001 l v).ent 0x2001 k = t.ent 0x2001 k :=
    fun t l k v hk hl => State.ent_setEnt_ne _ _ _ _ _ _ (by unfold dictKey; omega)
  unfold readInput
  dsimp only
  refine ⟨?_, ?_⟩
  · rw [hwindow _ 1 (by decide), hout _ 5 1 _ (by decide) (by decide), State.setCtl_ent, hout _ 4 1 _ (by decide) (by decide),
      hout _ 3 1 _ (by decide) (by decide), State.ent_setEnt_ne _ _ _ _ _ _ (by decide), State.ent_setEnt_same]
  · rw [hwindow _ 2 (by decide), hout _ 5 2 _ (by decide) (by decide), State.setCtl_ent, hout _ 4 2 _ (by decide) (by decide),
      hout _ 3 2 _ (by decide) (by decide), State.ent_setEnt_same]

/-- The voltage of a rail does not depend on the entries that the readings write. -/
theorem State.railMv_setEnt (n : Nat) {i : Nat} (k v : Nat) (hi : i = 0x2001 ∨ i = 0x2011) (hk : k < 256) :
    (s.setEnt i k v).railMv n = s.railMv n := by
  have hent : ∀ j l, l < 256 → j ≠ 0x2001 → j ≠ 0x2011 → (s.setEnt i k v).ent j l = s.ent j l := fun j l hl h1 h2 =>
    State.ent_setEnt_ne _ _ _ _ _ _ (by unfold dictKey; omega)
  have hvarr : n < 4 → (s.setEnt i k v).varr n = s.varr n := fun hn => by
    unfold varr carith suiteOfDie layout stepNo
    rw [hent 0x1110 (10 + n) (by omega) (by decide) (by decide), hent 0x1100 1 (by decide) (by decide) (by decide),
      hent 0x4310 2 (by decide) (by decide) (by decide)]
    rfl
  unfold railMv
  split
  · exact hvarr ‹_›
  · split
    · rfl
    · split
      · rfl
      · split
        · rw [hent 0x2021 (n - 19) (by omega) (by decide) (by decide)]
        · rfl

theorem State.railMv_readInput (m : InputMeasure) (n : Nat) : (s.readInput m).railMv n = s.railMv n := by
  have hwindow : ∀ t : State, (t.railWindow m).railMv n = t.railMv n := fun t =>
    t.railWindow_keeps (fun u => State.railMv u n) m fun l hl u a => u.railMv_setEnt n (l + 1) a (.inr rfl) (by omega)
  have hctl : ∀ (t : State) c, (t.setCtl c).railMv n = t.railMv n := fun _ _ => rfl
  unfold readInput
  dsimp only
  rw [hwindow, State.railMv_setEnt n 5 _ (.inl rfl) (by decide), hctl, State.railMv_setEnt n 4 _ (.inl rfl) (by decide),
    State.railMv_setEnt n 3 _ (.inl rfl) (by decide), State.railMv_setEnt n 2 _ (.inl rfl) (by decide),
    State.railMv_setEnt n 1 _ (.inl rfl) (by decide)]

/-- Every rail's energy moves on by its voltage and its measured current. -/
theorem State.railWindow_railE (m : InputMeasure) {n : Nat} (hn : n < 29) :
    tget 0 (s.railWindow m).ctl.railE n = tget 0 s.ctl.railE n + s.railMv n * lget 0 m.rails n := by
  have hmv : ∀ (t : State) l a, l < 29 → (t.railReads l a).railMv n = t.railMv n := fun t l a hl =>
    State.railMv_setEnt n (l + 1) a (.inr rfl) (by omega)
  have hread : ∀ (t : State) l a, tget 0 (t.railReads l a).ctl.railE n =
      if n = l then tget 0 t.ctl.railE l + (t.setEnt 0x2011 (l + 1) a).railMv l * a else tget 0 t.ctl.railE n :=
    fun t l a => tget_tput _ _ _ _ _
  rw [State.railWindow_eq]
  refine each_once (fun t : State => t.railMv n = s.railMv n) (fun t : State => tget 0 t.ctl.railE n)
    (fun e => e + s.railMv n * lget 0 m.rails n) _ List.nodup_range (List.mem_range.2 hn) ?_ ?_ ?_ rfl
  · intro l hl t ht
    exact (hmv t l _ (List.mem_range.1 hl)).trans ht
  · intro t ht
    rw [hread, if_pos rfl, State.railMv_setEnt n (n + 1) _ (.inr rfl) (by omega), ht]
  · intro l hl t
    rw [hread, if_neg hl.symm]

/-! ### Power-skip duty (R335, R336) -/

/-- Metering writes what dies have skipped, alone. -/
theorem State.meterDuty_keeps {γ : Type} (P : State → γ)
    (h : ∀ t d x a, P (State.setDie t d { t.die d with skips := x, skipAt := a }) = P t) (s : State) : P s.meterDuty = P s := by
  refine each_keeps P _ (fun d t => ?_) _ s
  unfold State.meterSkips
  split
  · rfl
  · exact h _ _ _ _

theorem State.meterDuty_todo (s : State) : s.meterDuty.todo = s.todo := State.meterDuty_keeps State.todo (fun _ _ _ _ => rfl) s
theorem State.meterDuty_pending (s : State) : s.meterDuty.pending = s.pending :=
  State.meterDuty_keeps State.pending (fun _ _ _ _ => rfl) s
theorem State.meterDuty_ctl (s : State) : s.meterDuty.ctl = s.ctl := State.meterDuty_keeps State.ctl (fun _ _ _ _ => rfl) s
theorem State.meterDuty_od (s : State) : s.meterDuty.od = s.od := State.meterDuty_keeps State.od (fun _ _ _ _ => rfl) s
theorem State.meterDuty_mem (s : State) : s.meterDuty.mem = s.mem := State.meterDuty_keeps State.mem (fun _ _ _ _ => rfl) s
theorem State.meterDuty_regs (s : State) : s.meterDuty.regs = s.regs := State.meterDuty_keeps State.regs (fun _ _ _ _ => rfl) s

theorem State.meterDuty_skip (s : State) (d : Nat) : (s.meterDuty.die d).skip = (s.die d).skip := by
  refine State.meterDuty_keeps (fun t => (t.die d).skip) (fun t e x a => ?_) s
  dsimp only
  rw [State.die_setDie]
  split
  · next h => rw [h]
  · rfl

theorem State.duty_of_missed {d : Nat} (hmiss : s.ctl.missed = true) (hband : s.ent 0x2200 (d + 1) < 3) : s.duty d = 8 := by
  unfold duty
  rw [if_pos hmiss]
  dsimp only
  rw [if_neg (by omega)]
  split <;> rfl

theorem State.duty_of_critical {d : Nat} (h : s.ent 0x2200 (d + 1) = 3) : s.duty d = 16 := if_pos h

/-- Each skippable die rises by a sixteenth, and no other die changes. -/
theorem State.raiseDuty_die (d : Nat) :
    (d ∈ s.skippable → (s.raiseDuty.die d).skip = (s.die d).skip + 1) ∧ (d ∉ s.skippable → s.raiseDuty.die d = s.die d) := by
  refine ⟨fun hd => ?_, fun hd => ?_⟩
  · refine each_once (fun _ => True) (fun t : State => (t.die d).skip) (· + 1) _ (List.Pairwise.filter _ (by decide)) hd
      (fun _ _ _ _ => trivial) (fun t _ => ?_) (fun e he t => ?_) trivial
    · dsimp only
      rw [State.die_setDie, if_pos rfl]
    · dsimp only
      rw [State.die_setDie, if_neg he.symm]
  · refine each_keeps_of_mem (fun t : State => t.die d) _ (fun e he t => ?_) s
    dsimp only
    rw [State.die_setDie, if_neg fun h : d = e => hd (h ▸ he)]

/-- Duty undone on every running die. -/
theorem State.unshed_of_skips {m : InputMeasure} {d : Nat} (hfw : s.firmware = true) (hclear : s.inputClear m = true)
    (hd : d < 4) (hup : s.dieUp d = true) (hskip : (s.die d).skip ≠ 0) : s.unshed m =
      each ([0, 1, 2, 3].filter fun d => s.dieUp d) (fun d t => t.setDie d { t.die d with skip := (t.die d).skip - 1 }) s.meterDuty := by
  have hany : ([0, 1, 2, 3].any fun d => s.dieUp d && decide ((s.die d).skip ≠ 0)) = true := by
    refine List.any_eq_true.2 ⟨d, ?_, by simp [hup, hskip]⟩
    simp only [List.mem_cons, List.not_mem_nil, or_false]
    omega
  unfold unshed
  rw [if_neg (by simp [hfw, hclear]), if_pos hany]

/-- With no duty left on a running die, the caps of the host cores rise, or the Hearth's cut is undone. -/
theorem State.unshed_of_no_skip {m : InputMeasure} (hfw : s.firmware = true) (hclear : s.inputClear m = true)
    (hnone : ∀ d, d < 4 → s.dieUp d = true → (s.die d).skip = 0) : s.unshed m =
      if s.ctl.hcoreCaps ≠ [] then
        s.setCtl { s.ctl with hcoreCaps := (s.ctl.hcoreCaps.map fun e => (e.1, e.2 + 200)).filter fun e => decide (e.2 < 3200) }
      else s.setCtl { s.ctl with hearthCut := 0 } := by
  have hany : ([0, 1, 2, 3].any fun d => s.dieUp d && decide ((s.die d).skip ≠ 0)) = false := by
    simp only [List.any_eq_false, Bool.and_eq_true, decide_eq_true_eq, not_and, Classical.not_not]
    intro d hd
    refine hnone d ?_
    simp only [List.mem_cons, List.not_mem_nil, or_false] at hd
    omega
  unfold unshed
  rw [if_neg (by simp [hfw, hclear]), if_neg (Bool.eq_false_iff.1 hany)]

theorem State.unshed_of_not {m : InputMeasure} (h : s.firmware = false ∨ s.inputClear m = false) : s.unshed m = s := by
  unfold unshed
  exact if_pos (by rcases h with h | h <;> simp [h])

/-- The state after an undone step of duty. -/
theorem State.unshedDuty_kept (l : List Nat) {d : Nat} (hnd : l.Nodup) (hd : d ∈ l) :
    let t := each l (fun d t => State.setDie t d { t.die d with skip := (t.die d).skip - 1 }) s.meterDuty
    (t.todo = s.todo ∧ t.pending = s.pending) ∧ (t.die d).skip = (s.die d).skip - 1 ∧ t.ctl = s.ctl ∧ t.od = s.od := by
  have hkeep : ∀ {γ : Type} (P : State → γ), (∀ t e v, P (State.setDie t e v) = P t) →
      P (each l (fun d t => State.setDie t d { t.die d with skip := (t.die d).skip - 1 }) s.meterDuty) = P s.meterDuty :=
    fun P h => each_keeps P _ (fun e t => h t e _) _ _
  refine ⟨⟨?_, ?_⟩, ?_, ?_, ?_⟩
  · rw [hkeep State.todo fun _ _ _ => rfl, State.meterDuty_todo]
  · rw [hkeep State.pending fun _ _ _ => rfl, State.meterDuty_pending]
  · rw [← s.meterDuty_skip d]
    refine each_once (fun _ => True) (fun t : State => (t.die d).skip) (· - 1) _ hnd hd
      (fun _ _ _ _ => trivial) (fun t _ => ?_) (fun e he t => ?_) trivial
    · dsimp only
      rw [State.die_setDie, if_pos rfl]
    · dsimp only
      rw [State.die_setDie, if_neg he.symm]
  · rw [hkeep State.ctl fun _ _ _ => rfl, State.meterDuty_ctl]
  · rw [hkeep State.od fun _ _ _ => rfl, State.meterDuty_od]

/-! ### The period's measurement and the shedding (R331, R332) -/

theorem State.inputRun_caps (mw avg cont : Nat) :
    (s.inputRun mw avg cont).hcoreCaps = s.ctl.hcoreCaps ∧ (s.inputRun mw avg cont).hearthCut = s.ctl.hearthCut ∧
    (s.inputRun mw avg cont).railE = s.ctl.railE := by
  unfold inputRun
  dsimp only
  split
  · exact ⟨rfl, rfl, rfl⟩
  · split
    · split <;> exact ⟨rfl, rfl, rfl⟩
    · exact ⟨rfl, rfl, rfl⟩

/-- The readings' state metered: the duty is counted, the control block and the binding limit are set. -/
def State.metered (s : State) (c : Control) (b : Nat) : State := (s.meterDuty.setCtl c).setEnt 0x2000 5 b

theorem State.meterInput_eq (m : InputMeasure) : ∃ avg lim b cont, (s.meterInput m).2 =
    (s.readInput m).metered { (s.readInput m).inputRun m.mw m.avgMw cont with missed := false, avgMw := avg, limited := lim } b :=
  ⟨_, _, _, _, rfl⟩

theorem State.metered_kept (c : Control) (b : Nat) : (s.metered c b).todo = s.todo ∧ (s.metered c b).pending = s.pending ∧
    (s.metered c b).mem = s.mem ∧ (s.metered c b).regs = s.regs ∧ (∀ d, ((s.metered c b).die d).skip = (s.die d).skip) ∧
    ∀ k, (s.metered c b).ent 0x2001 k = s.ent 0x2001 k := by
  unfold metered
  refine ⟨?_, ?_, ?_, ?_, fun d => ?_, fun k => ?_⟩
  · rw [State.setEnt_todo, State.setCtl_todo, State.meterDuty_todo]
  · rw [State.setEnt_pending, State.setCtl_pending, State.meterDuty_pending]
  · rw [State.setEnt_mem, State.setCtl_mem, State.meterDuty_mem]
  · rw [State.setEnt_regs, State.setCtl_regs, State.meterDuty_regs]
  · have hdie : ∀ t : State, ((t.setCtl c).setEnt 0x2000 5 b).die d = t.die d := fun _ => rfl
    rw [hdie, State.meterDuty_skip]
  · have hne : dictKey 0x2001 k ≠ dictKey 0x2000 5 := by unfold dictKey; omega
    rw [State.ent_setEnt_ne _ _ _ _ _ _ hne, State.setCtl_ent]
    unfold ent
    rw [State.meterDuty_od]

theorem State.readInput_railE (m : InputMeasure) {n : Nat} (hn : n < 29) :
    tget 0 (s.readInput m).ctl.railE n = tget 0 s.ctl.railE n + s.railMv n * lget 0 m.rails n := by
  have hctl : ∀ (t : State) c, (t.setCtl c).railMv n = t.railMv n := fun _ _ => rfl
  have hset : ∀ (t : State) i k v, (t.setEnt i k v).ctl = t.ctl := fun _ _ _ _ => rfl
  have hstep : ∀ (t : State) x, (t.setCtl { t.ctl with stepE := x }).ctl.railE = t.ctl.railE := fun _ _ => rfl
  unfold readInput
  dsimp only
  rw [State.railWindow_railE m hn, State.railMv_setEnt n 5 _ (.inl rfl) (by decide), hctl,
    State.railMv_setEnt n 4 _ (.inl rfl) (by decide), State.railMv_setEnt n 3 _ (.inl rfl) (by decide),
    State.railMv_setEnt n 2 _ (.inl rfl) (by decide), State.railMv_setEnt n 1 _ (.inl rfl) (by decide), hset, hstep, hset, hset,
    hset, hset]

/-- What a measurement leaves: the readings, and everything that sheds. -/
theorem State.meterInput_kept (m : InputMeasure) :
    ((s.meterInput m).2.todo = s.todo ∧ (s.meterInput m).2.pending = s.pending) ∧
    (s.meterInput m).2.ent 0x2001 1 = m.mv ∧ (s.meterInput m).2.ent 0x2001 2 = m.ma ∧ (s.meterInput m).2.ctl.missed = false ∧
    (s.meterInput m).2.ctl.hcoreCaps = s.ctl.hcoreCaps ∧ (s.meterInput m).2.ctl.hearthCut = s.ctl.hearthCut ∧
    (∀ d, ((s.meterInput m).2.die d).skip = (s.die d).skip) ∧
    (∀ n, n < 29 → tget 0 (s.meterInput m).2.ctl.railE n = tget 0 s.ctl.railE n + s.railMv n * lget 0 m.rails n) ∧
    (s.meterInput m).2.mem = s.mem ∧ (s.meterInput m).2.regs = s.regs := by
  obtain ⟨avg, lim, b, cont, hshape⟩ := State.meterInput_eq (s := s) m
  have hread : ∀ {γ : Type} (P : State → γ), (∀ t i k v, P (State.setEnt t i k v) = P t) →
      (∀ t x e, P (State.setCtl t { t.ctl with stepE := x, railE := e }) = P t) → P (s.readInput m) = P s :=
    fun P hent hctl => s.readInput_keeps P (fun t _ v => hent t _ _ v) (fun t _ v => hent t _ _ v) hctl m
  have htodo := hread State.todo (fun _ _ _ _ => rfl) fun _ _ _ => rfl
  have hpending := hread State.pending (fun _ _ _ _ => rfl) fun _ _ _ => rfl
  have hmem := hread State.mem (fun _ _ _ _ => rfl) fun _ _ _ => rfl
  have hregs := hread State.regs (fun _ _ _ _ => rfl) fun _ _ _ => rfl
  have hskip := fun d => hread (fun t => (t.die d).skip) (fun _ _ _ _ => rfl) fun _ _ _ => rfl
  have hcaps := hread (fun t => t.ctl.hcoreCaps) (fun _ _ _ _ => rfl) fun _ _ _ => rfl
  have hcut := hread (fun t => t.ctl.hearthCut) (fun _ _ _ _ => rfl) fun _ _ _ => rfl
  have hrail := fun n (hn : n < 29) => s.readInput_railE m hn
  obtain ⟨hmv, hma⟩ := s.readInput_volts m
  rw [hshape]
  clear hshape
  generalize s.readInput m = x at *
  obtain ⟨rcaps, rcut, rrail⟩ := State.inputRun_caps (s := x) m.mw m.avgMw cont
  generalize hc : x.inputRun m.mw m.avgMw cont = c at *
  obtain ⟨ktodo, kpending, kmem, kregs, kskip, kent⟩ :=
    x.metered_kept { c with missed := false, avgMw := avg, limited := lim } b
  exact ⟨⟨ktodo.trans htodo, kpending.trans hpending⟩, (kent 1).trans hmv, (kent 2).trans hma, rfl, rcaps.trans hcaps,
    rcut.trans hcut, fun d => (kskip d).trans (hskip d), fun n hn => (congrArg (tget 0 · n) rrail).trans (hrail n hn),
    kmem.trans hmem, kregs.trans hregs⟩

/-- With no excess left, no step is taken. -/
theorem State.shedSteps_of_none (left : State → List Nat) (saves : State → Nat → Nat) (act : State → State) (n : Nat) (s : State) :
    State.shedSteps left saves act n 0 s = (0, s) := by
  cases n with
  | zero => rfl
  | succ n => exact if_pos (.inl rfl)

/-- An excess that the Hearth covers is taken from the Hearth alone. -/
theorem State.shed_of_hearth {m : InputMeasure} {ex : Nat} (hle : ex ≤ s.hearthPower) (hmv : m.mv ≠ 0) : s.shed m ex =
    (s.setCtl { s.ctl with hearthCut := s.ctl.hearthCut + ex * 1000 / m.mv }).meterDuty := by
  unfold shed
  dsimp only
  rw [Nat.min_eq_left hle, Nat.sub_self, if_neg hmv, State.shedSteps_of_none]
  dsimp only
  rw [State.shedSteps_of_none]

/-- A fold of table writes whose values depend on their keys alone. -/
theorem tget_foldl_tput_keyed {α : Type} [DecidableEq α] (d : α) (v : Nat → α) (l : List Nat) (t : Tab α) (k : Nat) :
    tget d (l.foldl (fun t c => tput d c (v c) t) t) k = if k ∈ l then v k else tget d t k := by
  induction l generalizing t with
  | nil => rfl
  | cons c l ih =>
    rw [List.foldl_cons, ih, tget_tput]
    by_cases hl : k ∈ l
    · rw [if_pos hl, if_pos (List.mem_cons_of_mem _ hl)]
    · by_cases hc : k = c
      · rw [if_neg hl, if_pos hc, if_pos (hc ▸ List.mem_cons_self), hc]
      · rw [if_neg hl, if_neg hc, if_neg (by simp [hl, hc])]

theorem State.lowerGrants_caps (c : Nat) :
    tget 0 s.lowerGrants.ctl.hcoreCaps c = if c ∈ s.lowerable then max 1000 (s.grant c - 200) else tget 0 s.ctl.hcoreCaps c :=
  tget_foldl_tput_keyed 0 (fun c => max 1000 (s.grant c - 200)) _ _ c

/-! ### Droop (R334, R336) -/

/-- The skips that a droop in progress has made, as counted. -/
def State.droopSkips (s : State) (w : Nat) : Nat :=
  s.freeVal % (4 * ((s.house - (s.wing w).droopRun) * s.ent 0x1110 (10 + w / 8) / 1000000 / 8 + 1) + 1)

theorem State.droopSkips_le (w : Nat) :
    s.droopSkips w ≤ 4 * ((s.house - (s.wing w).droopRun) * s.ent 0x1110 (10 + w / 8) / 1000000 / 8 + 1) :=
  Nat.le_of_lt_succ (Nat.mod_lt _ (Nat.succ_pos _))

theorem State.countDroop_of_droop {w : Nat} (h : (s.wing w).droop = true) : s.countDroop w =
    (s.drawFree.setWing w { s.wing w with droopRun := s.house, stretch := (s.wing w).stretch + s.droopSkips w }).incEnt
      0x2401 (w + 1) (s.droopSkips w) := by
  unfold countDroop
  dsimp only
  rw [if_neg (by simp [h])]
  rfl

theorem State.incEnt_od_congr {t : State} (h : t.od = s.od) (i k n : Nat) : (t.incEnt i k n).od = (s.incEnt i k n).od := by
  unfold incEnt
  split
  · unfold setEnt ent
    rw [h]
  · exact h

/-- The end of a droop: its skips are counted and the wing runs on. -/
theorem State.droopEnds_of_droop {w : Nat} (hup : s.wingUp w = true) (h : (s.wing w).droop = true) : s.droopEnds w =
    (s.countDroop w).setWing w { (s.countDroop w).wing w with droop := false } := by
  unfold droopEnds
  rw [if_neg (by simp [hup, h])]

end

/-- Settles O44: a measurement leaves what sheds as it was, each shedding step changes its own knob once, and the end of a
droop counts a bounded number of skips. -/
theorem thermostatAndDroop : Obligations.ThermostatAndDroop := by
  unfold Obligations.ThermostatAndDroop
  intro s hs
  refine ⟨?_, ?_, ?_, ?_, ?_, ?_, ?_, ?_, ?_, ?_, ?_, ?_, ?_, ?_, ?_, ?_⟩
  · intro m hfw
    rw [exec_thermostatPeriod, execThermostatPeriod, exec_thermostatUndo, execThermostatUndo]
    refine ⟨act_stays rfl ?_ hs, act_stays rfl (State.unshed_of_not (.inl hfw)) hs⟩
    unfold State.thermostat
    rw [if_pos (by simp [hfw])]
  · intro m hfw hzero
    have hmetered : s.thermostat m = (s.meterInput m).2 := by
      unfold State.thermostat
      rw [if_neg (by simp [hfw])]
      dsimp only
      rw [if_pos hzero]
    obtain ⟨⟨htodo, hpending⟩, hkept⟩ := State.meterInput_kept (s := s) m
    rw [exec_thermostatPeriod, execThermostatPeriod]
    refine act_exists rfl ?_ ?_ ?_ <;> rw [hmetered]
    · exact htodo.trans hs
    · exact hpending
    · exact hkept
  · intro m hfw hex
    rw [exec_thermostatPeriod, execThermostatPeriod]
    refine act_gives_of rfl ?_
    unfold State.thermostat
    rw [if_neg (by simp [hfw])]
    exact if_neg hex
  · intro m ex hle hmv
    rw [State.shed_of_hearth hle hmv, State.meterDuty_ctl]
    exact ⟨rfl, rfl, fun d => State.meterDuty_skip _ d⟩
  · intro c
    rw [State.lowerGrants_caps]
    exact ⟨fun h => if_pos h, fun h => if_neg h⟩
  · exact fun d => State.raiseDuty_die d
  · intro m hclear
    rw [exec_thermostatUndo, execThermostatUndo]
    exact act_stays rfl (State.unshed_of_not (.inr hclear)) hs
  · intro m d hfw hclear hd hup hskip
    have hmem : d ∈ [0, 1, 2, 3].filter fun d => s.dieUp d := by
      simp only [List.mem_filter, List.mem_cons, List.not_mem_nil, or_false, hup, and_true]
      omega
    obtain ⟨⟨htodo, hpending⟩, hkept⟩ := State.unshedDuty_kept (s := s) _ (List.Pairwise.filter _ (by decide)) hmem
    rw [exec_thermostatUndo, execThermostatUndo]
    refine act_exists rfl ?_ ?_ ?_ <;> rw [State.unshed_of_skips hfw hclear hd hup hskip]
    · exact htodo.trans hs
    · exact hpending
    · exact hkept
  · intro m hfw hclear hnone
    rw [exec_thermostatUndo, execThermostatUndo]
    refine ⟨fun hcaps => act_keeps rfl ?_ ⟨rfl, rfl⟩ hs, fun hcaps => act_keeps rfl ?_ ⟨rfl, rfl⟩ hs⟩ <;>
      rw [State.unshed_of_no_skip hfw hclear hnone]
    · exact if_pos hcaps
    · exact if_neg fun h => h hcaps
  · intro hon
    rw [exec_thermostatMiss, execThermostatMiss]
    refine ⟨act_keeps rfl (if_pos hon) ⟨?_, ?_⟩ hs, s.meterDuty_skip⟩
    · rw [State.setCtl_todo, State.meterDuty_todo]
    · rw [State.setCtl_pending, State.meterDuty_pending]
  · exact fun d hmiss hband => State.duty_of_missed hmiss hband
  · exact fun d hband => State.duty_of_critical hband
  · intro w mv hw hup hdroop
    rw [exec_droopDetect, execDroopDetect]
    by_cases hlow : mv * 100 < s.varr (w / 8) * (100 - s.ent 0x2403 1)
    · rw [if_pos hlow]
      refine act_keeps (decide_eq_true hw) ?_ ⟨rfl, rfl⟩ hs
      unfold State.droop
      rw [if_neg (by simp only [hup, hdroop]; simpa using hlow)]
    · rw [if_neg hlow]
      refine act_stays (decide_eq_true hw) ?_ hs
      unfold State.droop
      rw [if_pos (by simp only [hup, hdroop]; simpa using hlow)]
  · intro w mv hw hstill
    rw [exec_droopDetect, execDroopDetect]
    refine act_stays (decide_eq_true hw) ?_ hs
    unfold State.droop
    rw [if_pos (by rcases hstill with h | h <;> simp [h])]
  · intro w hw hup hdroop
    refine ⟨s.droopEnds w, s.droopSkips w, ?_, s.droopSkips_le w, ?_⟩
    · rw [exec_droopEnd, execDroopEnd]
      refine act_keeps (decide_eq_true hw) rfl ?_ hs
      rw [State.droopEnds_of_droop hup hdroop, State.countDroop_of_droop hdroop]
      exact ⟨by simp [State.drawFree], by simp [State.drawFree]⟩
    · rw [State.droopEnds_of_droop hup hdroop, State.countDroop_of_droop hdroop]
      refine ⟨?_, ?_, by simp [State.drawFree], by simp [State.drawFree]⟩
      · have hwing : ∀ t : State, (t.incEnt 0x2401 (w + 1) (s.droopSkips w)).wing w = t.wing w := fun t => by
          unfold State.wing
          rw [State.incEnt_wings]
        rw [State.wing_setWing, if_pos rfl, hwing, State.wing_setWing, if_pos rfl]
      · rw [State.setWing_od]
        exact State.incEnt_od_congr (by rw [State.setWing_od]; rfl) _ _ _
  · intro w hw hdroop
    rw [exec_droopEnd, execDroopEnd]
    refine act_stays (decide_eq_true hw) ?_ hs
    unfold State.droopEnds
    rw [if_pos (by simp [hdroop])]

end Sys2Proof.Machine
end

section
/-! PROOFS. What the module's messages and events leave alone: one frame for everything that a fleet message, a notice to
another module, or an event writes. -/

namespace Sys2Proof.Machine

/-- `P` does not see what messages and events write: the management state, the free values drawn, the outputs, the pairs,
the fleet machinery, and the count of lost events. -/
structure MessageFrame {γ : Type} (P : State → γ) : Prop where
  mgmt : ∀ (t : State) v, P { t with mgmt := v } = P t
  free : ∀ t : State, P t.drawFree = P t
  emit : ∀ t o, P (State.emit t o) = P t
  pair : ∀ t m p, P (State.setPair t m p) = P t
  fleet : ∀ t i f, P (State.setFleet t i f) = P t
  lost : ∀ t v, P (State.setEnt t 0x4420 5 v) = P t

namespace MessageFrame
variable {γ : Type} {P : State → γ} (hP : MessageFrame P) (s : State)
include hP

theorem openPair (m : Nat) : P (s.openPair m) = P s := by
  unfold State.openPair
  rw [hP.emit, hP.pair, hP.free]

theorem sendModule (m : Nat) (b : Bytes) : P (s.sendModule m b) = P s := by
  unfold State.sendModule
  dsimp only
  split
  · rfl
  · split
    · rw [hP.pair]
    · rw [hP.openPair, hP.pair]

theorem sendEvent (seq d : Nat) (r : EventRec) : P (s.sendEvent seq d r) = P s := by
  unfold State.sendEvent
  split
  · rw [hP.sendModule]
  · rw [hP.emit]

theorem incEnt (n : Nat) : P (s.incEnt 0x4420 5 n) = P s := by
  unfold State.incEnt
  split
  · exact hP.lost _ _
  · rfl

theorem queueEvent (r : EventRec) (d : Nat) : P (s.queueEvent r d) = P s := by
  unfold State.queueEvent
  dsimp only
  split
  · exact hP.incEnt s 1
  · split
    · exact hP.mgmt _ _
    · rw [hP.sendEvent]
      exact (hP.mgmt _ _).trans (hP.mgmt _ _)

theorem raise (i k cause v : Nat) : P (s.raise i k cause v) = P s := by
  unfold State.raise
  dsimp only
  split
  · rw [each_keeps P _ fun d t => hP.queueEvent t _ d]
    exact hP.mgmt _ _
  · rfl

theorem sendNotice (m op : Nat) (body : Bytes) : P (s.sendNotice m op body) = P s := by
  unfold State.sendNotice
  rw [hP.sendModule]
  exact hP.mgmt _ _

theorem takeFreq (job mhz b : Nat) : P (s.takeFreq job mhz b) = P s := by
  refine each_keeps P _ (fun i t => ?_) _ s
  dsimp only
  split <;> exact hP.fleet _ _ _

theorem sendFreq (job mhz : Nat) : P (s.sendFreq job mhz) = P s := by
  unfold State.sendFreq
  dsimp only
  rw [hP.takeFreq, hP.emit]

theorem judgeLaggard (i job mhz : Nat) (serial : Bytes) : P (s.judgeLaggard i job mhz serial) = P s := by
  unfold State.judgeLaggard
  dsimp only
  split
  · exact hP.fleet _ _ _
  · rw [hP.sendFreq, hP.fleet]

theorem routeFleet (job op : Nat) (body : Bytes) {self : Nat → State → State} (h : ∀ i t, P (self i t) = P t) :
    P (s.routeFleet job op body self) = P s := by
  refine each_keeps P _ (fun i t => ?_) _ s
  dsimp only
  split
  · exact hP.raise t _ _ _ _
  · split
    · exact h i t
    · exact hP.sendNotice t _ _ _

theorem sendLaggard (job causes mhz step : Nat) (serial : Bytes) : P (s.sendLaggard job causes mhz step serial) = P s := by
  unfold State.sendLaggard
  split
  · exact hP.routeFleet s _ _ _ fun i t => hP.judgeLaggard t i job mhz serial
  · exact hP.emit _ _

theorem reportLaggard (i causes : Nat) (hcount : ∀ t n, P (State.incEnt t 0x2107 (i + 1) n) = P t)
    (hshow : ∀ t v, P (State.setEnt t 0x2106 (i + 1) v) = P t) : P (s.reportLaggard i causes) = P s := by
  unfold State.reportLaggard
  dsimp only
  rw [hP.sendLaggard, hP.fleet, hshow, hcount]

theorem laggardNow (i : Nat) (power : Bool) (hcount : ∀ t n, P (State.incEnt t 0x2107 (i + 1) n) = P t)
    (hshow : ∀ t v, P (State.setEnt t 0x2106 (i + 1) v) = P t) : P (s.laggardNow i power) = P s := by
  unfold State.laggardNow
  dsimp only
  split
  · exact hP.fleet _ _ _
  · rw [hP.raise, hP.reportLaggard _ _ _ hcount hshow, hP.fleet]

theorem laggardBand (i : Nat) (hcount : ∀ t n, P (State.incEnt t 0x2107 (i + 1) n) = P t)
    (hshow : ∀ t v, P (State.setEnt t 0x2106 (i + 1) v) = P t) : P (s.laggardBand i) = P s :=
  hP.laggardNow s i _ hcount hshow

end MessageFrame

end Sys2Proof.Machine
end

section
/-! PROOFS. A die's band (R345, R346), the Hearth (R349 to R352), and wings that sleep and wake (R353). -/

namespace Sys2Proof.Machine

/-- The entries of the dies' bands and temperatures. -/
def BandEntry (key : Nat) : Prop := key / 256 = 0x2200 ∨ key / 256 = 0x2201

/-- What a laggard's message leaves of a die's band. -/
def State.bandView (s : State) := (s.todo, s.pending, s.mem, s.regs, s.dies, s.entries BandEntry)

section
variable {s : State}

/-! ### Bands of dies -/

theorem State.bandView_setEnt {i k : Nat} (v : Nat) (h : ¬ BandEntry (dictKey i k)) : (s.setEnt i k v).bandView = s.bandView := by
  simp [bandView, s.entries_setEnt v h]

theorem State.bandView_incEnt {i k : Nat} (n : Nat) (h : ¬ BandEntry (dictKey i k)) : (s.incEnt i k n).bandView = s.bandView := by
  simp [bandView, s.entries_incEnt n h]

theorem bandView_messageFrame : MessageFrame State.bandView where
  mgmt _ _ := rfl
  free _ := rfl
  emit _ _ := rfl
  pair _ _ _ := rfl
  fleet _ _ _ := rfl
  lost _ v := State.bandView_setEnt v (by unfold BandEntry dictKey; omega)

theorem suiteOf_le (l d : Nat) : suiteOf l d ≤ d := by
  unfold suiteOf
  split
  · exact Nat.zero_le d
  · split
    · exact Nat.div_le_self d 2
    · exact Nat.le_refl d

theorem State.bandView_laggardBand {i : Nat} (hi : i < 4) : (s.laggardBand i).bandView = s.bandView :=
  bandView_messageFrame.laggardBand s i
    (fun _ n => State.bandView_incEnt n (by unfold BandEntry dictKey; omega))
    (fun _ v => State.bandView_setEnt v (by unfold BandEntry dictKey; omega))

/-- A die that takes a band: the band, and the time of its critical state, before the suite looks at its causes. -/
def State.bandTaken (s : State) (d b : Nat) : State :=
  let s := s.meterDuty
  let s := s.setDie d { s.die d with critAt := if b = 3 then some s.house else none }
  (if b = 3 then s else s.levelEnds (8 + d)).setEnt 0x2200 (d + 1) b

theorem State.bandView_setDieBand (d b : Nat) : (s.setDieBand d b).bandView = (s.bandTaken d b).bandView := by
  have hshape : s.setDieBand d b =
      if d < 4 then (s.bandTaken d b).laggardBand ((s.bandTaken d b).suiteOfDie d) else s.bandTaken d b := rfl
  rw [hshape]
  split
  · next h => exact State.bandView_laggardBand (Nat.lt_of_le_of_lt (suiteOf_le _ d) h)
  · rfl

theorem State.meterDuty_coolAt (d : Nat) : (s.meterDuty.die d).coolAt = (s.die d).coolAt := by
  refine State.meterDuty_keeps (fun t => (t.die d).coolAt) (fun t e x a => ?_) s
  dsimp only
  rw [State.die_setDie]
  split
  · next h => rw [h]
  · rfl

theorem State.bandTaken_kept (d b : Nat) :
    (s.bandTaken d b).todo = s.todo ∧ (s.bandTaken d b).pending = s.pending ∧ (s.bandTaken d b).mem = s.mem ∧
    (s.bandTaken d b).regs = s.regs ∧ ((s.bandTaken d b).die d).coolAt = (s.die d).coolAt ∧
    (s.bandTaken d b).ent 0x2200 (d + 1) = b ∧ (s.bandTaken d b).ent 0x2201 (d + 1) = s.ent 0x2201 (d + 1) := by
  have hne : dictKey 0x2201 (d + 1) ≠ dictKey 0x2200 (d + 1) := by unfold dictKey; omega
  have hcool := s.meterDuty_coolAt d
  have htemp : s.meterDuty.ent 0x2201 (d + 1) = s.ent 0x2201 (d + 1) := by
    unfold ent
    rw [State.meterDuty_od]
  rw [← s.meterDuty_todo, ← s.meterDuty_pending, ← s.meterDuty_mem, ← s.meterDuty_regs, ← hcool, ← htemp]
  unfold bandTaken
  generalize s.meterDuty = x
  have hdie : ∀ c, ((x.setDie d { x.die d with critAt := c }).die d).coolAt = (x.die d).coolAt := fun c => by
    rw [State.die_setDie, if_pos rfl]
  dsimp only
  split <;>
    exact ⟨rfl, rfl, rfl, rfl, hdie _, State.ent_setEnt_same _ _ _ _, State.ent_setEnt_ne _ _ _ _ _ _ hne⟩

theorem State.setDieBand_kept {d : Nat} (hd : d < 5) (b : Nat) :
    (s.setDieBand d b).todo = s.todo ∧ (s.setDieBand d b).pending = s.pending ∧ (s.setDieBand d b).mem = s.mem ∧
    (s.setDieBand d b).regs = s.regs ∧ ((s.setDieBand d b).die d).coolAt = (s.die d).coolAt ∧
    (s.setDieBand d b).ent 0x2200 (d + 1) = b ∧ (s.setDieBand d b).ent 0x2201 (d + 1) = s.ent 0x2201 (d + 1) := by
  have hview := s.bandView_setDieBand d b
  obtain ⟨htodo, hpending, hmem, hregs, hcool, hband, htemp⟩ := s.bandTaken_kept d b
  simp only [State.bandView, Prod.mk.injEq] at hview
  obtain ⟨vtodo, vpending, vmem, vregs, vdies, vent⟩ := hview
  refine ⟨vtodo.trans htodo, vpending.trans hpending, vmem.trans hmem, vregs.trans hregs, ?_, ?_, ?_⟩
  · rw [← hcool]
    unfold State.die
    rw [vdies]
  · rw [State.ent_of_entries vent (.inl (by unfold dictKey; omega)), hband]
  · rw [State.ent_of_entries vent (.inr (by unfold dictKey; omega)), htemp]

/-- A reading above the bound of its band takes the higher band at once. -/
theorem State.takeTemp_of_hotter {d t : Nat} (h : s.ent 0x2200 (d + 1) < dieBandOf t) : ∃ mild, s.takeTemp d t =
    (((s.setEnt 0x2201 (d + 1) (min 255 t)).setDie d { s.die d with coolAt := none, mildAt := mild }).setDieBand d (dieBandOf t)) := by
  have hhot : ¬ t + 3 ≤ dieBandTop 0 := fun hle => by
    have h0 : dieBandOf t = 0 := if_pos (Nat.le_trans (Nat.le_add_right t 3) hle)
    omega
  have hband : (s.setEnt 0x2201 (d + 1) (min 255 t)).ent 0x2200 (d + 1) = s.ent 0x2200 (d + 1) :=
    State.ent_setEnt_ne _ _ _ _ _ _ (by unfold dictKey; omega)
  unfold takeTemp
  dsimp only
  rw [hband, if_pos h, decide_eq_false hhot]
  exact ⟨_, rfl⟩

/-- A die in CRITICAL stays there while it is above 102 °C. -/
theorem State.takeTemp_of_critical {d t : Nat} (h : s.ent 0x2200 (d + 1) = 3) (hlo : 102 < t) (hhi : t ≤ 105) :
    s.takeTemp d t = (s.setEnt 0x2201 (d + 1) t).setDie d { s.die d with coolAt := none, mildAt := none } := by
  have hmin : min 255 t = t := by omega
  have hcool : ¬ t + 3 ≤ dieBandTop 0 := fun hle => by have : dieBandTop 0 = 95 := rfl; omega
  have hmild : ¬ t + 3 ≤ dieBandTop 1 := fun hle => by have : dieBandTop 1 = 100 := rfl; omega
  have hof : dieBandOf t = 2 := by
    unfold dieBandOf
    rw [if_neg (by omega), if_neg (by omega), if_pos hhi]
  have hband : (s.setEnt 0x2201 (d + 1) t).ent 0x2200 (d + 1) = s.ent 0x2200 (d + 1) :=
    State.ent_setEnt_ne _ _ _ _ _ _ (by unfold dictKey; omega)
  unfold takeTemp
  dsimp only
  rw [hmin, hband, h, hof, if_neg (by decide), if_pos rfl, if_neg (by omega), decide_eq_false hcool, decide_eq_false hmild]
  rfl

theorem State.dieTemp_of_on {d t : Nat} (hon : s.on = true) (ht : t < 120) : s.dieTemp d t = s.takeTemp d t := by
  unfold dieTemp
  rw [if_neg (by simp [hon]), if_neg (by omega)]

/-! ### The Hearth -/

/-- The Hearth's activity writes rooms' Hearth marks alone. -/
theorem State.setHearth_keeps {δ : Type} (P : State → δ) (h : ∀ t g b, P (State.setRoom t g { t.room g with hearth := b }) = P t)
    (on : Nat → Bool) : P (s.setHearth on) = P s := by
  refine each_keeps P _ (fun g t => ?_) _ s
  dsimp only
  split
  · rfl
  · exact h _ _ _

theorem State.setHearth_frames (on : Nat → Bool) :
    (s.setHearth on).todo = s.todo ∧ (s.setHearth on).pending = s.pending ∧ (s.setHearth on).mem = s.mem ∧
    (s.setHearth on).regs = s.regs ∧ (s.setHearth on).wings = s.wings ∧ (s.setHearth on).ctl = s.ctl ∧
    ∀ i k, (s.setHearth on).ent i k = s.ent i k :=
  ⟨State.setHearth_keeps State.todo (fun _ _ _ => rfl) on, State.setHearth_keeps State.pending (fun _ _ _ => rfl) on,
    State.setHearth_keeps State.mem (fun _ _ _ => rfl) on, State.setHearth_keeps State.regs (fun _ _ _ => rfl) on,
    State.setHearth_keeps State.wings (fun _ _ _ => rfl) on, State.setHearth_keeps State.ctl (fun _ _ _ => rfl) on,
    fun i k => State.setHearth_keeps (fun t => t.ent i k) (fun _ _ _ => rfl) on⟩

theorem State.setHearth_room (on : Nat → Bool) (g : Nat) :
    { (s.setHearth on).room g with hearth := false } = { s.room g with hearth := false } := by
  refine State.setHearth_keeps (fun t => { t.room g with hearth := false }) (fun t x b => ?_) on
  dsimp only
  rw [State.room_setRoom]
  split
  · next h => rw [h]
  · rfl

theorem State.setHearth_off {g : Nat} (hg : g ∈ s.liveRooms) : ((s.setHearth fun _ => false).room g).hearth = false := by
  refine each_establishes (fun _ : State => True) (fun t => (t.room g).hearth = false) _ hg (fun _ _ _ _ => trivial)
    (fun t _ => ?_) (fun x _ t _ ht => ?_) trivial
  · dsimp only
    split
    · assumption
    · rw [State.room_setRoom, if_pos rfl]
  · dsimp only
    split
    · exact ht
    · rw [State.room_setRoom]
      split
      · rfl
      · exact ht

/-- The Hearth's controls after a tick, before the rooms' activity is set. -/
def State.hearthControls (s : State) (avg : Nat) : State :=
  let all := s.liveRooms
  let share := decide (all ≠ []) && decide (s.ent 0x2300 1 * all.length ≤ (all.filter fun g => s.roomWaits g).length * 100)
  let rise := share && !s.ctl.above
  let s := s.setCtl { s.ctl with above := share }
  let st := s.ent 0x2300 7
  if rise && decide (s.ent 0x2300 6 = 1) && decide (st ≠ 1) then
    let s := s.setCtl { s.ctl with iref := avg, target := avg * s.ent 0x2300 2 / 100, engagedAt := s.house }
    (s.setEnt 0x2300 7 1).incEnt 0x2300 8 1
  else if !share then s.hearthRamps else s

/-- A tick sets the controls, then the rooms' activity. -/
theorem State.hearth_eq (avg now : Nat) (hon : s.on = true) : ∃ on, s.hearth avg now = (s.hearthControls avg).setHearth on := by
  have hshape : s.hearth avg now = if !s.on then s
      else
        if (s.hearthControls avg).ent 0x2300 7 = 0 then (s.hearthControls avg).setHearth fun _ => false
        else if now < (s.hearthControls avg).ctl.target - (s.hearthControls avg).ctl.hearthCut then
          (s.hearthControls avg).setHearth fun g => (s.liveRooms.filter fun g => s.roomWaits g).contains g
        else (s.hearthControls avg).setHearth fun g => (s.liveRooms.filter fun g => s.roomWaits g).contains g &&
          ((s.hearthControls avg).room g).hearth &&
          decide ((s.hearthControls avg).ctl.target - (s.hearthControls avg).ctl.hearthCut ≠ 0) := rfl
  rw [hshape, if_neg (by simp [hon])]
  split
  · exact ⟨_, rfl⟩
  · split
    · exact ⟨_, rfl⟩
    · exact ⟨_, rfl⟩

theorem State.hearthRamps_frames : s.hearthRamps.todo = s.todo ∧ s.hearthRamps.pending = s.pending ∧ s.hearthRamps.mem = s.mem ∧
    s.hearthRamps.regs = s.regs ∧ s.hearthRamps.wings = s.wings ∧ s.hearthRamps.rooms = s.rooms := by
  unfold hearthRamps
  split <;> exact ⟨rfl, rfl, rfl, rfl, rfl, rfl⟩

theorem State.hearthControls_frames (avg : Nat) : (s.hearthControls avg).todo = s.todo ∧
    (s.hearthControls avg).pending = s.pending ∧ (s.hearthControls avg).mem = s.mem ∧ (s.hearthControls avg).regs = s.regs ∧
    (s.hearthControls avg).wings = s.wings ∧ (s.hearthControls avg).rooms = s.rooms := by
  unfold hearthControls
  dsimp only
  split
  · simp
  · split
    · exact State.hearthRamps_frames
    · exact ⟨rfl, rfl, rfl, rfl, rfl, rfl⟩

/-- The Hearth engages when the waiting share rises. -/
theorem State.hearthControls_of_rise {avg : Nat} (hen : s.ent 0x2300 6 = 1) (hst : s.ent 0x2300 7 ≠ 1)
    (hbelow : s.ctl.above = false) (hlive : s.liveRooms ≠ [])
    (hshare : s.ent 0x2300 1 * s.liveRooms.length ≤ (s.liveRooms.filter fun g => s.roomWaits g).length * 100) :
    (s.hearthControls avg).ent 0x2300 7 = 1 ∧ (s.hearthControls avg).ctl.iref = avg ∧
    (s.hearthControls avg).ctl.target = avg * s.ent 0x2300 2 / 100 ∧ (s.hearthControls avg).ctl.engagedAt = s.house := by
  have hcount : ∀ t : State, (t.incEnt 0x2300 8 1).ent 0x2300 7 = t.ent 0x2300 7 := fun t =>
    State.ent_of_entries (P := fun key => key = dictKey 0x2300 7) (State.entries_incEnt t 1 (by decide)) rfl
  unfold hearthControls
  dsimp only
  rw [if_pos (by simp [hen, hst, hbelow, hlive, hshare])]
  refine ⟨(hcount _).trans (State.ent_setEnt_same _ _ _ _), ?_, ?_, ?_⟩ <;> rw [State.incEnt_ctl] <;> rfl

/-- The Hearth ramps down when the waiting share falls. -/
theorem State.hearthControls_of_fall {avg : Nat} (hst : s.ent 0x2300 7 = 1)
    (hshare : (s.liveRooms.filter fun g => s.roomWaits g).length * 100 < s.ent 0x2300 1 * s.liveRooms.length) :
    (s.hearthControls avg).ent 0x2300 7 = 2 := by
  have hno : decide (s.ent 0x2300 1 * s.liveRooms.length ≤ (s.liveRooms.filter fun g => s.roomWaits g).length * 100) = false :=
    decide_eq_false (Nat.not_le.2 hshare)
  unfold hearthControls hearthRamps
  dsimp only
  rw [hno, Bool.and_false, if_neg (by simp), if_pos (by simp), State.setCtl_ent, if_pos hst]
  exact State.ent_setEnt_same _ _ _ _

/-! ### Sleep and wake -/

theorem State.flushOp_all (w : Nat) :
    s.flushOp w 3 = (s.flushCache w fun _ => .flush).setRegF (paCache w 0) 47 32 0 := by
  unfold flushOp
  simp

theorem State.sleepWing_of_busy {w : Nat} (h : s.ent 0x2500 1 = 0 ∨ (s.wing w).cmds ≠ [] ∨ s.porch.wake = true) :
    s.sleepWing w = s := by
  unfold sleepWing
  refine if_pos ?_
  rcases h with h | h | h <;> simp [h]

theorem State.sleepWing_of_idle {w : Nat} (hup : s.wingUp w = true) (hrun : (s.wing w).power = .running) (hen : s.ent 0x2500 1 ≠ 0)
    (hwake : s.porch.wake = false) (hcmds : (s.wing w).cmds = [])
    (hqueues : ∀ q, q < 128 → s.qon w q = true → s.pendingEntries w q = 0) : s.sleepWing w =
      ((s.flushOp w 3).drainLanding w).setWing w { ((s.flushOp w 3).drainLanding w).wing w with power := .sleeping } := by
  have hany : ((List.range 128).any fun q => s.qon w q && decide (s.pendingEntries w q ≠ 0)) = false := by
    simp only [List.any_eq_false, List.mem_range, Bool.and_eq_true, decide_eq_true_eq, not_and, Classical.not_not]
    exact hqueues
  unfold sleepWing
  rw [hany, if_neg (by simp [hup, hrun, hen, hwake, hcmds])]

theorem State.wakeWing_of_sleeping {w : Nat} (h : (s.wing w).power = .sleeping) :
    s.wakeWing w = s.setWing w { s.wing w with power := .waking } := by
  unfold wakeWing
  exact if_pos h

theorem State.wakeWing_of_not {w : Nat} (h : (s.wing w).power ≠ .sleeping) : s.wakeWing w = s := by
  unfold wakeWing
  exact if_neg h

theorem State.wakeWing_power_other {w v : Nat} (h : v ≠ w) : ((s.wakeWing w).wing v).power = (s.wing v).power := by
  unfold wakeWing
  dsimp only
  split
  · rw [State.wing_setWing, if_neg h]
  · rfl

/-- Waking wings writes wings alone. -/
theorem State.wakeWings_keeps {δ : Type} (P : State → δ) (h : ∀ t w v, P (State.setWing t w v) = P t) (l : List Nat) :
    P (each l (fun w s => if s.wingUp w then s.wakeWing w else s) s) = P s := by
  refine each_keeps P _ (fun w t => ?_) _ s
  split
  · obtain hw | ⟨v, hw⟩ := t.wakeWing_eq w <;> rw [hw]
    exact h _ _ _
  · rfl

theorem State.wingUp_wakeWing (w v : Nat) : (s.wakeWing w).wingUp v = s.wingUp v := by
  obtain hw | ⟨u, hw⟩ := s.wakeWing_eq w <;> rw [hw]
  rfl

/-- WAKE# wakes every sleeping wing of a running die. -/
theorem State.wakeWings_power {w : Nat} (hw : w < 32) (hup : s.wingUp w = true) (hsleep : (s.wing w).power = .sleeping) :
    ((each (List.range 32) (fun w s => if s.wingUp w then s.wakeWing w else s) s).wing w).power = .waking := by
  have honce := each_once (fun t : State => t.wingUp w = true ∧ ((t.wing w).power = .sleeping ∨ (t.wing w).power = .waking))
    (fun t : State => (t.wing w).power) (fun _ => .waking) (fun w s => if s.wingUp w then s.wakeWing w else s)
    List.nodup_range (List.mem_range.2 hw)
  refine honce ?_ ?_ ?_ ⟨hup, .inl hsleep⟩
  · rintro v - t ⟨htup, ht⟩
    split
    · refine ⟨(t.wingUp_wakeWing v w).trans htup, ?_⟩
      by_cases hv : w = v
      · subst hv
        unfold wakeWing
        dsimp only
        split
        · exact .inr (by rw [State.wing_setWing, if_pos rfl])
        · exact ht
      · rwa [State.wakeWing_power_other hv]
    · exact ⟨htup, ht⟩
  · rintro t ⟨htup, ht⟩
    rw [if_pos htup]
    unfold wakeWing
    dsimp only
    split
    · rw [State.wing_setWing, if_pos rfl]
    · next hne => exact ht.resolve_left hne
  · intro v hv t
    split
    · exact State.wakeWing_power_other hv.symm
    · rfl

theorem State.on_of_wingUp {w : Nat} (h : s.wingUp w = true) : s.on = true := by
  unfold wingUp dieUp at h
  exact (Bool.and_eq_true_iff.1 h).1

end

/-- Settles O48: a hotter reading takes its band, whatever the suite's messages write; a tick is its controls and then the
rooms' marks; sleep and wake are the wing's power state. -/
theorem bandsHearthAndSleep : Obligations.BandsHearthAndSleep := by
  unfold Obligations.BandsHearthAndSleep
  intro s hs
  refine ⟨?_, ?_, ?_, ?_, ?_, ?_, ?_, ?_, ?_, ?_, ?_, ?_, ?_, ?_, ?_, ?_, ?_, ?_, ?_, ?_, ?_, ?_, ?_, ?_, ?_⟩
  · intro d t hd hoff
    rw [exec_dieTempSample, execDieTempSample]
    refine act_stays (decide_eq_true hd) ?_ hs
    unfold State.dieTemp
    rw [if_pos (by simp [hoff])]
  · intro d t hd hon ht hband
    obtain ⟨mild, hshape⟩ := s.takeTemp_of_hotter hband
    obtain ⟨ktodo, kpending, kmem, kregs, kcool, kband, ktemp⟩ := State.setDieBand_kept (s :=
      (s.setEnt 0x2201 (d + 1) (min 255 t)).setDie d { s.die d with coolAt := none, mildAt := mild }) hd (dieBandOf t)
    rw [← hshape] at ktodo kpending kmem kregs kcool kband ktemp
    rw [exec_dieTempSample, execDieTempSample]
    refine act_exists (decide_eq_true hd) ?_ ?_ ?_ <;> rw [State.dieTemp_of_on hon ht]
    · exact ktodo.trans hs
    · exact kpending
    · refine ⟨kband, ktemp.trans ?_, kcool.trans ?_, kmem, kregs⟩
      · rw [State.setDie_ent, State.ent_setEnt_same]
        omega
      · rw [State.die_setDie, if_pos rfl]
  · intro d t hd hon hband hlo hhi
    rw [exec_dieTempSample, execDieTempSample]
    refine act_keeps (decide_eq_true hd) ?_ ⟨rfl, rfl⟩ hs
    rw [State.dieTemp_of_on hon (by omega), State.takeTemp_of_critical hband hlo hhi]
  · intro d t hd hon ht
    rw [exec_dieTempSample, execDieTempSample]
    refine act_gives_of (decide_eq_true hd) ?_
    unfold State.dieTemp
    rw [if_neg (by simp [hon]), if_pos ht]
  · intro d hd hcrit
    rw [exec_dieCriticalTimeout, execDieCriticalTimeout]
    refine act_stays (decide_eq_true hd) ?_ hs
    unfold State.dieCritical
    rw [hcrit]
  · intro d a hd hon hcrit hband
    rw [exec_dieCriticalTimeout, execDieCriticalTimeout]
    refine ⟨{ plainReport 0x31 (agentNo d 0x0B 0) with
      suites := (s.advance (a + 1000000000)).levelSuites (8 + d) [(s.advance (a + 1000000000)).suiteOfDie d] }, rfl, ?_,
      act_gives_of (decide_eq_true (Nat.lt_succ_of_lt hd)) ?_⟩
    · unfold State.levelSuites State.suiteOfDie State.layout State.ent
      rw [State.advance_mgmt, State.advance_od]
    · unfold State.dieCritical
      rw [hcrit]
      dsimp only
      rw [if_neg (by simp [hon, hband]; omega)]
  · intro avg now hon hen hst hbelow hlive hshare
    obtain ⟨on, hshape⟩ := s.hearth_eq avg now hon
    obtain ⟨ktodo, kpending, -⟩ := s.hearthControls_frames avg
    obtain ⟨ftodo, fpending, -, -, -, fctl, fent⟩ := (s.hearthControls avg).setHearth_frames on
    obtain ⟨hone, href, htarget, hat⟩ := State.hearthControls_of_rise (avg := avg) hen hst hbelow hlive hshare
    rw [exec_hearthTick, execHearthTick]
    refine act_exists rfl ?_ ?_ ?_ <;> rw [hshape]
    · exact (ftodo.trans ktodo).trans hs
    · exact fpending.trans kpending
    · rw [fctl, fent]
      exact ⟨hone, href, htarget, hat⟩
  · intro avg now hon hst hshare
    obtain ⟨on, hshape⟩ := s.hearth_eq avg now hon
    obtain ⟨ktodo, kpending, -⟩ := s.hearthControls_frames avg
    obtain ⟨ftodo, fpending, -, -, -, -, fent⟩ := (s.hearthControls avg).setHearth_frames on
    rw [exec_hearthTick, execHearthTick]
    refine act_exists rfl ?_ ?_ ?_ <;> rw [hshape]
    · exact (ftodo.trans ktodo).trans hs
    · exact fpending.trans kpending
    · rw [fent, State.hearthControls_of_fall hst hshare]
  · intro avg now
    rw [exec_hearthTick, execHearthTick]
    by_cases hon : s.on = true
    · obtain ⟨on, hshape⟩ := s.hearth_eq avg now hon
      obtain ⟨ktodo, kpending, kmem, kregs, kwings, krooms⟩ := s.hearthControls_frames avg
      obtain ⟨ftodo, fpending, fmem, fregs, fwings, -, -⟩ := (s.hearthControls avg).setHearth_frames on
      refine act_exists rfl ?_ ?_ ?_ <;> rw [hshape]
      · exact (ftodo.trans ktodo).trans hs
      · exact fpending.trans kpending
      · refine ⟨fmem.trans kmem, fregs.trans kregs, fwings.trans kwings, fun g => ?_⟩
        rw [State.setHearth_room]
        unfold State.room
        rw [krooms]
    · have hoff : s.hearth avg now = s := if_pos (by simpa using hon)
      exact ⟨s, act_stays rfl hoff hs, rfl, rfl, rfl, fun _ => rfl⟩
  · intro hon hst hpos hlt
    rw [exec_hearthRamp, execHearthRamp]
    refine act_keeps rfl ?_ ⟨rfl, rfl⟩ hs
    unfold State.hearthStep
    rw [if_neg (by simp [hon, hst])]
    dsimp only
    rw [State.setCtl_ent, if_neg (by omega)]
  · intro hon hst hend
    have hshape : s.hearthStep = (((s.setCtl { s.ctl with target := s.ctl.target - s.ctl.iref * s.ent 0x2300 3 / 100 }).setCtl
        { s.ctl with target := 0 }).setEnt 0x2300 7 0).setHearth fun _ => false := by
      unfold State.hearthStep
      rw [if_neg (by simp [hon, hst])]
      dsimp only
      rw [State.setCtl_ent, if_pos (by omega)]
      rfl
    obtain ⟨ftodo, fpending, -, -, -, fctl, fent⟩ := State.setHearth_frames (s := ((s.setCtl { s.ctl with
      target := s.ctl.target - s.ctl.iref * s.ent 0x2300 3 / 100 }).setCtl { s.ctl with target := 0 }).setEnt 0x2300 7 0) fun _ => false
    rw [exec_hearthRamp, execHearthRamp]
    refine act_exists rfl ?_ ?_ ?_ <;> rw [hshape]
    · exact ftodo.trans hs
    · exact fpending
    · refine ⟨by rw [fctl]; rfl, by rw [fent]; exact State.ent_setEnt_same _ _ _ _, fun g hg => ?_⟩
      refine State.setHearth_off ?_
      have hup : ∀ d, (((s.setCtl { s.ctl with target := s.ctl.target - s.ctl.iref * s.ent 0x2300 3 / 100 }).setCtl
          { s.ctl with target := 0 }).setEnt 0x2300 7 0).dieUp d = s.dieUp d := fun d => by
        unfold State.dieUp State.dieState
        rw [State.ent_setEnt_ne _ _ _ _ _ _ (by unfold dictKey; omega)]
        rfl
      unfold State.liveRooms at hg ⊢
      simpa only [hup] using hg
  · intro hst
    rw [exec_hearthRamp, execHearthRamp]
    refine act_stays rfl ?_ hs
    unfold State.hearthStep
    exact if_pos (by simp [hst])
  · intro hon hst
    have hkept : (s.advance (s.ctl.engagedAt + s.ent 0x2300 5 * 1000000)).ent 0x2300 7 = 1 := by
      rw [← hst]
      unfold State.ent
      rw [State.advance_od]
    rw [exec_hearthTimeout, execHearthTimeout]
    refine act_keeps rfl ?_ (by simp) hs
    rw [if_pos (by simp [hon, hst]), State.hearthRamps, if_pos hkept]
  · intro hst
    rw [exec_hearthTimeout, execHearthTimeout]
    exact act_stays rfl (if_neg (by simp [hst])) hs
  · intro hon hst
    have hkept : (s.setEnt 0x2300 6 0).ent 0x2300 7 = 1 := (State.ent_setEnt_ne _ _ _ _ _ _ (by decide)).trans hst
    rw [exec_hearthDisable, execHearthDisable]
    refine act_keeps rfl ?_ ⟨rfl, rfl⟩ hs
    rw [if_pos hon, State.hearthRamps, if_pos hkept]
  · intro hon hst
    have hkept : (s.setEnt 0x2300 6 0).ent 0x2300 7 ≠ 1 := by
      rw [State.ent_setEnt_ne _ _ _ _ _ _ (by decide)]
      exact hst
    rw [exec_hearthDisable, execHearthDisable]
    refine act_keeps rfl ?_ ⟨rfl, rfl⟩ hs
    rw [if_pos hon, State.hearthRamps, if_neg hkept]
  · intro w hw hbusy
    rw [exec_wingIdleTimeout, execWingIdleTimeout]
    exact act_stays (decide_eq_true hw) (State.sleepWing_of_busy hbusy) hs
  · intro w hw hup hrun hen hwake hcmds hqueues t ht
    rw [exec_wingIdleTimeout, execWingIdleTimeout, ht]
    exact act_gives_of (decide_eq_true hw) (State.sleepWing_of_idle hup hrun hen hwake hcmds hqueues)
  · exact fun w => State.flushOp_all w
  · intro w hw hup hsleep
    rw [exec_wingWake, execWingWake]
    refine act_keeps (decide_eq_true hw) ?_ ⟨rfl, rfl⟩ hs
    rw [if_pos hup, State.wakeWing_of_sleeping hsleep]
  · intro w hw hne
    rw [exec_wingWake, execWingWake]
    refine act_stays (decide_eq_true hw) ?_ hs
    rw [State.wakeWing_of_not hne, ite_self]
  · intro w hw hup hwaking
    rw [exec_wingWakeDone, execWingWakeDone]
    refine act_keeps (decide_eq_true hw) ?_ ⟨rfl, rfl⟩ hs
    rw [if_pos (by simp [hup, hwaking])]
  · intro w hw hne
    rw [exec_wingWakeDone, execWingWakeDone]
    refine act_stays (decide_eq_true hw) ?_ hs
    rw [if_neg (by simp [hne])]
  · have hkeep : ∀ {δ : Type} (P : State → δ), (∀ t w v, P (State.setWing t w v) = P t) → ∀ x : State,
        P (if x.on then each (List.range 32) (fun w s => if s.wingUp w then s.wakeWing w else s) x else x) = P x :=
      fun P h x => by
        split
        · exact State.wakeWings_keeps P h _
        · rfl
    rw [exec_wakeAssert, execWakeAssert]
    refine act_exists rfl ((hkeep State.todo (fun _ _ _ => rfl) _).trans hs) (hkeep State.pending (fun _ _ _ => rfl) _) ?_
    refine ⟨?_, hkeep State.mem (fun _ _ _ => rfl) _, hkeep State.regs (fun _ _ _ => rfl) _, fun w hw hup hsleep => ?_⟩
    · dsimp only
      rw [hkeep State.porch fun _ _ _ => rfl]
    · refine (congrArg (fun t : State => (t.wing w).power) (if_pos (State.on_of_wingUp hup))).trans ?_
      exact State.wakeWings_power hw hup hsleep
  · rw [exec_wakeDeassert, execWakeDeassert]
    exact act_keeps rfl rfl ⟨rfl, rfl⟩ hs

end Sys2Proof.Machine
end

section
/-! PROOFS. A port's mode and state, its neighbour, and the HELLOs that go out (R310, R321, R323, R324). -/

namespace Sys2Proof.Machine

/-- The entries of the ports' modes and states. -/
def PortEntry (key : Nat) : Prop := key / 256 = 0x4000 ∨ key / 256 = 0x4001

/-- What the packets that a port's change sends leave alone. -/
def State.portView (s : State) := (s.todo, s.pending, s.mem, s.regs, s.entries PortEntry)

section
variable {s : State}

theorem State.portView_setEnt {i k : Nat} (v : Nat) (h : ¬ PortEntry (dictKey i k)) : (s.setEnt i k v).portView = s.portView := by
  simp [portView, s.entries_setEnt v h]

theorem State.portView_incEnt {i k : Nat} (n : Nat) (h : ¬ PortEntry (dictKey i k)) : (s.incEnt i k n).portView = s.portView := by
  simp [portView, s.entries_incEnt n h]

theorem portView_messageFrame : MessageFrame State.portView where
  mgmt _ _ := rfl
  free _ := rfl
  emit _ _ := rfl
  pair _ _ _ := rfl
  fleet _ _ _ := rfl
  lost _ v := State.portView_setEnt v (by unfold PortEntry dictKey; omega)

/-! ### Ports and their packets -/

/-- A packet sent again writes its pair, a port's count and the output. -/
theorem MessageFrame.retransmit {γ : Type} {P : State → γ} (hP : MessageFrame P)
    (hcount : ∀ t q n, P (State.incEnt t 0x4003 (q + 1) n) = P t) (s : State) (m : Nat) (o : TxOp) :
    P (s.retransmit m o) = P s := by
  unfold State.retransmit
  split
  · unfold State.sendPacket
    dsimp only
    rw [hP.emit, hcount, hP.pair]
  · rfl

theorem MessageFrame.movePackets {γ : Type} {P : State → γ} (hP : MessageFrame P)
    (hcount : ∀ t q n, P (State.incEnt t 0x4003 (q + 1) n) = P t) (s : State) (p : Nat) : P (s.movePackets p) = P s := by
  unfold State.movePackets
  split
  · rfl
  · exact each_keeps P _ (fun (e : Nat × Pair) t => each_keeps P _ (fun o u => hP.retransmit hcount u e.1 o) _ t) _ s

theorem MessageFrame.dropPtp {γ : Type} {P : State → γ} (hP : MessageFrame P) (s : State) (p : Nat) :
    P (s.dropPtp p) = P s := by
  unfold State.dropPtp
  split
  · exact hP.mgmt _ _
  · rfl

theorem State.portView_movePackets (p : Nat) : (s.movePackets p).portView = s.portView :=
  portView_messageFrame.movePackets (fun _ _ n => State.portView_incEnt n (by unfold PortEntry dictKey; omega)) s p

/-- A port takes a state: its entry, and nothing else of the view. -/
theorem State.setPort_kept {p : Nat} (hp : p < 3) (v : Nat) :
    (s.setPort p v).todo = s.todo ∧ (s.setPort p v).pending = s.pending ∧ (s.setPort p v).mem = s.mem ∧
    (s.setPort p v).regs = s.regs ∧ (s.setPort p v).ent 0x4001 (p + 1) = v ∧
    (s.setPort p v).ent 0x4000 (p + 1) = s.ent 0x4000 (p + 1) := by
  have hmode : dictKey 0x4000 (p + 1) ≠ dictKey 0x4001 (p + 1) := by unfold dictKey; omega
  have hlost : ∀ i, i = 0x4000 ∨ i = 0x4001 → dictKey i (p + 1) ≠ dictKey 0x4420 5 := fun i hi => by unfold dictKey; omega
  unfold setPort
  split
  · next h => exact ⟨rfl, rfl, rfl, rfl, h, rfl⟩
  · unfold setRaise
    rw [State.raise_ent _ _ _ _ _ _ _ (hlost _ (.inr rfl)), State.raise_ent _ _ _ _ _ _ _ (hlost _ (.inl rfl)),
      State.ent_setEnt_same, State.ent_setEnt_ne _ _ _ _ _ _ hmode]
    simp

theorem State.portDown_of_down {p : Nat} (v : Nat) (h : s.portUp p = false) : s.portDown p v = s.setPort p v := by
  unfold portDown
  dsimp only
  rw [if_neg (by simp [h])]

theorem State.portDown_of_up {p : Nat} (v : Nat) (h : s.portUp p = true) :
    s.portDown p v = ((s.setPort p v).dropPtp p).movePackets p := by
  unfold portDown
  dsimp only
  rw [if_pos h]

theorem State.portDown_view (p v : Nat) : (s.portDown p v).portView = (s.setPort p v).portView := by
  unfold portDown
  dsimp only
  split
  · rw [State.portView_movePackets, portView_messageFrame.dropPtp]
  · rfl

theorem State.portDown_kept {p : Nat} (hp : p < 3) (v : Nat) :
    (s.portDown p v).todo = s.todo ∧ (s.portDown p v).pending = s.pending ∧ (s.portDown p v).mem = s.mem ∧
    (s.portDown p v).regs = s.regs ∧ (s.portDown p v).ent 0x4001 (p + 1) = v ∧
    (s.portDown p v).ent 0x4000 (p + 1) = s.ent 0x4000 (p + 1) := by
  have hview := s.portDown_view p v
  obtain ⟨htodo, hpending, hmem, hregs, hstate, hmode⟩ := State.setPort_kept (s := s) hp v
  simp only [State.portView, Prod.mk.injEq] at hview
  obtain ⟨vtodo, vpending, vmem, vregs, vent⟩ := hview
  refine ⟨vtodo.trans htodo, vpending.trans hpending, vmem.trans hmem, vregs.trans hregs, ?_, ?_⟩
  · rw [State.ent_of_entries vent (.inr (by unfold dictKey; omega)), hstate]
  · rw [State.ent_of_entries vent (.inl (by unfold dictKey; omega)), hmode]

/-! ### Events that go to no manager leave the pairs -/

theorem State.sendEvent_pairs {d : Nat} (seq : Nat) (r : EventRec) (hd : d ≠ 1) : (s.sendEvent seq d r).pairs = s.pairs := by
  unfold sendEvent
  rw [if_neg hd]
  rfl

theorem State.queueEvent_pairs {d : Nat} (r : EventRec) (hd : d ≠ 1) : (s.queueEvent r d).pairs = s.pairs := by
  unfold queueEvent
  dsimp only
  split
  · exact State.incEnt_pairs ..
  · split
    · rfl
    · rw [State.sendEvent_pairs _ _ hd]

theorem State.raise_pairs {i k cause v : Nat} (h : s.ent 0x4420 3 ≠ 1) : (s.raise i k cause v).pairs = s.pairs := by
  have hdests : ∀ (t : State), t.ent 0x4420 3 = s.ent 0x4420 3 → ∀ d ∈ t.eventDests i, d ≠ 1 := by
    intro t ht d hd hone
    unfold eventDests at hd
    rw [ht, if_neg h] at hd
    subst hone
    split at hd
    · simp at hd
    · exact absurd hd List.not_mem_nil
  unfold raise
  dsimp only
  split
  · exact each_keeps_of_mem State.pairs _ (fun d hd t => State.queueEvent_pairs _ (hdests _ rfl d hd)) _
  · rfl

theorem State.setPort_pairs {p v : Nat} (hp : p < 3) (h : s.ent 0x4420 3 ≠ 1) : (s.setPort p v).pairs = s.pairs := by
  unfold setPort setRaise
  split
  · rfl
  · have hne : dictKey 0x4420 3 ≠ dictKey 0x4001 (p + 1) := by unfold dictKey; omega
    rw [State.raise_pairs (by rwa [State.ent_setEnt_ne _ _ _ _ _ _ hne]), State.setEnt_pairs]

/-! ### The mode's write and the port's rise -/

/-- A port's mode written, with what AUTO has tried forgotten. -/
def State.modeWritten (s : State) (p v : Nat) : State :=
  let s := s.setEnt 0x4000 (p + 1) v
  { s with mgmt := { s.mgmt with autoCompat := s.mgmt.autoCompat.filter fun x => x ≠ p } }

theorem State.modeWritten_ent (p v : Nat) :
    (s.modeWritten p v).ent 0x4000 (p + 1) = v := State.ent_setEnt_same _ _ _ _

theorem State.modeWritten_portUp {p : Nat} (v : Nat) : (s.modeWritten p v).portUp p = s.portUp p := by
  have hstate : (s.modeWritten p v).ent 0x4001 (p + 1) = s.ent 0x4001 (p + 1) :=
    State.ent_setEnt_ne _ _ _ _ _ _ (by unfold dictKey; omega)
  unfold portUp
  rw [hstate]
  rfl

theorem State.portMode_of_off {p : Nat} (hon : s.on = true) : s.portMode p 0 = (s.modeWritten p 0).portDown p 0 := by
  unfold portMode
  rw [if_neg (by simp [hon])]
  rfl

/-- A mode written to a port that is not up sends the port to training. -/
theorem State.portMode_of_down {p v : Nat} (hon : s.on = true) (hv : v = 1 ∨ v = 2 ∨ v = 3)
    (hdown : s.portUp p = false) : s.portMode p v = (s.modeWritten p v).setPort p 1 := by
  have hstate : (s.modeWritten p v).ent 0x4001 (p + 1) = s.ent 0x4001 (p + 1) :=
    State.ent_setEnt_ne _ _ _ _ _ _ (by unfold dictKey; omega)
  have hlow : s.ent 0x4001 (p + 1) < 2 := by
    simpa [portUp, hon] using hdown
  have hshape : s.portMode p v = if !s.on || decide (3 < v) then s
      else if v = 0 then (s.modeWritten p v).portDown p 0
      else if (v = 1 && (s.modeWritten p v).ent 0x4001 (p + 1) = 2) || (v = 2 && (s.modeWritten p v).ent 0x4001 (p + 1) = 3) ||
        (v = 3 && 2 ≤ (s.modeWritten p v).ent 0x4001 (p + 1)) then s.modeWritten p v
      else (s.modeWritten p v).portDown p 1 := rfl
  rw [hshape, hstate, if_neg (by simp [hon]; omega), if_neg (by omega), if_neg (by simp; omega),
    State.portDown_of_down 1 ((State.modeWritten_portUp v).trans hdown)]

theorem State.portMode_of_unknown {p v : Nat} (h : 3 < v) : s.portMode p v = s := by
  unfold portMode
  rw [if_pos (by simp [h])]

theorem State.portRises_eq {p : Nat} (hon : s.on = true) (hdown : s.portUp p = false) (hmode : s.ent 0x4000 (p + 1) ≠ 0) :
    s.portRises p = s.setPort p (if s.ent 0x4000 (p + 1) = 2 ∨ (3 ≤ s.ent 0x4000 (p + 1) ∧ s.mgmt.autoCompat.contains p = true)
      then 3 else 2) := by
  unfold portRises
  rw [if_neg (by simp [hon, hdown])]
  split
  · next h => exact absurd h hmode
  · next h => rw [h, if_neg (by simp)]
  · next h => rw [h, if_pos (.inl rfl)]
  · next h0 h1 h2 =>
    have h3 : 3 ≤ s.ent 0x4000 (p + 1) := by
      have h1' : s.ent 0x4000 (p + 1) ≠ 1 := h1
      have h2' : s.ent 0x4000 (p + 1) ≠ 2 := h2
      omega
    by_cases hc : s.mgmt.autoCompat.contains p = true
    · rw [if_pos hc, if_pos (.inr ⟨h3, hc⟩)]
    · rw [if_neg hc, if_neg fun h => h.elim h2 fun h => hc h.2]

theorem State.portRises_of_off {p : Nat} (hmode : s.ent 0x4000 (p + 1) = 0) : s.portRises p = s := by
  unfold portRises
  split
  · rfl
  · rw [hmode]
    rfl

/-- AUTO's list of ports on the other mode with a port toggled. -/
def toggled (l : List Nat) (p : Nat) : List Nat := if l.contains p then l.filter fun x => x ≠ p else p :: l

theorem contains_toggled (l : List Nat) (p : Nat) :
    (toggled l p).contains p = !l.contains p := by
  unfold toggled
  by_cases h : l.contains p = true
  · rw [if_pos h, h, Bool.not_true, ← Bool.not_eq_true, List.contains_iff_mem, List.mem_filter]
    simp
  · rw [if_neg h, Bool.eq_false_iff.2 h]
    simp

/-! ### HELLOs (R323, R324) -/

theorem helloBytes_sig (h : HelloMsg) (sig : Bytes) : helloBytes { h with sig := sig } = helloBytes h := rfl

theorem State.helloMsg_sig (s : State) : s.helloMsg.sig = Config.idSign (helloBytes s.helloMsg) := by
  unfold helloMsg
  exact congrArg Config.idSign (helloBytes_sig _ _).symm

/-- The state with the fresh nonce of its next HELLOs. -/
def State.freshNonce (s : State) : State :=
  { s with mgmt := { s.mgmt with nonce := BitVec.ofNat 128 s.freeVal } }.drawFree

/-- A HELLO on a port. -/
def State.helloOn (s : State) (p : Nat) : State :=
  s.emit (.hello p (if s.ent 0x4001 (p + 1) = 3 then s.blob 0x4010 3 else []) s.helloMsg)

theorem State.sendHello_of_on (hon : s.on = true) :
    s.sendHello = each ((List.range 3).filter fun p => s.freshNonce.portUp p) (fun p t => t.helloOn p) s.freshNonce := by
  unfold sendHello
  rw [if_neg (by simp [hon])]
  rfl

/-- HELLOs write the output alone. -/
theorem State.hellos_keep {γ : Type} (P : State → γ) (h : ∀ t o, P (State.emit t o) = P t) (l : List Nat) :
    P (each l (fun p t => t.helloOn p) s) = P s :=
  each_keeps P _ (fun _ t => h t _) l s

theorem State.helloMsg_emit (o : Out) : (s.emit o).helloMsg = s.helloMsg := rfl

theorem State.hello_mem_out {l : List Nat} {p : Nat} (hp : p ∈ l) :
    Out.hello p (if s.ent 0x4001 (p + 1) = 3 then s.blob 0x4010 3 else []) s.helloMsg ∈ (each l (fun p t => t.helloOn p) s).out := by
  refine each_establishes (fun t : State => t.ent = s.ent ∧ t.blob = s.blob ∧ t.helloMsg = s.helloMsg)
    (fun t : State => Out.hello p (if s.ent 0x4001 (p + 1) = 3 then s.blob 0x4010 3 else []) s.helloMsg ∈ t.out) _ hp ?_ ?_ ?_
    ⟨rfl, rfl, rfl⟩
  · rintro q - t ⟨hent, hblob, hmsg⟩
    exact ⟨hent, hblob, (State.helloMsg_emit _).trans hmsg⟩
  · rintro t ⟨hent, hblob, hmsg⟩
    unfold helloOn
    rw [hent, hblob, hmsg]
    exact List.mem_cons_self
  · intro q _ t _ ht
    exact List.mem_cons_of_mem _ ht

theorem State.helloMsg_freshNonce : s.freshNonce.helloMsg.nonce = s.freshNonce.mgmt.nonce := rfl

end

/-- Settles O40: a port's change is its entry, its event, and the packets that move; a HELLO goes out on every port that is
up, with the message of the state that drew its nonce. -/
theorem gloingPorts : Obligations.GloingPorts := by
  unfold Obligations.GloingPorts
  intro s p hs hp
  have hok : decide (p < 3) = true := decide_eq_true hp
  refine ⟨?_, ?_, ?_, ?_, ?_, ?_, ?_, ?_, ?_, ?_, ?_, ?_, ?_, ?_⟩
  · intro hon
    obtain ⟨htodo, hpending, hmem, hregs, hstate, hmode⟩ := State.portDown_kept (s := s.modeWritten p 0) hp 0
    rw [exec_portModeWrite, execPortModeWrite]
    refine act_exists hok ?_ ?_ ?_ <;> rw [State.portMode_of_off hon]
    · exact htodo.trans hs
    · exact hpending
    · exact ⟨hmode.trans (State.modeWritten_ent p 0), hstate, hmem, hregs⟩
  · intro v hon hv hdown
    obtain ⟨htodo, hpending, -, hregs, hstate, hmode⟩ := State.setPort_kept (s := s.modeWritten p v) hp 1
    rw [exec_portModeWrite, execPortModeWrite]
    refine act_exists hok ?_ ?_ ?_ <;> rw [State.portMode_of_down hon hv hdown]
    · exact htodo.trans hs
    · exact hpending
    · refine ⟨hmode.trans (State.modeWritten_ent p v), hstate, fun hman => ?_, hregs⟩
      have hkept : (s.modeWritten p v).ent 0x4420 3 = s.ent 0x4420 3 :=
        State.ent_setEnt_ne _ _ _ _ _ _ (by unfold dictKey; omega)
      exact State.setPort_pairs hp (hkept ▸ hman)
  · intro v hv
    rw [exec_portModeWrite, execPortModeWrite]
    exact act_stays hok (State.portMode_of_unknown hv) hs
  · intro hon hmode hdown
    have hshape : s.autoSwitch p = { s with mgmt := { s.mgmt with autoCompat := toggled s.mgmt.autoCompat p } } := by
      unfold State.autoSwitch
      rw [if_pos (by simp [hon, hmode, hdown])]
      rfl
    rw [exec_autoModeSwitch, execAutoModeSwitch]
    refine act_exists hok ?_ ?_ ?_ <;> rw [hshape]
    · exact hs
    · exact ⟨contains_toggled _ _, rfl, rfl⟩
  · intro hmode
    rw [exec_autoModeSwitch, execAutoModeSwitch]
    refine act_stays hok ?_ hs
    unfold State.autoSwitch
    rw [if_neg (by simp [hmode])]
  · intro hon hdown hmode
    obtain ⟨htodo, hpending, -, -, hstate, -⟩ := State.setPort_kept (s := s) hp
      (if s.ent 0x4000 (p + 1) = 2 ∨ (3 ≤ s.ent 0x4000 (p + 1) ∧ s.mgmt.autoCompat.contains p = true) then 3 else 2)
    rw [exec_portUp, execPortUp]
    refine act_exists hok ?_ ?_ ?_ <;> rw [State.portRises_eq hon hdown hmode]
    · exact htodo.trans hs
    · exact hpending
    · exact ⟨State.setPort_pairs hp, hstate⟩
  · intro hmode
    rw [exec_portUp, execPortUp]
    exact act_stays hok (State.portRises_of_off hmode) hs
  · intro hup
    rw [exec_laneLockLoss, execLaneLockLoss]
    refine act_gives_of hok ?_
    rw [if_pos hup, State.portDown_of_up 1 hup]
  · intro hdown
    rw [exec_laneLockLoss, execLaneLockLoss]
    exact act_stays hok (if_neg (by simp [hdown])) hs
  · intro hup
    rw [exec_lldpTransmit, execLldpTransmit]
    refine act_keeps hok ?_ ⟨rfl, rfl⟩ hs
    unfold State.sendLldp
    exact if_pos hup
  · intro hdown
    rw [exec_lldpTransmit, execLldpTransmit]
    refine act_stays hok ?_ hs
    unfold State.sendLldp
    rw [if_neg (by simp [hdown])]
  · intro nb hup hne
    rw [exec_lldpReceive, execLldpReceive]
    refine act_keeps hok ?_ (by simp) hs
    unfold State.takeLldp
    rw [if_neg (by simp [hup, hne])]
  · intro nb heq
    rw [exec_lldpReceive, execLldpReceive]
    refine act_stays hok ?_ hs
    unfold State.takeLldp
    rw [if_pos (by simp [heq])]
  · intro hon
    have hkeep : ∀ {γ : Type} (P : State → γ), (∀ t o, P (State.emit t o) = P t) → P s.sendHello = P s.freshNonce := fun P h => by
      rw [State.sendHello_of_on hon]
      exact State.hellos_keep P h _
    have hmsg : s.sendHello.helloMsg = s.freshNonce.helloMsg := hkeep State.helloMsg fun _ _ => rfl
    rw [exec_helloTransmit, execHelloTransmit]
    refine act_exists rfl ((hkeep State.todo fun _ _ => rfl).trans hs) (hkeep State.pending fun _ _ => rfl) ?_
    refine ⟨?_, hkeep State.free fun _ _ => rfl, fun hup => ?_, ?_, ?_, ?_, ?_, ?_, State.helloMsg_sig _,
      hkeep State.mem fun _ _ => rfl, hkeep State.regs fun _ _ => rfl, hkeep State.od fun _ _ => rfl⟩
    · rw [hkeep State.mgmt fun _ _ => rfl]
      rfl
    · rw [hmsg, State.sendHello_of_on hon]
      exact State.hello_mem_out (s := s.freshNonce) (List.mem_filter.2 ⟨List.mem_range.2 hp, hup⟩)
    · rw [hmsg]; rfl
    · rw [hmsg]; rfl
    · rw [hmsg]; rfl
    · rw [hmsg]; rfl
    · rw [hmsg, hkeep State.mgmt fun _ _ => rfl]
      exact State.helloMsg_freshNonce

end Sys2Proof.Machine
end

section
/-! PROOFS. A Breaker captures the first report of a class and counts the others, and is cleared, read and armed
(R413 to R423). -/

namespace Sys2Proof.Machine

theorem paBreaker_eq_iff (b o o' : Nat) : paBreaker b o = paBreaker b o' ↔ o = o' := by
  unfold paBreaker
  omega

theorem paCapture_add (b c n : Nat) : paCapture b c + n = paBreaker b (0x40 + 0x20 * c + n) := by
  unfold paCapture paBreaker
  omega

section
variable {s : State}

/-! ### A capture -/

/-- A report accepted: one more waits, it is counted, and its class's action is owed. -/
def State.accepted (s : State) (b : Nat) (r : Report) : State :=
  let s := { s with backlog := tput 0 b (min 64 (tget 0 s.backlog b + 1)) s.backlog }
  let s := s.incEnt 0x5040 (5 * b + srcClass r.src.toNat + 1) 1
  if 2 ≤ srcClass r.src.toNat then { s with todo := s.todo ++ [(b, r)] } else s

theorem State.accepted_kept (b : Nat) (r : Report) :
    (s.accepted b r).regs = s.regs ∧ (s.accepted b r).mem = s.mem ∧ (s.accepted b r).house = s.house ∧
    (s.accepted b r).todo = s.todo ++ (if 2 ≤ srcClass r.src.toNat then [(b, r)] else []) := by
  unfold accepted
  dsimp only
  split <;> simp

/-- The first report of its class written to the capture registers. -/
def State.noted (s : State) (b : Nat) (r : Report) : State :=
  let c := srcClass r.src.toNat
  let s := s.setReg (paCapture b c) (BitVec.ofNat 64 (capA r))
  let s := s.setReg (paCapture b c + 8) (BitVec.ofNat 64 (capM r))
  let s := s.setReg (paCapture b c + 16) (BitVec.ofNat 64 s.house)
  let s := s.setReg (paCapture b c + 24) 0
  s.setReg (paBreaker b 0) (s.reg (paBreaker b 0) ||| BitVec.ofNat 64 (2 ^ c))

theorem State.forwardCapture_keeps {γ : Type} (P : State → γ) (h : ∀ t i k v, P (State.setEnt t i k v) = P t) (b c : Nat) :
    P (s.forwardCapture b c) = P s := by
  unfold forwardCapture
  dsimp only
  rw [h, h, h, h, h]

theorem State.capture_of_waiting {b : Nat} {r : Report} (h : tget 0 s.backlog b < 64 ∨ srcClass r.src.toNat ≠ 0) :
    s.capture b r =
      let x := s.accepted b r
      let c := srcClass r.src.toNat
      if bitOf (x.regN (paBreaker b 0)) c then
        (x.setReg (paCapture b c + 24) (BitVec.ofNat 64 (satInc 32 (x.regN (paCapture b c + 24)) 1))).forwardCapture b c
      else
        let irq := (x.noted b r).regN (paBreaker b (0x200 + 0x10 * c))
        let y := if irq = 0 then x.noted b r else (x.noted b r).msi b irq ((x.noted b r).regN (paBreaker b (0x208 + 0x10 * c)))
        (y.forwardCapture b c).raise 0x5000 (b + 1) 0 ((y.forwardCapture b c).ent 0x5000 (b + 1)) := by
  unfold capture
  dsimp only
  rw [if_neg (by omega)]
  rfl

theorem State.regN_of_regs {t : State} (h : t.regs = s.regs) (pa : Nat) : t.regN pa = s.regN pa := by
  unfold regN reg
  rw [h]

theorem State.reg_of_regs {t : State} (h : t.regs = s.regs) (pa : Nat) : t.reg pa = s.reg pa := by
  unfold reg
  rw [h]

/-- The capture registers after the first report of a class, and the class's bit of BSTAT. -/
theorem State.noted_reg (b : Nat) (r : Report) :
    (s.noted b r).reg (paCapture b (srcClass r.src.toNat)) = BitVec.ofNat 64 (capA r) ∧
    (s.noted b r).reg (paCapture b (srcClass r.src.toNat) + 8) = BitVec.ofNat 64 (capM r) ∧
    (s.noted b r).reg (paCapture b (srcClass r.src.toNat) + 16) = BitVec.ofNat 64 s.house ∧
    (s.noted b r).reg (paCapture b (srcClass r.src.toNat) + 24) = 0 ∧
    (s.noted b r).reg (paBreaker b 0) = s.reg (paBreaker b 0) ||| BitVec.ofNat 64 (2 ^ srcClass r.src.toNat) := by
  unfold noted
  generalize srcClass r.src.toNat = c
  have h0 : paCapture b c ≠ paBreaker b 0 := fun h => by
    have := (paBreaker_eq_iff b _ 0).1 h
    omega
  have hadd : ∀ n, paCapture b c + n ≠ paBreaker b 0 := fun n h => by
    rw [paCapture_add, paBreaker_eq_iff] at h
    omega
  simp [State.reg_setReg, h0, h0.symm, hadd, fun n => (hadd n).symm]

/-- The interrupt's registers are none of those that a capture writes. -/
theorem State.noted_irq (b : Nat) (r : Report) :
    (s.noted b r).regN (paBreaker b (0x200 + 0x10 * srcClass r.src.toNat)) =
      s.regN (paBreaker b (0x200 + 0x10 * srcClass r.src.toNat)) := by
  have hc := srcClass_lt r.src.toNat
  unfold noted
  generalize srcClass r.src.toNat = c at hc ⊢
  have h0 : paBreaker b (0x200 + 0x10 * c) ≠ paBreaker b 0 := fun h => by
    rw [paBreaker_eq_iff] at h
    omega
  have hadd : ∀ n, n ≤ 24 → paBreaker b (0x200 + 0x10 * c) ≠ paCapture b c + n := fun n hn h => by
    rw [paCapture_add, paBreaker_eq_iff] at h
    omega
  have hself : paBreaker b (0x200 + 0x10 * c) ≠ paCapture b c := hadd 0 (by decide)
  dsimp only
  rw [State.regN_setReg, if_neg h0, State.regN_setReg, if_neg (hadd 24 (by decide)), State.regN_setReg,
    if_neg (hadd 16 (by decide)), State.regN_setReg, if_neg (hadd 8 (by decide)), State.regN_setReg, if_neg hself]

theorem State.noted_kept (b : Nat) (r : Report) : (s.noted b r).todo = s.todo ∧ (s.noted b r).mem = s.mem := by
  unfold noted
  dsimp only
  simp

/-- The first report of a class, without an interrupt. -/
theorem State.capture_of_first {b : Nat} {r : Report} (hfree : bitOf (s.regN (paBreaker b 0)) (srcClass r.src.toNat) = false)
    (hwait : tget 0 s.backlog b < 64) (hirq : s.regN (paBreaker b (0x200 + 0x10 * srcClass r.src.toNat)) = 0) :
    s.capture b r =
      let y := ((s.accepted b r).noted b r).forwardCapture b (srcClass r.src.toNat)
      y.raise 0x5000 (b + 1) 0 (y.ent 0x5000 (b + 1)) := by
  obtain ⟨hregs, -⟩ := s.accepted_kept b r
  rw [State.capture_of_waiting (.inl hwait)]
  dsimp only
  rw [State.regN_of_regs hregs, hfree, if_neg Bool.false_ne_true, State.noted_irq, State.regN_of_regs hregs, hirq, if_pos rfl]

theorem State.capture_of_later {b : Nat} {r : Report} (hset : bitOf (s.regN (paBreaker b 0)) (srcClass r.src.toNat) = true)
    (hwait : tget 0 s.backlog b < 64 ∨ srcClass r.src.toNat ≠ 0) :
    s.capture b r = ((s.accepted b r).setReg (paCapture b (srcClass r.src.toNat) + 24)
      (BitVec.ofNat 64 (satInc 32 (s.regN (paCapture b (srcClass r.src.toNat) + 24)) 1))).forwardCapture b (srcClass r.src.toNat) := by
  obtain ⟨hregs, -⟩ := s.accepted_kept b r
  rw [State.capture_of_waiting hwait]
  dsimp only
  rw [State.regN_of_regs hregs, hset, if_pos rfl, State.regN_of_regs hregs]

theorem bitOf_or_two_pow (x : BitVec 64) {c : Nat} (hc : c < 64) : bitOf (x ||| BitVec.ofNat 64 (2 ^ c)).toNat c = true := by
  rw [bitOf_eq_testBit, BitVec.toNat_or, Nat.testBit_or, BitVec.toNat_ofNat,
    Nat.mod_eq_of_lt (Nat.pow_lt_pow_right (by decide) hc), Nat.testBit_two_pow_self, Bool.or_true]

/-! ### A report (R415 to R418) -/

theorem State.report_of_unheard {b : Nat} {r : Report} (h : s.breakerUp b = false ∨ knownSource r.src.toNat = false) :
    s.report b r = s := by
  unfold report
  exact if_pos (by rcases h with h | h <;> simp [h])

theorem State.report_of_known {b : Nat} {r : Report} (hup : s.breakerUp b = true) (hknown : knownSource r.src.toNat = true) :
    s.report b r = match r.addr with
      | some a =>
        if r.src = 0x32 ∨ r.src = 0x41 then (s.capture b (s.withSuites r)).loseSet (a.toNat / 64)
        else if r.src = 0x29 then (s.capture b (s.withSuites r)).zeroWord a.toNat else s.capture b (s.withSuites r)
      | none => s.capture b (s.withSuites r) := by
  unfold report
  exact (if_neg (by simp [hup, hknown])).trans rfl

theorem State.withSuites_of_ne {r : Report} (h : r.addr = none ∨ r.src ≠ 0x32#8) : s.withSuites r = r := by
  unfold withSuites
  split
  · next hsrc =>
    rcases h with h | h
    · rw [h]
    · exact absurd hsrc h
  · rfl

theorem State.withSuites_of_stack {r : Report} {a : BitVec 56} {j : Nat} (hsrc : r.src = 0x32#8) (ha : r.addr = some a)
    (hj : regionOf a.toNat = .stack j) : s.withSuites r = { r with suites := [s.suiteOfStack j] } := by
  have hsrc' : r.src = 0x32 := hsrc
  unfold withSuites
  rw [if_pos hsrc', ha]
  dsimp only
  rw [hj]

/-! ### Clearing, reading and arming (R414, R421, R423) -/

theorem State.clearClass_of_clear {b c : Nat} (h : bitOf (s.regN (paBreaker b 0)) c = false) : s.clearClass b c = s := by
  unfold clearClass
  rw [if_neg (Bool.eq_false_iff.1 h)]

/-- The registers that a class's clearing writes. -/
def State.released (s : State) (b c : Nat) : State :=
  ((s.setRegF (paBreaker b 0) c c 0).setRegF (paCapture b c) 63 63 0).setReg (paCapture b c + 24) 0

/-- The classes without a level source are cleared in their registers, entries and event alone. -/
theorem State.clearClass_of_set {b c : Nat} (hc : c = 1 ∨ c = 2 ∨ c = 4) (h : bitOf (s.regN (paBreaker b 0)) c = true) :
    s.clearClass b c = let y := (s.released b c).forwardCapture b c
      y.raise 0x5000 (b + 1) 0 (y.ent 0x5000 (b + 1)) := by
  have hlevels : ∀ t : State, t.reportLevels b c = t := fun t => by
    unfold reportLevels levels
    rw [if_neg (by omega), if_neg (by omega)]
    rfl
  unfold clearClass
  rw [if_pos h]
  exact hlevels _

theorem State.released_reg (b : Nat) {c : Nat} (hc : c < 64) :
    bitOf ((s.released b c).regN (paBreaker b 0)) c = false ∧ (s.released b c).regF (paCapture b c) 63 63 = 0 ∧
    (s.released b c).reg (paCapture b c + 24) = 0 := by
  have hadd : ∀ n, paBreaker b 0 ≠ paCapture b c + n := fun n h => by
    rw [paCapture_add, paBreaker_eq_iff] at h
    omega
  have h0 : paBreaker b 0 ≠ paCapture b c := hadd 0
  have hself : paCapture b c ≠ paCapture b c + 24 := by omega
  unfold released
  refine ⟨?_, ?_, ?_⟩
  · rw [State.regN_setReg, if_neg (hadd 24), State.regN_setRegF_ne _ _ _ _ h0, State.regN_setRegF_same _ _ _ _ hc,
      bitOf_eq_testBit, testBit_putFld, if_pos ⟨Nat.le_refl c, Nat.le_refl c⟩, Nat.zero_testBit]
  · unfold regF
    rw [State.regN_setReg, if_neg hself]
    exact State.regF_setRegF_same _ _ _ _ (by decide)
  · rw [State.reg_setReg, if_pos rfl]

/-- BDROP is read and cleared. -/
theorem State.readClear_bdrop {b : Nat} (hb : b < 5) :
    s.readClear (paBreaker b 8) = (s.emit (.regRead (paBreaker b 8) (s.reg (paBreaker b 8)))).setReg (paBreaker b 8)
      (s.reg (paBreaker b 8) &&& ~~~(bmask 31 0)) := by
  have hdesc : ∀ b ∈ List.range 5, (regDesc (paBreaker b 8)).map (fun d => d.rc) = some (bmask 31 0) := by decide
  obtain ⟨d, hd, hrc⟩ := Option.map_eq_some_iff.1 (hdesc b (List.mem_range.2 hb))
  unfold readClear
  rw [hd]
  dsimp only
  rw [hrc]

theorem fld_and_not_low (x : BitVec 64) : fld (x &&& ~~~(bmask 31 0)).toNat 31 0 = 0 := by
  apply Nat.eq_of_testBit_eq
  intro i
  rw [testBit_fld, Nat.zero_testBit, Nat.zero_add, BitVec.toNat_and, Nat.testBit_and]
  by_cases hi : i < 32
  · have hmask : (~~~(bmask 31 0)).toNat = 2 ^ 32 * (2 ^ 32 - 1) := by decide
    rw [hmask, Nat.testBit_two_pow_mul]
    simp [Nat.not_le.2 hi]
  · simp [hi]

/-- An armed slot reads the fields that the write may set. -/
theorem fld_of_injection (v : BitVec 64) {hi lo : Nat} (h : hi = 63 ∧ lo = 48 ∨ hi = 45 ∧ lo = 40 ∨ hi = 15 ∧ lo = 0) :
    fld (v &&& (bmask 63 48 ||| bmask 45 40 ||| bmask 15 0)).toNat hi lo = fld v.toNat hi lo := by
  have hmask : (bmask 63 48 ||| bmask 45 40 ||| bmask 15 0).toNat = 2 ^ 64 - 2 ^ 48 + (2 ^ 46 - 2 ^ 40) + (2 ^ 16 - 1) := by decide
  have hbits : ∀ i < hi + 1 - lo, (2 ^ 64 - 2 ^ 48 + (2 ^ 46 - 2 ^ 40) + (2 ^ 16 - 1)).testBit (lo + i) = true := by
    rcases h with ⟨rfl, rfl⟩ | ⟨rfl, rfl⟩ | ⟨rfl, rfl⟩ <;> decide
  apply Nat.eq_of_testBit_eq
  intro i
  rw [testBit_fld, testBit_fld, BitVec.toNat_and, Nat.testBit_and, hmask]
  by_cases hi' : i < hi + 1 - lo
  · rw [hbits i hi', Bool.and_true]
  · rw [decide_eq_false hi', Bool.false_and, Bool.false_and]

theorem State.writeInj_of_bad {b k v : Nat} (hup : s.breakerUp b = true) (hbad : badInjection b v = true) :
    s.writeInj b k v = s.setRegF (paBreaker b 0) 8 8 1 := by
  unfold writeInj
  rw [if_neg (by simp [hup]), if_pos hbad]

theorem State.writeInj_of_good {b k v : Nat} (hup : s.breakerUp b = true) (hgood : badInjection b v = false) :
    s.writeInj b k v = (s.setReg (paBreaker b (0x100 + 0x20 * k)) (BitVec.ofNat 64 v &&& (bmask 63 48 ||| bmask 45 40 ||| bmask 15 0))).setReg
      (paBreaker b (0x100 + 0x20 * k) + 0x18) 0 := by
  unfold writeInj
  rw [if_neg (by simp [hup]), if_neg (by simp [hgood])]

/-! ### The C4 record (R422) -/

theorem State.clearC4_kept : s.clearC4.todo = s.todo ∧ s.clearC4.pending = s.pending ∧ s.clearC4.mem = s.mem ∧
    s.clearC4.regs = s.regs :=
  ⟨rfl, rfl, rfl, rfl⟩

theorem State.clearC4_ent {k : Nat} (hlo : 1 ≤ k) (hhi : k ≤ 4) : s.clearC4.ent 0x5020 k = 0 := by
  have hmem : k ∈ [1, 2, 3, 4] := by
    simp only [List.mem_cons, List.not_mem_nil, or_false]
    omega
  refine each_establishes (fun _ : State => True) (fun t : State => t.ent 0x5020 k = 0) (fun k t => t.setEnt 0x5020 k 0) hmem
    (fun _ _ _ _ => trivial) (fun t _ => State.ent_setEnt_same _ _ _ _) (fun j _ t _ ht => ?_) (s := s) trivial
  by_cases hj : j = k
  · rw [hj]
    exact State.ent_setEnt_same _ _ _ _
  · rw [State.ent_setEnt_ne _ _ _ _ _ _ (by unfold dictKey; omega)]
    exact ht

theorem State.clearC4_alerts : Alert.c4 ∉ s.clearC4.porch.alerts := by
  unfold clearC4
  simp

end

/-- Settles O55: a capture is its registers, the copies that are forwarded and the event, and the other operations write
the Breaker's own registers. -/
theorem breakerCaptures : Obligations.BreakerCaptures := by
  unfold Obligations.BreakerCaptures
  intro s b hs hb
  have hok : decide (b < 5) = true := decide_eq_true hb
  refine ⟨?_, ?_, ?_, ?_, ?_, ?_, ?_, ?_, ?_, ?_, ?_, ?_, ?_, ?_, ?_⟩
  · intro r hup hknown hplain
    rw [exec_breakerReport, execBreakerReport]
    refine act_gives_of hok ?_
    rw [State.report_of_known hup hknown, State.withSuites_of_ne (hplain.imp id fun h => h.1)]
    split
    · next a ha =>
      obtain hnone | ⟨h32, h41, h29⟩ := hplain
      · exact absurd (ha.symm.trans hnone) (by simp)
      · have h29' : r.src ≠ 0x29 := h29
        rw [if_neg fun h => h.elim h32 h41, if_neg h29']
    · rfl
  · intro r a hup ha
    rw [exec_breakerReport, execBreakerReport]
    refine ⟨fun hsrc => act_gives_of hok ?_, fun hsrc => act_gives_of hok ?_, fun j hsrc hj => act_gives_of hok ?_⟩
    · rw [State.report_of_known hup (by rw [hsrc]; decide), State.withSuites_of_ne (.inr (by rw [hsrc]; decide)), ha]
      have hsrc' : r.src = 0x29 := hsrc
      dsimp only
      rw [if_neg (by rw [hsrc]; decide), if_pos hsrc']
    · rw [State.report_of_known hup (by rw [hsrc]; decide), State.withSuites_of_ne (.inr (by rw [hsrc]; decide)), ha]
      exact if_pos (.inr hsrc)
    · rw [State.report_of_known hup (by rw [hsrc]; decide), State.withSuites_of_stack hsrc ha hj, ha]
      exact if_pos (.inl hsrc)
  · intro r hno
    rw [exec_breakerReport, execBreakerReport]
    exact act_stays hok (State.report_of_unheard hno) hs
  · intro r hfree hwait hirq
    have hc := srcClass_lt r.src.toNat
    obtain ⟨aregs, amem, ahouse, atodo⟩ := s.accepted_kept b r
    obtain ⟨ha, hm, ht, hn, hstat⟩ := (s.accepted b r).noted_reg b r
    obtain ⟨ntodo, nmem⟩ := (s.accepted b r).noted_kept b r
    rw [State.capture_of_first hfree hwait hirq]
    have hregs : ∀ x : State, ((x.forwardCapture b (srcClass r.src.toNat)).raise 0x5000 (b + 1) 0
        ((x.forwardCapture b (srcClass r.src.toNat)).ent 0x5000 (b + 1))).regs = x.regs := fun x => by
      rw [State.raise_regs, State.forwardCapture_keeps State.regs fun _ _ _ _ => rfl]
    dsimp only
    refine ⟨?_, ?_, ?_, ?_, ?_, ?_, ?_⟩
    · rw [State.reg_of_regs (hregs _), ha]
    · rw [State.reg_of_regs (hregs _), hm]
    · rw [State.reg_of_regs (hregs _), ht, ahouse]
    · rw [State.reg_of_regs (hregs _), hn]
    · rw [State.regN_of_regs (hregs _), State.regN, hstat]
      exact bitOf_or_two_pow _ (Nat.lt_trans hc (by decide))
    · rw [State.raise_todo, State.forwardCapture_keeps State.todo fun _ _ _ _ => rfl, ntodo, atodo]
    · rw [State.raise_mem, State.forwardCapture_keeps State.mem fun _ _ _ _ => rfl, nmem, amem]
  · intro r hset hwait
    obtain ⟨aregs, -⟩ := s.accepted_kept b r
    have hfwd : ∀ x : State, (x.forwardCapture b (srcClass r.src.toNat)).regs = x.regs := fun x =>
      State.forwardCapture_keeps State.regs (fun _ _ _ _ => rfl) _ _
    rw [State.capture_of_later hset hwait]
    refine ⟨?_, ?_⟩
    · rw [State.reg_of_regs (hfwd _), State.reg_setReg, if_neg (by omega), State.reg_of_regs aregs]
    · rw [State.reg_of_regs (hfwd _), State.reg_setReg, if_pos rfl]
  · intro m hup
    rw [exec_bstatClear, execBstatClear]
    exact act_gives_of hok rfl
  · intro m hdown
    rw [exec_bstatClear, execBstatClear, exec_bdropRead, execBdropRead]
    exact ⟨act_stays hok (if_neg (by simp [hdown])) hs, act_stays hok (if_neg (by simp [hdown])) hs⟩
  · intro c hc hset
    obtain ⟨hbit, hvalid, hcount⟩ := s.released_reg b (c := c) (by omega)
    have hregs : ∀ x : State, ((x.forwardCapture b c).raise 0x5000 (b + 1) 0 ((x.forwardCapture b c).ent 0x5000 (b + 1))).regs =
        x.regs := fun x => by
      rw [State.raise_regs, State.forwardCapture_keeps State.regs fun _ _ _ _ => rfl]
    rw [State.clearClass_of_set hc hset]
    dsimp only
    refine ⟨?_, ?_, ?_, ?_⟩
    · rw [State.regN_of_regs (hregs _), hbit]
    · rw [State.regF, State.regN_of_regs (hregs _)]
      exact hvalid
    · rw [State.reg_of_regs (hregs _), hcount]
    · rw [State.raise_mem, State.forwardCapture_keeps State.mem fun _ _ _ _ => rfl, State.released, State.setReg_mem,
        State.setRegF_mem, State.setRegF_mem]
  · exact fun c hclear => State.clearClass_of_clear hclear
  · intro n _ hlevels
    unfold State.reportLevels
    rw [hlevels]
    rfl
  · intro hup
    rw [exec_bdropRead, execBdropRead]
    refine act_exists hok ?_ ?_ ?_ <;> rw [if_pos hup, State.readClear_bdrop hb]
    · rw [State.setReg_todo, State.emit_todo, hs]
    · rw [State.setReg_pending, State.emit_pending]
    · refine ⟨?_, ?_, by rw [State.setReg_mem, State.emit_mem], by rw [State.setReg_od, State.emit_od]⟩
      · rw [State.regF, State.regN_setReg, if_pos rfl]
        exact fld_and_not_low _
      · rw [State.setReg_out]
        rfl
  · intro k v hk hup hbad
    rw [exec_injctlWrite, execInjctlWrite]
    exact act_keeps (by simp [hb, hk]) (State.writeInj_of_bad hup hbad) (by simp) hs
  · intro k v hk hup hgood
    have hread : ∀ hi lo, (hi = 63 ∧ lo = 48 ∨ hi = 45 ∧ lo = 40 ∨ hi = 15 ∧ lo = 0) →
        (s.writeInj b k v.toNat).regF (paBreaker b (0x100 + 0x20 * k)) hi lo = fld v.toNat hi lo := fun hi lo h => by
      rw [State.writeInj_of_good hup hgood, State.regF, State.regN_setReg, if_neg (by omega), State.regN_setReg, if_pos rfl,
        fld_of_injection _ h, BitVec.ofNat_toNat, BitVec.setWidth_eq]
    rw [exec_injctlWrite, execInjctlWrite]
    refine act_exists (by simp [hb, hk]) ?_ ?_ ⟨hread _ _ (.inl ⟨rfl, rfl⟩), hread _ _ (.inr (.inl ⟨rfl, rfl⟩)),
      hread _ _ (.inr (.inr ⟨rfl, rfl⟩)), ?_, ?_⟩ <;> rw [State.writeInj_of_good hup hgood]
    · rw [State.setReg_todo, State.setReg_todo, hs]
    · rw [State.setReg_pending, State.setReg_pending]
    · rw [State.setReg_mem, State.setReg_mem]
    · rw [State.setReg_od, State.setReg_od]
  · intro hfw
    obtain ⟨htodo, hpending, hmem, hregs⟩ := s.clearC4_kept
    rw [exec_c4RecordClear, execC4RecordClear]
    refine act_exists rfl ?_ ?_ ?_ <;> rw [if_pos hfw]
    · exact htodo.trans hs
    · exact hpending
    · exact ⟨fun k hlo hhi => State.clearC4_ent hlo hhi, State.clearC4_alerts, hmem, hregs⟩
  · intro hfw
    rw [exec_c4RecordClear, execC4RecordClear]
    exact act_stays rfl (if_neg (by simp [hfw])) hs

end Sys2Proof.Machine
end

section
/-! PROOFS. The segment's heartbeats, nodes, events, retries and answers (R371, R372, R375, R376, R378). -/

namespace Sys2Proof.Machine

section
variable {s : State}

/-! ### Heartbeats -/

theorem fld_present (t : Nat) : fld (2 ^ 63 + t % 2 ^ 62) 63 62 = 2 := by
  unfold fld
  omega

/-- A node that was PRESENT is LOST, with an event, 300 ms after its last heartbeat. -/
theorem State.loseNode_of_present {n : Nat} (hfw : s.firmware = true) (hman : s.manager = true) (hpresent : s.nodeState n = 1) :
    s.loseNode n = ((s.advance (s.ent 0x4404 (n + 1) % 2 ^ 62 + 300000000)).setEnt 0x4404 (n + 1)
      (2 ^ 63 + s.ent 0x4404 (n + 1) % 2 ^ 62)).raise 0x4404 (n + 1) 4 (2 ^ 63 + s.ent 0x4404 (n + 1) % 2 ^ 62) := by
  unfold loseNode
  rw [if_neg (by simp [hfw, hman, hpresent])]

theorem State.loseNode_of_not {n : Nat} (h : s.nodeState n ≠ 1) : s.loseNode n = s := by
  unfold loseNode
  rw [if_pos (by simp [h])]

theorem State.advance_house {t : Nat} (h : t < 2 ^ 64) : (s.advance t).house = max s.house t := by
  unfold advance
  split
  · dsimp only
    rw [Nat.mod_eq_of_lt h]
    omega
  · omega

/-! ### Events -/

theorem State.queueEvent_sculleryUp (r : EventRec) (d : Nat) : (s.queueEvent r d).mgmt.sculleryUp = s.mgmt.sculleryUp := by
  unfold queueEvent
  dsimp only
  split
  · rw [State.incEnt_mgmt]
  · split
    · rfl
    · rw [State.sendEvent_mgmt]

theorem State.queueEvent_firmware (r : EventRec) (d : Nat) : (s.queueEvent r d).firmware = s.firmware := by
  unfold firmware on
  rw [State.queueEvent_porch, State.queueEvent_sculleryUp]

/-- An event for the host counts no event. -/
theorem State.queueEvent_evNumber (r : EventRec) (d : Nat) : (s.queueEvent r d).mgmt.evNumber = s.mgmt.evNumber := by
  unfold queueEvent
  dsimp only
  split
  · rw [State.incEnt_mgmt]
  · split
    · rfl
    · rw [State.sendEvent_mgmt]

theorem State.queueEvent_mgrLost (r : EventRec) (d : Nat) : (s.queueEvent r d).mgmt.mgrLost = s.mgmt.mgrLost := by
  unfold queueEvent
  dsimp only
  split
  · rw [State.incEnt_mgmt]
  · split
    · rfl
    · rw [State.sendEvent_mgmt]

/-- A manager unheard at a time: the worker's mark and an event number; the event goes to the host where it listens. -/
def State.unheard (s : State) (time : Nat) : State :=
  let s := s.advance time
  let n := s.mgmt.evNumber + 1
  let s := { s with mgmt := { s.mgmt with mgrLost := true, evNumber := n } }
  if (s.eventDests 0x4400).contains 2 then
    s.queueEvent ⟨0x4400, 1, 4, n, BitVec.ofNat 64 (s.ent 0x4400 1), s.house, s.stepNo⟩ 2
  else s

theorem State.loseManager_eq {a : Nat} (hfw : s.firmware = true) (hman : s.manager = false) (hseen : s.mgmt.mgrSeen = some a)
    (hlost : s.mgmt.mgrLost = false) : s.loseManager = s.unheard (a + 300000000) := by
  unfold loseManager
  rw [hseen]
  exact if_neg (by simp [hfw, hman, hlost])

theorem State.unheard_kept (time : Nat) : (s.unheard time).todo = s.todo ∧ (s.unheard time).pending = s.pending ∧
    (s.unheard time).mgmt.mgrLost = true ∧ (s.unheard time).mgmt.evNumber = s.mgmt.evNumber + 1 ∧
    (s.unheard time).mem = s.mem := by
  unfold unheard
  dsimp only
  split
  · rw [State.queueEvent_todo, State.queueEvent_pending, State.queueEvent_mgrLost, State.queueEvent_evNumber,
      State.queueEvent_mem]
    simp
  · simp

/-! ### What was sent, sent again or given up -/

theorem State.retry_event_again {seq n d : Nat} {r : EventRec} (h : n < 5) : s.retry ⟨seq, n, .event d r⟩ =
    (s.putSent ⟨seq, n, .event d r⟩ ⟨seq, n + 1, .event d r⟩).sendEvent seq d r := by
  unfold retry
  dsimp only
  rw [if_pos h]

theorem State.retry_event_last {seq n d : Nat} {r : EventRec} (h : 5 ≤ n) : s.retry ⟨seq, n, .event d r⟩ =
    (s.dropSent ⟨seq, n, .event d r⟩).dropEvent d r := by
  unfold retry
  dsimp only
  rw [if_neg (by omega)]

theorem State.retry_relay_last {seq n op w : Nat} {m : DictMsg} {l : List Nat} {a : Bool} (h : 5 ≤ n) :
    s.retry ⟨seq, n, .relay op m l a w⟩ = (s.dropSent ⟨seq, n, .relay op m l a w⟩).respond m op (if w = 0 then 0x0A else w) [] := by
  unfold retry
  dsimp only
  rw [if_neg (by omega)]

theorem State.dropSent_only {o : Outgoing} (h : s.mgmt.outgoing = [o]) : (s.dropSent o).mgmt.outgoing = [] := by
  unfold dropSent
  dsimp only
  rw [h]
  simp

/-- A RESPONSE is taken for the one thing sent that it answers. -/
theorem State.takeResponse_of_only {o : Outgoing} {seq node st : Nat} {body : Bytes} (hfw : s.firmware = true)
    (honly : s.mgmt.outgoing = [o]) (hseq : o.seq = seq) (hans : o.what.answeredBy node = true) :
    s.takeResponse seq node st body =
      match o.what with
      | .event d r => (s.dropSent o).dropEvent d r
      | .relay op m nodes all worst =>
        if all then
          if nodes.filter (fun n => n ≠ node) = [] then (s.dropSent o).respond m op (if worst = 0 then st else worst) []
          else s.putSent o { o with what := .relay op m (nodes.filter fun n => n ≠ node) true (if worst = 0 then st else worst) }
        else (s.dropSent o).respond m op st body := by
  have hfind : (s.mgmt.outgoing.find? fun o => o.seq = seq && o.what.answeredBy node) = some o := by
    rw [honly, List.find?_cons_of_pos (by simp [hseq, hans])]
  unfold takeResponse
  rw [if_neg (by simp [hfw])]
  generalize s.mgmt.outgoing.find? (fun o => o.seq = seq && o.what.answeredBy node) = r at hfind ⊢
  subst hfind
  rfl

end

/-- Settles O52: a heartbeat, a loss and an event are what each role records of it; what was sent is found by its number,
sent again while it has tries left, and dropped when it is answered or given up. -/
theorem segmentNode : Obligations.SegmentNode := by
  unfold Obligations.SegmentNode
  intro s hs hfw
  have hon : s.on = true := by
    unfold State.firmware at hfw
    exact (Bool.and_eq_true_iff.1 hfw).1
  refine ⟨?_, ?_, ?_, ?_, ?_, ?_, ?_, ?_, ?_, ?_, ?_, ?_, ?_, ?_, ?_, ?_, ?_, ?_, ?_, ?_, ?_, ?_⟩
  · intro role node st ser hman hnode hrole
    rw [exec_heartbeat, execHeartbeat]
    refine act_keeps rfl ?_ ⟨rfl, rfl⟩ hs
    unfold State.hearHeartbeat
    rw [if_neg (by simp [hfw]), if_pos hman, if_pos ⟨hnode, hrole⟩]
  · intro node st ser hman
    rw [exec_heartbeat, execHeartbeat]
    refine act_keeps rfl ?_ ⟨rfl, rfl⟩ hs
    unfold State.hearHeartbeat
    rw [if_neg (by simp [hfw]), if_neg (by simp [hman]), if_pos rfl]
  · intro role node st ser hman hrole
    rw [exec_heartbeat, execHeartbeat]
    refine act_stays rfl ?_ hs
    unfold State.hearHeartbeat
    rw [if_neg (by simp [hfw]), if_neg (by simp [hman]), if_neg hrole]
  · intro hman
    rw [exec_heartbeatTransmit, execHeartbeatTransmit]
    refine act_keeps rfl ?_ ⟨rfl, rfl⟩ hs
    rw [if_neg (by simp [hfw]), if_pos hman]
  · intro hman hseen
    rw [exec_heartbeatTransmit, execHeartbeatTransmit]
    refine act_stays rfl ?_ hs
    rw [if_neg (by simp [hfw]), if_neg (by simp [hman]), if_neg (by simp [hseen])]
  · intro n hn hman hpresent
    have hkey : dictKey 0x4404 (n + 1) ≠ dictKey 0x4420 5 := by unfold dictKey; omega
    rw [exec_nodeLostTimeout, execNodeLostTimeout]
    refine act_exists rfl ?_ ?_ ?_ <;> rw [State.loseNode_of_present hfw hman hpresent]
    · rw [State.raise_todo, State.setEnt_todo, State.advance_todo, hs]
    · rw [State.raise_pending, State.setEnt_pending, State.advance_pending]
    · refine ⟨?_, by simp, by simp, ?_⟩
      · rw [State.nodeState, State.raise_ent _ _ _ _ _ _ _ hkey, State.ent_setEnt_same, fld_present]
      · have hlt : s.ent 0x4404 (n + 1) % 2 ^ 62 + 300000000 < 2 ^ 64 := by omega
        rw [State.raise_house, State.setEnt_house, State.advance_house hlt, Nat.mod_eq_of_lt hlt]
  · intro n hnot
    rw [exec_nodeLostTimeout, execNodeLostTimeout]
    exact act_stays rfl (State.loseNode_of_not hnot) hs
  · intro a hman hseen hlost
    obtain ⟨htodo, hpending, hmark, hnumber, hmem⟩ := s.unheard_kept (a + 300000000)
    rw [exec_managerLostTimeout, execManagerLostTimeout]
    refine act_exists rfl ?_ ?_ ?_ <;> rw [State.loseManager_eq hfw hman hseen hlost]
    · exact htodo.trans hs
    · exact hpending
    · exact ⟨hmark, hnumber, hmem⟩
  · intro hseen
    rw [exec_managerLostTimeout, execManagerLostTimeout]
    refine act_stays rfl ?_ hs
    unfold State.loseManager
    rw [hseen]
  · rw [exec_plcaBeaconTimeout, execPlcaBeaconTimeout]
    exact act_keeps rfl (if_pos hon) ⟨rfl, rfl⟩ hs
  · rw [exec_plcaBeaconReceive, execPlcaBeaconReceive]
    exact act_keeps rfl (if_pos hon) ⟨rfl, rfl⟩ hs
  · intro src r hno
    rw [exec_event, execEvent]
    refine act_keeps rfl ?_ ⟨rfl, rfl⟩ hs
    dsimp only
    rw [if_neg (by rcases hno with h | h <;> rw [h] <;> simp), State.ackNotice, if_pos hfw]
  · intro src r hman hdest
    rw [exec_event, execEvent]
    refine act_keeps rfl ?_ (by simp) hs
    dsimp only
    rw [if_pos (by rw [hfw, hman, hdest]; rfl), State.ackNotice, if_pos ((State.queueEvent_firmware _ _).trans hfw)]
  · intro seq d r honly
    rw [exec_requestRetry, execRequestRetry]
    refine act_keeps rfl ?_ (by simp [State.putSent]) hs
    rw [if_pos hfw, honly, List.filter_cons_of_pos (by simp [Sent.toAll]), List.filter_nil]
    exact State.retry_event_again (n := 1) (by decide)
  · intro seq d r hd
    unfold State.sendEvent
    exact if_neg hd
  · intro seq d r n hn honly
    have hshape : each (s.mgmt.outgoing.filter fun o => o.seq = seq && !o.what.toAll) (fun o s => s.retry o) s =
        (s.dropSent ⟨seq, n, .event d r⟩).dropEvent d r := by
      rw [honly, List.filter_cons_of_pos (by simp [Sent.toAll]), List.filter_nil]
      exact State.retry_event_last hn
    rw [exec_requestRetry, execRequestRetry]
    refine act_exists rfl ?_ ?_ ?_ <;> rw [if_pos hfw, hshape]
    · exact hs
    · rfl
    · exact ⟨State.dropSent_only honly, rfl, rfl, rfl⟩
  · intro seq hnone
    have hempty : ∀ f : Outgoing → Bool, s.mgmt.outgoing.filter (fun o => o.seq = seq && f o) = [] := fun f => by
      rw [List.filter_eq_nil_iff]
      intro o ho
      simp [hnone o ho]
    rw [exec_requestRetry, execRequestRetry, exec_relayRetry, execRelayRetry]
    refine ⟨act_stays rfl ?_ hs, act_stays rfl ?_ hs⟩ <;> rw [if_pos hfw, hempty] <;> rfl
  · intro seq op m l w n hn honly
    rw [exec_relayRetry, execRelayRetry]
    refine act_gives_of rfl ?_
    rw [if_pos hfw, honly, List.filter_cons_of_pos (by simp [Sent.toAll]), List.filter_nil]
    exact State.retry_relay_last hn
  · intro seq d r node st body honly hnode
    have hans : (Sent.event d r).answeredBy node = true := by
      simpa [Sent.answeredBy] using hnode
    have hshape := State.takeResponse_of_only (st := st) (body := body) hfw honly rfl hans
    rw [exec_response, execResponse]
    refine act_exists rfl ?_ ?_ ?_ <;> rw [hshape]
    · exact hs
    · rfl
    · refine ⟨State.dropSent_only honly, ?_, rfl⟩
      unfold State.dropEvent
      exact (tget_tset ..).trans (if_pos rfl)
  · intro seq op m l a w node st body honly hmem
    have hshape := State.takeResponse_of_only (st := st) (body := body) (node := node) hfw honly rfl hmem
    rw [exec_response, execResponse]
    refine ⟨fun ha => act_gives_of rfl ?_, fun ha hall => act_gives_of rfl ?_⟩ <;> rw [hshape]
    · exact if_neg (by simp [ha])
    · have hempty : l.filter (fun n => n ≠ node) = [] := by
        rw [List.filter_eq_nil_iff]
        intro x hx
        simp [hall x hx]
      dsimp only
      rw [if_pos ha, if_pos hempty]
  · intro seq node st body hnone
    rw [exec_response, execResponse]
    refine act_stays rfl ?_ hs
    unfold State.takeResponse
    rw [if_neg (by simp [hfw]), hnone]
    rfl
  · rw [exec_replyLockRetry, execReplyLockRetry]
    exact act_gives_of rfl (if_pos hfw)

end Sys2Proof.Machine
end

section
/-! PROOFS. Dictionary requests are answered or refused (R363, R366, R367, R370 to R372). -/

namespace Sys2Proof.Machine

section
variable {s : State} {m : DictMsg}

/-! ### A request on each path -/

/-- The four requests are performed alike. -/
theorem exec_request (s : State) (m : DictMsg) {o : Nat × (DictMsg → Instr)}
    (ho : o ∈ ([(1, Instr.read), (2, Instr.write), (3, Instr.readSeg), (4, Instr.writeSeg)] : List (Nat × (DictMsg → Instr)))) :
    exec (o.2 m) s = act true (fun s => s.request o.1 m) s := by
  simp only [List.mem_cons, List.not_mem_nil, or_false] at ho
  rcases ho with rfl | rfl | rfl | rfl
  · exact exec_read m s
  · exact exec_write m s
  · exact exec_readSeg m s
  · exact exec_writeSeg m s

theorem State.request_letterbox (op : Nat) (hfw : s.firmware = true) (hpath : m.path = .letterbox) :
    s.request op m = s.answerMsg op m := by
  unfold request
  rw [hpath]
  exact if_pos hfw

theorem State.request_gloing (op : Nat) {g : Nat} (hfw : s.firmware = true) (hpath : m.path = .gloing g) :
    s.request op m = s.checkSession op m := by
  unfold request
  rw [hpath]
  exact if_pos hfw

theorem State.request_field (op : Nat) {n : Nat} (hfw : s.firmware = true) (hpath : m.path = .field n)
    (hrole : s.ent 0x4400 1 ≠ 3) : s.request op m = s.checkSession op m := by
  unfold request
  rw [hpath]
  dsimp only
  rw [if_neg (by simp [hfw]), if_neg hrole]

/-! ### The checks of a request -/

theorem State.answerMsg_of_wf {op : Nat} (hver : m.ver = 1#4) (hkind : m.kind = 0#4) (hform : m.formOk = true)
    (hbody : bodyOk op m = true) (hsession : m.session = 0) :
    s.answerMsg op m = if m.path ≠ .letterbox ∧ m.session = 0 ∧ !(op = 1 ∧ m.items.all openItem) then s.respond m op 7 []
      else s.route op m := by
  unfold answerMsg
  exact if_neg (by simp [hver, hkind, hform, hbody, hsession])

theorem State.answerMsg_of_bad {op : Nat} (hpath : m.path = .letterbox)
    (hbad : m.ver ≠ 1#4 ∨ m.formOk = false ∨ bodyOk op m = false ∨ m.session ≠ 0) (hkind : m.kind ≠ 1#4) :
    s.answerMsg op m = s.respond m op 9 [] := by
  have hkind' : ¬ m.kind = 1 := hkind
  unfold answerMsg
  rw [if_pos (by rcases hbad with h | h | h | h <;> simp_all), if_neg hkind']

theorem State.answerMsg_of_response {op : Nat} (hkind : m.kind = 1#4) : s.answerMsg op m = s := by
  have hkind' : m.kind = 1 := hkind
  have hne : m.kind ≠ 0 := by rw [hkind']; decide
  unfold answerMsg
  rw [if_pos (.inr (.inl hne)), if_pos hkind']

theorem State.route_of_self {op : Nat} (htarget : m.target = 0) (hfw : (s.perform op m).2.firmware = true) :
    s.route op m = (s.perform op m).2.respond m op (s.perform op m).1.1 (s.perform op m).1.2 := by
  unfold route
  rw [if_pos (.inl htarget)]
  exact if_pos hfw

theorem State.checkSession_of_kept {op : Nat} {a : Answer} (hsession : m.session = 0) (hkept : s.kept m = some a) :
    s.checkSession op m = s.sendResponse m.path a.bytes := by
  unfold checkSession
  rw [if_pos hsession, hkept]

theorem State.checkSession_of_new {op : Nat} (hsession : m.session = 0) (hkept : s.kept m = none) :
    s.checkSession op m = s.answerMsg op m := by
  unfold checkSession
  rw [if_pos hsession, hkept]

theorem State.checkSession_of_no_session {op : Nat} (hsession : m.session ≠ 0) (hnone : s.session m.path m.session = none) :
    s.checkSession op m = s := by
  unfold checkSession
  rw [if_neg hsession, hnone]

theorem State.checkSession_of_bad_tag {op : Nat} {x : Session} (hsession : m.session ≠ 0)
    (hsome : s.session m.path m.session = some x) (htag : m.tag ≠ Config.hmac512t x.key m.raw) : s.checkSession op m = s := by
  unfold checkSession
  rw [if_neg hsession, hsome]
  exact if_pos htag

/-! ### What a READ answers -/

theorem itemBytes_nil_length (i k ity len status flags : Nat) : (itemBytes i k ity len status flags []).length = 8 := by
  unfold itemBytes pad8
  simp only [List.length_append, length_toBytes, List.length_nil, List.length_replicate]

/-- A READ of one entry that does not exist. -/
theorem State.doRead_of_missing {x : DictItem} (hitems : m.items = [x]) (hnone : dictEntry x.index x.sub = none)
    (hfits : 24 + tagBytes m.session ≤ pathMax m.path) :
    s.doRead m = ((1, itemBytes x.index x.sub 0 0 1 0 []), s) := by
  have hitem : s.readItem x = ((1, itemBytes x.index x.sub 0 0 1 0 []), s) := by
    unfold readItem
    rw [hnone]
  unfold doRead
  rw [hitems]
  simp only [List.foldl_cons, List.foldl_nil, hitem, List.nil_append, List.flatMap_cons, List.flatMap_nil, List.append_nil,
    List.map_cons, List.map_nil, itemBytes_nil_length]
  rw [if_neg (by omega)]
  rfl

/-- A READ of nothing. -/
theorem State.doRead_of_nil (hitems : m.items = []) :
    (s.doRead m).1 = (0, []) ∨ pathMax m.path < 16 + tagBytes m.session := by
  by_cases hfits : pathMax m.path < 16 + tagBytes m.session
  · exact .inr hfits
  · refine .inl ?_
    unfold doRead
    rw [hitems]
    dsimp only [List.foldl_nil, List.flatMap_nil, List.map_nil, List.length_nil]
    rw [if_neg (by simpa using hfits)]
    rfl

/-! ### Where an answer goes -/

theorem State.respond_of_no_box {op st : Nat} (body : Bytes) (hpath : m.path = .letterbox) (hreply : m.reply < 16 ∨ 63 < m.reply) :
    s.respond m op st body = s := by
  unfold respond
  rw [hpath]
  exact if_neg (by omega)

/-- The packet that carries a message to a module. -/
def State.messagePacket (s : State) (g : Nat) (b : Bytes) : Packet :=
  { basePacket 7 g 0 with
    src := s.own
    words := (List.range ((b.length + 15) / 16)).map fun i => (BitVec.ofNat 128 (ofBytes (slice b (16 * i) 16)), (0 : BitVec 16)) }

theorem State.sendModule_of_up {g : Nat} (b : Bytes) (hown : s.own ≠ 0xFFFF) (hg : g ≠ 0xFFFF) (hne : g ≠ s.own)
    (hup : (s.pair g).up = true) : s.sendModule g b = s.setPair g { s.pair g with
      waiting := (s.pair g).waiting ++ [(s.messagePacket g b, .scullery)] } := by
  unfold sendModule
  rw [if_neg (by simp [hown, hg, hne])]
  exact if_pos (by simp [hup])

end

/-- Settles O51: a request meets the checks of its path and session in order, and each outcome of them is one answer. -/
theorem dictionaryRequests : Obligations.DictionaryRequests := by
  unfold Obligations.DictionaryRequests
  intro s m hs hfw
  refine ⟨fun o ho => ?_, ?_, ?_, ?_, ?_⟩
  · rw [exec_request s m ho]
    refine ⟨?_, ?_, ?_, ?_, ?_, ?_, ?_, ?_⟩
    · intro hpath hver hkind hform hbody hsession htarget hup
      refine act_gives_of rfl ?_
      rw [State.request_letterbox _ hfw hpath, State.answerMsg_of_wf hver hkind hform hbody hsession,
        if_neg (fun h => h.1 hpath), State.route_of_self htarget hup]
    · intro hpath hbad hkind
      refine act_gives_of rfl ?_
      rw [State.request_letterbox _ hfw hpath, State.answerMsg_of_bad hpath hbad hkind]
    · intro hpath hkind
      refine act_stays rfl ?_ hs
      rw [State.request_letterbox _ hfw hpath, State.answerMsg_of_response hkind]
    · intro g hpath hver hkind hform hbody hsession hkept hopen
      refine act_gives_of rfl ?_
      rw [State.request_gloing _ hfw hpath, State.checkSession_of_new hsession hkept,
        State.answerMsg_of_wf hver hkind hform hbody hsession, if_pos ⟨by rw [hpath]; simp, hsession, by rwa [Bool.not_eq_true', decide_eq_false_iff_not]⟩]
    · intro g a hpath hsession hkept
      refine act_keeps rfl ?_ (by simp) hs
      rw [State.request_gloing _ hfw hpath, State.checkSession_of_kept hsession hkept, hpath]
      rfl
    · intro n a hpath hrole hsession hkept
      refine act_keeps rfl ?_ ⟨rfl, rfl⟩ hs
      rw [State.request_field _ hfw hpath hrole, State.checkSession_of_kept hsession hkept, hpath]
      rfl
    · intro g x hpath hsession hsome htag
      refine act_stays rfl ?_ hs
      rw [State.request_gloing _ hfw hpath, State.checkSession_of_bad_tag hsession hsome htag]
    · intro g hpath hsession hnone
      refine act_stays rfl ?_ hs
      rw [State.request_gloing _ hfw hpath, State.checkSession_of_no_session hsession hnone]
  · intro x hitems hnone hfits
    have hread : s.perform 1 m = s.doRead m := by rfl
    rw [hread, State.doRead_of_missing hitems hnone hfits]
    exact ⟨rfl, rfl⟩
  · intro g b hown hg hne hup
    rw [State.sendModule_of_up b hown hg hne hup]
    refine ⟨s.messagePacket g b, ?_, rfl, rfl, rfl, ?_, rfl⟩
    · rw [State.pair_setPair, if_pos rfl]
    · simp [State.messagePacket]
  · exact fun op st body hpath hreply => State.respond_of_no_box body hpath hreply
  · exact fun hitems => State.doRead_of_nil hitems

end Sys2Proof.Machine
end

section
/-! PROOFS. Items of a WRITE are checked in order, and a refused WRITE leaves no more than the reason of a refused
activation (R268, R361, R362, R367 to R369). -/

namespace Sys2Proof.Machine

section
variable {s : State} {path : Path} {sess i k ity : Nat} {b : Bytes} {r : DRow}

/-! ### The checks of one item, in their order -/

theorem State.writeEntry_of_missing (h : dictEntry i k = none) : s.writeEntry path sess i k ity b = (1, s) := by
  unfold writeEntry
  rw [h]

theorem State.writeEntry_of_test (h : dictEntry i k = some r) (hi : 0xA000 ≤ i) (htest : s.inTest = false) (hne : i ≠ 0xA000) :
    s.writeEntry path sess i k ity b = (6, s) := by
  unfold writeEntry
  rw [h]
  exact if_pos ⟨hi, by simp [htest], by simp [hne]⟩

/-- Outside the test area an item meets its access first, then its type. -/
theorem State.writeEntry_of_row (h : dictEntry i k = some r) (hi : i < 0xA000) : s.writeEntry path sess i k ity b =
    if r.acc = .ro ∨ r.acc = .const then (2, s)
    else if ity ≠ r.ty.code then (5, s)
    else if r.ty.isBytes then
      if lengthOk r i k b.length then (0, s.setBlob i k b) else (5, s)
    else if b.length ≠ r.ty.size then (5, s)
    else if !s.rangeOk r i k (ofBytes b) then (3, s)
    else if r.acc = .rwq ∧ !s.quiet i k then (4, s)
    else ((s.applyEntry path sess i k (ofBytes b)).1.code,
      if (s.applyEntry path sess i k (ofBytes b)).1 = .ok then (s.applyEntry path sess i k (ofBytes b)).2
      else if i = 0x8101 ∨ i = 0x8102 then s.keepReason (s.applyEntry path sess i k (ofBytes b)).2 else s) := by
  unfold writeEntry
  rw [h]
  exact if_neg fun hc => absurd hc.1 (by omega)

theorem State.writeEntry_of_writable (h : dictEntry i k = some r) (hi : i < 0xA000) (hro : r.acc ≠ .ro) (hconst : r.acc ≠ .const) :
    s.writeEntry path sess i k ity b =
    if ity ≠ r.ty.code then (5, s)
    else if r.ty.isBytes then
      if lengthOk r i k b.length then (0, s.setBlob i k b) else (5, s)
    else if b.length ≠ r.ty.size then (5, s)
    else if !s.rangeOk r i k (ofBytes b) then (3, s)
    else if r.acc = .rwq ∧ !s.quiet i k then (4, s)
    else ((s.applyEntry path sess i k (ofBytes b)).1.code,
      if (s.applyEntry path sess i k (ofBytes b)).1 = .ok then (s.applyEntry path sess i k (ofBytes b)).2
      else if i = 0x8101 ∨ i = 0x8102 then s.keepReason (s.applyEntry path sess i k (ofBytes b)).2 else s) := by
  rw [State.writeEntry_of_row h hi, if_neg (by simp [hro, hconst])]

/-! ### What a refused item leaves -/

theorem State.keepReason_eq (s t : State) : s.keepReason t = s ∨ ∃ n, s.keepReason t = s.setEnt 0x8100 3 n := by
  unfold keepReason
  split
  · exact .inl rfl
  · exact .inr ⟨_, rfl⟩

/-- What a refused item may leave of the state `s`: the state itself, or the reason of a context's refused activation. -/
def RefusalOf (s : State) (i : Nat) (r : Nat × State) : Prop :=
  r.1 ≠ 0 → r.2 = s ∨ ((i = 0x8101 ∨ i = 0x8102) ∧ ∃ t, r.2 = s.keepReason t)

theorem refusalOf_self (s : State) (i st : Nat) : RefusalOf s i (st, s) := fun _ => .inl rfl

theorem refusalOf_ok (s t : State) (i : Nat) : RefusalOf s i (0, t) := fun h => absurd rfl h

/-- An item that its unit refuses. -/
theorem refusalOf_applied (s : State) (i : Nat) (a : Answered × State) : RefusalOf s i (a.1.code,
    if a.1 = .ok then a.2 else if i = 0x8101 ∨ i = 0x8102 then s.keepReason a.2 else s) := by
  intro h
  have hne : a.1 ≠ .ok := fun hok => h (by rw [hok]; rfl)
  dsimp only
  rw [if_neg hne]
  by_cases hctx : i = 0x8101 ∨ i = 0x8102
  · exact .inr ⟨hctx, a.2, if_pos hctx⟩
  · exact .inl (if_neg hctx)

theorem State.writeEntry_refused : RefusalOf s i (s.writeEntry path sess i k ity b) := by
  unfold writeEntry
  cases dictEntry i k with
  | none => exact refusalOf_self s i 1
  | some r =>
    refine iteInduction (fun _ => refusalOf_self s i 6) fun _ => ?_
    refine iteInduction (fun _ => refusalOf_self s i 2) fun _ => ?_
    refine iteInduction (fun _ => refusalOf_self s i 5) fun _ => ?_
    refine iteInduction (fun _ => ?_) fun _ => ?_
    · exact iteInduction (fun _ => refusalOf_ok s _ i) fun _ => refusalOf_self s i 5
    · refine iteInduction (fun _ => refusalOf_self s i 5) fun _ => ?_
      refine iteInduction (fun _ => refusalOf_self s i 3) fun _ => ?_
      exact iteInduction (fun _ => refusalOf_self s i 4) fun _ => refusalOf_applied s i _

theorem State.writeEntry_refused_reason (h : (s.writeEntry path sess i k ity b).1 ≠ 0) :
    (s.writeEntry path sess i k ity b).2 = s ∨ ∃ n, (s.writeEntry path sess i k ity b).2 = s.setEnt 0x8100 3 n := by
  obtain hsame | ⟨-, t, ht⟩ := State.writeEntry_refused h
  · exact .inl hsame
  · rw [ht]
    exact s.keepReason_eq t

/-! ### A whole WRITE, and its segments -/

theorem State.checkItems_length (m : DictMsg) : (s.checkItems m).1.length = m.items.length := by
  have hfold : ∀ (l : List DictItem) (acc : List Nat × State), (l.foldl (fun (acc : List Nat × State) x =>
      let r := acc.2.writeEntry m.path m.session x.index x.sub x.ity.toNat x.value
      (acc.1 ++ [r.1], r.2)) acc).1.length = acc.1.length + l.length := by
    intro l
    induction l with
    | nil => intro acc; rfl
    | cons x l ih =>
      intro acc
      rw [List.foldl_cons, ih]
      simp only [List.length_append, List.length_cons, List.length_nil]
      omega
  exact (hfold m.items ([], s)).trans (Nat.zero_add _)

theorem State.doWrite_refused (m : DictMsg) (h : (s.doWrite m).1.1 ≠ 0) :
    (s.doWrite m).2 = s ∨ ∃ n, (s.doWrite m).2 = s.setEnt 0x8100 3 n := by
  have hst : firstFail (s.checkItems m).1 ≠ 0 := h
  have hleft : (s.doWrite m).2 = s.keepReason (s.checkItems m).2 := if_neg hst
  rw [hleft]
  exact s.keepReason_eq _

theorem State.doWriteSeg_of_gap {m : DictMsg} (x : DictItem) (h : m.offset ≠ (s.seg m).length) :
    (s.doWriteSeg m x).1.1 = 3 ∧ (s.doWriteSeg m x).2 = s.setSeg m [] := by
  unfold doWriteSeg
  dsimp only
  rw [if_pos h]
  exact ⟨rfl, rfl⟩

theorem State.doWriteSeg_of_next {m : DictMsg} {x : DictItem} (h : m.offset = (s.seg m).length)
    (hmore : bitOf x.flags.toNat 0 = false) :
    (s.doWriteSeg m x).1.1 = 0 ∧ (s.doWriteSeg m x).2 = s.setSeg m (s.seg m ++ x.value) := by
  unfold doWriteSeg
  dsimp only
  rw [if_neg (fun hne => hne h), if_neg (by simp [hmore])]
  exact ⟨rfl, rfl⟩

end

/-- Settles O50: the checks of an item stand in one chain, each with its status; what a refusal leaves is the state, or
the state with the reason of a refused activation. -/
theorem dictionaryItems : Obligations.DictionaryItems := by
  unfold Obligations.DictionaryItems
  intro s path sess i k ity b
  refine ⟨State.writeEntry_of_missing, fun r hr => ⟨?_, ?_, ?_⟩, ?_, State.writeEntry_refused_reason, State.doWrite_refused,
    State.checkItems_length, fun m x => State.doWriteSeg_of_gap x, fun m x => State.doWriteSeg_of_next⟩
  · exact fun hi htest hne => State.writeEntry_of_test hr hi htest hne
  · intro hi hacc
    rw [State.writeEntry_of_row hr hi, if_pos hacc]
  · intro hi hro hconst
    rw [State.writeEntry_of_writable hr hi hro hconst]
    refine ⟨fun hity => if_pos hity, fun hity hnum hlen => ?_, fun hity hnum hlen hrange => ?_,
      fun hity hnum hlen hrange hacc hbusy => ?_, fun hity hbytes hlen => ?_⟩
    · rw [if_neg (fun h => h hity), if_neg (by simp [hnum]), if_pos hlen]
    · rw [if_neg (fun h => h hity), if_neg (by simp [hnum]), if_neg (fun h => h hlen), if_pos (by simp [hrange])]
    · rw [if_neg (fun h => h hity), if_neg (by simp [hnum]), if_neg (fun h => h hlen), if_neg (by simp [hrange]),
        if_pos ⟨hacc, by simp [hbusy]⟩]
    · rw [if_neg (fun h => h hity), if_pos hbytes, if_pos hlen]
  · intro hst h1 h2
    obtain hsame | ⟨hctx, -⟩ := State.writeEntry_refused hst
    · exact hsame
    · exact absurd hctx (by simp [h1, h2])

end Sys2Proof.Machine
end

section
/-! PROOFS. A write to the base register of a disabled queue keeps the bits that are not RW (R7, R128). -/

namespace Sys2Proof.Machine

/-- The module after reset, with bit 0 of the base register of queue 0 of wing 0 set: a bit that no write can change. -/
def baseBitSet : State := State.reset.setReg (paQueue 0 0 0) 1

/-- A write of 0 to that base register leaves its bit 0. -/
theorem baseBitSet_written : (baseBitSet.regAsk 0 (paQueue 0 0 0) 8 0).reg (paQueue 0 0 0) = 1 := by decide

theorem baseBitSet_owes_nothing : (baseBitSet.regAsk 0 (paQueue 0 0 0) 8 0).todo = [] := by decide

/-- Refutes O6: a write of the base register of a disabled queue keeps the bits of the register outside its RW field, where
the statement has them 0; in the state `baseBitSet` bit 0 is set and a write of 0 leaves it so. -/
theorem not_registers : ¬ Obligations.Registers := by
  unfold Obligations.Registers
  rintro ⟨-, ⟨-, hbase⟩, -⟩
  have hwrite := (hbase baseBitSet 0 0 0 0 rfl (by decide) (by decide) (by decide) (by decide)).1 (by decide)
  have hact : exec (.registerWrite 0 (paQueue 0 0 0) 8 0) baseBitSet =
      .next { baseBitSet.regAsk 0 (paQueue 0 0 0) 8 0 with pending := baseBitSet.pending } :=
    act_true_of_todo (f := fun s => s.regAsk 0 (paQueue 0 0 0) 8 0) baseBitSet_owes_nothing
  rw [hact] at hwrite
  injection hwrite with hstate
  have hreg := congrArg (fun t : State => t.reg (paQueue 0 0 0)) hstate
  have hleft : (1 : BitVec 64) = 0 &&& bmask 55 6 :=
    baseBitSet_written.symm.trans (hreg.trans (by rw [State.reg_setReg, if_pos rfl]))
  exact absurd hleft (by decide)

end Sys2Proof.Machine
end

section
/-! PROOFS. An AMO of a host core on control space waits for a hallway that is training (R178, R285, R302). -/

namespace Sys2Proof.Machine

/-- The module after reset, with the hallway from the host die to die 0 training. -/
def hostHallTraining : State := State.reset.setEnt 0x5200 1 1

/-- A swap by core 0 of a register of die 0 waits for that hallway: the core is told to wait. -/
theorem hostHallTraining_swap :
    tget .none (hostHallTraining.coreStore 0 .amoSwap 0 4 0).cores 0 = .waiting := by decide

theorem hostHallTraining_owes_nothing : (hostHallTraining.coreStore 0 .amoSwap 0 4 0).todo = [] := by decide

/-- Refutes O7: an AMO of a host core on control space answers an access fault only where no hallway on its way is training;
in the state `hostHallTraining` an AMO on a register of die 0 waits. -/
theorem not_hostCores : ¬ Obligations.HostCores := by
  unfold Obligations.HostCores
  intro h
  obtain ⟨-, -, -, -, -, hamo⟩ := h hostHallTraining 0 0 4 rfl (by decide) (by decide) (by decide) (by decide)
  have hstore := hamo (by decide) (by decide) .amoSwap 0 (by decide) (by decide)
  have hact : exec (.hostCoreStore 0 .amoSwap 0 4 0) hostHallTraining =
      .next { hostHallTraining.coreStore 0 .amoSwap 0 4 0 with pending := hostHallTraining.pending } :=
    act_true_of_todo (f := fun s => s.coreStore 0 .amoSwap 0 4 0) hostHallTraining_owes_nothing
  rw [hact] at hstore
  injection hstore with hstate
  have hanswer := congrArg (fun t : State => tget .none t.cores 0) hstate
  have hleft : CoreAnswer.waiting = .accessFault :=
    hostHallTraining_swap.symm.trans (hanswer.trans (by decide))
  exact absurd hleft (by decide)

end Sys2Proof.Machine
end

section
/-! PROOFS. LOAD_STATIONARY reads its block and makes its slot valid (R69, R89, R91, R138). -/

namespace Sys2Proof.Machine

section
variable {s : State} {g : Nat} {c : Cmd}

theorem State.startLoad_of_past (hc : s.headCmd g 0 2 = some c) (hidle : (s.room g).loadRun = none)
    (hpast : ((loadPlaces c).any fun x => x.1.past x.2) = true) : s.startLoad g = s.endCmd (g / 8) c.id stUNSUP := by
  unfold startLoad
  rw [hc]
  dsimp only
  rw [hidle, if_neg (by simp), if_pos hpast]

/-- A load whose data can be read ends with POISON where it meets poison, and else runs with the slot that it has read. -/
theorem State.startLoad_of_go {l : List Spot} {s' : State} (hc : s.headCmd g 0 2 = some c)
    (hidle : (s.room g).loadRun = none) (hpast : ((loadPlaces c).any fun x => x.1.past x.2) = false)
    (hready : s.ready (streamUnit g c (bitOf (c.wd 5) 22)) ((loadPlaces c).flatMap fun x => x.1.firsts x.2) false = (.go l, s')) :
    s.startLoad g =
      let t := s'.readAll (streamUnit g c (bitOf (c.wd 5) 22)) l
      if (loadPlaces c).any fun x => anyBad t.1 x.1 x.2 then t.2.endCmd (g / 8) c.id stPOISON
      else (t.2.putCmd (g / 8) { t.2.cmdNow g c with st := .running }).setRoom g
        { t.2.room g with loadRun := some ⟨c.id, c.f 5 0 0, false, loadedSlot c t.1⟩ } := by
  unfold startLoad
  rw [hc]
  dsimp only
  rw [hidle, if_neg (by simp), if_neg (by simp [hpast]), hready]
  rfl

theorem State.endLoad_of_run {l : LoadRun} (hup : s.roomUp g = true) (hrun : (s.room g).loadRun = some l)
    (hcmd : s.cmd (g / 8) l.cmd = some c) : s.endLoad g =
      ((s.setRoom g ({ s.room g with loadRun := none }.setSlot l.slotNo l.slot)).putCmd (g / 8) { c with prog := 1 }).endCmd
        (g / 8) l.cmd stOK := by
  have hkept : (s.setRoom g ({ s.room g with loadRun := none }.setSlot l.slotNo l.slot)).cmd (g / 8) l.cmd = some c := hcmd
  unfold endLoad
  rw [if_neg (by simp [hup]), hrun]
  dsimp only
  rw [hkept]

end

/-- Settles O15: the start's checks in their order, and the completion of the load that runs. -/
theorem arrayLoads : Obligations.ArrayLoads := by
  unfold Obligations.ArrayLoads
  intro s g hs hg
  have hok : decide (g < 256) = true := decide_eq_true hg
  refine ⟨fun c hc hidle hpast => ?_, fun c l s' hc hidle hpast hready hbad => ?_,
    fun c l s' hc hidle hpast hready t u hread hgood => ?_, fun l c hup hrun hcmd => ?_⟩
  · rw [exec_loadStationary, execLoadStationary]
    exact act_gives_of hok (State.startLoad_of_past hc hidle hpast)
  · rw [exec_loadStationary, execLoadStationary]
    refine act_gives_of hok ((State.startLoad_of_go hc hidle hpast hready).trans ?_)
    exact if_pos hbad
  · rw [exec_loadStationary, execLoadStationary]
    refine act_gives_of hok ((State.startLoad_of_go hc hidle hpast hready).trans ?_)
    rw [hread]
    exact if_neg (by simp [hgood])
  · rw [exec_loadComplete, execLoadComplete]
    exact act_gives_of hok (State.endLoad_of_run hup hrun hcmd)

end Sys2Proof.Machine
end

section
/-! PROOFS. MATMUL begins, streams and commits its passes (R46 to R49, R67, R68, R70, R78, R79). -/

namespace Sys2Proof.Machine

/-! ### A table written twice at one key -/

theorem tdel_tins {α : Type} (k : Nat) (v : α) (t : Tab α) (hk : ∀ e ∈ t, e.1 ≠ k) : tdel (tins k v t) k = t := by
  have hdel : tdel t k = t := List.filter_eq_self.2 fun e he => by simpa using hk e he
  induction t with
  | nil => simp [tins, tdel]
  | cons e t ih =>
    obtain ⟨k', v'⟩ := e
    have hk' : k' ≠ k := hk (k', v') List.mem_cons_self
    have ht : ∀ e ∈ t, e.1 ≠ k := fun e he => hk e (List.mem_cons_of_mem _ he)
    unfold tins
    split
    · have hfirst : tdel ((k, v) :: (k', v') :: t) k = tdel ((k', v') :: t) k := by simp [tdel]
      rw [hfirst, hdel]
    · have hrest : tdel ((k', v') :: tins k v t) k = (k', v') :: tdel (tins k v t) k := by simp [tdel, hk']
      rw [hrest, ih ht (List.filter_eq_self.2 fun e he => by simpa using ht e he)]

theorem tset_tset {α : Type} (k : Nat) (v w : α) (t : Tab α) : tset k v (tset k w t) = tset k v t := by
  unfold tset
  rw [tdel_tins k w (tdel t k) fun e he => by simpa using (List.mem_filter.1 he).2]

theorem Room.setBank_setBank (r : Room) (k : Nat) (v w : Bank) : (r.setBank k w).setBank k v = r.setBank k v := by
  unfold setBank
  repeat' split
  all_goals rfl

theorem Room.bank_setBank (r : Room) (k : Nat) (v : Bank) : (r.setBank k v).bank k = v := by
  unfold setBank bank
  repeat' split
  all_goals rfl

theorem Room.setBank_passRun (r : Room) (k : Nat) (v : Bank) (p : Option PassRun) :
    { r.setBank k v with passRun := p } = { r with passRun := p }.setBank k v := by
  unfold setBank
  repeat' split
  all_goals rfl

section
variable {s : State} {g : Nat} {c : Cmd}

theorem State.setRoom_setRoom (r r' : Room) : (s.setRoom g r').setRoom g r = s.setRoom g r := by
  unfold setRoom
  rw [tset_tset]

/-! ### Where a MATMUL stands -/

/-- The command at an engine's head is the one that its number finds. -/
theorem State.cmd_of_headCmd {e op : Nat} (h : s.headCmd g e op = some c) : s.cmd (g / 8) c.id = some c := by
  have hfound : ∀ id, s.cmd (g / 8) id = some c → c.id = id := fun id hid => by
    simpa using List.find?_some hid
  unfold headCmd at h
  split at h
  · exact absurd h (by simp)
  · cases hhead : s.engineHead g e with
    | none => rw [hhead] at h; exact absurd h (by simp)
    | some d =>
      rw [hhead] at h
      dsimp only at h
      split at h
      · injection h with h
        subst h
        unfold engineHead at hhead
        obtain ⟨id, -, hid⟩ := List.exists_of_findSome?_eq_some hhead
        split at hid
        · next d' hd' =>
          split at hid
          · injection hid with hid
            subst hid
            rwa [hfound id hd']
          · exact absurd hid (by simp)
        · exact absurd hid (by simp)
      · exact absurd h (by simp)

theorem State.cmdNow_of_headCmd {e op : Nat} (h : s.headCmd g e op = some c) : s.cmdNow g c = c := by
  unfold cmdNow
  rw [State.cmd_of_headCmd h, Option.getD_some]

/-- A command that waits for nothing has nothing to wait for. -/
theorem State.ready_nil {q : Engine} (h : q.cmd.deadline = none) : s.ready q [] false = (.go [], s) := by
  unfold ready readyLegs
  rw [h]
  rfl

theorem State.readAll_nil (q : Engine) : s.readAll q [] = ([], s) := rfl

theorem State.goMatmul_of_idle (hc : s.headCmd g 0 1 = some c) (hidle : (s.room g).passRun = none) :
    s.goMatmul g = s.startMatmul g c := by
  unfold goMatmul
  rw [hc]
  dsimp only
  rw [hidle]

theorem State.goMatmul_of_run {run : PassRun} (hc : s.headCmd g 0 1 = some c) (hrun : (s.room g).passRun = some run) :
    s.goMatmul g = if run.held then s.streamPass g c run else s := by
  unfold goMatmul
  rw [hc]
  dsimp only
  rw [hrun]

theorem State.startMatmul_of_stop {st : BitVec 5} (h : s.matmulStop g c = some st) :
    s.startMatmul g c = s.endCmd (g / 8) c.id st := by
  unfold startMatmul
  rw [h]

/-- A MATMUL whose window is known begins at once. -/
theorem State.startMatmul_of_window (hc : s.headCmd g 0 1 = some c) (hgo : s.matmulStop g c = none) (hd : c.deadline = none)
    (hwin : c.fixedW ≠ none ∨ c.fresh = false) : s.startMatmul g c =
      (s.putCmd (g / 8) { c with st := .running, win := some (s.passWin g c 0) }).beginPass g
        { c with st := .running, win := some (s.passWin g c 0) } 0 := by
  have hauto : (c.fixedW.isNone && c.fresh) = false := by
    rcases hwin with h | h
    · rw [Option.isNone_eq_false_iff.2 (Option.isSome_iff_ne_none.2 h), Bool.false_and]
    · rw [h, Bool.and_false]
  unfold startMatmul
  rw [hgo]
  dsimp only
  rw [hd, if_neg (by simp), State.ready_nil hd]
  dsimp only
  rw [hauto, if_neg Bool.false_ne_true]
  dsimp only
  rw [State.readAll_nil]
  dsimp only
  rw [State.cmdNow_of_headCmd hc, if_neg Bool.false_ne_true, if_neg Bool.false_ne_true, BitVec.or_zero]

/-- Under AUTO a MATMUL reads its scales first, and derives its window. -/
theorem State.startMatmul_of_auto {l : List Spot} {s' u : State} {t : Tab (List (Byte × Bool))} (hc : s.headCmd g 0 1 = some c)
    (hgo : s.matmulStop g c = none) (hd : c.deadline = none) (hwin : c.fixedW = none) (hfresh : c.fresh = true)
    (hready : s.ready (streamUnit g { c with st := .running } (bitOf (c.wd 5) 36))
      ((List.range c.passes).flatMap fun p => scaleKeys c p) false = (.go l, s'))
    (hread : s'.readAll (streamUnit g c (bitOf (c.wd 5) 36)) l = (t, u)) :
    s.startMatmul g c =
      let d := { u.cmdNow g c with
        st := .running
        win := some (autoWindow (u.cmdNow g c) ((u.room g).slot ((u.cmdNow g c).f 5 16 16)) t)
        num := (u.cmdNow g c).num ||| nfAU }
      (u.putCmd (g / 8) d).beginPass g d 0 := by
  have hauto : (c.fixedW.isNone && c.fresh) = true := by rw [hwin, hfresh]; rfl
  have hunit : ({ streamUnit g c (bitOf (c.wd 5) 36) with cmd := { s.cmdNow g c with st := .running } } : Engine) =
      streamUnit g { c with st := .running } (bitOf (c.wd 5) 36) := by
    rw [State.cmdNow_of_headCmd hc]
    rfl
  unfold startMatmul
  rw [hgo]
  dsimp only
  rw [hd, if_neg (by simp), State.ready_nil hd]
  dsimp only
  rw [hauto, if_pos rfl, hunit, hready]
  dsimp only
  rw [hread]
  rfl

/-! ### Commits -/

/-- Where no checker is armed and no word of the bank is marked, the rewrite of the accumulators leaves the room. -/
theorem State.rewriteAcc_of_clean {k : Nat} (rows cols : Nat) (keep : Bool) (ctx : Option Nat) (h0 : s.armedOn g 0 = false)
    (h1 : s.armedOn g 1 = false) (hcode : ((s.room g).bank k).code = []) :
    s.rewriteAcc g k rows cols keep ctx = s.setRoom g ((s.room g).setBank k ((s.room g).bank k)) := by
  have hbank : ({ (s.room g).bank k with code := ((s.room g).bank k).code.filter fun e => decide (accWord k rows 0 0 ≤ e.1) } : Bank) =
      (s.room g).bank k := by
    rw [hcode]
    simp only [List.filter_nil]
    rw [← hcode]
  unfold rewriteAcc
  rw [if_neg (by simp [h0, h1, hcode])]
  dsimp only
  rw [hbank]

theorem State.commitPass_of_clean {run : PassRun} (hup : s.roomUp g = true) (hrun : (s.room g).passRun = some run)
    (hstage : run.stage = .judged) (hcmd : s.cmd (g / 8) run.cmd = some c) (h0 : s.armedOn g 0 = false)
    (h1 : s.armedOn g 1 = false) (hcode : ((s.room g).bank (c.bankOf run.pass)).code = []) :
    s.commitPass g =
      let x := (s.setRoom g ({ s.room g with passRun := none }.setBank (c.bankOf run.pass)
        (commitBank ((s.room g).bank (c.bankOf run.pass)) c.fresh (fmtClass c.wfmt)
          ((s.room g).slot (c.f 5 16 16)).kc run))).putCmd (g / 8) { c with prog := c.prog + 1 }
      if run.pass + 1 = c.passes then x.endCmd (g / 8) c.id stOK
      else x.beginPass g { c with prog := c.prog + 1 } (run.pass + 1) := by
  have hstage' : run.stage ≠ .streaming := by rw [hstage]; decide
  unfold commitPass
  rw [if_neg (by simp [hup]), hrun]
  dsimp only
  rw [if_neg hstage', hcmd]
  dsimp only
  rw [State.rewriteAcc_of_clean _ _ _ _ h0 h1 hcode, State.room_setRoom, if_pos rfl, State.setRoom_setRoom,
    Room.bank_setBank, Room.setBank_passRun, Room.setBank_setBank]
  rfl

end

/-- Settles O16: a MATMUL that may run begins under its window, given or derived; a pass that waits streams, and one that
is judged commits into its bank. -/
theorem matmul : Obligations.Matmul := by
  unfold Obligations.Matmul
  intro s g hs hg
  have hok : decide (g < 256) = true := decide_eq_true hg
  refine ⟨?_, ?_, ?_, ?_, ?_, ?_, ?_, ?_, ?_⟩
  · intro c st hc hidle hstop
    rw [exec_matmul, execMatmul]
    refine act_gives_of hok ?_
    rw [State.goMatmul_of_idle hc hidle, State.startMatmul_of_stop hstop]
  · intro c hc hidle hgo hd hwin
    rw [exec_matmul, execMatmul]
    refine act_gives_of hok ?_
    rw [State.goMatmul_of_idle hc hidle, State.startMatmul_of_window hc hgo hd hwin]
  · intro c l s' t u d hc hidle hgo hd hwin hfresh hready hread hdef
    rw [exec_matmul, execMatmul, hdef]
    refine act_gives_of hok ?_
    rw [State.goMatmul_of_idle hc hidle, State.startMatmul_of_auto hc hgo hd hwin hfresh hready hread]
  · intro c w hw
    unfold State.passWin
    rw [hw]
  · intro c p hw hfresh
    unfold State.passWin
    rw [hw]
    exact if_neg (by simp [hfresh])
  · intro c run hc hrun hheld
    rw [exec_streamDataArrival, execStreamDataArrival]
    refine act_gives_of hok ?_
    rw [State.goMatmul_of_run hc hrun, if_pos hheld]
  · intro c run hc hrun hheld
    rw [exec_streamDataArrival, execStreamDataArrival]
    refine act_stays hok ?_ hs
    rw [State.goMatmul_of_run hc hrun, if_neg (by simp [hheld])]
  · intro c run hup hrun hstage hcmd h0 h1 hcode hlast
    rw [exec_passCommit, execPassCommit]
    refine act_gives_of hok ?_
    rw [State.commitPass_of_clean hup hrun hstage hcmd h0 h1 hcode]
    exact if_pos hlast
  · intro c run hup hrun hstage hcmd h0 h1 hcode hmore
    rw [exec_passCommit, execPassCommit]
    refine act_gives_of hok ?_
    rw [State.commitPass_of_clean hup hrun hstage hcmd h0 h1 hcode]
    exact if_neg hmore

end Sys2Proof.Machine
end

section
/-! PROOFS. The verdict on a pass (R84 to R88), DRAIN and its groups (R71, R89 to R91, R121), and the trackers (R194). -/

namespace Sys2Proof.Machine

section
variable {s : State} {g : Nat} {c : Cmd}

/-! ### The verdict -/

theorem mismatches_of_skip {cls : Nat} {run : PassRun} (hcol : run.skipCol = true) (hrow : run.skipRow = true) :
    mismatches cls run = ([], []) := by
  unfold mismatches
  simp [hcol, hrow]

/-- A running pass is judged on its buffer with what upset it: once its checks agree it may commit; a first execution that
fails runs again, a second ends the command. -/
theorem State.verdict_of_uninjected {hits : List Upset} {run : PassRun} (hup : s.roomUp g = true)
    (hrun : (s.room g).passRun = some run) (hheld : run.held = false) (hbuf : run.buf ≠ []) (hstage : run.stage = .streaming)
    (hcmd : s.cmd (g / 8) run.cmd = some c) (hinj : s.arrayInj g = none ∨ run.skipCol = true) (hexec : run.exec ≤ 1) :
    s.verdict g hits =
      let run' := { run with buf := upsetBuf run.buf hits }
      let m := mismatches (fmtClass c.wfmt) run'
      let skip := run.skipCol || run.skipRow
      let x := if skip && !run.counted then s.incEnt (0x521C + g / 64) (g % 64 + 1) 1 else s
      let judged := { run' with counted := run.counted || skip }
      let rep := { plainReport 0x14 (roomAgent 4 g) with access := 7#3, contexts := [c.ctx] }
      if m.1 = [] && m.2 = [] then
        (if run.exec = 0 then x
          else (x.incEnt (0x5210 + g / 64) (g % 64 + 1) 1).capture (g / 64) { rep with src := 0x03#8, inj := run.exec = 3 }).setPass g
            (some { judged with stage := .judged })
      else
        let y := x.setEnt (0x5218 + g / 64) (g % 64 + 1) (checkRecord m.1 m.2 (run.exec ≠ 0) run.pass)
        if run.exec ≠ 0 then
          let z := y.incEnt (0x5214 + g / 64) (g % 64 + 1) 1
          ((z.setEnt 0x1100 (0x13 + 0x10 * (g / 64)) (z.ent 0x1100 (0x13 + 0x10 * (g / 64)) ||| 2 ^ (g % 64))).capture (g / 64)
            { rep with inj := run.exec = 2 }).endCmd (g / 8) c.id stARRAY_CHECK
        else y.streamPass g c { judged with exec := 1, buf := [], stage := .streaming } := by
  have hnone : (if run.exec = 0 && !run.skipCol then s.arrayInj g else none) = none := by
    rcases hinj with h | h <;> simp [h]
  have hsecond : decide (run.exec = 2) = false := decide_eq_false (by omega)
  unfold verdict
  rw [if_neg (by simp [hup]), hrun]
  dsimp only
  rw [if_neg (by simp [hheld, hbuf, hstage]), hcmd]
  dsimp only
  rw [hnone]
  dsimp only
  rw [hsecond]
  rfl

/-- A pass with both checks skipped is judged unchecked, and counted once. -/
theorem State.verdict_of_skipped {hits : List Upset} {run : PassRun} (hup : s.roomUp g = true)
    (hrun : (s.room g).passRun = some run) (hheld : run.held = false) (hbuf : run.buf ≠ []) (hstage : run.stage = .streaming)
    (hcmd : s.cmd (g / 8) run.cmd = some c) (hexec : run.exec = 0) (hcol : run.skipCol = true) (hrow : run.skipRow = true) :
    s.verdict g hits = (if run.counted then s else s.incEnt (0x521C + g / 64) (g % 64 + 1) 1).setPass g
      (some { run with buf := upsetBuf run.buf hits, counted := true, stage := .judged }) := by
  rw [State.verdict_of_uninjected hup hrun hheld hbuf hstage hcmd (.inr hcol) (by omega)]
  dsimp only
  rw [mismatches_of_skip (run := { run with buf := upsetBuf run.buf hits }) hcol hrow, hcol, hexec]
  cases run.counted <;> rfl

/-- A pass with its checks on, and no injection: what its execution and its mismatches decide. -/
theorem State.verdict_of_checked {hits : List Upset} {run : PassRun} {rs cs : List Nat} (hup : s.roomUp g = true)
    (hrun : (s.room g).passRun = some run) (hheld : run.held = false) (hbuf : run.buf ≠ []) (hstage : run.stage = .streaming)
    (hcmd : s.cmd (g / 8) run.cmd = some c) (hinj : s.arrayInj g = none) (hcol : run.skipCol = false) (hrow : run.skipRow = false)
    (hexec : run.exec ≤ 1) (hm : mismatches (fmtClass c.wfmt) { run with buf := upsetBuf run.buf hits } = (rs, cs)) :
    s.verdict g hits =
      let rep := { plainReport 0x14 (roomAgent 4 g) with access := 7#3, contexts := [c.ctx] }
      if rs = [] && cs = [] then
        (if run.exec = 0 then s
          else (s.incEnt (0x5210 + g / 64) (g % 64 + 1) 1).capture (g / 64) { rep with src := 0x03#8, inj := run.exec = 3 }).setPass g
            (some { run with buf := upsetBuf run.buf hits, stage := .judged })
      else
        let y := s.setEnt (0x5218 + g / 64) (g % 64 + 1) (checkRecord rs cs (run.exec ≠ 0) run.pass)
        if run.exec ≠ 0 then
          let z := y.incEnt (0x5214 + g / 64) (g % 64 + 1) 1
          ((z.setEnt 0x1100 (0x13 + 0x10 * (g / 64)) (z.ent 0x1100 (0x13 + 0x10 * (g / 64)) ||| 2 ^ (g % 64))).capture (g / 64)
            { rep with inj := run.exec = 2 }).endCmd (g / 8) c.id stARRAY_CHECK
        else y.streamPass g c { run with exec := 1, buf := [], stage := .streaming } := by
  rw [State.verdict_of_uninjected hup hrun hheld hbuf hstage hcmd (.inl hinj) hexec]
  dsimp only
  rw [hm, hcol, hrow, Bool.or_self, Bool.false_and, if_neg Bool.false_ne_true, Bool.or_false]

/-! ### DRAIN -/

theorem find?_map_replaced {l : List Cmd} {c c' : Cmd} {id : Nat} (hid' : c'.id = id)
    (h : l.find? (fun d => d.id = id) = some c) :
    (l.map fun d => if d.id = c'.id then c' else d).find? (fun d => d.id = id) = some c' := by
  induction l with
  | nil => exact absurd h (by simp)
  | cons d l ih =>
    rw [List.map_cons]
    by_cases hd : d.id = id
    · rw [if_pos (hd.trans hid'.symm), List.find?_cons_of_pos (by simp [hid'])]
    · rw [List.find?_cons_of_neg (by simp [hd])] at h
      rw [if_neg (by rw [hid']; exact hd), List.find?_cons_of_neg (by simp [hd]), ih h]

/-- A command put in place of one that waits is found by its number. -/
theorem State.cmd_putCmd {w : Nat} {c' : Cmd} (hid : c'.id = c.id) (h : s.cmd w c.id = some c) :
    (s.putCmd w c').cmd w c.id = some c' := by
  unfold putCmd cmd
  dsimp only
  rw [State.wing_setWing, if_pos rfl]
  exact find?_map_replaced hid h

/-- DRAIN begins on a bank that holds a chain, with places inside the Larder. -/
theorem State.startDrain_of_idle (hc : s.headCmd g 0 3 = some c) (hidle : (s.room g).drainRun = none) :
    s.startDrain g =
      let b := (s.room g).bank (c.f 4 1 0)
      let ext := if c.tfmt = 0xC then 16 * (64 * (c.region.2.1 - 1) + c.region.2.2.2)
        else (c.region.2.2.2 - 1) * c.f 3 31 0 + c.region.2.1 * fmtBits c.tfmt / 8
      let far := !c.toVec && ((locOf (c.wd 1) 0).past ext ||
        (c.mx && (locOf (c.wd 2) 0).past ((c.region.2.2.2 - 1) * c.f 3 44 32 + c.region.2.1 / 32)))
      if !b.chain ∨ (b.cls = 2 ∧ 32 < c.region.2.2.1 + c.region.2.2.2) ∨ far then s.endCmd (g / 8) c.id stUNSUP
      else (s.putCmd (g / 8) { c with st := .running, win := some b.w }).setRoom g
        { (s.putCmd (g / 8) { c with st := .running, win := some b.w }).room g with drainRun := some ⟨c.id, 0, false⟩ } := by
  unfold startDrain
  rw [hc]
  dsimp only
  rw [hidle, if_neg (by simp)]

theorem State.drainGroup_of_run {d : DrainRun} (hup : s.roomUp g = true) (hrun : (s.room g).drainRun = some d)
    (hcmd : s.cmd (g / 8) d.cmd = some c) : s.drainGroup g =
      let w := ((s.room g).bank (c.f 4 1 0)).w
      if c.toVec then (s.drainToPort g c w 32).endDrain g c
      else
        let lo := 32 * c.prog
        let rows := s.drainRows g c lo (min 32 (c.region.2.1 - lo))
        let q : Engine := ⟨g, 4, 1, c, false, false⟩
        let r := s.ready q ((groupItems c w lo rows.1).1.flatMap fun x => x.1.firsts x.2.length) false
        match r.1 with
        | .go l =>
          let rows := r.2.drainRows g c lo (min 32 (c.region.2.1 - lo))
          (each (groupItems c w lo rows.1).1 (fun x s => s.writeRun q 0 (if bitOf (c.wd 4) 35 then .keep else .stream) l x.1 x.2)
            rows.2).groupDone g c d (groupItems c w lo rows.1).2 (rows.1.any fun r => r.any fun e => e.2.1)
        | _ => r.2.begun g c.id (groupExtent c (groupItems c w lo rows.1).1) := by
  unfold drainGroup
  rw [if_neg (by simp [hup]), hrun]
  dsimp only
  generalize s.cmd (g / 8) d.cmd = r at hcmd ⊢
  subst hcmd
  rfl

end

/-- Settles O18: the verdict is decided by the checks that are on, by their mismatches and by the execution; a drain by its
bank and its destination. -/
theorem verdictsAndDrains : Obligations.VerdictsAndDrains := by
  unfold Obligations.VerdictsAndDrains
  refine ⟨⟨?_, ?_⟩, ?_⟩
  · intro s g hits run c hs hg hup hrun hheld hbuf hstage hcmd hexec hcol hrow
    have hok : decide (g < 256) = true := decide_eq_true hg
    rw [exec_passVerdict, execPassVerdict]
    refine ⟨fun hcount => act_keeps hok ?_ (by simp [State.setPass]) hs, fun hcount => act_keeps hok ?_ ⟨rfl, rfl⟩ hs⟩ <;>
      rw [State.verdict_of_skipped hup hrun hheld hbuf hstage hcmd hexec hcol hrow]
    · rw [if_neg (by simp [hcount])]
    · rw [if_pos hcount, ← hcount]
  · intro s g hits run c hs hg hup hrun hheld hbuf hstage hcmd hinj hcol hrow
    have hok : decide (g < 256) = true := decide_eq_true hg
    rw [exec_passVerdict, execPassVerdict]
    refine ⟨fun hexec hm => act_keeps hok ?_ ⟨rfl, rfl⟩ hs, fun hexec rs cs hm hne => act_gives_of hok ?_,
      fun hexec hm => act_gives_of hok ?_, fun hexec rs cs hm hne => act_gives_of hok ?_⟩ <;>
      rw [State.verdict_of_checked hup hrun hheld hbuf hstage hcmd hinj hcol hrow (by omega) hm] <;> dsimp only
    · rw [if_pos (by simp), if_pos hexec]
    · rw [if_neg (by simpa using hne), if_neg (by simp [hexec]), hexec]
      rfl
    · rw [if_pos (by simp), if_neg (by omega), hexec]
      rfl
    · have hent : ∀ v, ((s.setEnt (0x5218 + g / 64) (g % 64 + 1) v).incEnt (0x5214 + g / 64) (g % 64 + 1) 1).ent 0x1100
          (0x13 + 0x10 * (g / 64)) = s.ent 0x1100 (0x13 + 0x10 * (g / 64)) := fun v => by
        have hinc := State.ent_of_entries (P := fun key => key = dictKey 0x1100 (0x13 + 0x10 * (g / 64)))
          (State.entries_incEnt (s.setEnt (0x5218 + g / 64) (g % 64 + 1) v) (i := 0x5214 + g / 64) (k := g % 64 + 1) 1
            (by unfold dictKey; omega)) (i := 0x1100) (k := 0x13 + 0x10 * (g / 64)) rfl
        rw [hinc, State.ent_setEnt_ne _ _ _ _ _ _ (by unfold dictKey; omega)]
      rw [if_neg (by simpa using hne), if_pos (by omega), hent, hexec]
      rfl
  · intro s g hs hg
    have hok : decide (g < 256) = true := decide_eq_true hg
    refine ⟨?_, ?_, ?_, ?_, ?_⟩
    · intro c hc hidle hchain
      rw [exec_drain, execDrain]
      refine act_gives_of hok ((State.startDrain_of_idle hc hidle).trans ?_)
      exact if_pos (.inl (by simp [hchain]))
    · intro c hc hidle hchain hcls hplace
      have hshape : s.startDrain g = (s.putCmd (g / 8) { c with st := .running, win := some ((s.room g).bank (c.f 4 1 0)).w }).setRoom g
          { (s.putCmd (g / 8) { c with st := .running, win := some ((s.room g).bank (c.f 4 1 0)).w }).room g with
            drainRun := some ⟨c.id, 0, false⟩ } := by
        refine (State.startDrain_of_idle hc hidle).trans (if_neg ?_)
        rw [hchain]
        rintro (h | ⟨h, hlt⟩ | h)
        · exact absurd h (by simp)
        · have := hcls h
          omega
        · rcases hplace with hvec | ⟨hdst, hmx⟩
          · rw [hvec] at h
            exact absurd h (by simp)
          · rw [hdst] at h
            cases hm : c.mx
            · rw [hm] at h
              simp at h
            · rw [hm, hmx hm] at h
              simp at h
      rw [exec_drain, execDrain]
      refine act_exists hok ?_ ?_ ?_ <;> rw [hshape]
      · exact hs
      · rfl
      · refine ⟨by rw [State.room_setRoom, if_pos rfl], ?_, rfl⟩
        exact State.cmd_putCmd rfl (State.cmd_of_headCmd hc)
    · intro d c hup hrun hcmd hvec
      rw [exec_drainGroupWritten, execDrainGroupWritten]
      refine act_gives_of hok ((State.drainGroup_of_run hup hrun hcmd).trans ?_)
      exact if_pos hvec
    · intro d c l s' t u hup hrun hcmd hvec hready hrows
      rw [exec_drainGroupWritten, execDrainGroupWritten]
      refine act_gives_of hok ((State.drainGroup_of_run hup hrun hcmd).trans ?_)
      dsimp only
      rw [if_neg (by simp [hvec]), hready]
      dsimp only
      rw [hrows]
    · intro k hk hup
      rw [exec_trackerTimeout, execTrackerTimeout]
      exact act_keeps (by simp [hg, hk]) (if_pos hup) ⟨rfl, rfl⟩ hs

end Sys2Proof.Machine
end


section
/-! PROOFS. The start of a vector program and the instructions that steer it (R96 to R99, R124). -/

namespace Sys2Proof.Machine

section
variable {s s' : State} {g : Nat} {c : Cmd}

/-- An instruction that needs its command, once the program has come to it. -/
theorem act_vaccess_of_issues {w : BitVec 64} (f : Cmd → State → State) (hg : g < 256) (hw : s.issues g w = true)
    (hc : s.vcmd g = some c) : act (decide (g < 256)) (fun s => s.vaccess g w f) s = s.gives (f c s) := by
  rw [decide_eq_true hg, act_gives]
  unfold State.vaccess
  rw [if_pos hw, hc]

theorem State.startVector_of_long (hc : s.headCmd g 1 0x10 = some c) (hidle : (s.ve g).running = false)
    (hlong : larderSize < c.f 1 20 0 + 8 * c.f 1 44 32) : s.startVector g = s.endCmd (g / 8) c.id stUNSUP := by
  unfold startVector
  rw [hc]
  dsimp only
  rw [if_neg (by simp [hidle]), if_pos hlong]

/-- What a read program decides: poison first, then its words. -/
theorem State.startVector_of_read {bs : List (BitVec 8 × Bool)} (hc : s.headCmd g 1 0x10 = some c)
    (hidle : (s.ve g).running = false) (hfits : c.f 1 20 0 + 8 * c.f 1 44 32 ≤ larderSize)
    (hread : s.larderRead g (vectorWho g 4 c.ctx) (c.f 1 20 0) (8 * c.f 1 44 32) = (bs, s')) :
    s.startVector g =
      if bs.any (fun b => b.2) then s'.endCmd (g / 8) c.id stPOISON
      else if !programOk (s.levelOf (s.suiteOfDie (g / 64))) (wordsOfBytes (bs.map fun b => b.1)) then
        s'.endCmd (g / 8) c.id stUNSUP
      else (s'.setVe g (startEngine c (wordsOfBytes (bs.map fun b => b.1)))).putCmd (g / 8) { c with st := .running } := by
  unfold startVector
  rw [hc]
  dsimp only
  rw [if_neg (by simp [hidle]), if_neg (by omega), hread]

theorem State.endProgram_of_vcmd (hc : s.vcmd g = some c) :
    s.endProgram g = (s.putCmd (g / 8) { c with
      prog := (s.ve g).marks.toNat + 1, dirty := if bitOf c.vfl.toNat 5 then c.dirty else none }).endCmd (g / 8) c.id
        (if bitOf c.vfl.toNat 5 then stPOISON else stOK) := by
  unfold endProgram
  rw [hc]

theorem State.loopProgram_of_poison {x : VForm} (hbad : (s.ve g).sbad x.a.toNat = true) :
    s.loopProgram g x = s.endCmd (g / 8) (s.ve g).cmd stPOISON := if_pos hbad

theorem State.loopProgram_of_body {x : VForm} (hbad : (s.ve g).sbad x.a.toNat = false)
    (hk : ((s.ve g).sreg x.a.toNat).toNat ≠ 0) (hn : fld x.imm.toNat 11 0 ≠ 0) :
    s.loopProgram g x = s.goTo g ((s.ve g).pc + 1)
      (⟨(s.ve g).pc + 1, (s.ve g).pc + fld x.imm.toNat 11 0, ((s.ve g).sreg x.a.toNat).toNat⟩ :: (s.ve g).loops) := by
  unfold loopProgram
  dsimp only
  rw [if_neg (by simp [hbad]), if_neg (by simp only [hk, hn, or_self, not_false_eq_true])]

theorem State.loopProgram_of_zero {x : VForm} (hbad : (s.ve g).sbad x.a.toNat = false)
    (hk : ((s.ve g).sreg x.a.toNat).toNat = 0) :
    s.loopProgram g x = s.after g ((s.ve g).pc + fld x.imm.toNat 11 0) := by
  unfold loopProgram
  dsimp only
  rw [if_neg (by simp [hbad]), if_pos (Or.inl hk)]

theorem State.branch_of_clean {x : VForm} (ha : (s.ve g).sbad x.a.toNat = false) (hb : (s.ve g).sbad x.b.toNat = false) :
    s.branch g x = if brTaken x.ty.toNat ((s.ve g).sreg x.a.toNat) ((s.ve g).sreg x.b.toNat)
      then s.goTo g (((s.ve g).pc : Int) + x.simm).toNat (s.ve g).loops else s.stepOn g := by
  unfold branch
  dsimp only
  rw [if_neg (by simp [ha, hb])]

end

/-- Settles O24: each instruction acts on its command once the program has come to it; what it does is one equation per
branch of its function. -/
theorem vectorControl : Obligations.VectorControl := by
  intro s g c _ hg
  have hok : decide (g < 256) = true := decide_eq_true hg
  refine ⟨?_, ?_, ?_, ?_, ?_, ?_, ?_, ?_, ?_, ?_⟩
  · intro hc hidle hlong
    rw [exec_vector, execVector, hok, act_gives, State.startVector_of_long hc hidle hlong]
  · intro bs s' hc hidle hfits hread
    rw [exec_vector, execVector, hok, act_gives, State.startVector_of_read hc hidle hfits hread]
    refine ⟨fun hbad => ?_, fun hclean hword => ?_, fun hclean hword => ?_⟩
    · rw [if_pos hbad]
    · rw [if_neg (by simp [hclean]), if_pos (by simp [hword])]
    · rw [if_neg (by simp [hclean]), if_neg (by simp [hword])]
  · intro x hx hc hbad
    rw [exec_halt, execHalt, act_vaccess_of_issues _ hg hx hc, State.endProgram_of_vcmd hc, hbad]
    rfl
  · intro x hx hc hbad
    rw [exec_halt, execHalt, act_vaccess_of_issues _ hg hx hc, State.endProgram_of_vcmd hc, hbad]
    rfl
  · intro x hx hc
    rw [exec_mark, execMark, act_vaccess_of_issues _ hg hx hc]
    rfl
  · intro x hx hc hbad hk hn
    rw [exec_loop, execLoop, act_vaccess_of_issues _ hg hx hc, State.loopProgram_of_body hbad hk hn]
  · intro x hx hc hbad hk
    rw [exec_loop, execLoop, act_vaccess_of_issues _ hg hx hc, State.loopProgram_of_zero hbad hk]
  · intro x hx hc ha hb
    rw [exec_br, execBr, act_vaccess_of_issues _ hg hx hc, State.branch_of_clean ha hb]
    exact ⟨fun h => by rw [if_pos h], fun h => by rw [if_neg (by simp [h])]⟩
  · intro x hx hc hbad
    rw [exec_loop, execLoop, act_vaccess_of_issues _ hg hx hc, State.loopProgram_of_poison hbad]
  · intro x hx hc
    rw [exec_vfence, execVfence, act_vaccess_of_issues _ hg hx hc]

end Sys2Proof.Machine
end


section
/-! PROOFS. Loads and stores of the vector engine, and rows of the drain port (R95, R103, R116 to R124). -/

namespace Sys2Proof.Machine

section
variable {s s' : State} {g : Nat} {c : Cmd} {x : VForm}

/-! ### Scalars of the Larder -/

theorem larderFault_single {n a : Nat} (halign : a % n = 0) (hfits : a + n ≤ larderSize) : larderFault n [a] = none := by
  simp only [larderFault, List.findSome?_cons, List.findSome?_nil, halign, ne_eq, not_true_eq_false, if_false,
    if_neg (show ¬ larderSize < a + n by omega)]

theorem State.loadScalar_of_read {bs : List (BitVec 8 × Bool)} {a : Nat} (hbase : (s.ve g).sbad x.a.toNat = false)
    (ha : a = ofSigned 64 ((((s.ve g).sreg x.a.toNat).toNat : Int) + x.simm)) (halign : a % 8 = 0)
    (hfits : a + 8 ≤ larderSize) (hread : s.larderRead g (vectorWho g 0 c.ctx) a 8 = (bs, s')) :
    s.loadScalar g x c = (s'.setVe g ((s'.ve g).setS x.d.toNat (BitVec.ofNat 64 (ofBytes (bs.map fun b => b.1)))
      (bs.any fun b => b.2))).stepOn g := by
  unfold loadScalar
  dsimp only
  rw [if_neg (by simp [hbase]), ← ha, larderFault_single halign hfits]
  dsimp only
  rw [hread]

theorem State.storeScalar_of_fit {a : Nat} (hbase : (s.ve g).sbad x.a.toNat = false)
    (ha : a = ofSigned 64 ((((s.ve g).sreg x.a.toNat).toNat : Int) + x.simm)) (halign : a % 8 = 0)
    (hfits : a + 8 ≤ larderSize) :
    s.storeScalar g x c = ((s.larderWrite g (vectorWho g 1 c.ctx) a
      ((toBytes 8 ((s.ve g).sreg x.d.toNat).toNat).map fun b => (b, (s.ve g).sbad x.d.toNat))).raiseFlags g
        (if (s.ve g).sbad x.d.toNat then flPS else 0)).stepOn g := by
  unfold storeScalar
  dsimp only
  rw [if_neg (by simp [hbase]), ← ha, larderFault_single halign hfits]

/-! ### Lanes of the Larder -/

theorem State.loadLarder_of_poison (hbad : (s.ve g).badAddr x = true) :
    s.loadLarder g x c = s.endCmd (g / 8) (s.ve g).cmd stPOISON := if_pos hbad

theorem State.loadLarder_of_fault {f : Nat × Nat} (hgood : (s.ve g).badAddr x = false)
    (hfault : larderFault (esBytes x.es) (((s.ve g).laneAddrs x).map fun l => l.a) = some f) :
    s.loadLarder g x c = s.vfault g f.1 f.2 0 true := by
  unfold loadLarder
  dsimp only
  rw [if_neg (by simp [hgood]), hfault]

theorem State.loadLarder_of_read {t : Tab (List (Byte × Bool))} (hgood : (s.ve g).badAddr x = false)
    (hfit : larderFault (esBytes x.es) (((s.ve g).laneAddrs x).map fun l => l.a) = none)
    (hread : s.readAll (vectorUnit g c 0 false false) (larderSpots (laneKeys (esBytes x.es) ((s.ve g).laneAddrs x))) =
      (t, s')) :
    s.loadLarder g x c = s'.goesOn g (((s'.ve g).loadInto x ((s.ve g).laneAddrs x) t true).1.postInc x)
      ((s'.ve g).loadInto x ((s.ve g).laneAddrs x) t true).2 := by
  unfold loadLarder
  dsimp only
  rw [if_neg (by simp [hgood]), hfit]
  dsimp only
  rw [hread]
  rfl

theorem State.storeLarder_of_fit {ls : List LaneAddr} (hgood : (s.ve g).badAddr x = false)
    (hfit : larderFault (esBytes x.es) (((s.ve g).laneAddrs x).map fun l => l.a) = none)
    (horder : s.storeOrder ((s.ve g).laneAddrs x) = (ls, s')) :
    s.storeLarder g x c =
      (each (joinRuns ((s.ve g).storePieces x ls).1) (fun r s => s.larderWrite g (vectorWho g 1 c.ctx) r.1 r.2) s').goesOn g
        (((each (joinRuns ((s.ve g).storePieces x ls).1)
          (fun r s => s.larderWrite g (vectorWho g 1 c.ctx) r.1 r.2) s').ve g).postInc x)
        ((s.ve g).storePieces x ls).2 := by
  unfold storeLarder
  dsimp only
  rw [if_neg (by simp [hgood]), hfit]
  dsimp only
  rw [horder]
  rfl

/-- A fault of the Larder is counted and reported with its room (R120). -/
theorem State.vfault_larder (src a access : Nat) (hc : s.vcmd g = some c) :
    s.vfault g src a access true = (s.incEnt (0x5220 + g / 64) (g % 64 + 1) 1).capture (g / 64)
      { accReport src (roomAgent 2 g) access a (some c.ctx) with room := true } := by
  unfold vfault
  rw [hc]
  dsimp only
  rw [if_pos rfl, if_pos rfl]

/-! ### Memory -/

/-- The data of a waiting load that stays in this module arrive (R117, R124). -/
theorem State.loadMemory_of_ready {fill : Bool} {l : List Spot} {t : Tab (List (Byte × Bool))} {u : State}
    (hgood : (s.ve g).badAddr x = false) (halign : (((s.ve g).laneAddrs x).any fun l => l.a % esBytes x.es ≠ 0) = false)
    (hord : x.ord ≠ 1)
    (hplan : s.plan (vectorUnit g c 0 (x.ord = 0 && fill) true) (laneFirsts (esBytes x.es) ((s.ve g).laneAddrs x)) false true =
      (.ready l, s'))
    (hlocal : (l.any fun p => match p.tgt with | .remote _ => true | _ => false) = false)
    (hread : s'.readAll (vectorUnit g c 0 (x.ord = 0 && fill) true) l = (t, u)) :
    s.loadMemory g x c (some fill) = u.goesOn g (((u.ve g).loadInto x ((s.ve g).laneAddrs x) t false).1.postInc x)
      ((u.ve g).loadInto x ((s.ve g).laneAddrs x) t false).2 := by
  unfold loadMemory
  dsimp only [Option.getD_some]
  rw [if_neg (by simp [hgood]), if_neg (ne_true_of_eq_false halign), hplan]
  refine (if_neg (ne_true_of_eq_false hlocal)).trans ?_
  dsimp only [Option.isNone_some]
  rw [if_neg (by simp), hread, if_neg (by simp [hord])]
  rfl

theorem State.flagsReady_of_unordered {q : Engine} {l : List Spot} (h : q.cmd.bOrd = false) :
    s.flagsReady q (l.filterMap fun y => s.flagWrite q y) = (true, s) := by
  have hnone : (l.filterMap fun y => s.flagWrite q y) = [] := by
    rw [List.filterMap_eq_nil_iff]
    intro y _
    unfold flagWrite
    exact if_pos (by simp [h])
  rw [hnone]
  rfl

/-- What a store to memory decides once its lanes have their addresses (R118, R120). -/
theorem State.storeMemory_of_remote {l : List Spot} (hgood : (s.ve g).badAddr x = false)
    (halign : (((s.ve g).laneAddrs x).any fun l => l.a % esBytes x.es ≠ 0) = false)
    (hplan : s.plan (vectorUnit g c 1 false false) (laneFirsts (esBytes x.es) ((s.ve g).laneAddrs x)) false true =
      (.ready l, s'))
    (haway : (l.any fun p => match p.tgt with | .remote _ => true | _ => false) = true) :
    s.storeMemory g x c = s'.endCmd (g / 8) (s'.ve g).cmd stREMOTE := by
  unfold storeMemory
  dsimp only
  rw [if_neg (by simp [hgood]), if_neg (ne_true_of_eq_false halign), hplan]
  exact if_pos haway

theorem State.storeMemory_of_local {l : List Spot} {ls : List LaneAddr} {o t : State} (hgood : (s.ve g).badAddr x = false)
    (halign : (((s.ve g).laneAddrs x).any fun l => l.a % esBytes x.es ≠ 0) = false)
    (hplan : s.plan (vectorUnit g c 1 false false) (laneFirsts (esBytes x.es) ((s.ve g).laneAddrs x)) false true =
      (.ready l, s'))
    (hlocal : (l.any fun p => match p.tgt with | .remote _ => true | _ => false) = false) (hord : c.bOrd = false)
    (horder : (if x.ord = 1 then s'.rlineFence (g / 8) x.scope else s').storeOrder ((s.ve g).laneAddrs x) = (ls, o))
    (ht : t = each ((s.ve g).laneAddrs x)
      (fun y s => s.onVcmd g fun c => { c with dirty := growDirty y.a (y.a + esBytes x.es) c.dirty })
      (each (joinRuns ((s.ve g).storePieces x ls).1)
        (fun r s => s.writeRun (vectorUnit g c 1 false false) 1 .keep l ⟨false, r.1⟩ r.2) o)) :
    s.storeMemory g x c = t.goesOn g ((t.ve g).postInc x) ((s.ve g).storePieces x ls).2 := by
  unfold storeMemory
  dsimp only
  rw [if_neg (by simp [hgood]), if_neg (ne_true_of_eq_false halign), hplan]
  refine (if_neg (ne_true_of_eq_false hlocal)).trans ?_
  dsimp only
  rw [State.flagsReady_of_unordered (q := vectorUnit g c 1 false false) (s := s') hord]
  dsimp only
  rw [if_neg (by simp), horder, ht]
  rfl

/-! ### Rows of the drain port -/

theorem State.injSlot_of_unarmed {dir : Nat} (ad : Nat) (h : s.armedOn g dir = false) :
    s.injSlot (g / 64) (roomTarget g) 0 dir ad = none := by
  have hnone : ∀ k ∈ List.range 8, _ := List.any_eq_false.mp h
  unfold injSlot
  rw [Option.map_eq_none_iff, List.find?_eq_none]
  intro k hk hslot
  refine hnone k hk ?_
  simp only [Bool.and_eq_true] at hslot ⊢
  exact hslot.1

/-- A word stored as it is reads as it is where no injection is armed. -/
theorem State.roomLoad_of_unarmed (who : Who) (la : Bool) (ad : Nat) (w : BitVec 128) (h : s.armedOn g 1 = false) :
    s.roomLoad g who la ad w 0#16 = ((w, false), s) := by
  have hzero : syndrome 0#16 = (0, 0, 0, 0) := by decide
  have hclean : decodeWord w 0#16 = .clean := by
    unfold decodeWord
    exact if_pos hzero
  unfold roomLoad checkWord
  rw [State.injSlot_of_unarmed ad h]
  dsimp only
  rw [hclean]

/-- Words of a row read one after the other, with no injection armed. -/
theorem State.foldl_roomLoad_of_unarmed (who : Who) (ad : Nat → Nat) (w : Nat → BitVec 128) (h : s.armedOn g 1 = false)
    (ms : List Nat) (l : List (BitVec 128 × Bool)) :
    ms.foldl (fun (a : List (BitVec 128 × Bool) × State) m =>
      (a.1 ++ [(a.2.roomLoad g who true (ad m) (w m) 0#16).1], (a.2.roomLoad g who true (ad m) (w m) 0#16).2)) (l, s) =
      (l ++ ms.map fun m => (w m, false), s) := by
  induction ms generalizing l with
  | nil => simp
  | cons m ms ih =>
    rw [List.foldl_cons, State.roomLoad_of_unarmed who true (ad m) (w m) h, ih]
    simp

/-- Lane `i` of a row in the 16-byte word that holds it. -/
theorem laneAt_word (v : BitVec 2048) (i : Nat) :
    (BitVec.ofNat 128 (v.toNat / 2 ^ (128 * (i / 4)))).toNat / 2 ^ (32 * (i % 4)) % 2 ^ 32 = laneAt v i := by
  refine Nat.eq_of_testBit_eq fun j => ?_
  have hsum : 128 * (i / 4) + (32 * (i % 4) + j) = 32 * i + j := by omega
  rw [laneAt, BitVec.toNat_ofNat, ← Nat.shiftRight_eq_div_pow, ← Nat.shiftRight_eq_div_pow, ← Nat.shiftRight_eq_div_pow]
  simp only [Nat.testBit_mod_two_pow, Nat.testBit_shiftRight, hsum]
  by_cases hj : j < 32
  · simp [hj, show 32 * (i % 4) + j < 128 by omega]
  · simp [hj]

/-- The lanes of a row. -/
def PortRow.read (r : PortRow) : List (Nat × Bool) := (List.range 64).map fun i => (laneAt r.lanes i, bitOf r.bad.toNat i)

/-- Row `r` is taken into vector register `d`, the rows `t` stay. -/
def State.received (s : State) (g d : Nat) (r : PortRow) (t : List PortRow) : State :=
  (s.setRoom g { s.room g with port := t }).setVe g (((s.setRoom g { s.room g with port := t }).ve g).setV d r.read)

theorem State.ve_received (d : Nat) (r : PortRow) (t : List PortRow) :
    (s.received g d r t).ve g = (s.ve g).setV d r.read := by
  simp [received, setVe, ve]

theorem State.recvRow_of_row {r : PortRow} {t : List PortRow} (hport : (s.room g).port = r :: t) (hcode : r.code = [])
    (harm : s.armedOn g 1 = false) :
    s.recvRow g x c = (s.received g x.d.toNat r t).stepOn g := by
  have hread := State.foldl_roomLoad_of_unarmed (s := s) (g := g) (vectorWho g 0 c.ctx)
    (fun m => 0x400000 + r.slot * 0x100 + m * 16) (fun m => BitVec.ofNat 128 (r.lanes.toNat / 2 ^ (128 * m))) harm
    (List.range 16) []
  have hlanes : ((List.range 64).map fun i =>
      ((lget (0#128, false) ((List.range 16).map fun m => (BitVec.ofNat 128 (r.lanes.toNat / 2 ^ (128 * m)), false))
        (i / 4)).1.toNat / 2 ^ (32 * (i % 4)) % 2 ^ 32,
       (lget (0#128, false) ((List.range 16).map fun m => (BitVec.ofNat 128 (r.lanes.toNat / 2 ^ (128 * m)), false))
        (i / 4)).2 || bitOf r.bad.toNat i)) = r.read := by
    refine List.map_congr_left fun i hi => ?_
    have hword : i / 4 < 16 := by
      have := List.mem_range.mp hi
      omega
    simp only [lget, List.getElem?_map, List.getElem?_range hword, Option.map_some, Option.getD_some, laneAt_word,
      Bool.false_or]
  unfold recvRow
  rw [hport]
  dsimp only
  rw [hcode]
  have hzero : ∀ m, tget 0#16 ([] : Tab (BitVec 16)) m = 0#16 := fun _ => rfl
  simp only [hzero, hread, List.nil_append, hlanes]
  rfl

end

/-- Settles O25: an instruction that has been come to acts on its command, and its function has one equation per branch;
a row of the drain port is read word by word. -/
theorem vectorAccesses : Obligations.VectorAccesses := by
  intro s g c x hs hg hc
  have hok : decide (g < 256) = true := decide_eq_true hg
  refine ⟨?_, ?_, ?_, ?_, ?_, ?_, ?_, ?_, ?_, ?_, ?_, ?_, ?_, ?_⟩
  · intro hx hbase a ha halign hfits bs s' hread
    rw [exec_sldl, execSldl, act_vaccess_of_issues _ hg hx hc, State.loadScalar_of_read hbase ha halign hfits hread]
  · intro hx hbase a ha halign hfits
    rw [exec_sstl, execSstl, act_vaccess_of_issues _ hg hx hc, State.storeScalar_of_fit hbase ha halign hfits]
  · intro hx hgood hfit t s' hread
    rw [exec_ldl, execLdl, act_vaccess_of_issues _ hg hx hc, State.loadLarder_of_read hgood hfit hread]
  · intro hx hbad
    rw [exec_ldl, execLdl, act_vaccess_of_issues _ hg hx hc, State.loadLarder_of_poison hbad]
  · intro f hx hgood hfault
    rw [exec_ldl, execLdl, act_vaccess_of_issues _ hg hx hc, State.loadLarder_of_fault hgood hfault,
      State.vfault_larder f.1 f.2 0 hc]
  · intro hx hgood hfit ls s' horder
    rw [exec_stl, execStl, act_vaccess_of_issues _ hg hx hc, State.storeLarder_of_fit hgood hfit horder]
  · intro hx
    rw [exec_ldm, execLdm, act_vaccess_of_issues _ hg hx hc]
  · intro l w hup hload hplace
    rw [exec_loadDataReturn, execLoadDataReturn, hok, act_gives, hload, hc, hplace]
    dsimp only
    rw [if_pos hup]
  · intro fill l s' hgood halign hord hplan hlocal t u hread
    exact State.loadMemory_of_ready hgood halign hord hplan hlocal hread
  · intro hx
    rw [exec_stm, execStm, act_vaccess_of_issues _ hg hx hc]
  · intro l s' ls o t hgood halign hplan hlocal hord horder ht
    exact State.storeMemory_of_local hgood halign hplan hlocal hord horder ht
  · intro l s' hgood halign hplan haway
    exact State.storeMemory_of_remote hgood halign hplan haway
  · intro r t hx hport hcode harm
    refine ⟨s.received g x.d.toNat r t, ?_, ?_, ?_, ?_, ?_⟩
    · rw [exec_recv, execRecv, act_vaccess_of_issues _ hg hx hc, State.recvRow_of_row hport hcode harm]
    · simp [State.received, State.setVe]
    · simp [State.received, State.setVe]
    · simp [State.ve_received, VEngine.setV]
    · intro i hi
      rw [State.ve_received, VEngine.vreg_setV_same _ (by simp [PortRow.read]) _ hi]
      simp only [PortRow.read, lget, List.getElem?_map, List.getElem?_range hi, Option.map_some, Option.getD_some,
        bitOf_eq_testBit, BitVec.getLsbD, laneAt, Nat.mod_mod]
  · intro hx hport
    rw [exec_recv, execRecv, act_vaccess_of_issues _ hg hx hc]
    unfold State.recvRow
    rw [hport]
    exact State.gives_quiet hs rfl

end Sys2Proof.Machine
end


section
/-! PROOFS. Accesses to other modules, the module's number, its members, and PTP (R316, R317, R324, R325, R328). -/

namespace Sys2Proof.Machine

section
variable {s : State}

/-! ### The atomic slots -/

theorem State.goAtomic_of_busy {k : Nat} (hbusy : s.regF (paAtomic k 0x18) 1 1 = 1) : s.goAtomic k = s :=
  if_pos (by simp [hbusy])

theorem State.goAtomic_of_bad {k : Nat} (hon : s.on = true) (hidle : s.regF (paAtomic k 0x18) 1 1 = 0)
    (hbad : regionOf (s.regF (paAtomic k 0) 55 4 * 16) ≠ .remote ∨ cisOpOk (s.regF (paAtomic k 0x18) 15 8) = false) :
    s.goAtomic k = s.setReg (paAtomic k 0x20) 3 := by
  unfold goAtomic
  rw [if_neg (by simp [hon, hidle])]
  exact if_pos (by simpa using hbad)

/-- An accepted GO of a module without a number fails at once. -/
theorem State.goAtomic_of_unnumbered {k : Nat} (hon : s.on = true) (hidle : s.regF (paAtomic k 0x18) 1 1 = 0)
    (hremote : regionOf (s.regF (paAtomic k 0) 55 4 * 16) = .remote) (hop : cisOpOk (s.regF (paAtomic k 0x18) 15 8) = true)
    (hown : s.own = 0xFFFF) :
    s.goAtomic k = ((s.setRegF (paAtomic k 0x18) 1 1 1).setRegF (paAtomic k 0x20) 3 0 2).setRegF (paAtomic k 0x18) 1 1 0 := by
  unfold goAtomic
  rw [if_neg (by simp [hon, hidle])]
  dsimp only
  rw [if_neg (by simp [hremote, hop])]
  unfold remoteAsk
  exact if_pos hown

/-! ### Host cores -/

theorem State.coreRemoteLoad_of_bad {pa size : Nat} (core : Nat) (hon : s.on = true)
    (hbad : regionOf pa ≠ .remote ∨ (size ≠ 4 ∧ size ≠ 8) ∨ pa % size ≠ 0 ∨ remotePermitted (remoteAddr pa) = false ∨
      s.own = 0xFFFF) : s.coreRemoteLoad core pa size = s.answer core .accessFault := by
  unfold coreRemoteLoad
  rw [if_neg (by simp [hon])]
  by_cases hrefused : regionOf pa ≠ .remote ∨ !(size = 4 ∨ size = 8) ∨ pa % size ≠ 0 ∨ !remotePermitted (remoteAddr pa)
  · exact if_pos hrefused
  · rw [if_neg hrefused]
    refine if_pos ?_
    simp only [ne_eq, Bool.not_eq_true', decide_eq_false_iff_not, not_or, Decidable.not_not] at hrefused
    obtain ⟨hremote, hsize, halign, hperm⟩ := hrefused
    rcases hbad with h | ⟨h4, h8⟩ | h | h | h
    · exact absurd hremote h
    · omega
    · exact absurd halign h
    · exact absurd h hperm
    · exact h

/-- An operation to another module whose pair is up waits for its turn there. -/
theorem State.remoteOp_of_up {k : Packet} (i : Issuer) (hown : s.own ≠ 0xFFFF) (haway : k.dst ≠ s.own)
    (hup : (s.pair k.dst).up = true) :
    s.remoteOp i k =
      s.setPair k.dst { s.pair k.dst with waiting := (s.pair k.dst).waiting ++ [({ k with src := s.own }, i)] } := by
  unfold remoteOp
  rw [if_neg hown]
  dsimp only
  exact (if_neg haway).trans (if_pos (by simp [hup]))

/-- The module waits for what request `k` asks of another module. -/
def State.asking (s : State) (i : Issuer) (k : Packet) (addr size : Nat) : State :=
  { s.nextReadId.2 with reads := s.reads ++ [⟨s.mgmt.readId, k.dst, i, addr, size, none, (0, 0#128)⟩] }

/-- The packet of a READ request, as it goes out. -/
def State.readPacket (s : State) (k : Packet) : Packet :=
  { k with tagx := BitVec.ofNat 32 (k.tagx.toNat / 2 ^ 23 * 2 ^ 23 + s.mgmt.readId), src := s.own }

theorem State.remoteAsk_of_up {k : Packet} (i : Issuer) (addr size : Nat) (hop : k.op = 1) (hown : s.own ≠ 0xFFFF)
    (haway : k.dst ≠ s.own) (hup : (s.pair k.dst).up = true) :
    s.remoteAsk i k addr size none (0, 0) = (s.asking i k addr size).setPair k.dst { s.pair k.dst with
      waiting := (s.pair k.dst).waiting ++ [(s.readPacket k, i)] } := by
  unfold remoteAsk
  rw [if_neg hown]
  dsimp only
  rw [if_pos hop]
  exact State.remoteOp_of_up (s := s.asking i k addr size) i hown haway hup

/-- A host core's READ request. -/
def coreRead (pa : Nat) : Packet :=
  { basePacket 1 (remoteModule pa) (remoteAddr pa / 16 * 16) with tagx := BitVec.ofNat 32 (2 ^ 23) }

theorem State.readPacket_tag (pa : Nat) (h : s.mgmt.readId < 2 ^ 23) :
    fld (s.readPacket (coreRead pa)).tagx.toNat 31 23 = 1 := by
  simp only [readPacket, coreRead, fld, BitVec.toNat_ofNat]
  omega

/-- A host core's READ waits in the pair of its module, and the core for the data. -/
def State.coreReads (s : State) (core pa size : Nat) : State :=
  ((s.answer core .waiting).asking (.core core) (coreRead pa) pa size).setPair (remoteModule pa) { s.pair (remoteModule pa) with
    waiting := (s.pair (remoteModule pa)).waiting ++ [(s.readPacket (coreRead pa), .core core)] }

theorem State.coreRemoteLoad_of_up {pa size : Nat} (core : Nat) (hon : s.on = true) (hremote : regionOf pa = .remote)
    (hsize : size = 4 ∨ size = 8) (halign : pa % size = 0) (hperm : remotePermitted (remoteAddr pa) = true)
    (hown : s.own ≠ 0xFFFF) (haway : remoteModule pa ≠ s.own) (hup : (s.pair (remoteModule pa)).up = true) :
    s.coreRemoteLoad core pa size = s.coreReads core pa size := by
  unfold coreRemoteLoad
  rw [if_neg (by simp [hon]), if_neg (by simp [hremote, hsize, halign, hperm]), if_neg hown]
  exact State.remoteAsk_of_up (s := s.answer core .waiting) (k := coreRead pa) (.core core) pa size rfl hown haway hup

theorem State.coreReads_kept (core pa size : Nat) :
    (s.coreReads core pa size).todo = s.todo ∧ (s.coreReads core pa size).pending = s.pending ∧
      (s.coreReads core pa size).reads = s.reads ++ [⟨s.mgmt.readId, remoteModule pa, .core core, pa, size, none, (0, 0#128)⟩] ∧
      ((s.coreReads core pa size).pair (remoteModule pa)).waiting =
        (s.pair (remoteModule pa)).waiting ++ [(s.readPacket (coreRead pa), .core core)] ∧
      tget .none (s.coreReads core pa size).cores core = .waiting := by
  unfold coreReads
  rw [State.setPair_todo, State.setPair_pending, State.setPair_reads, State.setPair_cores, State.pair_setPair, if_pos rfl]
  exact ⟨rfl, rfl, rfl, rfl, (tget_tset ..).trans (if_pos rfl)⟩

theorem State.coreRemoteStore_of_bad {pa size : Nat} (core v : Nat) (hon : s.on = true)
    (hbad : regionOf pa ≠ .remote ∨ size ≠ 8 ∨ pa % 8 ≠ 0 ∨ pageReg (remoteAddr pa) = .none) :
    s.coreRemoteStore core pa size v = s.answer core .accessFault := by
  unfold coreRemoteStore
  rw [if_neg (by simp [hon])]
  exact if_pos hbad

/-- The packet of a host core's store, as it goes out. -/
def State.storePacket (s : State) (pa v : Nat) : Packet :=
  { basePacket 0 (remoteModule pa) (remoteAddr pa) with
    short := true, words := [(BitVec.ofNat 128 (v % 2 ^ 64), 0)], src := s.own }

/-- A host core's short WRITE waits in the pair of its module. -/
def State.coreWrites (s : State) (core pa v : Nat) : State :=
  (s.answer core .none).setPair (remoteModule pa) { s.pair (remoteModule pa) with
    waiting := (s.pair (remoteModule pa)).waiting ++ [(s.storePacket pa v, .core core)] }

theorem State.coreRemoteStore_of_up {pa size v : Nat} (core : Nat) (hon : s.on = true) (hremote : regionOf pa = .remote)
    (hsize : size = 8) (halign : pa % 8 = 0) (hpage : pageReg (remoteAddr pa) ≠ .none)
    (hown : s.own ≠ 0xFFFF) (haway : remoteModule pa ≠ s.own) (hup : (s.pair (remoteModule pa)).up = true) :
    s.coreRemoteStore core pa size v = s.coreWrites core pa v := by
  unfold coreRemoteStore
  rw [if_neg (by simp [hon]), if_neg (by simp [hremote, hsize, halign, hpage])]
  exact State.remoteOp_of_up (.core core) hown haway hup

theorem State.coreWrites_kept (core pa v : Nat) :
    (s.coreWrites core pa v).todo = s.todo ∧ (s.coreWrites core pa v).pending = s.pending ∧
      ((s.coreWrites core pa v).pair (remoteModule pa)).waiting =
        (s.pair (remoteModule pa)).waiting ++ [(s.storePacket pa v, .core core)] := by
  unfold coreWrites
  rw [State.setPair_todo, State.setPair_pending, State.pair_setPair, if_pos rfl]
  exact ⟨rfl, rfl, rfl⟩

/-! ### The module's number and its members -/

theorem State.takeAssign_of_bad {num ep time : Nat} {nonce : BitVec 128} {sig : Bytes}
    (hbad : nonce ≠ s.mgmt.nonce ∨ 4096 ≤ num ∨ s.timely time = false ∨ s.blob 0x4010 1 = []) :
    s.takeAssign num ep nonce time sig = s := by
  unfold takeAssign
  refine if_neg fun hall => ?_
  simp only [Bool.and_eq_true, decide_eq_true_eq] at hall
  obtain ⟨⟨⟨⟨⟨_, hkey⟩, hnonce⟩, htime⟩, hnum⟩, _⟩ := hall
  rcases hbad with h | h | h | h
  · exact h hnonce
  · omega
  · simp [h] at htime
  · exact hkey h

theorem State.takeAssign_of_good {num ep time : Nat} {nonce : BitVec 128} (sig : Bytes) (hon : s.on = true)
    (hnum : num < 4096) (hkey : s.blob 0x4010 1 ≠ []) (hnonce : nonce = s.mgmt.nonce) (htime : s.timely time = true) :
    s.takeAssign num ep nonce time sig =
      if Config.ed25519 (s.blob 0x4010 1) (assignBytes num ep nonce time) sig then
        (s.setRaise 0x4010 2 num).setEnt 0x4010 4 ep
      else s := by
  unfold takeAssign
  simp only [hon, hnum, hkey, hnonce, htime, decide_true, Bool.true_and, ne_eq, not_false_eq_true]

theorem State.takeMember_of_bad {ep time : Nat} (cs : List MemberChange) (sig : Bytes)
    (hbad : s.blob 0x4010 1 = [] ∨ s.timely time = false) : s.takeMember ep cs time sig = s := by
  unfold takeMember
  refine if_neg fun hall => ?_
  simp only [Bool.and_eq_true, decide_eq_true_eq] at hall
  obtain ⟨⟨⟨_, hkey⟩, htime⟩, _⟩ := hall
  rcases hbad with h | h
  · exact hkey h
  · simp [h] at htime

theorem State.takeMember_of_good {ep time : Nat} (cs : List MemberChange) (sig : Bytes) (hon : s.on = true)
    (hkey : s.blob 0x4010 1 ≠ []) (htime : s.timely time = true) :
    s.takeMember ep cs time sig =
      if Config.ed25519 (s.blob 0x4010 1) (memberBytes ep cs time) sig = true then
        (each cs (fun c s => s.applyChange c) s).setEnt 0x4010 4 ep else s := by
  unfold takeMember
  simp only [hon, hkey, htime, decide_true, Bool.true_and, ne_eq, not_false_eq_true]

/-- A written entry that raises its event reads what was written. -/
theorem State.ent_setRaise_same (s : State) (i k v : Nat) (h : dictKey i k ≠ dictKey 0x4420 5) :
    (s.setRaise i k v).ent i k = v := by
  unfold setRaise
  rw [State.raise_ent _ _ _ _ _ _ _ h, State.ent_setEnt_same]

theorem State.ent_setRaise_ne (s : State) {i k : Nat} (v : Nat) {j l : Nat} (hne : dictKey j l ≠ dictKey i k)
    (h : dictKey j l ≠ dictKey 0x4420 5) : (s.setRaise i k v).ent j l = s.ent j l := by
  unfold setRaise
  rw [State.raise_ent _ _ _ _ _ _ _ h, State.ent_setEnt_ne _ _ _ _ _ _ hne]

theorem State.setRaise_pairs {i k v : Nat} (hne : dictKey 0x4420 3 ≠ dictKey i k) (h : s.ent 0x4420 3 ≠ 1) :
    (s.setRaise i k v).pairs = s.pairs := by
  unfold setRaise
  rw [State.raise_pairs (by rwa [State.ent_setEnt_ne _ _ _ _ _ _ hne]), State.setEnt_pairs]

theorem State.modWord_setModWord {m : Nat} (v : Nat) (h : m < 4096) : (s.setModWord m v).modWord m = v := by
  unfold setModWord
  split
  · next hv => exact hv
  · exact State.ent_setRaise_same _ _ _ _ (by unfold dictKey; omega)

theorem State.setModWord_kept {m : Nat} (v : Nat) (h : m < 4096) :
    (s.setModWord m v).blobs = s.blobs ∧ (s.setModWord m v).reads = s.reads ∧
      (s.setModWord m v).own = s.own ∧ (s.setModWord m v).ent 0x4420 3 = s.ent 0x4420 3 := by
  unfold setModWord
  split
  · exact ⟨rfl, rfl, rfl, rfl⟩
  · exact ⟨by simp, by simp, State.ent_setRaise_ne _ _ (by unfold dictKey; omega) (by decide),
      State.ent_setRaise_ne _ _ (by unfold dictKey; omega) (by decide)⟩

theorem State.setModWord_pairs {m : Nat} (v : Nat) (hm : m < 4096) (h : s.ent 0x4420 3 ≠ 1) :
    (s.setModWord m v).pairs = s.pairs := by
  unfold setModWord
  split
  · rfl
  · exact State.setRaise_pairs (by unfold dictKey; omega) h

/-- A joining module is a member, with the key of its change. -/
theorem State.applyChange_of_join {c : MemberChange} (hnum : c.num < 4096) (hjoin : c.join = true) :
    (s.applyChange c).member c.num = true ∧ (s.applyChange c).modKey c.num = c.key := by
  unfold applyChange
  rw [if_neg (by omega), if_pos hjoin]
  dsimp only
  obtain ⟨hblobs, -, -, -⟩ := State.setModWord_kept (m := c.num) (s := _) _ hnum
  constructor
  · unfold member
    rw [State.modWord_setModWord _ hnum, fld_putFld_same]
    rfl
  · rw [modKey, blob, hblobs]
    split
    · next hkey => exact hkey
    · simp [setBlob]

/-- The addresses of module `m` are forgotten. -/
def State.unaddress (s : State) (m : Nat) : State := { s with mgmt := { s.mgmt with addrs := tdel s.mgmt.addrs m } }

/-- Module `m` is no member any more. -/
def State.unmember (s : State) (m : Nat) : State := (s.unaddress m).setModWord m (putFld (s.modWord m) 63 62 2)

theorem State.applyChange_of_leave {c : MemberChange} (hnum : c.num < 4096) (hleave : c.join = false) (hown : c.num = s.own) :
    s.applyChange c = ((s.unmember c.num).setRaise 0x4010 2 0xFFFF).leaveFabric := by
  obtain ⟨-, -, hkept, -⟩ := State.setModWord_kept (s := s.unaddress c.num) (putFld (s.modWord c.num) 63 62 2) hnum
  unfold applyChange
  rw [if_neg (by omega), if_neg (by simp [hleave])]
  exact if_pos (hown.trans hkept.symm)

/-! ### Leaving the fabric with nothing under way -/

/-- No operation and no read of any pair is under way. -/
def State.Quiet (s : State) : Prop := (∀ m, (s.pair m).tx = [] ∧ (s.pair m).waiting = []) ∧ s.reads = []

theorem State.endFences_kept : s.endFences.pairs = s.pairs ∧ s.endFences.reads = s.reads ∧ s.endFences.od = s.od := by
  unfold endFences
  split
  · refine ⟨?_, ?_, ?_⟩
    · exact each_keeps State.pairs (fun _ s => s.emit .fenceDone) (fun _ _ => rfl) _ _
    · exact each_keeps State.reads (fun _ s => s.emit .fenceDone) (fun _ _ => rfl) _ _
    · exact each_keeps State.od (fun _ s => s.emit .fenceDone) (fun _ _ => rfl) _ _
  · exact ⟨rfl, rfl, rfl⟩

/-- What leaving the fabric does with one pair. -/
def State.leavePair (m : Nat) (s : State) : State :=
  let s := s.failPair m
  let l := (s.pair m).waiting
  let s := s.setPair m { s.pair m with waiting := [] }
  let s := { s with reads := s.reads.filter fun r => !decide (r.peer = m) }
  (each l (fun x s => s.remoteFail x.2 x.1.op) s).endFences

theorem State.leaveFabric_eq : s.leaveFabric = each s.pairs (fun e s => s.leavePair e.1) s := rfl

/-- A pair that failed with nothing under way. -/
def Pair.failedQuiet (p : Pair) : Pair :=
  { p with up := false, opening := false, failed := true, tx := [], waiting := [] }

theorem State.pair_of_pairs {t : State} (h : t.pairs = s.pairs) (m : Nat) : t.pair m = s.pair m := by
  rw [pair, pair, h]

theorem State.own_of_od {t : State} (h : t.od = s.od) : t.own = s.own := by
  rw [own, own, ent, ent, h]

theorem State.failPair_of_quiet {m : Nat} (h : s.Quiet) :
    s.failPair m = s ∧ (s.pair m).up = false ∨
      s.failPair m = ({ (s.incEnt 0x4007 1 1).setPair m (s.pair m).failedQuiet with reads := [] } : State).endFences := by
  obtain ⟨hpairs, hreads⟩ := h
  obtain ⟨htx, hwait⟩ := hpairs m
  unfold failPair
  dsimp only
  split
  · next hdown =>
    simp only [Bool.and_eq_true, Bool.not_eq_true', decide_eq_true_eq] at hdown
    exact .inl ⟨rfl, hdown.1.1⟩
  · right
    simp only [htx, hwait, hreads, List.filter_nil, List.map_nil, ite_self, List.append_nil, each_nil, ownersOf,
      List.filterMap_nil, List.nil_append, State.setPair_reads, State.incEnt_reads]
    rfl

/-- What leaving one pair does to a fabric with nothing under way: the pair is down, the others as they were. -/
theorem State.leavePair_of_quiet (m : Nat) (h : s.Quiet) :
    (s.leavePair m).Quiet ∧ (s.leavePair m).own = s.own ∧ ((s.leavePair m).pair m).up = false ∧
      ∀ j, ((s.leavePair m).pair j).up = true → (s.pair j).up = true := by
  have hfail : (s.failPair m).Quiet ∧ (s.failPair m).own = s.own ∧ ((s.failPair m).pair m).up = false ∧
      ∀ j, ((s.failPair m).pair j).up = true → (s.pair j).up = true := by
    obtain ⟨heq, hdown⟩ | heq := State.failPair_of_quiet (m := m) h <;> rw [heq]
    · exact ⟨h, rfl, hdown, fun _ hj => hj⟩
    · obtain ⟨hp, hr, ho⟩ := State.endFences_kept
        (s := { (s.incEnt 0x4007 1 1).setPair m (s.pair m).failedQuiet with reads := [] })
      have hpair : ∀ j, (({ (s.incEnt 0x4007 1 1).setPair m (s.pair m).failedQuiet with reads := [] } : State).endFences).pair j =
          if j = m then (s.pair m).failedQuiet else s.pair j := fun j =>
        (State.pair_of_pairs hp j).trans ((State.pair_setPair ..).trans (by rw [State.pair_of_pairs (State.incEnt_pairs ..)]))
      refine ⟨⟨fun j => ?_, hr⟩, (State.own_of_od ho).trans ?_, ?_, fun j => ?_⟩
      · rw [hpair]
        split
        · exact ⟨rfl, rfl⟩
        · exact h.1 j
      · unfold incEnt
        split
        · exact State.ent_setEnt_ne _ _ _ _ _ _ (by decide)
        · rfl
      · rw [hpair, if_pos rfl]
        rfl
      · rw [hpair]
        split
        · exact fun hup => absurd hup (by simp [Pair.failedQuiet])
        · exact id
  obtain ⟨⟨hpairs, hreads⟩, hown, hdown, hless⟩ := hfail
  have hend : s.leavePair m = ({ (s.failPair m).setPair m { (s.failPair m).pair m with waiting := [] } with reads := [] } : State).endFences := by
    unfold leavePair
    dsimp only
    rw [(hpairs m).2, each_nil, State.setPair_reads, hreads, List.filter_nil]
  obtain ⟨hp, hr, ho⟩ := State.endFences_kept
    (s := { (s.failPair m).setPair m { (s.failPair m).pair m with waiting := [] } with reads := [] })
  have hpair : ∀ j, (s.leavePair m).pair j = (s.failPair m).pair j := by
    intro j
    rw [hend, State.pair_of_pairs hp j]
    refine (State.pair_setPair ..).trans ?_
    split
    · next hj =>
      rw [hj, ← (hpairs m).2]
    · rfl
  refine ⟨⟨fun j => hpair j ▸ hpairs j, by rw [hend, hr]⟩, ?_, hpair m ▸ hdown, fun j hj => hless j (hpair j ▸ hj)⟩
  rw [hend, State.own_of_od ho]
  exact hown

/-- A pair is as at reset, or it is one of the entries. -/
theorem tget_eq_or_mem {α : Type} (d : α) (t : Tab α) (k : Nat) : tget d t k = d ∨ (k, tget d t k) ∈ t := by
  induction t with
  | nil => exact .inl rfl
  | cons e t ih =>
    obtain ⟨j, v⟩ := e
    unfold tget
    split
    · next hj => exact .inr (hj ▸ List.mem_cons_self)
    · exact ih.imp id (List.mem_cons_of_mem _)

theorem State.quiet_of_entries (hpairs : ∀ e ∈ s.pairs, e.2.tx = [] ∧ e.2.waiting = []) (hreads : s.reads = []) : s.Quiet := by
  refine ⟨fun m => ?_, hreads⟩
  obtain h | h := tget_eq_or_mem Pair.reset s.pairs m
  · rw [pair, h]
    exact ⟨rfl, rfl⟩
  · exact hpairs _ h

/-- Nothing is under way, the number is that of `s`, and no pair is up that was not. -/
def State.Falls (s t : State) : Prop := t.Quiet ∧ t.own = s.own ∧ ∀ j, (t.pair j).up = true → (s.pair j).up = true

theorem State.Falls.leavePair {t : State} (m : Nat) (h : s.Falls t) : s.Falls (t.leavePair m) := by
  obtain ⟨hq, ho, hless⟩ := h
  obtain ⟨hq', ho', -, hless'⟩ := State.leavePair_of_quiet m hq
  exact ⟨hq', ho'.trans ho, fun j hj => hless j (hless' j hj)⟩

theorem State.Falls.leaveAll {t : State} (l : Tab Pair) (h : s.Falls t) :
    s.Falls (each l (fun e t => t.leavePair e.1) t) := by
  induction l generalizing t with
  | nil => exact h
  | cons e l ih => exact ih (h.leavePair e.1)

theorem State.leaveAll_down {t : State} {l : Tab Pair} {m : Nat} (h : t.Quiet)
    (hm : m ∈ l.map Prod.fst ∨ (t.pair m).up = false) : ((each l (fun e t => t.leavePair e.1) t).pair m).up = false := by
  induction l generalizing t with
  | nil => exact hm.resolve_left List.not_mem_nil
  | cons e l ih =>
    obtain ⟨hq, -, hdown, hless⟩ := State.leavePair_of_quiet e.1 h
    rw [List.map_cons, List.mem_cons] at hm
    refine ih hq ?_
    obtain (rfl | hl) | hup := hm
    · exact .inr hdown
    · exact .inl hl
    · exact .inr (Bool.eq_false_iff.mpr fun hy => absurd (hless m hy) (ne_true_of_eq_false hup))

/-- A fabric with nothing under way is left with every pair down. -/
theorem State.leaveFabric_of_quiet (h : s.Quiet) :
    s.leaveFabric.own = s.own ∧ ∀ m, (s.leaveFabric.pair m).up = false := by
  have hstart : s.Falls s := ⟨h, rfl, fun _ hj => hj⟩
  rw [State.leaveFabric_eq]
  have hfalls := hstart.leaveAll s.pairs
  obtain ⟨-, hown, hless⟩ := hfalls
  refine ⟨hown, fun m => Bool.eq_false_iff.mpr fun hup => ?_⟩
  have he : (m, s.pair m) ∈ s.pairs := by
    refine (tget_eq_or_mem Pair.reset s.pairs m).resolve_left fun h => ?_
    have hup' := hless m hup
    rw [pair, h] at hup'
    exact Bool.noConfusion hup'
  exact absurd hup (ne_true_of_eq_false (State.leaveAll_down h (.inl (List.mem_map_of_mem he))))

/-! ### PTP -/

/-- A message of another domain, on a port that is down or stands by, or with PTP off, is not taken. -/
theorem State.ptpOn_of_bad {p dom : Nat} (off : Int) (l : Bool) (hbad : s.portUp p = false ∨ s.ent 0x4300 3 = 0 ∨
    dom ≠ s.ent 0x4300 4 ∨ ∃ q, s.mgmt.ptpPort = some q ∧ q ≠ p) : s.ptpOn p dom off l = s := by
  unfold ptpOn
  split
  · rfl
  · next htaken =>
    simp only [Bool.or_eq_true, Bool.not_eq_true', decide_eq_true_eq, not_or] at htaken
    obtain ⟨⟨hup, hmode⟩, hdom⟩ := htaken
    obtain h | h | h | ⟨q, hq, hne⟩ := hbad
    · exact absurd h hup
    · exact absurd h hmode
    · exact absurd h hdom
    · dsimp only
      rw [if_neg (by simp [hq, hne]), if_neg (by simp [hq])]

/-- The module with PTP on port `p`. -/
def State.onPtp (s : State) (p : Nat) : State := { s with mgmt := { s.mgmt with ptpPort := some p } }

theorem State.ptpOn_of_good {p : Nat} (off : Int) (l : Bool) (hup : s.portUp p = true) (hmode : s.ent 0x4300 3 ≠ 0)
    (hport : s.mgmt.ptpPort = none ∨ s.mgmt.ptpPort = some p) :
    s.ptpOn p (s.ent 0x4300 4) off l = (s.onPtp p).ptp off l := by
  unfold ptpOn
  rw [if_neg (by simp [hup, hmode])]
  dsimp only
  have hsel : (if s.mgmt.ptpPort.isNone then s.onPtp p else s) = s.onPtp p := by
    obtain h | h := hport
    · exact if_pos (by simp [h])
    · rw [if_neg (by simp [h]), onPtp, ← h]
  change (if (if s.mgmt.ptpPort.isNone then s.onPtp p else s).mgmt.ptpPort = some p then
    (if s.mgmt.ptpPort.isNone then s.onPtp p else s).ptp off l else _) = _
  rw [hsel]
  exact if_pos rfl

/-- The measured offset is entered. -/
def State.ptpOffset (s : State) (off : Int) : State :=
  s.setEnt 0x4300 2 (ofSigned 32 (max (-(2 ^ 31)) (min (2 ^ 31 - 1) off)))

/-- The state of PTP is entered; a change raises its event. -/
def State.ptpState (s : State) (v : Nat) : State := if s.ent 0x4300 1 = v then s else s.setRaise 0x4300 1 v

theorem State.ptpState_ent (v : Nat) : (s.ptpState v).ent 0x4300 1 = v := by
  unfold ptpState
  split
  · next h => exact h
  · exact State.ent_setRaise_same _ _ _ _ (by decide)

theorem State.raise_ptpPort (i k c v : Nat) : (s.raise i k c v).mgmt.ptpPort = s.mgmt.ptpPort := by
  have hqueue : ∀ (r : EventRec) (d : Nat) (t : State), (t.queueEvent r d).mgmt.ptpPort = t.mgmt.ptpPort := by
    intro r d t
    unfold queueEvent
    dsimp only
    split
    · unfold incEnt
      split <;> rfl
    · split
      · rfl
      · unfold sendEvent
        split
        · rw [State.sendModule_mgmt]
        · rfl
  unfold raise
  dsimp only
  split
  · exact each_keeps (fun t => t.mgmt.ptpPort) _ (fun d t => hqueue _ d t) _ _
  · rfl

theorem State.ptpState_kept (v : Nat) : (s.ptpState v).todo = s.todo ∧ (s.ptpState v).pending = s.pending ∧
    (s.ptpState v).house = s.house ∧ (s.ptpState v).ctl = s.ctl ∧ (s.ptpState v).mgmt.ptpPort = s.mgmt.ptpPort := by
  unfold ptpState
  split
  · exact ⟨rfl, rfl, rfl, rfl, rfl⟩
  · exact ⟨by simp, by simp, by simp, by simp, State.raise_ptpPort ..⟩

theorem State.ptp_of_unlocked (off : Int) : s.ptp off false = (s.ptpOffset off).ptpState 2 := rfl

theorem State.ptp_of_behind {off : Int} (hfirst : s.ctl.ptpLocked = false) (hoff : off < 0) :
    s.ptp off true = (s.ptpOffset off).ptpState 4 := by
  unfold ptp
  dsimp only
  rw [if_neg (by simp), if_neg (by simp [hfirst]), if_pos hoff]
  rfl

/-- House time steps forward to PTP time at the first lock. -/
def State.ptpStep (s : State) (off : Int) : State :=
  let s := s.advance (s.house + off.toNat)
  { s with ctl := { s.ctl with
      ptpLocked := true, renumber := true, nextBound := (s.house / s.stepLen + 1) * s.stepLen, slewAt := s.house } }

theorem State.ptp_of_ahead {off : Int} (hfirst : s.ctl.ptpLocked = false) (hoff : 0 ≤ off) :
    s.ptp off true = ((s.ptpOffset off).ptpStep off).ptpState 3 := by
  unfold ptp
  dsimp only
  rw [if_neg (by simp), if_neg (by simp [hfirst]), if_neg (by omega)]
  rfl

theorem State.ptpStep_house {off : Int} (h : s.house + off.toNat < 2 ^ 64) : (s.ptpStep off).house = s.house + off.toNat :=
  (State.advance_house h).trans (by omega)

theorem State.ptp_of_locked (off : Int) (hlocked : s.ctl.ptpLocked = true) :
    s.ptp off true = ((s.ptpOffset off).slew off).ptpState 3 ∨
      ∃ v, s.ptp off true = (((s.ptpOffset off).slew off).ptpState 3).raise 0x4300 2 0 v := by
  unfold ptp
  dsimp only
  rw [if_neg (by simp), if_pos (by exact hlocked)]
  split
  · exact .inr ⟨_, rfl⟩
  · exact .inl rfl

theorem State.slew_house {off : Int} (h : s.house + (s.house - s.ctl.slewAt) / 10000 < 2 ^ 64) :
    (s.slew off).house = s.house + min off.toNat ((s.house - s.ctl.slewAt) / 10000) ∧
      (s.slew off).ctl.slewAt = (s.slew off).house := by
  refine ⟨(State.advance_house ?_).trans ?_, rfl⟩ <;> omega

theorem State.slew_kept (off : Int) : (s.slew off).todo = s.todo ∧ (s.slew off).pending = s.pending := by
  unfold slew
  exact ⟨State.advance_todo _ _, State.advance_pending _ _⟩

/-- What a measurement under a lock leaves. -/
theorem State.ptp_locked_kept {off : Int} (hlocked : s.ctl.ptpLocked = true)
    (hfits : s.house + (s.house - s.ctl.slewAt) / 10000 < 2 ^ 64) :
    (s.ptp off true).todo = s.todo ∧ (s.ptp off true).pending = s.pending ∧
      (s.ptp off true).house = s.house + min off.toNat ((s.house - s.ctl.slewAt) / 10000) ∧
      (s.ptp off true).ctl.slewAt = (s.ptp off true).house ∧ (s.ptp off true).ent 0x4300 1 = 3 := by
  obtain ⟨hhouse, hslew⟩ := State.slew_house (s := s.ptpOffset off) (off := off) hfits
  obtain ⟨stodo, spending⟩ := State.slew_kept (s := s.ptpOffset off) off
  obtain ⟨htodo, hpending, hsame, hctl, -⟩ := State.ptpState_kept (s := (s.ptpOffset off).slew off) 3
  have hent := State.ptpState_ent (s := (s.ptpOffset off).slew off) 3
  obtain heq | ⟨v, heq⟩ := State.ptp_of_locked off hlocked <;> rw [heq]
  · refine ⟨htodo.trans stodo, hpending.trans spending, hsame.trans hhouse, ?_, hent⟩
    rw [hctl, hslew, hsame]
  · rw [State.raise_todo, State.raise_pending, State.raise_house, State.raise_ctl, State.raise_ent _ _ _ _ _ _ _ (by decide)]
    refine ⟨htodo.trans stodo, hpending.trans spending, hsame.trans hhouse, ?_, hent⟩
    rw [hctl, hslew, hsame]

end

/-- Settles O43: what each access to another module, each message of membership and each PTP message comes to, branch by
branch; a module that leaves with nothing under way takes every pair down. -/
theorem remoteAccess : Obligations.RemoteAccess := by
  intro s hs hon
  refine ⟨?_, ?_, ?_, ?_, ?_, ?_, ?_, ?_, ?_, ?_, ?_, ?_, ?_⟩
  · intro k hk hbusy
    rw [exec_atomicGo, execAtomicGo]
    exact act_stays (decide_eq_true hk) (State.goAtomic_of_busy hbusy) hs
  · intro k hk hidle hbad
    rw [exec_atomicGo, execAtomicGo]
    exact act_keeps (decide_eq_true hk) (State.goAtomic_of_bad hon hidle hbad) ⟨rfl, rfl⟩ hs
  · intro k hk hidle hremote hop hown
    have heq := State.goAtomic_of_unnumbered hon hidle hremote hop hown
    rw [exec_atomicGo, execAtomicGo]
    refine act_exists (decide_eq_true hk) ?_ ?_ ?_ <;> rw [heq]
    · exact hs
    · rfl
    · constructor
      · rw [State.regF_setRegF_ne _ _ _ _ _ _ (by unfold paAtomic; omega)]
        exact State.regF_setRegF_same _ _ _ _ (by omega)
      · exact State.regF_setRegF_same _ _ _ _ (by omega)
  · intro core pa size hcore hpa hsize
    have hok : (decide (core < 96) && decide (pa < 2 ^ 56) && sizeOk size) = true := by
      simp only [hcore, hpa, hsize, decide_true, Bool.and_self]
    rw [exec_hostRemoteLoad, execHostRemoteLoad]
    refine ⟨fun hbad => act_keeps hok (State.coreRemoteLoad_of_bad core hon hbad) ⟨rfl, rfl⟩ hs, ?_⟩
    intro hremote hsz halign hperm hown haway hup hid
    have heq := State.coreRemoteLoad_of_up core hon hremote hsz halign hperm hown haway hup
    obtain ⟨htodo, hpending, hreads, hwait, hcores⟩ := State.coreReads_kept (s := s) core pa size
    exact ⟨s.coreReads core pa size, s.readPacket (coreRead pa), act_keeps hok heq ⟨htodo, hpending⟩ hs, hreads, hwait,
      rfl, rfl, rfl, State.readPacket_tag pa hid, hcores⟩
  · intro core pa size v hcore hpa hsize
    have hok : (decide (core < 96) && decide (pa < 2 ^ 56) && sizeOk size) = true := by
      simp only [hcore, hpa, hsize, decide_true, Bool.and_self]
    rw [exec_hostRemoteStore, execHostRemoteStore]
    refine ⟨fun hbad => act_keeps hok (State.coreRemoteStore_of_bad core v.toNat hon hbad) ⟨rfl, rfl⟩ hs, ?_⟩
    intro hremote hsz halign hpage hown haway hup
    have heq := State.coreRemoteStore_of_up (v := v.toNat) core hon hremote hsz halign hpage hown haway hup
    obtain ⟨htodo, hpending, hwait⟩ := State.coreWrites_kept (s := s) core pa v.toNat
    have hword : BitVec.ofNat 128 (v.toNat % 2 ^ 64) = v.setWidth 128 := by
      rw [Nat.mod_eq_of_lt v.isLt, BitVec.ofNat_toNat]
    exact ⟨s.coreWrites core pa v.toNat, s.storePacket pa v.toNat, act_keeps hok heq ⟨htodo, hpending⟩ hs, hwait,
      rfl, rfl, rfl, congrArg (fun w => [(w, 0#16)]) hword⟩
  · intro num ep nonce time sig hnum hkey hnonce htime
    have heq := State.takeAssign_of_good (ep := ep) sig hon hnum hkey hnonce htime
    rw [exec_assign, execAssign]
    refine act_exists rfl ?_ ?_ ?_ <;> rw [heq]
    · split
      · rw [State.setEnt_todo, State.setRaise_todo, hs]
      · exact hs
    · split <;> simp
    · refine ⟨?_, ?_, fun hgood => ?_, fun hbad => if_neg (by simp [hbad])⟩
      · split <;> simp
      · split <;> simp
      · rw [if_pos hgood]
        refine ⟨?_, State.ent_setEnt_same ..⟩
        rw [State.own, State.ent_setEnt_ne _ _ _ _ _ _ (by decide), State.ent_setRaise_same _ _ _ _ (by decide)]
  · intro num ep nonce time sig hbad
    rw [exec_assign, execAssign]
    exact act_stays rfl (State.takeAssign_of_bad hbad) hs
  · intro ep cs time sig hkey htime
    rw [exec_member, execMember]
    exact act_gives_of rfl (State.takeMember_of_good cs sig hon hkey htime)
  · intro ep cs time sig hbad
    rw [exec_member, execMember]
    exact act_stays rfl (State.takeMember_of_bad cs sig hbad) hs
  · exact fun c hnum hjoin => State.applyChange_of_join hnum hjoin
  · intro c hown hnum hleave hpairs hreads hmanager
    obtain ⟨-, kreads, -, kent⟩ :=
      State.setModWord_kept (s := s.unaddress c.num) (putFld (s.modWord c.num) 63 62 2) hnum
    have hkept : ((s.unmember c.num).setRaise 0x4010 2 0xFFFF).pairs = s.pairs :=
      (State.setRaise_pairs (by decide) (fun h => hmanager (kent.symm.trans h))).trans (State.setModWord_pairs _ hnum hmanager)
    have hquiet : ((s.unmember c.num).setRaise 0x4010 2 0xFFFF).Quiet :=
      State.quiet_of_entries (by rwa [hkept]) ((State.setRaise_reads ..).trans (kreads.trans hreads))
    obtain ⟨hfree, hdown⟩ := State.leaveFabric_of_quiet hquiet
    rw [State.applyChange_of_leave hnum hleave hown]
    refine ⟨hfree.trans ?_, fun e _ => hdown e.1⟩
    exact State.ent_setRaise_same _ _ _ _ (by decide)
  · intro p dom off l hp hbad
    rw [exec_ptpMessage, execPtpMessage]
    exact act_stays (decide_eq_true hp) (State.ptpOn_of_bad off l hbad) hs
  · intro p off hp hup hmode hport
    have hok : decide (p < 3) = true := decide_eq_true hp
    have heq : ∀ l, s.ptpOn p (s.ent 0x4300 4) off l = (s.onPtp p).ptp off l := fun l =>
      State.ptpOn_of_good off l hup hmode hport
    simp only [exec_ptpMessage, execPtpMessage]
    refine ⟨?_, fun hfirst hoff hfits => ?_, fun hfirst hoff => ?_, fun hlocked hfits => ?_⟩
    · obtain ⟨htodo, hpending, hhouse, -, hsel⟩ := State.ptpState_kept (s := (s.onPtp p).ptpOffset off) 2
      refine act_exists hok ?_ ?_ ?_ <;> rw [heq, State.ptp_of_unlocked]
      · exact htodo.trans hs
      · exact hpending
      · exact ⟨State.ptpState_ent 2, hsel, hhouse⟩
    · obtain ⟨htodo, hpending, hhouse, hctl, -⟩ := State.ptpState_kept (s := ((s.onPtp p).ptpOffset off).ptpStep off) 3
      refine act_exists hok ?_ ?_ ?_ <;> rw [heq, State.ptp_of_ahead (s := s.onPtp p) hfirst hoff]
      · exact htodo.trans ((State.advance_todo _ _).trans hs)
      · exact hpending.trans (State.advance_pending _ _)
      · refine ⟨hhouse.trans (State.ptpStep_house hfits), ?_, ?_, State.ptpState_ent 3⟩
        · rw [hctl]
          rfl
        · rw [hctl]
          rfl
    · obtain ⟨htodo, hpending, hhouse, hctl, -⟩ := State.ptpState_kept (s := (s.onPtp p).ptpOffset off) 4
      refine act_exists hok ?_ ?_ ?_ <;> rw [heq, State.ptp_of_behind (s := s.onPtp p) hfirst hoff]
      · exact htodo.trans hs
      · exact hpending
      · exact ⟨hhouse, hctl, State.ptpState_ent 4⟩
    · obtain ⟨htodo, hpending, hhouse, hslew, hent⟩ := State.ptp_locked_kept (s := s.onPtp p) (off := off) hlocked hfits
      refine act_exists hok ?_ ?_ ?_ <;> rw [heq]
      · exact htodo.trans hs
      · exact hpending
      · exact ⟨hhouse, hslew, hent⟩

end Sys2Proof.Machine
end


section
/-! PROOFS. What goes out on a wire: the header's code, the packet sent and its frame, masks of small numbers (R311 to R313). -/

namespace Sys2Proof.Machine

/-! ### Bytes and masks -/

theorem drop_toBytes (n m x : Nat) : (toBytes (n + m) x).drop n = toBytes m (x / 256 ^ n) := by
  induction n generalizing x with
  | zero => simp
  | succ n ih =>
    rw [show n + 1 + m = n + m + 1 by omega, toBytes, List.drop_succ_cons, ih, Nat.div_div_eq_div_mul, Nat.pow_succ']

theorem testBit_foldl_or (l : List Nat) (a i : Nat) :
    (l.foldl (fun m i => m ||| 2 ^ i) a).testBit i = (a.testBit i || decide (i ∈ l)) := by
  induction l generalizing a with
  | nil => simp
  | cons j l ih =>
    rw [List.foldl_cons, ih, Nat.testBit_or, Nat.testBit_two_pow, Bool.or_assoc]
    congr 1
    simp only [List.mem_cons, Bool.decide_or, eq_comm]

/-- A bit of a mask is set where its number is among those the mask is of. -/
theorem bitOf_maskOf (l : List Nat) (i : Nat) : bitOf (maskOf l) i = decide (i ∈ l) := by
  rw [bitOf_eq_testBit, maskOf, testBit_foldl_or, Nat.zero_testBit, Bool.false_or]

theorem maskOf_lt {l : List Nat} {n : Nat} (h : ∀ i ∈ l, i < n) : maskOf l < 2 ^ n := by
  refine Nat.lt_pow_two_of_testBit _ fun i hi => ?_
  rw [← bitOf_eq_testBit, bitOf_maskOf, decide_eq_false_iff_not]
  exact fun hmem => absurd (h i hmem) (by omega)

/-! ### The header's code -/

/-- The first 24 bytes of a header. -/
def headerFront (k : Packet) : Bytes := ((headerWords k).take 3).flatMap fun x => toBytes 8 x

theorem headerBytes_eq (k : Packet) :
    headerBytes k = headerFront k ++ toBytes 8 (fld k.rsv.toNat 41 10 * 2 ^ 32 + k.hcrc.toNat) := by
  simp only [headerBytes, headerFront, headerWords, List.take_succ_cons, List.take_zero, List.flatMap_cons, List.flatMap_nil,
    List.append_nil, List.append_assoc]

theorem length_headerFront (k : Packet) : (headerFront k).length = 24 := by
  simp only [headerFront, headerWords, List.take_succ_cons, List.take_zero, List.flatMap_cons, List.flatMap_nil,
    List.length_append, length_toBytes, List.length_nil]

/-- HCRC covers the header's bytes without its own. -/
theorem headerCrc_eq (k : Packet) :
    headerCrc k = BitVec.ofNat 32 (crc32c (headerFront k ++ toBytes 4 (fld k.rsv.toNat 41 10))) := by
  have hlast : (fld k.rsv.toNat 41 10 * 2 ^ 32 + k.hcrc.toNat) / 256 ^ 4 = fld k.rsv.toNat 41 10 := by
    have := k.hcrc.isLt
    omega
  unfold headerCrc
  dsimp only
  rw [headerBytes_eq, List.take_left' (length_headerFront k), show (28 : Nat) = 24 + 4 from rfl, ← List.drop_drop,
    List.drop_left' (length_headerFront k), drop_toBytes 4 4, hlast]

theorem headerCrc_hcrc (k : Packet) (c : BitVec 32) : headerCrc { k with hcrc := c } = headerCrc k := by
  simp only [headerCrc_eq, headerFront, headerWords, List.take_succ_cons, List.take_zero]

/-- A code that does not depend on its own field is right after it is entered, once or twice. -/
theorem entered_code {h : Packet → BitVec 32} (hh : ∀ k c, h { k with hcrc := c } = h k) (k : Packet) :
    ({ ({ k with hcrc := h k } : Packet) with hcrc := h { k with hcrc := h k } } : Packet) = { k with hcrc := h k } ∧
      ({ k with hcrc := h k } : Packet).hcrc = h { k with hcrc := h k } := by
  exact ⟨congrArg (fun c => ({ k with hcrc := c } : Packet)) (hh k _), (hh k _).symm⟩

theorem sealPacket_seal (k : Packet) : sealPacket (sealPacket k) = sealPacket k := (entered_code headerCrc_hcrc k).1

theorem hcrc_sealPacket (k : Packet) : (sealPacket k).hcrc = headerCrc (sealPacket k) := (entered_code headerCrc_hcrc k).2

/-! ### A packet goes out -/

/-- How port `q` puts out the sealed packet `k`. -/
def State.wire (s : State) (q : Nat) (k : Packet) : Out :=
  if s.ent 0x4001 (q + 1) = 3 then .frame q (s.frameOf q (some (s.modKey k.dst)) k) k else .packet (some q) k

theorem State.sendPacket_eq (s : State) (q : Nat) (k : Packet) : s.sendPacket q k = s.emit (s.wire q (sealPacket k)) := rfl

/-- The port's mode, the addresses and the keys are all that the wire depends on. -/
theorem State.wire_congr {s t : State} {q : Nat} (k : Packet) (hmode : t.ent 0x4001 (q + 1) = s.ent 0x4001 (q + 1))
    (hudp : t.ent 0x4010 5 = s.ent 0x4010 5) (hvlan : t.ent 0x4010 6 = s.ent 0x4010 6) (hblobs : t.blobs = s.blobs)
    (hporch : t.porch = s.porch) : t.wire q k = s.wire q k := by
  unfold wire frameOf modKey blob linkLocal idKey deed
  simp only [hmode, hudp, hvlan, hblobs, hporch]

theorem State.bestPort_lt {s : State} {q : Nat} (h : s.bestPort = some q) : q < 3 := by
  have hall : ∀ (l : List Nat) (m : Option Nat), (∀ p ∈ l, p < 3) → (∀ p, m = some p → p < 3) → ∀ p,
      l.foldl (fun (m : Option Nat) p => match m with
        | none => some p
        | some o => if s.portLoad p < s.portLoad o then some p else some o) m = some p → p < 3 := by
    intro l
    induction l with
    | nil => exact fun m _ hm => hm
    | cons x l ih =>
      intro m hl hm
      obtain ⟨hx, hl⟩ := List.forall_mem_cons.1 hl
      refine ih _ hl fun p hp => ?_
      cases m with
      | none =>
        cases hp
        exact hx
      | some o =>
        dsimp only at hp
        split at hp
        · cases hp
          exact hx
        · cases hp
          exact hm _ rfl
  refine hall _ none (fun p hp => ?_) (fun p hp => nomatch hp) q h
  exact List.mem_range.mp (List.mem_filter.mp hp).1

end Sys2Proof.Machine
end


section
/-! PROOFS. The pairs of modules: operations accepted, acknowledged, sent again and given up, and pairs opened (R318 to R320,
R324, R327). -/

namespace Sys2Proof.Machine

section
variable {s : State} {m : Nat}

/-- The fields of a packet beside its code, in a tuple. -/
def besideCode (k : Packet) := (k.op, k.dst, k.src, k.seq, k.gen, k.cisop, k.words)

theorem besideCode_with_hcrc (k : Packet) (c : BitVec 32) : besideCode { k with hcrc := c } = besideCode k ∧
    ({ k with hcrc := c } : Packet) = { k with hcrc := ({ k with hcrc := c } : Packet).hcrc } := ⟨rfl, rfl⟩

/-- Sealing enters the code and nothing else. -/
theorem sealPacket_keeps (k : Packet) : besideCode (sealPacket k) = besideCode k := (besideCode_with_hcrc k (headerCrc k)).1

theorem sealPacket_eq (k : Packet) : sealPacket k = { k with hcrc := (sealPacket k).hcrc } :=
  (besideCode_with_hcrc k (headerCrc k)).2

theorem State.wire_setPair (p : Pair) (q : Nat) (k : Packet) : (s.setPair m p).wire q k = s.wire q k :=
  State.wire_congr k rfl rfl rfl rfl rfl

/-! ### Operations are accepted -/

/-- The packet of an accepted operation. -/
def State.acceptedPacket (s : State) (m : Nat) (k : Packet) : Packet :=
  sealPacket { k with seq := (s.pair m).nextSeq, gen := (s.pair m).gen, src := s.own }

/-- The pair with an operation accepted. -/
def State.acceptedPair (s : State) (m : Nat) (k : Packet) (i : Issuer) (rest : List (Packet × Issuer)) (q : Nat) : Pair :=
  { s.pair m with
    waiting := rest
    nextSeq := ((s.pair m).nextSeq + 1) % 2 ^ 32
    tx := (s.pair m).tx ++ [⟨s.acceptedPacket m k, some q, 0, i, false⟩]
    issued := (s.pair m).issued + 1 }

theorem State.acceptOp_eq (k : Packet) (i : Issuer) (rest : List (Packet × Issuer)) (q : Nat) :
    s.acceptOp m k i rest q =
      (s.setPair m (s.acceptedPair m k i rest q)).sendPacket q (s.acceptedPacket m k) := rfl

theorem State.acceptOp_out (k : Packet) (i : Issuer) (rest : List (Packet × Issuer)) (q : Nat) :
    (s.acceptOp m k i rest q).out = s.wire q (s.acceptedPacket m k) :: s.out := by
  rw [State.acceptOp_eq, State.sendPacket_eq, acceptedPacket, sealPacket_seal, State.wire_setPair]
  rfl

theorem State.acceptOp_pair (k : Packet) (i : Issuer) (rest : List (Packet × Issuer)) (q : Nat) :
    (s.acceptOp m k i rest q).pair m = s.acceptedPair m k i rest q :=
  (State.pair_setPair ..).trans (if_pos rfl)

theorem State.issueRemote_of_none (hport : s.bestPort = none) : s.issueRemote m = s := by
  unfold issueRemote
  rw [hport]
  dsimp only
  split
  · next heq => exact nomatch heq
  · rfl

theorem State.issueRemote_of_room {k : Packet} {i : Issuer} {rest : List (Packet × Issuer)} {q : Nat}
    (hwait : (s.pair m).waiting = (k, i) :: rest) (hport : s.bestPort = some q) (hup : (s.pair m).up = true)
    (hown : s.own ≠ 0xFFFF) (haway : m ≠ s.own) (htx : (s.pair m).tx = []) (hwindow : linkBytes k ≤ s.pairWindow m)
    (hbuffer : unacked (s.pairs.flatMap fun e => e.2.tx) + linkBytes k ≤ 12 * 2 ^ 20) :
    s.issueRemote m = (if sendIsAll k i then (s.acceptOp m k i rest q).remoteDone i
      else s.acceptOp m k i rest q).endFences := by
  have hnone : unacked (s.pair m).tx = 0 := by
    rw [htx]
    rfl
  unfold issueRemote
  dsimp only
  rw [hwait, hport]
  dsimp only
  rw [if_neg]
  rw [hnone]
  simp only [hup, hown, haway, Bool.not_true, Bool.false_eq_true, false_or]
  omega

/-! ### Acknowledgements -/

/-- The number that pair `p` awaits next. -/
def Pair.awaits (p : Pair) : Nat :=
  (p.rxSeq + ((List.range (p.rx.length + 1)).find? fun i => !(p.rx.any fun e => e.1 = (p.rxSeq + i) % 2 ^ 32)).getD 0) % 2 ^ 32

/-- The word of an acknowledgement: what has come beyond the awaited number, what is performed, and the flags. -/
def Pair.ackWord (p : Pair) : Nat :=
  maskOf ((List.range 64).filter fun i => p.rx.any fun e => e.1 = (p.awaits + i) % 2 ^ 32) +
    (p.performed + 2 ^ 32 - 1) % 2 ^ 32 * 2 ^ 64 + p.flags.toNat * 2 ^ 96

/-- The acknowledgement that module `m` is sent. -/
def State.ackPacket (s : State) (m : Nat) : Packet :=
  { basePacket 8 m 0 with
    src := s.own, seq := (s.pair m).awaits, gen := (s.pair m).gen, cisop := (s.pair m).flags
    words := [(BitVec.ofNat 128 (s.pair m).ackWord, 0)] }

theorem Pair.awaits_of_empty {p : Pair} (h : p.rx = []) : p.awaits = p.rxSeq % 2 ^ 32 := by
  simp [awaits, h]

theorem Pair.ackWord_mask_lt (p : Pair) :
    maskOf ((List.range 64).filter fun i => p.rx.any fun e => e.1 = (p.awaits + i) % 2 ^ 32) < 2 ^ 64 :=
  maskOf_lt fun _ hi => List.mem_range.mp (List.mem_filter.mp hi).1

theorem Pair.ackWord_lt (p : Pair) : p.ackWord < 2 ^ 128 := by
  have hmask := p.ackWord_mask_lt
  have hflags := p.flags.isLt
  unfold ackWord
  omega

theorem Pair.ackWord_performed (p : Pair) : fld p.ackWord 95 64 = (p.performed + 2 ^ 32 - 1) % 2 ^ 32 := by
  have hmask := p.ackWord_mask_lt
  unfold ackWord fld
  omega

theorem Pair.ackWord_bit (p : Pair) {i : Nat} (hi : i < 64) :
    bitOf p.ackWord i = p.rx.any fun e => decide (e.1 = (p.awaits + i) % 2 ^ 32) := by
  have hlow : p.ackWord = maskOf ((List.range 64).filter fun i => p.rx.any fun e => e.1 = (p.awaits + i) % 2 ^ 32) +
      2 ^ 64 * ((p.performed + 2 ^ 32 - 1) % 2 ^ 32 + p.flags.toNat * 2 ^ 32) := by
    unfold ackWord
    omega
  rw [bitOf_eq_testBit, hlow, Nat.add_comm, Nat.testBit_two_pow_mul_add _ p.ackWord_mask_lt, if_pos hi, ← bitOf_eq_testBit,
    bitOf_maskOf]
  simp only [List.mem_filter, List.mem_range, hi, true_and, Bool.decide_eq_true]

theorem State.sendAck_of_quiet (h : s.bestPort = none ∨ (s.pair m).ackDue = false) : s.sendAck m = s := by
  unfold sendAck
  obtain h | h := h
  · rw [h]
  · split
    · rfl
    · exact if_pos (by simp [h])

theorem State.sendAck_of_due {q : Nat} (hport : s.bestPort = some q) (hdue : (s.pair m).ackDue = true)
    (hup : (s.pair m).up = true) :
    s.sendAck m = (s.setPair m { s.pair m with ackDue := false, flags := 0 }).sendPacket q (s.ackPacket m) := by
  unfold sendAck
  rw [hport]
  dsimp only
  exact (if_neg (by simp [hdue, hup])).trans rfl

/-! ### Packets are sent again -/

theorem State.resend_of_found {seq : Nat} {o : TxOp} {q : Nat}
    (hfind : (s.pair m).tx.find? (fun o => decide (o.pkt.seq = seq) && o.port.isSome) = some o) (hport : s.bestPort = some q)
    (hown : s.own ≠ 0xFFFF) :
    s.resend m seq = if 7 ≤ o.tries then (s.retransmit m o).failPair m else s.retransmit m o := by
  unfold resend
  rw [hfind]
  dsimp only
  rw [if_neg (by simp [hown, hport])]

/-- A pair with operation `o` sent again on port `q`. -/
def State.resentPair (s : State) (m : Nat) (o : TxOp) (q : Nat) : Pair :=
  { s.pair m with tx := (s.pair m).tx.map fun x =>
      if x.pkt.seq = o.pkt.seq then { x with tries := x.tries + 1, port := some q } else x }

theorem State.retransmit_of_port {o : TxOp} {q : Nat} (hport : s.bestPort = some q) :
    s.retransmit m o = ((s.setPair m (s.resentPair m o q)).incEnt 0x4003 (q + 1) 1).sendPacket q o.pkt := by
  unfold retransmit
  rw [hport]
  rfl

theorem State.ent_incEnt_ne {i k j l : Nat} (n : Nat) (h : dictKey j l ≠ dictKey i k) : (s.incEnt i k n).ent j l = s.ent j l := by
  unfold incEnt
  split
  · exact State.ent_setEnt_ne _ _ _ _ _ _ h
  · rfl

theorem State.retransmit_out {o : TxOp} {q : Nat} (hport : s.bestPort = some q) :
    (s.retransmit m o).out = s.wire q (sealPacket o.pkt) :: s.out := by
  have hq := State.bestPort_lt hport
  rw [State.retransmit_of_port hport, State.sendPacket_eq,
    State.wire_congr (s := s.setPair m (s.resentPair m o q)) (sealPacket o.pkt) (State.ent_incEnt_ne _ (by unfold dictKey; omega))
      (State.ent_incEnt_ne _ (by unfold dictKey; omega)) (State.ent_incEnt_ne _ (by unfold dictKey; omega))
      (State.incEnt_blobs ..) (State.incEnt_porch ..), State.wire_setPair]
  exact congrArg _ (State.incEnt_out ..)

/-! ### Pairs are given up -/

theorem State.failPair_of_down (hup : (s.pair m).up = false) (hopening : (s.pair m).opening = false)
    (hwait : (s.pair m).waiting = []) : s.failPair m = s :=
  if_pos (by simp [hup, hopening, hwait])

theorem State.endFences_of_none (h : s.later.contains .fence = false) : s.endFences = s :=
  if_neg (by simp only [h, Bool.false_and, Bool.false_eq_true, not_false_eq_true])

theorem State.with_same_reads (h : s.reads = []) : ({ s with reads := [] } : State) = s := by
  rw [← h]

/-- An established pair with nothing sent and nothing asked only goes down. -/
theorem State.failPair_of_idle (hup : (s.pair m).up = true) (htx : (s.pair m).tx = []) (hreads : s.reads = [])
    (hfence : s.later.contains .fence = false) :
    s.failPair m = (s.incEnt 0x4007 1 1).setPair m { s.pair m with up := false, opening := false, failed := true } := by
  unfold failPair
  dsimp only
  rw [if_neg (by simp [hup])]
  simp only [hup, htx, hreads, if_true, List.filter_nil, List.map_nil, ownersOf, List.filterMap_nil, List.append_nil,
    List.nil_append, each_nil, State.setPair_reads, State.incEnt_reads]
  rw [State.with_same_reads ((State.setPair_reads ..).trans ((State.incEnt_reads ..).trans hreads)),
    State.endFences_of_none (by rwa [State.setPair_later, State.incEnt_later])]

theorem State.reopen_of_failed (hfailed : (s.pair m).failed = true) (hopening : (s.pair m).opening = false)
    (hmember : s.member m = true) (hown : s.own ≠ 0xFFFF) (hdone : ∀ x ∈ (s.pair m).owed, s.cmd x.1 x.2 = none) :
    s.reopen m = (s.setPair m { s.pair m with owed := [] }).openPair m := by
  unfold reopen
  refine if_pos ?_
  simp only [hfailed, hopening, hmember, hown, Bool.not_false, Bool.and_true, Bool.true_and, ne_eq, not_false_eq_true,
    decide_true, List.all_eq_true]
  exact fun x hx => by rw [hdone x hx]; rfl

theorem State.reopen_of_owed (h : (s.pair m).failed = false ∨ ∃ x ∈ (s.pair m).owed, (s.cmd x.1 x.2).isSome = true) :
    s.reopen m = s := by
  unfold reopen
  refine if_neg fun hall => ?_
  simp only [Bool.and_eq_true, List.all_eq_true] at hall
  obtain ⟨⟨⟨⟨hfailed, -⟩, -⟩, -⟩, hdone⟩ := hall
  obtain h | ⟨x, hx, hsome⟩ := h
  · simp [h] at hfailed
  · have hnone := hdone x hx
    rw [Option.isNone_iff_eq_none] at hnone
    simp [hnone] at hsome

/-! ### Pairs are opened -/

theorem State.openPair_kept : (s.openPair m).pair m =
    { s.pair m with failed := false, opening := true, nonce := BitVec.ofNat 128 s.freeVal } :=
  (State.pair_setPair ..).trans (if_pos rfl)

theorem State.takePairOpen_of_stranger {h sig : Bytes} (g : Nat) (n : BitVec 128)
    (hbad : s.member m = false ∨ h ≠ Config.sha512 (s.modKey m)) : s.takePairOpen m h g n sig = s := by
  unfold takePairOpen
  refine if_neg fun hall => ?_
  simp only [Bool.and_eq_true, decide_eq_true_eq] at hall
  obtain ⟨⟨⟨-, hmember⟩, hkey⟩, -⟩ := hall
  obtain hb | hb := hbad
  · simp [hb] at hmember
  · exact hb hkey

/-- The nonces of an answer to a PAIR_OPEN: the one that came, and one of the module's own. -/
def State.answerNonces (s : State) (n : BitVec 128) : Bytes := toBytes 16 n.toNat ++ toBytes 16 (BitVec.ofNat 128 s.freeVal).toNat

theorem State.takePairOpen_of_member {h sig : Bytes} (g : Nat) (n : BitVec 128) (hon : s.on = true) (hown : s.own ≠ 0xFFFF)
    (hmember : s.member m = true) (htx : (s.pair m).tx = []) (hkey : h = Config.sha512 (s.modKey m)) :
    s.takePairOpen m h g n sig =
      if Config.ed25519 (s.modKey m) (pairOpenBytes m h g n) sig then
        (s.drawFree.startPair m g).emit (.pairAccept m g (s.answerNonces n) (Config.idSign (pairAcceptBytes g (s.answerNonces n))))
      else s := by
  unfold takePairOpen
  simp only [hon, hown, hmember, hkey, htx, ne_eq, not_true_eq_false, not_false_eq_true, decide_true, Bool.true_and, if_false]
  rfl

theorem State.startPair_todo (g : Nat) : (s.startPair m g).todo = s.todo ∧ (s.startPair m g).pending = s.pending := by
  unfold startPair setModWord
  dsimp only
  split
  · exact ⟨rfl, rfl⟩
  · exact ⟨State.setRaise_todo .., State.setRaise_pending ..⟩

/-- The pair with module `m` as it is started. -/
def State.startedPair (s : State) (m g : Nat) : Pair :=
  { Pair.reset with up := true, gen := g, waiting := (s.pair m).waiting, key := s.modKey m, owed := (s.pair m).owed }

/-- Starting a pair puts its record down, where events go to no manager. -/
theorem State.startPair_pair (g : Nat) (hm : m < 4096) (hmanager : s.ent 0x4420 3 ≠ 1) :
    (s.startPair m g).pair m = s.startedPair m g :=
  (State.pair_of_pairs (State.setModWord_pairs (s := s.setPair m (s.startedPair m g)) _ hm hmanager) m).trans
    ((State.pair_setPair ..).trans (if_pos rfl))

theorem State.takePairAccept_of_stranger {g : Nat} {n : Bytes} (sig : Bytes)
    (hbad : (s.pair m).opening = false ∨ g ≠ ((s.pair m).gen + 1) % 2 ^ 16 ∨ n.take 16 ≠ toBytes 16 (s.pair m).nonce.toNat) :
    s.takePairAccept m g n sig = s := by
  unfold takePairAccept
  refine if_neg fun hall => ?_
  simp only [Bool.and_eq_true, decide_eq_true_eq] at hall
  obtain ⟨⟨⟨⟨⟨-, hopening⟩, -⟩, hgen⟩, hnonce⟩, -⟩ := hall
  obtain hb | hb | hb := hbad
  · simp [hb] at hopening
  · exact hb hgen
  · exact hb hnonce

theorem State.takePairAccept_of_sought {g : Nat} {n : Bytes} (sig : Bytes) (hon : s.on = true)
    (hopening : (s.pair m).opening = true) (hmember : s.member m = true) (hgen : g = ((s.pair m).gen + 1) % 2 ^ 16)
    (hnonce : n.take 16 = toBytes 16 (s.pair m).nonce.toNat) :
    s.takePairAccept m g n sig =
      if Config.ed25519 (s.modKey m) (pairAcceptBytes g n) sig = true then s.startPair m g else s := by
  unfold takePairAccept
  simp only [hon, hopening, hmember, ← hgen, hnonce, decide_true, Bool.true_and]

end

/-- Settles O42: what each step of a pair does to its record, the packet that goes out, and its acknowledgement's word. -/
theorem gloingPairs : Obligations.GloingPairs := by
  intro s m sent hs hm hsent
  have hok : decide (m < 4096) = true := decide_eq_true hm
  have hwire : ∀ q k, sent q k = s.wire q k := hsent
  refine ⟨?_, ?_, ?_, ?_, ?_, ?_, ?_, ?_, ?_, ?_, ?_, ?_, ?_, ?_, ?_, ?_, ?_⟩
  · intro hport
    rw [exec_remoteOpIssue, execRemoteOpIssue, exec_ackSend, execAckSend]
    exact ⟨act_stays hok (State.issueRemote_of_none hport) hs, act_stays hok (State.sendAck_of_quiet (.inl hport)) hs⟩
  · intro k i rest q hwait hport hup hown haway htx hwindow hbuffer
    have heq := State.issueRemote_of_room hwait hport hup hown haway htx hwindow hbuffer
    rw [exec_remoteOpIssue, execRemoteOpIssue]
    refine ⟨fun hall => act_gives_of hok ?_, fun hall => act_gives_of hok ?_, s.acceptedPacket m k, ?_, ?_,
      sealPacket_eq _, ?_, ?_, ?_⟩
    · rw [heq, if_neg (by simp [hall])]
    · rw [heq, if_pos hall]
    · rw [State.acceptOp_out, hwire]
    · exact hcrc_sealPacket _
    · rw [State.acceptOp_pair]
      rfl
    · rw [State.acceptOp_pair]
      rfl
    · rw [State.acceptOp_pair, State.acceptedPair, htx]
      rfl
  · intro q hport hdue hup
    have heq := State.sendAck_of_due hport hdue hup
    rw [exec_ackSend, execAckSend]
    have hfields := sealPacket_keeps (s.ackPacket m)
    simp only [besideCode, Prod.mk.injEq] at hfields
    obtain ⟨hop, hdst, hsrc, hseq, hgen, hcisop, hwords⟩ := hfields
    have hout : ((s.setPair m { s.pair m with ackDue := false, flags := 0 }).sendPacket q (s.ackPacket m)).out =
        sent q (sealPacket (s.ackPacket m)) :: s.out := by
      rw [State.sendPacket_eq, State.wire_setPair, hwire]
      rfl
    refine ⟨_, sealPacket (s.ackPacket m), BitVec.ofNat 128 (s.pair m).ackWord, act_keeps hok heq ⟨rfl, rfl⟩ hs, hout, hop,
      hdst, hsrc, hgen, hcisop, hwords, ?_, fun hrx => ?_, fun i hi => ?_, ?_, rfl⟩
    · rw [toNat_ofNat_of_lt (s.pair m).ackWord_lt, Pair.ackWord_performed]
    · exact hseq.trans ((s.pair m).awaits_of_empty hrx)
    · rw [toNat_ofNat_of_lt (s.pair m).ackWord_lt, Pair.ackWord_bit _ hi, hseq]
      rfl
    · exact (State.pair_setPair ..).trans (if_pos rfl)
  · intro hdue
    rw [exec_ackSend, execAckSend]
    exact act_stays hok (State.sendAck_of_quiet (.inr hdue)) hs
  · intro seq o q hfind hport hown
    have heq := State.resend_of_found hfind hport hown
    have hseq : o.pkt.seq = seq := by
      have := List.find?_some hfind
      simp only [Bool.and_eq_true, decide_eq_true_eq] at this
      exact this.1
    rw [exec_retransmitTimeout, execRetransmitTimeout]
    refine ⟨fun htries => ?_, fun htries => act_gives_of hok (by rw [heq, if_pos htries])⟩
    rw [if_neg (by omega)] at heq
    have hshape := State.retransmit_of_port (s := s) (m := m) (o := o) hport
    refine act_exists hok ?_ ?_ ?_ <;> rw [heq]
    · rw [hshape]
      exact (State.incEnt_todo ..).trans hs
    · rw [hshape]
      exact State.incEnt_pending ..
    · refine ⟨by rw [State.retransmit_out hport, hwire], ?_⟩
      rw [hshape]
      refine ⟨State.incEnt_od_congr (s := s) (t := s.setPair m (s.resentPair m o q)) rfl .., State.incEnt_mem ..,
        State.incEnt_regs .., ?_⟩
      have hpair : (((s.setPair m (s.resentPair m o q)).incEnt 0x4003 (q + 1) 1).sendPacket q o.pkt).pair m = s.resentPair m o q :=
        (State.pair_of_pairs (State.incEnt_pairs ..) m).trans ((State.pair_setPair ..).trans (if_pos rfl))
      rw [hpair]
      intro x hx hxseq
      obtain ⟨y, -, rfl⟩ := List.mem_map.mp hx
      by_cases heq : y.pkt.seq = o.pkt.seq
      · rw [if_pos heq]
      · rw [if_neg heq] at hxseq
        exact absurd (hxseq.trans hseq.symm) heq
  · intro haway hwork
    rw [exec_pairProgressTimeout, execPairProgressTimeout]
    exact act_gives_of hok (if_pos (by simpa [haway] using hwork))
  · intro htx hwait
    rw [exec_pairProgressTimeout, execPairProgressTimeout]
    exact act_stays hok (if_neg (by simp [htx, hwait])) hs
  · exact fun hup hopening hwait => State.failPair_of_down hup hopening hwait
  · exact fun hup htx hreads hfence => State.failPair_of_idle hup htx hreads hfence
  · rw [exec_windowRestore, execWindowRestore]
    exact act_keeps hok rfl ⟨rfl, rfl⟩ hs
  · intro hfailed hopening hmember hown hdone
    rw [exec_pairReestablish, execPairReestablish]
    exact act_gives_of hok (State.reopen_of_failed hfailed hopening hmember hown hdone)
  · intro x n hn hx
    subst hn hx
    exact ⟨rfl, State.openPair_kept, rfl⟩
  · intro hbad
    rw [exec_pairReestablish, execPairReestablish]
    exact act_stays hok (State.reopen_of_owed hbad) hs
  · intro h g n sig hbad
    rw [exec_pairOpen, execPairOpen]
    exact act_stays hok (State.takePairOpen_of_stranger g n hbad) hs
  · intro h g n sig hon hown hmember htx hmanager hkey
    have heq := State.takePairOpen_of_member (sig := sig) g n hon hown hmember htx hkey
    obtain ⟨htodo, hpending⟩ := State.startPair_todo (s := s.drawFree) (m := m) g
    rw [exec_pairOpen, execPairOpen]
    refine act_exists hok ?_ ?_ ?_ <;> rw [heq]
    · split
      · exact htodo.trans hs
      · exact hs
    · split
      · exact hpending
      · rfl
    · refine ⟨fun hbad => if_neg (by simp [hbad]), fun hgood => ?_⟩
      rw [if_pos hgood]
      refine ⟨fun ns hns => hns ▸ List.mem_cons_self, ?_⟩
      exact State.startPair_pair (s := s.drawFree) g hm hmanager
  · intro g n sig hbad
    rw [exec_pairAccept, execPairAccept]
    exact act_stays hok (State.takePairAccept_of_stranger sig hbad) hs
  · intro g n sig hon hopening hmember hgen hnonce
    rw [exec_pairAccept, execPairAccept]
    exact act_gives_of hok (State.takePairAccept_of_sought sig hon hopening hmember hgen hnonce)

end Sys2Proof.Machine
end


section
/-! PROOFS. Packets that arrive: kept, performed in their order, refused; acknowledgements, refusals and HELLOs (R312 to R315,
R319, R320, R324). -/

namespace Sys2Proof.Machine

section
variable {s : State} {p m : Nat} {k : Packet}

/-! ### What a port discards -/

theorem badHeader_iff : badHeader k = true ↔ k.hcrc ≠ headerCrc k ∨ k.ver ≠ 1#4 ∨ 11 ≤ k.op.toNat := by
  simp only [badHeader, Bool.or_eq_true, bne_iff_ne, decide_eq_true_eq, or_assoc]
  exact Iff.rfl

theorem State.discards_iff : s.discards k = true ↔ k.hcrc ≠ headerCrc k ∨ k.ver ≠ 1#4 ∨ 11 ≤ k.op.toNat ∨ s.own = 0xFFFF ∨
    k.dst ≠ s.own ∨ (s.pair k.src).up = false ∨ k.gen ≠ (s.pair k.src).gen := by
  unfold discards
  simp only [Bool.or_eq_true, badHeader_iff, decide_eq_true_eq, Bool.not_eq_true', or_assoc]

theorem State.guarded_of_discarded {op : Nat} (f : State → State) (hup : s.portUp p = true) (h : s.discards k = true) :
    s.guarded p k op f = s.incEnt 0x4005 (p + 1) 1 := by
  unfold guarded
  rw [if_neg (by simp [hup]), if_pos h]

theorem State.guarded_of_kept {op : Nat} (f : State → State) (hup : s.portUp p = true) (h : s.discards k = false) :
    s.guarded p k op f = if k.op.toNat ≠ op then s else f s := by
  unfold guarded
  rw [if_neg (by simp [hup]), if_neg (by simp [h])]

/-! ### Sequenced packets -/

/-- The place of a kept packet in the resequence buffer. -/
theorem State.receive_of_kept {op : Nat} (hup : s.portUp p = true) (h : s.discards k = false) (hop : k.op.toNat = op)
    (hgood : (s.pair k.src).rxBad = false) :
    s.receive p k op =
      if k.seq ≠ (s.pair k.src).rxSeq && seqBefore k.seq (s.pair k.src).rxSeq ||
          (s.pair k.src).rx.any fun e => e.1 = k.seq then s.setPair k.src { s.pair k.src with ackDue := true }
      else if k.seq ≠ (s.pair k.src).rxSeq && decide (6 * 2 ^ 20 <
          (s.pairs.flatMap fun e => e.2.rx).foldl (fun n e => n + linkBytes e.2) 0 + linkBytes k) then
        s.incEnt 0x4005 (p + 1) 1
      else ((s.arrive p k).2.setPair k.src { (s.arrive p k).2.pair k.src with
        rx := ((s.arrive p k).2.pair k.src).rx ++ [(k.seq, (s.arrive p k).1)], ackDue := true }).drainRx p k.src
          (((s.arrive p k).2.pair k.src).rx.length + 1) := by
  unfold receive
  rw [State.guarded_of_kept _ hup h, if_neg (by simp [hop])]
  dsimp only
  rw [if_neg (by simp [hgood])]

theorem State.receive_of_refused {op : Nat} (hup : s.portUp p = true) (h : s.discards k = false) (hop : k.op.toNat = op)
    (hbad : (s.pair k.src).rxBad = true) : s.receive p k op = s.incEnt 0x4005 (p + 1) 1 := by
  unfold receive
  rw [State.guarded_of_kept _ hup h, if_neg (by simp [hop])]
  exact if_pos hbad

/-- Each sequenced operation is received as its operation code says. -/
theorem exec_sequenced {o : Nat × (Nat → Packet → Instr)}
    (ho : o ∈ ([(0, Instr.writePacket), (1, Instr.readPacket), (2, Instr.readResponse), (3, Instr.writeReducePacket),
      (4, Instr.signalPacket), (5, Instr.atomicPacket), (6, Instr.atomicResponse), (7, Instr.managementPacket)] :
      List (Nat × (Nat → Packet → Instr)))) :
    exec (o.2 p k) s = act (decide (p < 3) && k.wf) (fun s => s.receive p k o.1) s := by
  simp only [List.mem_cons, List.not_mem_nil, or_false] at ho
  rcases ho with rfl | rfl | rfl | rfl | rfl | rfl | rfl | rfl <;> rfl

/-! ### The port's checker -/

theorem decodeWord_zero (x : BitVec 128) : decodeWord x 0#16 = .clean := by
  unfold decodeWord
  exact if_pos (by decide)

theorem decodeWord_poisonMask (x : BitVec 128) : decodeWord x poisonMask = .poison := by
  unfold decodeWord
  dsimp only
  rw [if_neg (by decide)]
  exact if_pos (by decide)

/-- With no injection armed, a word that is right or poison passes as it is. -/
theorem State.arriveWord_of_good {ad : Nat} {x : BitVec 128 × BitVec 16} (hinj : s.injSlot 4 (portAgent p) 0 1 ad = none)
    (hx : x.2 = 0#16 ∨ x.2 = poisonMask) : s.arriveWord p k ad x = (x, s) := by
  obtain ⟨w, c⟩ := x
  unfold arriveWord
  rw [hinj]
  dsimp only at hx ⊢
  obtain rfl | rfl := hx
  · rw [decodeWord_zero]
    rfl
  · rw [decodeWord_poisonMask]

theorem State.arriveWords_of_good (hinj : ∀ a, s.injSlot 4 (portAgent p) 0 1 a = none)
    (l : List ((BitVec 128 × BitVec 16) × Nat)) (hl : ∀ x ∈ l, x.1.2 = 0#16 ∨ x.1.2 = poisonMask)
    (acc : List (BitVec 128 × BitVec 16)) :
    l.foldl (fun (a : List (BitVec 128 × BitVec 16) × State) x =>
      (a.1 ++ [(a.2.arriveWord p k (k.addr / 16 * 16 + 16 * x.2) x.1).1],
        (a.2.arriveWord p k (k.addr / 16 * 16 + 16 * x.2) x.1).2)) (acc, s) = (acc ++ l.map Prod.fst, s) := by
  induction l generalizing acc with
  | nil => simp
  | cons x l ih =>
    obtain ⟨hx, hl⟩ := List.forall_mem_cons.1 hl
    rw [List.foldl_cons, State.arriveWord_of_good (hinj _) hx, ih hl]
    simp

theorem State.arrive_of_good (hwords : ∀ x ∈ k.words, x.2 = 0#16 ∨ x.2 = poisonMask)
    (hinj : ∀ a, s.injSlot 4 (portAgent p) 0 1 a = none) : s.arrive p k = (k, s) := by
  have hall := State.arriveWords_of_good (k := k) hinj k.words.zipIdx
    (fun x hx => hwords x.1 (List.zipIdx_map_fst 0 k.words ▸ List.mem_map_of_mem (f := Prod.fst) hx)) []
  unfold arrive
  dsimp only
  rw [hall, List.nil_append, List.zipIdx_map_fst]

/-! ### Operations are performed -/

theorem State.drainRx_of_next (hgood : (s.pair m).rxBad = false)
    (hfind : (s.pair m).rx.find? (fun e => decide (e.1 = (s.pair m).rxSeq)) = some (k.seq, k)) (n : Nat) :
    s.drainRx p m (n + 1) = if s.refusesRemote k = false ∧ s.opHeld k = true then s.deferRemote m
      else ((s.setPair m { s.pair m with rx := (s.pair m).rx.filter fun e => decide (e.1 ≠ k.seq) }).takeOp p m k).drainRx p m n := by
  rw [drainRx]
  dsimp only
  rw [if_neg (by simp [hgood]), hfind]
  simp only [Bool.and_eq_true, Bool.not_eq_true']

theorem State.takeOp_of_refused (hop : k.op ∈ [0#4, 1#4, 3#4, 4#4, 5#4]) (h : s.refusesRemote k = true) :
    s.takeOp p m k = s.sendNak m k := by
  unfold takeOp
  refine if_pos ?_
  simp only [List.mem_cons, List.not_mem_nil, or_false] at hop
  simp only [h, Bool.and_true, Bool.or_eq_true, decide_eq_true_eq, or_assoc]
  exact hop

theorem State.refusesRemote_of_unaligned (h : packetAligned k = false) : s.refusesRemote k = true := by
  unfold refusesRemote
  rw [h]
  rfl

/-- A management packet goes to the Scullery and counts as performed. -/
theorem State.takeOp_of_management (hop : k.op = 7#4) :
    s.takeOp p m k = (s.emit (.scullery k)).setPair m { s.pair m with
      rxSeq := ((s.pair m).rxSeq + 1) % 2 ^ 32, performed := ((s.pair m).performed + 1) % 2 ^ 32
      flags := (s.pair m).flags ||| 0#8, ackDue := true } := by
  have hperform : s.performOp p k = (⟨0, []⟩, s.emit (.scullery k)) := by
    unfold performOp
    rw [hop]
    rfl
  unfold takeOp
  dsimp only
  rw [hperform, hop]
  rfl

/-- A SIGNAL adds to its latch. -/
theorem State.performOp_of_signal {w l : Nat} (hop : k.op = 4#4)
    (haddr : k.addr = 0x60000000 + 0x800000 * w + 0x400000 + 16 * l + 8) (hw : w < 32) (hl : l < 4096) :
    s.performOp p k = (⟨0, []⟩, s.latchAdd w l (BitVec.ofNat 32 k.tagx.toNat)) := by
  have hpage : pageReg k.addr = .ladd w l := by
    unfold pageReg
    dsimp only
    rw [haddr, if_pos (by omega), if_neg (by omega), if_pos (by omega), if_neg (by omega)]
    congr 1 <;> omega
  unfold performOp
  rw [hop]
  refine congrArg (Prod.mk _) ?_
  unfold pageWrite
  rw [hpage]
  exact if_pos ⟨.inl rfl, by omega⟩

theorem State.performOp_of_short_write {j : Nat} {x : BitVec 128} {rest : List (BitVec 128 × BitVec 16)} (hop : k.op = 0#4)
    (hstack : regionOf k.addr = .stack j) (hshort : k.short = true) (hwords : k.words = (x, 0#16) :: rest) :
    s.performOp p k = (⟨0, []⟩, s.unitStore ⟨portAgent p, 1, none⟩ k.addr (toBytes 8 x.toNat) false none) := by
  have hdata : packetData k = (x, false) :: packetData { k with words := rest } := by
    simp [packetData, hwords]
  unfold performOp
  rw [hop]
  dsimp only
  rw [hdata]
  simp only [BitVec.toNat_ofNat, Nat.zero_mod, hstack, hshort]
  rfl

theorem State.performOp_of_write {j : Nat} (hop : k.op = 0#4) (hstack : regionOf k.addr = .stack j) (hshort : k.short = false) :
    s.performOp p k =
      (⟨0, []⟩, s.storeWords ⟨portAgent p, 1, none⟩ k.addr (packetData k) (if k.place then some k.ptarget else none)) := by
  unfold performOp
  rw [hop]
  simp only [BitVec.toNat_ofNat, Nat.zero_mod, hstack, hshort]
  rfl

/-! ### Acknowledgements and refusals -/

theorem State.takeAck_of_kept {ce : Bool} (hup : s.portUp p = true) (hop : k.op = 8#4) (h : s.discards k = false) :
    s.takeAck p k ce = match packetData (s.arrive p k).1 with
      | (x, false) :: _ => (s.arrive p k).2.acked k.src k.seq x.toNat ce
      | _ => (s.arrive p k).2 := by
  unfold takeAck
  rw [State.guarded_of_kept _ hup h]
  exact (if_neg (by simp [hop])).trans rfl

theorem State.acked_of_empty (seq w : Nat) (ce : Bool) (htx : (s.pair m).tx = []) :
    s.acked m seq w ce = s.setPair m { s.pair m with halved := (s.pair m).halved || ce } := by
  unfold acked
  simp only [htx, List.filter_nil, List.map_nil, each_nil]

/-- The flags of a WRITE_REDUCE acknowledged with none. -/
theorem ackFlags_zero : (if bitOf 0 0 then 1 else 0) + (if bitOf 0 1 then 2 else 0) + (if bitOf 0 2 then 16 else 0) = 0 := by
  decide

/-- The one operation of a sequence is performed. -/
theorem State.acked_of_performed {w : Nat} {o : TxOp} (seq : Nat) (ce : Bool) (htx : (s.pair m).tx = [o])
    (hdone : seqBefore (fld w 95 64) o.pkt.seq = false) (hackp : o.pkt.ackp = true) :
    s.acked m seq w ce =
      (if o.pkt.op = 3 then (s.setPair m { s.pair m with tx := [], halved := (s.pair m).halved || ce }).remoteFlags o.issuer
          ((if bitOf (fld w 103 96) 0 then 1 else 0) + (if bitOf (fld w 103 96) 1 then 2 else 0) +
            (if bitOf (fld w 103 96) 2 then 16 else 0))
        else s.setPair m { s.pair m with tx := [], halved := (s.pair m).halved || ce }).remoteDone o.issuer := by
  unfold acked
  simp only [htx, List.filter_cons, hdone, List.filter_nil, Bool.not_false, Bool.false_eq_true, if_true, if_false, List.map_nil,
    each_cons, each_nil, hackp]

/-- The one operation of a sequence has arrived and is not performed yet. -/
theorem State.acked_of_arrived {seq w : Nat} {o : TxOp} (ce : Bool) (htx : (s.pair m).tx = [o])
    (hleft : seqBefore (fld w 95 64) o.pkt.seq = true) (hgot : seqBefore o.pkt.seq seq = true) :
    s.acked m seq w ce = s.setPair m
      { s.pair m with tx := [{ o with port := none }], halved := (s.pair m).halved || ce } := by
  unfold acked
  simp only [htx, List.filter_cons, hleft, List.filter_nil, Bool.not_true, Bool.false_eq_true, if_true, if_false, List.map_cons,
    List.map_nil, each_nil, hgot, Bool.true_or, Option.isSome_none, Bool.false_and]

theorem State.takeNak_of_kept (hup : s.portUp p = true) (hop : k.op = 9#4) (h : s.discards k = false)
    (hcause : k.cisop.toNat ≤ 2) : s.takeNak p k = (s.incEnt 0x4006 (2 + k.cisop.toNat) 1).failPair k.src := by
  unfold takeNak
  rw [State.guarded_of_kept _ hup h, if_neg (by simp [hop])]
  dsimp only
  rw [if_pos hcause]

/-! ### HELLOs -/

theorem State.takeHello_of_broken (h : HelloMsg) (hup : s.portUp p = true) (hbad : badHeader k = true) :
    s.takeHello p k h = s.incEnt 0x4005 (p + 1) 1 := by
  unfold takeHello
  rw [if_neg (by simp [hup]), if_pos hbad]

theorem State.takeHello_of_good (h : HelloMsg) (hup : s.portUp p = true) (hbad : badHeader k = false) (hop : k.op = 10#4) :
    s.takeHello p k h =
      if !(Config.ed25519 h.key (helloBytes h) h.sig && (s.arrive p k).2.timely h.time) then (s.arrive p k).2
      else if !k.unnum && (s.arrive p k).2.member k.src && decide ((s.arrive p k).2.modKey k.src = h.key) then
        ((s.arrive p k).2.emit (.scullery (s.arrive p k).1)).setModWord k.src ((s.arrive p k).2.modWord k.src ||| 2 ^ (59 + p))
      else (s.arrive p k).2.emit (.scullery (s.arrive p k).1) := by
  unfold takeHello
  rw [if_neg (by simp [hup]), if_neg (by simp [hbad]), if_neg (by simp [hop])]
  rfl

end

/-- A packet arrives, is kept in its sequence and is performed in its turn. -/
theorem sequencedPackets (s : State) (p m : Nat) (k : Packet) (hs : s.Settled) (hp : p < 3) (hk : k.wf = true)
    (hup : s.portUp p = true) (hm : m = k.src) :
    (∀ o ∈ ([(0, Instr.writePacket), (1, Instr.readPacket), (2, Instr.readResponse), (3, Instr.writeReducePacket),
        (4, Instr.signalPacket), (5, Instr.atomicPacket), (6, Instr.atomicResponse), (7, Instr.managementPacket)] :
        List (Nat × (Nat → Packet → Instr))),
      (s.discards k = true → exec (o.2 p k) s = .next (s.incEnt 0x4005 (p + 1) 1)) ∧
      (s.discards k = false → k.op.toNat ≠ o.1 → exec (o.2 p k) s = .next s) ∧
      (s.discards k = false → k.op.toNat = o.1 → (s.pair m).rxBad = true → exec (o.2 p k) s = .next (s.incEnt 0x4005 (p + 1) 1)) ∧
      (∀ old used x, s.discards k = false → k.op.toNat = o.1 → (s.pair m).rxBad = false →
        (old = true ↔ (k.seq ≠ (s.pair m).rxSeq ∧ seqBefore k.seq (s.pair m).rxSeq = true) ∨
          (s.pair m).rx.any (fun e => decide (e.1 = k.seq)) = true) →
        used = (s.pairs.flatMap fun e => e.2.rx).foldl (fun n e => n + linkBytes e.2) 0 → x = s.arrive p k →
        exec (o.2 p k) s =
          if old = true then .next (s.setPair m { s.pair m with ackDue := true })
          else if k.seq ≠ (s.pair m).rxSeq ∧ 6 * 2 ^ 20 < used + linkBytes k then .next (s.incEnt 0x4005 (p + 1) 1)
          else s.gives ((x.2.setPair m
            { x.2.pair m with rx := (x.2.pair m).rx ++ [(k.seq, x.1)], ackDue := true }).drainRx p m ((x.2.pair m).rx.length + 1)))) := by
  subst hm
  have hok : (decide (p < 3) && k.wf) = true := by rw [decide_eq_true hp, hk, Bool.and_self]
  have hcount : (s.incEnt 0x4005 (p + 1) 1).todo = s.todo ∧ (s.incEnt 0x4005 (p + 1) 1).pending = s.pending :=
    ⟨State.incEnt_todo .., State.incEnt_pending ..⟩
  intro o ho
  rw [exec_sequenced ho]
  refine ⟨fun hdis => ?_, fun hkept hop => ?_, fun hkept hop hbad => ?_, fun old used x hkept hop hgood hold hused hx => ?_⟩
  · exact act_keeps hok (State.guarded_of_discarded _ hup hdis) hcount hs
  · exact act_stays hok ((State.guarded_of_kept _ hup hkept).trans (if_pos hop)) hs
  · exact act_keeps hok (State.receive_of_refused hup hkept hop hbad) hcount hs
  · subst hused hx
    have heq := State.receive_of_kept hup hkept hop hgood
    by_cases h : old = true
    · rw [if_pos h]
      refine act_keeps hok (heq.trans (if_pos ?_)) ⟨rfl, rfl⟩ hs
      simp only [Bool.or_eq_true, Bool.and_eq_true, decide_eq_true_eq, ← hold, h]
    · rw [if_neg h]
      rw [if_neg (by simp only [Bool.or_eq_true, Bool.and_eq_true, decide_eq_true_eq, ← hold, h, Bool.false_eq_true, not_false_eq_true])] at heq
      by_cases hroom : k.seq ≠ (s.pair k.src).rxSeq ∧ 6 * 2 ^ 20 <
          (s.pairs.flatMap fun e => e.2.rx).foldl (fun n e => n + linkBytes e.2) 0 + linkBytes k
      · rw [if_pos hroom]
        exact act_keeps hok (heq.trans (if_pos (by simpa using hroom))) hcount hs
      · rw [if_neg hroom]
        exact act_gives_of hok (heq.trans (if_neg (by simpa using hroom)))

/-- Settles O41: a packet's way through the guard of its port, the resequence buffer and the operation it asks for, and what
an acknowledgement, a refusal and a HELLO leave. -/
theorem gloingPackets : Obligations.GloingPackets := by
  constructor
  · intro s p m k hs hp hk hup hm
    refine ⟨sequencedPackets s p m k hs hp hk hup hm, State.arrive_of_good, State.drainRx_of_next, State.takeOp_of_refused,
      State.refusesRemote_of_unaligned, State.takeOp_of_management, fun w l hop haddr hw hl =>
      State.performOp_of_signal hop haddr hw hl, ?_, ?_, ?_⟩
    · rintro x rest hop ⟨j, hstack⟩ hshort hwords
      exact State.performOp_of_short_write hop hstack hshort hwords
    · rintro hop ⟨j, hstack⟩ hshort
      exact State.performOp_of_write hop hstack hshort
    · rw [hm]
      exact State.discards_iff.symm
  · intro s p m k hs hp hk hup hm
    subst hm
    have hok : (decide (p < 3) && k.wf) = true := by rw [decide_eq_true hp, hk, Bool.and_self]
    have hcount : (s.incEnt 0x4005 (p + 1) 1).todo = s.todo ∧ (s.incEnt 0x4005 (p + 1) 1).pending = s.pending :=
      ⟨State.incEnt_todo .., State.incEnt_pending ..⟩
    refine ⟨?_, ?_, ?_, fun seq w ce => State.acked_of_empty seq w ce, ?_, ?_, ?_, ?_, ?_, ?_⟩
    · intro ce hdis
      rw [exec_ackPacket, execAckPacket]
      exact act_keeps hok (State.guarded_of_discarded _ hup hdis) hcount hs
    · intro ce x d rest hop hkept hx hdata
      subst hx
      rw [exec_ackPacket, execAckPacket]
      refine act_gives_of hok ((State.takeAck_of_kept hup hop hkept).trans ?_)
      rw [hdata]
    · intro ce x d rest hop hkept hx hdata
      subst hx
      rw [exec_ackPacket, execAckPacket]
      refine act_gives_of hok ((State.takeAck_of_kept hup hop hkept).trans ?_)
      rw [hdata]
    · intro seq w ce o htx hdone hackp
      have heq := State.acked_of_performed seq ce htx hdone hackp
      refine ⟨fun hop => ?_, fun hop hfl => ?_⟩
      · rw [heq, if_neg (by exact hop)]
      · rw [heq, if_pos (by exact hop), hfl, ackFlags_zero]
    · intro seq w ce o htx hleft hgot
      exact State.acked_of_arrived ce htx hleft hgot
    · intro hdis
      rw [exec_nakPacket, execNakPacket]
      exact act_keeps hok (State.guarded_of_discarded _ hup hdis) hcount hs
    · intro hop hkept hcause
      rw [exec_nakPacket, execNakPacket]
      exact act_gives_of hok (State.takeNak_of_kept hup hop hkept hcause)
    · intro h hbad
      rw [exec_hello, execHello]
      exact act_keeps hok (State.takeHello_of_broken h hup (badHeader_iff.mpr hbad)) hcount hs
    · intro h x hop hcrc hver hx
      subst hx
      have hgood : badHeader k = false := by
        rw [Bool.eq_false_iff, ne_eq, badHeader_iff, hcrc, hver, hop]
        simp only [ne_eq, not_true_eq_false, false_or]
        decide
      have heq := State.takeHello_of_good h hup hgood hop
      rw [exec_hello, execHello]
      refine ⟨fun hbad => act_gives_of hok (heq.trans (if_pos ?_)), fun hsig htime => ?_⟩
      · obtain hb | hb := hbad <;> simp [hb]
      · rw [if_neg (by simp [hsig, htime])] at heq
        refine ⟨fun hno => act_gives_of hok (heq.trans (if_neg ?_)), fun hnum hmember hkey =>
          act_gives_of hok (heq.trans (if_pos (by simp [hnum, hmember, hkey])))⟩
        intro hyes
        simp only [Bool.and_eq_true, Bool.not_eq_true', decide_eq_true_eq] at hyes
        obtain ⟨⟨hnum, hmember⟩, hkey⟩ := hyes
        obtain h | h | h := hno
        · simp [hnum] at h
        · simp [hmember] at h
        · exact h hkey

end Sys2Proof.Machine
end


section
/-! PROOFS. Fetch and issue, and completion records (R135, R139, R142 to R144, R152 to R156). -/

namespace Sys2Proof.Machine

section
variable {s : State} {w q : Nat} {c : Cmd}

/-! ### The commands of a queue -/

theorem mem_of_oldestUnissued {halt : Bool} {l : List Cmd} (h : oldestUnissued halt l = some c) : c ∈ l := by
  induction l with
  | nil => exact nomatch h
  | cons d l ih =>
    unfold oldestUnissued at h
    split at h
    · cases h
      exact List.mem_cons_self
    · split at h
      · exact nomatch h
      · exact List.mem_cons_of_mem _ (ih h)

theorem State.mem_cmds_of_queueCmds (h : c ∈ s.queueCmds w q) : c ∈ (s.wing w).cmds := (List.mem_filter.mp h).1

/-- A command in flight is found by its number, or one with the same number before it. -/
theorem State.cmd_of_mem (h : c ∈ (s.wing w).cmds) : ∃ d, s.cmd w c.id = some d ∧ d.id = c.id := by
  have hsome : (s.cmd w c.id).isSome = true := List.find?_isSome.mpr ⟨c, h, by simp⟩
  obtain ⟨d, hd⟩ := Option.isSome_iff_exists.mp hsome
  exact ⟨d, hd, of_decide_eq_true (List.find?_some (p := fun c' : Cmd => decide (c'.id = c.id)) hd)⟩

/-- A command in flight, put as given, is found as given. -/
theorem State.cmd_putCmd_of_mem {c' : Cmd} (hid : c'.id = c.id) (h : c ∈ (s.wing w).cmds) :
    (s.putCmd w c').cmd w c.id = some c' := by
  obtain ⟨d, hd, hdid⟩ := State.cmd_of_mem h
  rw [← hdid] at hd ⊢
  exact State.cmd_putCmd (hid.trans hdid.symm) hd

/-! ### Fetch -/

theorem State.fetch_of_choice {n : Nat} {ab : Bool} (hup : s.wingUp w = true) (hrun : (s.wing w).power = .running)
    (h : s.fetchChoice w = some (q, n, ab)) : s.fetch w = (s.setWing w { s.wing w with rr := q }).fetchN w q ab n := by
  unfold fetch
  rw [if_neg (by simp [hup, hrun]), h]

theorem State.fetch_of_none (h : s.fetchChoice w = none) : s.fetch w = s := by
  unfold fetch
  split
  · rfl
  · rw [h]

/-- A fetch takes no more than waits, and no more than the completion ring has room for. -/
theorem State.fetchable_bounds {n : Nat} {ab : Bool} (h : s.fetchable w q = some (n, ab)) :
    0 < n ∧ n ≤ 8 ∧ n ≤ s.pendingEntries w q ∧ n ≤ s.recordRoom w q ∧
      (s.qhalted w q = true → s.qf w q 0x10 21 21 ≠ 0) := by
  unfold fetchable at h
  dsimp only at h
  split at h
  · exact nomatch h
  · next hnone =>
    simp only [not_or, not_and] at hnone
    obtain ⟨hn, -, hhalt⟩ := hnone
    split at h
    · next hm =>
      simp only [Option.some.injEq, Prod.mk.injEq] at h
      exact ⟨by omega, by omega, by omega, by omega, hhalt⟩
    · split at h
      · simp only [Option.some.injEq, Prod.mk.injEq] at h
        exact ⟨by omega, by omega, by omega, by omega, hhalt⟩
      · exact nomatch h

/-! ### Issue -/

/-- How the EPOCH of a command stands to what its wing and its room apply. -/
def State.epochsStand (s : State) (w : Nat) (c : Cmd) : Nat :=
  max (epochStands (s.wingEpoch w) c.epoch) (epochStands (s.roomEpoch (c.room w)) c.epoch)

section
variable {e : Nat} (hup : s.wingUp w = true) (hrun : (s.wing w).power = .running) (hhalt : s.qhalted w q = false)
  (hc : s.oldest w q = some c) (he : engineOf c.op = some e)
include hup hrun hhalt hc he

theorem State.issue_of_past (h : s.epochsStand w c = 2) : s.issue w q = s.endCmd w c.id stUNSUP := by
  unfold issue
  rw [if_neg (by simp [hup, hrun, hhalt]), hc]
  dsimp only
  rw [he]
  exact if_pos h

theorem State.issue_of_held (h : s.epochsStand w c = 1) (hheld : c.id ∈ (s.wing w).held) : s.issue w q = s := by
  unfold issue
  rw [if_neg (by simp [hup, hrun, hhalt]), hc]
  dsimp only
  rw [he]
  dsimp only
  rw [if_neg (by unfold epochsStand at h; omega)]
  exact (if_pos h).trans (if_pos (by simpa using hheld))

/-- The room with a command in the queue of its engine. -/
def State.enqueue (s : State) (g e : Nat) (c : Cmd) : State :=
  let s := s.stopHearth g
  let s := s.setRoom g ((s.room g).setEq e ((s.room g).eq e ++ [c.id]))
  s.setRoom g { s.room g with
    ranCtx := if (s.room g).ranCtx.contains c.ctx then (s.room g).ranCtx else c.ctx :: (s.room g).ranCtx }

/-- A command as it is issued under the modes in force. -/
def State.issuedCmd (s : State) (w : Nat) (c : Cmd) : Cmd :=
  { c with
    st := .issued, bWin := (s.unitModes w).win, bHead := (s.unitModes w).head, bOrd := c.order
    issueNo := (s.wing w).issueNo }

/-- A command issued to engine `e` of its room. -/
def State.issueTo (s : State) (w e : Nat) (c : Cmd) : State :=
  let t := s.enqueue (c.room w) e c
  (t.setWing w { t.wing w with issueNo := (t.wing w).issueNo + 1 }).putCmd w (s.issuedCmd w c)

theorem State.issue_of_now (h : s.epochsStand w c = 0) (htest : (s.room (c.room w)).testing = false)
    (hroom : ((s.room (c.room w)).eq e).length < 32) (hnow : s.wingEpoch w = c.epoch)
    (hord : c.order = true ↔ s.qf w q 0x30 49 49 = 1) : s.issue w q = s.issueTo w e c := by
  have horder : decide (s.qf w q 0x30 49 49 = 1) = c.order := by
    rw [Bool.eq_iff_iff, decide_eq_true_iff]
    exact hord.symm
  unfold epochsStand at h
  unfold issue
  rw [if_neg (by simp [hup, hrun, hhalt]), hc]
  dsimp only
  rw [he]
  dsimp only
  rw [if_neg (by omega), if_neg (by omega), if_neg (by simp [htest]; omega), if_neg (by simp [hnow, horder])]
  simp only [hnow, decide_true, if_true, horder]
  rfl

end

theorem State.stopHearth_kept (g : Nat) : (s.stopHearth g).todo = s.todo ∧ (s.stopHearth g).pending = s.pending ∧
    (s.stopHearth g).mem = s.mem ∧ (s.stopHearth g).regs = s.regs ∧ (s.stopHearth g).wings = s.wings ∧
    ∀ e, ((s.stopHearth g).room g).eq e = (s.room g).eq e := by
  unfold stopHearth
  dsimp only
  split
  · refine ⟨rfl, rfl, rfl, rfl, rfl, fun e => ?_⟩
    rw [State.room_setRoom, if_pos rfl]
    rfl
  · exact ⟨rfl, rfl, rfl, rfl, rfl, fun _ => rfl⟩

theorem Room.eq_setEq (r : Room) (e : Nat) (l : List Nat) : (r.setEq e l).eq e = l := by
  unfold Room.setEq Room.eq
  split
  · rfl
  · split <;> rfl

theorem State.enqueue_kept (g e : Nat) (c : Cmd) : (s.enqueue g e c).todo = s.todo ∧ (s.enqueue g e c).pending = s.pending ∧
    (s.enqueue g e c).mem = s.mem ∧ (s.enqueue g e c).regs = s.regs ∧ (s.enqueue g e c).wings = s.wings ∧
    ((s.enqueue g e c).room g).eq e = (s.room g).eq e ++ [c.id] := by
  obtain ⟨htodo, hpending, hmem, hregs, hwings, heq⟩ := State.stopHearth_kept (s := s) g
  refine ⟨htodo, hpending, hmem, hregs, hwings, ?_⟩
  unfold enqueue
  dsimp only
  rw [State.room_setRoom, if_pos rfl, State.room_setRoom, if_pos rfl, ← heq e]
  exact Room.eq_setEq _ e _

theorem State.wing_of_wings {t : State} (h : t.wings = s.wings) (w : Nat) : t.wing w = s.wing w := by
  rw [wing, wing, h]

theorem State.issueTo_kept (e : Nat) (h : c ∈ (s.wing w).cmds) :
    (s.issueTo w e c).todo = s.todo ∧ (s.issueTo w e c).pending = s.pending ∧ (s.issueTo w e c).mem = s.mem ∧
      (s.issueTo w e c).regs = s.regs ∧ ((s.issueTo w e c).room (c.room w)).eq e = (s.room (c.room w)).eq e ++ [c.id] ∧
      (s.issueTo w e c).cmd w c.id = some (s.issuedCmd w c) := by
  obtain ⟨htodo, hpending, hmem, hregs, hwings, heq⟩ := State.enqueue_kept (s := s) (c.room w) e c
  refine ⟨htodo, hpending, hmem, hregs, heq, ?_⟩
  refine State.cmd_putCmd_of_mem rfl ?_
  rw [State.wing_setWing, if_pos rfl]
  exact (congrArg Wing.cmds (State.wing_of_wings hwings w)).symm ▸ h

/-! ### Completion records -/

/-- A record for the place to which its slot's address leads. -/
def State.recordAt (s : State) (w q pa : Nat) (c : Cmd) : Tgt → State
  | .mem _ => s.writeRecord w c (c.status.getD stOK)
  | .kill src => ((s.capture (w / 8) (accReport src (dispatcherAgent w) 1 pa (some c.ctx))).nextSlot w q).leaveFlight
      w c (c.status.getD stOK)
  | _ => (s.nextSlot w q).leaveFlight w c (c.status.getD stOK)

section
variable {tag : BitVec 16} (hup : s.wingUp w = true)
  (hfind : (s.queueCmds w q).find? (fun c => decide (c.tag = tag.toNat) && s.recordReady w c) = some c)
  (hheld : s.accessHeld (w / 8) (s.cslot w q / 64) true = false)
include hup hfind hheld

theorem State.recordWrite_of_cut (hcut : s.hallCut (w / 8) (homeDie (s.cslot w q / 64)) = true) :
    s.recordWrite w q tag = (s.nextSlot w q).leaveFlight w c (c.status.getD stOK) := by
  unfold recordWrite
  rw [if_neg (by simp [hup]), hfind]
  dsimp only
  rw [if_neg (by simp [hheld]), if_pos hcut]

/-- Where no hallway on the way is cut, the record goes where its slot's address leads. -/
theorem State.recordWrite_of_target {t : Tgt} {s' : State}
    (hcut : s.hallCut (w / 8) (homeDie (s.cslot w q / 64)) = false)
    (ht : s.target (s.cslot w q) (w / 8) (s.suiteOfDie (w / 8)) c.ctx (cmdKey w c.id) true true = (t, s')) :
    s.recordWrite w q tag = s'.recordAt w q (s.cslot w q) c t := by
  unfold recordWrite
  rw [if_neg (by simp [hup]), hfind]
  dsimp only
  rw [if_neg (by simp [hheld]), if_neg (by simp [hcut]), ht]
  rfl

end

theorem State.nextSlot_of_wrap (h : s.cring w q ≤ s.qf w q 0x30 47 32 + 1) :
    (s.nextSlot w q).qf w q 0x30 47 32 = 0 ∧ (s.nextSlot w q).phaseOf w q = 1 - s.phaseOf w q := by
  have hshape : s.nextSlot w q = (s.setWing w { s.wing w with
      phase := if (s.wing w).phase.contains q then (s.wing w).phase.filter fun x => x ≠ q
        else q :: (s.wing w).phase }).setQf w q 0x30 47 32 0 := by
    unfold nextSlot
    exact if_neg (by omega)
  rw [hshape]
  refine ⟨State.qf_setQf_same _ _ _ _ _ _ (by omega), ?_⟩
  unfold phaseOf
  rw [State.wing_of_wings (State.setQf_wings ..), State.wing_setWing, if_pos rfl]
  by_cases hin : (s.wing w).phase.contains q = true
  · rw [if_pos hin, if_pos hin, if_neg (by simp)]
  · rw [if_neg hin, if_neg hin, if_pos (by simp)]

end

/-- Settles O9: the choice of a queue and the bounds of a fetch, and where the oldest command goes by its EPOCH. -/
theorem fetchAndIssue : Obligations.FetchAndIssue := by
  intro s w hs hw hup hrun
  refine ⟨?_, ?_, fun q n ab h => State.fetchable_bounds h, ?_⟩
  · intro q n ab h
    rw [exec_commandFetch, execCommandFetch]
    exact act_gives_of (decide_eq_true hw) (State.fetch_of_choice hup hrun h)
  · intro h
    rw [exec_commandFetch, execCommandFetch]
    exact act_stays (decide_eq_true hw) (State.fetch_of_none h) hs
  · intro q c e hq hhalt hc he
    have hok : (decide (w < 32) && decide (q < 128)) = true := by rw [decide_eq_true hw, decide_eq_true hq, Bool.and_self]
    rw [exec_commandIssue, execCommandIssue]
    refine ⟨fun h => ?_, fun h hheld => ?_, fun hwing hroom htest hlen hnow hord => ?_⟩
    · exact act_gives_of hok (State.issue_of_past hup hrun hhalt hc he h)
    · exact act_stays hok (State.issue_of_held hup hrun hhalt hc he h hheld) hs
    · have hstand : s.epochsStand w c = 0 := by rw [State.epochsStand, hwing, hroom, Nat.max_self]
      have hissue := State.issue_of_now hup hrun hhalt hc he hstand htest hlen hnow hord
      have hmem : c ∈ (s.wing w).cmds := State.mem_cmds_of_queueCmds (mem_of_oldestUnissued hc)
      obtain ⟨htodo, hpending, hm, hregs, heq, hcmd⟩ := State.issueTo_kept e hmem
      exact ⟨s.issueTo w e c, s.issuedCmd w c, act_keeps hok hissue ⟨htodo, hpending⟩ hs, hcmd, rfl, rfl, rfl, rfl, rfl, heq,
        hm, hregs⟩

/-- Settles O11: a record goes where its slot's address leads, or is dropped with a cut hallway, and its slot is used. -/
theorem completionRecords : Obligations.CompletionRecords := by
  intro s w q tag c hs hw hq hup hfind hheld
  have hok : (decide (w < 32) && decide (q < 128)) = true := by rw [decide_eq_true hw, decide_eq_true hq, Bool.and_self]
  rw [exec_completionRecordWrite, execCompletionRecordWrite]
  refine ⟨fun hcut => ?_, fun hcut m s' ht => ?_, fun hcut src s' ht => ?_, fun h => if_pos h, State.nextSlot_of_wrap⟩
  · exact act_gives_of hok (State.recordWrite_of_cut hup hfind hheld hcut)
  · exact act_gives_of hok (State.recordWrite_of_target hup hfind hheld hcut ht)
  · exact act_gives_of hok (State.recordWrite_of_target hup hfind hheld hcut ht)

end Sys2Proof.Machine
end


section
/-! PROOFS. Latches and the dispatcher's own commands (R136, R143, R147 to R151, R159). -/

namespace Sys2Proof.Machine

section
variable {s : State} {w l : Nat}

/-! ### A latch value is shown to the waits that test it -/

/-- Whether latch value `v` commits wait `c`. -/
def State.latchHits (s : State) (w l : Nat) (v : BitVec 32) (c : Cmd) : Bool :=
  c.op == 0x30 && c.status.isNone && decide (c.f 1 11 0 = l) && c.satisfied v &&
    (decide (c.st = .waiting) || (!s.qhalted w c.queue && ((s.oldest w c.queue).map fun d => d.id) == some c.id)) &&
    !((s.wing w).seen.any fun e => decide (e.1 = c.id))

/-- A wait as a shown latch value leaves it. -/
def State.afterShow (s : State) (w l : Nat) (v : BitVec 32) (c : Cmd) : Cmd :=
  if s.latchHits w l v c then { c with st := .committed } else c

/-- A wing to which a latch value was shown. -/
def State.shownWing (s : State) (w l : Nat) (v : BitVec 32) : Wing :=
  { s.wing w with
    cmds := (s.wing w).cmds.map (s.afterShow w l v)
    seen := ((s.wing w).cmds.filter (s.latchHits w l v)).map (fun c => (c.id, v)) ++ (s.wing w).seen }

theorem State.showLatch_eq (v : BitVec 32) : s.showLatch w l v = s.setWing w (s.shownWing w l v) := rfl

theorem State.wing_showLatch (v : BitVec 32) : (s.showLatch w l v).wing w = s.shownWing w l v :=
  (State.wing_setWing ..).trans (if_pos rfl)

theorem State.latch_showLatch (v : BitVec 32) (k : Nat) : (s.showLatch w l v).latch w k = s.latch w k := by
  rw [latch, State.wing_showLatch]
  rfl

theorem State.id_afterShow (v : BitVec 32) (c : Cmd) : (s.afterShow w l v c).id = c.id := by
  unfold afterShow
  split <;> rfl

theorem State.fetched_afterShow (v : BitVec 32) (c : Cmd) :
    { s.afterShow w l v c with st := CmdState.fetched } = { c with st := CmdState.fetched } := by
  unfold afterShow
  split <;> rfl

/-- A value of latch `l` is nothing to a command that tests no latch, or another one. -/
theorem State.afterShow_of_other (v : BitVec 32) {c : Cmd} (h : c.op ≠ 0x30 ∨ c.f 1 11 0 ≠ l) : s.afterShow w l v c = c := by
  unfold afterShow
  refine if_neg fun hit => ?_
  simp only [latchHits, Bool.and_eq_true, beq_iff_eq, decide_eq_true_eq] at hit
  obtain ⟨⟨⟨⟨⟨hop, -⟩, hl⟩, -⟩, -⟩, -⟩ := hit
  exact h.elim (fun h => h hop) fun h => h hl

/-- Waits that test latch `l` are all that a shown value may change, and only in their state. -/
theorem State.onlyWaits_showLatch (v : BitVec 32) : s.OnlyWaits w l (s.showLatch w l v) := by
  unfold OnlyWaits
  rw [State.wing_showLatch]
  constructor
  · simp only [shownWing, List.map_map]
    exact List.map_congr_left fun c _ => State.fetched_afterShow v c
  · intro c hc h
    have hin := List.mem_map_of_mem (f := s.afterShow w l v) hc
    rwa [State.afterShow_of_other v h] at hin

theorem State.OnlyWaits.trans {t u : State} (h : s.OnlyWaits w l t) (h' : t.OnlyWaits w l u) : s.OnlyWaits w l u :=
  ⟨h'.1.trans h.1, fun c hc ho => h'.2 c (h.2 c hc ho) ho⟩

theorem State.OnlyWaits.of_cmds {t : State} (h : (t.wing w).cmds = (s.wing w).cmds) : s.OnlyWaits w l t := by
  unfold OnlyWaits
  rw [h]
  exact ⟨rfl, fun _ hc _ => hc⟩

theorem State.cmd_showLatch (v : BitVec 32) (id : Nat) :
    (s.showLatch w l v).cmd w id = (s.cmd w id).map (s.afterShow w l v) := by
  unfold cmd
  rw [State.wing_showLatch]
  simp only [shownWing, List.find?_map, Function.comp_def, State.id_afterShow]

/-- Whether wing `w` has seen a value for the wait with number `id`. -/
def State.hasSeen (s : State) (w id : Nat) : Bool := (s.wing w).seen.any fun e => decide (e.1 = id)

theorem State.hasSeen_showLatch (v : BitVec 32) (id : Nat) : (s.showLatch w l v).hasSeen w id =
    (((s.wing w).cmds.any fun c => s.latchHits w l v c && decide (c.id = id)) || s.hasSeen w id) := by
  unfold hasSeen
  rw [State.wing_showLatch]
  simp only [shownWing, List.any_append, List.any_map, List.any_filter, Function.comp_def]

/-! ### A latch takes a value -/

theorem State.setWing_setWing (u v : Wing) : (s.setWing w u).setWing w v = s.setWing w v := by
  simp only [setWing, tset_tset]

/-- The wing with its latch holding a value, shown the value it held until now. -/
def State.latched (s : State) (w l : Nat) (v : BitVec 32) : State :=
  let t := s.showLatch w l (s.latch w l)
  t.setWing w { t.wing w with latches := tput 0#32 l v (t.wing w).latches }

theorem State.latchPut_of_up (v : BitVec 32) (hup : s.wingUp w = true) :
    s.latchPut w l v = ((s.latched w l v).showLatch w l v).wakeWing w := if_pos hup

theorem State.wing_wakeWing : ∃ p, (s.wakeWing w).wing w = { s.wing w with power := p } := by
  unfold wakeWing
  dsimp only
  split
  · exact ⟨.waking, (State.wing_setWing ..).trans (if_pos rfl)⟩
  · exact ⟨(s.wing w).power, rfl⟩

theorem State.wing_latched (v : BitVec 32) : (s.latched w l v).wing w =
    { s.shownWing w l (s.latch w l) with latches := tput 0#32 l v (s.wing w).latches } := by
  unfold latched
  dsimp only
  rw [State.wing_setWing, if_pos rfl, State.wing_showLatch]
  rfl

/-- Only the wing is written where a latch takes a value. -/
theorem State.latchPut_setWing (v : BitVec 32) (hup : s.wingUp w = true) : ∃ x, s.latchPut w l v = s.setWing w x := by
  rw [State.latchPut_of_up v hup]
  have hshown : (s.latched w l v).showLatch w l v = s.setWing w ((s.latched w l v).shownWing w l v) := by
    rw [State.showLatch_eq]
    unfold latched
    rw [State.showLatch_eq, State.setWing_setWing, State.setWing_setWing]
  obtain h | ⟨x, h⟩ := ((s.latched w l v).showLatch w l v).wakeWing_eq w
  · exact ⟨_, h.trans hshown⟩
  · refine ⟨x, h.trans ?_⟩
    rw [hshown, State.setWing_setWing]

theorem State.latch_latchPut (v : BitVec 32) (hup : s.wingUp w = true) (k : Nat) :
    (s.latchPut w l v).latch w k = if k = l then v else s.latch w k := by
  obtain ⟨p, hp⟩ := State.wing_wakeWing (s := (s.latched w l v).showLatch w l v) (w := w)
  rw [State.latchPut_of_up v hup, latch, hp, State.wing_showLatch]
  simp only [shownWing, State.wing_latched, tget_tput]
  rfl

theorem State.cmds_latchPut (v : BitVec 32) (hup : s.wingUp w = true) :
    ((s.latchPut w l v).wing w).cmds = (((s.latched w l v).showLatch w l v).wing w).cmds ∧
      ((s.latchPut w l v).wing w).seen = (((s.latched w l v).showLatch w l v).wing w).seen := by
  obtain ⟨p, hp⟩ := State.wing_wakeWing (s := (s.latched w l v).showLatch w l v) (w := w)
  rw [State.latchPut_of_up v hup, hp]
  exact ⟨rfl, rfl⟩

theorem State.cmds_latched (v : BitVec 32) :
    ((s.latched w l v).wing w).cmds = ((s.showLatch w l (s.latch w l)).wing w).cmds ∧
      ((s.latched w l v).wing w).seen = ((s.showLatch w l (s.latch w l)).wing w).seen := by
  rw [State.wing_latched, State.wing_showLatch]
  exact ⟨rfl, rfl⟩

theorem State.onlyWaits_latchPut (v : BitVec 32) (hup : s.wingUp w = true) : s.OnlyWaits w l (s.latchPut w l v) :=
  (State.onlyWaits_showLatch _).trans ((State.OnlyWaits.of_cmds (State.cmds_latched v).1).trans
    ((State.onlyWaits_showLatch v).trans (State.OnlyWaits.of_cmds (State.cmds_latchPut v hup).1)))

/-- A value that a waiting wait tests for has been seen by it. -/
theorem State.hasSeen_of_hit {v : BitVec 32} {c : Cmd} (hc : c ∈ (s.wing w).cmds) (hop : c.op = 0x30) (hst : c.status = none)
    (hwait : c.st = .waiting) (hl : c.f 1 11 0 = l) (hv : c.satisfied v = true) :
    (s.showLatch w l v).hasSeen w c.id = true := by
  rw [State.hasSeen_showLatch]
  by_cases hseen : s.hasSeen w c.id = true
  · rw [hseen, Bool.or_true]
  · rw [List.any_eq_true.mpr ⟨c, hc, ?_⟩, Bool.true_or]
    have hnot : ((s.wing w).seen.any fun e => decide (e.1 = c.id)) = false := Bool.eq_false_iff.mpr hseen
    simp only [latchHits, hop, hst, hwait, hl, hv, hnot, beq_self_eq_true, Option.isNone_none, decide_true, Bool.and_self,
      Bool.true_or, Bool.not_false]

theorem State.hasSeen_mono (v : BitVec 32) {id : Nat} (h : s.hasSeen w id = true) :
    (s.showLatch w l v).hasSeen w id = true := by
  rw [State.hasSeen_showLatch, h, Bool.or_true]

theorem State.hasSeen_of_seen {t : State} (h : (t.wing w).seen = (s.wing w).seen) (id : Nat) :
    t.hasSeen w id = s.hasSeen w id := by
  rw [hasSeen, h, hasSeen]

theorem State.hasSeen_latchPut {v : BitVec 32} {c : Cmd} (hup : s.wingUp w = true) (hc : c ∈ (s.wing w).cmds)
    (hop : c.op = 0x30) (hst : c.status = none) (hwait : c.st = .waiting) (hl : c.f 1 11 0 = l)
    (hv : c.satisfied v = true) : (s.latchPut w l v).hasSeen w c.id = true := by
  rw [State.hasSeen_of_seen (State.cmds_latchPut v hup).2]
  by_cases hit : s.latchHits w l (s.latch w l) c = true
  · refine State.hasSeen_mono v ?_
    rw [State.hasSeen_of_seen (State.cmds_latched v).2, State.hasSeen_showLatch,
      List.any_eq_true.mpr ⟨c, hc, by simp [hit]⟩, Bool.true_or]
  · refine State.hasSeen_of_hit ?_ hop hst hwait hl hv
    rw [(State.cmds_latched v).1, State.wing_showLatch]
    have hin := List.mem_map_of_mem (f := s.afterShow w l (s.latch w l)) hc
    rwa [show s.afterShow w l (s.latch w l) c = c from if_neg hit] at hin

/-- A wait with a number of its own that tests for the value is committed. -/
theorem State.cmd_latchPut_committed {v : BitVec 32} {c : Cmd} (hup : s.wingUp w = true) (hc : c ∈ (s.wing w).cmds)
    (hop : c.op = 0x30) (hst : c.status = none) (hwait : c.st = .waiting) (hl : c.f 1 11 0 = l)
    (hv : c.satisfied v = true) (hseen : s.hasSeen w c.id = false) (hown : ∀ d ∈ (s.wing w).cmds, d.id = c.id → d = c) :
    ∃ d, (s.latchPut w l v).cmd w c.id = some d ∧ d.st = .committed := by
  have hcmd : s.cmd w c.id = some c := by
    obtain ⟨d, hd, hid⟩ := State.cmd_of_mem hc
    rw [hd, hown d (List.mem_of_find?_eq_some hd) hid]
  have hput : (s.latchPut w l v).cmd w c.id = some ((s.latched w l v).afterShow w l v (s.afterShow w l (s.latch w l) c)) := by
    have hlatched : (s.latched w l v).cmd w c.id = some (s.afterShow w l (s.latch w l) c) := by
      rw [cmd, (State.cmds_latched v).1, ← cmd, State.cmd_showLatch, hcmd]
      rfl
    rw [cmd, (State.cmds_latchPut v hup).1, ← cmd, State.cmd_showLatch, hlatched]
    rfl
  refine ⟨_, hput, ?_⟩
  by_cases hit : s.latchHits w l (s.latch w l) c = true
  · rw [show s.afterShow w l (s.latch w l) c = { c with st := .committed } from if_pos hit, afterShow]
    split <;> rfl
  · rw [show s.afterShow w l (s.latch w l) c = c from if_neg hit, afterShow, if_pos]
    have hnot : (s.latched w l v).hasSeen w c.id = false := by
      rw [State.hasSeen_of_seen (State.cmds_latched v).2, State.hasSeen_showLatch, hseen, Bool.or_false, List.any_eq_false]
      intro d hd hhit
      simp only [Bool.and_eq_true, decide_eq_true_eq] at hhit
      exact hit (hown d hd hhit.2 ▸ hhit.1)
    rw [hasSeen] at hnot
    simp only [latchHits, hop, hst, hwait, hl, hv, hnot, beq_self_eq_true, Option.isNone_none, decide_true, Bool.and_self,
      Bool.true_or, Bool.not_false]

end

/-! ### The dispatcher's own commands -/

section
variable {s : State} {w q : Nat} {c : Cmd}

theorem State.mem_of_begins {op : Nat} (h : s.begins w q op = some c) : c ∈ (s.wing w).cmds := by
  unfold begins at h
  split at h
  · exact nomatch h
  · split at h
    · next d hd =>
      split at h
      · cases h
        exact State.mem_cmds_of_queueCmds (mem_of_oldestUnissued hd)
      · exact nomatch h
    · exact nomatch h

theorem State.beginWait_of_begins (h : s.begins w q 0x30 = some c) :
    s.beginWait w q = (s.putCmd w { c with st := .waiting }).showLatch w (c.f 1 11 0)
      ((s.putCmd w { c with st := .waiting }).latch w (c.f 1 11 0)) := by
  unfold beginWait
  rw [h]

/-- A wait ends: the Shelves of an acquire are invalidated first. -/
theorem State.endWait_of_found (hup : s.wingUp w = true)
    (h : (s.queueCmds w q).find? (fun d => d.op == 0x30 && decide (d.st = .committed) && d.status.isNone) = some c) :
    s.endWait w q = (each (if bitOf (c.wd 1) 18 then (if bitOf (c.wd 1) 19 then List.range 8 else [c.rm]) else [])
      (fun r s => s.shelfClear (w * 8 + r)) s).doneOne w c := by
  unfold endWait
  rw [if_neg (by simp [hup]), h]

/-- The commands that a LATCH_SIGNAL awaits. -/
def State.signalAwaits (s : State) (w q : Nat) (c : Cmd) : List Nat :=
  ((s.queueCmds w q).filter fun d => decide (d.id < c.id) && decide (d.issueNo ≠ 0) &&
    (engineOf d.op).any fun e => bitOf (c.f 2 23 0) (3 * d.rm + e)).map fun d => d.id

theorem State.mem_signalAwaits (x : Nat) : x ∈ s.signalAwaits w q c ↔ ∃ k ∈ s.queueCmds w q, k.id = x ∧ k.id < c.id ∧
    k.issueNo ≠ 0 ∧ ∃ e, engineOf k.op = some e ∧ bitOf (c.f 2 23 0) (3 * k.rm + e) = true := by
  simp only [signalAwaits, List.mem_map, List.mem_filter, Bool.and_eq_true, decide_eq_true_eq, Option.any_eq_true]
  constructor
  · rintro ⟨k, ⟨hk, ⟨hid, hno⟩, he⟩, hx⟩
    exact ⟨k, hk, hx, hid, hno, he⟩
  · rintro ⟨k, hk, hx, hid, hno, he⟩
    exact ⟨k, ⟨hk, ⟨hid, hno⟩, he⟩, hx⟩

/-- A LATCH_SIGNAL as it begins. -/
def State.signalCmd (s : State) (w q : Nat) (c : Cmd) : Cmd :=
  { c with
    st := .waiting, awaiting := s.signalAwaits w q c
    awaitBad := (s.wing w).failed.any fun x => decide (x.1 = q) && bitOf (c.f 2 23 0) x.2 }

theorem State.beginSignal_of_begins (h : s.begins w q 0x31 = some c) : s.beginSignal w q = s.putCmd w (s.signalCmd w q c) := by
  unfold beginSignal
  rw [h]
  refine congrArg (fun l => s.putCmd w { s.signalCmd w q c with awaiting := l }) ?_
  refine congrArg (List.map _) (List.filter_congr fun d _ => ?_)
  cases engineOf d.op <;> rfl

section
variable (hup : s.wingUp w = true)
include hup

theorem State.endSignal_of_found (h : (s.queueCmds w q).find? (fun d => d.op == 0x31 && decide (d.st = .waiting) &&
      d.status.isNone && decide (d.awaiting = [])) = some c) :
    s.endSignal w q =
      if bitOf (c.wd 1) 19 && c.awaitBad then s.endCmd w c.id stABORTED
      else if bitOf (c.wd 1) 18 then
        ((s.putCmd w { c with prog := 1, remote := c.remote + 1 }).endCmd w c.id stOK).remoteOp (.cmd w c.id)
          { basePacket 4 (c.f 1 31 20) (0x60000000 + c.f 1 16 12 * 0x800000 + 0x400000 + c.f 1 11 0 * 16 +
              (if bitOf (c.wd 1) 17 then 0 else 8)) with ackp := true, tagx := BitVec.ofNat 32 (c.f 1 63 32) }
      else (if bitOf (c.wd 1) 17 then s.latchSet (c.f 1 16 12) (c.f 1 11 0) (BitVec.ofNat 32 (c.f 1 63 32))
        else s.latchAdd (c.f 1 16 12) (c.f 1 11 0) (BitVec.ofNat 32 (c.f 1 63 32))).doneOne w c := by
  unfold endSignal
  rw [if_neg (by simp [hup]), h]

theorem State.endFence_of_found (h : s.waitingCmd w q 0x38 = some c) :
    s.endFence w q =
      if (s.queueCmds w q).any (fun d => decide (d.id < c.id)) || (decide (5 ≤ c.f 1 2 0) && s.looseBefore w c) then s
      else (each (bitsOf 8 (c.f 1 15 8)) (fun r s => s.shelfClear (w * 8 + r)) (s.rlineFence w (c.f 1 2 0))).doneOne w c := by
  unfold endFence
  rw [if_neg (by simp [hup]), h]

/-- The command that ABORT `c` names, where it may. -/
def State.abortTarget (s : State) (w q : Nat) (c : Cmd) : Option Cmd :=
  if s.qf w q 0x10 22 22 = 1 || decide (s.qctx w (c.f 1 22 16) = c.ctx) then
    (s.queueCmds w (c.f 1 22 16)).find? fun d => decide (d.id ≠ c.id) && decide (d.tag = c.f 1 15 0)
  else none

variable (h : (s.queueCmds w q).find? (fun d => d.op == 0x3F && decide (d.st = .fetched) && d.status.isNone) = some c)
include h

theorem State.performAbort_of_none (ht : s.abortTarget w q c = none) : s.performAbort w q = s.endCmd w c.id stNOT_FOUND := by
  unfold abortTarget at ht
  unfold performAbort
  rw [if_neg (by simp [hup]), h]
  dsimp only
  rw [ht]

theorem State.performAbort_of_target {d : Cmd} (ht : s.abortTarget w q c = some d) :
    s.performAbort w q = if d.status.isSome || decide (d.st = .committed) then
        (s.putCmd w { c with awaiting := [d.id] }).endCmd w c.id stTOO_LATE
      else ((s.stopCmd w d.id stABORTED).putCmd w { c with prog := 1, awaiting := [d.id] }).endCmd w c.id stOK := by
  unfold abortTarget at ht
  unfold performAbort
  rw [if_neg (by simp [hup]), h]
  dsimp only
  rw [ht]

end

end

/-- The dispatcher's own commands. -/
theorem dispatcherOwnCommands (s : State) (w q : Nat) (c : Cmd) (hs : s.Settled) (hw : w < 32) (hq : q < 128)
    (hup : s.wingUp w = true) :
    (s.begins w q 0x00 = some c → exec (.nop w q) s = s.gives ((s.putCmd w { c with prog := 1 }).endCmd w c.id stOK)) ∧
    (s.begins w q 0x30 = some c → exec (.latchWait w q) s = .next
      ((s.putCmd w { c with st := .waiting }).showLatch w (c.f 1 11 0)
        ((s.putCmd w { c with st := .waiting }).latch w (c.f 1 11 0)))) ∧
    ((s.queueCmds w q).find? (fun d => d.op == 0x30 && decide (d.st = .committed) && d.status.isNone) = some c →
      (bitOf (c.wd 1) 18 = false → exec (.latchWaitSatisfied w q) s = s.gives (s.doneOne w c)) ∧
      (bitOf (c.wd 1) 18 = true → bitOf (c.wd 1) 19 = false →
        exec (.latchWaitSatisfied w q) s = s.gives ((s.shelfClear (w * 8 + c.rm)).doneOne w c)) ∧
      (bitOf (c.wd 1) 18 = true → bitOf (c.wd 1) 19 = true → exec (.latchWaitSatisfied w q) s = s.gives
        ((each (List.range 8) (fun r s => s.shelfClear (w * 8 + r)) s).doneOne w c))) ∧
    (s.begins w q 0x31 = some c → ∃ t d, exec (.latchSignal w q) s = .next t ∧ t.cmd w c.id = some d ∧ d.st = .waiting ∧
      (∀ x, x ∈ d.awaiting ↔ ∃ k ∈ s.queueCmds w q, k.id = x ∧ k.id < c.id ∧ k.issueNo ≠ 0 ∧
        ∃ e, engineOf k.op = some e ∧ bitOf (c.f 2 23 0) (3 * k.rm + e) = true) ∧
      d.awaitBad = (s.wing w).failed.any (fun x => decide (x.1 = q) && bitOf (c.f 2 23 0) x.2) ∧
      t.mem = s.mem ∧ t.regs = s.regs ∧ t.od = s.od) := by
  have hok : (decide (w < 32) && decide (q < 128)) = true := by rw [decide_eq_true hw, decide_eq_true hq, Bool.and_self]
  refine ⟨fun h => ?_, fun h => ?_, fun h => ?_, fun h => ?_⟩
  · rw [exec_nop, execNop]
    refine act_gives_of hok ?_
    unfold State.nopCmd
    rw [h]
    rfl
  · rw [exec_latchWait, execLatchWait]
    exact act_keeps hok (State.beginWait_of_begins h) ⟨rfl, rfl⟩ hs
  · have heq := State.endWait_of_found hup h
    rw [exec_latchWaitSatisfied, execLatchWaitSatisfied]
    refine ⟨fun hall => act_gives_of hok ?_, fun hacq hone => act_gives_of hok ?_, fun hacq hall => act_gives_of hok ?_⟩
    · rw [heq, if_neg (by simp [hall]), each_nil]
    · rw [heq, if_pos hacq, if_neg (by simp [hone]), each_cons, each_nil]
    · rw [heq, if_pos hacq, if_pos hall]
  · rw [exec_latchSignal, execLatchSignal]
    exact ⟨s.putCmd w (s.signalCmd w q c), s.signalCmd w q c,
      act_keeps hok (State.beginSignal_of_begins h) ⟨rfl, rfl⟩ hs,
      State.cmd_putCmd_of_mem rfl (State.mem_of_begins h), rfl, State.mem_signalAwaits, rfl, rfl, rfl, rfl⟩

/-- Settles O10: each dispatcher command by its equation, and a latch's value by what a shown value leaves of the waits. -/
theorem dispatcherCommands : Obligations.DispatcherCommands := by
  constructor
  · intro s w q c hs hw hq hup
    have hok : (decide (w < 32) && decide (q < 128)) = true := by rw [decide_eq_true hw, decide_eq_true hq, Bool.and_self]
    obtain ⟨hnop, hwait, hsat, hsignal⟩ := dispatcherOwnCommands s w q c hs hw hq hup
    refine ⟨hnop, hwait, hsat, hsignal, fun h hok' hlocal => ?_, fun h hok' haway => ?_, fun h hbad => ?_, fun h => ?_,
      fun h hfirst hloose => ?_, fun h hlate => ?_, fun h hmay d hd => ?_, fun h hno => ?_⟩
    · rw [exec_latchSignalPerform, execLatchSignalPerform]
      refine act_gives_of hok ((State.endSignal_of_found hup h).trans ?_)
      rw [if_neg (by simp [hok']), if_neg (by simp [hlocal])]
    · rw [exec_latchSignalPerform, execLatchSignalPerform]
      refine act_gives_of hok ((State.endSignal_of_found hup h).trans ?_)
      rw [if_neg (by simp [hok']), if_pos haway]
    · rw [exec_latchSignalPerform, execLatchSignalPerform]
      exact act_gives_of hok ((State.endSignal_of_found hup h).trans (if_pos hbad))
    · rw [exec_fence, execFence]
      refine act_keeps hok ?_ ⟨rfl, rfl⟩ hs
      unfold State.beginFence
      rw [h]
    · rw [exec_fenceComplete, execFenceComplete]
      refine act_gives_of hok ((State.endFence_of_found hup h).trans (if_neg ?_))
      have hnone : (s.queueCmds w q).any (fun d => decide (d.id < c.id)) = false := by
        rw [List.any_eq_false]
        intro d hd
        simpa using hfirst d hd
      obtain hl | hl := hloose
      · simp [hnone, show ¬ 5 ≤ c.f 1 2 0 by omega]
      · simp [hnone, hl]
    · rw [exec_fenceComplete, execFenceComplete]
      refine act_stays hok ((State.endFence_of_found hup h).trans (if_pos ?_)) hs
      obtain ⟨d, hd, hid⟩ | ⟨hscope, hl⟩ := hlate
      · rw [List.any_eq_true.mpr ⟨d, hd, decide_eq_true hid⟩, Bool.true_or]
      · rw [decide_eq_true hscope, hl, Bool.and_self, Bool.or_true]
    · have ht : s.abortTarget w q c = some d := (if_pos (by simpa using hmay)).trans hd
      have heq := State.performAbort_of_target hup h ht
      rw [exec_abort, execAbort]
      refine ⟨fun hend => act_gives_of hok (heq.trans (if_pos (by simpa using hend))), fun hopen hst =>
        act_gives_of hok (heq.trans (if_neg (by simp [hopen, hst])))⟩
    · rw [exec_abort, execAbort]
      refine act_gives_of hok (State.performAbort_of_none hup h ?_)
      unfold State.abortTarget
      obtain ⟨hpriv, hctx⟩ | hall := hno
      · exact if_neg (by simp [hpriv, hctx])
      · split
        · rw [List.find?_eq_none]
          intro d hd hmatch
          simp only [Bool.and_eq_true, decide_eq_true_eq] at hmatch
          exact (hall d hd).elim (fun h => hmatch.1 h) fun h => h hmatch.2
        · rfl
  · intro s w l n v hs hw hl hup hn
    have hsize : sizeOk n = true := by obtain rfl | rfl := hn <;> rfl
    have hok : (decide (w < 32) && decide (l < 4096) && sizeOk n) = true := by
      rw [decide_eq_true hw, decide_eq_true hl, hsize, Bool.and_self, Bool.and_self]
    have hput : ∀ x : BitVec 32, act (decide (w < 32) && decide (l < 4096) && sizeOk n)
        (fun s => if n = 4 ∨ n = 8 then s.latchPut w l x else s) s = .next (s.latchPut w l x) := by
      intro x
      obtain ⟨u, hu⟩ := State.latchPut_setWing x hup
      exact act_keeps hok (if_pos hn) (by rw [hu]; exact ⟨rfl, rfl⟩) hs
    have hleaves : ∀ x : BitVec 32, (s.latchPut w l x).latch w l = x ∧
        (∀ k, k ≠ l → (s.latchPut w l x).latch w k = s.latch w k) ∧ s.OnlyWaits w l (s.latchPut w l x) ∧
        (s.latchPut w l x).mem = s.mem ∧ (s.latchPut w l x).regs = s.regs ∧ (s.latchPut w l x).od = s.od := by
      intro x
      obtain ⟨u, hu⟩ := State.latchPut_setWing x hup
      refine ⟨by rw [State.latch_latchPut x hup, if_pos rfl], fun k hk => by rw [State.latch_latchPut x hup, if_neg hk],
        State.onlyWaits_latchPut x hup, ?_⟩
      rw [hu]
      exact ⟨rfl, rfl, rfl⟩
    refine ⟨⟨s.latchPut w l (v.setWidth 32), ?_, hleaves _⟩, ⟨s.latchPut w l (s.latch w l + v.setWidth 32), ?_, hleaves _⟩, ?_⟩
    · rw [exec_latchSetWrite, execLatchSetWrite]
      exact hput _
    · rw [exec_latchAddWrite, execLatchAddWrite]
      refine (act_congr ?_).trans (hput _)
      rfl
    · intro c hc hop hst hwait hlatch hv
      refine ⟨s.latchPut w l (v.setWidth 32), ?_, State.hasSeen_latchPut hup hc hop hst hwait hlatch hv, fun hseen hown =>
        State.cmd_latchPut_committed hup hc hop hst hwait hlatch hv hseen hown⟩
      rw [exec_latchSetWrite, execLatchSetWrite]
      exact hput _

end Sys2Proof.Machine
end


section
/-! PROOFS. Contexts become ACTIVE, KILLED and FREE (R160, R265, R268, R269). -/

namespace Sys2Proof.Machine

/-! ### What the end of a command leaves -/

/-- What of a state no end of a command changes: what reads neither the rooms, the wings, the tier nor the counts of
0x3111 and 0x3112. -/
structure EndFrame {γ : Type} (P : State → γ) : Prop where
  room : ∀ t g v, P (State.setRoom t g v) = P t
  wing : ∀ t w v, P (State.setWing t w v) = P t
  tier : ∀ (t : State) (v : Tier), P { t with tier := v } = P t
  stalled : ∀ t k n, P (State.incEnt t 0x3111 k n) = P t
  late : ∀ t, P (State.incEnt t 0x3112 1 1) = P t

namespace EndFrame

variable {γ : Type} {P : State → γ} (hP : EndFrame P) (s : State)
include hP

theorem putCmd (w : Nat) (c : Cmd) : P (s.putCmd w c) = P s := hP.wing _ _ _

theorem dropWaiter (key : Nat) : P (s.dropWaiter key) = P s := by
  unfold State.dropWaiter
  dsimp only
  rw [hP.tier, each_keeps P _ fun e t => hP.stalled t _ _]

theorem absorbCmd (g : Nat) (c : Cmd) : P (s.absorbCmd g c) = P s := by
  unfold State.absorbCmd
  dsimp only
  split
  · exact hP.room _ _ _
  · split
    · exact hP.room _ _ _
    · split
      · exact hP.room _ _ _
      · rfl

theorem absorbEnded (g id : Nat) : P (s.absorbEnded g id) = P s := by
  unfold State.absorbEnded
  dsimp only
  rw [each_keeps P _ fun e t => hP.absorbCmd t _ _]
  split
  · rfl
  · exact hP.room _ _ _

theorem absorb (g : Nat) (l : List Nat) : P (s.absorb g l) = P s := by
  induction l generalizing s with
  | nil => rfl
  | cons id t ih =>
    unfold State.absorb
    split
    · split
      · rfl
      · split
        · exact ih s
        · rw [ih, hP.absorbEnded, hP.putCmd, hP.absorbCmd]
    · exact ih s

theorem absorbUnissued (g : Nat) (c : Cmd) : P (s.absorbUnissued g c) = P s := by
  unfold State.absorbUnissued
  dsimp only
  split
  · exact hP.absorbCmd _ _ _
  · exact hP.room _ _ _

theorem endCmd (w id : Nat) (st : BitVec 5) : P (s.endCmd w id st) = P s := by
  have hcount : ∀ t : State, P (if st = stTIER_LATE then t.incEnt 0x3112 1 1 else t) = P t := fun t => by
    split
    · exact hP.late t
    · rfl
  unfold State.endCmd
  split
  · rfl
  · split
    · rfl
    · dsimp only
      split
      · split
        · split
          · rw [hP.absorbUnissued, hcount, hP.dropWaiter, hP.putCmd]
          · rw [hcount, hP.dropWaiter, hP.putCmd]
        · rw [hP.absorb, hP.room, hcount, hP.dropWaiter, hP.putCmd]
      · rw [hcount, hP.dropWaiter, hP.putCmd]

theorem stopCmd (hunwait : ∀ t w id, P (State.unwait t w id) = P t) (w id : Nat) (st : BitVec 5) :
    P (s.stopCmd w id st) = P s := by
  unfold State.stopCmd
  split
  · rfl
  · split
    · rfl
    · rw [hunwait, hP.endCmd]

end EndFrame

theorem State.incEnt_ent_ne (s : State) {i k j l : Nat} (n : Nat) (h : dictKey j l ≠ dictKey i k) :
    (s.incEnt i k n).ent j l = s.ent j l := by
  unfold incEnt
  split
  · exact s.ent_setEnt_ne _ _ _ _ _ h
  · rfl

/-- The counts of 0x3111 have small subindices. -/
theorem lt_of_dictEntry_3111 {k : Nat} {r : DRow} (h : dictEntry 0x3111 k = some r) : k < 256 := by
  unfold dictEntry at h
  split at h
  · omega
  · have hrow := List.find?_some h
    have hsmall : ∀ r ∈ dictRows 0x3111, r.s1 < 256 := by decide
    have hlt := hsmall r (List.mem_of_find?_eq_some h)
    simp only [Bool.and_eq_true, decide_eq_true_eq] at hrow
    omega

/-- An entry other than the counts of 0x3111 and 0x3112 is as before the end of a command. -/
theorem EndFrame.of_ent {j l : Nat} (hj : j ≠ 0x3111) (hj' : j ≠ 0x3112) (hl : l < 256) :
    EndFrame (fun s : State => s.ent j l) where
  room _ _ _ := rfl
  wing _ _ _ := rfl
  tier _ _ := rfl
  stalled t k n := by
    unfold State.incEnt
    cases hd : dictEntry 0x3111 k with
    | none => rfl
    | some r => exact t.ent_setEnt_ne _ _ _ _ _ (dictKey_ne _ _ _ _ (lt_of_dictEntry_3111 hd) hl (by omega))
  late t := t.incEnt_ent_ne 1 (dictKey_ne _ _ _ _ (by decide) hl (by omega))

/-! ### The state of a context (R265) -/

section
variable (s : State)

/-- The entry that holds the state of context `c`. -/
theorem State.ctxState_setCtxState (c v : Nat) : (s.setCtxState c v).ctxState c = v := by
  unfold ctxState setCtxState
  split <;> exact s.ent_setEnt_same _ _ _

theorem State.ctxState_of_ent {s t : State} {c : Nat} (hc : c < 256)
    (h : ∀ j l, j = 0x8101 ∨ j = 0x8102 → l < 256 → t.ent j l = s.ent j l) : t.ctxState c = s.ctxState c := by
  unfold ctxState
  split
  · exact h _ _ (.inl rfl) (by omega)
  · exact h _ _ (.inr rfl) (by omega)

theorem State.ctxState_of_od {s t : State} (h : t.od = s.od) (c : Nat) : t.ctxState c = s.ctxState c := by
  simp only [ctxState, ent, h]

/-- What is kept by a write of an entry is kept by a change of a context's state. -/
theorem State.setCtxState_keeps {γ : Type} (P : State → γ) (h : ∀ i k v, P (s.setEnt i k v) = P s) (c v : Nat) :
    P (s.setCtxState c v) = P s := by
  unfold setCtxState
  split <;> exact h _ _ _

/-! ### ACTIVE and FREE (R268, R269) -/

theorem State.activate_of_ok {s : State} {c : Nat} {r : Context} (hfree : s.ctxState c = 0) (h : s.readContext c none = .ok r) :
    (s.activate c).2 = (s.setCtx c r).setCtxState c 1 := by
  unfold activate
  rw [if_neg (by simp [hfree]), h]

theorem State.activate_of_error {s : State} {c : Nat} {e : Nat × Nat} (hfree : s.ctxState c = 0)
    (h : s.readContext c none = .error e) : (s.activate c).2 = s.refuseCtx c e := by
  unfold activate
  rw [if_neg (by simp [hfree]), h]

theorem State.freeCtx_of_idle {s : State} {c : Nat} (hlive : s.ctxState c ≠ 0) (hq : s.queuesOf c = []) (hk : s.cmdsOf c = []) :
    (s.freeCtx c).2 = (s.forgetCtx c).freeContext c := by
  unfold freeCtx
  rw [if_neg hlive, if_neg (by simp [hq, hk])]

theorem State.freeCtx_of_busy {s : State} {c : Nat} (hlive : s.ctxState c ≠ 0) (h : s.queuesOf c ≠ [] ∨ s.cmdsOf c ≠ []) :
    (s.freeCtx c).2 = s := by
  unfold freeCtx
  rw [if_neg hlive, if_pos h]

theorem State.killCtx_of_active {s : State} {c : Nat} (h : s.ctxState c = 1) : (s.killCtx c).2 = s.killContext c stKILLED := by
  unfold killCtx
  exact congrArg Prod.snd (if_neg (by simp [h]))

/-- What neither the entries, the tier nor the records of contexts change, a context that becomes FREE leaves. -/
theorem State.freeContext_keeps {γ : Type} (P : State → γ) (c : Nat) (hent : ∀ t i k v, P (State.setEnt t i k v) = P t)
    (htier : ∀ (t : State) (v : Tier), P { t with tier := v } = P t)
    (hctxs : ∀ (t : State) v, P { t with ctxs := v } = P t) : P (s.freeContext c) = P s := by
  calc P (s.freeContext c) = P ((s.setCtxState c 0).owePins c) := hctxs _ _
    _ = P (s.setCtxState c 0) := htier _ _
    _ = P s := s.setCtxState_keeps P (hent s) c 0

theorem State.ctxState_freeContext (c : Nat) : (s.freeContext c).ctxState c = 0 :=
  (State.ctxState_of_od rfl c).trans (s.ctxState_setCtxState c 0)

theorem State.ctxRec_freeContext (c : Nat) : (s.freeContext c).ctxRec c = Context.reset :=
  (tget_tdel ..).trans (if_pos rfl)

/-- No fault or translation of a context is held once it is forgotten. -/
theorem State.forgetCtx_holds_none (c : Nat) : (∀ f ∈ (s.forgetCtx c).faults, f.ctx ≠ c) ∧
    (∀ w ∈ (s.forgetCtx c).wings, ∀ e ∈ w.2.tlb, e.ctx ≠ c) ∧ ∀ r ∈ (s.forgetCtx c).rooms, ∀ e ∈ r.2.utlb, e.ctx ≠ c := by
  refine ⟨fun f hf => ?_, fun w hw e he => ?_, fun r hr e he => ?_⟩
  · simpa using (List.mem_filter.1 hf).2
  · obtain ⟨v, -, rfl⟩ := List.mem_map.1 hw
    simpa using (List.mem_filter.1 he).2
  · obtain ⟨v, -, rfl⟩ := List.mem_map.1 hr
    simpa using (List.mem_filter.1 he).2

/-- A context that becomes FREE holds nothing, and neither memory nor a register changes. -/
theorem State.freed_kept (c : Nat) : ((s.forgetCtx c).freeContext c).todo = s.todo ∧
    ((s.forgetCtx c).freeContext c).pending = s.pending ∧ ((s.forgetCtx c).freeContext c).faults = (s.forgetCtx c).faults ∧
    ((s.forgetCtx c).freeContext c).wings = (s.forgetCtx c).wings ∧
    ((s.forgetCtx c).freeContext c).rooms = (s.forgetCtx c).rooms ∧ ((s.forgetCtx c).freeContext c).mem = s.mem ∧
    ((s.forgetCtx c).freeContext c).regs = s.regs := by
  refine ⟨?_, ?_, ?_, ?_, ?_, ?_, ?_⟩
  · exact State.freeContext_keeps _ State.todo c State.setEnt_todo (fun _ _ => rfl) fun _ _ => rfl
  · exact State.freeContext_keeps _ State.pending c State.setEnt_pending (fun _ _ => rfl) fun _ _ => rfl
  · exact State.freeContext_keeps _ State.faults c State.setEnt_faults (fun _ _ => rfl) fun _ _ => rfl
  · exact State.freeContext_keeps _ State.wings c State.setEnt_wings (fun _ _ => rfl) fun _ _ => rfl
  · exact State.freeContext_keeps _ State.rooms c State.setEnt_rooms (fun _ _ => rfl) fun _ _ => rfl
  · exact State.freeContext_keeps _ State.mem c State.setEnt_mem (fun _ _ => rfl) fun _ _ => rfl
  · exact State.freeContext_keeps _ State.regs c State.setEnt_regs (fun _ _ => rfl) fun _ _ => rfl

/-! ### What a kill leaves (R160, R269) -/

/-- The port rows of a context's DRAINs are discarded (R121). -/
def State.dropPort (s : State) (c : Nat) : State :=
  { s with rooms := s.rooms.map fun r =>
      if r.2.port.any fun p => p.ctx = c then (r.1, { r.2 with port := r.2.port.filter fun p => p.ctx ≠ c }) else r }

/-- The commands of a context end with `st`, and its queues are disabled. -/
def State.endsOf (s : State) (c : Nat) (st : BitVec 5) : State :=
  let t := each (s.cmdsOf c) (fun x s => s.stopCmd x.1 x.2 st) s
  each (t.queuesOf c) (fun x s => s.disableQueue x) t

theorem State.killContext_of_active {s : State} {c : Nat} (st : BitVec 5) (h : s.ctxState c = 1) :
    ∃ ran : List (Nat × Room), s.killContext c st =
      (each ran (fun r s => s.shelfClear r.1) ((((s.setCtxState c 2).owePins c).endsOf c st).forgetCtx c)).dropPort c := by
  unfold killContext
  rw [if_neg (by simp [h])]
  exact ⟨_, rfl⟩

theorem State.mem_port_dropPort {c : Nat} {r : Nat × Room} (hr : r ∈ (s.dropPort c).rooms) {p : PortRow} (hp : p ∈ r.2.port) :
    p.ctx ≠ c := by
  obtain ⟨v, -, rfl⟩ := List.mem_map.1 hr
  by_cases hv : (v.2.port.any fun p => decide (p.ctx = c)) = true
  · rw [if_pos hv] at hp
    simpa using (List.mem_filter.1 hp).2
  · rw [if_neg hv] at hp
    simpa using fun hpc : p.ctx = c => hv (List.any_eq_true.2 ⟨p, hp, by simpa using hpc⟩)

theorem State.ent_endsOf (c : Nat) (st : BitVec 5) {j l : Nat} (hj : j = 0x8101 ∨ j = 0x8102) (hl : l < 256) :
    (s.endsOf c st).ent j l = s.ent j l := by
  have hend : EndFrame (fun s : State => s.ent j l) := .of_ent (by omega) (by omega) hl
  exact (each_keeps (fun s : State => s.ent j l) (fun (x : Nat × Nat) t => t.disableQueue x)
    (fun _ t => State.setRegF_ent t _ _ _ _ _ _) _ _).trans
    (each_keeps (fun s : State => s.ent j l) (fun (x : Nat × Nat) t => t.stopCmd x.1 x.2 st)
      (fun x t => hend.stopCmd t (fun _ _ _ => rfl) _ _ _) _ _)

theorem State.shelfClear_keeps {γ : Type} (P : State → γ) (h : ∀ t g v, P (State.setRoom t g v) = P t)
    (ran : List (Nat × Room)) : P (each ran (fun r s => s.shelfClear r.1) s) = P s :=
  each_keeps P _ (fun _ _ => h _ _ _) ran s

theorem State.killContext_leaves {s : State} {c : Nat} (hc : c < 256) (st : BitVec 5) (h : s.ctxState c = 1) :
    (s.killContext c st).ctxState c = 2 ∧ (∀ f ∈ (s.killContext c st).faults, f.ctx ≠ c) ∧
    ∀ r ∈ (s.killContext c st).rooms, ∀ p ∈ r.2.port, p.ctx ≠ c := by
  obtain ⟨ran, hkill⟩ := State.killContext_of_active st h
  rw [hkill]
  refine ⟨?_, fun f hf => ?_, fun r hr p hp => State.mem_port_dropPort _ hr hp⟩
  · refine (State.ctxState_of_ent (s := s.setCtxState c 2) hc fun j l hj hl => ?_).trans (s.ctxState_setCtxState c 2)
    refine (State.shelfClear_keeps _ (fun t : State => t.ent j l) (fun _ _ _ => rfl) ran).trans ?_
    exact State.ent_endsOf _ c st hj hl
  · have hkept := State.shelfClear_keeps ((((s.setCtxState c 2).owePins c).endsOf c st).forgetCtx c) State.faults
      (fun _ _ _ => rfl) ran
    exact (State.forgetCtx_holds_none _ c).1 f (hkept ▸ hf)

end

/-! ### The statement -/

/-- Settles O12: each change of a context's state is its own case of `activate`, `killCtx` and `freeCtx`; what a kill
leaves is read off its parts, of which only the first writes the context's state. -/
theorem contexts : Obligations.Contexts := by
  refine ⟨fun s c hs hc => ?_, fun s c hc h => State.killContext_leaves hc stKILLED h⟩
  have hok : decide (c < 256) = true := decide_eq_true hc
  refine ⟨fun r hon hfree hr => ?_, fun e hon hfree he => ?_, fun hact => ?_, fun hlive hq hk => ?_, fun hlive hbusy => ?_⟩
  · rw [exec_contextActivate, execContextActivate]
    refine act_keeps hok ((if_pos hon).trans (State.activate_of_ok hfree hr)) ⟨?_, ?_⟩ hs
    · exact State.setCtxState_keeps _ State.todo (State.setEnt_todo _) c 1
    · exact State.setCtxState_keeps _ State.pending (State.setEnt_pending _) c 1
  · rw [exec_contextActivate, execContextActivate]
    exact act_keeps hok ((if_pos hon).trans (State.activate_of_error hfree he))
      ⟨s.setEnt_todo _ _ _, s.setEnt_pending _ _ _⟩ hs
  · rw [exec_contextKill, execContextKill]
    exact act_gives_of hok (State.killCtx_of_active hact)
  · rw [exec_contextFree, execContextFree]
    obtain ⟨htodo, hpending, hf, hw, hr, hmem, hregs⟩ := s.freed_kept c
    obtain ⟨hfaults, hwings, hrooms⟩ := s.forgetCtx_holds_none c
    refine ⟨_, act_keeps hok (State.freeCtx_of_idle hlive hq hk) ⟨htodo, hpending⟩ hs, State.ctxState_freeContext _ c,
      State.ctxRec_freeContext _ c, ?_, ?_, ?_, hmem, hregs⟩
    · rwa [hf]
    · rwa [hw]
    · rwa [hr]
  · rw [exec_contextFree, execContextFree]
    exact act_stays hok (State.freeCtx_of_busy hlive hbusy) hs

end Sys2Proof.Machine
end


section
/-! PROOFS. Page walks, fault rings, the answers to faults, and the invalidation of translations (R272 to R283). -/

namespace Sys2Proof.Machine

/-! ### The fault of a PTE (R272, R273) -/

section
variable {p : Nat} (level access : Nat)

theorem pteFault_of_invalid (h : bitOf p 0 = false) : pteFault p level access = some 0 := if_pos (by simp [h])

theorem pteFault_of_reserved (hv : bitOf p 0 = true) (h : fld p 60 54 ≠ 0 ∨ (bitOf p 2 = true ∧ bitOf p 1 = false)) :
    pteFault p level access = some 5 := by
  unfold pteFault
  rw [if_neg (by simp [hv]), if_pos (by simpa using h)]

theorem pteFault_of_pointer_at_zero (hv : bitOf p 0 = true) (h1 : bitOf p 1 = false) (h2 : bitOf p 2 = false)
    (h3 : bitOf p 3 = false) (hf : fld p 60 54 = 0) : pteFault p 0 access = some 5 := by
  unfold pteFault
  rw [if_neg (by simp [hv]), if_neg (by simp [hf, h2]), if_pos (by simp [pteLeaf, h1, h3]), if_pos (.inl rfl)]

/-- The fault of a leaf that reads, by the access. -/
def leafFault (p access : Nat) : Option Nat :=
  if (access = 1 ∨ access = 2) ∧ bitOf p 2 = false then some 2
  else if bitOf p 6 = false then some 3
  else if (access = 1 ∨ access = 2) ∧ bitOf p 7 = false then some 4
  else none

theorem pteFault_of_leaf (hv : bitOf p 0 = true) (hf : fld p 60 54 = 0) (h1 : bitOf p 1 = true) (h63 : bitOf p 63 = false)
    (hlevel : level < 3) (hppn : ptePpn p % 2 ^ (9 * level) = 0) : pteFault p level access = leafFault p access := by
  unfold pteFault leafFault
  rw [if_neg (by simp [hv]), if_neg (by simp [hf, h1]), if_neg (by simp [pteLeaf, h1]), if_neg (by omega),
    if_neg (by simp [h63]), if_neg (by simp [hppn])]
  simp [h1]

end

/-! ### The end of a walk (R274 to R277) -/

section
variable {s : State} {d c page : Nat}

/-- What the accesses that joined a walk see of its end. -/
def State.walkEnds (s : State) (d c : Nat) (ks : List Walk) : WalkEnd → State
  | .entry e => each ks (fun k s => s.giveEntry e k) s
  | .fault cause level => each ks (fun k s => s.pageFault k cause level) s
  | .held => s
  | .refused pa => s.capture d (accReport 0x21 (agentNo d 0x0A 0) 5 pa (some c))
  | .walker pa => s.capture d (accReport 0x23 (agentNo d 0x0A 0) 5 pa (some c))
  | .poison pa => each ks (fun k s => s.stopCmd k.wing k.cmd stPOISON)
      (s.capture d (accReport 0x15 (agentNo d 0x0A 0) 5 pa (some c)))

theorem State.walkDone_of_running {k : Walk} {ks : List Walk} (hup : s.dieUp d = true)
    (hks : (s.die d).walks.filter (fun k => k.ctx = c && k.page = page) = k :: ks) (hrun : (c, page) ∈ (s.die d).walking) :
    s.walkDone d c page = if (s.walk d c k.va k.access).1 = .held then s else
      (((s.walk d c k.va k.access).2.incEnt 0x8122 (d + 1) 1).endWalk d c page).walkEnds d c (k :: ks)
        (s.walk d c k.va k.access).1 := by
  unfold walkDone
  dsimp only
  rw [hks]
  dsimp only
  rw [if_neg (by simp [hup, hrun])]
  generalize s.walk d c k.va k.access = r
  obtain ⟨x, t⟩ := r
  cases x <;> rfl

end

/-! ### Fault rings (R278, R279) -/

section
variable {s : State} {i : Nat}

theorem State.drainFaults_of_none (h : ∀ f ∈ s.faults, f.suite = i → f.inRing = true) (n : Nat) : s.drainFaults i n = s := by
  cases n with
  | zero => rfl
  | succ n =>
    have hnone : s.faults.find? (fun f => f.suite = i && !f.inRing) = none :=
      List.find?_eq_none.2 fun f hf => by simpa using h f hf
    unfold drainFaults
    rw [hnone]
    split <;> rfl

theorem State.drainFaults_of_closed (h : s.ringOpen i = false) (n : Nat) : s.drainFaults i n = s := by
  cases n with
  | zero => rfl
  | succ n =>
    unfold drainFaults
    exact if_neg (by simp [h])

/-- A fault ring that is enabled anew: empty, in its first pass. -/
def State.ringBegun (s : State) (i : Nat) : State :=
  ((({ s with mgmt := { s.mgmt with fpass := s.mgmt.fpass.filter fun x => x ≠ i } } : State).setEnt (0x8110 + i) 5 0).setEnt
    (0x8110 + i) 6 0).setEnt (0x8110 + i) 8 1

theorem State.enableRing_of_quiet (hoff : s.ent (0x8110 + i) 8 ≠ 1) (h : ∀ f ∈ s.faults, f.suite = i → f.inRing = true) :
    s.enableRing i = s.ringBegun i := by
  unfold enableRing
  rw [if_neg hoff]
  exact State.drainFaults_of_none (s := s.ringBegun i) h _

theorem State.ent_ringBegun (s : State) (i : Nat) : (s.ringBegun i).ent (0x8110 + i) 5 = 0 ∧
    (s.ringBegun i).ent (0x8110 + i) 6 = 0 ∧ (s.ringBegun i).ent (0x8110 + i) 8 = 1 := by
  refine ⟨?_, ?_, State.ent_setEnt_same _ _ _ _⟩
  · rw [ringBegun, State.ent_setEnt_ne _ _ _ _ _ _ (by unfold dictKey; omega),
      State.ent_setEnt_ne _ _ _ _ _ _ (by unfold dictKey; omega), State.ent_setEnt_same]
  · rw [ringBegun, State.ent_setEnt_ne _ _ _ _ _ _ (by unfold dictKey; omega), State.ent_setEnt_same]

/-! ### Answers to faults (R280) -/

theorem State.fileFault_of_none (h : ∀ u ∈ s.unfiled, (s.ctxRec u.1.ctx).suite ≠ i) : s.fileFault i = s := by
  have hnone : s.unfiled.find? (fun u => decide ((s.ctxRec u.1.ctx).suite = i)) = none :=
    List.find?_eq_none.2 fun u hu => by simpa using h u hu
  unfold fileFault
  rw [hnone]
  split <;> rfl

theorem State.resumeFault_of_some {fid : BitVec 32} {f : Fault277} (h : s.faultOf i fid = some f) :
    s.resumeFault i fid = (s.dropFault f).fileFault i := by
  unfold resumeFault
  rw [h]

theorem State.resumeFault_of_none {fid : BitVec 32} (h : s.faultOf i fid = none) : s.resumeFault i fid = s.strayAnswer i := by
  unfold resumeFault
  rw [h]

theorem State.cancelFault_of_some {fid : BitVec 32} {f : Fault277} (h : s.faultOf i fid = some f) : s.cancelFault i fid =
    (each f.waits (fun x s => s.stopCmd x.1 x.2 stCANCELLED) (s.dropFault f)).fileFault i := by
  unfold cancelFault
  rw [h]

theorem State.cancelFault_of_none {fid : BitVec 32} (h : s.faultOf i fid = none) : s.cancelFault i fid = s.strayAnswer i := by
  unfold cancelFault
  rw [h]

/-- What neither a room nor a wing changes is kept when TLB entries are dropped. -/
theorem State.dropUtlb_keeps {γ : Type} (P : State → γ) (h : ∀ t g v, P (State.setRoom t g v) = P t) (t : State) (g : Nat)
    (p : TlbEntry → Bool) : P (t.dropUtlb g p) = P t := by
  unfold dropUtlb
  dsimp only
  split
  · rfl
  · exact h _ _ _

theorem State.dropWtlb_keeps {γ : Type} (P : State → γ) (h : ∀ t w v, P (State.setWing t w v) = P t) (t : State) (w : Nat)
    (p : TlbEntry → Bool) : P (t.dropWtlb w p) = P t := by
  unfold dropWtlb
  dsimp only
  split
  · rfl
  · exact h _ _ _

/-- The state as a page fault finds it: the page's TLB entries are gone. -/
def State.untranslated (s : State) (k : Walk) : State :=
  (s.dropUtlb (k.die * 64 + agentInst k.agent) fun e => e.covers k.ctx k.va).dropWtlb k.wing fun e => e.covers k.ctx k.va

theorem State.untranslated_keeps {γ : Type} (P : State → γ) (hroom : ∀ t g v, P (State.setRoom t g v) = P t)
    (hwing : ∀ t w v, P (State.setWing t w v) = P t) (k : Walk) : P (s.untranslated k) = P s :=
  (State.dropWtlb_keeps P hwing _ _ _).trans (State.dropUtlb_keeps P hroom _ _ _)

/-- A fault that a full buffer cannot take waits (R278). -/
theorem State.pageFault_of_full {k : Walk} (cause level : Nat) (hfull : s.bufferFull (s.ctxRec k.ctx).suite = true)
    (hclosed : s.ringOpen (s.ctxRec k.ctx).suite = false) (hnew : ∀ f ∈ s.faults, f.ctx ≠ k.ctx ∨ f.page ≠ k.page) :
    s.pageFault k cause level =
      { s.untranslated k with unfiled := (s.untranslated k).unfiled ++ [(k, cause, level)] } := by
  have hfaults : (s.untranslated k).faults = s.faults := State.untranslated_keeps State.faults (fun _ _ _ => rfl) (fun _ _ _ => rfl) k
  have hbuf : (s.untranslated k).bufferFull = s.bufferFull :=
    State.untranslated_keeps State.bufferFull (fun _ _ _ => rfl) (fun _ _ _ => rfl) k
  have hopen : (s.untranslated k).ringOpen = s.ringOpen :=
    State.untranslated_keeps State.ringOpen (fun _ _ _ => rfl) (fun _ _ _ => rfl) k
  have hrec : (s.untranslated k).ctxRec = s.ctxRec :=
    State.untranslated_keeps State.ctxRec (fun _ _ _ => rfl) (fun _ _ _ => rfl) k
  have hno : ¬ ((s.untranslated k).faults.any fun f => decide (f.ctx = k.ctx) && decide (f.page = k.page)) = true := by
    simp only [hfaults, List.any_eq_true, Bool.and_eq_true, decide_eq_true_eq, not_exists, not_and]
    exact fun f hf hc => (hnew f hf).resolve_left (Classical.not_not.2 hc)
  have hwaits : ((s.untranslated k).bufferFull ((s.untranslated k).ctxRec k.ctx).suite &&
      !(s.untranslated k).ringOpen ((s.untranslated k).ctxRec k.ctx).suite) = true := by
    simp [hbuf, hopen, hrec, hfull, hclosed]
  exact (if_neg hno).trans (if_pos hwaits)

end

/-! ### Invalidation (R282, R283) -/

section
variable {s : State}

theorem State.sfence_of_off (va : Option Nat) (h : s.on = false ∨ s.ent 0x8100 2 ≠ 1) : s.sfence va = s := by
  unfold sfence
  exact if_pos (by simpa using h)

theorem State.not_of_mem_dropPaged {p : TlbEntry → Bool} {w : Nat × Wing} (hw : w ∈ (s.dropPaged p).wings)
    (hup : s.dieUp (w.1 / 8) = true) {e : TlbEntry} (he : e ∈ w.2.tlb) : p e = false := by
  obtain ⟨v, -, rfl⟩ := List.mem_map.1 hw
  by_cases hv : s.dieUp (v.1 / 8) = true
  · rw [if_pos hv] at he
    simpa using (List.mem_filter.1 he).2
  · rw [if_neg hv] at hup
    exact absurd hup hv

theorem State.not_meets_of_mem_wings {c a b : Nat} {w : Nat × Wing} (hw : w ∈ (s.invalidate c a b).wings)
    (hsuite : s.suiteOfDie (w.1 / 8) = (s.ctxRec c).suite) {e : TlbEntry} (he : e ∈ w.2.tlb) : e.meets c a b = false := by
  obtain ⟨v, -, rfl⟩ := List.mem_map.1 hw
  by_cases hv : decide (s.suiteOfDie (v.1 / 8) = (s.ctxRec c).suite) = true
  · rw [if_pos hv] at he
    simpa using (List.mem_filter.1 he).2
  · rw [if_neg hv] at hsuite
    exact absurd (decide_eq_true hsuite) hv

theorem State.not_meets_of_mem_rooms {c a b : Nat} {r : Nat × Room} (hr : r ∈ (s.invalidate c a b).rooms)
    (hsuite : s.suiteOfDie (r.1 / 64) = (s.ctxRec c).suite) {e : TlbEntry} (he : e ∈ r.2.utlb) : e.meets c a b = false := by
  obtain ⟨v, -, rfl⟩ := List.mem_map.1 hr
  by_cases hv : decide (s.suiteOfDie (v.1 / 64) = (s.ctxRec c).suite) = true
  · rw [if_pos hv] at he
    simpa using (List.mem_filter.1 he).2
  · rw [if_neg hv] at hsuite
    exact absurd (decide_eq_true hsuite) hv

section
variable {w q : Nat} {c : Cmd} (h : s.begins w q 0x40 = some c)
include h

theorem State.beginInval_of_free (hfree : s.ctxState (invTarget c) = 0) :
    s.beginInval w q = s.putCmd w { c with st := .waiting } := by
  unfold beginInval
  rw [h]
  exact if_pos hfree

theorem State.beginInval_of_pages (hlive : s.ctxState (invTarget c) ≠ 0) (hpages : c.wd 2 ≠ 0) :
    s.beginInval w q = (s.invalidate (invTarget c) (fld (c.wd 1) 56 0) (fld (c.wd 1) 56 0 + c.wd 2 * 4096)).putCmd w
      { c with st := .waiting } := by
  unfold beginInval
  rw [h]
  exact (if_neg hlive).trans (if_pos hpages)

theorem State.beginInval_of_read {r : Context} (hlive : s.ctxState (invTarget c) ≠ 0) (hpages : c.wd 2 = 0)
    (hr : s.readContext (invTarget c) (some (s.ctxRec (invTarget c)).suite) = .ok r) :
    s.beginInval w q = ((s.invalidate (invTarget c) 0 (2 ^ 57)).setCtx (invTarget c) r).putCmd w { c with st := .waiting } := by
  unfold beginInval
  rw [h]
  dsimp only
  rw [if_neg hlive, if_neg (by simp [hpages]), hr]

theorem State.beginInval_of_refused {e : Nat × Nat} (hlive : s.ctxState (invTarget c) ≠ 0) (hpages : c.wd 2 = 0)
    (he : s.readContext (invTarget c) (some (s.ctxRec (invTarget c)).suite) = .error e) :
    s.beginInval w q = (s.refuseCtx (invTarget c) e).endCmd w c.id stUNSUP := by
  unfold beginInval
  rw [h]
  dsimp only
  rw [if_neg hlive, if_neg (by simp [hpages]), he]

end

theorem State.endInval_of_waiting {w q : Nat} {c : Cmd} (hup : s.wingUp w = true) (h : s.waitingCmd w q 0x40 = some c) :
    s.endInval w q = if s.translated (fun k => decide (k = invTarget c)) then s else
      (s.sendReduces fun d => decide (s.suiteOfDie d = (s.ctxRec (invTarget c)).suite)).doneOne w c := by
  unfold endInval
  rw [if_neg (by simp [hup]), h]

end

/-! ### The statements -/

/-- Settles O13: a walk that runs ends for each access that joined it as its outcome says, and the fault of a PTE follows
the order of its checks. -/
theorem walks : Obligations.Walks := by
  refine ⟨fun s d c page k ks hs hd hc hpage hup hks hrun => ?_, fun p level access => ⟨?_, ?_, ?_, ?_, ?_⟩⟩
  · rw [exec_walkComplete, execWalkComplete]
    refine act_gives_of (by simp only [hd, hc, hpage, decide_true, Bool.and_self]) ((State.walkDone_of_running hup hks hrun).trans ?_)
    generalize s.walk d c k.va k.access = r
    obtain ⟨x, t⟩ := r
    cases x <;> rfl
  · exact pteFault_of_invalid level access
  · exact fun hv hf => pteFault_of_reserved level access hv (.inl hf)
  · exact fun hv _ h2 h1 => pteFault_of_reserved level access hv (.inr ⟨h2, h1⟩)
  · rintro hv hf h2 h1 h3 rfl
    exact pteFault_of_pointer_at_zero access hv h1 h2 h3 hf
  · intro hv hf h1 h63 hlevel hppn
    rw [pteFault_of_leaf level access hv hf h1 h63 hlevel hppn]
    refine ⟨fun hw h2 => if_pos ⟨hw, h2⟩, fun hw hw' h6 => ?_, fun hw h2 h6 h7 => ?_, fun h2 h6 h7 => ?_⟩
    · rw [leafFault, if_neg (by simp [hw, hw']), if_pos h6]
    · rw [leafFault, if_neg (by simp [h2]), if_neg (by simp [h6]), if_pos ⟨hw, h7⟩]
    · rw [leafFault, if_neg (by simp [h2]), if_neg (by simp [h6]), if_neg (by simp [h7])]

/-- The first part of O14 (R278 to R280). -/
theorem fault_rings_and_answers (s : State) (i : Nat) (hs : s.Settled) (hi : i < 4) :
    exec (.faultBufferDrain i) s = s.gives (s.drainFaults i (s.faults.length + s.unfiled.length + 1)) ∧
    ((∀ f ∈ s.faults, f.suite = i → f.inRing = true) → exec (.faultBufferDrain i) s = .next s) ∧
    (s.ringOpen i = false → exec (.faultBufferDrain i) s = .next s) ∧
    (s.on = true → s.ringOk i = true → s.ent (0x8110 + i) 8 ≠ 1 → (∀ f ∈ s.faults, f.suite = i → f.inRing = true) →
      exec (.faultRingEnable i) s = .next (s.ringBegun i)) ∧
    (s.on = true → (s.ent (0x8110 + i) 8 = 1 ∨ s.ringOk i = false) → exec (.faultRingEnable i) s = .next s) ∧
    (∀ fid f, s.on = true → s.faultOf i fid = some f → exec (.resume i fid) s = s.gives ((s.dropFault f).fileFault i) ∧
      ((∀ u ∈ s.unfiled, (s.ctxRec u.1.ctx).suite ≠ i) → exec (.resume i fid) s = .next (s.dropFault f))) ∧
    (∀ fid f, s.on = true → s.faultOf i fid = some f → exec (.cancel i fid) s = s.gives
        ((each f.waits (fun x s => s.stopCmd x.1 x.2 stCANCELLED) (s.dropFault f)).fileFault i)) ∧
    (∀ fid, s.on = true → s.faultOf i fid = none → exec (.resume i fid) s = s.gives (s.strayAnswer i) ∧
      exec (.cancel i fid) s = s.gives (s.strayAnswer i)) := by
  have hok : decide (i < 4) = true := decide_eq_true hi
  rw [exec_faultBufferDrain, execFaultBufferDrain, exec_faultRingEnable, execFaultRingEnable]
  refine ⟨act_gives_of hok rfl, fun h => act_stays hok (State.drainFaults_of_none h _) hs,
    fun h => act_stays hok (State.drainFaults_of_closed h _) hs, fun hon hring hoff h => ?_, fun hon h => ?_,
    fun fid f hon hf => ?_, fun fid f hon hf => ?_, fun fid hon hf => ?_⟩
  · exact act_keeps hok ((if_pos (by simp [hon, hring])).trans (State.enableRing_of_quiet hoff h)) ⟨rfl, rfl⟩ hs
  · refine act_stays hok ?_ hs
    by_cases hring : s.ringOk i = true
    · rw [if_pos (by simp [hon, hring])]
      exact if_pos (h.resolve_right (by simp [hring]))
    · exact if_neg (by simp [hring])
  · rw [exec_resume, execResume]
    have hto : (if s.on then s.resumeFault i fid else s) = (s.dropFault f).fileFault i :=
      (if_pos hon).trans (State.resumeFault_of_some hf)
    refine ⟨act_gives_of hok hto, fun hnone => act_keeps hok (hto.trans ?_) ⟨rfl, rfl⟩ hs⟩
    exact State.fileFault_of_none (s := s.dropFault f) hnone
  · rw [exec_cancel, execCancel]
    exact act_gives_of hok ((if_pos hon).trans (State.cancelFault_of_some hf))
  · rw [exec_resume, execResume, exec_cancel, execCancel]
    exact ⟨act_gives_of hok ((if_pos hon).trans (State.resumeFault_of_none hf)),
      act_gives_of hok ((if_pos hon).trans (State.cancelFault_of_none hf))⟩

/-- The second part of O14 for the command and for a host core's fence (R282, R283). -/
theorem invalidations (s : State) (hs : s.Settled) : (∀ w q c, w < 32 → q < 128 → s.begins w q 0x40 = some c →
      (s.ctxState (invTarget c) ≠ 0 → c.wd 2 ≠ 0 → exec (.translationInvalidate w q) s = .next
        ((s.invalidate (invTarget c) (fld (c.wd 1) 56 0) (fld (c.wd 1) 56 0 + c.wd 2 * 4096)).putCmd w { c with st := .waiting })) ∧
      (∀ r, s.ctxState (invTarget c) ≠ 0 → c.wd 2 = 0 →
        s.readContext (invTarget c) (some (s.ctxRec (invTarget c)).suite) = .ok r → exec (.translationInvalidate w q) s = .next
        (((s.invalidate (invTarget c) 0 (2 ^ 57)).setCtx (invTarget c) r).putCmd w { c with st := .waiting })) ∧
      (s.ctxState (invTarget c) = 0 → exec (.translationInvalidate w q) s = .next (s.putCmd w { c with st := .waiting })) ∧
      (∀ e, s.ctxState (invTarget c) ≠ 0 → c.wd 2 = 0 →
        s.readContext (invTarget c) (some (s.ctxRec (invTarget c)).suite) = .error e →
        exec (.translationInvalidate w q) s = s.gives ((s.refuseCtx (invTarget c) e).endCmd w c.id stUNSUP))) ∧
    (∀ w q c, w < 32 → q < 128 → s.wingUp w = true → s.waitingCmd w q 0x40 = some c →
      (s.translated (fun k => decide (k = invTarget c)) = false → exec (.invalidateCommit w q) s = s.gives
        ((s.sendReduces fun d => decide (s.suiteOfDie d = (s.ctxRec (invTarget c)).suite)).doneOne w c)) ∧
      (s.translated (fun k => decide (k = invTarget c)) = true → exec (.invalidateCommit w q) s = .next s)) ∧
    (∀ va, s.on = false ∨ s.ent 0x8100 2 ≠ 1 → exec (.sfenceVma va) s = .next s) := by
  refine ⟨fun w q c hw hq h => ?_, fun w q c hw hq hup h => ?_, fun va h => ?_⟩
  · have hok : (decide (w < 32) && decide (q < 128)) = true := by simp [hw, hq]
    rw [exec_translationInvalidate, execTranslationInvalidate]
    exact ⟨fun hlive hp => act_keeps hok (State.beginInval_of_pages h hlive hp) ⟨rfl, rfl⟩ hs,
      fun r hlive hp hr => act_keeps hok (State.beginInval_of_read h hlive hp hr) ⟨rfl, rfl⟩ hs,
      fun hfree => act_keeps hok (State.beginInval_of_free h hfree) ⟨rfl, rfl⟩ hs,
      fun e hlive hp he => act_gives_of hok (State.beginInval_of_refused h hlive hp he)⟩
  · have hok : (decide (w < 32) && decide (q < 128)) = true := by simp [hw, hq]
    rw [exec_invalidateCommit, execInvalidateCommit]
    exact ⟨fun hno => act_gives_of hok ((State.endInval_of_waiting hup h).trans (if_neg (by simp [hno]))),
      fun hyes => act_stays hok ((State.endInval_of_waiting hup h).trans (if_pos hyes)) hs⟩
  · rw [exec_sfenceVma, execSfenceVma]
    exact act_stays rfl (State.sfence_of_off va h) hs

/-- Settles O14: fault rings and answers by the cases of their operations, an unfiled fault by `pageFault_of_full`, and the
entries that an invalidation leaves by their membership in what it keeps. -/
theorem faultsAndInvalidation : Obligations.FaultsAndInvalidation := by
  refine ⟨fun s i hs hi => ?_, fun s hs => ?_⟩
  · obtain ⟨hdrain, hquiet, hclosed, hbegin, hno, hresume, hcancel, hstray⟩ := fault_rings_and_answers s i hs hi
    refine ⟨hdrain, hquiet, hclosed, fun hon hring hoff h => ?_, hno, hresume, hcancel, fun k cause level hfull hcl hnew => ?_,
      hstray⟩
    · obtain ⟨h5, h6, h8⟩ := s.ent_ringBegun i
      exact ⟨_, hbegin hon hring hoff h, h5, h6, h8, rfl, rfl⟩
    · rw [State.pageFault_of_full cause level hfull hcl hnew]
      refine ⟨?_, congrArg (· ++ [(k, cause, level)]) ?_, ?_, ?_⟩
      · exact State.untranslated_keeps State.faults (fun _ _ _ => rfl) (fun _ _ _ => rfl) k
      · exact State.untranslated_keeps State.unfiled (fun _ _ _ => rfl) (fun _ _ _ => rfl) k
      · exact State.untranslated_keeps State.mem (fun _ _ _ => rfl) (fun _ _ _ => rfl) k
      · exact State.untranslated_keeps State.od (fun _ _ _ => rfl) (fun _ _ _ => rfl) k
  · obtain ⟨hbegins, hend, hoff⟩ := invalidations s hs
    refine ⟨fun w q c hw hq h => ?_, fun w q c r hw hq h => ?_, fun w q c hw hq h => ?_, fun w q c e hw hq h => ?_, hend,
      fun c a b w hw hsuite e he => State.not_meets_of_mem_wings hw hsuite he,
      fun c a b r hr hsuite e he => State.not_meets_of_mem_rooms hr hsuite he, fun va hon hen => ⟨rfl, ?_⟩, hoff,
      fun p w hw hup e he => State.not_of_mem_dropPaged hw hup he⟩
    · obtain ⟨hpages, -⟩ := hbegins w q c hw hq h
      exact hpages
    · obtain ⟨-, hread, -⟩ := hbegins w q c hw hq h
      exact hread r
    · obtain ⟨-, -, hfree, -⟩ := hbegins w q c hw hq h
      exact hfree
    · obtain ⟨-, -, -, hrefused⟩ := hbegins w q c hw hq h
      exact hrefused e
    · rw [exec_sfenceVma, execSfenceVma]
      exact act_gives_of rfl (if_neg (by simp [hon, hen]))

end Sys2Proof.Machine
end


section
/-! PROOFS. The copy unit's commands: COPY, WRITE_REDUCE, TIER_PREFETCH and TIER_RELEASE (R141, R227, R256 to R259). -/

namespace Sys2Proof.Machine

section
variable {s : State} {g : Nat} {c : Cmd}

/-! ### COPY and WRITE_REDUCE -/

theorem State.goCopy_of_bad (h : s.headCmd g 2 0x20 = some c) (hpos : c.pos = 0)
    (hbad : copyOver c = true ∨ s.bothAway c = true) : s.goCopy g = s.endCmd (g / 8) c.id stUNSUP := by
  unfold goCopy
  rw [h]
  exact if_pos (by simpa [hpos] using hbad)

theorem State.goCopy_of_ready (h : s.headCmd g 2 0x20 = some c)
    (hgood : c.pos ≠ 0 ∨ (copyOver c = false ∧ s.bothAway c = false)) (hgo : c.deadline = none ∨ c.st ≠ .issued) :
    s.goCopy g = s.copyTiles g c.id (c.tiles + 1) := by
  have hgood' : ¬ (decide (c.pos = 0) && (copyOver c || s.bothAway c)) = true := by
    obtain hp | ⟨ho, ha⟩ := hgood
    · simp [hp]
    · simp [ho, ha]
  have hgo' : ¬ (c.deadline.isSome && decide (c.st = .issued)) = true := by
    obtain hd | hst := hgo
    · simp [hd]
    · simp [hst]
  unfold goCopy
  rw [h]
  exact (if_neg hgood').trans (if_neg hgo')

theorem State.goReduce_of_past (h : s.headCmd g 2 0x21 = some c) (hpos : c.pos = 0)
    (hpast : (locOf (c.wd 1) 0).past (c.f 3 31 0) = true) : s.goReduce g = s.endCmd (g / 8) c.id stUNSUP := by
  unfold goReduce
  rw [h]
  exact if_pos (by simp [hpos, hpast])

theorem State.goReduce_of_within (h : s.headCmd g 2 0x21 = some c)
    (hpast : (locOf (c.wd 1) 0).past (c.f 3 31 0) = false) : s.goReduce g = s.reduceChunks g c.id (c.tiles + 1) := by
  unfold goReduce
  rw [h]
  exact if_neg (by simp [hpast])

/-! ### TIER_PREFETCH and TIER_RELEASE -/

theorem State.goPrefetch_of_no_deadline (h : s.headCmd g 2 0x22 = some c) (hd : c.deadline = none) : s.goPrefetch g =
    (s.putCmd (g / 8) { c with st := .running }).prefetchFrom g c (c.f 2 31 0 - c.pos) c.pos true := by
  unfold goPrefetch
  rw [h]
  dsimp only
  rw [hd]
  rfl

theorem State.goRelease_of_idle (h : s.headCmd g 2 0x23 = some c) (hbusy : c.busy = false) : s.goRelease g =
    (s.putCmd (g / 8) { c with st := .running }).releaseFrom g c (c.f 2 31 0 - c.pos) c.pos := by
  unfold goRelease
  rw [h]
  exact if_neg (by simp [hbusy])

theorem State.releaseDone_of_busy {t : Nat} {s' : State} (h : s.headCmd g 2 0x23 = some c) (hbusy : c.busy = true)
    (htile : s.tileAt g c c.pos = (.tile t, s')) : s.releaseDone g =
    ((s.ageOut t).putCmd (g / 8) { c with busy := false, prog := c.pos + 1, pos := c.pos + 1 }).pump.releaseFrom g
      { c with busy := false, prog := c.pos + 1, pos := c.pos + 1 } (c.f 2 31 0 - (c.pos + 1)) (c.pos + 1) := by
  unfold releaseDone
  rw [h]
  dsimp only
  rw [if_neg (by simp [hbusy]), htile]

/-! ### A deadline that passes (R256, R258) -/

/-- The engine's operation on a command that still waits for its tiles when its deadline passes. -/
def State.tries (s : State) (g op : Nat) : State :=
  if op = 1 then s.goMatmul g else if op = 2 then s.startLoad g else if op = 0x20 then s.goCopy g else s.goPrefetch g

theorem State.expire_of_deadline {e d : Nat} (hup : s.roomUp g = true) (h : s.engineHead g e = some c)
    (hd : c.deadline = some d) (hop : c.op = 0x22 ∨ (c.st = .issued ∧ (c.op = 1 ∨ c.op = 2 ∨ c.op = 0x20))) :
    s.expire g e = (s.advance d).tries g c.op := by
  unfold expire
  rw [if_neg (by simp [hup]), h]
  dsimp only
  rw [hd]
  obtain hop | ⟨hst, hop | hop | hop⟩ := hop
  · simp [tries, hop]
  all_goals simp [tries, hop, hst]

end

/-! ### The statement -/

/-- Settles O20: each command at the head of its copy unit is a case of its operation, and a deadline that passes lets the
engine's operation look at the tiles once more. -/
theorem copyUnitCommands : Obligations.CopyUnit := by
  intro s g c hs hg
  have hok : decide (g < 256) = true := decide_eq_true hg
  have hok0 : (decide (g < 256) && (decide (0 = 0) || decide (0 = 2))) = true := by simp [hg]
  have hok2 : (decide (g < 256) && (decide (2 = 0) || decide (2 = 2))) = true := by simp [hg]
  rw [exec_copy, execCopy, exec_writeReduce, execWriteReduce, exec_tierPrefetch, execTierPrefetch, exec_tierRelease,
    execTierRelease, exec_tierReleaseTileDone, execTierReleaseTileDone, exec_tierDeadlineExpiry, exec_tierDeadlineExpiry,
    execTierDeadlineExpiry, execTierDeadlineExpiry]
  refine ⟨fun h hpos hbad => act_gives_of hok (State.goCopy_of_bad h hpos hbad),
    fun h hgood hgo => act_gives_of hok (State.goCopy_of_ready h hgood hgo),
    fun h hpos hpast => act_gives_of hok (State.goReduce_of_past h hpos hpast),
    fun h hpast => act_gives_of hok (State.goReduce_of_within h hpast),
    fun h hd => act_gives_of hok (State.goPrefetch_of_no_deadline h hd),
    fun h hbusy => act_gives_of hok (State.goRelease_of_idle h hbusy),
    fun t s' h hbusy htile => act_gives_of hok (State.releaseDone_of_busy h hbusy htile),
    fun d hup h hd hop hst => act_gives_of hok0 ?_, fun d hup h hd hop hst => act_gives_of hok0 ?_,
    fun d hup h hd hop hst => act_gives_of hok2 ?_, fun d hup h hd hop => act_gives_of hok2 ?_⟩
  · rw [State.expire_of_deadline hup h hd (.inr ⟨hst, .inl hop⟩), hop]
    exact if_pos rfl
  · rw [State.expire_of_deadline hup h hd (.inr ⟨hst, .inr (.inl hop)⟩), hop]
    exact (if_neg (by decide)).trans (if_pos rfl)
  · rw [State.expire_of_deadline hup h hd (.inr ⟨hst, .inr (.inr hop)⟩), hop]
    exact (if_neg (by decide)).trans ((if_neg (by decide)).trans (if_pos rfl))
  · rw [State.expire_of_deadline hup h hd (.inl hop), hop]
    exact (if_neg (by decide)).trans ((if_neg (by decide)).trans (if_neg (by decide)))

end Sys2Proof.Machine
end


section
/-! PROOFS. The stack controllers: rows, refresh, scrubs, bands, error counts and the merge buffer (R208, R218 to R224,
R231, R347). -/

namespace Sys2Proof.Machine

section
variable {s : State} {j : Nat}

/-! ### Refresh and scrubs (R218, R219) -/

theorem State.refreshBank_of_running (k : Nat) (hup : s.stackUp j = true) (hcrit : s.critical j = false) :
    s.refreshBank j k = s.setStack j { s.stack j with
      refresh := tput 0 k ((tget 0 (s.stack j).refresh k + 8) % 65536) (s.stack j).refresh } := by
  unfold refreshBank
  exact if_neg (by simp [hup, hcrit])

theorem State.patrol_of_never (h : s.ent 0x3015 (j + 1) = 0) : s.patrol j = s := by
  unfold patrol
  exact if_pos (by simp [h])

/-- A stack whose zero scrub has ended. -/
def State.zeroed (s : State) (j : Nat) : State :=
  let t := s.zeroStack j
  (((t.setStack j { t.stack j with scrubbing := false }).setEnt 0x3016 (j + 1) 0).setEnt 0x3019 (j + 1) 0).setRegF
    (paStack j 0) 4 4 0

theorem State.endScrub_of_scrubbing (hon : (s.stack j).scrubbing = true) (hcrit : s.critical j = false)
    (hup : s.stackUp j = true) : s.endScrub j = s.zeroed j := by
  unfold endScrub
  exact if_neg (by simp [hon, hcrit, hup])

theorem State.mem_zeroed (s : State) (j : Nat) : (s.zeroed j).mem = (s.zeroStack j).mem := State.setRegF_mem _ _ _ _ _
theorem State.code_zeroed (s : State) (j : Nat) : (s.zeroed j).code = (s.zeroStack j).code := State.setRegF_code _ _ _ _ _

/-- Every byte of the stack reads zero after its scrub. -/
theorem State.byte_zeroed_of_mem {a : Nat} (hlo : (j + 1) * 2 ^ 36 ≤ a) (hhi : a < (j + 2) * 2 ^ 36) :
    (s.zeroed j).byte a = 0#8 ∧ tget 0#16 (s.zeroed j).code a = 0#16 := by
  have hin : (decide (a < (j + 1) * 2 ^ 36) || decide ((j + 1) * 2 ^ 36 + 2 ^ 36 ≤ a)) = false := by
    simp only [Bool.or_eq_false_iff, decide_eq_false_iff_not]
    omega
  constructor
  · rw [byte, State.mem_zeroed]
    exact tget_filter_out 0#8 s.mem a (fun a => decide (a < (j + 1) * 2 ^ 36) || decide ((j + 1) * 2 ^ 36 + 2 ^ 36 ≤ a)) hin
  · rw [State.code_zeroed]
    exact tget_filter_out 0#16 s.code a (fun a => decide (a < (j + 1) * 2 ^ 36) || decide ((j + 1) * 2 ^ 36 + 2 ^ 36 ≤ a)) hin

theorem State.byte_zeroed_of_out {a : Nat} (h : a < (j + 1) * 2 ^ 36 ∨ (j + 2) * 2 ^ 36 ≤ a) :
    (s.zeroed j).byte a = s.byte a := by
  have hout : (decide (a < (j + 1) * 2 ^ 36) || decide ((j + 1) * 2 ^ 36 + 2 ^ 36 ≤ a)) = true := by
    have hend : (j + 1) * 2 ^ 36 + 2 ^ 36 = (j + 2) * 2 ^ 36 := by omega
    rw [hend, Bool.or_eq_true, decide_eq_true_eq, decide_eq_true_eq]
    exact h
  rw [byte, State.mem_zeroed]
  exact tget_filter 0#8 s.mem a (fun a => decide (a < (j + 1) * 2 ^ 36) || decide ((j + 1) * 2 ^ 36 + 2 ^ 36 ≤ a)) hout

theorem State.zeroed_ends (s : State) (j : Nat) : ((s.zeroed j).stack j).scrubbing = false ∧
    (s.zeroed j).ent 0x3016 (j + 1) = 0 ∧ (s.zeroed j).ent 0x3019 (j + 1) = 0 := by
  refine ⟨?_, ?_, ?_⟩
  · have hst : (s.zeroed j).stack j = { (s.zeroStack j).stack j with scrubbing := false } := by
      rw [zeroed, stack, State.setRegF_stk, State.setEnt_stk, State.setEnt_stk]
      exact (State.stack_setStack ..).trans (if_pos rfl)
    rw [hst]
  · rw [zeroed, State.setRegF_ent, State.ent_setEnt_ne _ _ _ _ _ _ (by unfold dictKey; omega), State.ent_setEnt_same]
  · rw [zeroed, State.setRegF_ent, State.ent_setEnt_same]

/-! ### Bands (R220, R347) -/

/-- A stack that notes a temperature sample. -/
def State.sampled (s : State) (j x : Nat) : State :=
  let k := (s.setEnt 0x3011 (j + 1) (min 255 x)).showStack j
  k.setStack j { k.stack j with
    coolAt := coolSince (decide (x + 3 ≤ 85)) (s.stack j).coolAt s.house
    mildAt := coolSince (decide (x + 3 ≤ 95)) (s.stack j).mildAt s.house }

/-- What a shown stack changes is registers only. -/
theorem State.showStack_keeps {γ : Type} (P : State → γ) (h : ∀ t pa hi lo v, P (State.setRegF t pa hi lo v) = P t) (t : State) :
    P (t.showStack j) = P t := by
  unfold showStack
  dsimp only
  rw [h, h, h, h]

theorem State.ent_sampled (s : State) (j x : Nat) : (s.sampled j x).ent 0x3010 (j + 1) = s.ent 0x3010 (j + 1) := by
  rw [sampled, State.setStack_ent, State.showStack_keeps (fun t => t.ent 0x3010 (j + 1)) fun t _ _ _ _ => t.setRegF_ent _ _ _ _ _ _]
  exact s.ent_setEnt_ne _ _ _ _ _ (by unfold dictKey; omega)

/-- Whether a time since which every sample was low is 10 ms ago. -/
def State.longSince (s : State) (a : Option Nat) : Bool := a.any fun n => decide (n + 10000000 ≤ s.house)

theorem State.stackTemp_of_up (x : Nat) (hup : s.stackUp j = true) : s.stackTemp j x =
    if s.ent 0x3010 (j + 1) < bandOf x then (s.sampled j x).setBand j (bandOf x)
    else if s.ent 0x3010 (j + 1) = 3 then (if x ≤ 102 then (s.sampled j x).setBand j 2 else s.sampled j x)
    else if 0 < s.ent 0x3010 (j + 1) ∧ s.longSince (coolSince (decide (x + 3 ≤ 85)) (s.stack j).coolAt s.house) = true then
      (s.sampled j x).setBand j 0
    else if s.ent 0x3010 (j + 1) = 2 ∧ s.longSince (coolSince (decide (x + 3 ≤ 95)) (s.stack j).mildAt s.house) = true then
      (s.sampled j x).setBand j 1
    else s.sampled j x := by
  have hstk : ((s.setEnt 0x3011 (j + 1) (min 255 x)).showStack j).stack j = s.stack j :=
    State.showStack_keeps (fun t => t.stack j) (fun t _ _ _ _ => by simp only [stack, State.setRegF_stk]) _
  have hhouse : ((s.setEnt 0x3011 (j + 1) (min 255 x)).showStack j).house = s.house :=
    State.showStack_keeps State.house State.setRegF_house _
  have hband := s.ent_sampled j x
  have hlong : (s.sampled j x).house = s.house := by rw [sampled, State.setStack_house, hhouse]
  unfold sampled at hband hlong
  dsimp only at hband hlong
  unfold stackTemp sampled longSince
  rw [if_neg (by simp [hup])]
  dsimp only [bandTop]
  simp only [hstk, hhouse, if_true, if_neg (show ¬ (1 : Nat) = 0 by decide)] at hband hlong ⊢
  rw [hband, hlong]

theorem bandOf_le_two {x : Nat} (h : x ≤ 102) : bandOf x ≤ 2 := by
  unfold bandOf
  split
  · omega
  · split
    · omega
    · exact Nat.le_of_eq (if_pos (by omega))

theorem State.critTimeout_of_not_critical (h : s.critical j = false) : s.critTimeout j = s := by
  unfold critTimeout
  exact if_pos (by simp [h])

theorem State.ent_critTimeout (hup : s.stackUp j = true) (h : s.critical j = true) : (s.critTimeout j).ent 0x4041 (j + 1) = 0 := by
  unfold critTimeout
  rw [if_neg (by simp [hup, h])]
  exact State.ent_setEnt_same _ _ _ _

/-! ### Error counts and the merge buffer (R224, R231) -/

theorem State.readClear_of_desc {pa : Nat} {d : RegDesc} (h : regDesc pa = some d) :
    s.readClear pa = (s.emit (.regRead pa (s.reg pa))).setReg pa (s.reg pa &&& ~~~d.rc) := by
  unfold readClear
  rw [h]

theorem State.mergeFlush_of_copy {line : Nat} {l : LineData} {x : LineData × State} (h : s.mergeCopy line = some l)
    (hx : x = s.mergeRead ⟨homeAgent (line * 64), 1, none⟩ line l) : s.mergeFlush j line =
    (x.2.setStack j { x.2.stack j with
      merge := (x.2.stack j).merge.filter fun e => decide (e.1 ≠ line)
      mcode := (x.2.stack j).mcode.filter fun e => decide (e.1 / 64 ≠ line) }).writeLine line x.1 := by
  unfold mergeFlush
  rw [h, hx]

end

/-! ### The statement -/

/-- The band that a temperature sample leaves (R220), by the order of the checks of `stackTemp_of_up`. -/
theorem exec_stackTempSample_band (s : State) {j : Nat} (hj : j < 12) (x : Nat) (hup : s.stackUp j = true) :
    (s.ent 0x3010 (j + 1) < bandOf x → exec (.stackTempSample j x) s = s.gives ((s.sampled j x).setBand j (bandOf x)).rerun) ∧
    (s.ent 0x3010 (j + 1) = 3 → x ≤ 102 → exec (.stackTempSample j x) s = s.gives ((s.sampled j x).setBand j 2).rerun) ∧
    (∀ b, b = s.ent 0x3010 (j + 1) → b = 1 ∨ b = 2 → bandOf x ≤ b → exec (.stackTempSample j x) s = s.gives (State.rerun
      (if s.longSince (coolSince (decide (x + 3 ≤ 85)) (s.stack j).coolAt s.house) = true then (s.sampled j x).setBand j 0
       else if b = 2 ∧ s.longSince (coolSince (decide (x + 3 ≤ 95)) (s.stack j).mildAt s.house) = true then
        (s.sampled j x).setBand j 1
       else s.sampled j x))) ∧
    (s.ent 0x3010 (j + 1) = 0 → bandOf x = 0 → exec (.stackTempSample j x) s = s.gives (s.sampled j x).rerun) := by
  rw [exec_stackTempSample, execStackTempSample]
  have hgives {t : State} (h : s.stackTemp j x = t) :
      act (decide (j < 12)) (fun s => (s.stackTemp j x).rerun) s = s.gives t.rerun :=
    act_gives_of (decide_eq_true hj) (congrArg State.rerun h)
  refine ⟨fun h => hgives ?_, fun h3 hx => hgives ?_, fun b hb h12 hle => hgives ?_, fun h0 hx => hgives ?_⟩
  · rw [State.stackTemp_of_up x hup, if_pos h]
  · have hle := bandOf_le_two hx
    rw [State.stackTemp_of_up x hup, if_neg (by omega), if_pos h3, if_pos hx]
  · rw [State.stackTemp_of_up x hup, ← hb, if_neg (by omega), if_neg (by omega)]
    simp only [show 0 < b by omega, true_and]
  · rw [State.stackTemp_of_up x hup, h0, hx]
    simp

/-- Settles O35: each operation of a stack controller by its case; a zero scrub by what it keeps of memory, and a sample by
the order of the band's checks. -/
theorem stackControllers : Obligations.StackControllers := by
  intro s j hs hj
  have hok : decide (j < 12) = true := decide_eq_true hj
  have hrow {ch b : Nat} (hch : ch < 32) (hb : b < 16) : (decide (j < 12) && decide (ch < 32) && decide (b < 16)) = true := by
    simp [hj, hch, hb]
  refine ⟨fun ch b hch hb => ?_, fun ch b hch hb hup hcrit => ?_, fun hup hcrit hno hen => ?_, fun h => ?_, fun h => ?_, fun h => ?_,
    fun hon hcrit hup => ?_, fun x k t hup hk ht => ?_, fun hup h => ?_, fun hup h => ?_, fun d hup hd => ?_,
    fun line l x hline hup hcrit hl hx => ?_⟩
  · rw [exec_rowClose, execRowClose]
    exact act_keeps (hrow hch hb) rfl ⟨rfl, rfl⟩ hs
  · rw [exec_perBankRefresh, execPerBankRefresh]
    exact act_keeps (hrow hch hb) (State.refreshBank_of_running _ hup hcrit) ⟨rfl, rfl⟩ hs
  · rw [exec_patrolScrubRead, execPatrolScrubRead]
    exact act_gives_of hok rfl
  · rw [exec_patrolScrubRead, execPatrolScrubRead]
    exact act_stays hok (State.patrol_of_never h) hs
  · rw [exec_zeroScrubStart, execZeroScrubStart]
    exact act_keeps hok (if_pos h) ⟨State.setRegF_todo _ _ _ _ _, State.setRegF_pending _ _ _ _ _⟩ hs
  · rw [exec_zeroScrubStart, execZeroScrubStart]
    exact act_stays hok (if_neg (by simp [h])) hs
  · rw [exec_zeroScrubDone, execZeroScrubDone]
    obtain ⟨hscrub, h16, h19⟩ := s.zeroed_ends j
    exact ⟨_, act_keeps hok (State.endScrub_of_scrubbing hon hcrit hup)
      ⟨State.setRegF_todo _ _ _ _ _, State.setRegF_pending _ _ _ _ _⟩ hs, fun a => State.byte_zeroed_of_mem,
      fun a => State.byte_zeroed_of_out, hscrub, h16, h19⟩
  · subst hk ht
    exact exec_stackTempSample_band s hj x hup
  · rw [exec_stackCriticalTimeout, execStackCriticalTimeout]
    exact act_stays hok (State.critTimeout_of_not_critical h) hs
  · rw [exec_stackCriticalTimeout, execStackCriticalTimeout]
    exact ⟨act_gives_of hok rfl, State.ent_critTimeout hup h⟩
  · rw [exec_scerrRead, execScerrRead]
    refine act_keeps hok ((if_pos hup).trans (State.readClear_of_desc hd)) ⟨?_, ?_⟩ hs
    · rw [State.setReg_todo, State.emit_todo]
    · rw [State.setReg_pending, State.emit_pending]
  · rw [exec_mergeBufferFlush, execMergeBufferFlush]
    exact act_gives_of (by simp [hj, hline]) ((if_neg (by simp [hup, hcrit])).trans (State.mergeFlush_of_copy hl hx))

end Sys2Proof.Machine
end


section
/-! PROOFS. Reduce lines, the wing caches' registers and operations, and requests at a home (R179, R187 to R205). -/

namespace Sys2Proof.Machine

section
variable {s : State} {w h line : Nat}

/-! ### Reduce lines (R179) -/

theorem State.rlineBack_of_none (hr : (s.rlinesOf h).find? (fun r => decide (r.line = line)) = none) : s.rlineBack h line = s := by
  unfold rlineBack
  rw [hr]

theorem State.rlineBack_of_some {r : RLine} (hr : (s.rlinesOf h).find? (fun r => decide (r.line = line)) = some r) :
    s.rlineBack h line = ((s.rlineRead h ⟨holderAgent h, 1, none⟩ r).2.setRlines h
      (((s.rlineRead h ⟨holderAgent h, 1, none⟩ r).2.rlinesOf h).filter fun r => decide (r.line ≠ line))).unitWrite
        ⟨holderAgent h, 1, none⟩ line fullMask (s.rlineRead h ⟨holderAgent h, 1, none⟩ r).1 none := by
  unfold rlineBack
  rw [hr]

theorem State.rlineTimeout_of_none (hr : (s.rlinesOf h).find? (fun r => decide (r.line = line)) = none) :
    s.rlineTimeout h line = s := by
  unfold rlineTimeout
  rw [hr]

theorem State.rlineTimeout_of_some {r : RLine} (hr : (s.rlinesOf h).find? (fun r => decide (r.line = line)) = some r) :
    s.rlineTimeout h line = (s.advance (r.time + 64000)).rlineBack h line := by
  unfold rlineTimeout
  rw [hr]

/-! ### The registers and operations of a wing cache (R191 to R193) -/

theorem State.wccfg_of_locked {v : Nat} (hup : s.wingUp w = true) (hlock : 12 < popCount 16 (fld v 47 32)) :
    s.wccfg w v = s.setRegF (paCache w 8) 16 16 1 := by
  unfold wccfg
  rw [if_neg (by simp [hup]), if_pos hlock]

theorem State.wccfg_of_good {v : Nat} (hup : s.wingUp w = true) (hlock : popCount 16 (fld v 47 32) ≤ 12) : s.wccfg w v =
    (s.setReg (paCache w 0) (BitVec.ofNat 64 (fld v 48 16 * 2 ^ 16 + max 16 (min 256 (fld v 8 0))))).retryFills w := by
  unfold wccfg
  rw [if_neg (by simp [hup]), if_neg (by omega)]

/-- A wing cache on which an operation of WCOP has begun. -/
def State.wcopBegun (s : State) (w op : Nat) : State :=
  (s.setCache w { s.cache w with op := op }).setRegF (paCache w 0x10) 2 2 1

theorem State.wcop_of_idle {op : Nat} (hup : s.wingUp w = true) (hidle : (s.cache w).op = 0) (hop : 0 < op) (hop' : op ≤ 3) :
    s.wcop w op = (s.wcopBegun w op).flushOp w op := by
  unfold wcop
  exact if_neg (by simp [hup, hidle]; omega)

theorem State.wcop_of_busy (op : Nat) (hbusy : (s.cache w).op ≠ 0) : s.wcop w op = s := if_pos (by simp [hbusy])

theorem State.lock_wcopBegun (op : Nat) : (s.wcopBegun w op).regF (paCache w 0) 47 32 = s.regF (paCache w 0) 47 32 :=
  (State.regF_setRegF_ne _ _ _ _ _ _ (by unfold paCache; omega)).trans rfl

theorem State.flushOp_clean (s : State) (w : Nat) : s.flushOp w 1 = s.flushCache w fun _ => .clean := rfl
theorem State.flushOp_flush_all (s : State) (w : Nat) :
    s.flushOp w 3 = (s.flushCache w fun _ => .flush).setRegF (paCache w 0) 47 32 0 := rfl

theorem State.flushOp_flush (s : State) (w : Nat) :
    s.flushOp w 2 = s.flushCache w fun n => if bitOf (s.regF (paCache w 0) 47 32) n then .none else .flush := by
  have hop : s.flushOp w 2 = s.flushCache w fun n =>
      if 2 = 1 then .clean else if 2 = 3 || !bitOf (s.regF (paCache w 0) 47 32) n then .flush else .none := rfl
  rw [hop]
  refine congrArg (s.flushCache w) (funext fun n => ?_)
  cases bitOf (s.regF (paCache w 0) 47 32) n <;> rfl

/-- The ways that stay disabled when mask `m` is enabled. -/
def State.waysLeft (s : State) (w : Nat) (m : BitVec 16) : Nat := s.regF (paCache w 8) 47 32 &&& (65535 - m.toNat)

theorem State.bitOf_waysLeft (m : BitVec 16) {n : Nat} (hn : n < 16) :
    bitOf (s.waysLeft w m) n = (bitOf (s.regF (paCache w 8) 47 32) n && !m.getLsbD n) := by
  have hm : (65535 - m.toNat).testBit n = !m.toNat.testBit n := by
    have hsub : 65535 - m.toNat = 2 ^ 16 - (m.toNat + 1) := by omega
    rw [hsub, Nat.testBit_two_pow_sub_succ m.isLt]
    simp [hn]
  rw [waysLeft, bitOf_eq_testBit, bitOf_eq_testBit, Nat.testBit_and, hm]
  rfl

/-- A wing cache whose ways in `m` are enabled. -/
def State.waysEnabled (s : State) (w : Nat) (m : BitVec 16) : State :=
  (s.setRegF (paCache w 8) 47 32 (s.waysLeft w m)).setEnt (0x5230 + w / 8) (w % 8 + 1) (s.waysLeft w m)

theorem State.enableWays_of_up (m : BitVec 16) (hup : s.wingUp w = true) :
    s.enableWays w m.toNat = (s.waysEnabled w m).retryFills w := by
  have hmod : m.toNat % 65536 = m.toNat := Nat.mod_eq_of_lt m.isLt
  unfold enableWays
  rw [if_neg (by simp [hup]), hmod]
  rfl

theorem State.regF_waysEnabled (m : BitVec 16) : (s.waysEnabled w m).regF (paCache w 8) 47 32 = s.waysLeft w m := by
  have hlt : s.waysLeft w m < 2 ^ 16 := Nat.lt_of_le_of_lt Nat.and_le_left (fld_lt _ _ _)
  rw [waysEnabled, State.setEnt_regF]
  generalize s.waysLeft w m = v at hlt ⊢
  rw [State.regF_setRegF_same _ _ _ _ (by decide)]
  exact Nat.mod_eq_of_lt hlt

/-! ### The Landing and holds (R195, R205) -/

theorem State.landSend_of_held {e : LandLine} (hup : s.wingUp w = true)
    (he : (s.cache w).landing.find? (fun e => !e.sent) = some e) : s.landSend w = s.landSendLine w e := by
  unfold landSend
  rw [he]
  exact if_pos hup

theorem State.landSend_of_none (he : (s.cache w).landing.find? (fun e => !e.sent) = none) : s.landSend w = s := by
  unfold landSend
  rw [he]

theorem State.net_landSendLine (s : State) (w : Nat) (e : LandLine) : (s.landSendLine w e).net =
    (s.readLanded w e.line e.l).2.net ++ [.wb w e.line (s.readLanded w e.line e.l).1] := rfl

theorem State.length_landing_landSendLine (s : State) (w : Nat) (e : LandLine) :
    ((s.landSendLine w e).cache w).landing.length = ((s.readLanded w e.line e.l).2.cache w).landing.length := by
  have hcache : (s.landSendLine w e).cache w = { (s.readLanded w e.line e.l).2.cache w with
      landing := ((s.readLanded w e.line e.l).2.cache w).landing.map fun x =>
        if x = e then { x with sent := true, l := (s.readLanded w e.line e.l).1 } else x } :=
    (State.cache_setCache ..).trans (if_pos rfl)
  rw [hcache, List.length_map]

theorem State.holdOver_of_some {a t : Nat} (ht : (s.held a line).bind (fun c => c.hold) = some t) :
    s.holdOver a line = ((s.advance (t + s.holdNs a)).endHold a line).retryFills a := by
  unfold holdOver
  rw [ht]

theorem State.holdOver_of_none {a : Nat} (ht : (s.held a line).bind (fun c => c.hold) = none) :
    s.holdOver a line = (s.endHold a line).retryFills a := by
  unfold holdOver
  rw [ht]

end

/-! ### Requests at a home -/

section
variable {s : State} {line : Nat} {r : HomeReq}

/-- Whether a line's home can be reached from die `d`. -/
def State.homeUp (s : State) (d line : Nat) : Bool :=
  match regionOf (line * 64) with
  | .stack j => s.dieUp (j / 3) && !s.hallCut d (j / 3)
  | _ => s.on

/-- Whether what goes from die `d` to a line's home finds it lost. -/
def State.homeLost (s : State) (d line : Nat) : Bool :=
  match regionOf (line * 64) with
  | .stack j => !s.dieUp (j / 3) || s.hallCut d (j / 3)
  | _ => !s.on

theorem State.homeLost_eq (d line : Nat) : s.homeLost d line = !s.homeUp d line := by
  unfold homeLost homeUp
  cases regionOf (line * 64) with
  | stack j => rw [Bool.not_and, Bool.not_not]
  | _ => rfl

theorem State.homeTake_of_lost (h : s.homeUp (agentDie (reqWho r).master) line = false) :
    s.homeTake line r = { s with net := s.net ++ lostAnswer line r } := by
  have hlost : s.homeLost (agentDie (reqWho r).master) line = true := by rw [State.homeLost_eq, h]; rfl
  exact if_pos hlost

theorem State.homeTake_of_up (h : s.homeUp (agentDie (reqWho r).master) line = true) :
    (∀ src, s.homeRefuses line r = some src → s.homeTake line r = if agentDie (reqWho r).master < 4 then
      s.capture (agentDie (reqWho r).master)
        (accReport src (reqWho r).master (reqWho r).access (line * 64) (s.unitCtx (reqWho r).master)) else s) ∧
    (s.homeRefuses line r = none → s.homeTake line r =
      if s.hallHeld (agentDie (reqWho r).master) (homeDie line) || (s.needsDies line r && s.stackHeld line) then
        s.defer (.req line r)
      else if s.homeBusy line then { s with lineQ := s.lineQ ++ [(line, r)] }
      else s.beginReq line r) := by
  have hup : ¬ s.homeLost (agentDie (reqWho r).master) line = true := by rw [State.homeLost_eq, h]; decide
  refine ⟨fun src hsrc => (if_neg hup).trans ?_, fun hsrc => (if_neg hup).trans ?_⟩ <;> rw [hsrc]

/-! ### Why a home refuses (R19, R219, R241, R243, R307) -/

theorem State.homeRefuses_of_stack {j : Nat} (hreg : regionOf (line * 64) = .stack j)
    (hunit : ¬ (agentDie (reqWho r).master = 4 ∧ agentClass (reqWho r).master = 0x14)) : s.homeRefuses line r =
    if s.stackShut j then some 0x21
    else if (s.poolFrame (line * 64)).isSome then (if outsideAperture (agentClass (reqWho r).master) then some 0x21 else none)
    else if agentDie (reqWho r).master < 4 ∧ s.suiteOfDie (agentDie (reqWho r).master) ≠ s.suiteOfStack j then some 0x21
    else none := by
  unfold homeRefuses
  rw [if_neg hunit, hreg]

theorem State.homeRefuses_of_host (hreg : regionOf (line * 64) = .host)
    (hunit : ¬ (agentDie (reqWho r).master = 4 ∧ agentClass (reqWho r).master = 0x14)) :
    s.homeRefuses line r = if r.writes && s.tierRegion (line * 64) then some 0x20 else none := by
  unfold homeRefuses
  rw [if_neg hunit, hreg]

end

/-! ### The commands that are requests -/

/-- A line of memory below the host's memory lies in a stack, and so does each of its bytes. -/
theorem regionOf_of_memLine {pa : Nat} (hline : memLine (pa / 64) = true) (hlow : pa / 64 < 0x00D000000000 / 64) :
    ∃ j, regionOf pa = .stack j := by
  simp only [memLine, Bool.or_eq_true, Bool.and_eq_true, decide_eq_true_eq] at hline
  refine ⟨pa / 2 ^ 36 - 1, ?_⟩
  unfold regionOf
  rw [if_neg (by omega), if_neg (by omega), if_pos (by omega)]

/-- A command is request `r` for a line: of a caching agent, once its earlier messages to the home have arrived, of a unit,
or of a Cistern's user. -/
def State.asks (s : State) (line : Nat) (c : Instr) (r : HomeReq) : Prop :=
  (∃ a, a < 40 ∧ s.cacheUp a = true ∧ s.net.any (fun m => decide (m.path = (cacheAgent a, true, homeAgent (line * 64)))) = false ∧
      (c = .rds a line ∧ r = .rds a ∨ c = .rdx a line ∧ r = .rdx a ∨ c = .upg a line ∧ r = .upg a ∨ c = .wro a line ∧ r = .wro a)) ∨
    (∃ src, c = .rdo src line ∧ r = .rdo src) ∨ (∃ src l p, c = .wrf src line l p ∧ r = .wrf src l p) ∨
    (∃ src m l, c = .wrp src line m l ∧ r = .wrp src m l) ∨
    (∃ src pa op x psn, pa < 2 ^ 56 ∧ pa / 64 = line ∧ line < 0x00D000000000 / 64 ∧ cisOpOk op.toNat = true ∧ c = .red src pa op x psn ∧
      r = .red src pa op x psn)

theorem State.agentAsks_of_clear {s : State} {a line : Nat} (r : HomeReq) (hup : s.cacheUp a = true)
    (hclear : s.net.any (fun m => decide (m.path = (cacheAgent a, true, homeAgent (line * 64)))) = false) :
    s.agentAsks a line r = s.homeTake line r := if_neg (by simp [hup, hclear])

/-- A command that is a request answers by what the home does for it. -/
theorem exec_home_request {s : State} {line : Nat} {c : Instr} {r : HomeReq} (hline : memLine line = true) (h : s.asks line c r) :
    ∃ ok f, exec c s = act ok f s ∧ ok = true ∧ f s = s.homeTake line r := by
  obtain ⟨a, ha, hup, hclear, hcr⟩ | ⟨src, rfl, rfl⟩ | ⟨src, l, p, rfl, rfl⟩ | ⟨src, m, l, rfl, rfl⟩ |
    ⟨src, pa, op, x, psn, hpa, rfl, hlow, hop, rfl, rfl⟩ := h
  · have hok : (decide (a < 40) && memLine line) = true := by simp [ha, hline]
    obtain ⟨rfl, rfl⟩ | ⟨rfl, rfl⟩ | ⟨rfl, rfl⟩ | ⟨rfl, rfl⟩ := hcr
    · exact ⟨_, fun s => s.agentAsks a line (.rds a), rfl, hok, State.agentAsks_of_clear _ hup hclear⟩
    · exact ⟨_, fun s => s.agentAsks a line (.rdx a), rfl, hok, State.agentAsks_of_clear _ hup hclear⟩
    · exact ⟨_, fun s => s.agentAsks a line (.upg a), rfl, hok, State.agentAsks_of_clear _ hup hclear⟩
    · exact ⟨_, fun s => s.agentAsks a line (.wro a), rfl, hok, State.agentAsks_of_clear _ hup hclear⟩
  · exact ⟨_, fun s => s.homeTake line (.rdo src), rfl, hline, rfl⟩
  · exact ⟨_, fun s => s.homeTake line (.wrf src l p), rfl, hline, rfl⟩
  · exact ⟨_, fun s => s.homeTake line (.wrp src m l), rfl, hline, rfl⟩
  · obtain ⟨j, hreg⟩ := regionOf_of_memLine hline hlow
    exact ⟨_, fun s => s.redTake src pa op.toNat x psn, rfl, decide_eq_true hpa, s.redTake_of_stack src x psn hreg hop⟩

/-! ### The statement -/

/-- The first part of O30: reduce lines, the registers and operations of wing caches, Landings and holds. -/
theorem cache_commands (s : State) (hs : s.Settled) :
    (∀ h line r, h < 36 → (s.rlinesOf h).find? (fun r => decide (r.line = line)) = some r →
      exec (.reduceLineWriteback h line) s = s.gives (s.rlineBack h line) ∧
      exec (.reduceLineTimeout h line) s = s.gives ((s.advance (r.time + 64000)).rlineBack h line)) ∧
    (∀ h line, h < 36 → (s.rlinesOf h).find? (fun r => decide (r.line = line)) = none →
      exec (.reduceLineWriteback h line) s = .next s ∧ exec (.reduceLineTimeout h line) s = .next s) ∧
    (∀ w v, w < 32 → s.wingUp w = true → 12 < popCount 16 (fld v.toNat 47 32) →
      exec (.wccfgWrite w v) s = .next (s.setRegF (paCache w 8) 16 16 1)) ∧
    (∀ w v, w < 32 → s.wingUp w = true → popCount 16 (fld v.toNat 47 32) ≤ 12 → exec (.wccfgWrite w v) s = s.gives
      ((s.setReg (paCache w 0) (BitVec.ofNat 64 (fld v.toNat 48 16 * 2 ^ 16 + max 16 (min 256 (fld v.toNat 8 0))))).retryFills w)) := by
  refine ⟨fun h line r hh hr => ?_, fun h line hh hr => ?_, fun w v hw hup hlock => ?_, fun w v hw hup hlock => ?_⟩
  · rw [exec_reduceLineWriteback, execReduceLineWriteback, exec_reduceLineTimeout, execReduceLineTimeout]
    exact ⟨act_gives_of (decide_eq_true hh) rfl, act_gives_of (decide_eq_true hh) (State.rlineTimeout_of_some hr)⟩
  · rw [exec_reduceLineWriteback, execReduceLineWriteback, exec_reduceLineTimeout, execReduceLineTimeout]
    exact ⟨act_stays (decide_eq_true hh) (State.rlineBack_of_none hr) hs,
      act_stays (decide_eq_true hh) (State.rlineTimeout_of_none hr) hs⟩
  · rw [exec_wccfgWrite, execWccfgWrite]
    exact act_keeps (decide_eq_true hw) (State.wccfg_of_locked hup hlock)
      ⟨State.setRegF_todo _ _ _ _ _, State.setRegF_pending _ _ _ _ _⟩ hs
  · rw [exec_wccfgWrite, execWccfgWrite]
    exact act_gives_of (decide_eq_true hw) (State.wccfg_of_good hup hlock)

/-- The operations of WCOP and the ways of a wing cache. -/
theorem wing_cache_operations (s : State) (hs : s.Settled) {w : Nat} (hw : w < 32) (hup : s.wingUp w = true) :
    ((s.cache w).op = 0 → exec (.clean w) s = s.gives ((s.wcopBegun w 1).flushOp w 1) ∧
      exec (.flush w) s = s.gives ((s.wcopBegun w 2).flushOp w 2) ∧
      exec (.flushAll w) s = s.gives ((s.wcopBegun w 3).flushOp w 3)) ∧
    (∀ c, (s.cache w).op ≠ 0 → c = .clean w ∨ c = .flush w ∨ c = .flushAll w → exec c s = .next s) ∧
    exec (.wcopDone w) s = .next ((s.setCache w { s.cache w with op := 0 }).setRegF (paCache w 0x10) 2 2 0) ∧
    (∀ m, exec (.wayReenable w m) s = s.gives ((s.waysEnabled w m).retryFills w)) := by
  have hok : decide (w < 32) = true := decide_eq_true hw
  rw [exec_clean, execClean, exec_flush, execFlush, exec_flushAll, execFlushAll, exec_wcopDone, execWcopDone]
  refine ⟨fun hidle => ⟨?_, ?_, ?_⟩, fun c hbusy hc => ?_, ?_, fun m => ?_⟩
  · exact act_gives_of hok (State.wcop_of_idle hup hidle (by decide) (by decide))
  · exact act_gives_of hok (State.wcop_of_idle hup hidle (by decide) (by decide))
  · exact act_gives_of hok (State.wcop_of_idle hup hidle (by decide) (by decide))
  · obtain rfl | rfl | rfl := hc
    · rw [exec_clean, execClean]
      exact act_stays hok (State.wcop_of_busy 1 hbusy) hs
    · rw [exec_flush, execFlush]
      exact act_stays hok (State.wcop_of_busy 2 hbusy) hs
    · rw [exec_flushAll, execFlushAll]
      exact act_stays hok (State.wcop_of_busy 3 hbusy) hs
  · exact act_keeps hok (if_neg (by simp [hup])) ⟨State.setRegF_todo _ _ _ _ _, State.setRegF_pending _ _ _ _ _⟩ hs
  · rw [exec_wayReenable, execWayReenable]
    exact act_gives_of hok (State.enableWays_of_up m hup)

/-- The second part of O30: what becomes of a request at its home. -/
theorem home_requests (s : State) (hs : s.Settled) {line : Nat} {c : Instr} {r : HomeReq} (hline : memLine line = true)
    (h : s.asks line c r) :
    (s.homeUp (agentDie (reqWho r).master) line = false → exec c s = .next { s with net := s.net ++ lostAnswer line r }) ∧
    (∀ src, s.homeUp (agentDie (reqWho r).master) line = true → s.homeRefuses line r = some src →
      exec c s = if agentDie (reqWho r).master < 4 then s.gives (s.capture (agentDie (reqWho r).master)
        (accReport src (reqWho r).master (reqWho r).access (line * 64) (s.unitCtx (reqWho r).master))) else .next s) ∧
    (∀ wait, wait = (s.hallHeld (agentDie (reqWho r).master) (homeDie line) || (s.needsDies line r && s.stackHeld line)) →
      s.homeUp (agentDie (reqWho r).master) line = true → s.homeRefuses line r = none →
      exec c s = if wait then .next { s with later := s.later ++ [.req line r] }
        else if s.homeBusy line then .next { s with lineQ := s.lineQ ++ [(line, r)] }
        else s.gives (s.beginReq line r)) := by
  obtain ⟨ok, f, hexec, hok, hf⟩ := exec_home_request hline h
  rw [hexec]
  refine ⟨fun hlost => ?_, fun src hup hsrc => ?_, fun wait hwait hup hnone => ?_⟩
  · exact act_keeps hok (hf.trans (State.homeTake_of_lost hlost)) ⟨rfl, rfl⟩ hs
  · have hto := hf.trans ((State.homeTake_of_up hup).1 src hsrc)
    split
    · next hd => exact act_gives_of hok (hto.trans (if_pos hd))
    · next hd => exact act_stays hok (hto.trans (if_neg hd)) hs
  · subst hwait
    have hto := hf.trans ((State.homeTake_of_up hup).2 hnone)
    split
    · next hw => exact act_keeps hok (hto.trans (if_pos hw)) ⟨rfl, rfl⟩ hs
    · next hw =>
      have hto' := hto.trans (if_neg hw)
      split
      · next hb => exact act_keeps hok (hto'.trans (if_pos hb)) ⟨rfl, rfl⟩ hs
      · next hb => exact act_gives_of hok (hto'.trans (if_neg hb))

/-- Settles O30: the commands of the caches by their cases; a request by whether its home is up, refuses it, and is busy. -/
theorem cachesAndHomes : Obligations.CachesAndHomes := by
  refine ⟨fun s hs => ?_, fun s line c r m hs hline hm hc => ?_⟩
  · obtain ⟨hreduce, hnoreduce, hlocked, hgood⟩ := cache_commands s hs
    refine ⟨fun h line r x hh hr hx => ?_, hnoreduce, hlocked, hgood, fun w hw hup hidle u hu => ?_, fun w c hw hup => ?_,
      fun w hw hup => ?_, fun w m u hw hup hu => ?_, fun w d hw hup hd => ?_, fun w e x hw hup he hx => ?_, fun w hw he => ?_,
      fun a line c t ha hline hc ht => ?_, fun a line ha hline ht => ?_⟩
    · obtain ⟨hback, htime⟩ := hreduce h line r hh hr
      rw [State.rlineBack_of_some hr] at hback
      subst hx
      exact ⟨hback, htime⟩
    · obtain ⟨hops, -⟩ := wing_cache_operations s hs hw hup
      obtain ⟨hclean, hflush, hall⟩ := hops hidle
      have hbegun (op : Nat) : u op = s.wcopBegun w op := hu op
      rw [State.flushOp_clean] at hclean
      rw [State.flushOp_flush, State.lock_wcopBegun] at hflush
      rw [State.flushOp_flush_all] at hall
      rw [hbegun, hbegun, hbegun]
      exact ⟨hclean, hflush, hall⟩
    · obtain ⟨-, hbusy, -⟩ := wing_cache_operations s hs hw hup
      exact hbusy c
    · obtain ⟨-, -, hdone, -⟩ := wing_cache_operations s hs hw hup
      exact hdone
    · obtain ⟨-, -, -, hways⟩ := wing_cache_operations s hs hw hup
      have hu' : u = s.waysEnabled w m := hu
      subst hu'
      rw [State.regF_waysEnabled]
      refine ⟨hways m, fun n hn => State.bitOf_waysLeft m hn, State.ent_setEnt_same _ _ _ _, ?_, ?_⟩
      · rw [State.waysEnabled, State.setEnt_caches, State.setRegF_caches]
      · rw [State.waysEnabled, State.setEnt_mem, State.setRegF_mem]
    · rw [exec_wclandRead, execWclandRead]
      refine act_keeps (decide_eq_true hw) ((if_pos hup).trans (State.readClear_of_desc hd)) ⟨?_, ?_⟩ hs
      · rw [State.setReg_todo, State.emit_todo]
      · rw [State.setReg_pending, State.emit_pending]
    · rw [exec_landingWbSend, execLandingWbSend]
      subst hx
      exact ⟨act_gives_of (decide_eq_true hw) (State.landSend_of_held hup he), s.net_landSendLine w e,
        s.length_landing_landSendLine w e⟩
    · rw [exec_landingWbSend, execLandingWbSend]
      exact act_stays (decide_eq_true hw) (State.landSend_of_none he) hs
    · rw [exec_holdExpiry, execHoldExpiry]
      exact act_gives_of (by simp [ha, hline]) (State.holdOver_of_some (by simp [hc, ht]))
    · rw [exec_holdExpiry, execHoldExpiry]
      exact act_gives_of (by simp [ha, hline]) (State.holdOver_of_none ht)
  · subst hm
    refine ⟨fun home hhome => ?_, fun j hreg hunit => ⟨fun h => ?_, fun h hp => ?_, fun h hp => ?_⟩, fun hreg hunit => ?_⟩
    · have hhome' : home = s.homeUp (agentDie (reqWho r).master) line := hhome
      subst hhome'
      exact home_requests s hs hline hc
    · rw [State.homeRefuses_of_stack hreg hunit, if_pos h]
    · rw [State.homeRefuses_of_stack hreg hunit, if_neg (by simp [h]), if_pos hp]
    · rw [State.homeRefuses_of_stack hreg hunit, if_neg (by simp [h]), if_neg (by simp [hp])]
    · exact State.homeRefuses_of_host hreg hunit

end Sys2Proof.Machine
end


section
/-! PROOFS. The entries of a table, as a list. -/

namespace Sys2Proof.Machine

section
variable {α : Type} {k j : Nat} {v : α} {t : Tab α}

theorem mem_tins {e : Nat × α} : e ∈ tins k v t ↔ e = (k, v) ∨ e ∈ t := by
  induction t with
  | nil => simp [tins]
  | cons x t ih =>
    obtain ⟨k', v'⟩ := x
    unfold tins
    split
    · simp
    · rw [List.mem_cons, ih, List.mem_cons]
      exact or_left_comm

theorem mem_tset {e : Nat × α} : e ∈ tset k v t ↔ e = (k, v) ∨ (e ∈ t ∧ e.1 ≠ k) := by
  rw [tset, mem_tins, tdel, List.mem_filter, decide_eq_true_eq]

theorem find?_tins_same (hk : ∀ e ∈ t, e.1 ≠ k) : (tins k v t).find? (fun e => decide (e.1 = k)) = some (k, v) := by
  induction t with
  | nil => simp [tins]
  | cons x t ih =>
    obtain ⟨k', v'⟩ := x
    have hx : k' ≠ k := hk (k', v') List.mem_cons_self
    unfold tins
    split
    · simp
    · rw [List.find?_cons_of_neg (by simpa using hx)]
      exact ih fun e he => hk e (List.mem_cons_of_mem _ he)

theorem find?_tins_ne (h : j ≠ k) : (tins k v t).find? (fun e => decide (e.1 = j)) = t.find? fun e => decide (e.1 = j) := by
  induction t with
  | nil => simp [tins, Ne.symm h]
  | cons x t ih =>
    obtain ⟨k', v'⟩ := x
    unfold tins
    split
    · rw [List.find?_cons_of_neg (by simpa using Ne.symm h)]
    · rw [List.find?_cons, List.find?_cons, ih]

theorem find?_tset_same : (tset k v t).find? (fun e => decide (e.1 = k)) = some (k, v) :=
  find?_tins_same fun e he => by simpa using (List.mem_filter.1 he).2

theorem find?_tset_ne (h : j ≠ k) : (tset k v t).find? (fun e => decide (e.1 = j)) = t.find? fun e => decide (e.1 = j) := by
  rw [tset, find?_tins_ne h, tdel, List.find?_filter]
  refine congrArg (fun p => List.find? p t) (funext fun e => ?_)
  by_cases he : e.1 = j
  · simp [he, h]
  · simp [he]

end

end Sys2Proof.Machine
end


section
/-! PROOFS. Coherence messages and the answers to snoops (R14, R195 to R205). -/

namespace Sys2Proof.Machine

section
variable {s : State} {a line : Nat}

/-! ### Messages that arrive (R14, R302) -/

/-- Whether a message arrives now. -/
def State.deliverable (s : State) (m : Msg) (line : Nat) : Prop :=
  m ∈ s.net ∧ s.firstOnPath m = m ∧ s.hallHeld (agentDie m.path.1) (homeDie line) = false

theorem State.deliverMsg_of_deliverable {m : Msg} (hline : m.about = line) (h : s.deliverable m line) :
    s.deliverMsg m = s.arrives m false := by
  obtain ⟨hnet, hfirst, hhall⟩ := h
  unfold deliverMsg
  rw [hline]
  exact if_pos (by simp [hnet, hfirst, hhall])

theorem State.deliverMsg_of_not {m : Msg} (hline : m.about = line) (h : m ∉ s.net ∨ s.firstOnPath m ≠ m ∨
    s.hallHeld (agentDie m.path.1) (homeDie line) = true) : s.deliverMsg m = s := by
  unfold deliverMsg
  rw [hline]
  refine if_neg fun hdel => ?_
  simp only [Bool.and_eq_true, List.contains_iff_mem, decide_eq_true_eq, Bool.not_eq_true'] at hdel
  obtain ⟨⟨hnet, hfirst⟩, hhall⟩ := hdel
  obtain hno | hno | hno := h
  · exact hno hnet
  · exact hno hfirst
  · rw [hhall] at hno
    exact absurd hno (by decide)

/-- A command that delivers message `m` of a line answers by its arrival, where it arrives. -/
theorem exec_deliver {c : Instr} {m : Msg} {t : State} {ok : Bool} (hs : s.Settled)
    (hexec : exec c s = act ok (fun s => s.deliverMsg m) s) (hok : ok = true) (hline : m.about = line)
    (hto : s.arrives m false = t) :
    (m ∈ s.net → s.firstOnPath m = m → s.hallHeld (agentDie m.path.1) (homeDie line) = false → exec c s = s.gives t) ∧
    (m ∉ s.net ∨ s.firstOnPath m ≠ m ∨ s.hallHeld (agentDie m.path.1) (homeDie line) = true → exec c s = .next s) := by
  rw [hexec]
  exact ⟨fun hnet hfirst hhall => act_gives_of hok
    ((State.deliverMsg_of_deliverable hline ⟨hnet, hfirst, hhall⟩).trans hto),
    fun h => act_stays hok (State.deliverMsg_of_not hline h) hs⟩

/-! ### A line of a cache after it was written (R189) -/

theorem State.held_setHeld_same (c : CLine) : (s.setHeld a line c).held a line = some c := by
  have hlines : ((s.setHeld a line c).cache a).lines = tset line c (s.cache a).lines :=
    congrArg Cache.lines ((State.cache_setCache ..).trans (if_pos rfl))
  rw [held, hlines, find?_tset_same]
  rfl

theorem State.held_setHeld_ne {l : Nat} (c : CLine) (h : l ≠ line) : (s.setHeld a line c).held a l = s.held a l := by
  have hlines : ((s.setHeld a line c).cache a).lines = tset line c (s.cache a).lines :=
    congrArg Cache.lines ((State.cache_setCache ..).trans (if_pos rfl))
  rw [held, hlines, find?_tset_ne h]
  rfl

theorem State.lines_dropHeld : ((s.dropHeld a line).cache a).lines = tdel (s.cache a).lines line :=
  congrArg Cache.lines ((State.cache_setCache ..).trans (if_pos rfl))

theorem State.held_dropHeld_same : (s.dropHeld a line).held a line = none := by
  rw [held, State.lines_dropHeld, Option.map_eq_none_iff, List.find?_eq_none]
  exact fun e he => by simpa using (List.mem_filter.1 he).2

theorem State.held_dropHeld_ne {l : Nat} (h : l ≠ line) : (s.dropHeld a line).held a l = s.held a l := by
  rw [held, State.lines_dropHeld, tdel, List.find?_filter, held]
  refine congrArg (fun p => Option.map (fun e => e.2) (List.find? p (s.cache a).lines)) (funext fun e => ?_)
  by_cases he : e.1 = l
  · simp [he, h]
  · simp [he]

theorem State.held_of_lines {t : State} (h : (t.cache a).lines = (s.cache a).lines) (l : Nat) : t.held a l = s.held a l := by
  rw [held, held, h]

theorem State.caches_codeWord (s : State) (b : Nat) (t : BitVec 16) (ad : Nat) (psn : Bool) :
    (s.codeWord b t ad psn).2.caches = s.caches := by
  unfold codeWord
  cases s.injSlot b t 0 0 ad with
  | none => rfl
  | some x => simp only [injUse, State.setRegF_caches]

/-- Check bits change no line that a cache holds. -/
theorem State.caches_codeLine (s : State) (b : Nat) (t : BitVec 16) (line : Nat) (ms : List Nat) (code : Tab (BitVec 16)) :
    (s.codeLine b t line ms code).2.caches = s.caches := by
  unfold codeLine
  induction ms generalizing s code with
  | nil => rfl
  | cons m ms ih => exact (ih _ _).trans (s.caches_codeWord _ _ _ _)

theorem State.held_writeArrays (ms : List Nat) (k l : Nat) : (s.writeArrays a k ms).held a l = s.held a l := by
  refine State.held_of_lines ?_ l
  have hcache : (s.writeArrays a k ms).cache a =
      { (s.codeLine (cacheBreaker a) (cacheAgent a) k ms (s.cache a).code).2.cache a with
        code := (s.codeLine (cacheBreaker a) (cacheAgent a) k ms (s.cache a).code).1 } :=
    (State.cache_setCache ..).trans (if_pos rfl)
  have hkept : (s.codeLine (cacheBreaker a) (cacheAgent a) k ms (s.cache a).code).2.cache a = s.cache a := by
    rw [cache, State.caches_codeLine, ← cache]
  have hlines := congrArg Cache.lines hkept
  exact (congrArg Cache.lines hcache).trans hlines

/-! ### Grants (R190, R205) -/

theorem State.install_of_held {c : CLine} (st : Mesi) (d : LineData) (hc : s.held a line = some c) :
    s.install a line st d true = (s.setHeld a line { c with st := st, l := d, hold := some s.house }).writeArrays a line [0, 1, 2, 3] := by
  unfold install
  rw [hc]
  rfl

theorem State.install_of_empty {n : Nat} (st : Mesi) (d : LineData) (hc : s.held a line = none) (hn : s.emptyWay a line = some n) :
    s.install a line st d true = (s.setHeld a line ⟨st, n, some s.house, d⟩).writeArrays a line [0, 1, 2, 3] := by
  unfold install
  rw [hc, hn]
  rfl

theorem State.makeRoom_of_held {c : CLine} (hc : s.held a line = some c) : s.makeRoom a line = some s := by
  unfold makeRoom
  exact if_pos (by simp [hc])

theorem State.makeRoom_of_empty {n : Nat} (hel : s.anyEligible a = true) (hn : s.emptyWay a line = some n) :
    s.makeRoom a line = some s := by
  unfold makeRoom
  split
  · rfl
  · rw [if_neg (by simp [hel]), if_pos (by simp [hn])]

/-- A grant of a line that has its place is installed at once. -/
theorem State.takeGrant_of_room {m : Msg} {st : Mesi} {d : LineData} (hm : s.grantOf m = some (st, d)) (hup : s.cacheUp a = true)
    (hdraw : ((s.held a line).isNone && decide (m = .gnto a line)) = false) (hcan : s.canInstall a line = true)
    (hroom : s.makeRoom a line = some s) : s.takeGrant a line m false = s.install a line st d true := by
  have hsame : (if ((s.held a line).isNone && decide (m = .gnto a line)) = true then s.drawFree else s) = s :=
    if_neg (by simp [hdraw])
  unfold takeGrant
  rw [hm]
  dsimp only
  rw [if_neg (by simp [hup]), hsame]
  split
  · rw [State.receive_, hroom]
  · rw [hroom]

theorem State.takeGrant_of_held {m : Msg} {st : Mesi} {d : LineData} {c : CLine} (hm : s.grantOf m = some (st, d))
    (hup : s.cacheUp a = true) (hc : s.held a line = some c) : s.takeGrant a line m false = s.install a line st d true :=
  State.takeGrant_of_room hm hup (by simp [hc]) (by simp [canInstall, hc]) (State.makeRoom_of_held hc)

theorem State.takeGrant_of_empty {m : Msg} {st : Mesi} {d : LineData} {n : Nat} (hm : s.grantOf m = some (st, d))
    (hne : m ≠ .gnto a line) (hup : s.cacheUp a = true) (hel : s.anyEligible a = true) (hn : s.emptyWay a line = some n) :
    s.takeGrant a line m false = s.install a line st d true :=
  State.takeGrant_of_room hm hup (by simp [hne]) (by simp [canInstall, hn]) (State.makeRoom_of_empty hel hn)

/-! ### Snoops (R196, R198, R201) -/

theorem State.takeSnoop_of_down (inv : Bool) (hup : s.cacheUp a = false) : s.takeSnoop a line inv false = s.send (.nh a line) := by
  unfold takeSnoop
  exact if_pos (by simp [hup])

theorem State.takeSnoop_of_waiting (inv : Bool) (hup : s.cacheUp a = true) (h : (∃ c, s.held a line = some c ∧ s.inHold a c = true) ∨
    (s.net ++ (s.cache a).fills).any (fun m => m.grants a line) = true) : s.takeSnoop a line inv false =
      s.setCache a { s.cache a with snoops := (s.cache a).snoops ++ [(line, inv)] } := by
  unfold takeSnoop
  rw [if_neg (by simp [hup])]
  dsimp only
  refine if_pos ?_
  obtain ⟨c, hc, hhold⟩ | hgrant := h
  · simp [hc, hhold]
  · simp only [hgrant, Bool.or_true, Bool.not_false, Bool.and_self]

theorem State.snoop_of_sent {e : LandLine} (inv : Bool) (he : s.landed a line = some e) (hsent : e.sent = true) :
    s.snoop a line inv = (.nhw, s) := by
  unfold snoop
  rw [he]
  exact if_pos hsent

theorem State.snoop_of_landed {e : LandLine} (inv : Bool) (he : s.landed a line = some e) (hsent : e.sent = false) :
    s.snoop a line inv = (.ackd (s.readLanded a line e.l).1, (s.readLanded a line e.l).2.unland a line) := by
  unfold snoop
  rw [he]
  exact if_neg (by simp [hsent])

section
variable (ha : a < 32) (hland : s.landed a line = none)
include hland

theorem State.snoop_of_absent (inv : Bool) (hc : s.held a line = none) : s.snoop a line inv = (.nh, s) := by
  unfold snoop
  rw [hland, hc]

include ha

/-- A clean line that is snooped only loses its state, or goes. -/
theorem State.snoop_of_clean {c : CLine} (inv : Bool) (hc : s.held a line = some c) (hst : c.st ≠ .m) : s.snoop a line inv =
    (.ack, if inv then (s.dropHeld a line).countLocked a c.way else s.setHeld a line { c with st := .s }) := by
  have hcharge (t : State) : t.chargeWay a c.way 0 = t := if_pos (.inr rfl)
  have hresv : (if a ≥ 32 ∧ inv = true then s.loseResv line else s) = s := if_neg fun ⟨hge, _⟩ => by omega
  unfold snoop
  rw [hland, hc]
  dsimp only
  rw [hresv, if_neg hst, if_neg hst, hcharge, hcharge]
  cases inv <;> rfl

theorem State.snoop_of_dirty {c : CLine} (inv : Bool) (hc : s.held a line = some c) (hst : c.st = .m) :
    (s.snoop a line inv).1 = .ackd (s.readArrays a ⟨cacheAgent a, 0, none⟩ line c.l).1.1 := by
  have hresv : (if a ≥ 32 ∧ inv = true then s.loseResv line else s) = s := if_neg fun ⟨hge, _⟩ => by omega
  unfold snoop
  rw [hland, hc]
  dsimp only
  rw [hresv, if_pos hst, if_pos hst]
  cases inv <;> rfl

theorem State.held_snoop_of_clean {c : CLine} (hc : s.held a line = some c) (hst : c.st ≠ .m) :
    (s.snoop a line true).2.held a line = none ∧ (s.snoop a line false).2.held a line = some { c with st := .s } ∧
    ∀ inv l, l ≠ line → (s.snoop a line inv).2.held a l = s.held a l := by
  have hcount (l : Nat) : ((s.dropHeld a line).countLocked a c.way).held a l = (s.dropHeld a line).held a l := by
    refine State.held_of_lines ?_ l
    unfold countLocked
    split
    · rw [cache, State.incEnt_caches, ← cache]
    · rfl
  have htrue : (s.snoop a line true).2 = (s.dropHeld a line).countLocked a c.way :=
    congrArg Prod.snd (State.snoop_of_clean ha hland true hc hst)
  have hfalse : (s.snoop a line false).2 = s.setHeld a line { c with st := .s } :=
    congrArg Prod.snd (State.snoop_of_clean ha hland false hc hst)
  refine ⟨?_, ?_, fun inv l hl => ?_⟩
  · rw [htrue, hcount, State.held_dropHeld_same]
  · rw [hfalse, State.held_setHeld_same]
  · cases inv
    · rw [hfalse, State.held_setHeld_ne _ hl]
    · rw [htrue, hcount, State.held_dropHeld_ne hl]

end

end

/-! ### The statement -/

/-- The deliveries of O31: each command delivers its message. -/
theorem message_deliveries (s : State) {a line : Nat} (src : BitVec 16) (l : LineData) (hs : s.Settled) (ha : a < 40)
    (hline : memLine line = true) :
    ∀ p ∈ [(Instr.snps a line, Msg.snps a line, (s.unsend (.snps a line)).takeSnoop a line false false),
        (.snpi a line, .snpi a line, (s.unsend (.snpi a line)).takeSnoop a line true false),
        (.push a line l, .push a line l, (s.unsend (.push a line l)).takePush a line l),
        (.ack a line, .ack a line, (s.unsend (.ack a line)).answered line a none true),
        (.ackd a line l, .ackd a line l, (s.unsend (.ackd a line l)).answered line a (some l) true),
        (.nh a line, .nh a line, (s.unsend (.nh a line)).answered line a none false),
        (.nhw a line, .nhw a line, s.unsend (.nhw a line)),
        (.gnts a line l, .gnts a line l, (s.unsend (.gnts a line l)).takeGrant a line (.gnts a line l) false),
        (.gnte a line l, .gnte a line l, (s.unsend (.gnte a line l)).takeGrant a line (.gnte a line l) false),
        (.gntm a line l, .gntm a line l, (s.unsend (.gntm a line l)).takeGrant a line (.gntm a line l) false),
        (.gnto a line, .gnto a line, (s.unsend (.gnto a line)).takeGrant a line (.gnto a line) false),
        (.data src line l, .data src line l, s.unsend (.data src line l)), (.cmp src line, .cmp src line, s.unsend (.cmp src line)),
        (.wb a line l, .wb a line l, s.takeWb a line l),
        (.landingAckReceive a line, .landAck a line, ((s.unsend (.landAck a line)).unland a line).retryFills a)],
      (p.2.1 ∈ s.net → s.firstOnPath p.2.1 = p.2.1 → s.hallHeld (agentDie p.2.1.path.1) (homeDie line) = false →
        exec p.1 s = s.gives p.2.2) ∧
      (p.2.1 ∉ s.net ∨ s.firstOnPath p.2.1 ≠ p.2.1 ∨ s.hallHeld (agentDie p.2.1.path.1) (homeDie line) = true →
        exec p.1 s = .next s) := by
  have hok : (decide (a < 40) && memLine line) = true := by simp [ha, hline]
  simp only [List.forall_mem_cons, List.not_mem_nil, false_imp_iff, implies_true, and_true]
  exact ⟨exec_deliver hs rfl hok rfl rfl, exec_deliver hs rfl hok rfl rfl, exec_deliver hs rfl hok rfl rfl,
    exec_deliver hs rfl hok rfl rfl, exec_deliver hs rfl hok rfl rfl, exec_deliver hs rfl hok rfl rfl,
    exec_deliver hs rfl hok rfl rfl, exec_deliver hs rfl hok rfl rfl, exec_deliver hs rfl hok rfl rfl,
    exec_deliver hs rfl hok rfl rfl, exec_deliver hs rfl hok rfl rfl, exec_deliver hs rfl hline rfl rfl,
    exec_deliver hs rfl hline rfl rfl, exec_deliver hs rfl hok rfl rfl, exec_deliver hs rfl hok rfl rfl⟩

/-- Settles O31: deliveries one by one; a grant where the line has its place, and a snoop by where its line lies. -/
theorem coherence : Obligations.Coherence := by
  refine ⟨fun s a line src l hs ha hline => ⟨message_deliveries s src l hs ha hline, fun inv hup => State.takeSnoop_of_down inv hup,
    fun inv hup h => State.takeSnoop_of_waiting inv hup h, fun m st d c hm hup hc => ⟨State.takeGrant_of_held hm hup hc, ?_⟩,
    fun m st d n hm hne hup hc hel hn => ⟨State.takeGrant_of_empty hm hne hup hel hn, ?_⟩⟩,
    fun s a line ha => ⟨fun inv e he hsent => State.snoop_of_sent inv he hsent,
      fun inv e he hsent => State.snoop_of_landed inv he hsent, fun hland => ⟨fun inv hc => State.snoop_of_absent hland inv hc,
        fun c hc hst => ?_, fun c hc hst => ?_, fun c inv k hc hst hk => ?_,
        fun c inv hc hst => State.snoop_of_dirty ha hland inv hc hst⟩⟩⟩
  · rw [State.install_of_held st d hc, State.held_writeArrays, State.held_setHeld_same]
  · rw [State.install_of_empty st d hc hn, State.held_writeArrays, State.held_setHeld_same]
  · obtain ⟨hgone, -, -⟩ := State.held_snoop_of_clean ha hland hc hst
    exact ⟨congrArg Prod.fst (State.snoop_of_clean ha hland true hc hst), hgone⟩
  · obtain ⟨-, hkept, -⟩ := State.held_snoop_of_clean ha hland hc hst
    exact ⟨congrArg Prod.fst (State.snoop_of_clean ha hland false hc hst), hkept⟩
  · obtain ⟨-, -, hother⟩ := State.held_snoop_of_clean ha hland hc hst
    exact hother inv k hk

end Sys2Proof.Machine
end


section
/-! PROOFS. What the homes and the caches leave alone: whatever reads neither memory, the registers, the caches, the
directories, the stacks, what is in flight, nor the entries in which they count. -/

namespace Sys2Proof.Machine

/-! ### Folds that carry a state -/

theorem foldl_keeps_snd {α β γ : Type} (P : State → γ) (f : α × State → β → α × State) (h : ∀ acc x, P (f acc x).2 = P acc.2)
    (l : List β) (acc : α × State) : P (l.foldl f acc).2 = P acc.2 := by
  induction l generalizing acc with
  | nil => rfl
  | cons x l ih => rw [List.foldl_cons, ih, h]

/-! ### The entries in which homes and caches count -/

/-- Whether entry `i` is one of those in which the homes and the caches count. -/
def homeEntry (i : Nat) : Bool :=
  decide (0x3013 ≤ i ∧ i ≤ 0x3018) || decide (i = 0x3020 ∨ i = 0x3021) || decide (0x5230 ≤ i ∧ i ≤ 0x523B)

theorem mem_of_homeEntry {i : Nat} (h : homeEntry i = true) : i ∈ [0x3013, 0x3014, 0x3015, 0x3016, 0x3017, 0x3018, 0x3020, 0x3021,
    0x5230, 0x5231, 0x5232, 0x5233, 0x5234, 0x5235, 0x5236, 0x5237, 0x5238, 0x5239, 0x523A, 0x523B] := by
  simp only [homeEntry, Bool.or_eq_true, decide_eq_true_eq] at h
  simp only [List.mem_cons, List.not_mem_nil, or_false]
  omega

theorem lt_of_dictEntry_home {i k : Nat} {r : DRow} (hi : homeEntry i = true) (h : dictEntry i k = some r) : k < 256 := by
  unfold dictEntry at h
  split at h
  · omega
  · have hsmall : ∀ i ∈ [0x3013, 0x3014, 0x3015, 0x3016, 0x3017, 0x3018, 0x3020, 0x3021, 0x5230, 0x5231, 0x5232, 0x5233, 0x5234,
        0x5235, 0x5236, 0x5237, 0x5238, 0x5239, 0x523A, 0x523B], ∀ r ∈ dictRows i, r.s1 < 256 := by decide
    have hrow := List.find?_some h
    have hlt := hsmall i (mem_of_homeEntry hi) r (List.mem_of_find?_eq_some h)
    simp only [Bool.and_eq_true, decide_eq_true_eq] at hrow
    omega

/-! ### The Breakers of homes and caches -/

theorem breakerOf_lt (d : Nat) : breakerOf d < 5 := by
  unfold breakerOf
  split
  · omega
  · decide

theorem homeBreaker_lt (pa : Nat) : homeBreaker pa < 5 := breakerOf_lt _
theorem cacheBreaker_lt (a : Nat) : cacheBreaker a < 5 := breakerOf_lt _

/-- What of a state no home and no cache changes. -/
structure HomeFrame {γ : Type} (P : State → γ) : Prop where
  reg : ∀ t pa v, P (State.setReg t pa v) = P t
  entry : ∀ t i k v, homeEntry i = true → k < 256 → P (State.setEnt t i k v) = P t
  words : ∀ (t : State) m c, P { t with mem := m, code := c } = P t
  cache : ∀ t a v, P (State.setCache t a v) = P t
  stack : ∀ t j v, P (State.setStack t j v) = P t
  dirs : ∀ (t : State) d n, P { t with dirs := d, dirAge := n } = P t
  flight : ∀ (t : State) x y z, P { t with txns := x, lineQ := y, net := z } = P t
  resv : ∀ (t : State) x, P { t with resv := x } = P t
  free : ∀ (t : State) n, P { t with free := n } = P t
  capture : ∀ t b r, b < 5 → P (State.capture t b r) = P t

namespace HomeFrame

variable {γ : Type} {P : State → γ} (hP : HomeFrame P) (s : State)
include hP

theorem txns (x : Tab Txn) : P { s with txns := x } = P s := hP.flight s x s.lineQ s.net
theorem lineQ (x : List (Nat × HomeReq)) : P { s with lineQ := x } = P s := hP.flight s s.txns x s.net
theorem net (x : List Msg) : P { s with net := x } = P s := hP.flight s s.txns s.lineQ x

theorem setRegF (pa hi lo v : Nat) : P (s.setRegF pa hi lo v) = P s := hP.reg _ _ _

theorem incEnt {i : Nat} (k n : Nat) (hi : homeEntry i = true) : P (s.incEnt i k n) = P s := by
  unfold State.incEnt
  cases h : dictEntry i k with
  | none => rfl
  | some r => exact hP.entry _ _ _ _ hi (lt_of_dictEntry_home hi h)

/-! ### Checkers and words -/

theorem injUse (b k : Nat) : P (s.injUse b k) = P s := by
  unfold State.injUse
  dsimp only
  rw [hP.setRegF, hP.setRegF]

theorem checkWord_of {b : Nat} (hb : ∀ t r, P (State.capture t b r) = P t) (t : BitVec 16) (who : Who) (la : Bool) (ad : Nat) (x : BitVec 128) (δ : BitVec 16) :
    P (s.checkWord b t who la ad x δ).2 = P s := by
  unfold State.checkWord
  cases s.injSlot b t 0 1 ad with
  | none =>
    dsimp only
    split
    · rfl
    · rfl
    · exact hb _ _
    · exact hb _ _
  | some k =>
    dsimp only
    split
    · exact hP.injUse _ _ _
    · exact hP.injUse _ _ _
    · exact (hb _ _).trans (hP.injUse _ _ _)
    · exact (hb _ _).trans (hP.injUse _ _ _)

theorem checkWord {b : Nat} (hb : b < 5) (t : BitVec 16) (who : Who) (la : Bool) (ad : Nat) (x : BitVec 128) (δ : BitVec 16) :
    P (s.checkWord b t who la ad x δ).2 = P s := hP.checkWord_of s (fun u r => hP.capture u b r hb) t who la ad x δ

theorem codeWord (b : Nat) (t : BitVec 16) (ad : Nat) (psn : Bool) : P (s.codeWord b t ad psn).2 = P s := by
  unfold State.codeWord
  cases s.injSlot b t 0 0 ad with
  | none => rfl
  | some k => exact hP.injUse _ _ _

theorem checkLine_of {b : Nat} (hb : ∀ t r, P (State.capture t b r) = P t) (t : BitVec 16) (who : Who) (line : Nat)
    (l : LineData) (code : Tab (BitVec 16)) : P (s.checkLine b t who line l code).2 = P s := by
  unfold State.checkLine
  dsimp only
  refine foldl_keeps_snd P _ (fun acc m => ?_) _ _
  exact hP.checkWord_of acc.2 hb _ _ _ _ _ _

theorem checkLine {b : Nat} (hb : b < 5) (t : BitVec 16) (who : Who) (line : Nat) (l : LineData) (code : Tab (BitVec 16)) :
    P (s.checkLine b t who line l code).2 = P s := hP.checkLine_of s (fun u r => hP.capture u b r hb) t who line l code

theorem codeLine (b : Nat) (t : BitVec 16) (line : Nat) (ms : List Nat) (code : Tab (BitVec 16)) :
    P (s.codeLine b t line ms code).2 = P s := by
  refine foldl_keeps_snd P _ (fun acc m => ?_) _ _
  exact hP.codeWord acc.2 _ _ _ _

theorem storeWord (pa : Nat) (x : BitVec 128) (δ : BitVec 16) : P (s.storeWord pa x δ) = P s := hP.words _ _ _

theorem putWord (pa : Nat) (x : BitVec 128) (psn : Bool) : P (s.putWord pa x psn) = P s := by
  unfold State.putWord
  rw [hP.storeWord, hP.codeWord]

theorem countWord (pa : Nat) (u : Bool) : P (s.countWord pa u) = P s := by
  unfold State.countWord
  split
  · cases u
    · exact (hP.setRegF _ _ _ _ _).trans (hP.incEnt _ _ _ (by decide))
    · exact (hP.setRegF _ _ _ _ _).trans (hP.incEnt _ _ _ (by decide))
  · rfl

theorem readWord (who : Who) (pa : Nat) : P (s.readWord who pa).2 = P s := by
  unfold State.readWord
  dsimp only
  have hcount (t : State) (c : Bool) (u : Bool) : P (if c then t.countWord pa u else t) = P t := by
    cases c
    · rfl
    · exact hP.countWord _ _ _
  split
  · rw [hP.storeWord, hcount, hP.checkWord _ (homeBreaker_lt _)]
  · rw [hcount, hP.checkWord _ (homeBreaker_lt _)]

theorem openRowOf (pa : Nat) : P (s.openRowOf pa) = P s := by
  unfold State.openRowOf
  split
  · exact hP.stack _ _ _
  · rfl

theorem markQd (line : Nat) : P (s.markQd line) = P s := by
  unfold State.markQd
  split
  · exact hP.stack _ _ _
  · rfl

/-! ### Lines at a home -/

theorem mergeRead (who : Who) (line : Nat) (l : LineData) : P (s.mergeRead who line l).2 = P s := by
  unfold State.mergeRead
  split
  · exact hP.checkLine _ (homeBreaker_lt _) _ _ _ _ _
  · rfl

theorem readDies (who : Who) (line : Nat) : P (s.readDies who line).2 = P s := by
  unfold State.readDies
  dsimp only
  refine (foldl_keeps_snd P _ (fun acc m => ?_) _ _).trans (hP.openRowOf s _)
  exact hP.readWord acc.2 _ _

theorem readLine (who : Who) (line : Nat) : P (s.readLine who line).2 = P s := by
  unfold State.readLine
  split
  · exact hP.mergeRead _ _ _ _
  · exact hP.readDies _ _ _

theorem writeWords (line : Nat) (words : List Nat) (l : LineData) : P (s.writeWords line words l) = P s := by
  have hwords : P (each words (fun m s => s.putWord (line * 64 + 16 * m) (l.word m) (l.poisoned m)) (s.openRowOf (line * 64))) = P s :=
    (each_keeps P _ (fun m t => hP.putWord t _ _ _) _ _).trans (hP.openRowOf _ _)
  unfold State.writeWords
  dsimp only
  split
  · split
    · exact (hP.stack _ _ _).trans hwords
    · exact hwords
  · exact hwords

theorem writeLine (line : Nat) (l : LineData) : P (s.writeLine line l) = P s := hP.writeWords _ _ _ _

theorem writeMasked (who : Who) (line : Nat) (mask : BitVec 64) (l : LineData) : P (s.writeMasked who line mask l) = P s := by
  unfold State.writeMasked
  dsimp only
  split
  · exact hP.writeWords _ _ _ _
  · rw [hP.writeWords, hP.readLine]

/-! ### The Cistern -/

theorem setCis (j fl : Nat) (hj : j < 12) : P (s.setCis j fl) = P s := by
  unfold State.setCis
  split
  · rfl
  · exact (hP.entry _ _ _ _ (by decide) (by omega)).trans (hP.reg _ _ _)

theorem mergeFlush (j line : Nat) : P (s.mergeFlush j line) = P s := by
  unfold State.mergeFlush
  split
  · rfl
  · dsimp only
    rw [hP.writeLine, hP.stack, hP.mergeRead]

theorem mergeStore (j line : Nat) (ms : List Nat) (l : LineData) : P (s.mergeStore j line ms l) = P s := by
  unfold State.mergeStore
  dsimp only
  rw [hP.stack, hP.codeLine]

theorem mergeTake (j line : Nat) (who : Who) : P (s.mergeTake j line who).2 = P s := by
  unfold State.mergeTake
  split
  · exact hP.mergeRead _ _ _ _
  · dsimp only
    rw [hP.mergeStore, hP.readLine]
    split
    · split
      · exact hP.mergeFlush _ _ _
      · rfl
    · rfl

theorem cisternWord (j op pa : Nat) (x : BitVec 128) (psn : Bool) (who : Who) (hj : j < 12) :
    P (s.cisternWord j op pa x psn who).2 = P s := by
  unfold State.cisternWord
  dsimp only
  rw [hP.setCis _ _ _ hj, hP.incEnt _ _ _ (by decide), hP.mergeStore, hP.mergeTake]

/-! ### Caches and Landings -/

theorem setLanding (a : Nat) (l : List LandLine) : P (s.setLanding a l) = P s := by
  unfold State.setLanding
  dsimp only
  split
  · split
    · rw [hP.setRegF, hP.setRegF, hP.cache]
    · rw [hP.setRegF, hP.cache]
  · exact hP.cache _ _ _

theorem unland (a line : Nat) : P (s.unland a line) = P s := by
  unfold State.unland
  dsimp only
  rw [hP.cache, hP.setLanding]

theorem setHeld (a line : Nat) (c : CLine) : P (s.setHeld a line c) = P s := hP.cache _ _ _
theorem dropHeld (a line : Nat) : P (s.dropHeld a line) = P s := hP.cache _ _ _
theorem loseResv (line : Nat) : P (s.loseResv line) = P s := hP.resv _ _
theorem dirDrop (line : Nat) : P (s.dirDrop line) = P s := hP.dirs _ _ _
theorem send (m : Msg) : P (s.send m) = P s := hP.net _ _
theorem unsend (m : Msg) : P (s.unsend m) = P s := hP.net _ _
theorem drawFree : P s.drawFree = P s := hP.free _ _

theorem dirPut (line : Nat) (d : DirState) : P (s.dirPut line d) = P s := by
  unfold State.dirPut
  split
  · exact hP.dirDrop _ _
  · split
    · exact hP.dirs _ _ _
    · exact hP.dirs _ _ _

theorem wayError {w : Nat} (n : Nat) (hw : w < 32) : P (s.wayError w n).2 = P s := by
  have hcount : P (s.incEnt (0x5234 + w / 8) (w % 8 + 1) 1) = P s := hP.incEnt _ _ _ (by
    simp only [homeEntry, Bool.or_eq_true, decide_eq_true_eq]
    omega)
  unfold State.wayError
  extract_lets t k start pc fresh c
  split
  · rw [hP.reg, hP.cache, hcount]
  · split
    · rw [hP.cache, hP.reg, hcount]
    · rw [hP.reg, hcount]

/-! ### The arrays of a cache -/

theorem readTags (a : Nat) (who : Who) (line : Nat) (l : LineData) (n : Nat) : P (s.readTags a who line l n).2 = P s := by
  unfold State.readTags
  refine foldl_keeps_snd P _ (fun acc array => ?_) _ _
  split
  · rfl
  · dsimp only
    split
    · rw [hP.capture _ _ _ (cacheBreaker_lt _), hP.injUse]
    · split
      · rw [hP.capture _ _ _ (cacheBreaker_lt _), hP.injUse]
      · split
        · rw [hP.capture _ _ _ (cacheBreaker_lt _), hP.injUse]
        · exact hP.injUse _ _ _

theorem readArrays (a : Nat) (who : Who) (line : Nat) (l : LineData) : P (s.readArrays a who line l).2 = P s := by
  unfold State.readArrays
  dsimp only
  rw [hP.readTags, hP.checkLine _ (cacheBreaker_lt _)]

theorem writeArrays (a line : Nat) (ms : List Nat) : P (s.writeArrays a line ms) = P s := by
  unfold State.writeArrays
  dsimp only
  rw [hP.cache, hP.codeLine]

theorem readLanded (a line : Nat) (l : LineData) : P (s.readLanded a line l).2 = P s :=
  hP.checkLine _ (cacheBreaker_lt _) _ _ _ _ _

/-! ### The end of a request -/

theorem homeEnd (line : Nat) (r : HomeReq) (dirty : Option LineData) (keep : List Nat) (who : Who) :
    P (s.homeEnd line r dirty keep who).2 = P s := by
  cases r with
  | rds a =>
    unfold State.homeEnd
    dsimp only
    split
    · split
      · cases dirty <;> simp only [hP.dirPut, hP.readLine, hP.writeLine]
      · cases dirty <;> simp only [hP.dirPut, hP.readLine, hP.writeLine]
    · simp only [hP.dirPut, hP.readLine]
    · simp only [hP.dirPut, hP.readLine]
  | rdx a =>
    unfold State.homeEnd
    cases dirty <;> simp only [hP.dirPut, hP.readLine]
  | upg a =>
    unfold State.homeEnd
    dsimp only
    split
    · split <;> simp only [hP.dirPut, hP.readLine]
    · cases dirty <;> simp only [hP.dirPut, hP.readLine]
  | wro a => exact hP.dirPut s line (.owned a)
  | rdo src =>
    unfold State.homeEnd
    dsimp only
    split
    · cases dirty <;> simp only [hP.dirPut, hP.readLine, hP.writeLine]
    · exact hP.readLine _ _ _
  | wrf src l place => exact (hP.dirDrop _ _).trans (hP.writeLine _ _ _)
  | wrp src mask l =>
    unfold State.homeEnd
    cases dirty <;> simp only [hP.dirDrop, hP.writeMasked, hP.writeLine]
  | red src pa op x psn =>
    unfold State.homeEnd
    dsimp only
    split
    · next j hj =>
      cases dirty <;> simp only [hP.cisternWord _ _ _ _ _ _ _ (stack_lt_of_regionOf hj), hP.dirDrop, hP.writeLine]
    · cases dirty <;> simp only [hP.dirDrop, hP.writeLine]
  | inval n =>
    have hstack (t : State) (k : Nat) : P (t.incEnt 0x3020 k 1) = P t := hP.incEnt _ _ _ (by decide)
    have hhost (t : State) (k : Nat) : P (t.incEnt 0x3021 k 1) = P t := hP.incEnt _ _ _ (by decide)
    unfold State.homeEnd
    cases dirty with
    | none =>
      dsimp only
      split
      · rfl
      · split <;> simp only [hstack, hhost, hP.dirDrop]
    | some d =>
      dsimp only
      split
      · exact hP.writeLine _ _ _
      · split <;> simp only [hstack, hhost, hP.dirDrop, hP.writeLine]

theorem homeFinish (line : Nat) (r : HomeReq) (dirty : Option LineData) (keep : List Nat) (who : Who) :
    P (s.homeFinish line r dirty keep who).2 = P s := by
  have hend := hP.homeEnd s line r dirty keep who
  unfold State.homeFinish
  dsimp only
  split
  · exact (hP.dirPut _ _ _).trans hend
  · exact hend
  · exact hend
  · exact hend
  · exact (hP.markQd _ _).trans hend
  · exact hend

theorem dirCheck (line : Nat) : P (s.dirCheck line) = P s := by
  unfold State.dirCheck
  dsimp only
  split
  · rfl
  · have hset (t : State) (l : List Nat) :
        P (each l (fun v s => (s.writeLine v ⟨(s.readLine (agentWho 0) v).1.bits, 0xF⟩).dirDrop v) t) = P t :=
      each_keeps P _ (fun v t => (hP.dirDrop _ _).trans (hP.writeLine _ _ _)) l t
    split
    · rw [hP.capture _ _ _ (homeBreaker_lt _), hP.injUse]
    · split
      · rw [hP.capture _ _ _ (homeBreaker_lt _), hset, hP.injUse]
      · rw [hP.capture _ _ _ (homeBreaker_lt _), hset, hP.injUse]

/-! ### Transactions at a home -/

theorem finishTxn (line : Nat) (t : Txn) : P (s.finishTxn line t) = P s := by
  unfold State.finishTxn
  dsimp only
  split
  · repeat' split
    all_goals simp only [hP.send, hP.dirPut, hP.homeFinish, hP.txns]
  · split <;> simp only [hP.send, hP.homeFinish, hP.txns]

theorem startTxn (line : Nat) (r : HomeReq) : P (s.startTxn line r) = P s := by
  unfold State.startTxn
  dsimp only
  split
  · exact hP.finishTxn _ _ _
  · exact hP.flight s _ _ _

theorem startReq (line : Nat) (r : HomeReq) : P (s.startReq line r) = P s := by
  unfold State.startReq
  dsimp only
  split
  · rw [hP.startTxn, hP.dirCheck]
  · split
    · exact (hP.lineQ (s.dirCheck line) _).trans (hP.dirCheck _ _)
    · exact (hP.startTxn _ _ _).trans ((hP.lineQ (s.dirCheck line) _).trans (hP.dirCheck _ _))

theorem nextReqs (l : List Nat) (n : Nat) : P (s.nextReqs l n) = P s := by
  induction n generalizing s l with
  | zero => cases l <;> rfl
  | succ n ih =>
    cases l with
    | nil => rfl
    | cons line rest =>
      unfold State.nextReqs
      split
      · exact ih _ _
      · split
        · exact ih _ _
        · rw [ih, hP.startReq, hP.lineQ]

theorem beginReq (line : Nat) (r : HomeReq) : P (s.beginReq line r) = P s := by
  unfold State.beginReq
  rw [hP.nextReqs, hP.startReq]

theorem answered (line a : Nat) (d : Option LineData) (here : Bool) : P (s.answered line a d here) = P s := by
  unfold State.answered
  split
  · split
    · rfl
    · dsimp only
      split
      · rw [hP.nextReqs, hP.finishTxn]
      · exact hP.txns _ _
  · split
    · rfl
    · split
      · split
        · exact hP.dirDrop _ _
        · rfl
      · exact hP.dirPut _ _ _
      · rfl

/-! ### Lines that leave a cache -/

theorem takeWb (a line : Nat) (l : LineData) : P (s.takeWb a line l) = P s := by
  unfold State.takeWb
  extract_lets full written buffered
  split
  · rfl
  · have hwritten : P written = P s := by
      unfold written
      rw [hP.send, hP.writeLine, hP.unsend]
    have hbuffered : P buffered = P s := by
      unfold buffered
      split
      · split
        · exact (hP.stack _ _ _).trans hwritten
        · exact hwritten
      · exact hwritten
    split
    · exact (hP.answered _ _ _ _ _).trans hbuffered
    · split
      · split
        · exact (hP.dirDrop _ _).trans hbuffered
        · exact hbuffered
      · exact hbuffered

theorem landSendLine (a : Nat) (e : LandLine) : P (s.landSendLine a e) = P s := by
  unfold State.landSendLine
  dsimp only
  rw [hP.send, hP.cache, hP.readLanded]

theorem landFinish (a line : Nat) : P (s.landFinish a line) = P s := by
  unfold State.landFinish
  extract_lets sent taken
  have hsent : P sent = P s := by
    unfold sent
    split
    · split
      · rfl
      · exact hP.landSendLine _ _ _
    · rfl
  have htaken : P taken = P s := by
    unfold taken
    split
    · exact (hP.takeWb _ _ _ _).trans hsent
    · exact hsent
  split
  · rw [hP.unland, hP.unsend, htaken]
  · exact htaken

theorem landRoom (a : Nat) : P (s.landRoom a) = P s := by
  refine each_keeps P _ (fun e t => ?_) _ s
  split
  · rfl
  · exact hP.landFinish _ _ _

theorem drainLanding (a : Nat) : P (s.drainLanding a) = P s := each_keeps P _ (fun _ t => hP.landFinish t _ _) _ s

theorem landPut (a line : Nat) (l : LineData) : P (s.landPut a line l) = P s := by
  unfold State.landPut
  rw [hP.writeArrays, hP.setLanding]

theorem expel (a line : Nat) : P (s.expel a line).2 = P s := by
  unfold State.expel
  split
  · rfl
  · split
    · dsimp only
      rw [hP.landPut, hP.dropHeld, hP.readArrays, hP.landRoom]
    · exact hP.dropHeld _ _ _

theorem disableWay {w : Nat} (n : Nat) (hw : w < 32) : P (s.disableWay w n) = P s := by
  have hcount (t : State) (k m : Nat) : P (t.incEnt (0x5234 + w / 8) k m) = P t := hP.incEnt _ _ _ (by
    simp only [homeEntry, Bool.or_eq_true, decide_eq_true_eq]
    omega)
  have hset (t : State) (v : Nat) : P (t.setEnt (0x5230 + w / 8) (w % 8 + 1) v) = P t := hP.entry _ _ _ _ (by
    simp only [homeEntry, Bool.or_eq_true, decide_eq_true_eq]
    omega) (by omega)
  unfold State.disableWay
  dsimp only
  rw [hP.capture _ _ _ (by omega), hset, hP.setRegF, each_keeps P _ fun line t => (hcount _ _ _).trans (hP.expel t w line)]

theorem chargeWay (a n cnt : Nat) : P (s.chargeWay a n cnt) = P s := by
  unfold State.chargeWay
  split
  · rfl
  · next h =>
    have ha : a < 32 := by omega
    extract_lets r
    have hr : P r.2 = P s := by
      refine foldl_keeps_snd P _ (fun acc i => ?_) _ _
      exact hP.wayError acc.2 n ha
    split
    · exact (hP.disableWay _ _ ha).trans hr
    · exact hr

theorem evict (a line : Nat) : P (s.evict a line) = P s := by
  unfold State.evict
  dsimp only
  rw [hP.chargeWay, hP.expel]

/-! ### Snoops -/

theorem countLocked (a way : Nat) : P (s.countLocked a way) = P s := by
  unfold State.countLocked
  split
  · next h =>
    obtain ⟨ha, -⟩ := h
    exact hP.incEnt _ _ _ (by
      simp only [homeEntry, Bool.or_eq_true, decide_eq_true_eq]
      omega)
  · rfl

theorem snoop (a line : Nat) (inv : Bool) : P (s.snoop a line inv).2 = P s := by
  unfold State.snoop
  split
  · split
    · rfl
    · dsimp only
      rw [hP.unland, hP.readLanded]
  · split
    · rfl
    · extract_lets lost r kept ans
      have hlost : P lost = P s := by
        unfold lost
        split
        · exact hP.loseResv _ _
        · rfl
      have hkept : P kept = P s := by
        unfold kept r
        split
        · exact (hP.readArrays _ _ _ _ _).trans hlost
        · exact hlost
      split
      · dsimp only
        rw [hP.chargeWay, hP.countLocked, hP.dropHeld, hkept]
      · dsimp only
        rw [hP.chargeWay, hP.setHeld, hkept]

theorem takeSnoop (a line : Nat) (inv now : Bool) : P (s.takeSnoop a line inv now) = P s := by
  unfold State.takeSnoop
  split
  · exact hP.send _ _
  · extract_lets held
    split
    · exact hP.cache _ _ _
    · split <;> exact (hP.send _ _).trans (hP.snoop _ _ _ _)

theorem heldSnoops (a line : Nat) : P (s.heldSnoops a line) = P s := by
  unfold State.heldSnoops
  dsimp only
  rw [each_keeps P _ fun e t => hP.takeSnoop t a line _ _, hP.cache]

theorem endHold (a line : Nat) : P (s.endHold a line) = P s := by
  unfold State.endHold
  dsimp only
  rw [hP.heldSnoops]
  split
  · exact hP.setHeld _ _ _ _
  · rfl

/-! ### Places for lines, and grants -/

theorem makeRoom {a line : Nat} {t : State} (h : s.makeRoom a line = some t) : P t = P s := by
  unfold State.makeRoom at h
  split at h
  · rw [← Option.some.inj h]
  · split at h
    · exact absurd h (by simp)
    · split at h
      · rw [← Option.some.inj h]
      · extract_lets u room at h
        have hu : P u = P s := by
          unfold u
          split
          · rfl
          · split
            · exact hP.endHold _ _ _
            · rfl
        split at h
        · rw [← Option.some.inj h, hu]
        · split at h
          · exact absurd h (by simp)
          · have hroom : P room = P s := by
              unfold room
              rw [hP.landRoom, hP.drawFree, hu]
            obtain ⟨-, hevict⟩ := Option.ite_none_left_eq_some.1 h
            rw [← Option.some.inj hevict, hP.evict, hroom]

theorem install (a line : Nat) (st : Mesi) (l : LineData) (hold : Bool) : P (s.install a line st l hold) = P s := by
  unfold State.install
  dsimp only
  split
  · rw [hP.writeArrays, hP.setHeld]
  · split
    · rw [hP.writeArrays, hP.setHeld]
    · rfl

theorem receive_ (a line : Nat) (st : Mesi) (l : LineData) : P (s.receive_ a line st l) = P s := by
  unfold State.receive_
  split
  · next h => exact (hP.install _ _ _ _ _ _).trans (hP.makeRoom s h)
  · split
    · exact hP.landPut _ _ _ _
    · rfl

theorem takeGrant (a line : Nat) (m : Msg) (now : Bool) : P (s.takeGrant a line m now) = P s := by
  unfold State.takeGrant
  split
  · rfl
  · split
    · rfl
    · extract_lets u
      have hu : P u = P s := by
        unfold u
        split
        · exact hP.drawFree _
        · rfl
      split
      · exact (hP.receive_ _ _ _ _ _).trans hu
      · split
        · split
          · next h => exact (hP.install _ _ _ _ _ _).trans ((hP.makeRoom u h).trans hu)
          · exact hu
        · exact (hP.cache _ _ _).trans hu

theorem retryFills (a : Nat) : P (s.retryFills a) = P s := by
  unfold State.retryFills
  dsimp only
  rw [each_keeps P _ fun m t => hP.takeGrant t a _ m false, hP.cache]

theorem takePush (a line : Nat) (l : LineData) : P (s.takePush a line l) = P s := by
  unfold State.takePush
  split
  · exact hP.send _ _
  · exact hP.receive_ _ _ _ _ _

/-! ### What is in flight comes to its end -/

theorem arrives (m : Msg) (now : Bool) : P (s.arrives m now) = P s := by
  unfold State.arrives
  split
  · rw [hP.takeSnoop, hP.unsend]
  · rw [hP.takeSnoop, hP.unsend]
  · rw [hP.takePush, hP.unsend]
  · rw [hP.answered, hP.unsend]
  · rw [hP.answered, hP.unsend]
  · rw [hP.answered, hP.unsend]
  · exact hP.unsend _ _
  · rw [hP.takeGrant, hP.unsend]
  · rw [hP.takeGrant, hP.unsend]
  · rw [hP.takeGrant, hP.unsend]
  · rw [hP.takeGrant, hP.unsend]
  · exact hP.unsend _ _
  · exact hP.unsend _ _
  · exact hP.takeWb _ _ _ _
  · rw [hP.retryFills, hP.unland, hP.unsend]

theorem quiesceN (line n : Nat) : P (s.quiesceN line n) = P s := by
  induction n generalizing s with
  | zero => rfl
  | succ n ih =>
    unfold State.quiesceN
    dsimp only
    split
    · rw [ih, hP.unsend, hP.arrives]
    · split
      · rw [ih, hP.endHold]
      · split
        · rw [ih, hP.takeGrant, hP.cache]
        · split
          · rw [ih, hP.answered]
          · split
            · rw [ih, hP.nextReqs]
            · rfl

theorem quiesce (line : Nat) : P (s.quiesce line) = P s := by
  unfold State.quiesce
  split
  · exact hP.quiesceN _ _ _
  · rfl

/-! ### Whole transactions -/

theorem sentData (a line : Nat) : P (s.sentData a line).2 = P s := by
  unfold State.sentData
  split
  · split
    · exact hP.unland _ _ _
    · rfl
  · rfl

theorem snoopAll (line : Nat) (l : List Nat) (inv : Bool) : P (s.snoopAll line l inv).2 = P s := by
  refine foldl_keeps_snd P _ (fun acc a => ?_) _ _
  have hr : P ((acc.2.endHold a line).snoop a line inv).2 = P acc.2 := (hP.snoop _ _ _ _).trans (hP.endHold _ _ _)
  dsimp only
  split
  · exact hr
  · exact hr
  · exact hr
  · exact (hP.sentData _ _ _).trans hr

theorem pullLine (line : Nat) : P (s.pullLine line) = P s := by
  unfold State.pullLine
  extract_lets t r
  have hr : P r.2 = P s := (hP.snoopAll _ _ _ _).trans (hP.quiesce _ _)
  rw [hP.dirDrop]
  split
  · exact (hP.writeLine _ _ _).trans hr
  · exact hr

theorem backInvalidate (line : Nat) : P (s.backInvalidate line) = P s := by
  unfold State.backInvalidate
  split
  · rfl
  · dsimp only
    split
    · exact (hP.incEnt _ _ _ (by decide)).trans (hP.pullLine _ _)
    · exact (hP.incEnt _ _ _ (by decide)).trans (hP.pullLine _ _)

theorem homeDo (line : Nat) (r : HomeReq) (who : Who) : P (s.homeDo line r who).2 = P s := by
  unfold State.homeDo
  dsimp only
  rw [hP.homeFinish, hP.snoopAll]
  split
  · rw [hP.backInvalidate, hP.dirCheck, hP.quiesce]
  · rw [hP.dirCheck, hP.quiesce]

theorem pushTo (a line : Nat) (l : LineData) : P (s.pushTo a line l) = P s := by
  unfold State.pushTo
  split
  · exact hP.dirDrop _ _
  · rw [hP.dirPut, hP.receive_]

theorem unitRead (who : Who) (line : Nat) : P (s.unitRead who line).2 = P s := by
  unfold State.unitRead
  dsimp only
  split <;> exact hP.homeDo _ _ _ _

theorem unitWrite (who : Who) (line : Nat) (mask : BitVec 64) (l : LineData) (place : Option Nat) :
    P (s.unitWrite who line mask l place) = P s := by
  unfold State.unitWrite
  split
  · dsimp only
    split
    · split
      · exact (hP.pushTo _ _ _ _).trans (hP.homeDo _ _ _ _)
      · exact hP.homeDo _ _ _ _
    · exact hP.homeDo _ _ _ _
  · exact hP.homeDo _ _ _ _

/-- Back-invalidating or snooping every line of a run of bytes. -/
theorem recallLines (a n : Nat) (inv : Bool) : P (s.recall a n inv) = P s := by
  unfold State.recall
  extract_lets here ls
  refine each_keeps P _ (fun line t => ?_) _ s
  split
  · exact hP.pullLine _ _
  · extract_lets u r v
    have hr : P r.2 = P t := (hP.snoopAll _ _ _ _).trans (hP.quiesce _ _)
    have hv : P v = P t := by
      unfold v
      split
      · exact (hP.writeLine _ _ _).trans hr
      · exact hr
    split
    · exact (hP.dirPut _ _ _).trans hv
    · exact hv

end HomeFrame

/-- No home and no cache changes the tier's tables. -/
theorem homeFrame_tier : HomeFrame State.tier where
  reg _ _ _ := rfl
  entry _ _ _ _ _ _ := rfl
  words _ _ _ := rfl
  cache _ _ _ := rfl
  stack _ _ _ := rfl
  dirs _ _ _ := rfl
  flight _ _ _ _ := rfl
  resv _ _ := rfl
  free _ _ := rfl
  capture t _ r hb := t.capture_keeps State.tier (fun _ _ _ => rfl) (fun _ _ => rfl) (fun _ _ _ _ _ => rfl) State.raise_tier
    (fun t src pa v => t.msi_keeps State.tier (fun _ _ => rfl) (fun _ _ => rfl) (fun _ _ _ => rfl) src pa v) hb r
    fun _ _ _ => rfl

end Sys2Proof.Machine
end


section
/-! PROOFS. The tier range: enabling and disabling, fills and evictions, ages and pins (R239 to R263). -/

namespace Sys2Proof.Machine

section
variable {s : State}

/-! ### Enabling and disabling (R239, R242, R263) -/

theorem State.tierStart_of_good (hst : s.tierState = 0) (hpool : s.poolBroken = false) (huse : s.poolInUse = false) :
    s.tierStart.2 = (s.setEnt 0x3100 2 1).setEnt 0x3100 8 1 := by
  unfold tierStart
  rw [if_neg (by simp [hst]), if_neg (by simp [hpool]), if_neg (by simp [huse])]

theorem State.tierStart_of_bad (hbad : s.poolBroken = true ∨ s.poolInUse = true) : s.tierStart.2 = s := by
  unfold tierStart
  split
  · rfl
  · split
    · rfl
    · next hno => rw [if_pos (hbad.resolve_left hno)]

/-- The range as it becomes ENABLED. -/
def State.tierFresh (s : State) : State :=
  ({ s with
    mem := s.mem.filter fun c => decide (c.1 < s.ent 0x3100 1) || decide (s.ent 0x3100 1 + 0x66000000 ≤ c.1)
    code := s.code.filter fun c => decide (c.1 < s.ent 0x3100 1) || decide (s.ent 0x3100 1 + 0x66000000 ≤ c.1)
    tier := { Tier.reset with cellar := s.tier.cellar, ccode := s.tier.ccode, worn := s.tier.worn } } : State).setEnt 0x3100 8 2

theorem State.tierReady_of_enabling (h : s.tierState = 1) : s.tierReady = s.tierFresh := by
  unfold tierReady
  exact if_neg (by simp [h])

theorem State.byte_tierFresh_of_in {a : Nat} (hlo : s.ent 0x3100 1 ≤ a) (hhi : a < s.ent 0x3100 1 + 0x66000000) :
    s.tierFresh.byte a = 0#8 :=
  tget_filter_out 0#8 s.mem a (fun a => decide (a < s.ent 0x3100 1) || decide (s.ent 0x3100 1 + 0x66000000 ≤ a)) (by
    simp only [Bool.or_eq_false_iff, decide_eq_false_iff_not]
    omega)

theorem State.byte_tierFresh_of_out {a : Nat} (h : a < s.ent 0x3100 1 ∨ s.ent 0x3100 1 + 0x66000000 ≤ a) :
    s.tierFresh.byte a = s.byte a :=
  tget_filter 0#8 s.mem a (fun a => decide (a < s.ent 0x3100 1) || decide (s.ent 0x3100 1 + 0x66000000 ≤ a)) (by
    simpa only [Bool.or_eq_true, decide_eq_true_eq] using h)

theorem State.tierStop_of_free (hst : s.tierState = 2) (hmap : s.tierMapped = false) :
    s.tierStop.2 = (s.setEnt 0x3100 2 0).setEnt 0x3100 8 3 := by
  unfold tierStop
  rw [if_neg (by simp [hst]), if_neg (by simp [hmap])]

theorem State.tierStop_of_mapped (hmap : s.tierMapped = true) : s.tierStop.2 = s := by
  unfold tierStop
  split
  · rfl
  · rfl

/-- What follows the last frame of a range that is disabled. -/
def State.tierOff (s : State) : State :=
  ({ s with tier := { Tier.reset with cellar := s.tier.cellar, ccode := s.tier.ccode, worn := s.tier.worn } } : State).setEnt
    0x3100 8 0

theorem State.tierEmpty_of_disabling (h : s.tierState = 3) (hfree : ∀ e ∈ s.tier.frames, s.frameHeld e.1 = false) :
    ∃ t : State, s.tierEmpty = t.tierOff ∧ (s.tier.frames = [] → t = s) := by
  have hno : ¬ (s.tierState ≠ 3 ∨ (s.tier.frames.any fun e => s.frameHeld e.1) = true) := by
    simpa [h] using fun n f hf => hfree (n, f) hf
  refine ⟨each s.tier.frames (fun e s =>
      let s := s.recall (s.frameAddr e.1) 65536 true
      let s := if s.readOnly then s else s.saveDirty e.2.tile e.1
      ((s.setQd e.1 0).setTile e.2.tile .absent 0).freeFrame e.1) s, if_neg hno, fun hnil => ?_⟩
  rw [hnil]
  rfl

theorem State.tierOff_disabled (s : State) : s.tierOff.tierState = 0 ∧ s.tierOff.tier.frames = [] :=
  ⟨State.ent_setEnt_same _ _ _ _, rfl⟩

theorem State.sparesOut_of_worn (h : 90 ≤ s.ent 0x3130 7 ∨ s.on = false) :
    s.sparesOut = (s.setEnt 0x3130 1 1).setEnt 0x3130 7 100 := by
  have hon : ((s.setEnt 0x3130 1 1).setEnt 0x3130 7 100).on = s.on := rfl
  unfold sparesOut
  dsimp only
  exact if_pos (by simpa [hon] using h)

theorem State.sparesOut_of_fresh (h : s.ent 0x3130 7 < 90) (hon : s.on = true) : s.sparesOut =
    ((s.setEnt 0x3130 1 1).setEnt 0x3130 7 100).capture 4 (plainReport 0x05 (agentNo 4 0x15 0)) := by
  have hon' : ((s.setEnt 0x3130 1 1).setEnt 0x3130 7 100).on = true := hon
  unfold sparesOut
  dsimp only
  exact if_neg (by simp [hon', h])

/-! ### Fills and victims (R246, R253, R254) -/

/-- Steps that agree under a condition that they keep give the same fold. -/
theorem each_congr_of_inv {σ β : Type} (I : σ → Prop) (f g : β → σ → σ) (h : ∀ x s, I s → f x s = g x s)
    (hI : ∀ x s, I s → I (g x s)) (l : List β) {s : σ} (hs : I s) : each l f s = each l g s := by
  induction l generalizing s with
  | nil => rfl
  | cons x l ih => rw [each_cons, each_cons, h x s hs, ih (hI x s hs)]

/-- A quarter that is filled changes no entry of the tier's tables. -/
theorem State.tier_fillQuarter (s : State) (t f q : Nat) (bad : Bool) : (s.fillQuarter t f q bad).tier = s.tier := by
  have hcount (u : State) (i k n : Nat) : (u.incEnt i k n).tier = u.tier := u.incEnt_tier i k n
  have hwrites : ∀ (u : State) (l : List Nat) (g : State → Nat → LineData) (w : Who) (pa : Nat),
      (each l (fun i s => s.unitWrite w (pa / 64 + i) fullMask (g s i) none) u).tier = u.tier := fun u l g w pa =>
    each_keeps State.tier _ (fun i v => homeFrame_tier.unitWrite v _ _ _ _ _) l u
  unfold fillQuarter
  dsimp only
  split
  · rw [homeFrame_tier.capture _ _ _ (by decide), hcount, hcount]
    exact hwrites s _ (fun s i => s.cellarLine (t * 65536 + q * 16384 + 64 * i) bad) _ _
  · rw [hcount, homeFrame_tier.drawFree, hcount]
    exact hwrites s _ (fun s i => s.cellarLine (t * 65536 + q * 16384 + 64 * i) bad) _ _

theorem State.tile_of_tier {u : State} (h : u.tier = s.tier) (t : Nat) : u.tile t = s.tile t := by
  rw [tile, tile, h]

theorem State.fillDone_of_filling {t : Nat} {bad : BitVec 4} {f : Frame} (hf : s.frame (s.tile t).2 = some f)
    (hst : (s.tile t).1 = .filling) (hfree : s.frameHeld (s.tile t).2 = false) : s.fillDone t bad =
    ((each [0, 1, 2, 3] (fun q s => s.fillQuarter t (s.tile t).2 q (bitOf bad.toNat q)) s).incEnt 0x3112 3 1).settleTile t
      (s.tile t).2 f := by
  have hsame : each [0, 1, 2, 3] (fun q u => u.fillQuarter t (u.tile t).2 q (bitOf bad.toNat q)) s =
      each [0, 1, 2, 3] (fun q u => u.fillQuarter t (s.tile t).2 q (bitOf bad.toNat q)) s := by
    refine each_congr_of_inv (fun u => u.tier = s.tier) _ _ (fun q u hu => ?_) (fun q u hu => ?_) _ rfl
    · rw [State.tile_of_tier hu]
    · exact (u.tier_fillQuarter _ _ _ _).trans hu
  unfold fillDone
  dsimp only
  rw [hf]
  dsimp only
  rw [if_neg (by simp [hst, hfree]), hsame]

theorem State.evictOn_watermarks (s : State) : s.watermarks.tier.evictOn =
    if s.freeFrames < s.ent 0x3100 4 then true else s.tier.evictOn && decide (s.freeFrames < s.ent 0x3100 5) := rfl

/-- A victim as it becomes EVICTING. -/
def State.evicting (s : State) (n : Nat) (f : Frame) : State :=
  ((s.setFrame n { f with st := .evicting }).setTile f.tile .evicting n).forgetTile f.tile

theorem State.selectVictim_of_some {n : Nat} {f : Frame} (hst : s.tierState = 2) (hnow : s.watermarks.evictNow = true)
    (hm : s.movers < 64) (hv : s.victim = some (n, f)) : s.selectVictim = s.watermarks.evicting n f := by
  have hchosen : (if s.watermarks.evictNow && decide (s.watermarks.movers < 64) then s.watermarks.victim else none) =
      some (n, f) := (if_pos (by rw [hnow]; exact decide_eq_true hm)).trans hv
  unfold selectVictim
  rw [if_neg (by simp [hst])]
  dsimp only
  rw [hchosen]
  rfl

theorem State.selectVictim_of_idle (hst : s.tierState = 2) (hnow : s.watermarks.evictNow = false) :
    s.selectVictim = s.watermarks := by
  unfold selectVictim
  rw [if_neg (by simp [hst])]
  dsimp only
  rw [if_neg (by simp [hnow])]

theorem State.evicting_kept (s : State) (n : Nat) (f : Frame) : (s.evicting n f).tile f.tile = (.evicting, n) ∧
    (s.evicting n f).frame n = some { f with st := .evicting } ∧ (∀ m ∈ (s.evicting n f).tier.marks, m.2.1 ≠ f.tile) ∧
    (s.evicting n f).todo = s.todo ∧ (s.evicting n f).pending = s.pending ∧ (s.evicting n f).regs = s.regs ∧
    (s.evicting n f).tier.cellar = s.tier.cellar := by
  refine ⟨?_, ?_, fun m hm => ?_, rfl, rfl, rfl, rfl⟩
  · exact (tget_tput (TileState.absent, 0) (TileState.evicting, n) s.tier.tiles f.tile f.tile).trans (if_pos rfl)
  · exact congrArg (Option.map fun e => e.2) find?_tset_same
  · simpa using (List.mem_filter.1 hm).2

/-- The better of a chosen frame and the next one. -/
def betterVictim (m : Option (Nat × Frame)) (e : Nat × Frame) : Option (Nat × Frame) :=
  match m with
  | none => some e
  | some o => if o.2.effAge < e.2.effAge then some e else some o

/-- The frame chosen of a list is one of it, or the one begun with, and no younger than any of them. -/
theorem foldl_betterVictim {l : List (Nat × Frame)} {m : Option (Nat × Frame)} {v : Nat × Frame}
    (h : l.foldl betterVictim m = some v) : (v ∈ l ∨ m = some v) ∧ (∀ e ∈ l, e.2.effAge ≤ v.2.effAge) ∧
    ∀ o, m = some o → o.2.effAge ≤ v.2.effAge := by
  induction l generalizing m with
  | nil => exact ⟨.inr h, by simp, fun o ho => (Option.some.inj (ho.symm.trans h)) ▸ Nat.le_refl _⟩
  | cons x l ih =>
    obtain ⟨hmem, hle, hold⟩ := ih h
    have hx : (betterVictim m x = some x ∧ ∀ o, m = some o → o.2.effAge ≤ x.2.effAge) ∨
        ∃ o, m = some o ∧ betterVictim m x = some o ∧ x.2.effAge ≤ o.2.effAge := by
      cases m with
      | none => exact .inl ⟨rfl, by simp⟩
      | some o =>
        by_cases hlt : o.2.effAge < x.2.effAge
        · exact .inl ⟨if_pos hlt, fun o' ho' => (Option.some.inj ho') ▸ Nat.le_of_lt hlt⟩
        · exact .inr ⟨o, rfl, if_neg hlt, Nat.not_lt.1 hlt⟩
    obtain ⟨hnew, hages⟩ | ⟨o, rfl, hnew, hage⟩ := hx
    · have hxv := hold x hnew
      refine ⟨.inl ?_, List.forall_mem_cons.2 ⟨hxv, hle⟩, fun o ho => Nat.le_trans (hages o ho) hxv⟩
      obtain hv | hv := hmem
      · exact List.mem_cons_of_mem _ hv
      · rw [Option.some.inj (hnew.symm.trans hv)]
        exact List.mem_cons_self
    · have hov := hold o hnew
      refine ⟨?_, List.forall_mem_cons.2 ⟨Nat.le_trans hage hov, hle⟩, fun o' ho' => (Option.some.inj ho') ▸ hov⟩
      exact hmem.imp (List.mem_cons_of_mem _) fun hv => hnew.symm.trans hv

theorem State.victim_best {n : Nat} {f : Frame} (h : s.victim = some (n, f)) : s.victimOk n f = true ∧
    ∀ e ∈ s.tier.frames, s.victimOk e.1 e.2 = true → e.2.effAge ≤ f.effAge := by
  have hfold : (s.tier.frames.filter fun e => s.victimOk e.1 e.2).foldl betterVictim none = some (n, f) := h
  obtain ⟨hmem, hle, -⟩ := foldl_betterVictim hfold
  have hok := (List.mem_filter.1 (hmem.resolve_right (by simp))).2
  exact ⟨hok, fun e he hv => hle e (List.mem_filter.2 ⟨he, hv⟩)⟩

theorem State.of_victimOk {n : Nat} {f : Frame} (h : s.victimOk n f = true) : f.st = .resident ∧ f.pin = false ∧ f.holds = 0 := by
  simp only [victimOk, Bool.and_eq_true, decide_eq_true_eq, Bool.not_eq_true'] at h
  obtain ⟨⟨⟨hst, hpin⟩, hholds⟩, -⟩ := h
  exact ⟨hst, hpin, hholds⟩

theorem State.evictDone_of_held {t : Nat} {f : Frame} (hf : s.frame (s.tile t).2 = some f)
    (h : s.frameHeld (s.tile t).2 = true ∨ s.frameAwaited (s.tile t).2 = true) : s.evictDone t = s := by
  unfold evictDone
  dsimp only
  rw [hf]
  exact if_pos (.inr h)

/-! ### Ages (R252) -/

/-- What a changed frame leaves as it is, a change of all frames leaves as it is. -/
theorem State.mapFrames_keeps {γ : Type} (P : State → γ) (h : ∀ t n f, P (State.setFrame t n f) = P t) (g : Frame → Frame) :
    P (s.mapFrames g) = P s := by
  refine each_keeps P _ (fun e t => ?_) _ s
  split
  · rfl
  · exact h _ _ _

theorem State.tickAges_of_due (hst : s.tierState = 2) (h : s.ent 0x3100 3 ≤ s.tier.bounds) : s.tickAges =
    { s.mapFrames Frame.older with tier := { (s.mapFrames Frame.older).tier with
      marks := s.tier.marks.map fun e => (e.1, e.2.1, false)
      bounds := s.tier.bounds - s.ent 0x3100 3 } } := by
  have hmarks : (s.mapFrames Frame.older).tier.marks = s.tier.marks :=
    State.mapFrames_keeps (fun t => t.tier.marks) (fun _ _ _ => rfl) _
  have hbounds : (s.mapFrames Frame.older).tier.bounds = s.tier.bounds :=
    State.mapFrames_keeps (fun t => t.tier.bounds) (fun _ _ _ => rfl) _
  have hent : (s.mapFrames Frame.older).ent = s.ent := State.mapFrames_keeps State.ent (fun _ _ _ => rfl) _
  unfold tickAges
  rw [if_neg (by simp [hst, h])]
  dsimp only
  rw [hmarks, hbounds, hent]

theorem State.tickAges_of_early (h : s.tierState ≠ 2 ∨ s.tier.bounds < s.ent 0x3100 3) : s.tickAges = s := if_pos h

theorem Frame.older_of_resident {f : Frame} (h : f.st = .resident) : f.older =
    if f.mark then { f with age := 0, mark := false } else { f with age := min 255 (f.age + 1) } := by
  unfold older
  exact if_neg (by simp [h])

/-! ### The pins of a context that ended (R255) -/

/-- A frame's pin is cleared. -/
def State.unpinFrame (s : State) (n : Nat) : State :=
  match s.frame n with
  | some f => s.setFrame n { f with pin := false, pinctx := 0 }
  | none => s

theorem State.unpinFrame_eq (s : State) (n : Nat) : s.frame n = none ∧ s.unpinFrame n = s ∨
    ∃ f, s.frame n = some f ∧ s.unpinFrame n = s.setFrame n { f with pin := false, pinctx := 0 } := by
  unfold unpinFrame
  cases h : s.frame n with
  | none => exact .inl ⟨rfl, rfl⟩
  | some f => exact .inr ⟨f, rfl, rfl⟩

/-- The frames whose pins context `c` still owes. -/
def State.owedPins (s : State) (c : Nat) : List Nat :=
  s.tier.pinsOwed.filter fun n => (s.frame n).any fun f => decide (f.pinctx = c)

/-- The state once the pins that context `c` owes are cleared. -/
def State.unpinned (s : State) (c : Nat) : State :=
  let t := each (s.owedPins c) (fun n s => s.unpinFrame n) s
  { t with tier := { t.tier with pinsOwed := t.tier.pinsOwed.filter fun n => !(s.owedPins c).contains n } }

theorem State.unpinned_keeps {γ : Type} (P : State → γ) (hframe : ∀ t n f, P (State.setFrame t n f) = P t)
    (howed : ∀ (t : State) v, P { t with tier := { t.tier with pinsOwed := v } } = P t) (c : Nat) : P (s.unpinned c) = P s := by
  refine (howed _ _).trans (each_keeps P _ (fun n t => ?_) _ s)
  obtain ⟨-, h⟩ | ⟨f, -, h⟩ := t.unpinFrame_eq n
  · rw [h]
  · rw [h, hframe]

theorem State.clearPins_of_quiet {c : Nat} (hdue : s.tier.pinsDue = []) (hrooms : s.rooms = []) : s.clearPins c = s.unpinned c := by
  have hdue' : (s.unpinned c).tier.pinsDue = [] :=
    (State.unpinned_keeps (fun t => t.tier.pinsDue) (fun _ _ _ => rfl) (fun _ _ => rfl) c).trans hdue
  have hrooms' : (s.unpinned c).rooms = [] := (State.unpinned_keeps State.rooms (fun _ _ _ => rfl) (fun _ _ => rfl) c).trans hrooms
  calc s.clearPins c = (s.unpinned c).grantPins.pumpPrefetch := rfl
    _ = s.unpinned c := by simp only [grantPins, hdue', pumpPrefetch, hrooms', each_nil]

theorem State.mem_frames_unpinFrame {n : Nat} {e : Nat × Frame} (he : e ∈ (s.unpinFrame n).tier.frames) :
    (e ∈ s.tier.frames ∧ e.1 ≠ n) ∨ e.2.pin = false := by
  obtain ⟨hnone, h⟩ | ⟨f, -, h⟩ := s.unpinFrame_eq n
  · rw [h] at he
    refine .inl ⟨he, fun hn => ?_⟩
    have hno : s.tier.frames.find? (fun e => decide (e.1 = n)) = none := Option.map_eq_none_iff.1 hnone
    exact absurd (decide_eq_true hn) (List.find?_eq_none.1 hno e he)
  · rw [h] at he
    obtain rfl | hold := mem_tset.1 he
    · exact .inr rfl
    · exact .inl hold

/-- A frame that is pinned once the owed pins are cleared was pinned, and its pin was not owed. -/
theorem State.mem_frames_unpinned {c : Nat} {e : Nat × Frame} (he : e ∈ (s.unpinned c).tier.frames) (hpin : e.2.pin = true) :
    e ∈ s.tier.frames ∧ e.1 ∉ s.owedPins c := by
  have hframes : (s.unpinned c).tier.frames = (each (s.owedPins c) (fun n s => s.unpinFrame n) s).tier.frames := rfl
  rw [hframes] at he
  have hold := each_inv (fun t : State => ∀ e ∈ t.tier.frames, e.2.pin = true → e ∈ s.tier.frames) (fun n s => s.unpinFrame n)
    (fun n t ht e he hp => by
      obtain ⟨hmem, -⟩ | hno := State.mem_frames_unpinFrame he
      · exact ht e hmem hp
      · exact absurd hp (by simp [hno])) (s.owedPins c) s fun e he _ => he
  refine ⟨hold e he hpin, fun howed => ?_⟩
  have hclear := each_establishes (fun _ : State => True) (fun t => ∀ x ∈ t.tier.frames, x.1 = e.1 → x.2.pin = false)
    (fun n s => s.unpinFrame n) howed (fun _ _ _ _ => trivial) (fun t _ x hx hn => by
      obtain ⟨-, hne⟩ | hno := State.mem_frames_unpinFrame hx
      · exact absurd hn hne
      · exact hno) (fun n _ t _ ht x hx hn => by
      obtain ⟨hmem, -⟩ | hno := State.mem_frames_unpinFrame hx
      · exact ht x hmem hn
      · exact hno) (s := s) trivial
  exact absurd hpin (by simp [hclear e he rfl])

theorem State.frame_unpinFrame_ne {n k : Nat} (h : n ≠ k) : (s.unpinFrame k).frame n = s.frame n := by
  obtain ⟨-, hk⟩ | ⟨f, -, hk⟩ := s.unpinFrame_eq k
  · rw [hk]
  · rw [hk]
    exact congrArg (Option.map fun e => e.2) (find?_tset_ne h)

theorem State.frame_unpinned {c n : Nat} (h : n ∉ s.tier.pinsOwed) : (s.unpinned c).frame n = s.frame n :=
  each_keeps_of_mem (fun t => t.frame n) (fun n s => s.unpinFrame n) (fun k hk t => State.frame_unpinFrame_ne (by
    rintro rfl
    exact h (List.mem_filter.1 hk).1)) s

end

/-! ### The statement -/

/-- The first part of O36: enabling, disabling and the spare blocks. -/
theorem tier_range (s : State) (hs : s.Settled) :
    (s.on = true → s.tierState = 0 → s.poolBroken = false → s.poolInUse = false →
      exec .tierEnable s = .next ((s.setEnt 0x3100 2 1).setEnt 0x3100 8 1)) ∧
    (s.on = true → (s.poolBroken = true ∨ s.poolInUse = true) → exec .tierEnable s = .next s) ∧
    (s.tierState = 1 → exec .tierEnableDone s = .next s.tierFresh) ∧
    (s.on = true → s.tierState = 2 → s.tierMapped = false →
      exec .tierDisable s = .next ((s.setEnt 0x3100 2 0).setEnt 0x3100 8 3)) ∧
    (s.on = true → s.tierMapped = true → exec .tierDisable s = .next s) ∧
    exec .tierDisableDone s = s.gives s.tierEmpty.rerun ∧
    (90 ≤ s.ent 0x3130 7 ∨ s.on = false →
      exec .cellarSparesExhausted s = .next ((s.setEnt 0x3130 1 1).setEnt 0x3130 7 100)) ∧
    (s.ent 0x3130 7 < 90 → s.on = true → exec .cellarSparesExhausted s = s.gives
      (((s.setEnt 0x3130 1 1).setEnt 0x3130 7 100).capture 4 (plainReport 0x05 (agentNo 4 0x15 0)))) := by
  rw [exec_tierEnable, execTierEnable, exec_tierEnableDone, execTierEnableDone, exec_tierDisable, execTierDisable,
    exec_tierDisableDone, execTierDisableDone, exec_cellarSparesExhausted, execCellarSparesExhausted]
  exact ⟨fun hon hst hpool huse => act_keeps rfl ((if_pos hon).trans (State.tierStart_of_good hst hpool huse)) ⟨rfl, rfl⟩ hs,
    fun hon hbad => act_stays rfl ((if_pos hon).trans (State.tierStart_of_bad hbad)) hs,
    fun hst => act_keeps rfl (State.tierReady_of_enabling hst) ⟨rfl, rfl⟩ hs,
    fun hon hst hmap => act_keeps rfl ((if_pos hon).trans (State.tierStop_of_free hst hmap)) ⟨rfl, rfl⟩ hs,
    fun hon hmap => act_stays rfl ((if_pos hon).trans (State.tierStop_of_mapped hmap)) hs,
    act_gives_of rfl rfl,
    fun h => act_keeps rfl (State.sparesOut_of_worn h) ⟨rfl, rfl⟩ hs,
    fun h hon => act_gives_of rfl (State.sparesOut_of_fresh h hon)⟩

/-- Settles O36: the tier range by the cases of its operations; the victim by induction over the frames it is chosen from,
and the pins that go by what each cleared frame leaves. -/
theorem tiers : Obligations.Tiers := by
  refine ⟨fun s hs => ?_, fun s hs => ?_⟩
  · obtain ⟨henable, hrefused, hready, hdisable, hmapped, hempty, hworn, hfresh⟩ := tier_range s hs
    refine ⟨henable, fun hon _ => hrefused hon, fun hst => ?_, hdisable, fun hon _ => hmapped hon, fun hst hfree => ?_,
      fun hst hnil hlater => ?_, ?_⟩
    · exact ⟨_, hready hst, State.ent_setEnt_same _ _ _ _, rfl, fun a => State.byte_tierFresh_of_in, rfl,
        fun a => State.byte_tierFresh_of_out⟩
    · obtain ⟨t, ht, -⟩ := State.tierEmpty_of_disabling hst hfree
      refine ⟨hempty, ?_⟩
      rw [ht]
      exact t.tierOff_disabled
    · obtain ⟨t, ht, htnil⟩ := State.tierEmpty_of_disabling hst (by simp [hnil])
      obtain ⟨hoff, hframes⟩ := t.tierOff_disabled
      rw [htnil hnil] at ht hoff hframes
      refine ⟨s.tierOff, ?_, hoff, hframes, rfl, rfl⟩
      rw [hempty, ht, State.rerun_of_none (s := s.tierOff) hlater]
      exact State.gives_quiet hs rfl
    · rintro t rfl
      exact ⟨hworn, hfresh⟩
  · refine ⟨fun t bad f ht hf hst hfree => ?_, fun h => ?_, fun h => ?_, fun n f hst hnow hm hv => ?_, fun hst hnow => ?_,
      fun n f hv => ?_, fun t f ht hf hst => ?_, fun hst h => ?_, fun h => ?_, fun f => ⟨fun h => if_pos h, fun h hm => ?_, fun h hm => ?_⟩,
      fun c hc hdue hrooms => ?_⟩
    · rw [exec_fillComplete, execFillComplete]
      exact act_gives_of (decide_eq_true ht) (congrArg State.rerun (State.fillDone_of_filling hf hst hfree))
    · rw [State.evictOn_watermarks, if_pos h]
    · rw [State.evictOn_watermarks, if_neg (by omega)]
    · rw [exec_victimSelect, execVictimSelect]
      obtain ⟨htile, hframe, hmarks, htodo, hpending, hregs, hcellar⟩ := s.watermarks.evicting_kept n f
      exact ⟨_, act_keeps rfl (State.selectVictim_of_some hst hnow hm hv) ⟨htodo, hpending⟩ hs, htile, hframe, hmarks, hregs, hcellar⟩
    · rw [exec_victimSelect, execVictimSelect]
      exact act_keeps rfl (State.selectVictim_of_idle hst hnow) ⟨rfl, rfl⟩ hs
    · obtain ⟨hok, hbest⟩ := State.victim_best hv
      obtain ⟨hst, hpin, hholds⟩ := State.of_victimOk hok
      exact ⟨hst, hpin, hholds, hbest⟩
    · rw [exec_evictionComplete, execEvictionComplete]
      split
      · next h => exact act_gives_of (decide_eq_true ht) (congrArg State.rerun (State.evictDone_of_held hf h))
      · exact act_gives_of (decide_eq_true ht) rfl
    · rw [exec_ageTick, execAgeTick]
      refine act_keeps rfl (State.tickAges_of_due hst h) ⟨?_, ?_⟩ hs
      · exact State.mapFrames_keeps State.todo (fun _ _ _ => rfl) _
      · exact State.mapFrames_keeps State.pending (fun _ _ _ => rfl) _
    · rw [exec_ageTick, execAgeTick]
      exact act_stays rfl (State.tickAges_of_early h) hs
    · exact (Frame.older_of_resident h).trans (if_pos hm)
    · exact (Frame.older_of_resident h).trans (if_neg (by simp [hm]))
    · rw [exec_contextPinClear, execContextPinClear]
      refine ⟨_, act_keeps (decide_eq_true hc) (State.clearPins_of_quiet hdue hrooms) ⟨?_, ?_⟩ hs, fun howed e he hpin hctx => ?_,
        fun n hn => State.frame_unpinned hn, ?_⟩
      · exact State.unpinned_keeps State.todo (fun _ _ _ => rfl) (fun _ _ => rfl) c
      · exact State.unpinned_keeps State.pending (fun _ _ _ => rfl) (fun _ _ => rfl) c
      · obtain ⟨hmem, hnot⟩ := State.mem_frames_unpinned he hpin
        obtain ⟨hframe, hin⟩ := howed e hmem hpin hctx
        exact hnot (List.mem_filter.2 ⟨hin, by simpa [hframe] using hctx⟩)
      · exact State.unpinned_keeps State.regs (fun _ _ _ => rfl) (fun _ _ => rfl) c

end Sys2Proof.Machine
end


section
/-! PROOFS. What the loss of a die leaves alone: whatever reads neither what the homes and caches change, the tier, the
Hatches, what waits, nor the outside. -/

namespace Sys2Proof.Machine

/-- What of a state no part of a die's loss changes, up to the reset of the die's own units. -/
structure LossFrame {γ : Type} (P : State → γ) : Prop extends HomeFrame P where
  tiers : ∀ (t : State) v, P { t with tier := v } = P t
  moved : ∀ (t : State) v, P { t with reads := v } = P t
  copies : ∀ (t : State) c r v, P { t with caches := c, rlines := r, resv := v } = P t
  away : ∀ (t : State) o l c, P { t with out := o, later := l, cores := c } = P t
  hatch : ∀ (t : State) v, P { t with hatches := v } = P t
  worn : ∀ t k v, k < 256 → P (State.setEnt t 0x3130 k v) = P t

namespace LossFrame

variable {γ : Type} {P : State → γ} (hP : LossFrame P) (s : State)
include hP

theorem setRlines (h : Nat) (l : List RLine) : P (s.setRlines h l) = P s := hP.copies s s.caches _ s.resv
theorem later (l : List Later) : P { s with later := l } = P s := hP.away s s.out l s.cores
theorem emit (o : Out) : P (s.emit o) = P s := hP.away s _ s.later s.cores
theorem answer (c : Nat) (a : CoreAnswer) : P (s.answer c a) = P s := hP.away s s.out s.later _

/-! ### Homes and agents -/

theorem dropLater (d : Nat) : P (s.dropLater d) = P s := by
  unfold State.dropLater
  dsimp only
  rw [each_keeps P, hP.later]
  intro x t
  split
  · exact hP.net _ _
  · exact (hP.answer _ _ _).trans (hP.capture _ _ _ (by decide))
  · exact hP.answer _ _ _
  · exact hP.emit _ _
  · rfl

theorem homes (x : Tab Txn) (y : List (Nat × HomeReq)) (z : List Msg) (ds : Tab DirEntry) :
    P { s with txns := x, lineQ := y, net := z, dirs := ds } = P s :=
  (hP.dirs { s with txns := x, lineQ := y, net := z } ds s.dirAge).trans (hP.flight s x y z)

theorem dropHomes (d : Nat) : P (s.dropHomes d) = P s := (hP.homes _ _ _ _ _).trans (hP.dropLater _ _)

theorem waiting (y : List (Nat × HomeReq)) (z : List Msg) (l : List Later) :
    P { s with net := z, lineQ := y, later := l } = P s :=
  (hP.later { s with net := z, lineQ := y } l).trans (hP.flight s s.txns y z)

theorem loseAgents (d : Nat) : P (s.loseAgents d) = P s := by
  unfold State.loseAgents
  dsimp only
  rw [each_keeps P _ fun e t => each_keeps P _ (fun a u => hP.answered u _ _ _ _) _ t]
  exact hP.waiting s _ _ _

theorem purgeAgents (d : Nat) : P (s.purgeAgents d) = P s := by
  unfold State.purgeAgents
  dsimp only
  rw [each_keeps P, hP.loseAgents]
  intro e t
  split
  · split
    · rw [hP.dirDrop, hP.writeLine]
    · rfl
  · split
    · exact hP.dirPut _ _ _
    · rfl

theorem dropCopies (d : Nat) : P (s.dropCopies d) = P s := hP.copies s _ _ _

theorem loseHatches (d : Nat) : P (s.loseHatches d) = P s := by
  unfold State.loseHatches
  refine each_keeps P _ (fun h t => ?_) _ s
  dsimp only
  split
  · rw [hP.setRegF]
    exact hP.hatch _ _
  · rfl

/-! ### Lines written back -/

theorem rlineBack (h line : Nat) (hh : ∀ t r, P (State.capture t (holderBreaker h) r) = P t) : P (s.rlineBack h line) = P s := by
  unfold State.rlineBack
  split
  · rfl
  · dsimp only
    rw [hP.unitWrite, hP.setRlines]
    exact hP.checkLine_of _ hh _ _ _ _ _

theorem flushLine (a line : Nat) (f : FlushAct) : P (s.flushLine a line f) = P s := by
  unfold State.flushLine
  split
  · rfl
  · next c _ =>
    split
    · rfl
    · extract_lets r t own u
      have hr : P r.2 = P s := by
        unfold r
        split
        · exact hP.readArrays _ _ _ _ _
        · rfl
      have ht : P t = P s := by
        unfold t
        split
        · exact (hP.writeLine _ _ _).trans hr
        · exact hr
      have hu : P u = P t := by
        unfold u
        split
        · split
          · exact (hP.dirDrop _ _).trans (hP.dropHeld _ _ _)
          · exact hP.dropHeld _ _ _
        · split
          · exact hP.setHeld _ _ _ _
          · rfl
      exact (hP.chargeWay _ _ _ _).trans (hu.trans ht)

theorem flushCache (a : Nat) (f : Nat → FlushAct) : P (s.flushCache a f) = P s :=
  each_keeps P _ (fun (e : Nat × CLine) t => hP.flushLine t a e.1 (f e.2.way)) _ s

theorem flushMerge (a n : Nat) : P (s.flushMerge a n) = P s := by
  unfold State.flushMerge
  split
  · exact each_keeps P _ (fun _ t => hP.mergeFlush t _ _) _ s
  · rfl

/-! ### Frames of the tier -/

theorem setQd (f : Nat) (m : BitVec 4) : P (s.setQd f m) = P s := hP.stack _ _ _

theorem tables (v : Tier) (m : List Host.Cell) : P { s with tier := v, mem := m } = P s :=
  (hP.words { s with tier := v } m s.code).trans (hP.tiers s v)

theorem setFrame (f : Nat) (v : Frame) : P (s.setFrame f v) = P s := hP.tables s _ _
theorem setTile (t : Nat) (st : TileState) (f : Nat) : P (s.setTile t st f) = P s := hP.tables s _ _
theorem freeFrame (f : Nat) : P (s.freeFrame f) = P s := hP.tables s _ _

theorem wearSpares : P s.wearSpares = P s := by
  unfold State.wearSpares
  dsimp only
  have hwear : ∀ v, P (s.drawFree.setEnt 0x3130 7 v) = P s := fun v => (hP.worn _ _ _ (by decide)).trans (hP.drawFree s)
  split
  · rw [hP.capture _ _ _ (by decide), hwear]
  · exact hwear _

theorem incWorn (k n : Nat) (hk : k < 256) : P (s.incEnt 0x3130 k n) = P s := by
  unfold State.incEnt
  split
  · exact hP.worn _ _ _ hk
  · rfl

theorem saveQuarter (t f q : Nat) (lost : Bool) : P (s.saveQuarter t f q lost) = P s := by
  unfold State.saveQuarter
  dsimp only
  rw [hP.wearSpares, hP.incWorn _ _ _ (by decide), hP.tiers, each_keeps P _ fun e u => hP.tiers u _, foldl_keeps_snd P]
  · split
    · rfl
    · exact hP.flushMerge _ _ _
  · intro acc i
    split
    · rfl
    · exact hP.readWord _ _ _

theorem beginFill (r : FillReq) (f : Nat) : P (s.beginFill r f) = P s := by
  unfold State.beginFill State.watermarks
  dsimp only
  rw [hP.tiers, hP.setTile, hP.setFrame]

theorem startFill (r : FillReq) : P (s.startFill r) = P s := by
  unfold State.startFill
  split
  · rfl
  · split
    · exact hP.beginFill _ _ _
    · exact hP.tiers _ _

theorem pumpFills (n : Nat) : P (s.pumpFills n) = P s := by
  induction n generalizing s with
  | zero => rfl
  | succ n ih =>
    unfold State.pumpFills
    split
    · rfl
    · split
      · rw [ih, hP.tiers]
      · split
        · rw [ih, hP.beginFill, hP.tiers]
        · rfl

theorem pump : P s.pump = P s := (hP.pumpFills _ _).trans (hP.tiers _ _)

theorem loseFrame (f : Nat) (fr : Frame) (mark : Bool) : P (s.loseFrame f fr mark) = P s := by
  have hsave : ∀ (c : Bool) (l : List Nat), P (if c then s else each l (fun q s => s.saveQuarter fr.tile f q true) s) = P s := by
    intro c l
    cases c
    · exact each_keeps P _ (fun q t => hP.saveQuarter t _ _ _ _) l s
    · rfl
  have hreport : ∀ (c : Prop) [Decidable c] (t : State) r, P (if c then t else t.capture 4 r) = P t := fun c _ t r => by
    split
    · rfl
    · exact hP.capture _ _ _ (by decide)
  have hgone : ∀ (t : State), P ((((t.unrefer fr.tile).setTile fr.tile .absent 0).freeFrame f).forgetTile fr.tile) = P t :=
    fun t => (hP.tiers _ _).trans ((hP.freeFrame _ _).trans ((hP.setTile _ _ _ _).trans (hP.tiers _ _)))
  have hagain : ∀ (c : Prop) [Decidable c] (t : State) r, P (if c then t.startFill r else t) = P t := fun c _ t r => by
    split
    · exact hP.startFill _ _
    · rfl
  unfold State.loseFrame
  dsimp only
  rw [hagain, hP.moved, hgone, hreport, hP.setQd, hsave]

theorem loseDieFrames (d : Nat) (mark : Bool) : P (s.loseDieFrames d mark) = P s :=
  (hP.pump _).trans (each_keeps P _ (fun _ t => hP.loseFrame t _ _ _) _ s)

end LossFrame

end Sys2Proof.Machine
end

section
/-! PROOFS. A layout write that writes back a reduce line can meet an uncorrectable directory entry of host memory, whose C4
action is a module reset (R418, R422). -/

namespace Sys2Proof.Machine

/-! ### What a module reset ends -/

/-- A module reset leaves what the cold module has, of whatever no entry is part of. -/
theorem State.moduleReset_keeps {γ : Type} (P : State → γ) (hent : ∀ t i k v, P (State.setEnt t i k v) = P t)
    (s : State) : ∃ u : State, P s.moduleReset = P (u.cold true) :=
  ⟨_, (hent _ _ _ _).trans ((each_keeps P _ (fun _ t => hent t _ _ _) _ _).trans (State.untrained_keeps _ P hent))⟩

theorem State.moduleReset_todo (s : State) : s.moduleReset.todo = [] := by
  obtain ⟨u, hu⟩ := s.moduleReset_keeps State.todo State.setEnt_todo
  exact hu

theorem State.moduleReset_layout (s : State) : s.moduleReset.mgmt.layout = false := by
  obtain ⟨u, hu⟩ := s.moduleReset_keeps (fun t => t.mgmt.layout) (fun _ _ _ _ => rfl)
  exact hu

/-- The action of a C4 report that does not shut the rails down ends in a module reset. -/
theorem State.classAction_of_c4 (s : State) (b : Nat) {r : Report} (h : srcClass r.src.toNat = 4) (hrail : r.src ≠ 0x40#8) :
    ∃ u : State, s.classAction (b, r) = u.moduleReset := by
  simp only [State.classAction, h, State.c4Action, if_neg hrail]
  exact ⟨_, rfl⟩

/-- A state that owes the action of one such report settles in a module reset. -/
theorem State.settle_of_c4 {s : State} {b : Nat} {r : Report} (htodo : s.todo = [(b, r)]) (h : srcClass r.src.toNat = 4)
    (hrail : r.src ≠ 0x40#8) : ∃ u : State, s.settle = u.moduleReset := by
  obtain ⟨u, hu⟩ := State.classAction_of_c4 { s with todo := [] } b h hrail
  have howed : s.todo ≠ [] := by simp [htodo]
  refine ⟨u, ?_⟩
  rw [State.settle, State.settleN, if_neg howed, htodo, List.foldl_cons, List.foldl_nil, hu, State.settleN,
    if_pos u.moduleReset_todo]

/-! ### The module that meets one -/

/-- The module after reset, with one reduce line of host memory and an uncorrectable error injected into the directory of its
home. -/
def directoryLost : State :=
  ({ State.reset with rlines := [(0, [⟨0x400000000, 0, ⟨0, 0⟩, [], 0⟩])] } : State).setReg (paBreaker 4 0x100) 0x92002A0000000001

/-- The layout write of 0 in that state owes the class action of the directory's C4 report, and no other. -/
theorem directoryLost_owes : (directoryLost.writeLayout 0).2.todo.map (fun x => x.2.src) = [0x41#8] := by decide +kernel

theorem directoryLost_settles : ∃ u : State, (directoryLost.writeLayout 0).2.settle = u.moduleReset := by
  obtain ⟨⟨b, r⟩, htodo, hsrc⟩ := List.map_eq_singleton_iff.1 directoryLost_owes
  have hsrc : r.src = 0x41#8 := hsrc
  exact State.settle_of_c4 htodo (by rw [hsrc]; decide) (by rw [hsrc]; decide)

/-- Refutes O4: the layout write of 0 in the state `directoryLost` writes its reduce line back to host memory, meets the
uncorrectable directory entry there, and is followed by the module reset of a C4 report (R422), after which no layout change
is in progress. -/
theorem not_roomsAndLayout : ¬ Obligations.RoomsAndLayout := by
  unfold Obligations.RoomsAndLayout
  rintro ⟨-, hlayout⟩
  obtain ⟨t, hnext, -, -, hbusy, -, -⟩ :=
    (hlayout directoryLost rfl).1 0 (by decide) (by decide) (by decide) (by decide)
  obtain ⟨u, hu⟩ := directoryLost_settles
  have hrun : exec (.layoutWrite 0) directoryLost =
      .next { (directoryLost.writeLayout 0).2.settle with pending := directoryLost.pending } := by
    rw [exec_layoutWrite, execLayoutWrite, act_true, if_pos (by decide)]
  rw [hrun, hu] at hnext
  injection hnext with ht
  subst ht
  exact absurd (hbusy.symm.trans u.moduleReset_layout) (by decide)

end Sys2Proof.Machine
end


section
/-! PROOFS. The resets of the Scullery, of dies, suites and the module (R25, R401, R405 to R407). -/

namespace Sys2Proof.Machine

/-! ### What a die keeps through its reset -/

/-- The records that die `d` retains, and whether its last reset was forced. -/
def State.dieKept (d : Nat) (s : State) : List (List (BitVec 64)) × Bool := ((s.die d).retained, (s.die d).forced)

theorem State.dieKept_of_dies {s t : State} (h : t.dies = s.dies) (d : Nat) : t.dieKept d = s.dieKept d := by
  simp only [dieKept, die, h]

/-- What a rewriting of all values leaves of a value, it leaves of each entry of the table. -/
theorem tget_map_congr {α γ : Type} (d : α) (t : Tab α) (g : α → α) (f : α → γ) (h : ∀ v, f (g v) = f v) (k : Nat) :
    f (tget d (t.map fun e => (e.1, g e.2)) k) = f (tget d t k) := by
  induction t with
  | nil => rfl
  | cons e t ih =>
    by_cases he : e.1 = k
    · simp only [List.map_cons, tget, if_pos he, h]
    · simp only [List.map_cons, tget, if_neg he, ih]

theorem State.dieKept_mapDies {s t : State} (g : Die → Die) (hg : ∀ v, (g v).retained = v.retained ∧ (g v).forced = v.forced)
    (h : t.dies = s.dies.map fun e => (e.1, g e.2)) (d : Nat) : t.dieKept d = s.dieKept d := by
  have hkept := tget_map_congr Die.reset s.dies g (fun v => (v.retained, v.forced)) (fun v => Prod.ext (hg v).1 (hg v).2) d
  simp only [dieKept, die, h]
  exact hkept

theorem lossFrame_dieKept (d : Nat) : LossFrame (State.dieKept d) where
  reg _ _ _ := rfl
  entry _ _ _ _ _ _ := rfl
  words _ _ _ := rfl
  cache _ _ _ := rfl
  stack _ _ _ := rfl
  dirs _ _ _ := rfl
  flight _ _ _ _ := rfl
  resv _ _ := rfl
  free _ _ := rfl
  capture t b r _ := State.dieKept_of_dies (t.capture_dies b r) d
  tiers _ _ := rfl
  moved _ _ := rfl
  copies _ _ _ _ := rfl
  away _ _ _ _ := rfl
  hatch _ _ := rfl
  worn _ _ _ _ := rfl

section
variable (s : State) (d : Nat)

theorem State.dieKept_setQf (w q o hi lo v : Nat) : (s.setQf w q o hi lo v).dieKept d = s.dieKept d :=
  State.dieKept_of_dies (s.setQf_dies w q o hi lo v) d

theorem State.dieKept_incEnt (i k n : Nat) : (s.incEnt i k n).dieKept d = s.dieKept d := by
  unfold incEnt
  split <;> rfl

theorem endFrame_dieKept : EndFrame (State.dieKept d) where
  room _ _ _ := rfl
  wing _ _ _ := rfl
  tier _ _ := rfl
  stalled t k n := t.dieKept_incEnt d _ k n
  late t := t.dieKept_incEnt d _ _ _

theorem State.dieKept_unwait (w id : Nat) : (s.unwait w id).dieKept d = s.dieKept d :=
  State.dieKept_mapDies (fun v => { v with walks := v.walks.filter fun k => !(k.wing = w && k.cmd = id) })
    (fun _ => ⟨rfl, rfl⟩) rfl d

theorem State.dieKept_stopCmd (w id : Nat) (st : BitVec 5) : (s.stopCmd w id st).dieKept d = s.dieKept d :=
  (endFrame_dieKept d).stopCmd s (fun t w id => t.dieKept_unwait d w id) w id st

theorem State.dieKept_killContext (c : Nat) (st : BitVec 5) : (s.killContext c st).dieKept d = s.dieKept d := by
  by_cases hact : s.ctxState c = 1
  · obtain ⟨ran, hkill⟩ := State.killContext_of_active st hact
    have hends : ∀ t : State, (t.endsOf c st).dieKept d = t.dieKept d := fun t =>
      (each_keeps (State.dieKept d) (fun (x : Nat × Nat) u => u.disableQueue x) (fun _ u => u.dieKept_setQf d _ _ _ _ _ _) _ _).trans
        (each_keeps (State.dieKept d) (fun (x : Nat × Nat) u => u.stopCmd x.1 x.2 st)
          (fun x u => u.dieKept_stopCmd d x.1 x.2 st) _ t)
    have hforget : ∀ t : State, (t.forgetCtx c).dieKept d = t.dieKept d := fun t =>
      State.dieKept_mapDies (fun v => { v with walks := v.walks.filter (fun k => k.ctx ≠ c), walkc := v.walkc.filter (fun k => k.1 ≠ c) })
        (fun _ => ⟨rfl, rfl⟩) rfl d
    calc (s.killContext c st).dieKept d
        = ((each ran (fun r s => s.shelfClear r.1) ((((s.setCtxState c 2).owePins c).endsOf c st).forgetCtx c)).dropPort c).dieKept d :=
          congrArg (State.dieKept d) hkill
      _ = ((((s.setCtxState c 2).owePins c).endsOf c st).forgetCtx c).dieKept d :=
          State.shelfClear_keeps _ (State.dieKept d) (fun _ _ _ => rfl) ran
      _ = ((s.setCtxState c 2).owePins c).dieKept d := (hforget _).trans (hends _)
      _ = s.dieKept d := s.setCtxState_keeps (State.dieKept d) (fun _ _ _ => rfl) c 2
  · rw [killContext, if_pos hact]

theorem State.dieKept_killDieCmds (e : Nat) : (s.killDieCmds e).dieKept d = s.dieKept d := by
  unfold killDieCmds
  refine each_keeps (State.dieKept d) _ (fun x t => ?_) _ s
  exact each_keeps (State.dieKept d) _ (fun c u => u.dieKept_stopCmd d x.1 c.id stKILLED) x.2.cmds t

/-! ### Records of a die's commands -/

theorem State.dieKept_rlineBack (h line : Nat) : (s.rlineBack h line).dieKept d = s.dieKept d :=
  (lossFrame_dieKept d).rlineBack s h line fun t r => State.dieKept_of_dies (t.capture_dies _ r) d

theorem State.dieKept_wingStore (w : Nat) (who : Who) (a : Nat) (bs : Bytes) :
    (s.wingStore w who a bs).dieKept d = s.dieKept d := by
  have hyield : (each (linesOf a bs.length) (fun line s => s.rlineYield w line) s).dieKept d = s.dieKept d :=
    each_keeps (State.dieKept d) _ (fun line t =>
      each_keeps (State.dieKept d) _ (fun h u => u.dieKept_rlineBack d h line) (holdersOf w) t) _ s
  refine (each_keeps (State.dieKept d) _ (fun line t => ?_) _ _).trans hyield
  exact (lossFrame_dieKept d).unitWrite t _ _ _ _ _

@[simp] theorem State.msi_dies (src pa v : Nat) : (s.msi src pa v).dies = s.dies :=
  s.msi_keeps State.dies (fun _ _ => rfl) (fun _ _ => rfl) (fun _ _ _ => rfl) src pa v

@[simp] theorem State.nextSlot_dies (w q : Nat) : (s.nextSlot w q).dies = s.dies := by
  unfold nextSlot
  dsimp only
  split
  · exact s.setQf_dies _ _ _ _ _ _
  · rw [setQf_dies, setWing_dies]

@[simp] theorem State.leaveFlight_dies (w : Nat) (c : Cmd) (st : BitVec 5) : (s.leaveFlight w c st).dies = s.dies := by
  unfold leaveFlight
  extract_lets v cmds bad loose loose' t₁ room t₂ t₃ t₄ t₅
  have h₁ : t₁.dies = s.dies := s.setWing_dies _ _
  have h₂ : t₂.dies = t₁.dies := by
    unfold t₂
    split
    · split
      · rfl
      · exact t₁.setRoom_dies _ _
    · rfl
  have h₃ : t₃.dies = t₂.dies := rfl
  have h₄ : t₄.dies = t₃.dies := by
    unfold t₄
    split
    · exact t₃.incEnt_dies _ _ _
    · rfl
  have h₅ : t₅.dies = t₄.dies := t₄.setQf_dies _ _ _ _ _ _
  have hflight : t₅.dies = s.dies := (h₅.trans h₄).trans ((h₃.trans h₂).trans h₁)
  split
  · rw [msi_dies, setQf_dies, hflight]
  · exact hflight

theorem State.dieKept_writeRecord (w : Nat) (c : Cmd) (st : BitVec 5) : (s.writeRecord w c st).dieKept d = s.dieKept d := by
  have henergy : (s.recordEnergy c).2.dieKept d = s.dieKept d := by
    unfold recordEnergy
    split <;> rfl
  unfold writeRecord
  dsimp only
  rw [State.dieKept_of_dies (State.leaveFlight_dies _ _ _ _) d]
  split
  · rw [State.dieKept_of_dies (State.msi_dies _ _ _ _) d, State.dieKept_of_dies (State.nextSlot_dies _ _ _) d,
      dieKept_wingStore, dieKept_wingStore, henergy]
  · rw [State.dieKept_of_dies (State.nextSlot_dies _ _ _) d, dieKept_wingStore, dieKept_wingStore, henergy]

theorem State.dieKept_recordOrDrop (w : Nat) (c : Cmd) (st : BitVec 5) :
    (State.recordOrDrop w c st s).dieKept d = s.dieKept d := by
  unfold recordOrDrop
  split
  · exact s.dieKept_writeRecord d w c st
  · exact State.dieKept_of_dies ((State.leaveFlight_dies _ _ _ _).trans (s.nextSlot_dies _ _)) d

theorem State.dieKept_flushRecords (w n : Nat) : (s.flushRecords w (State.recordOrDrop w) n).dieKept d = s.dieKept d := by
  induction n generalizing s with
  | zero => rfl
  | succ n ih =>
    unfold flushRecords
    split
    · rfl
    · rw [ih, dieKept_recordOrDrop]

/-! ### A die's reset up to the reset of its units -/

theorem State.fenceHalls_keeps {γ : Type} (P : State → γ) (h : ∀ t n v, P (State.setHall t n v) = P t) :
    P (s.fenceHalls d) = P s := by
  refine each_keeps P _ (fun n t => ?_) _ s
  split
  · rfl
  · exact h _ _ _

theorem State.dieKept_dieWritesBack (e : Nat) : (s.dieWritesBack e).dieKept d = s.dieKept d := by
  unfold dieWritesBack
  dsimp only
  rw [each_keeps (State.dieKept d)]
  · exact each_keeps (State.dieKept d) _ (fun (x : Nat × List RLine) t =>
      each_keeps (State.dieKept d) _ (fun (r : RLine) u => u.dieKept_rlineBack d x.1 r.line) x.2 t) _ s
  · intro w t
    exact ((lossFrame_dieKept d).drainLanding _ w).trans ((lossFrame_dieKept d).flushCache t w _)

/-- A forced reset of a running die resets its units last; until then the die keeps its retained records. -/
theorem State.forcedReset_of_up (h : s.dieState d = 0) :
    ∃ u : State, s.forcedReset d = u.clearDie d true ∧ u.dieKept d = s.dieKept d := by
  have hF := lossFrame_dieKept d
  have hflush : ∀ (l : List (Nat × Wing)) (t : State), (each l (fun e s =>
      s.flushRecords e.1 (State.recordOrDrop e.1) e.2.cmds.length) t).dieKept d = t.dieKept d := fun l t =>
    each_keeps (State.dieKept d) _ (fun e u => u.dieKept_flushRecords d e.1 _) l t
  have hkill : ∀ (l : List Nat) (t : State), (each l (fun c s => s.killContext c stKILLED) t).dieKept d = t.dieKept d :=
    fun l t => each_keeps (State.dieKept d) _ (fun c u => u.dieKept_killContext d c _) l t
  unfold forcedReset
  rw [if_neg (by simp [h])]
  refine ⟨_, rfl, ?_⟩
  rw [hF.loseDieFrames, hF.loseHatches, hF.dropCopies, hF.purgeAgents, hF.dropHomes, hflush, dieKept_killDieCmds, hkill,
    hF.capture _ _ _ (by decide), State.fenceHalls_keeps _ d (State.dieKept d) fun _ _ _ => rfl]
  rfl

/-- An orderly drain resets a die's units last; until then the die keeps its retained records. -/
theorem State.drainDie_eq : ∃ u : State, s.drainDie d = u.clearDie d false ∧ u.dieKept d = s.dieKept d := by
  have hF := lossFrame_dieKept d
  have hback : ∀ (p : Nat × List RLine → RLine → Bool) (t : State), (each s.rlines (fun e s =>
      each (e.2.filter fun r => p e r) (fun r s => s.rlineBack e.1 r.line) s) t).dieKept d = t.dieKept d := fun p t =>
    each_keeps (State.dieKept d) _ (fun (x : Nat × List RLine) u =>
      each_keeps (State.dieKept d) _ (fun (r : RLine) v => v.dieKept_rlineBack d x.1 r.line) _ u) s.rlines t
  have hrecall : ∀ t : State, (each [0, 1, 2] (fun i s => s.recall ((3 * d + i + 1) * 2 ^ 36) (2 ^ 36) true) t).dieKept d =
      t.dieKept d := fun t => each_keeps (State.dieKept d) _ (fun i u => hF.recallLines u _ _ _) _ t
  have hmerge : ∀ t : State, (each [0, 1, 2] (fun i s => s.flushMerge ((3 * d + i + 1) * 2 ^ 36) (2 ^ 36)) t).dieKept d =
      t.dieKept d := fun t => each_keeps (State.dieKept d) _ (fun i u => hF.flushMerge u _ _) _ t
  refine ⟨_, rfl, ?_⟩
  have hent : ∀ t : State, (t.setEnt 0x1100 (0x12 + 0x10 * d) 1).dieKept d = t.dieKept d := fun _ => rfl
  rw [hF.loseDieFrames, hent, hF.loseHatches, hF.dropCopies, hF.purgeAgents, hF.dropHomes,
    State.fenceHalls_keeps _ d (State.dieKept d) fun _ _ _ => rfl, hmerge, dieKept_dieWritesBack, hrecall]
  exact hback (fun _ r => lineOnDie d r.line) s

end

/-! ### The reset of a die's units -/

/-- The units of die `d` reset, with what the die keeps. -/
def State.clearUnits (s : State) (d : Nat) (forced : Bool) : State :=
  let v := s.die d
  ({ s with
    rooms := s.rooms.filter fun e => decide (e.1 / 64 ≠ d)
    wings := s.wings.filter fun e => decide (e.1 / 8 ≠ d)
    caches := s.caches.filter fun e => decide (32 ≤ e.1) || decide (e.1 / 8 ≠ d)
    rlines := s.rlines.filter fun e => decide (32 + d ≠ e.1) && (decide (32 ≤ e.1) || decide (e.1 / 8 ≠ d))
    modes := s.modes.filter fun e => decide ((if e.1 < 32 then e.1 / 8 else (e.1 - 32) / 64) ≠ d)
    regs := s.regs.filter fun e => decide (0x40000000 ≤ e.1) || decide (e.1 / 0x10000000 ≠ d)
    backlog := tdel s.backlog d } : State).setDie d { Die.reset with forced := v.forced || forced, lossAt := v.lossAt, beatAt := v.beatAt, retained := v.retained, skip := v.skip, coolAt := v.coolAt, mildAt := v.mildAt, critAt := v.critAt, stopped := v.stopped }

/-- The stacks of die `d` reset, and what its registers and the dictionary show of the die. -/
def State.clearShown (s : State) (d : Nat) : State :=
  let s := each [0, 1, 2] (fun i s =>
    let j := 3 * d + i
    let k := s.stack j
    let s := s.setStack j { Stack.reset with coolAt := k.coolAt, mildAt := k.mildAt, critAt := k.critAt, repairs := k.repairs, undefined := k.undefined }
    ((s.setEnt 0x3016 (j + 1) 0).setEnt 0x3017 (j + 1) 0).showStack j) s
  let s := each [0, 1, 2, 3, 4, 5, 6, 7] (fun w s => s.setEnt (0x5230 + d) (w + 1) 0) s
  s.setEnt 0x1100 (0x12 + 0x10 * d) 1

/-- The units of die `d` are not counted in its suite's epoch any more. -/
def State.uncount (s : State) (d : Nat) : State :=
  let i := s.suiteOfDie d
  let p := s.epoch i
  (s.setEpoch i { p with acked := p.acked.filter fun u => unitDie u ≠ d }).recountEpoch i

section
variable (s : State) (d : Nat)

theorem State.clearDie_eq (forced : Bool) : s.clearDie d forced = ((s.clearUnits d forced).clearShown d).uncount d := rfl

theorem State.recountEpoch_keeps {γ : Type} (P : State → γ) (i : Nat)
    (h : ∀ t k v, k < 256 → P (State.setEp t i k v) = P t) : P (s.recountEpoch i) = P s := by
  unfold recountEpoch
  dsimp only
  split
  · rfl
  · rw [h _ _ _ (by decide), h _ _ _ (by decide)]
  · rw [h _ _ _ (by decide)]
  · split
    · rw [h _ _ _ (by decide), h _ _ _ (by decide), h _ _ _ (by decide), h _ _ _ (by decide), h _ _ _ (by decide),
        h _ _ _ (by decide)]
    · rw [h _ _ _ (by decide), h _ _ _ (by decide)]

theorem State.clearShown_keeps {γ : Type} (P : State → γ) (hent : ∀ t i k v, P (State.setEnt t i k v) = P t)
    (hstack : ∀ t j v, P (State.setStack t j v) = P t) (hreg : ∀ t pa v, P (State.setReg t pa v) = P t) :
    P (s.clearShown d) = P s := by
  have hshow : ∀ (t : State) j, P (t.showStack j) = P t := fun t j =>
    (hreg _ _ _).trans ((hreg _ _ _).trans ((hreg _ _ _).trans (hreg _ _ _)))
  refine (hent _ _ _ _).trans ((each_keeps P _ (fun _ t => hent t _ _ _) _ _).trans (each_keeps P _ (fun i t => ?_) _ s))
  exact (hshow _ _).trans ((hent _ _ _ _).trans ((hent _ _ _ _).trans (hstack _ _ _)))

theorem State.uncount_keeps {γ : Type} (P : State → γ) (hent : ∀ t i k v, P (State.setEnt t i k v) = P t)
    (hepoch : ∀ t i v, P (State.setEpoch t i v) = P t) : P (s.uncount d) = P s :=
  (State.recountEpoch_keeps _ P _ fun _ _ _ _ => hent _ _ _ _).trans (hepoch _ _ _)

theorem State.clearDie_keeps {γ : Type} (P : State → γ) (hent : ∀ t i k v, P (State.setEnt t i k v) = P t)
    (hstack : ∀ t j v, P (State.setStack t j v) = P t) (hreg : ∀ t pa v, P (State.setReg t pa v) = P t)
    (hepoch : ∀ t i v, P (State.setEpoch t i v) = P t) (forced : Bool) : P (s.clearDie d forced) = P (s.clearUnits d forced) :=
  (State.uncount_keeps _ d P hent hepoch).trans (State.clearShown_keeps _ d P hent hstack hreg)

/-- Nothing of an entry below those of the epochs changes as units are uncounted. -/
theorem State.ent_uncount {j k : Nat} (hj : j < 0x8030) (hk : k < 256) : (s.uncount d).ent j k = s.ent j k := by
  refine (State.recountEpoch_keeps _ (fun t => State.ent t j k) _ fun t l v hl => ?_).trans rfl
  exact t.ent_setEnt_ne _ _ _ _ _ (dictKey_ne _ _ _ _ hl hk (by omega))

theorem State.dieState_clearDie (forced : Bool) (hd : d < 4) : (s.clearDie d forced).dieState d = 1 :=
  (State.ent_uncount _ d (by decide) (by omega)).trans (State.ent_setEnt_same _ _ _ _)

/-- A die whose units are reset keeps its retained records, and that a reset was forced. -/
theorem State.die_clearDie (forced : Bool) : (s.clearDie d forced).dieKept d = ((s.die d).retained, (s.die d).forced || forced) := by
  refine (s.clearDie_keeps d (State.dieKept d) (fun _ _ _ _ => rfl) (fun _ _ _ => rfl) (fun _ _ _ => rfl) (fun _ _ _ => rfl)
    forced).trans ?_
  rw [dieKept, clearUnits, State.die_setDie, if_pos rfl]

theorem State.wing_clearDie (forced : Bool) {w : Nat} (hw : w / 8 = d) : (s.clearDie d forced).wing w = Wing.reset := by
  have hwings : (s.clearDie d forced).wings = (s.clearUnits d forced).wings :=
    s.clearDie_keeps d State.wings (fun _ _ _ _ => rfl) (fun _ _ _ => rfl) (fun _ _ _ => rfl) (fun _ _ _ => rfl) forced
  rw [wing, hwings]
  exact tget_filter_out Wing.reset s.wings w (fun w => decide (w / 8 ≠ d)) (by simp [hw])

theorem State.room_clearDie (forced : Bool) {g : Nat} (hg : g / 64 = d) : (s.clearDie d forced).room g = Room.reset := by
  have hrooms : (s.clearDie d forced).rooms = (s.clearUnits d forced).rooms :=
    s.clearDie_keeps d State.rooms (fun _ _ _ _ => rfl) (fun _ _ _ => rfl) (fun _ _ _ => rfl) (fun _ _ _ => rfl) forced
  rw [room, hrooms]
  exact tget_filter_out Room.reset s.rooms g (fun g => decide (g / 64 ≠ d)) (by simp [hg])

/-- No unit of the die has acknowledged its suite's epoch. -/
theorem State.acked_clearDie (forced : Bool) :
    (((s.clearDie d forced).epoch ((s.clearDie d forced).suiteOfDie d)).acked.all fun u => unitDie u ≠ d) = true := by
  rw [clearDie_eq]
  generalize (s.clearUnits d forced).clearShown d = t
  have hsuite : (t.uncount d).suiteOfDie d = t.suiteOfDie d := by
    unfold suiteOfDie layout
    rw [t.ent_uncount d (by decide) (by decide)]
  have hepoch : (t.uncount d).epoch (t.suiteOfDie d) = { t.epoch (t.suiteOfDie d) with
      acked := (t.epoch (t.suiteOfDie d)).acked.filter fun u => unitDie u ≠ d } := by
    refine (State.recountEpoch_keeps _ (fun u => u.epoch (t.suiteOfDie d)) _ fun _ _ _ _ => rfl).trans ?_
    rw [State.epoch_setEpoch, if_pos rfl]
  rw [hsuite, hepoch]
  simp

end

/-! ### The module's reset (R406) -/

section
variable (s : State)

theorem State.status_moduleReset : s.moduleReset.status = 0 := State.ent_setEnt_same _ _ _ _

theorem State.boot_moduleReset : s.moduleReset.porch.boot = .rails := by
  obtain ⟨u, hu⟩ := s.moduleReset_keeps (fun t => t.porch.boot) (fun _ _ _ _ => rfl)
  exact hu

/-- The stacks' contents are carried over. -/
theorem State.carried_moduleReset {j : Nat} (hj : j < 12) : s.moduleReset.ent 0x3019 (j + 1) = 1 := by
  refine (State.ent_setEnt_ne _ _ _ _ _ _ (dictKey_ne _ _ _ _ (by decide) (by omega) (by omega))).trans ?_
  refine each_establishes (fun _ => True) (fun t : State => t.ent 0x3019 (j + 1) = 1) _ (List.mem_range.2 hj)
    (fun _ _ _ _ => trivial) (fun t _ => t.ent_setEnt_same _ _ _) (fun k hk t _ ht => ?_) trivial
  by_cases hkj : k = j
  · rw [hkj]
    exact t.ent_setEnt_same _ _ _
  · have hk := List.mem_range.1 hk
    exact (t.ent_setEnt_ne _ _ _ _ _ (dictKey_ne _ _ _ _ (by omega) (by omega) (by omega))).trans ht

theorem State.dieState_untrained {d : Nat} (hd : d < 4) : s.untrained.dieState d = 1 := by
  have hmem : d ∈ [0, 1, 2, 3] := by simp; omega
  refine (each_keeps_of_mem (fun t : State => t.dieState d) _ (fun n hn t => ?_) _).trans ?_
  · have hn : n < 8 := by simp at hn; omega
    exact t.ent_setEnt_ne _ _ _ _ _ (dictKey_ne _ _ _ _ (by decide) (by omega) (by omega))
  · refine each_establishes (fun _ => True) (fun t : State => t.dieState d = 1)
      (fun e t => State.setEnt t 0x1100 (0x12 + 0x10 * e) 1) hmem
      (fun _ _ _ _ => trivial) (fun t _ => t.ent_setEnt_same _ _ _) (fun e he t _ ht => ?_) trivial
    by_cases hde : e = d
    · rw [hde]
      exact t.ent_setEnt_same _ _ _
    · have he : e < 4 := by simp at he; omega
      exact (t.ent_setEnt_ne _ _ _ _ _ (dictKey_ne _ _ _ _ (by omega) (by omega) (by omega))).trans ht

theorem State.dieState_moduleReset {d : Nat} (hd : d < 4) : s.moduleReset.dieState d = 1 := by
  refine (State.ent_setEnt_ne _ _ _ _ _ _ (dictKey_ne _ _ _ _ (by decide) (by omega) (by omega))).trans ?_
  refine (each_keeps_of_mem (fun t : State => t.dieState d) _ (fun j hj t => ?_) _).trans (State.dieState_untrained _ hd)
  have hj := List.mem_range.1 hj
  exact t.ent_setEnt_ne _ _ _ _ _ (dictKey_ne _ _ _ _ (by omega) (by omega) (by omega))

/-! ### The watchdog (R401) -/

theorem State.freeSculleryBoxes_keeps {γ : Type} (P : State → γ) (h : ∀ (t : State) r, P { t with regs := r } = P t) :
    P s.freeSculleryBoxes = P s := by
  refine each_keeps P _ (fun m t => ?_) _ s
  split
  · exact h _ _
  · rfl

/-- What of a state a restart of the Scullery leaves. -/
theorem State.sculleryRestart_keeps {γ : Type} (P : State → γ) (hregs : ∀ (t : State) r, P { t with regs := r } = P t)
    (hinc : ∀ t i k n, P (State.incEnt t i k n) = P t) (hdie : ∀ t d v, P (State.setDie t d v) = P t)
    (hctl : ∀ t v, P (State.setCtl t v) = P t) (hmgmt : ∀ (t : State) v, P { t with mgmt := v } = P t) :
    P s.sculleryRestart = P s := by
  refine (hmgmt _ _).trans ((hctl _ _).trans ?_)
  refine (State.meterDuty_keeps P (fun t d x a => hdie t d _) _).trans ?_
  exact (hinc _ _ _ _).trans (s.freeSculleryBoxes_keeps P hregs)

theorem State.watchdog_of_first {s : State} (hfw : s.firmware = true)
    (hold : s.porch.restarts.filter (fun t => decide (s.house ≤ t + 10000000000)) = [])
    (himage : Config.sha512 s.porch.image = s.porch.m1) :
    s.watchdog = (s.setPorch { s.porch with restarts := [s.house] }).sculleryRestart := by
  unfold watchdog
  rw [if_neg (by simp [hfw])]
  dsimp only
  rw [hold]
  exact if_neg fun h => h.elim (fun hlen => by simp at hlen) fun hne => hne himage

theorem State.askSuiteDrain_of_idle {s : State} {i : Nat} (hi : i < suiteCount s.layout)
    (hidle : ∀ d ∈ suiteDies s.layout i, s.dieInUse d = false) : (s.askSuiteDrain i).1 = .ok := by
  unfold askSuiteDrain
  rw [if_neg (by omega), if_neg]
  simpa using hidle

theorem State.askSuiteDrain_of_busy {s : State} {i : Nat} (hi : i < suiteCount s.layout)
    (hbusy : ∃ d ∈ suiteDies s.layout i, s.dieInUse d = true) : s.askSuiteDrain i = (.notQuiescent, s) := by
  unfold askSuiteDrain
  rw [if_neg (by omega), if_pos (List.any_eq_true.2 hbusy)]

end

theorem State.on_of_firmware {s : State} (h : s.firmware = true) : s.on = true := (Bool.and_eq_true_iff.1 h).1

/-- Settles O3: the commands are the resets of the model as they stand; both resets of a die end in the reset of its units
(`forcedReset_of_up`, `drainDie_eq`), and no part before that touches what the die retains. -/
theorem resets : Obligations.Resets := by
  refine ⟨fun s hfw => ?_, fun s d hd hup => ?_, fun s d hd => ?_, fun s d hd hup t ht => ?_, fun s => ?_⟩
  · refine ⟨fun hold himage hs => ?_, ?_, fun d hd => ?_, fun d hd hidle hup => ?_, fun d hd hbusy => ?_, fun i hi hlt => ?_,
      fun i hi hlt hidle => ?_, fun i hlt hbusy => State.askSuiteDrain_of_busy hlt hbusy, State.rerun_of_none⟩
    · rw [exec_watchdogExpiry, execWatchdogExpiry]
      have hkeep : ∀ {γ : Type} (P : State → γ), (∀ (t : State) r, P { t with regs := r } = P t) →
          (∀ t i k n, P (State.incEnt t i k n) = P t) → (∀ t d v, P (State.setDie t d v) = P t) →
          (∀ t v, P (State.setCtl t v) = P t) → (∀ (t : State) v, P { t with mgmt := v } = P t) →
          P (s.setPorch { s.porch with restarts := [s.house] }).sculleryRestart =
            P (s.setPorch { s.porch with restarts := [s.house] }) := fun P => State.sculleryRestart_keeps _ P
      refine ⟨_, act_keeps rfl (State.watchdog_of_first hfw hold himage) ⟨?_, ?_⟩ hs, rfl, ?_, rfl, ?_⟩
      · exact hkeep State.todo (fun _ _ => rfl) State.incEnt_todo (fun _ _ _ => rfl) (fun _ _ => rfl) fun _ _ => rfl
      · exact hkeep State.pending (fun _ _ => rfl) State.incEnt_pending (fun _ _ _ => rfl) (fun _ _ => rfl) fun _ _ => rfl
      · exact hkeep (fun t => t.porch.restarts) (fun _ _ => rfl) (fun t i k n => by rw [State.incEnt_porch])
          (fun _ _ _ => rfl) (fun _ _ => rfl) fun _ _ => rfl
      · exact hkeep State.mem (fun _ _ => rfl) State.incEnt_mem (fun _ _ _ => rfl) (fun _ _ => rfl) fun _ _ => rfl
    · rw [exec_moduleReset, execModuleReset]
      exact act_gives_of rfl (if_pos (State.on_of_firmware hfw))
    · refine ⟨?_, ?_, ?_⟩
      · rw [exec_dieReset, execDieReset]
        exact act_gives_of (decide_eq_true hd) (by rw [if_pos hfw])
      · rw [exec_clockLoss, execClockLoss]
        exact act_gives_of (decide_eq_true hd) (by rw [if_pos hfw])
      · unfold State.clockLoss
        rw [State.die_setDie, if_pos rfl]
    · rw [exec_dieDrain, execDieDrain]
      refine act_gives_of (decide_eq_true hd) ?_
      rw [if_pos hfw, State.askDrain, if_neg (by simp [hidle]), if_pos hup]
    · rw [exec_dieDrain, execDieDrain]
      refine act_gives_of (decide_eq_true hd) ?_
      rw [if_pos hfw, State.askDrain, if_pos hbusy]
    · rw [exec_suiteReset, execSuiteReset]
      refine act_gives_of (decide_eq_true hi) ?_
      rw [if_pos hfw, State.askSuiteReset, if_neg (by omega)]
    · rw [exec_suiteDrain, execSuiteDrain]
      exact ⟨act_gives_of (decide_eq_true hi) (by rw [if_pos hfw]), State.askSuiteDrain_of_idle hlt hidle⟩
  · obtain ⟨u, hu, -⟩ := s.forcedReset_of_up d hup
    have hforced := congrArg Prod.snd (u.die_clearDie d true)
    rw [hu]
    exact ⟨u.dieState_clearDie d true hd, hforced.trans (Bool.or_true _)⟩
  · obtain ⟨u, hu, hkept⟩ := s.drainDie_eq d
    have hforced := congrArg Prod.snd (u.die_clearDie d false)
    rw [hu]
    exact ⟨u.dieState_clearDie d false hd, (hforced.trans (Bool.or_false _)).trans (congrArg Prod.snd hkept)⟩
  · have hcleared : ∃ u forced, t = State.clearDie u d forced ∧ u.dieKept d = s.dieKept d := by
      obtain rfl | ht := List.mem_cons.1 ht
      · obtain ⟨u, hu⟩ := s.forcedReset_of_up d hup
        exact ⟨u, true, hu⟩
      · obtain rfl := List.mem_singleton.1 ht
        obtain ⟨u, hu⟩ := s.drainDie_eq d
        exact ⟨u, false, hu⟩
    obtain ⟨u, forced, rfl, hkept⟩ := hcleared
    refine ⟨fun w hw => u.wing_clearDie d forced hw, fun g hg => u.room_clearDie d forced hg, ?_, u.acked_clearDie d forced⟩
    exact (congrArg Prod.fst (u.die_clearDie d forced)).trans (congrArg Prod.fst hkept)
  · exact ⟨s.status_moduleReset, s.boot_moduleReset, fun j hj => s.carried_moduleReset hj, fun d hd => s.dieState_moduleReset hd⟩

end Sys2Proof.Machine
end


section
/-! PROOFS. Hallways lose and regain training; link loss and its log (R15, R301 to R307). -/

namespace Sys2Proof.Machine

/-! ### Hallways (R15, R302) -/

section
variable {s : State}

theorem State.hall_setHall (s : State) (n v : Nat) : (s.setHall n v).hall n = v := s.ent_setEnt_same _ _ _

theorem State.ent_setHall_ne (s : State) {n v j k : Nat} (hk : k < 256) (h : ¬ (j = 0x5200 + n ∧ k = 1)) :
    (s.setHall n v).ent j k = s.ent j k :=
  s.ent_setEnt_ne _ _ _ _ _ (dictKey_ne _ _ _ _ (by decide) hk h)

theorem lt_of_mem_hallEnds {n d : Nat} (hn : ringHall n = true) (h : d ∈ hallEnds n) : d < 4 := by
  have hlt : ∀ n ∈ [4, 5, 6, 7], ∀ d ∈ hallEnds n, d < 4 := by decide
  refine hlt n ?_ d h
  simp only [ringHall, Bool.and_eq_true, decide_eq_true_eq] at hn
  simp only [List.mem_cons, List.not_mem_nil, or_false]
  omega

theorem lt_of_ringHall {n : Nat} (h : ringHall n = true) : n < 8 := by
  simp only [ringHall, Bool.and_eq_true, decide_eq_true_eq] at h
  exact h.2

theorem hallBreaker_lt {n : Nat} (h : n < 8) : hallBreaker n < 5 := by
  have hlt : ∀ n < 8, hallBreaker n < 5 := by decide
  exact hlt n h

/-- An entry of a hallway is no Breaker's. -/
theorem not_breakerKey_hall (n : Nat) {k : Nat} (hk : k < 256) :
    ¬ BreakerKey (dictKey (0x5200 + n) k) ∧ dictKey (0x5200 + n) k ≠ dictKey 0x4420 5 := by
  unfold BreakerKey dictKey
  omega

theorem State.ent_hall_capture (s : State) {b : Nat} (hb : b < 5) (r : Report) (n : Nat) {k : Nat} (hk : k < 256) :
    (s.capture b r).ent (0x5200 + n) k = s.ent (0x5200 + n) k :=
  s.capture_ent hb r _ _ (not_breakerKey_hall n hk).1 (not_breakerKey_hall n hk).2

/-- The number of retrains of a hallway is a counter of 32 bits. -/
theorem State.ent_incRetrain (s : State) {n : Nat} (h : n < 8) :
    (s.incEnt (0x5200 + n) 2 1).ent (0x5200 + n) 2 = (s.ent (0x5200 + n) 2 + 1) % 2 ^ 32 := by
  have hrow : ∀ n < 8, (dictEntry (0x5200 + n) 2).map (fun r => r.ty.top) = some (2 ^ 32 - 1) := by decide
  obtain ⟨r, hr, htop⟩ := Option.map_eq_some_iff.1 (hrow n h)
  unfold incEnt
  rw [hr]
  exact (s.ent_setEnt_same _ _ _).trans (by rw [htop, Nat.sub_add_cancel Nat.one_le_two_pow])

theorem State.hallLoses_of_up {n : Nat} (hon : s.on = true) (h : s.hall n = 2) :
    s.hallLoses n = (s.setHall n 1).setEnt (0x5200 + n) 4 s.house := if_neg (by simp [hon, h])

theorem State.hallReturns_of_training {n : Nat} (hon : s.on = true) (h : s.hall n = 1) : s.hallReturns n =
    ((s.setHall n 2).incEnt (0x5200 + n) 2 1).capture (hallBreaker n) (plainReport 0x04 (agentNo (hallBreaker n) 0x0C n)) :=
  if_neg (by simp [hon, h])

theorem State.hall_hallReturns {n : Nat} (hon : s.on = true) (hn : n < 8) (h : s.hall n = 1) : (s.hallReturns n).hall n = 2 ∧
    (s.hallReturns n).ent (0x5200 + n) 2 = (s.ent (0x5200 + n) 2 + 1) % 2 ^ 32 := by
  rw [State.hallReturns_of_training hon h]
  refine ⟨?_, ?_⟩
  · refine (State.ent_hall_capture _ (hallBreaker_lt hn) _ n (by decide)).trans ?_
    refine (State.incEnt_ent_ne _ _ (dictKey_ne _ _ _ _ (by decide) (by decide) (by omega))).trans ?_
    exact s.hall_setHall n 2
  · rw [State.ent_hall_capture _ (hallBreaker_lt hn) _ n (by decide), State.ent_incRetrain _ hn,
      s.ent_setHall_ne (by decide) (by omega)]

theorem State.hall_ringDown {n : Nat} (hon : s.on = true) (hn : ringHall n = true) (h : s.hall n = 1) :
    (s.ringDown n).hall n = 0 := by
  unfold ringDown
  rw [if_neg (by simp [hon, h])]
  dsimp only
  refine (each_keeps_of_mem (fun t : State => t.hall n) _ (fun d hd t => ?_) _).trans ?_
  · exact t.ent_hall_capture (Nat.lt_trans (lt_of_mem_hallEnds hn hd) (by decide)) _ n (by decide)
  · have hacted : ∀ t : State, (t.levelActed n).hall n = t.hall n := fun _ => rfl
    rw [hacted, State.hall_setHall]

/-- A ring hallway that has stayed down is down still when the hallways of a die are fenced. -/
theorem State.hall_fenceHalls_of_failed (n d : Nat) (h : s.ringFailed n = true) : (s.fenceHalls d).hall n = 0 := by
  have hkept : (s.fenceHalls d).ringFailed n = true := by
    refine each_inv_of_mem (fun t : State => t.ringFailed n = true) _ (fun m _ t ht => ?_) h
    split
    · exact ht
    · next hm =>
      have hne : n ≠ m := fun hnm => hm (hnm ▸ ht)
      have hent : ∀ k, k < 256 → (t.setHall m 3).ent (0x5200 + n) k = t.ent (0x5200 + n) k := fun k hk =>
        t.ent_setHall_ne hk (by omega)
      have hsame : (t.setHall m 3).ringFailed n = t.ringFailed n := by
        unfold ringFailed hall
        rw [hent 1 (by decide), hent 4 (by decide)]
      exact hsame.trans ht
  simp only [ringFailed, Bool.and_eq_true, decide_eq_true_eq] at hkept
  obtain ⟨⟨-, hdown⟩, -⟩ := hkept
  exact hdown

/-! ### The heartbeat (R301) -/

/-- The heartbeat on one host hallway. -/
def State.beat (d : Nat) (s : State) : State :=
  let s := s.emit (.hallBeat d)
  if s.hall d = 2 then s.setDie d { s.die d with beatAt := s.house } else s

theorem State.heartbeat_of_on (h : s.on = true) : s.heartbeat = each [0, 1, 2, 3] State.beat s := if_neg (by simp [h])

theorem State.beat_eq (s : State) (d : Nat) : s.beat d = s.emit (.hallBeat d) ∧ s.hall d ≠ 2 ∨
    s.beat d = (s.emit (.hallBeat d)).setDie d { s.die d with beatAt := s.house } ∧ s.hall d = 2 := by
  by_cases h : s.hall d = 2
  · exact .inr ⟨if_pos h, h⟩
  · exact .inl ⟨if_neg h, h⟩

theorem State.heartbeat_keeps {γ : Type} (P : State → γ) (hemit : ∀ t o, P (State.emit t o) = P t)
    (hdie : ∀ t d v, P (State.setDie t d v) = P t) (l : List Nat) : P (each l State.beat s) = P s :=
  each_keeps P _ (fun d t => by
    obtain ⟨h, -⟩ | ⟨h, -⟩ := t.beat_eq d
    · rw [h, hemit]
    · rw [h, hdie, hemit]) l s

theorem State.heartbeat_sent {d : Nat} (hd : d < 4) : Out.hallBeat d ∈ (each [0, 1, 2, 3] State.beat s).out := by
  have hout : ∀ (t : State) e, (t.beat e).out = Out.hallBeat e :: t.out := fun t e => by
    obtain ⟨h, -⟩ | ⟨h, -⟩ := t.beat_eq e <;> rw [h] <;> rfl
  refine each_establishes (fun _ => True) (fun t : State => Out.hallBeat d ∈ t.out) _ (x := d) (by simp; omega)
    (fun _ _ _ _ => trivial) (fun t _ => ?_) (fun e _ t _ ht => ?_) trivial
  · rw [hout]
    exact List.mem_cons_self
  · rw [hout]
    exact List.mem_cons_of_mem _ ht

theorem State.heartbeat_heard {d : Nat} (hd : d < 4) (h : s.hall d = 2) :
    ((each [0, 1, 2, 3] State.beat s).die d).beatAt = s.house := by
  refine each_establishes (fun t : State => t.hall d = 2 ∧ t.house = s.house) (fun t : State => (t.die d).beatAt = s.house) _
    (x := d) (by simp; omega) (fun e _ t ht => ?_) (fun t ht => ?_) (fun e _ t ht hbeat => ?_) ⟨h, rfl⟩
  · obtain ⟨he, -⟩ | ⟨he, -⟩ := t.beat_eq e <;> rw [he] <;> exact ht
  · obtain ⟨-, hno⟩ | ⟨he, -⟩ := t.beat_eq d
    · exact absurd ht.1 hno
    · rw [he, State.die_setDie, if_pos rfl]
      exact ht.2
  · obtain ⟨he, -⟩ | ⟨he, -⟩ := t.beat_eq e
    · rw [he]
      exact hbeat
    · rw [he, State.die_setDie]
      split
      · exact ht.2
      · exact hbeat

end

/-! ### Link loss (R303) -/

/-- An entry outside those of the homes, the Breakers, the events and the Cellar is as before the parts of a die's loss. -/
theorem lossFrame_ent {j k : Nat} (hhome : homeEntry j = false) (hbreaker : ¬ BreakerKey (dictKey j k)) (hevent : j ≠ 0x4420)
    (hcellar : j ≠ 0x3130) (hk : k < 256) : LossFrame (fun s : State => s.ent j k) where
  reg t pa v := t.setReg_ent pa v j k
  entry t i l v hi hl := t.ent_setEnt_ne _ _ _ _ _ (dictKey_ne _ _ _ _ hl hk fun h => by simp [h.1, hi] at hhome)
  words _ _ _ := rfl
  cache _ _ _ := rfl
  stack _ _ _ := rfl
  dirs _ _ _ := rfl
  flight _ _ _ _ := rfl
  resv _ _ := rfl
  free _ _ := rfl
  capture t b r hb := t.capture_ent hb r _ _ hbreaker (dictKey_ne _ _ _ _ (by decide) hk fun h => hevent h.1)
  tiers _ _ := rfl
  moved _ _ := rfl
  copies _ _ _ _ := rfl
  away _ _ _ _ := rfl
  hatch _ _ := rfl
  worn t l v hl := t.ent_setEnt_ne _ _ _ _ _ (dictKey_ne _ _ _ _ hl hk fun h => hcellar h.1)

/-- The stacks of die `d` are carried over. -/
def State.carried (s : State) (d : Nat) : State := each [0, 1, 2] (fun i s => s.setEnt 0x3019 (3 * d + i + 1) 1) s

/-- The last part of a link loss of die `d`: its stacks are carried over, its units reset, and it stays FENCED. -/
def State.linkLost (s : State) (d : Nat) : State :=
  let s := ((s.carried d).clearDie d false).setEnt 0x1100 (0x12 + 0x10 * d) 2
  s.setDie d { s.die d with lossAt := some s.house }

section
variable (s : State) {d : Nat}

theorem State.ent_clearShown {j k : Nat} (hd : d < 4) (hk : k < 256) (hj : j ∉ [0x3016, 0x3017, 0x5230 + d, 0x1100]) :
    (s.clearShown d).ent j k = s.ent j k := by
  simp only [List.mem_cons, List.not_mem_nil, or_false, not_or] at hj
  obtain ⟨h3016, h3017, h5230, h1100⟩ := hj
  refine (State.ent_setEnt_ne _ _ _ _ _ _ (dictKey_ne _ _ _ _ (by omega) hk fun h => h1100 h.1)).trans ?_
  refine (each_keeps_of_mem (fun t : State => t.ent j k) _ (fun w hw t => ?_) _).trans ?_
  · have hw : w < 8 := by simp at hw; omega
    exact t.ent_setEnt_ne _ _ _ _ _ (dictKey_ne _ _ _ _ (by omega) hk fun h => h5230 h.1)
  · refine each_keeps_of_mem (fun t : State => t.ent j k) _ (fun i hi t => ?_) s
    have hi : i < 3 := by simp at hi; omega
    unfold showStack
    dsimp only
    rw [State.setRegF_ent, State.setRegF_ent, State.setRegF_ent, State.setRegF_ent,
      State.ent_setEnt_ne _ _ _ _ _ _ (dictKey_ne _ _ _ _ (by omega) hk fun h => h3017 h.1),
      State.ent_setEnt_ne _ _ _ _ _ _ (dictKey_ne _ _ _ _ (by omega) hk fun h => h3016 h.1)]
    rfl

theorem State.ent_clearDie {j k : Nat} (hd : d < 4) (hk : k < 256) (hj : j ∉ [0x3016, 0x3017, 0x5230 + d, 0x1100])
    (hepoch : j < 0x8030) (forced : Bool) : (s.clearDie d forced).ent j k = s.ent j k := by
  rw [State.clearDie_eq, State.ent_uncount _ d hepoch hk, State.ent_clearShown _ hd hk hj]
  rfl

/-- A link loss of a running die ends in its last part, in a state where its host hallway is down. -/
theorem State.linkLoss_of_up (cause : Nat) (hd : d < 4) (h : s.dieState d = 0) :
    ∃ u : State, s.linkLoss d cause = u.linkLost d ∧ u.hall d = 0 := by
  have hF : LossFrame (fun t : State => t.hall d) :=
    lossFrame_ent (by simp [homeEntry]; omega) (not_breakerKey_hall d (by decide)).1 (by omega) (by omega) (by decide)
  unfold linkLoss
  rw [if_neg (by simp [h])]
  refine ⟨_, rfl, ?_⟩
  rw [hF.loseDieFrames, hF.loseHatches, hF.dropCopies, hF.purgeAgents, hF.dropHomes, hF.capture _ _ _ (by decide)]
  exact State.hall_setHall _ d 0

theorem State.linkLost_shown (hd : d < 4) : (s.linkLost d).dieState d = 2 ∧ (s.linkLost d).hall d = s.hall d ∧
    ∀ i, i < 3 → (s.linkLost d).ent 0x3019 (3 * d + i + 1) = 1 := by
  have hkept : ∀ j k, k < 256 → j ∉ [0x3016, 0x3017, 0x5230 + d, 0x1100] → j < 0x8030 →
      (s.linkLost d).ent j k = (s.carried d).ent j k := fun j k hk hj hepoch => by
    refine (State.ent_setEnt_ne _ _ _ _ _ _ (dictKey_ne _ _ _ _ (by omega) hk fun h => ?_)).trans
      (State.ent_clearDie _ hd hk hj hepoch false)
    simp [h.1] at hj
  refine ⟨State.ent_setEnt_same _ _ _ _, ?_, fun i hi => ?_⟩
  · refine (hkept _ _ (by decide) (by simp; omega) (by omega)).trans ?_
    exact each_keeps_of_mem (fun t : State => t.hall d) _ (fun i hi t => t.ent_setEnt_ne _ _ _ _ _
      (dictKey_ne _ _ _ _ (by simp at hi; omega) (by decide) (by omega))) s
  · refine (hkept _ _ (by omega) (by simp; omega) (by decide)).trans ?_
    refine each_establishes (fun _ => True) (fun t : State => t.ent 0x3019 (3 * d + i + 1) = 1)
      (fun e t => State.setEnt t 0x3019 (3 * d + e + 1) 1) (x := i) (by simp; omega)
      (fun _ _ _ _ => trivial) (fun t _ => t.ent_setEnt_same _ _ _) (fun e he t _ ht => ?_) trivial
    by_cases hei : e = i
    · rw [hei]
      exact t.ent_setEnt_same _ _ _
    · have he : e < 3 := by simp at he; omega
      exact (t.ent_setEnt_ne _ _ _ _ _ (dictKey_ne _ _ _ _ (by omega) (by omega) (by omega))).trans ht

end

/-! ### A link returns (R304, R306) -/

section
variable {s : State} {d : Nat}

theorem State.logEntries_of_fits {l : List (List (BitVec 64))} (h : s.porch.log.length + l.length ≤ 16896) :
    s.logEntries l = { s with porch := { s.porch with log := s.porch.log ++ l } } := by
  unfold logEntries
  dsimp only
  rw [if_pos (by omega), List.take_of_length_le (by omega)]

theorem State.linkBack_of_fits (hon : s.on = true) (hloss : (s.die d).lossAt.isSome = true) (hreset : s.dieState d = 1)
    (h : s.porch.log.length + (s.die d).retained.length ≤ 16896) : s.linkBack d =
    (({ s with porch := { s.porch with log := s.porch.log ++ (s.die d).retained } } : State).setHall d 2).setDie d
      { s.die d with retained := [], lossAt := none, notice := false, beatAt := s.house } := by
  unfold linkBack
  dsimp only
  rw [if_neg (by simp [hon, hreset, Option.isSome_iff_ne_none.1 hloss]), State.logEntries_of_fits h]
  rfl

end

/-- Settles O5: each event of a hallway is its own case; a link loss resets the die's units last (`linkLoss_of_up`), and no
part after the hallway went down touches its state (`lossFrame_ent`). -/
theorem hallwaysAndLinks : Obligations.HallwaysAndLinks := by
  refine ⟨fun s hs hon => ?_, fun s d hs hon hd => ?_⟩
  · refine ⟨fun n hn h => ?_, fun d hd h => ?_, fun n hn _ => ?_, fun d hd _ => ?_, fun n hn h => State.hall_hallReturns hon hn h,
      fun n hn h => ⟨?_, State.hall_ringDown hon hn h⟩, fun n hn h => ⟨?_, State.hall_setHall _ _ _⟩,
      fun n d h => State.hall_fenceHalls_of_failed n d h, ?_⟩
    · rw [exec_ringHallTrainingLoss, execRingHallTrainingLoss]
      exact act_keeps hn (State.hallLoses_of_up hon h) ⟨rfl, rfl⟩ hs
    · rw [exec_hostHallTrainingLoss, execHostHallTrainingLoss]
      exact act_keeps (decide_eq_true hd) (State.hallLoses_of_up hon h) ⟨rfl, rfl⟩ hs
    · rw [exec_ringHallRetrainDone, execRingHallRetrainDone]
      exact act_gives_of hn rfl
    · rw [exec_hostHallRetrainDone, execHostHallRetrainDone]
      exact act_gives_of (decide_eq_true hd) rfl
    · rw [exec_ringHallDown, execRingHallDown]
      exact act_gives_of hn rfl
    · rw [exec_ringHallUp, execRingHallUp]
      exact act_gives_of hn (by rw [if_pos (by simp [hon, h])])
    · rw [exec_hallHeartbeat, execHallHeartbeat]
      refine ⟨_, act_keeps rfl (State.heartbeat_of_on hon) ⟨?_, ?_⟩ hs, fun d hd => ⟨State.heartbeat_sent hd,
        State.heartbeat_heard hd⟩, ?_, ?_⟩
      · exact State.heartbeat_keeps State.todo (fun _ _ => rfl) (fun _ _ _ => rfl) _
      · exact State.heartbeat_keeps State.pending (fun _ _ => rfl) (fun _ _ _ => rfl) _
      · exact State.heartbeat_keeps State.mem (fun _ _ => rfl) (fun _ _ _ => rfl) _
      · exact State.heartbeat_keeps State.od (fun _ _ => rfl) (fun _ _ _ => rfl) _
  · have hok : decide (d < 4) = true := decide_eq_true hd
    refine ⟨fun h => ?_, fun h => ?_, fun h => ?_, fun h => ?_, fun hloss h => ?_, fun hloss hreset hfits => ?_, fun j hj hup => ?_,
      fun hfw => ?_⟩
    · rw [exec_linkLossDeclare, execLinkLossDeclare]
      exact act_gives_of hok (congrArg State.rerun ((if_neg (by simp [hon])).trans ((if_pos rfl).trans (if_pos h))))
    · rw [exec_linkLossDeclare, execLinkLossDeclare]
      exact act_gives_of hok (congrArg State.rerun
        ((if_neg (by simp [hon])).trans ((if_neg (by decide)).trans ((if_pos rfl).trans (if_pos h)))))
    · rw [exec_linkLossDeclare, execLinkLossDeclare]
      exact act_gives_of hok (congrArg State.rerun
        ((if_neg (by simp [hon])).trans ((if_neg (by decide)).trans ((if_neg (by decide)).trans ((if_pos rfl).trans (if_pos h))))))
    · obtain ⟨u, hu, hhall⟩ := s.linkLoss_of_up 0 hd h
      obtain ⟨hstate, hkept, hcarried⟩ := u.linkLost_shown hd
      rw [hu]
      exact ⟨hstate, hkept.trans hhall, hcarried⟩
    · rw [exec_dieSelfResetDone, execDieSelfResetDone]
      exact act_keeps hok (if_pos (by simp [hloss, h])) ⟨rfl, rfl⟩ hs
    · rw [exec_linkReturn, execLinkReturn]
      refine ⟨act_gives_of hok rfl, ?_⟩
      rw [State.linkBack_of_fits hon hloss hreset hfits, State.die_setDie, if_pos rfl]
      exact ⟨rfl, rfl, rfl, State.hall_setHall _ d 2, rfl⟩
    · rw [exec_stackAdopt, execStackAdopt]
      refine act_keeps (decide_eq_true hj) ?_ ⟨rfl, rfl⟩ hs
      rw [State.adopt, if_pos hup]
    · rw [exec_logClear, execLogClear]
      exact act_keeps rfl (if_pos hfw) ⟨rfl, rfl⟩ hs

end Sys2Proof.Machine
end
